-- ==== Sys2Proof/Word.lean ====
section
/-! DEFINITION. The plainest types: bytes, byte strings, sparse tables, and the type, access and role codes of the
parameter dictionary (R5, R6). -/

namespace Sys2Proof

/-- One byte of memory or of a frame. -/
abbrev Byte := BitVec 8

/-- A byte string, the byte at offset 0 first. -/
abbrev Bytes := List Byte

/-- A table with a default: key and value pairs, the keys strictly rising, no value equal to the default. -/
abbrev Sparse (α : Type) := List (Nat × α)

/-- R5: the dictionary types. `str` and `oct` are the long types STR(n) and OCT(n). -/
inductive DType where
  | bool | u8 | u16 | u32 | u64 | i8 | i16 | i32 | i64 | f32 | f64 | t96 | str | oct
  deriving DecidableEq, Repr

/-- R5: the access codes. -/
inductive Access where
  | ro | rw | wo | w1c
  deriving DecidableEq, Repr

/-- R6, R7: the role an access code names. `pavilion` is the owning Pavilion (x = P). -/
inductive Role where
  | viewer | operator | engineer | owner | safety | pavilion
  deriving DecidableEq, Repr

/-- R44: the path a dictionary request arrives on: the local window of a Pavilion, the SDO server of a CAN controller,
a DAP session, or the optical service port. -/
inductive Path where
  | window (p : Nat)
  | sdo (c : Nat)
  | dap (n : Nat)
  | optical
  deriving DecidableEq, Repr

/-- R364, R369: a CAN frame: format bits, identifier, DLC as received, and data. -/
structure CanFrame where
  ide : Bool := false
  fdf : Bool := false
  brs : Bool := false
  esi : Bool := false
  rtr : Bool := false
  id : Nat := 0
  dlc : Nat := 0
  data : Bytes := []
  deriving DecidableEq, Repr

end Sys2Proof
end

