-- ==== Sys2Proof/Syntax.lean ====
section
/-! DEFINITION. The commands the module takes: one constructor for each row of the spec's table, with the operands
the row's rule gives it. An Arbour instruction names the logical lane that executes it (R145) and carries its decoded
operand fields (R117). A dictionary command names the path it arrives on (R44). A command that reports a happening
(a frame, a measurement, a fault) carries what was received or measured. -/

namespace Sys2Proof

/-- R112: the operand spaces. -/
inductive Space where
  | i | q | m | l | t | c | d | k
  deriving DecidableEq, Repr

/-- R119: the operand of the ALU group: memory (W), a general register or the other accumulator (R), or an
immediate, with or without extension word (I). -/
inductive AluOp where
  | mem (sp : Space) (off : BitVec 18)
  | reg (gb : BitVec 4)
  | other
  | imm (x : Bool) (v : BitVec 32)
  deriving DecidableEq, Repr

/-- R119: the operand of the float group. -/
inductive FOp where
  | reg (gb : BitVec 4)
  | other
  deriving DecidableEq, Repr

/-- R28, R195: a request that arrives at a fabric resource: account (0 to 255 a Pavilion, 256 SYSTEM), class
(0 A, 1 B, 2 C, 3 checkpoint engine), address, direction, bytes and the row of the table of R28 (R528). -/
structure FabArrival where
  account : Nat
  cls : Nat
  addr : Nat
  write : Bool
  bytes : Nat
  master : Nat
  deriving DecidableEq, Repr

/-- R482: what a DAP client certificate says, and whether each of its tests holds: key and chain, not in the CRL,
validity times, the ordered role named if any, SAFETY, and the Pavilion it is scoped to. -/
structure Cert where
  chainOk : Bool
  revoked : Bool
  notBeforeOk : Bool
  notAfterOk : Bool
  role : Option Role
  safety : Bool
  scope : Option Nat
  deriving DecidableEq, Repr

/-- The commands. -/
inductive Instr where

  /-- CLASS_BOUNDARY, R19. TB0 reaches a class boundary: the scan number increments and the boundary steps of R19 begin. -/
  | classBoundary (x : Nat)
  /-- INPUT_FREEZE, R16. At t_s the class partition of staging is copied to the frozen input copy in one operation. -/
  | inputFreeze (x : Nat)
  /-- OUTPUT_COMMIT, R17. At t_c the output points of Pavilions whose task executed END are copied to the committed copy and driven. -/
  | outputCommit (x : Nat)
  /-- FRAME_BUILD, R98. A remote output frame is built at t_c minus its path offset minus 2 µs and placed in its launch-time queue. -/
  | frameBuild (st : Nat)
  /-- LAUNCH_TIME_REACHED, R346. A queued frame becomes eligible at its launch time and starts when its gate allows. -/
  | launchTimeReached (n : Nat)
  /-- LAUNCH_LATE_DROP, R346. A frame that has not begun by launch time plus LATE_TOL is dropped and reported. -/
  | launchLateDrop (n : Nat)
  /-- CLASS_A_WINDOW_START, R76. At a Class A window start the lane leaves any Class B or C task and the Class A task is dispatched. -/
  | classAWindowStart (p : Nat)
  /-- CLASS_A_WINDOW_END, R81. A Class A task that has not executed END at its window end is cut as overrun WINDOW. -/
  | classAWindowEnd (p : Nat)
  /-- CLASS_B_READY, R77. Class B tasks of a lane become ready at Class B t_s plus 2 µs and run in order. -/
  | classBReady (l : Nat)
  /-- CLASS_C_DISPATCH, R77. Class C tasks become ready at the Class C t_s. -/
  | classCDispatch (l : Nat)
  /-- TASK_TIME_BUDGET_EXPIRY, R81. A Class B or C task that has held the lane for its time budget is cut as TIME_BUDGET. -/
  | taskTimeBudgetExpiry (p : Nat) (x : Nat)
  /-- TASK_DEADLINE, R81. A Class B or C task without END at its class t_c is cut as DEADLINE. -/
  | taskDeadline (p : Nat) (x : Nat)
  /-- LANE_UNGATE, R460. The scan engine ungates a gated lane 100 ns before the end of the reported gap. -/
  | laneUngate (l : Nat)
  /-- FABRIC_ACCESS, R195. A resource at level 2 or 3 chooses and serves one request under the class and ledger order. -/
  | fabricAccess (r : Nat) (arrivals : List FabArrival) (err : Nat) (syn : Nat) (ovf : Bool)
  /-- LEDGER_ROUND_END, R196. At the end of each 1,024-cycle ledger round every account is credited or capped. -/
  | ledgerRoundEnd
  /-- ROUTER_TAKE_EVENT, R32. The router takes a pending event, stamps TB3, assigns a sequence number and delivers it to its destinations. -/
  | routerTakeEvent
  /-- EVENT_RATE_WINDOW, R33. A new RATE_CAP window begins at each whole second of TB4. -/
  | eventRateWindow
  /-- EVENT_CONFIG_WRITE, R529. A write to an event configuration entry, checked against the extra roles and fixed bits. -/
  | eventConfigWrite (src : Path) (n : Nat) (v : Nat)
  /-- EVENT_CHANNEL_POP, R36. A 4-byte store to POP removes the oldest entry of the Pavilion event channel. -/
  | eventChannelPop (p : Nat)
  /-- EVENT_OVERFLOW_CLEAR, R36. A 4-byte store with bit 0 set to OVERFLOW clears the overflow flag. -/
  | eventOverflowClear (p : Nat) (v : Nat)
  /-- DICT_WRITE, R45. A write to a dictionary entry without a row of its own, checked in the order of R45 and applied. -/
  | dictWrite (src : Path) (idx : Nat) (sub : Nat) (v : Bytes)
  /-- DICTSTORE_COMMIT, R48. A journalled persistent value is committed to DICTSTORE within 1 s. -/
  | dictstoreCommit (key : Nat)
  /-- DICT_SECTION_RESTORE, R50. A write of a section number restores every persistent entry of that section to its default. -/
  | dictSectionRestore (src : Path) (v : Nat)
  /-- COMM_ERROR_FIELD_CLEAR, R38. A write of 0 to subindex 0 of COMM.C.ERROR_FIELD clears the stored EMCY codes. -/
  | commErrorFieldClear (src : Path) (c : Nat) (v : Nat)
  /-- DAP_HANDSHAKE, R60. A DTLS handshake opens a DAP session, or is refused at the session limit or on failed authentication. -/
  | dapHandshake (peer : Bytes) (cert : Cert)
  /-- DAP_READ, R530. A READ frame returns the requested items with their values in request order. -/
  | dapRead (n : Nat) (f : Bytes)
  /-- DAP_WRITE, R45. A WRITE frame applies its items in order and independently. -/
  | dapWrite (n : Nat) (f : Bytes)
  /-- DAP_WRITE_ATOMIC, R530. A WRITE_ATOMIC frame checks every item and applies all or none. -/
  | dapWriteAtomic (n : Nat) (f : Bytes)
  /-- DAP_READ_SEG, R531. A READ_SEG frame returns up to 1,024 bytes of a value from an offset. -/
  | dapReadSeg (n : Nat) (f : Bytes)
  /-- DAP_WRITE_SEG, R531. A WRITE_SEG segment opens or continues a sequence and applies the value at LAST. -/
  | dapWriteSeg (n : Nat) (f : Bytes)
  /-- DAP_SUBSCRIBE, R62. A SUBSCRIBE frame replaces the session's event ranges. -/
  | dapSubscribe (n : Nat) (f : Bytes)
  /-- DAP_EVENT_PUSH, R62. The server sends a queued event push to a session between its responses. -/
  | dapEventPush (n : Nat)
  /-- DAP_KEEPALIVE, R60. A KEEPALIVE frame is answered empty and keeps the session open. -/
  | dapKeepalive (n : Nat) (f : Bytes)
  /-- DAP_DESCRIBE, R530. A DESCRIBE frame returns a 16-byte descriptor for each item. -/
  | dapDescribe (n : Nat) (f : Bytes)
  /-- DAP_CLOSE, R60. A CLOSE frame ends the session. -/
  | dapClose (n : Nat) (f : Bytes)
  /-- DAP_IDLE_TIMEOUT, R60. A session without a frame for the idle timeout is closed. -/
  | dapIdleTimeout (n : Nat)
  /-- DAP_SEG_SEQUENCE_TIMEOUT, R531. An open WRITE_SEG sequence idle for the session idle timeout is discarded. -/
  | dapSegSequenceTimeout (n : Nat)
  /-- DAP_TOKEN_REFILL, R60. The session token bucket refills at DAP.RATE up to BURST. -/
  | dapTokenRefill (n : Nat)
  /-- DAP_DISABLE, R60. A write of 0 to DICT.DAP.ENABLE closes every session and silences the DAP port. -/
  | dapDisable (src : Path) (v : Nat)
  /-- SDO_UPLOAD, R56. An SDO upload request on a controller starts an expedited or segmented read. -/
  | sdoUpload (c : Nat) (f : Bytes)
  /-- SDO_DOWNLOAD, R56. An SDO download request on a controller starts an expedited or segmented write. -/
  | sdoDownload (c : Nat) (f : Bytes)
  /-- SDO_SEGMENT, R56. An SDO segment of a segmented transfer is served. -/
  | sdoSegment (c : Nat) (f : Bytes)
  /-- SDO_BLOCK_UPLOAD, R56. An SDO block upload is served with blocks of 1–127 segments and CRC. -/
  | sdoBlockUpload (c : Nat) (f : Bytes)
  /-- SDO_BLOCK_DOWNLOAD, R56. An SDO block download is served with blocks of 1–127 segments and CRC. -/
  | sdoBlockDownload (c : Nat) (f : Bytes)
  /-- SDO_IDLE_TIMEOUT, R56. A segmented or block transfer idle for 1,000 ms is aborted. -/
  | sdoIdleTimeout (c : Nat)
  /-- SCAN_REALIGN, R69. A write of 1 to SCAN.REALIGN sets STEP_SUM to 0. -/
  | scanRealign (src : Path) (v : Nat)
  /-- CHG_REQUEST, R103. A coordinated change request is evaluated and recorded PENDING, LATE or REFUSED. -/
  | chgRequest (src : Path) (v : Bytes)
  /-- CHG_CANCEL, R105. A write of a CHANGE_ID cancels a PENDING coordinated change. -/
  | chgCancel (src : Path) (v : Nat)
  /-- RIO_INPUT_FRAME, R96. A remote input frame completes reception and is written into staging or discarded. -/
  | rioInputFrame (f : Bytes)
  /-- PAV_STOP_HOLD_EXPIRY, R86. The hold of a stopped Pavilion's outputs runs out and its points take their safe states. -/
  | pavStopHoldExpiry (p : Nat)
  /-- REMOTE_HOLD_EXPIRY, R86. RIO.HOLD runs out for a stopped Pavilion's remote points, which are then sent with VALID 0. -/
  | remoteHoldExpiry (p : Nat)
  /-- PAV_HOLD_LIMIT_EXPIRY, R87. The HOLD output limit runs out and the Pavilion's outputs take their safe states. -/
  | pavHoldLimitExpiry (p : Nat)
  /-- DEBUG_HALT, R175. A debugger breakpoint or halt request puts a Pavilion in HOLD, or is refused. -/
  | debugHalt (p : Nat)
  /-- DEBUG_RESUME, R88. A debugger resume continues the halted task in its next window or dispatch. -/
  | debugResume (p : Nat)
  /-- DEBUG_SINGLE_STEP, R88. A debugger single step executes one instruction of the halted task. -/
  | debugSingleStep (p : Nat)
  /-- DEBUG_SESSION_LOSS, R85. Loss of the debug session sends a Pavilion in HOLD to STOP. -/
  | debugSessionLoss (p : Nat)
  /-- NOP, R119. Does nothing. -/
  | arbNop (l : Nat)
  /-- LD, R120. Loads a bit into ACC. -/
  | arbLd (l : Nat) (sp : Space) (off : BitVec 18) (b : BitVec 3)
  /-- LDN, R120. Loads the inverse of a bit into ACC. -/
  | arbLdn (l : Nat) (sp : Space) (off : BitVec 18) (b : BitVec 3)
  /-- AND, R120. ANDs a bit into ACC. -/
  | arbAnd (l : Nat) (sp : Space) (off : BitVec 18) (b : BitVec 3)
  /-- ANDN, R120. ANDs the inverse of a bit into ACC. -/
  | arbAndn (l : Nat) (sp : Space) (off : BitVec 18) (b : BitVec 3)
  /-- OR, R120. ORs a bit into ACC. -/
  | arbOr (l : Nat) (sp : Space) (off : BitVec 18) (b : BitVec 3)
  /-- ORN, R120. ORs the inverse of a bit into ACC. -/
  | arbOrn (l : Nat) (sp : Space) (off : BitVec 18) (b : BitVec 3)
  /-- XOR, R120. XORs a bit into ACC. -/
  | arbXor (l : Nat) (sp : Space) (off : BitVec 18) (b : BitVec 3)
  /-- XORN, R120. XORs the inverse of a bit into ACC. -/
  | arbXorn (l : Nat) (sp : Space) (off : BitVec 18) (b : BitVec 3)
  /-- ST, R114. Stores ACC to a bit as an atomic bit write. -/
  | arbSt (l : Nat) (sp : Space) (off : BitVec 18) (b : BitVec 3)
  /-- STN, R114. Stores the inverse of ACC to a bit. -/
  | arbStn (l : Nat) (sp : Space) (off : BitVec 18) (b : BitVec 3)
  /-- SET, R114. Sets a bit when ACC is 1. -/
  | arbSet (l : Nat) (sp : Space) (off : BitVec 18) (b : BitVec 3)
  /-- RST, R114. Clears a bit when ACC is 1. -/
  | arbRst (l : Nat) (sp : Space) (off : BitVec 18) (b : BitVec 3)
  /-- EDGP, R122. Detects a rising edge with a memory bit. -/
  | arbEdgp (l : Nat) (sp : Space) (off : BitVec 18) (b : BitVec 3)
  /-- EDGN, R122. Detects a falling edge with a memory bit. -/
  | arbEdgn (l : Nat) (sp : Space) (off : BitVec 18) (b : BitVec 3)
  /-- NOT, R119. Inverts ACC. -/
  | arbNot (l : Nat)
  /-- SETA, R119. Sets ACC to 1. -/
  | arbSeta (l : Nat)
  /-- CLRA, R119. Sets ACC to 0. -/
  | arbClra (l : Nat)
  /-- PUSH, R121. Pushes ACC with a join tag onto the branch stack. -/
  | arbPush (l : Nat) (tag : BitVec 2)
  /-- POPA, R121. Pops the branch stack and ANDs the bit into ACC. -/
  | arbPopa (l : Nat)
  /-- POPO, R121. Pops the branch stack and ORs the bit into ACC. -/
  | arbPopo (l : Nat)
  /-- TON, R124. Executes an on-delay timer record. -/
  | arbTon (l : Nat) (sp : Space) (off : BitVec 18)
  /-- TOF, R124. Executes an off-delay timer record. -/
  | arbTof (l : Nat) (sp : Space) (off : BitVec 18)
  /-- TP, R124. Executes a pulse timer record. -/
  | arbTp (l : Nat) (sp : Space) (off : BitVec 18)
  /-- CTU, R125. Executes an up counter record. -/
  | arbCtu (l : Nat) (sp : Space) (off : BitVec 18)
  /-- CTD, R125. Executes a down counter record. -/
  | arbCtd (l : Nat) (sp : Space) (off : BitVec 18)
  /-- CTUD, R125. Executes an up-down counter with its up input popped from the branch stack. -/
  | arbCtud (l : Nat) (sp : Space) (off : BitVec 18)
  /-- LDW, R126. Loads a word operand into an accumulator, extended per U. -/
  | arbLdw (l : Nat) (w : BitVec 2) (a : Bool) (u : Bool) (sp : Space) (off : BitVec 18)
  /-- STW, R119. Stores the low bytes of an accumulator to a word operand. -/
  | arbStw (l : Nat) (w : BitVec 2) (a : Bool) (sp : Space) (off : BitVec 18)
  /-- PUTG, R119. Copies an accumulator to a general register. -/
  | arbPutg (l : Nat) (a : Bool) (ga : BitVec 4)
  /-- ADDG, R119. Adds a sign-extended immediate to a general register. -/
  | arbAddg (l : Nat) (ga : BitVec 4) (gb : BitVec 4) (imm : BitVec 12)
  /-- MOVGA, R119. Loads a 40-bit address into a general register. -/
  | arbMovga (l : Nat) (ga : BitVec 4) (hi : BitVec 8) (ext : BitVec 32)
  /-- XCHW, R119. Exchanges WA and WB. -/
  | arbXchw (l : Nat)
  /-- GETS, R119. Copies STATUS, TS, PAV or the call depth to an accumulator. -/
  | arbGets (l : Nat) (a : Bool) (sel : BitVec 2)
  /-- LDF, R109. Copies one STATUS flag to ACC. -/
  | arbLdf (l : Nat) (fl : Nat)
  /-- CLRF, R109. Clears the FI flag. -/
  | arbClrf (l : Nat)
  /-- LDX, R115. Loads an accumulator from memory by address. -/
  | arbLdx (l : Nat) (w : BitVec 2) (a : Bool) (u : Bool) (ga : BitVec 4) (imm : BitVec 12)
  /-- STX, R115. Stores an accumulator to memory by address. -/
  | arbStx (l : Nat) (w : BitVec 2) (a : Bool) (ga : BitVec 4) (imm : BitVec 12)
  /-- MOVB, R137. Moves a block of 1–4,096 bytes after checking both ranges. -/
  | arbMovb (l : Nat) (ga : BitVec 4) (gb : BitVec 4) (imm : BitVec 12)
  /-- MUX, R126. Reads one element of a table at an accumulator index. -/
  | arbMux (l : Nat) (a : Bool) (nar : Bool) (u : Bool) (ga : BitVec 4) (imm : BitVec 12)
  /-- ADD, R126. Adds an operand to an accumulator. -/
  | arbAdd (l : Nat) (a : Bool) (nar : Bool) (u : Bool) (op : AluOp)
  /-- SUB, R126. Subtracts an operand from an accumulator. -/
  | arbSub (l : Nat) (a : Bool) (nar : Bool) (u : Bool) (op : AluOp)
  /-- MUL, R126. Multiplies an accumulator by an operand. -/
  | arbMul (l : Nat) (a : Bool) (nar : Bool) (u : Bool) (op : AluOp)
  /-- DIV, R127. Divides an accumulator by an operand under the DIV0 policy. -/
  | arbDiv (l : Nat) (a : Bool) (nar : Bool) (u : Bool) (op : AluOp)
  /-- MOD, R127. Computes the remainder of an accumulator by an operand. -/
  | arbMod (l : Nat) (a : Bool) (nar : Bool) (u : Bool) (op : AluOp)
  /-- ALU_AND, R126. Bitwise AND of an accumulator with an operand. -/
  | arbAluAnd (l : Nat) (a : Bool) (nar : Bool) (u : Bool) (op : AluOp)
  /-- ALU_OR, R126. Bitwise OR of an accumulator with an operand. -/
  | arbAluOr (l : Nat) (a : Bool) (nar : Bool) (u : Bool) (op : AluOp)
  /-- ALU_XOR, R126. Bitwise XOR of an accumulator with an operand. -/
  | arbAluXor (l : Nat) (a : Bool) (nar : Bool) (u : Bool) (op : AluOp)
  /-- MIN, R126. Takes the minimum of an accumulator and an operand. -/
  | arbMin (l : Nat) (a : Bool) (nar : Bool) (u : Bool) (op : AluOp)
  /-- MAX, R126. Takes the maximum of an accumulator and an operand. -/
  | arbMax (l : Nat) (a : Bool) (nar : Bool) (u : Bool) (op : AluOp)
  /-- LIMIT, R126. Limits an accumulator between the other accumulator and an operand. -/
  | arbLimit (l : Nat) (a : Bool) (nar : Bool) (u : Bool) (op : AluOp)
  /-- SEL, R119. Selects an operand into an accumulator when ACC is 1. -/
  | arbSel (l : Nat) (a : Bool) (nar : Bool) (u : Bool) (op : AluOp)
  /-- CMPEQ, R126. Sets ACC to accumulator equal to operand. -/
  | arbCmpeq (l : Nat) (a : Bool) (nar : Bool) (u : Bool) (op : AluOp)
  /-- CMPNE, R126. Sets ACC to accumulator not equal to operand. -/
  | arbCmpne (l : Nat) (a : Bool) (nar : Bool) (u : Bool) (op : AluOp)
  /-- CMPLT, R126. Sets ACC to accumulator less than operand. -/
  | arbCmplt (l : Nat) (a : Bool) (nar : Bool) (u : Bool) (op : AluOp)
  /-- CMPLE, R126. Sets ACC to accumulator less than or equal to operand. -/
  | arbCmple (l : Nat) (a : Bool) (nar : Bool) (u : Bool) (op : AluOp)
  /-- CMPGT, R126. Sets ACC to accumulator greater than operand. -/
  | arbCmpgt (l : Nat) (a : Bool) (nar : Bool) (u : Bool) (op : AluOp)
  /-- CMPGE, R126. Sets ACC to accumulator greater than or equal to operand. -/
  | arbCmpge (l : Nat) (a : Bool) (nar : Bool) (u : Bool) (op : AluOp)
  /-- SHL, R126. Shifts an accumulator left. -/
  | arbShl (l : Nat) (a : Bool) (nar : Bool) (u : Bool) (op : AluOp)
  /-- SHR, R126. Shifts an accumulator right logically. -/
  | arbShr (l : Nat) (a : Bool) (nar : Bool) (u : Bool) (op : AluOp)
  /-- SAR, R126. Shifts an accumulator right arithmetically. -/
  | arbSar (l : Nat) (a : Bool) (nar : Bool) (u : Bool) (op : AluOp)
  /-- ROL, R126. Rotates an accumulator left. -/
  | arbRol (l : Nat) (a : Bool) (nar : Bool) (u : Bool) (op : AluOp)
  /-- ROR, R126. Rotates an accumulator right. -/
  | arbRor (l : Nat) (a : Bool) (nar : Bool) (u : Bool) (op : AluOp)
  /-- MOV, R126. Moves an operand into an accumulator. -/
  | arbMov (l : Nat) (a : Bool) (nar : Bool) (u : Bool) (op : AluOp)
  /-- FADD, R128. Float addition. -/
  | arbFadd (l : Nat) (a : Bool) (nar : Bool) (op : FOp)
  /-- FSUB, R128. Float subtraction. -/
  | arbFsub (l : Nat) (a : Bool) (nar : Bool) (op : FOp)
  /-- FMUL, R128. Float multiplication. -/
  | arbFmul (l : Nat) (a : Bool) (nar : Bool) (op : FOp)
  /-- FDIV, R128. Float division. -/
  | arbFdiv (l : Nat) (a : Bool) (nar : Bool) (op : FOp)
  /-- FSQRT, R128. Float square root. -/
  | arbFsqrt (l : Nat) (a : Bool) (nar : Bool) (op : FOp)
  /-- FMA, R128. Fused multiply-add rounded once. -/
  | arbFma (l : Nat) (a : Bool) (nar : Bool) (gb : BitVec 4)
  /-- FCMPEQ, R128. Float compare equal into ACC. -/
  | arbFcmpeq (l : Nat) (a : Bool) (nar : Bool) (op : FOp)
  /-- FCMPLT, R128. Float compare less than into ACC. -/
  | arbFcmplt (l : Nat) (a : Bool) (nar : Bool) (op : FOp)
  /-- FCMPLE, R128. Float compare less than or equal into ACC. -/
  | arbFcmple (l : Nat) (a : Bool) (nar : Bool) (op : FOp)
  /-- FCVTI, R128. Converts a float to an integer. -/
  | arbFcvti (l : Nat) (a : Bool) (nar : Bool) (u : Bool) (rne : Bool) (op : FOp)
  /-- FCVTF, R128. Converts an integer to a float. -/
  | arbFcvtf (l : Nat) (a : Bool) (nar : Bool) (u : Bool) (op : FOp)
  /-- FCVTP, R128. Converts between F32 and F64. -/
  | arbFcvtp (l : Nat) (a : Bool) (nar : Bool) (op : FOp)
  /-- JMP, R129. Jumps forward. -/
  | arbJmp (l : Nat) (t : BitVec 18)
  /-- JC, R129. Jumps forward if ACC is 1. -/
  | arbJc (l : Nat) (t : BitVec 18)
  /-- JNC, R129. Jumps forward if ACC is 0. -/
  | arbJnc (l : Nat) (t : BitVec 18)
  /-- CALL, R131. Writes a call frame and jumps to the target. -/
  | arbCall (l : Nat) (t : BitVec 18)
  /-- RET, R131. Returns to the word index in the top call frame. -/
  | arbRet (l : Nat)
  /-- LOOP, R130. Bounded backward branch on a counter register. -/
  | arbLoop (l : Nat) (gr : BitVec 4) (t : BitVec 18) (bound : BitVec 32)
  /-- END, R132. Ends the task for the scan and signals the scan engine. -/
  | arbEnd (l : Nat)
  /-- EVT, R134. Raises the Pavilion event with a 16-bit code when ACC is 1. -/
  | arbEvt (l : Nat) (code : BitVec 16)
  /-- RDTB, R135. Reads a time base into WA and WB. -/
  | arbRdtb (l : Nat) (n : Nat)
  /-- FENCE, R136. Waits until every earlier store of the task is accepted by its target. -/
  | arbFence (l : Nat)
  /-- FENCE_DRAIN_COMPLETE, R136. The egress buffer drains and a stalled FENCE or store continues. -/
  | fenceDrainComplete (l : Nat)
  /-- SYS_RECORDER_WRITE, R406. SYS 1 writes one Pavilion record to the recorder ring. -/
  | sysRecorderWrite (l : Nat)
  /-- SYS_WDT_SERVICE, R204. SYS 4 services the calling Pavilion's watchdog. -/
  | sysWdtService (l : Nat)
  /-- SYS_DICT_TRANSFER, R55. SYS 6 reads or writes a dictionary value through a buffer. -/
  | sysDictTransfer (l : Nat)
  /-- SYS_DMA_SUBMIT, R193. SYS 8 checks and submits a Pavilion DMA descriptor. -/
  | sysDmaSubmit (l : Nat)
  /-- SYS_DMA_STATUS, R194. SYS 9 returns the state of a DMA ticket. -/
  | sysDmaStatus (l : Nat)
  /-- SYS_ISDU_REQUEST, R304. SYS 10 queues one IO-Link ISDU request. -/
  | sysIsduRequest (l : Nat)
  /-- SYS_HART_COMMAND, R331. SYS 11 queues one HART command for a modem. -/
  | sysHartCommand (l : Nat)
  /-- SYS_PAVSTORE_READ, R394. SYS 12 queues a READ of the Pavilion store. -/
  | sysPavstoreRead (l : Nat)
  /-- SYS_PAVSTORE_WRITE, R394. SYS 12 queues a WRITE to the Pavilion store. -/
  | sysPavstoreWrite (l : Nat)
  /-- SYS_PAVSTORE_TRIM, R394. SYS 12 queues a TRIM of the Pavilion store. -/
  | sysPavstoreTrim (l : Nat)
  /-- SYS_PAVSTORE_SYNC, R395. SYS 12 queues a SYNC of the Pavilion store. -/
  | sysPavstoreSync (l : Nat)
  /-- SYS_CAN_DOORBELL, R369. SYS 13 rings the transmit-queue doorbell of a CAN queue. -/
  | sysCanDoorbell (l : Nat)
  /-- SYS_CAN_CANCEL, R372. SYS 13 with G2 bit 8 set cancels a CAN ring entry. -/
  | sysCanCancel (l : Nat)
  /-- SYS_SERVICE_COMPLETE, R133. A SYS service answers and the stalled lane continues with its results. -/
  | sysServiceComplete (l : Nat)
  /-- VOTER_RECORD_ARRIVAL, R152. A lane presents an egress record to the voter, which releases the slot on a majority. -/
  | voterRecordArrival (t : Nat) (k : Nat) (kind : Nat) (pav : Nat) (cls : Nat) (addr : Nat) (data : Bytes) (cyc : Nat)
  /-- VOTER_LAG_EXPIRY, R153. A position that has not presented its record 64 cycles after its expected arrival is LAGGING. -/
  | voterLagExpiry (t : Nat) (k : Nat) (cyc : Nat)
  /-- LANE_LOCAL_FAULT, R154. A lane declares itself odd on a local uncorrectable error, parity error or clock loss. -/
  | laneLocalFault (n : Nat) (part : Nat) (cyc : Nat)
  /-- RESYNC_COMPLETE, R160. The target takes the fenced position and the Trestle returns to TMR. -/
  | resyncComplete (t : Nat)
  /-- RESYNC_STARVED, R161. 1,000 ms pass without a chunk copied and RESYNC_STARVED is set. -/
  | resyncStarved (t : Nat)
  /-- TAKEOVER_WAIT_EXPIRY, R164. A requested takeover has not begun within 50 ms and the module enters SAFE-HALT. -/
  | takeoverWaitExpiry (t : Nat)
  /-- TRESTLE_REBUILD_COMPLETE, R165. Three lanes are in place and loaded, and the rebuilt Trestle enters TMR. -/
  | trestleRebuildComplete (t : Nat)
  /-- ROTATION_START, R166. The rotation interval elapses, or an extra rotation is due, and a rotation starts or is deferred. -/
  | rotationStart
  /-- ROTATE_NOW, R166. A write of 1 to SPARE.ROTATE_NOW starts a periodic rotation at once. -/
  | rotateNow (src : Path) (v : Nat)
  /-- SPARE_LANE_LOCKED, R167. A powered spare locks and its resynchronisation begins. -/
  | spareLaneLocked (n : Nat)
  /-- LANE_BIST_COMPLETE, R170. BIST of a lane in the test slot completes with a pass or a failure. -/
  | laneBistComplete (n : Nat) (pass : Bool) (part : Nat) (addr : Nat)
  /-- LANE_RETIRE_WRITE, R173. OWNER writes LANE.n.RETIRE to retire a lane manually. -/
  | laneRetireWrite (src : Path) (n : Nat) (v : Nat)
  /-- PAV_LOAD, R180. A write of 1 to PAV.p.LOAD loads the program through the loader steps. -/
  | pavLoad (src : Path) (p : Nat)
  /-- PAV_UNLOAD, R180. A write of 2 to PAV.p.LOAD unloads the program. -/
  | pavUnload (src : Path) (p : Nat)
  /-- REGION_ARM, R184. A write of 1 to REGION_ARM checks and arms the region table. -/
  | regionArm (src : Path) (p : Nat)
  /-- REGION_DISARM, R184. A write of 0 to REGION_ARM disarms the region table. -/
  | regionDisarm (src : Path) (p : Nat)
  /-- DMA_TRANSFER_COMPLETE, R194. A Pavilion DMA transfer ends as DONE or ERROR. -/
  | dmaTransferComplete (p : Nat) (ticket : Nat) (ok : Bool) (addr : Nat)
  /-- PAV_WDT_EXPIRY, R204. No accepted service by s + TIMEOUT: the Pavilion watchdog expires and the Pavilion stops. -/
  | pavWdtExpiry (p : Nat)
  /-- PAV_WDT_KEY, R206. A write to PAV.p.WDT.KEY advances or restarts the disable sequence. -/
  | pavWdtKey (src : Path) (p : Nat) (v : Nat)
  /-- PAV_WDT_ENABLE, R206. A write of 1 to PAV.p.WDT.ENABLE enables the Pavilion watchdog. -/
  | pavWdtEnable (src : Path) (p : Nat) (v : Nat)
  /-- PAV_WDT_LOCK, R207. A write to PAV.p.WDT.LOCK sets or clears the lock. -/
  | pavWdtLock (src : Path) (p : Nat) (v : Nat)
  /-- CAUSEWAY_LANE_LOST, R214. A Causeway lane loses block lock and retrains. -/
  | causewayLaneLost (n : Nat)
  /-- CAUSEWAY_LANE_TRAINED, R214. A Causeway lane completes training and carries valid blocks. -/
  | causewayLaneTrained (n : Nat)
  /-- CAUSEWAY_DOWN, R214. No Causeway lane for 1 ms and the link is DOWN. -/
  | causewayDown
  /-- HEARTBEAT_SEND, R215. The module sends its heartbeat over the Causeway every 250 µs. -/
  | heartbeatSend
  /-- HEARTBEAT_RECEIVE, R216. A valid partner heartbeat arrives, clears suspicion and feeds role and time logic. -/
  | heartbeatReceive (valid : Bool) (f : Bytes)
  /-- HEARTBEAT_LOSS, R216. No valid heartbeat for 1,000 µs sets PARTNER_SUSPECT. -/
  | heartbeatLoss
  /-- CAUSEWAY_LOOPBACK, R216. Each lane in turn runs a 1 ms PRBS31 loopback every loop interval. -/
  | causewayLoopback (lane : Nat) (ok : Bool)
  /-- EPOCH_RECORD_RECEIVE, R222. The receiver checks an epoch record and, at END, makes the epoch current and ACKs or NAKs. -/
  | epochRecordReceive (f : Bytes)
  /-- EPOCH_ACK_RECEIVE, R222. The sender receives an ACK and makes its staged pages its reference image. -/
  | epochAckReceive (e : Nat)
  /-- EPOCH_NAK_RECEIVE, R222. The sender receives a NAK and sends the next epoch as a JOIN epoch. -/
  | epochNakReceive (e : Nat)
  /-- EPOCH_ACK_TIMEOUT, R222. No answer within 10 ms and the next epoch is sent as a JOIN epoch. -/
  | epochAckTimeout
  /-- NAND_CHECKPOINT_DUE, R223. The NAND checkpoint interval elapses and a full checkpoint is written. -/
  | nandCheckpointDue
  /-- CHECKPOINT_WRITE_COMPLETE, R397. A checkpoint file write completes or fails. -/
  | checkpointWriteComplete (ok : Bool)
  /-- REF_GRANT_RECEIVE, R227. A valid GRANT frame arrives and the role logic may promote or demote the module. -/
  | refGrantReceive (path : Nat) (f : Bytes) (mac : Bool)
  /-- REF_DENY_RECEIVE, R225. A valid DENY frame arrives and is counted. -/
  | refDenyReceive (path : Nat) (f : Bytes) (mac : Bool)
  /-- REF_STATUS_SEND, R226. The module sends STATUS on every selected path every 1 ms. -/
  | refStatusSend
  /-- REF_REQUEST_SEND, R226. The module sends REQUEST while suspecting its partner or on a takeover request. -/
  | refRequestSend
  /-- REFEREE_LOST, R226. No valid referee frame for 50 ms and the referee is LOST. -/
  | refereeLost
  /-- REF_LINE_STUCK, R226. REF_RX low for more than 1 ms sets REF.LINE_STUCK. -/
  | refLineStuck (held : Nat)
  /-- ROLE_LOGIC_TICK, R227. The role logic runs every 250 µs against the grants held. -/
  | roleLogicTick
  /-- TAKEOVER_REQ_WRITE, R230. A write of 1 to PAIRCMD.TAKEOVER_REQ requests takeover by the partner. -/
  | takeoverReqWrite (src : Path) (v : Nat)
  /-- PARTNER_TAKEOVER_REQUEST, R230. A STANDBY module receives the partner's takeover request over the Causeway. -/
  | partnerTakeoverRequest (manual : Bool)
  /-- TAKEOVER_LANES_UP, R231. The PLLs lock and the lanes come up during TAKEOVER. -/
  | takeoverLanesUp (ok : Bool) (fault : Nat)
  /-- TAKEOVER_RESTORE_COMPLETE, R232. The restore of the current epoch completes and the engine is FREEZE_ONLY. -/
  | takeoverRestoreComplete (ok : Bool) (fault : Nat)
  /-- SAFETY_WORD_SEND, R236. The island publishes its decision word every 1 ms and compares it with the partner's. -/
  | safetyWordSend
  /-- STANDBY_TRESTLE_BIST, R237. A STANDBY module wakes one Trestle and runs BIST on its lanes. -/
  | standbyTrestleBist (t : Nat) (bad : Nat) (part : Nat) (addr : Nat)
  /-- STORE_SCRUB, R237. The 64 MiB checkpoint store is scrubbed every 10 s. -/
  | storeScrub (errs : Nat)
  /-- HEALTH_WORD_SEND, R239. The health word is sent to the partner and the referee every 100 ms. -/
  | healthWordSend
  /-- HANDOVER_REQUEST, R242. A write of 1 to PAIRCMD.HANDOVER starts a planned handover, or is refused. -/
  | handoverRequest (src : Path) (v : Nat)
  /-- HANDOVER_PREPARE_RECEIVE, R243. The STANDBY module receives PREPARE and powers its lanes. -/
  | handoverPrepareReceive
  /-- HANDOVER_SWAP_BOUNDARY, R243. At B_s the ACTIVE module closes the final epoch and stops dispatch. -/
  | handoverSwapBoundary
  /-- HANDOVER_GRANT_TIMEOUT, R213. No grant for the partner within 20 ms of B_s and the module returns to ACTIVE. -/
  | handoverGrantTimeout
  /-- PAIR_REJOIN, R246. A write of 1 to PAIRCMD.REJOIN restarts the join. -/
  | pairRejoin (src : Path) (v : Nat)
  /-- JOIN_DICT_RECEIVED, R246. The joining module has received the PAIR-scope dictionary and asks for a JOIN epoch. -/
  | joinDictReceived (f : Bytes) (schemas : Bytes)
  /-- SP_HEARTBEAT, R249. The safety processor writes its heartbeat to Parapet every 1 ms cycle. -/
  | spHeartbeat (valid : Bool)
  /-- PARAPET_WATCHDOG_EXPIRY, R249. Parapet sees no valid heartbeat for 2 ms and removes torque in every group. -/
  | parapetWatchdogExpiry
  /-- ISLAND_SUPPLY_CHECK, R250. ADC5 measurements find a rail or VSENS out of limits and latch SUPPLY. -/
  | islandSupplyCheck (railsOk : Bool) (vsens : Nat) (lowFor : Nat)
  /-- TEST_PULSE, R255. A test-pulse output drives its 500 µs low pulse and the readings are checked for cross faults. -/
  | testPulse (x : Nat) (follows : Bool) (cross : List Nat)
  /-- SAFE_INPUT_FILTER_EXPIRY, R256. A channel state held for the filter time moves its pair to DEMAND or ENABLE. -/
  | safeInputFilterExpiry (n : Nat) (a : Nat) (b : Nat) (held : Nat)
  /-- SAFE_INPUT_DISCREPANCY_EXPIRY, R256. A pair inconsistent for its discrepancy time enters FAULT. -/
  | safeInputDiscrepancyExpiry (n : Nat)
  /-- SAFE_INPUT_CHANNEL_DISAGREE, R256. The two channels disagree on a pair for 10 ms and the pair enters FAULT. -/
  | safeInputChannelDisagree (n : Nat) (held : Nat)
  /-- ENCODER_GATE, R257. Parapet closes a 1 ms gate and computes SPEED_PP. -/
  | encoderGate (e : Nat) (edges : Int) (speedSp : Int) (loss : Bool) (invalid : Bool)
  /-- ENCODER_FAULT_CLEAR, R258. A fault condition absent for 100 ms clears its bit. -/
  | encoderFaultClear (e : Nat) (b : Nat)
  /-- GROUP_EVALUATION, R261. A channel evaluates the requests of each group and applies its transitions. -/
  | groupEvaluation (ch : Nat)
  /-- STO_RESET, R263. A reset event from RESET_PAIR or RESET_POINT moves a group from STO to ENABLING, or is discarded. -/
  | stoReset (g : Nat) (point : Bool)
  /-- ENABLE_SEQUENCE_STEP, R267. A timed step of the enabling sequence switches P or S and checks the readbacks. -/
  | enableSequenceStep (g : Nat) (rb : List Nat)
  /-- CROSS_LINK_REMOVAL, R248. A channel learns over the cross-link that the other removed torque and opens its own switches. -/
  | crossLinkRemoval (ch : Nat) (g : Nat)
  /-- CHANNEL_DISCREPANCY, R248. The channels differ in torque state for more than 10 ms and CHANNEL_DISCREPANCY is set. -/
  | channelDiscrepancy (g : Nat)
  /-- OFF_PULSE_SLOT_START, R268. A test slot starts and one switch of every ON output opens. -/
  | offPulseSlotStart (swP : Bool)
  /-- OFF_PULSE_CLOSE, R269. At t0 + T_p the switch closes again and the discharge ends. -/
  | offPulseClose (o : Nat)
  /-- OFF_PULSE_VERDICT, R269. The recovery window ends and each output is passed or faulted. -/
  | offPulseVerdict (o : Nat) (fell : Bool) (rose : Bool) (fall : Nat) (mv : Nat)
  /-- EXTERNAL_VOLTAGE, R270. An off output reads 5 V or more for 2 ms and latches EXTERNAL_VOLTAGE. -/
  | externalVoltage (o : Nat) (mv : Nat) (held : Nat)
  /-- SAFE_OUTPUT_OVERLOAD, R266. An overload lasting over 5 ms opens both switches and latches OVERLOAD. -/
  | safeOutputOverload (o : Nat) (held : Nat)
  /-- CONFIG_CRC_CHECK, R277. Every 100 ms each channel recomputes its active configuration CRC. -/
  | configCrcCheck (ch : Nat) (upset : Bool)
  /-- STATUS_BLOCK_PUBLISH, R273. The safety processor writes its status block into input staging every 1 ms. -/
  | statusBlockPublish
  /-- SAFETY_STAGED_WRITE, R274. A SAFETY write changes the staged configuration of section 12. -/
  | safetyStagedWrite (src : Path) (idx : Nat) (sub : Nat) (v : Bytes)
  /-- SAFETY_DISCARD, R274. A write of 1 to DISCARD copies the active configuration over the staged one. -/
  | safetyDiscard (src : Path) (v : Nat)
  /-- SAFETY_CONFIRM, R275. A write to CONFIRM checks CRCs and rules and sets CONFIRMED or REFUSED. -/
  | safetyConfirm (src : Path) (v : Nat)
  /-- SAFETY_ACTIVATE, R275. A write of 1 to ACTIVATE makes the staged configuration active in both channels. -/
  | safetyActivate (src : Path) (v : Nat)
  /-- SAFETY_FAULT_ACK, R264. A write of 1 to FAULT_ACK clears the island faults whose causes are absent. -/
  | safetyFaultAck (src : Path) (v : Nat)
  /-- SGROUP_ACK, R264. A write of 1 to a group's ACK clears its ENVELOPE, ENCODER and OUTPUT latches. -/
  | sgroupAck (src : Path) (g : Nat) (v : Nat)
  /-- SOUT_ACK, R264. A write of 1 to an output's ACK clears its FAULT. -/
  | soutAck (src : Path) (o : Nat) (v : Nat)
  /-- ISLAND_STARTUP_COMPLETE, R253. The island start-up tests end with a pass or a latched STARTUP fault. -/
  | islandStartupComplete (pass : Bool) (test : Nat) (dur : Nat)
  /-- DEBOUNCE_COMPLETE, R285. A candidate level held for D updates the debounced state, edge count and timestamp. -/
  | debounceComplete (n : Nat) (level : Bool) (held : Nat)
  /-- DI_EDGES_WRITE, R286. A write to DI.i.EDGES sets the edge counter. -/
  | diEdgesWrite (src : Path) (n : Nat) (v : Nat)
  /-- DI_WAKE_SAMPLE, R287. In DORMANT a wake input differing in two consecutive 1 ms samples wakes the module. -/
  | diWakeSample (n : Nat) (level : Bool)
  /-- DO_OC_TRIP, R290. Current limiting lasts OC_DELAY and the output trips off. -/
  | doOcTrip (o : Nat) (held : Nat)
  /-- DO_RETRY_EXPIRY, R290. The RETRY wait ends and a still-commanded output is switched on again. -/
  | doRetryExpiry (o : Nat)
  /-- DO_OVERTEMP, R289. The driver junction crosses 150 °C or falls below 135 °C. -/
  | doOvertemp (o : Nat) (temp : Int)
  /-- DO_NO_DRIVE, R289. An output commanded ON is below L+ − 3 V after 200 µs and is latched off. -/
  | doNoDrive (o : Nat) (mv : Nat)
  /-- DO_OFF_STATE_TEST, R291. An off output applies its 2 ms test current every 100 ms and evaluates open load and short to L+. -/
  | doOffStateTest (o : Nat) (high : Bool) (stays : Bool)
  /-- DO_ACK, R289. A write of 1 to DO.o.ACK clears latched faults whose causes are absent. -/
  | doAck (src : Path) (o : Nat) (v : Nat)
  /-- FIELD_SUPPLY_CHANGE, R294. A supply condition held for 1 ms, or left for 10 ms, changes the supply state. -/
  | fieldSupplyChange (g : Nat) (mv : Nat) (held : Nat)
  /-- BLOCK_HOLD_EXPIRY, R297. A hold block's t_hold passes since its latest commit and its points take safe or STANDBY values. -/
  | blockHoldExpiry (b : Nat)
  /-- IOL_MODE_WRITE, R300. A write of IOL.n.MODE starts up, deactivates or switches the port to SIO. -/
  | iolModeWrite (src : Path) (n : Nat) (v : Nat)
  /-- IOL_WAKEUP_ATTEMPT, R301. A wake-up attempt drives the request and probes COM3, COM2 and COM1. -/
  | iolWakeupAttempt (n : Nat) (com : Nat) (low : Bool) (follow : Bool)
  /-- IOL_DEVICE_ANSWER, R300. The device answers and is validated into PREOPERATE or FAULT. -/
  | iolDeviceAnswer (n : Nat) (vendor : Nat) (dev : Nat) (inl : Nat) (outl : Nat) (minc : Nat)
  /-- IOL_OPERATE_CONFIRM, R300. The device confirms the operate command and cyclic exchange starts. -/
  | iolOperateConfirm (n : Nat)
  /-- IOL_CYCLE_COMPLETE, R302. An IO-Link cycle completes or fails after retries. -/
  | iolCycleComplete (n : Nat) (ok : Bool) (invalid : Bool) (pd : Bytes)
  /-- IOL_LPLUS_OVERLOAD, R299. An L+ overload lasting 10 ms switches L+ off and faults the port. -/
  | iolLplusOverload (n : Nat) (ma : Nat) (held : Nat)
  /-- IOL_FAULT_RETRY, R300. A port in FAULT for 1 s restarts. -/
  | iolFaultRetry (n : Nat)
  /-- IOL_ISDU_COMPLETE, R304. An ISDU request completes into its buffer header. -/
  | iolIsduComplete (n : Nat) (ok : Bool) (err : Nat) (data : Bytes)
  /-- IOL_DEVICE_EVENT, R305. A device event is acknowledged and raises EV 0720+n. -/
  | iolDeviceEvent (n : Nat) (qual : Nat) (code : Nat) (appears : Bool)
  /-- ADC_TRIGGER_TIMER, R311. The converter timer triggers a scan or single conversion every PERIOD. -/
  | adcTriggerTimer (a : Nat)
  /-- ADC_START, R311. A write of 1 to ADC.a.START triggers a conversion. -/
  | adcStart (src : Path) (a : Nat) (v : Nat)
  /-- ADC_CONVERSION_COMPLETE, R310. A conversion completes and delivers its result word. -/
  | adcConversionComplete (a : Nat) (ch : Nat) (code : Nat) (selftest : Bool)
  /-- ADC_SELFTEST_DUE, R312. The self-test interval elapses and a self-test conversion is inserted. -/
  | adcSelftestDue (a : Nat)
  /-- ADC_REF_SETTLED, R309. The reference meets its settling criterion and REF_SETTLED is set. -/
  | adcRefSettled (a : Nat) (codes : List Nat)
  /-- ADC_REF_FAULT, R309. An EXTERNAL reference unsettled after 100 ms sets REF_FAULT. -/
  | adcRefFault (a : Nat)
  /-- ADC4_SEQUENCE, R313. ADC4 converts its fixed 32-slot sequence every 100 µs. -/
  | adc4Sequence (codes : List Nat) (pass : Bool)
  /-- AI_TICK, R316. Every 1 ms each AI updates its damped value and NE 43 state. -/
  | aiTick (limited : List Nat)
  /-- AI_STALE, R319. An AI without a conversion for 100 ms becomes STALE. -/
  | aiStale (n : Nat)
  /-- AO_RAMP_TICK, R322. Every 100 µs each driven AO moves its output current toward its target. -/
  | aoRampTick
  /-- AO_OPEN_LOOP, R324. A source at its voltage limit with low readback for 10 ms sets OPEN_LOOP. -/
  | aoOpenLoop (j : Nat) (held : Nat)
  /-- AO_READBACK_FAULT, R324. Readback differing by over 0.2 mA for 100 ms latches READBACK. -/
  | aoReadbackFault (j : Nat)
  /-- AO_NO_SOURCE, R324. Readback below 1 mA 50 ms after leaving OPEN latches NO_SOURCE. -/
  | aoNoSource (j : Nat)
  /-- AO_OVERTEMP, R324. The source junction crosses 150 °C or falls below 135 °C. -/
  | aoOvertemp (j : Nat) (temp : Int)
  /-- AO_ACK, R324. A write of 1 to AO.j.ACK clears latched faults. -/
  | aoAck (src : Path) (j : Nat) (v : Nat)
  /-- HART_ENABLE_WRITE, R328. A write of HART.m.ENABLE starts acquisition or disables the modem. -/
  | hartEnableWrite (src : Path) (m : Nat) (v : Nat)
  /-- HART_REQUEST_SEND, R327. A modem sends a queued request once its quiet time has passed. -/
  | hartRequestSend (m : Nat)
  /-- HART_FRAME_RECEIVE, R327. A frame is received and delivered, or discarded on error. -/
  | hartFrameReceive (m : Nat) (preamble : Nat) (f : Bytes) (err : Bool)
  /-- HART_RESPONSE_TIMEOUT, R327. No valid response within the response wait: the request is retried or fails. -/
  | hartResponseTimeout (m : Nat)
  /-- HART_AUTO_CMD_DUE, R329. AUTO_PERIOD elapses and the automatic command is queued. -/
  | hartAutoCmdDue (m : Nat)
  /-- HART_NOISE_ABORT, R330. A flood condition aborts the frame in progress and sets CHANNEL_NOISY. -/
  | hartNoiseAbort (m : Nat) (cause : Nat)
  /-- HART_NOISE_CLEAR, R330. 50 ms without a flood condition clears CHANNEL_NOISY. -/
  | hartNoiseClear (m : Nat)
  /-- HART_QUEUE_TIMEOUT, R330. A request not sendable within 5 s completes with 0xFF02. -/
  | hartQueueTimeout (m : Nat)
  /-- HART_NO_DEVICE_RETRY, R328. 10 s in NO_DEVICE returns the modem to ACQUIRING. -/
  | hartNoDeviceRetry (m : Nat)
  /-- PORT_LINK_CHANGE, R333. A port's link changes state; on link down its queues are discarded. -/
  | portLinkChange (n : Nat) (speed : Nat)
  /-- FRAME_RECEIVE, R337. A frame received on a port is matched to a stream, policed, forwarded or delivered. -/
  | frameReceive (n : Nat) (f : Bytes) (good : Bool)
  /-- FDB_AGEING, R334. A learnt filtering database entry ages out. -/
  | fdbAgeing
  /-- FDB_FLUSH, R334. A write of 1 to SW.FDB_FLUSH removes learnt entries. -/
  | fdbFlush (src : Path) (v : Nat)
  /-- FRER_RESET_TIMEOUT, R338. The 100 ms recovery reset timeout of an FRER stream expires. -/
  | frerResetTimeout (h : Nat)
  /-- RING_TX_POLL, R340. Every 10 µs the switch reads the next entry of each OUT ring and transmits READY entries. -/
  | ringTxPoll
  /-- GATE_APPLY, R342. A write of 1 to GATE.n.APPLY checks the administrative gate list. -/
  | gateApply (src : Path) (n : Nat) (v : Nat)
  /-- GATE_LIST_SWITCH, R342. The new gate list becomes operational at its cycle start. -/
  | gateListSwitch (n : Nat)
  /-- GATE_INTERVAL_END, R341. A gate list interval ends and the next entry's gates apply. -/
  | gateIntervalEnd (n : Nat)
  /-- PREEMPT_VERIFY, R345. IEEE 802.3br verification with the link partner succeeds or fails. -/
  | preemptVerify (n : Nat) (ok : Bool)
  /-- RED_SUPERVISION_SEND, R348. A redundancy pair sends its supervision frame every LIFE_CHECK. -/
  | redSupervisionSend (r : Nat)
  /-- RED_LAN_DOWN, R349. No frame from a LAN or ring direction for 3 × LIFE_CHECK sets it DOWN. -/
  | redLanDown (r : Nat) (side : Nat)
  /-- TB_STEP_WRITE, R353. A write to TB.n.STEP steps a FREE time base by Δ. -/
  | tbStepWrite (src : Path) (n : Nat) (d : Int)
  /-- TB_SET_WRITE, R353. A write to TB.n.SET steps a FREE time base to a value. -/
  | tbSetWrite (src : Path) (n : Nat) (t : Nat)
  /-- TB_SOURCE_CHANGE, R352. A write of SOURCE, SRC_ARG or OFFSET moves the base at once and counts as a step. -/
  | tbSourceChange (src : Path) (n : Nat) (sub : Nat) (v : Bytes)
  /-- TB_DECLARE, R354. A write of TB.n.DECLARE marks a FREE base or grandmaster as synchronised or not. -/
  | tbDeclare (src : Path) (n : Nat) (v : Nat)
  /-- PTP_SYNC_RECEIVE, R357. A Sync message drives the servo to step or steer its base and update lock state. -/
  | ptpSyncReceive (k : Nat) (port : Nat) (offset : Int) (delay : Int) (gm : Bytes) (st : Nat)
  /-- PTP_HOLDOVER_EXPIRY, R354. HOLDOVER passes without a Sync and the base becomes UNSYNC. -/
  | ptpHoldoverExpiry (k : Nat)
  /-- OSC_FAILOVER, R351. The REF25 oscillator in use fails and the spare takes over. -/
  | oscFailover
  /-- RTC_UPDATE, R355. The time unit writes TB3 into the Icehouse RTC once per second. -/
  | rtcUpdate
  /-- PPS_IN_EDGE, R358. A rising edge on PPS_IN captures every base. -/
  | ppsInEdge (k : Nat) (width : Nat)
  /-- PPS_IN_LOST, R358. An input with earlier edges sees none for 1.5 s. -/
  | ppsInLost (k : Nat)
  /-- PPS_OUT_EDGE, R358. A PPS output rises as its base reaches OFFSET_NS. -/
  | ppsOutEdge (k : Nat)
  /-- CAN_ENABLE, R361. A write of 1 to CAN.c.ENABLE starts the controller after 11 recessive bits. -/
  | canEnable (src : Path) (c : Nat) (v : Nat) (idle : Bool) (memok : Bool)
  /-- CAN_DISABLE, R361. A write of 0 to CAN.c.ENABLE disables the controller and empties its buffers. -/
  | canDisable (src : Path) (c : Nat) (v : Nat)
  /-- CAN_FRAME_RECEIVED, R364. A frame received without error is offered to the object store and the CiA 301 engine. -/
  | canFrameReceived (c : Nat) (f : CanFrame) (err : Bool)
  /-- CAN_ERROR_DETECTED, R361. A protocol error updates TEC and REC and may change the controller state. -/
  | canErrorDetected (c : Nat) (kind : Nat) (transmitter : Bool) (heavy : Bool)
  /-- CAN_BUS_STUCK, R361. The bus is dominant for 2,048 bit times and the controller enters BUS_STUCK. -/
  | canBusStuck (c : Nat)
  /-- CAN_STUCK_RECOVERY_ATTEMPT, R362. A scheduled recovery attempt listens for 11 recessive bits. -/
  | canStuckRecoveryAttempt (c : Nat) (ok : Bool)
  /-- CAN_BUSOFF_RECOVERED, R361. 128 occurrences of 11 recessive bits return a BUS_OFF controller to ERROR_ACTIVE. -/
  | canBusoffRecovered (c : Nat)
  /-- CAN_RECOVER, R361. A write of 1 to CAN.c.RECOVER starts bus-off recovery. -/
  | canRecover (src : Path) (c : Nat) (v : Nat)
  /-- CAN_CONTROLLER_FAULT, R361. An uncorrectable error in buffers or protocol state stops the controller. -/
  | canControllerFault (c : Nat) (fault : Nat)
  /-- CAN_OBJECT_READ_WORD0, R366. A read of word 0 of an object takes its lock or returns BUSY. -/
  | canObjectReadWord0 (c : Nat) (o : Nat) (p : Nat) (x : Nat) (gate : Bool) (err : Bool)
  /-- CAN_OBJECT_READ_WORD19, R366. The holder's read of word 19 releases the object as consumed. -/
  | canObjectReadWord19 (c : Nat) (o : Nat) (p : Nat) (x : Nat) (gate : Bool) (err : Bool)
  /-- CAN_GATEHOUSE_LOCK_TIMEOUT, R366. A Gatehouse lock held for 100 µs is released unconsumed. -/
  | canGatehouseLockTimeout (c : Nat) (o : Nat)
  /-- TX_BUFFER_FILL, R370. A free transmit buffer is filled from a queue head. -/
  | txBufferFill (c : Nat)
  /-- TX_START, R370. A pending buffer starts transmission at start of frame. -/
  | txStart (c : Nat)
  /-- TX_COMPLETE, R371. A transmission succeeds, or fails as single shot, and the ring entry is written. -/
  | txComplete (c : Nat) (ok : Bool)
  /-- TX_ARBITRATION_LOST, R371. A frame loses arbitration and is pending again. -/
  | txArbitrationLost (c : Nat)
  /-- NMT_COMMAND, R374. An NMT command addressed to the node changes its NMT state. -/
  | nmtCommand (c : Nat) (cs : Nat) (node : Nat)
  /-- CAN_HB_PRODUCE, R58. The producer heartbeat time elapses and a heartbeat is sent. -/
  | canHbProduce (c : Nat)
  /-- CAN_HB_CONSUMER_TIMEOUT, R375. A consumed node sends nothing within its time. -/
  | canHbConsumerTimeout (c : Nat) (j : Nat)
  /-- SYNC_RECEIVE, R378. A SYNC applies held RPDOs and triggers synchronous TPDOs. -/
  | syncReceive (c : Nat) (cnt : Nat)
  /-- SYNC_PRODUCE, R379. The SYNC cycle elapses and the producer sends SYNC. -/
  | syncProduce (c : Nat)
  /-- RPDO_RECEIVE, R378. An RPDO is received and held, applied or discarded. -/
  | rpdoReceive (c : Nat) (n : Nat) (data : Bytes) (fd : Bool)
  /-- RPDO_EVENT_TIMEOUT, R378. No valid RPDO within its event timer sets TIMEOUT. -/
  | rpdoEventTimeout (c : Nat) (n : Nat)
  /-- TPDO_EVENT_TIMER, R379. An event timer elapses and an asynchronous TPDO is sent. -/
  | tpdoEventTimer (c : Nat) (n : Nat)
  /-- NAND_BLOCK_READ, R385. A logical block is read through retry, soft decode and reconstruction. -/
  | nandBlockRead (k : Nat) (b : Nat) (die : Nat) (blk : Nat) (step : Nat) (level : Nat) (crc : Bool)
  /-- NAND_BLOCK_WRITE, R384. A logical block is programmed into a stripe with its CRC. -/
  | nandBlockWrite (k : Nat) (die : Nat) (blk : Nat) (new : Bool)
  /-- NAND_PROGRAM_FAIL, R389. A program or erase reports a status failure and the block is retired. -/
  | nandProgramFail (die : Nat) (blk : Nat)
  /-- DIE_NOT_READY_TIMEOUT, R386. A die not ready 10 ms after an operation counts towards failure. -/
  | dieNotReadyTimeout (die : Nat) (chan : Bool)
  /-- REBUILD_STRIPE, R386. The rebuild reconstructs the next stripe at REBUILD_RATE. -/
  | rebuildStripe (lost : Bool) (total : Nat)
  /-- STATIC_LEVELLING, R389. Erase counts differing by over 10 % trigger relocation of the least-erased block. -/
  | staticLevelling (die : Nat) (least : Nat) (most : Nat) (to_ : Nat) (phase : Nat)
  /-- BLOCK_REFRESH, R390. A block whose age, reads or retries call for it is relocated and erased. -/
  | blockRefresh (die : Nat) (blk : Nat) (to_ : Nat) (phase : Nat)
  /-- PATROL_SCRUB_STEP, R390. The patrol scrub reads its next page, paced over SCRUB_INTERVAL. -/
  | patrolScrubStep (die : Nat) (blk : Nat) (need : Bool) (total : Nat)
  /-- PFAIL_ASSERT, R398. PFAIL# low for 5 µs, or a SEATED# opening, starts the journal flush. -/
  | pfailAssert (held : Nat)
  /-- PFAIL_FLUSH_COMPLETE, R398. The journal and commit record are programmed. -/
  | pfailFlushComplete (bytes : Nat)
  /-- PFAIL_RELEASE, R398. PFAIL# released after the flush resumes normal operation. -/
  | pfailRelease
  /-- PFAIL_STUCK, R399. PFAIL# asserted at BOOT for 100 ms raises PFAIL_STUCK. -/
  | pfailStuck
  /-- STORAGE_MOUNT, R401. At mount the journals are replayed and open intents settled. -/
  | storageMount (dies : List Nat) (models : Bytes)
  /-- SUSPECT_BLOCK_VERIFY, R403. A suspect block is erased and verified, then returned or retired. -/
  | suspectBlockVerify (die : Nat) (blk : Nat) (ok : Bool)
  /-- PART_SIZE_WRITE, R391. A write of PART.k.SIZE starts a partition resize or is refused. -/
  | partSizeWrite (src : Path) (k : Nat) (v : Nat)
  /-- PAVSTORE_REQUEST_COMPLETE, R395. A PAVSTORE request completes into its completion record. -/
  | pavstoreRequestComplete (p : Nat) (mirrored : Bool)
  /-- PAVSTORE_MIRROR_COPY, R396. A joining module copies the next block of a Pavilion store from the ACTIVE module. -/
  | pavstoreMirrorCopy (p : Nat) (data : Bytes)
  /-- ARCHIVE_COPY, R408. The archiver copies records from the ring to EVENTS. -/
  | archiveCopy
  /-- REC_FREEZE, R409. A write of 1 to REC.FREEZE freezes the ring for the session. -/
  | recFreeze (src : Path)
  /-- REC_UNFREEZE, R409. A write of 0 by the holder, or session close, ends the freeze. -/
  | recUnfreeze (src : Path)
  /-- REC_FREEZE_TIMEOUT, R409. A freeze ends 10 s after it began. -/
  | recFreezeTimeout
  /-- REC_CLEAR_TOKEN, R411. A signed token clears records up to LAST, or is refused. -/
  | recClearToken (src : Path) (v : Bytes) (sig : Bool)
  /-- REC_CLEAR_KEYSWITCH, R411. A LAST written with the key-switch asserted clears records. -/
  | recClearKeyswitch (src : Path) (v : Nat) (asserted : Bool)
  /-- RECQ_QUERY, R413. A recorder query returns records into the session's result. -/
  | recqQuery (src : Path) (v : Bytes)
  /-- HISTQ_QUERY, R421. A historian query returns stored points or period records. -/
  | histqQuery (src : Path) (v : Bytes)
  /-- HIST_TAG_TABLE_WRITE, R415. A write of the tag table is checked and ends open segments. -/
  | histTagTableWrite (src : Path) (g : Nat) (j : Nat) (v : Bytes)
  /-- HIST_BUFFER_OVERFLOW, R420. The 4 MiB point buffer fills and samples are discarded. -/
  | histBufferOverflow
  /-- HIST_BUFFER_DRAINED, R420. The buffer drains below 2 MiB and sampling resumes. -/
  | histBufferDrained
  /-- GATEHOUSE_FAULT, R426. An uncorrectable Gatehouse error, lockup or self-check failure resets the module. -/
  | gatehouseFault (kind : Nat)
  /-- SERVICE_ENTER, R430. A write of 1 to MODECMD.SERVICE moves an ACTIVE module to SERVICE. -/
  | serviceEnter (src : Path)
  /-- SERVICE_LEAVE, R430. A write of 0 to MODECMD.SERVICE returns the module to ACTIVE. -/
  | serviceLeave (src : Path)
  /-- SERVICE_LIMIT_EXPIRY, R430. SERVICE_LIMIT minutes pass and SERVICE ends. -/
  | serviceLimitExpiry
  /-- DORMANT_REQUEST, R431. A write of 1 to MODECMD.DORMANT starts DORMANT entry or is refused. -/
  | dormantRequest (src : Path) (v : Nat)
  /-- DORMANT_FLUSH_COMPLETE, R468. The storage engine completes its writes for DORMANT entry and power-down proceeds. -/
  | dormantFlushComplete
  /-- DORMANT_REACHED, R468. The module reaches DORMANT. -/
  | dormantReached
  /-- MODULE_RESET_COMMAND, R434. A write of 0x5A to MODECMD.RESET schedules a module reset. -/
  | moduleResetCommand (src : Path) (v : Nat)
  /-- MODULE_RESET, R434. A module reset wipes SRAM and TCM, regenerates the DRAM key and restarts BOOT. -/
  | moduleReset
  /-- WDT_SERVICE_KEY_A, R435. The Gatehouse writes KEY_A to the module watchdog SERVICE register. -/
  | wdtServiceKeyA
  /-- WDT_SERVICE_KEY_B, R435. The Gatehouse writes KEY_B and the service is accepted or fails. -/
  | wdtServiceKeyB
  /-- WDT_FOREIGN_SERVICE, R435. A write to the watchdog from another master or a dictionary path is refused. -/
  | wdtForeignService (dict : Bool) (src : Path) (master : Nat)
  /-- WDT_TIMEOUT, R435. No service by s + TIMEOUT and the module resets with cause MODULE_WDT. -/
  | wdtTimeout
  /-- WDT_KEY_B_TIMEOUT, R435. KEY_B not written within 1 ms of KEY_A and the watchdog fails WDT_EARLY. -/
  | wdtKeyBTimeout
  /-- WDT_KEY_WRITE, R437. An OWNER write to WDT.KEY advances the disable sequence. -/
  | wdtKeyWrite (src : Path) (v : Nat)
  /-- WDT_LOCK_WRITE, R437. A write of 1 to WDT.LOCK sets the lock. -/
  | wdtLockWrite (src : Path) (v : Nat)
  /-- WDT_ENABLE_WRITE, R436. A write of 1 to WDT.ENABLE returns the watchdog to RUNNING. -/
  | wdtEnableWrite (src : Path) (v : Nat)
  /-- TEMPERATURE_SAMPLE, R439. The 32 temperature sensors are read every 10 ms and classified. -/
  | temperatureSample (vals : List Int)
  /-- TEMPERATURE_CRIT_EXPIRY, R433. CRIT lasting 1 s is settled as a fault by mode. -/
  | temperatureCritExpiry (k : Nat)
  /-- RAIL_STATE_CHANGE, R440. A rail outside tolerance for 1 ms becomes WARN or FAULT. -/
  | railStateChange (k : Nat) (mv : Nat) (held : Nat)
  /-- VIBRATION_SPECTRUM, R441. Every second the accelerometer samples are transformed into band RMS values. -/
  | vibrationSpectrum (rms : List Nat) (total : List Nat)
  /-- SHOCK_START, R441. A sample at or above SHOCK_LEVEL starts a shock record. -/
  | shockStart (x : Nat) (y : Nat) (z : Nat) (mag : Nat)
  /-- SHOCK_END, R441. 10 ms below the level ends the shock record and logs it. -/
  | shockEnd (x : Nat) (y : Nat) (z : Nat) (above : Nat)
  /-- HUMIDITY_SAMPLE, R442. Humidity is read every 10 s and a 60 s crossing raises EV 0007. -/
  | humiditySample (rh : Nat) (lid : Nat)
  /-- CONTACT_SENSE_MEASURE, R443. Every 10 s each contact-sense loop is measured and compared with its baseline. -/
  | contactSenseMeasure (mohm : List Nat)
  /-- CONTACT_REBASE, R443. A write of 1 to CONT.REBASE starts a new baseline. -/
  | contactRebase (src : Path) (v : Nat)
  /-- WEAR_LEDGER_UPDATE, R444. The wear ledger is updated every 60 s and on each change. -/
  | wearLedgerUpdate
  /-- SERVICE_ETH_FRAME, R445. A frame on the RMII service port is accepted or discarded. -/
  | serviceEthFrame (kind : Nat)
  /-- SERVICE_LINK_CHANGE, R445. The service port link changes. -/
  | serviceLinkChange (link : Nat)
  /-- OPT_STATUS, R447. The optical STATUS operation returns 16 bytes of status. -/
  | optStatus (f : Bytes)
  /-- OPT_EVENTS, R447. The optical EVENTS operation runs a recorder query. -/
  | optEvents (f : Bytes)
  /-- OPT_CHALLENGE, R447. The optical CHALLENGE operation returns a fresh nonce. -/
  | optChallenge (f : Bytes)
  /-- OPT_AUTH, R447. The optical AUTH operation checks a service token and opens the session. -/
  | optAuth (f : Bytes) (sig : Bool)
  /-- OPT_READ, R447. The optical READ operation reads one item. -/
  | optRead (f : Bytes)
  /-- OPT_WRITE, R447. The optical WRITE operation writes one item. -/
  | optWrite (f : Bytes) (sig : Bool) (asserted : Bool)
  /-- OPT_CLOSE, R447. The optical CLOSE operation ends the session. -/
  | optClose (f : Bytes)
  /-- OPT_IDLE_TIMEOUT, R447. The optical session ends after OPT.IDLE seconds without a valid frame. -/
  | optIdleTimeout
  /-- OPT_FLOOD_INTERVAL, R449. Each 100 ms interval is judged for a flood condition and the port may change state. -/
  | optFloodInterval (sat : Bool) (bad : Nat) (ambient : Nat)
  /-- VLOGIC_GOOD, R452. VLOGIC stands at or above 8.7 V for 1 ms after precharge and BOOT begins. -/
  | vlogicGood (mv : Int) (held : Nat) (carrier : Bytes) (slot : Nat) (powerLost : Bool)
  /-- VLOGIC_LOST, R452. VLOGIC below 8.2 V for 10 µs and the module enters ICEHOUSE. -/
  | vlogicLost (mv : Int) (held : Nat) (vbat : Bool)
  /-- VLOGIC_STATE_CHANGE, R452. VLOGIC enters or leaves LOW or OVER. -/
  | vlogicStateChange (mv : Int) (held : Nat)
  /-- INTERNAL_PFAIL_WARNING, R453. VLOGIC below 8.7 V for 10 µs without PFAIL# starts the flush. -/
  | internalPfailWarning (mv : Int) (held : Nat)
  /-- PRECHARGE_COMPLETE, R455. The input stands within 1.0 V of VLOGIC_PRE and the input switch closes. -/
  | prechargeComplete (diff : Nat)
  /-- SEATED_OPEN, R457. A SEATED# contact open for 20 µs turns outputs off, flushes and holds the module in reset. -/
  | seatedOpen (c : Nat) (held : Nat)
  /-- SEATED_MATED, R456. Both SEATED# contacts mated for 100 ms enable outputs or begin BOOT. -/
  | seatedMated (c : Nat) (held : Nat)
  /-- PLL_LOCK_LOSS, R461. A PLL loses lock and its domain clock stops. -/
  | pllLockLoss (d : Nat) (n : Nat) (cyc : Nat)
  /-- PLL_RELOCK, R461. A PLL relocks and its domain resumes. -/
  | pllRelock (d : Nat)
  /-- DROOP_THROTTLE_ON, R463. A core rail sags by 3 % and issue throttling starts. -/
  | droopThrottleOn (rail : Nat) (sag : Nat)
  /-- DROOP_THROTTLE_OFF, R464. Sag below 2 % for 100 ns ends throttling. -/
  | droopThrottleOff (sag : Nat) (held : Nat)
  /-- STRETCH_START, R464. Sag at 4.5 % within budget, or at 7 %, halves the stretched clocks. -/
  | stretchStart (rail : Nat) (sag : Nat) (copying : Bool) (chunk : Nat)
  /-- STRETCH_END, R464. Sag below 3.5 % for 100 ns, or the budget, ends the stretch. -/
  | stretchEnd (rail : Nat) (sag : Nat) (held : Nat)
  /-- STRETCH_BUDGET_RESET, R464. At each Class A boundary, or each 1 ms of TB4, the stretch budget resets. -/
  | stretchBudgetReset
  /-- WAKE_RTC, R469. The RTC reaches WAKE.ALARM and wakes the module. -/
  | wakeRtc
  /-- WAKE_NETWORK, R469. A wake frame on a named port wakes the module. -/
  | wakeNetwork (port : Nat) (f : Bytes)
  /-- WAKE_CAN, R469. A CAN_WAKE input low for 10 µs wakes the module. -/
  | wakeCan (c : Nat) (held : Nat)
  /-- WAKE_REFEREE, R469. A valid GRANT naming the module on the REF lines wakes it. -/
  | wakeReferee (f : Bytes) (mac : Bool)
  /-- VBAT_MEASURE, R470. VBAT is measured under load every 60 s and classified. -/
  | vbatMeasure (mv : Int)
  /-- STARTUP_RAILS_GOOD, R471. Core rails are good and the SRAM and TCM wipe starts. -/
  | startupRailsGood
  /-- GATEHOUSE_RESET_RELEASE, R471. The Gatehouse reset is released and the boot ROM runs. -/
  | gatehouseResetRelease
  /-- WIPE_COMPLETE, R471. Shared SRAM and every TCM are wiped and verified. -/
  | wipeComplete (ok : Bool)
  /-- TRNG_SEEDED, R488. TRNG start-up tests pass, the DRBG is seeded and the DRAM key generated. -/
  | trngSeeded (ok : Bool)
  /-- DRAM_TRAINED, R471. DRAM is initialised and trained and its zero fill starts. -/
  | dramTrained (ok : Bool)
  /-- DRAM_ZERO_FILL_COMPLETE, R434. The zero fill completes and DRAM becomes reachable. -/
  | dramZeroFillComplete
  /-- IMAGES_VERIFIED, R489. Image signatures are verified and GATEHOUSE-FW runs, or SAFE-HALT follows. -/
  | imagesVerified (part : Nat) (code : Nat)
  /-- BOOT_LANE_BIST_COMPLETE, R144. Lane BIST at BOOT completes and the Trestles are formed. -/
  | bootLaneBistComplete (fails : List Nat)
  /-- DICT_LOAD, R49. The server loads and validates every persistent value from DICTSTORE. -/
  | dictLoad
  /-- FIRST_OPERATING_MODE, R428. Start-up completes and the module enters PROVISION, STANDBY or ACTIVE. -/
  | firstOperatingMode
  /-- CLAIM_VOUCHER, R477. A voucher written in PROVISION claims the module or is refused. -/
  | claimVoucher (src : Path) (v : Bytes) (sig : Bool)
  /-- LC_TOKEN_RELEASE, R478. A token with TARGET RELEASE returns an OWNED module to UNCLAIMED. -/
  | lcTokenRelease (src : Path) (v : Bytes) (sig : Bool)
  /-- LC_TOKEN_RETURN, R478. A token with TARGET RETURN moves an OWNED module to RETURNED. -/
  | lcTokenReturn (src : Path) (v : Bytes) (sig : Bool)
  /-- LC_TOKEN_SCRAP, R478. A token with TARGET SCRAP moves the module to SCRAPPED. -/
  | lcTokenScrap (src : Path) (v : Bytes) (sig : Bool)
  /-- LC_TOKEN_REFURBISH, R478. A Deluzon token with TARGET REFURBISH moves a RETURNED module to UNCLAIMED. -/
  | lcTokenRefurbish (src : Path) (v : Bytes) (sig : Bool)
  /-- LC_TOKEN_FINALISE, R478. A Deluzon finalisation token moves MANUFACTURE to UNCLAIMED. -/
  | lcTokenFinalise (src : Path) (v : Bytes) (sig : Bool)
  /-- ICEHOUSE_MONITOR_SAMPLE, R483. The Icehouse samples its tamper monitors. -/
  | icehouseMonitorSample (mesh : Bool) (lid : Nat) (temp : Int) (volt : Bool) (clock : Bool)
  /-- TAMPER_CONFIRM, R483. A second reading confirms a tamper indication and the alarm response applies. -/
  | tamperConfirm (mesh : Bool) (lid : Nat) (temp : Int) (volt : Bool) (clock : Bool) (mv : Nat)
  /-- SEALED_COPY_DESTROYED, R485. After an ERASE on main power the sealed copy is destroyed and the transition completes. -/
  | sealedCopyDestroyed
  /-- ERASE_RESET_EXPIRY, R485. 1 s after the sealed copy is destroyed the module resets with cause 7. -/
  | eraseResetExpiry
  /-- ALARM_ACK, R487. An OWNER write of 1 to ALARM.ACK acknowledges alarm records and may restore the store. -/
  | alarmAck (src : Path) (v : Nat)
  /-- SERVICE_PUB_WRITE, R480. A write of KEYS.SERVICE_PUB replaces OWNER_SERVICE in the key store. -/
  | servicePubWrite (src : Path) (v : Bytes)
  /-- TRNG_HEALTH_FAIL, R488. A continuous health test fails and the TRNG becomes DEGRADED or FAULT. -/
  | trngHealthFail (test : Nat)
  /-- DRBG_RESEED, R488. The DRBG reseeds every 1 s or after 65,536 requests. -/
  | drbgReseed
  /-- DEBUG_TOKEN, R490. A debug token opens an authenticated debug session or is refused. -/
  | debugToken (src : Path) (v : Bytes) (sig : Bool) (jtag : Bool)
  /-- DEBUG_CLOSE, R490. A write of 1 to DBG.CLOSE ends the debug session. -/
  | debugClose (src : Path) (v : Nat)
  /-- DEBUG_EXPIRY, R490. The debug session ends at its EXPIRY. -/
  | debugExpiry
  /-- UPD_START, R495. A write of 1 to UPD.START checks the manifest and starts or resumes staging. -/
  | updStart (src : Path) (safety : Bool) (vendor : Bool) (owner : Bool)
  /-- UPD_CANCEL, R496. A write of 2 to UPD.START cancels staging. -/
  | updCancel (src : Path)
  /-- UPD_PART_IMAGE_WRITE, R496. Host software pushes a part's ciphertext into IMAGES. -/
  | updPartImageWrite (src : Path) (k : Nat) (v : Bytes) (ok : Bool)
  /-- UPD_PART_DOWNLOAD_COMPLETE, R496. The update engine completes a download of a part. -/
  | updPartDownloadComplete (k : Nat) (data : Bytes) (ok : Bool)
  /-- UPD_PART_VERIFIED, R496. A part written to its inactive NOR slot is read back and verified, or FAILED. -/
  | updPartVerified (k : Nat) (ok : Bool)
  /-- UPD_ACTIVATE_STANDBY, R498. A write of 1 to UPD.ACTIVATE on a STANDBY module activates the staged set. -/
  | updActivateStandby (src : Path)
  /-- UPD_ACTIVATE_STOP, R498. A write of 2 to UPD.ACTIVATE activates on an ACTIVE module, stopping control. -/
  | updActivateStop (src : Path)
  /-- ACTIVATION_RECORD_WRITTEN, R498. The TRIAL activation record is written and the module resets with cause 8. -/
  | activationRecordWritten
  /-- TRIAL_COMMIT, R502. Every trial check passes and the set is committed with counters and sections updated. -/
  | trialCommit (ok : Bool) (part : Nat)
  /-- TRIAL_LIMIT_EXPIRY, R501. The trial limit passes and the module resets to revert. -/
  | trialLimitExpiry
  /-- UPD_PREPARED_WRITE, R504. A write of UPD.PREPARED marks a differing section as prepared. -/
  | updPreparedWrite (src : Path) (v : Nat)
  /-- ILLEGAL_OPCODE, R118. An instruction word with an unassigned opcode, a non-zero reserved field or a forbidden operand kind raises an illegal-opcode trap. -/
  | illegalOpcode (l : Nat) (sub : Nat)
  /-- REF_LINE_RELEASE, R226. A REF_RX line that was stuck low has been high for 1 ms and again carries valid frames, clearing REF.LINE_STUCK. -/
  | refLineRelease (held : Nat)
  /-- LOCKSTEP_FAULT, R264. The two cores of the safety processor disagree in operation, latching LOCKSTEP and putting the island in FAULT. -/
  | lockstepFault
  /-- SAFETY_WORD_RECEIVE, R265. The partner's decision word, with its ACTIVE_CRC and request-point values, arrives over the Causeway SAFETY class and is taken up. -/
  | safetyWordReceive (w : Nat) (crc : Nat) (req : Nat) (rst : Nat)
  /-- HEALTH_WORD_RECEIVE, R239. The partner's health word arrives over CONTROL and updates HEALTH.PARTNER and the pair's protection state. -/
  | healthWordReceive (f : Bytes)
  /-- PARTNER_EVENT_RECEIVE, R406. An event forwarded by the partner over the Causeway EVENT class is recorded with FROM_PARTNER and a local SEQ. -/
  | partnerEventReceive (f : Bytes)
  /-- PAVSTORE_PARTNER_WRITE, R396. A PAVSTORE WRITE or TRIM mirrored by the ACTIVE module arrives over BULK and is placed in the partner's journal, after which the origin completes it. -/
  | pavstorePartnerWrite (p : Nat) (trim : Bool) (off : Nat) (len : Nat) (data : Bytes)
  /-- PARTNER_SYNC_HOLD_EXPIRY, R354. A PARTNER time base loses its synchronised quality 1 s after the Causeway went DOWN. -/
  | partnerSyncHoldExpiry
  /-- LEAP_SECOND, R355. At the end of the UTC day a leap second announced in TIME.LEAP is applied to UTC_OFFSET and LEAP is cleared. -/
  | leapSecond
  /-- FRAME_TRANSMIT_COMPLETE, R340. An Ethernet frame finishes transmission; the egress timestamp is taken and a ring entry is written DONE. -/
  | frameTransmitComplete (n : Nat)
  /-- TPDO_INHIBIT_EXPIRY, R379. The inhibit time of an event-driven TPDO runs out and a change held back by it is sent. -/
  | tpdoInhibitExpiry (c : Nat) (n : Nat)
  /-- GARBAGE_COLLECTION, R401. The storage engine starts a garbage-collection relocation of valid data to reclaim blocks. -/
  | garbageCollection (die : Nat) (blk : Nat) (to_ : Nat) (phase : Nat)
  /-- PARTITION_RESIZE_COMPLETE, R401. The last move of a partition resize is recorded and the partition takes its new bounds. -/
  | partitionResizeComplete
  /-- STATUS3_TOGGLE, R508. The STATUS3 open-drain output toggles every 500 ms while Gatehouse firmware runs. -/
  | status3Toggle
  deriving DecidableEq, Repr

end Sys2Proof
end

