-- ==== Sys2Proof/Machine/Tab.lean ====
section
/-! DEFINITION. Sparse tables and byte strings: read, write and copy in one canonical form; little-endian packing (R5). -/

namespace Sys2Proof.Machine

/-- Read a table: the listed value, or the default `d`. -/
def Tab.get {α : Type} (t : Sparse α) (k : Nat) (d : α) : α :=
  match t with
  | [] => d
  | (k', v) :: r => if k' = k then v else Tab.get r k d

/-- Write a table, keeping the canonical form: writing the default `d` removes the entry, and every other entry with its
key should the table not be canonical. -/
def Tab.put {α : Type} [DecidableEq α] (t : Sparse α) (k : Nat) (v d : α) : Sparse α :=
  match t with
  | [] => if v = d then [] else [(k, v)]
  | (k', v') :: r =>
    if k < k' then (if v = d then (k', v') :: Tab.put r k v d else (k, v) :: (k', v') :: r)
    else if k = k' then (if v = d then Tab.put r k v d else (k, v) :: r)
    else (k', v') :: Tab.put r k v d

/-- Apply `f` to one entry. -/
def Tab.upd {α : Type} [DecidableEq α] (t : Sparse α) (k : Nat) (d : α) (f : α → α) : Sparse α :=
  Tab.put t k (f (Tab.get t k d)) d

/-- Every key of the table is at least `b`. -/
def Tab.above {α : Type} (b : Nat) (t : Sparse α) : Prop := ∀ e ∈ t, b ≤ e.1

/-- The canonical form: keys strictly rising and no value equal to the default of its key. -/
def Tab.wf {α : Type} [DecidableEq α] (d : Nat → α) : Sparse α → Bool
  | [] => true
  | [(k, v)] => v ≠ d k
  | (k, v) :: (k', v') :: r => v ≠ d k && k < k' && Tab.wf d ((k', v') :: r)

/-- The `n` low-order bytes of `v`, little-endian (R5). -/
def le (n v : Nat) : Bytes :=
  match n with
  | 0 => []
  | n + 1 => BitVec.ofNat 8 v :: le n (v / 256)

/-- The number a little-endian byte string holds (R5). -/
def ofLe (b : Bytes) : Nat :=
  match b with
  | [] => 0
  | x :: r => x.toNat + 256 * ofLe r

/-- The two's complement reading of an `n`-byte number. -/
def signed (n v : Nat) : Int := if 2 * v ≥ 256 ^ n then (v : Int) - 256 ^ n else v

/-- The `n`-byte two's complement form of an integer. -/
def unsigned (n : Nat) (v : Int) : Nat := (v % (256 ^ n : Int)).toNat

/-- Field hi:lo of a word. -/
def bits (v hi lo : Nat) : Nat := (v / 2 ^ lo) % 2 ^ (hi - lo + 1)

/-- Bit i of a word. -/
def bitOf (v i : Nat) : Bool := v.testBit i

/-- A Bool as 0 or 1. -/
def b2n (b : Bool) : Nat := if b then 1 else 0

/-- A word with bit i set to `b`. -/
def setBit (v i : Nat) (b : Bool) : Nat := if bitOf v i then (if b then v else v - 2 ^ i) else (if b then v + 2 ^ i else v)

/-- A word with field hi:lo replaced. -/
def setBits (v hi lo x : Nat) : Nat := v - bits v hi lo * 2 ^ lo + (x % 2 ^ (hi - lo + 1)) * 2 ^ lo

/-- Byte `i` of a byte string, 0 beyond its end. -/
def byteAt (b : Bytes) (i : Nat) : Nat := (b.getD i 0).toNat

/-- `n` bytes of a byte string from offset `o`, padded with zeros. -/
def slice (b : Bytes) (o n : Nat) : Bytes := ((b.drop o).take n) ++ List.replicate (n - (b.length - o)) 0

/-- The little-endian number of `n` bytes at offset `o`. -/
def fieldAt (b : Bytes) (o n : Nat) : Nat := ofLe ((b.drop o).take n)

/-- Bit `i` of a bit map held in a byte string. -/
def mapBit (b : Bytes) (i : Nat) : Bool := bitOf (byteAt b (i / 8)) (i % 8)

/-- A byte string padded with zeros, or cut, to `n` bytes. -/
def padTo (n : Nat) (b : Bytes) : Bytes := b.take n ++ List.replicate (n - b.length) 0

/-- A bit map of `n` bytes with bit m set for each m of the list (R528). -/
def bitMap (n : Nat) (ms : List Nat) : Bytes := le n ((List.range (8 * n)).foldl (fun a m => if ms.contains m then a + 2 ^ m else a) 0)

/-- A byte string with the bytes from offset `o` replaced by `x`. -/
def overlay (b : Bytes) (o : Nat) (x : Bytes) : Bytes := b.take o ++ x ++ b.drop (o + x.length)

/-- Saturating increment. -/
def satInc (cap v : Nat) : Nat := if v < cap then v + 1 else v

/-- Saturating addition. -/
def satAdd (cap v d : Nat) : Nat := min cap (v + d)

/-- A list kept to its `n` first elements, a new one put in front. -/
def pushFront {α : Type} (n : Nat) (x : α) (l : List α) : List α := (x :: l).take n

end Sys2Proof.Machine
end

