-- ==== Sys2Proof/Machine/Float.lean ====
section
/-! DEFINITION. IEEE 754 binary32 and binary64 over bit patterns, rounding to nearest even, subnormals in full (R128,
R316, R322). A result is its bit pattern and whether the operation was invalid. -/

namespace Sys2Proof.Machine

/-- A binary format: precision with the hidden bit, and exponent width. -/
structure Fmt where
  p : Nat
  ew : Nat
  deriving DecidableEq, Repr

def f32 : Fmt := { p := 24, ew := 8 }
def f64 : Fmt := { p := 53, ew := 11 }

def Fmt.bias (f : Fmt) : Nat := 2 ^ (f.ew - 1) - 1
/-- The format's width in bits. -/
def Fmt.width (f : Fmt) : Nat := f.p + f.ew
/-- The default quiet NaN of R128. -/
def Fmt.qnan (f : Fmt) : Nat := (2 ^ f.ew - 1) * 2 ^ (f.p - 1) + 2 ^ (f.p - 2)
def Fmt.signBit (f : Fmt) (s : Bool) : Nat := if s then 2 ^ (f.p + f.ew - 1) else 0
def Fmt.inf (f : Fmt) (s : Bool) : Nat := f.signBit s + (2 ^ f.ew - 1) * 2 ^ (f.p - 1)

/-- What a bit pattern stands for: a finite value is ±m × 2^e. -/
inductive FVal where
  | nan (signalling : Bool)
  | inf (s : Bool)
  | fin (s : Bool) (m : Nat) (e : Int)
  deriving DecidableEq, Repr

/-- Read a bit pattern. -/
def Fmt.read (f : Fmt) (v : Nat) : FVal :=
  let s := v.testBit (f.p + f.ew - 1)
  let x := v / 2 ^ (f.p - 1) % 2 ^ f.ew
  let m := v % 2 ^ (f.p - 1)
  let low : Int := 2 - (f.bias : Int) - (f.p : Int)
  if x = 2 ^ f.ew - 1 then (if m = 0 then .inf s else .nan (!m.testBit (f.p - 2)))
  else if x = 0 then .fin s m low
  else .fin s (m + 2 ^ (f.p - 1)) (low + x - 1)

/-- Number of bits of a number. -/
def bitLen (n : Nat) : Nat := if n = 0 then 0 else n.log2 + 1

/-- Round ±m × 2^e, with `st` for a remainder below its last bit, to nearest even. -/
def Fmt.round (f : Fmt) (s : Bool) (m : Nat) (e : Int) (st : Bool) : Nat :=
  let low : Int := 2 - (f.bias : Int) - (f.p : Int)
  let q : Int := max (e + bitLen m - f.p) low
  let r : Nat × Int :=
    if q ≤ e then (m * 2 ^ (e - q).toNat, q)
    else
      let k := (q - e).toNat
      let t := m / 2 ^ k
      let rest := m % 2 ^ k
      let half := 2 ^ (k - 1)
      let up := rest > half || (rest = half && (st || t % 2 = 1))
      (if up then t + 1 else t, q)
  let r := if r.1 = 2 ^ f.p then (2 ^ (f.p - 1), r.2 + 1) else r
  if r.1 < 2 ^ (f.p - 1) then f.signBit s + r.1
  else
    let x := (r.2 - low).toNat + 1
    if x ≥ 2 ^ f.ew - 1 then f.inf s else f.signBit s + x * 2 ^ (f.p - 1) + (r.1 - 2 ^ (f.p - 1))

/-- A float result: bit pattern, and the operation was invalid. -/
abbrev FRes := Nat × Bool

def Fmt.invalid (f : Fmt) : FRes := (f.qnan, true)
def Fmt.quiet (f : Fmt) : FRes := (f.qnan, false)
/-- A NaN operand: invalid where one operand is signalling. -/
def Fmt.nanOf (f : Fmt) (l : List FVal) : FRes := if l.contains (.nan true) then f.invalid else f.quiet

/-- The sum of ±m × 2^e values at a common exponent; an exact zero is +0 but for two negative zeros. -/
def Fmt.addFin (f : Fmt) (s : Bool) (m : Nat) (e : Int) (s' : Bool) (m' : Nat) (e' : Int) : Nat :=
  let c := min e e'
  let a : Int := (if s then -1 else 1) * ((m * 2 ^ (e - c).toNat : Nat) : Int)
  let b : Int := (if s' then -1 else 1) * ((m' * 2 ^ (e' - c).toNat : Nat) : Int)
  let t := a + b
  if t = 0 then f.signBit (s && s') else f.round (t < 0) t.natAbs c false

def Fmt.add (f : Fmt) (x y : Nat) : FRes :=
  match f.read x, f.read y with
  | .fin s m e, .fin s' m' e' => (f.addFin s m e s' m' e', false)
  | .inf s, .inf s' => if s = s' then (f.inf s, false) else f.invalid
  | .inf s, .fin _ _ _ => (f.inf s, false)
  | .fin _ _ _, .inf s => (f.inf s, false)
  | a, b => f.nanOf [a, b]

/-- The bit pattern with its sign turned. -/
def Fmt.neg (f : Fmt) (x : Nat) : Nat := if x.testBit (f.p + f.ew - 1) then x - f.signBit true else x + f.signBit true

def Fmt.sub (f : Fmt) (x y : Nat) : FRes :=
  match f.read x, f.read y with
  | .nan a, b => f.nanOf [.nan a, b]
  | a, .nan b => f.nanOf [a, .nan b]
  | _, _ => f.add x (f.neg y)

def Fmt.mul (f : Fmt) (x y : Nat) : FRes :=
  match f.read x, f.read y with
  | .fin s m e, .fin s' m' e' => (if m * m' = 0 then f.signBit (s ^^ s') else f.round (s ^^ s') (m * m') (e + e') false, false)
  | .inf s, .inf s' => (f.inf (s ^^ s'), false)
  | .inf s, .fin s' m _ => if m = 0 then f.invalid else (f.inf (s ^^ s'), false)
  | .fin s m _, .inf s' => if m = 0 then f.invalid else (f.inf (s ^^ s'), false)
  | a, b => f.nanOf [a, b]

def Fmt.div (f : Fmt) (x y : Nat) : FRes :=
  match f.read x, f.read y with
  | .fin s m e, .fin s' m' e' =>
    if m' = 0 then (if m = 0 then f.invalid else (f.inf (s ^^ s'), false))
    else if m = 0 then (f.signBit (s ^^ s'), false)
    else
      let k := 2 * f.p + 2
      let n := m * 2 ^ k
      (f.round (s ^^ s') (n / m') (e - e' - k) (n % m' ≠ 0), false)
  | .inf _, .inf _ => f.invalid
  | .inf s, .fin s' _ _ => (f.inf (s ^^ s'), false)
  | .fin s _ _, .inf s' => (f.signBit (s ^^ s'), false)
  | a, b => f.nanOf [a, b]

/-- The integer square root by bits, from bit `i` down. -/
def isqrt (n : Nat) (i r : Nat) : Nat :=
  match i with
  | 0 => if (r + 1) * (r + 1) ≤ n then r + 1 else r
  | j + 1 => isqrt n j (if (r + 2 ^ (j + 1)) * (r + 2 ^ (j + 1)) ≤ n then r + 2 ^ (j + 1) else r)

def Fmt.sqrt (f : Fmt) (x : Nat) : FRes :=
  match f.read x with
  | .fin s m e =>
    if m = 0 then (f.signBit s, false)
    else if s then f.invalid
    else
      let k := 2 * f.p + 4
      let k := if (e - k) % 2 = 0 then k else k + 1
      let n := m * 2 ^ k
      let r := isqrt n (bitLen n / 2 + 1) 0
      (f.round false r ((e - k) / 2) (r * r ≠ n), false)
  | .inf s => if s then f.invalid else (f.inf false, false)
  | a => f.nanOf [a]

/-- x × y + z, rounded once. -/
def Fmt.fma (f : Fmt) (x y z : Nat) : FRes :=
  match f.read x, f.read y, f.read z with
  | .fin s m e, .fin s' m' e', .fin t n d => (f.addFin (s ^^ s') (m * m') (e + e') t n d, false)
  | .fin _ _ _, .fin _ _ _, .inf t => (f.inf t, false)
  | a, b, c =>
    let infProd (s : Bool) : FRes :=
      match c with
      | .inf t => if s = t then (f.inf s, false) else f.invalid
      | .nan g => f.nanOf [.nan g]
      | .fin _ _ _ => (f.inf s, false)
    match a, b with
    | .inf s, .inf s' => infProd (s ^^ s')
    | .inf s, .fin s' m _ => if m = 0 then f.invalid else infProd (s ^^ s')
    | .fin s m _, .inf s' => if m = 0 then f.invalid else infProd (s ^^ s')
    | a, b => f.nanOf [a, b, c]

/-- The order of two values, none where one is a NaN. -/
def FVal.cmp (a b : FVal) : Option Ordering :=
  let num (s : Bool) (m : Nat) (e c : Int) : Int := (if s then -1 else 1) * ((m * 2 ^ (e - c).toNat : Nat) : Int)
  match a, b with
  | .nan _, _ => none
  | _, .nan _ => none
  | .inf s, .inf s' => some (if s = s' then .eq else if s then .lt else .gt)
  | .inf s, .fin _ _ _ => some (if s then .lt else .gt)
  | .fin _ _ _, .inf s => some (if s then .gt else .lt)
  | .fin s m e, .fin s' m' e' => some (compare (num s m e (min e e')) (num s' m' e' (min e e')))

/-- A comparison: its outcome, none where an operand is a NaN; and whether an operand is signalling (invalid). -/
def Fmt.cmp (f : Fmt) (x y : Nat) : Option Ordering × Bool :=
  ((f.read x).cmp (f.read y), f.read x = .nan true || f.read y = .nan true)

def Fmt.lt (f : Fmt) (x y : Nat) : Bool := (f.cmp x y).1 = some .lt
def Fmt.le (f : Fmt) (x y : Nat) : Bool := (f.cmp x y).1 = some .lt || (f.cmp x y).1 = some .eq
def Fmt.eq (f : Fmt) (x y : Nat) : Bool := (f.cmp x y).1 = some .eq
/-- The value is a NaN or an infinity. -/
def Fmt.notFinite (f : Fmt) (x : Nat) : Bool :=
  match f.read x with
  | .fin _ _ _ => false
  | _ => true

/-- The float nearest to an integer. -/
def Fmt.ofInt (f : Fmt) (v : Int) : Nat := if v = 0 then 0 else f.round (v < 0) v.natAbs 0 false

/-- The integer nearest to a finite value, to nearest even or toward zero. -/
def finToInt (rne : Bool) (s : Bool) (m : Nat) (e : Int) : Int :=
  let a : Nat :=
    if 0 ≤ e then m * 2 ^ e.toNat
    else
      let k := (-e).toNat
      let t := m / 2 ^ k
      let rest := m % 2 ^ k
      if rne && (rest > 2 ^ (k - 1) || (rest = 2 ^ (k - 1) && t % 2 = 1)) then t + 1 else t
  if s then -(a : Int) else a

/-- Convert a value to another format. -/
def Fmt.conv (f g : Fmt) (x : Nat) : FRes :=
  match f.read x with
  | .fin s m e => (if m = 0 then g.signBit s else g.round s m e false, false)
  | .inf s => (g.inf s, false)
  | .nan q => g.nanOf [.nan q]

/-- Plain binary32 arithmetic of the converters and loops (R315, R316, R321, R322). -/
def fadd (x y : Nat) : Nat := (f32.add x y).1
def fsub (x y : Nat) : Nat := (f32.sub x y).1
def fmul (x y : Nat) : Nat := (f32.mul x y).1
def fdiv (x y : Nat) : Nat := (f32.div x y).1
def fmax (x y : Nat) : Nat := if f32.lt x y then y else x
def fmin (x y : Nat) : Nat := if f32.lt y x then y else x
/-- The absolute value. -/
def fabs (x : Nat) : Nat := x % 2 ^ 31

/-- The binary32 number nearest to n / d. -/
def frat (n : Int) (d : Nat) : Nat :=
  if n = 0 then 0 else
  f32.round (n < 0) (n.natAbs * 2 ^ 80 / d) (-80) (n.natAbs * 2 ^ 80 % d ≠ 0)

end Sys2Proof.Machine
end

