-- ==== Sys2Proof/Config.lean ====
section
/-! DEFINITION. What one module has fixed in OTP or in its installed images, and the free values: values the spec
leaves open. None of them has a body, so no proof can see what it is. -/

namespace Sys2Proof.Config

/-- R2, R58: serial number, from OTP. -/
opaque serial : BitVec 32
/-- R58: Deluzon's CiA vendor identifier, from OTP. -/
opaque vendorId : BitVec 32
/-- R58: hardware revision, from OTP. -/
opaque hwRevision : BitVec 32
/-- R58: hardware revision text, from OTP. -/
opaque hwVersion : Bytes
/-- R58: software version text of the running GATEHOUSE-FW. -/
opaque swVersion : Bytes
/-- R1: part number text, from OTP. -/
opaque partNumber : Bytes
/-- R2: grade, from OTP: `false` Industrial, `true` Rail. -/
opaque railGrade : Bool
/-- R445: MAC address of the service port, from OTP. -/
opaque serviceMac : Bytes
/-- R334: bridge MAC address, from OTP. -/
opaque bridgeMac : Bytes
/-- R479: the device certificate, from the boot NOR. -/
opaque deviceCert : Bytes
/-- R527: what the factory set carries, less 1, by entry key: no such value reads 0. -/
opaque factorySet : Nat → BitVec 31
/-- R225: HMAC-SHA-384 of a message under a key, truncated to 16 bytes. -/
opaque mac : Bytes → Bytes → BitVec 128
/-- R245: what the translation table of a CHECKPOINT-SCHEMA makes of a page, from one version to another. -/
opaque translate : Nat → Nat → Nat → Bytes → Bytes
/-- R492: FLAGS of the factory set's CHECKPOINT-SCHEMA part. -/
opaque ckptFlags : BitVec 2
/-- R527: SHA-384 of the factory image of part k, k = 1 to 9. -/
opaque factoryHash : Nat → BitVec 384
/-- R489: the anti-rollback counter of part k in OTP as manufactured. -/
opaque rollback : Nat → BitVec 16
/-- R58: the software version text of a committed set, by its MANIFEST_ID. -/
opaque swVersionOf : Nat → Bytes

/-- R313: the readback current, as binary32 mA, that a code of ADC4 stands for: the spec does not state the scale. -/
opaque readbackMa : Nat → BitVec 32
/-- R313: the supply voltage in mV that a code of ADC4 stands for: the spec does not state the scale. -/
opaque supplyMv : Nat → BitVec 16

/-- 0x2100:05: the module's power in mW over the 100 ms before an instant, in ns, which no command states; log entry 24. -/
opaque logicMw : Nat → BitVec 32
/-- A value the spec leaves open: the n-th one drawn in a run (nonces, keys, random bits, and results the spec does
not state). `State.fresh` counts them. -/
opaque freeValue : Nat → BitVec 512

end Sys2Proof.Config
end

