-- ==== Sys2Proof/Machine/Crc.lean ====
section
/-! DEFINITION. Cyclic redundancy checks: CRC-32C, CRC-16/CCITT and the zero-run coding of checkpoint pages (R219,
R220, R225, R275, R446). -/

namespace Sys2Proof.Machine

/-- One byte into a reflected CRC of polynomial `poly`. -/
def crcByte (poly c : Nat) (b : Byte) : Nat :=
  (List.range 8).foldl (fun c _ => if c % 2 = 1 then c / 2 ^^^ poly else c / 2) (c ^^^ b.toNat)

/-- CRC-32C (Castagnoli): reflected 0x82F63B78, initial and final exclusive or all ones. -/
def crc32c (b : Bytes) : Nat := (b.foldl (crcByte 0x82F63B78) 0xFFFFFFFF) ^^^ 0xFFFFFFFF

/-- CRC-16/CCITT, initial 0xFFFF, polynomial 0x1021, most significant bit first (R446, R56 with initial 0). -/
def crc16 (init : Nat) (b : Bytes) : Nat :=
  b.foldl (fun c x => (List.range 8).foldl
    (fun c _ => if c ≥ 0x8000 then (c * 2 ^^^ 0x1021) % 65536 else c * 2 % 65536) (c ^^^ x.toNat * 256)) init

/-- The first `n` words from the front of `l` that are all zero, or all non-zero, at most 128 (R220). -/
def runOf (zero : Bool) (l : List Nat) (n : Nat) : Nat :=
  match l, n with
  | _, 0 => 0
  | [], _ => 0
  | x :: r, n + 1 => if (x == 0) == zero then 1 + runOf zero r n else 0

/-- R220: the zero-run coding of a page given as words; `fuel` bounds the tokens. -/
def zeroRun (fuel : Nat) (d : List Nat) : Bytes :=
  match fuel, d with
  | 0, _ => []
  | _, [] => []
  | f + 1, x :: r =>
    let zero := x == 0
    let n := runOf zero (x :: r) 128
    if zero then le 1 (n - 1) ++ zeroRun f ((x :: r).drop n)
    else le 1 (0x80 + n - 1) ++ ((x :: r).take n).flatMap (le 8) ++ zeroRun f ((x :: r).drop n)

/-- R220: decode a page body into words; none where a token runs past the body. -/
def unzeroRun (fuel : Nat) (b : Bytes) : Option (List Nat) :=
  match fuel, b with
  | 0, [] => some []
  | 0, _ :: _ => none
  | _ + 1, [] => some []
  | f + 1, t :: r =>
    if t.toNat < 0x80 then (unzeroRun f r).map (List.replicate (t.toNat + 1) 0 ++ ·)
    else
      let n := t.toNat - 0x80 + 1
      if r.length < 8 * n then none
      else (unzeroRun f (r.drop (8 * n))).map ((List.range n).map (fun i => fieldAt r (8 * i) 8) ++ ·)

/-- R220: a page coded against its reference. -/
def encodePage (new ref : Bytes) : Bytes :=
  zeroRun 512 ((List.range 512).map (fun i => fieldAt new (8 * i) 8 ^^^ fieldAt ref (8 * i) 8))

/-- R220: a page decoded against its reference; none where the decoding does not cover exactly 512 words. -/
def decodePage (body ref : Bytes) : Option Bytes :=
  match unzeroRun 512 body with
  | some d => if d.length = 512 then some ((List.range 512).flatMap (fun i => le 8 (d.getD i 0 ^^^ fieldAt ref (8 * i) 8))) else none
  | none => none

end Sys2Proof.Machine
end

