-- ==== Sys2Proof/Machine/DictDefs.lean ====
section
/-! DEFINITION. The parameter dictionary's rows, transcribed from the "Dictionary entries" tables of spec/02 to
spec/18 (R37, R38, R58): one row for each entry, with the indices it is repeated at, its type, access code (R5),
role (R6), persistence, admitted values (R8, R45 step 7), reserved bits and default. -/

namespace Sys2Proof.Machine

/-- One line of a dictionary table: `n` indices from `base` at distance `stride`, subindices `s0` to `s1`. -/
structure DictRow where
  name : String
  base : Nat
  n : Nat
  stride : Nat
  s0 : Nat
  s1 : Nat
  ty : DType
  size : Nat
  acc : Access
  role : Role
  persistent : Bool
  ranges : List (Int × Int)
  reserved : Nat
  dflt : List Int
  deriving DecidableEq, Repr

/-- Rows 0 to 39 of the dictionary tables. -/
def dictRows0 : List DictRow :=
  [⟨"COMM.DEVICE_TYPE", 0x1000, 1, 1, 0, 0, .u32, 4, .ro, .viewer, false, [], 0, [0]⟩,
   ⟨"COMM.DEVICE_NAME", 0x1008, 1, 1, 0, 0, .str, 16, .ro, .viewer, false, [], 0, [0]⟩,
   ⟨"COMM.HW_VERSION", 0x1009, 1, 1, 0, 0, .str, 16, .ro, .viewer, false, [], 0, [0]⟩,
   ⟨"COMM.SW_VERSION", 0x100A, 1, 1, 0, 0, .str, 32, .ro, .viewer, false, [], 0, [0]⟩,
   ⟨"COMM.ID.VENDOR", 0x1018, 1, 1, 1, 1, .u32, 4, .ro, .viewer, false, [], 0, [0]⟩,
   ⟨"COMM.ID.PRODUCT", 0x1018, 1, 1, 2, 2, .u32, 4, .ro, .viewer, false, [], 0, [28992]⟩,
   ⟨"COMM.ID.REVISION", 0x1018, 1, 1, 3, 3, .u32, 4, .ro, .viewer, false, [], 0, [0]⟩,
   ⟨"COMM.ID.SERIAL", 0x1018, 1, 1, 4, 4, .u32, 4, .ro, .viewer, false, [], 0, [0]⟩,
   ⟨"COMM.RPDO.PARAM.Cobid", 0x1400, 512, 1, 1, 1, .u32, 4, .rw, .engineer, true, [], 0, [2147483648]⟩,
   ⟨"COMM.RPDO.PARAM.Type", 0x1400, 512, 1, 2, 2, .u8, 1, .rw, .engineer, true, [], 0, [0]⟩,
   ⟨"COMM.RPDO.PARAM.Inhibit", 0x1400, 512, 1, 3, 3, .u16, 2, .rw, .engineer, true, [], 0, [0]⟩,
   ⟨"COMM.RPDO.PARAM.Compat", 0x1400, 512, 1, 4, 4, .u8, 1, .rw, .engineer, true, [], 0, [0]⟩,
   ⟨"COMM.RPDO.PARAM.Event", 0x1400, 512, 1, 5, 5, .u16, 2, .rw, .engineer, true, [], 0, [0]⟩,
   ⟨"COMM.RPDO.MAP", 0x1600, 512, 1, 1, 64, .u32, 4, .rw, .engineer, true, [], 0, [0]⟩,
   ⟨"COMM.TPDO.PARAM.Cobid", 0x1800, 512, 1, 1, 1, .u32, 4, .rw, .engineer, true, [], 0, [2147483648]⟩,
   ⟨"COMM.TPDO.PARAM.Type", 0x1800, 512, 1, 2, 2, .u8, 1, .rw, .engineer, true, [], 0, [0]⟩,
   ⟨"COMM.TPDO.PARAM.Inhibit", 0x1800, 512, 1, 3, 3, .u16, 2, .rw, .engineer, true, [], 0, [0]⟩,
   ⟨"COMM.TPDO.PARAM.Compat", 0x1800, 512, 1, 4, 4, .u8, 1, .rw, .engineer, true, [], 0, [0]⟩,
   ⟨"COMM.TPDO.PARAM.Event", 0x1800, 512, 1, 5, 5, .u16, 2, .rw, .engineer, true, [], 0, [0]⟩,
   ⟨"COMM.TPDO.PARAM.SyncStart", 0x1800, 512, 1, 6, 6, .u8, 1, .rw, .engineer, true, [], 0, [0]⟩,
   ⟨"COMM.TPDO.MAP", 0x1A00, 512, 1, 1, 64, .u32, 4, .rw, .engineer, true, [], 0, [0]⟩,
   ⟨"COMM.C.ERROR_REG", 0x1E00, 8, 16, 0, 0, .u8, 1, .ro, .viewer, false, [], 0, [0]⟩,
   ⟨"COMM.C.ERROR_FIELD", 0x1E01, 8, 16, 0, 16, .u32, 4, .rw, .operator, false, [], 0, [0]⟩,
   ⟨"COMM.C.SYNC_COBID", 0x1E02, 8, 16, 0, 0, .u32, 4, .rw, .engineer, true, [], 0, [128]⟩,
   ⟨"COMM.C.CYCLE", 0x1E03, 8, 16, 0, 0, .u32, 4, .rw, .engineer, true, [], 0, [0]⟩,
   ⟨"COMM.C.EMCY_COBID", 0x1E04, 8, 16, 0, 0, .u32, 4, .rw, .engineer, true, [], 0, [0]⟩,
   ⟨"COMM.C.EMCY_INHIBIT", 0x1E05, 8, 16, 0, 0, .u16, 2, .rw, .engineer, true, [], 0, [0]⟩,
   ⟨"COMM.C.HB_CONSUMER", 0x1E06, 8, 16, 1, 8, .u32, 4, .rw, .engineer, true, [], 0, [0]⟩,
   ⟨"COMM.C.HB_PRODUCER", 0x1E07, 8, 16, 0, 0, .u16, 2, .rw, .engineer, true, [], 0, [0]⟩,
   ⟨"COMM.C.SYNC_OVERFLOW", 0x1E08, 8, 16, 0, 0, .u8, 1, .rw, .engineer, true, [], 0, [0]⟩,
   ⟨"COMM.C.SDO_SERVER", 0x1E09, 8, 16, 1, 2, .u32, 4, .ro, .viewer, false, [], 0, [0]⟩,
   ⟨"DICT.INFO.DEFINITIONS", 0x2040, 1, 1, 1, 1, .u16, 2, .ro, .viewer, false, [], 0, [7168]⟩,
   ⟨"DICT.INFO.INSTANCES", 0x2040, 1, 1, 2, 2, .u32, 4, .ro, .viewer, false, [], 0, [0]⟩,
   ⟨"DICT.SECTION.SCHEMA", 0x2041, 1, 1, 1, 24, .u32, 4, .ro, .viewer, false, [], 0, [0]⟩,
   ⟨"DICT.SECTION.RESETS", 0x2042, 1, 1, 1, 24, .u16, 2, .ro, .viewer, false, [], 0, [0]⟩,
   ⟨"DICT.SECTION.DEFAULTS", 0x2043, 1, 1, 0, 0, .u8, 1, .wo, .engineer, false, [(0, 23)], 0, [0]⟩,
   ⟨"DICT.DAP.PORT", 0x2044, 1, 1, 1, 1, .u16, 2, .rw, .owner, true, [(0, 65535)], 0, [7140]⟩,
   ⟨"DICT.DAP.ENABLE", 0x2044, 1, 1, 2, 2, .bool, 1, .rw, .owner, true, [(0, 1)], 0, [1]⟩,
   ⟨"DICT.DAP.IDLE", 0x2044, 1, 1, 3, 3, .u16, 2, .rw, .owner, true, [(10, 3600)], 0, [60]⟩,
   ⟨"DICT.DAP.RATE", 0x2044, 1, 1, 4, 4, .u16, 2, .rw, .owner, true, [(1, 5000)], 0, [200]⟩]

/-- Rows 40 to 79 of the dictionary tables. -/
def dictRows1 : List DictRow :=
  [⟨"DICT.DAP.BURST", 0x2044, 1, 1, 5, 5, .u16, 2, .rw, .owner, true, [(1, 500)], 0, [50]⟩,
   ⟨"DICT.DAP.OPEN", 0x2044, 1, 1, 6, 6, .u16, 2, .ro, .viewer, false, [], 0, [0]⟩,
   ⟨"DICT.DAP.REFUSED", 0x2044, 1, 1, 7, 7, .u32, 4, .ro, .viewer, false, [], 0, [0]⟩,
   ⟨"DICT.SDO.ROLE", 0x2045, 1, 1, 1, 8, .u8, 1, .rw, .owner, true, [(0, 1)], 0, [0]⟩,
   ⟨"DICT.WIN.LASTERR", 0x2046, 1, 1, 1, 128, .u64, 8, .rw, .pavilion, false, [], 0, [0]⟩,
   ⟨"DICT.WIN.LASTERR", 0x2047, 1, 1, 1, 128, .u64, 8, .rw, .pavilion, false, [], 0, [0]⟩,
   ⟨"DICT.STORE.USED", 0x2048, 1, 1, 1, 1, .u32, 4, .ro, .viewer, false, [], 0, [0]⟩,
   ⟨"DICT.STORE.CAPACITY", 0x2048, 1, 1, 2, 2, .u32, 4, .ro, .viewer, false, [], 0, [4194304]⟩,
   ⟨"SCAN.COUNT", 0x2600, 1, 1, 0, 0, .u8, 1, .ro, .viewer, false, [], 0, [5]⟩,
   ⟨"SCAN.PHASE", 0x2600, 1, 1, 1, 1, .u32, 4, .rw, .engineer, true, [(0, 999999999)], 0, [0]⟩,
   ⟨"SCAN.STEP_SUM", 0x2600, 1, 1, 2, 2, .i64, 8, .ro, .viewer, false, [], 0, [0]⟩,
   ⟨"SCAN.REALIGN", 0x2600, 1, 1, 3, 3, .bool, 1, .wo, .engineer, false, [(0, 1)], 0, [0]⟩,
   ⟨"SCAN.ENGINE_STATE", 0x2600, 1, 1, 4, 4, .u8, 1, .ro, .viewer, false, [], 0, [0]⟩,
   ⟨"SCAN.SWITCH_MAX", 0x2600, 1, 1, 5, 5, .u16, 2, .ro, .viewer, false, [], 0, [0]⟩,
   ⟨"SCAN.x.ENABLE", 0x2610, 3, 1, 1, 1, .bool, 1, .rw, .engineer, true, [(0, 1)], 0, [0, 1, 0]⟩,
   ⟨"SCAN.x.NUMBER", 0x2610, 3, 1, 2, 2, .u64, 8, .ro, .viewer, false, [], 0, [0]⟩,
   ⟨"SCAN.x.PERIOD", 0x2610, 3, 1, 3, 3, .u32, 4, .rw, .engineer, true, [], 0, [1000, 10000, 1000000]⟩,
   ⟨"SCAN.x.T_S", 0x2610, 3, 1, 4, 4, .u32, 4, .rw, .engineer, true, [], 0, [10, 10, 0]⟩,
   ⟨"SCAN.x.T_C", 0x2610, 3, 1, 5, 5, .u32, 4, .rw, .engineer, true, [], 0, [900, 9000, 900000]⟩,
   ⟨"SCAN.x.TS", 0x2610, 3, 1, 6, 6, .t96, 12, .ro, .viewer, false, [], 0, [0]⟩,
   ⟨"SCAN.x.OVERRUNS", 0x2610, 3, 1, 7, 7, .u32, 4, .ro, .viewer, false, [], 0, [0]⟩,
   ⟨"SCAN.x.BUSY_MAX", 0x2610, 3, 1, 8, 8, .u32, 4, .ro, .viewer, false, [], 0, [0]⟩,
   ⟨"SCAN.x.STALE", 0x2610, 3, 1, 9, 9, .u16, 2, .ro, .viewer, false, [], 0, [0]⟩,
   ⟨"SCAN.x.FIRST_BUILD", 0x2610, 3, 1, 10, 10, .u32, 4, .ro, .viewer, false, [], 0, [4294967295]⟩,
   ⟨"SCAN.C.COUNT", 0x2614, 1, 1, 0, 0, .u8, 1, .ro, .viewer, false, [], 0, [64]⟩,
   ⟨"SCAN.C.OUTRANGE", 0x2614, 1, 1, 1, 64, .u32, 4, .rw, .engineer, true, [], 0, [0]⟩,
   ⟨"RIO.COUNT", 0x2620, 1, 1, 0, 0, .u8, 1, .ro, .viewer, false, [], 0, [6]⟩,
   ⟨"RIO.ENABLE", 0x2620, 1, 1, 1, 1, .bool, 1, .rw, .engineer, true, [(0, 1)], 0, [0]⟩,
   ⟨"RIO.ETHERTYPE", 0x2620, 1, 1, 2, 2, .u16, 2, .rw, .engineer, true, [], 0, [34997]⟩,
   ⟨"RIO.STATIONS", 0x2620, 1, 1, 3, 3, .u16, 2, .ro, .viewer, false, [], 0, [0]⟩,
   ⟨"RIO.STALE_TOTAL", 0x2620, 1, 1, 4, 4, .u32, 4, .ro, .viewer, false, [], 0, [0]⟩,
   ⟨"RIO.LOST_LIMIT", 0x2620, 1, 1, 5, 5, .u8, 1, .rw, .engineer, true, [(1, 255)], 0, [3]⟩,
   ⟨"RIO.HOLD", 0x2620, 1, 1, 6, 6, .u16, 2, .rw, .engineer, true, [(1, 2000)], 0, [50]⟩,
   ⟨"RIO.STATION_TABLE", 0x2621, 1, 1, 1, 4, .oct, 8192, .rw, .engineer, true, [], 0, [0]⟩,
   ⟨"RIO.STATION_STATUS", 0x2622, 1, 1, 1, 1, .oct, 16384, .ro, .viewer, false, [], 0, [0]⟩,
   ⟨"CHG.COUNT", 0x2630, 1, 1, 0, 0, .u8, 1, .ro, .viewer, false, [], 0, [6]⟩,
   ⟨"CHG.REQUEST", 0x2630, 1, 1, 1, 1, .oct, 96, .wo, .operator, false, [], 0, [0]⟩,
   ⟨"CHG.RESULTS", 0x2630, 1, 1, 2, 2, .oct, 256, .ro, .viewer, false, [], 0, [0]⟩,
   ⟨"CHG.CANCEL", 0x2630, 1, 1, 3, 3, .u64, 8, .wo, .operator, false, [], 0, [0]⟩,
   ⟨"CHG.PENDING", 0x2630, 1, 1, 4, 4, .u8, 1, .ro, .viewer, false, [], 0, [0]⟩]

/-- Rows 80 to 119 of the dictionary tables. -/
def dictRows2 : List DictRow :=
  [⟨"CHG.APPLIED_TOTAL", 0x2630, 1, 1, 5, 5, .u32, 4, .ro, .viewer, false, [], 0, [0]⟩,
   ⟨"CHG.LATE_TOTAL", 0x2630, 1, 1, 6, 6, .u32, 4, .ro, .viewer, false, [], 0, [0]⟩,
   ⟨"PAV.STATE", 0x2632, 1, 1, 1, 128, .u8, 1, .ro, .viewer, false, [], 0, [0]⟩,
   ⟨"PAV.STATE", 0x2633, 1, 1, 1, 128, .u8, 1, .ro, .viewer, false, [], 0, [0]⟩,
   ⟨"ARBOUR.POLICY_COUNT", 0x2730, 1, 1, 0, 0, .u8, 1, .ro, .viewer, false, [], 0, [128]⟩,
   ⟨"ARBOUR.TRAP_POLICY", 0x2730, 1, 1, 1, 128, .u16, 2, .rw, .engineer, true, [], 0, [768]⟩,
   ⟨"ARBOUR.TRAP_POLICY", 0x2731, 1, 1, 1, 128, .u16, 2, .rw, .engineer, true, [], 0, [768]⟩,
   ⟨"ARBOUR.LAST_TRAP", 0x2732, 1, 1, 1, 128, .oct, 16, .ro, .viewer, false, [], 0, [0]⟩,
   ⟨"ARBOUR.LAST_TRAP", 0x2733, 1, 1, 1, 128, .oct, 16, .ro, .viewer, false, [], 0, [0]⟩,
   ⟨"ARBOUR.REVISION", 0x2734, 1, 1, 0, 0, .u32, 4, .ro, .viewer, false, [], 0, [65536]⟩,
   ⟨"TRESTLE.t.COUNT", 0x2700, 4, 1, 0, 0, .u8, 1, .ro, .viewer, false, [], 0, [10]⟩,
   ⟨"TRESTLE.t.CONFIG", 0x2700, 4, 1, 1, 1, .u8, 1, .rw, .engineer, true, [(0, 1)], 0, [0]⟩,
   ⟨"TRESTLE.t.CONFIG_NOW", 0x2700, 4, 1, 2, 2, .u8, 1, .ro, .viewer, false, [], 0, [0]⟩,
   ⟨"TRESTLE.t.STATE", 0x2700, 4, 1, 3, 3, .u8, 1, .ro, .viewer, false, [], 0, [0]⟩,
   ⟨"TRESTLE.t.STATUS", 0x2700, 4, 1, 4, 4, .u32, 4, .ro, .viewer, false, [], 0, [0]⟩,
   ⟨"TRESTLE.t.LANE_MAP", 0x2700, 4, 1, 5, 5, .u32, 4, .ro, .viewer, false, [], 0, [16777215]⟩,
   ⟨"TRESTLE.t.MISMATCHES", 0x2700, 4, 1, 6, 6, .u32, 4, .ro, .viewer, false, [], 0, [0]⟩,
   ⟨"TRESTLE.t.RESYNCS", 0x2700, 4, 1, 7, 7, .u32, 4, .ro, .viewer, false, [], 0, [0]⟩,
   ⟨"TRESTLE.t.LAST_MISMATCH", 0x2700, 4, 1, 8, 8, .oct, 32, .ro, .viewer, false, [], 0, [0]⟩,
   ⟨"TRESTLE.t.DUPLEX_MAX", 0x2700, 4, 1, 9, 9, .u32, 4, .ro, .viewer, false, [], 0, [0]⟩,
   ⟨"TRESTLE.t.FAIL_CAUSE", 0x2700, 4, 1, 10, 10, .u8, 1, .ro, .viewer, false, [], 0, [0]⟩,
   ⟨"LANE.n.COUNT", 0x2710, 15, 1, 0, 0, .u8, 1, .ro, .viewer, false, [], 0, [13]⟩,
   ⟨"LANE.n.ROLE", 0x2710, 15, 1, 1, 1, .u8, 1, .ro, .viewer, false, [], 0, [8]⟩,
   ⟨"LANE.n.TRESTLE", 0x2710, 15, 1, 2, 2, .u8, 1, .ro, .viewer, false, [], 0, [255]⟩,
   ⟨"LANE.n.POSITION", 0x2710, 15, 1, 3, 3, .u8, 1, .ro, .viewer, false, [], 0, [255]⟩,
   ⟨"LANE.n.LAST_BIST", 0x2710, 15, 1, 4, 4, .t96, 12, .ro, .viewer, false, [], 0, [0]⟩,
   ⟨"LANE.n.BIST_AGE", 0x2710, 15, 1, 5, 5, .u32, 4, .ro, .viewer, false, [], 0, [0]⟩,
   ⟨"LANE.n.BIST_COUNT", 0x2710, 15, 1, 6, 6, .u32, 4, .ro, .viewer, false, [], 0, [0]⟩,
   ⟨"LANE.n.BIST_FAILS", 0x2710, 15, 1, 7, 7, .u16, 2, .ro, .viewer, false, [], 0, [0]⟩,
   ⟨"LANE.n.MISMATCH_WINDOW", 0x2710, 15, 1, 8, 8, .u8, 1, .ro, .viewer, false, [], 0, [0]⟩,
   ⟨"LANE.n.MISMATCH_TOTAL", 0x2710, 15, 1, 9, 9, .u32, 4, .ro, .viewer, false, [], 0, [0]⟩,
   ⟨"LANE.n.RETIRE_CAUSE", 0x2710, 15, 1, 10, 10, .u8, 1, .ro, .viewer, false, [], 0, [0]⟩,
   ⟨"LANE.n.HOURS", 0x2710, 15, 1, 11, 11, .u32, 4, .ro, .viewer, false, [], 0, [0]⟩,
   ⟨"LANE.n.RETIRE", 0x2710, 15, 1, 12, 12, .bool, 1, .wo, .owner, false, [(0, 1)], 0, [0]⟩,
   ⟨"LANE.n.CORRECTED", 0x2710, 15, 1, 13, 13, .u32, 4, .ro, .viewer, false, [], 0, [0]⟩,
   ⟨"SPARE.COUNT", 0x2720, 1, 1, 0, 0, .u8, 1, .ro, .viewer, false, [], 0, [14]⟩,
   ⟨"SPARE.ROTATE_ENABLE", 0x2720, 1, 1, 1, 1, .bool, 1, .rw, .engineer, true, [(0, 1)], 0, [1]⟩,
   ⟨"SPARE.INTERVAL", 0x2720, 1, 1, 2, 2, .u32, 4, .rw, .engineer, true, [(60, 86400)], 0, [900]⟩,
   ⟨"SPARE.BIST_LIMIT", 0x2720, 1, 1, 3, 3, .u8, 1, .rw, .engineer, true, [(1, 3)], 0, [1]⟩,
   ⟨"SPARE.MISMATCH_LIMIT", 0x2720, 1, 1, 4, 4, .u8, 1, .rw, .engineer, true, [(1, 15)], 0, [3]⟩]

/-- Rows 120 to 159 of the dictionary tables. -/
def dictRows3 : List DictRow :=
  [⟨"SPARE.MISMATCH_WINDOW", 0x2720, 1, 1, 5, 5, .u32, 4, .rw, .engineer, true, [(3600, 2592000)], 0, [86400]⟩,
   ⟨"SPARE.SPARES", 0x2720, 1, 1, 6, 6, .u8, 1, .ro, .viewer, false, [], 0, [3]⟩,
   ⟨"SPARE.RETIRED", 0x2720, 1, 1, 7, 7, .u8, 1, .ro, .viewer, false, [], 0, [0]⟩,
   ⟨"SPARE.OLDEST_TEST", 0x2720, 1, 1, 8, 8, .u32, 4, .ro, .viewer, false, [], 0, [0]⟩,
   ⟨"SPARE.NEXT", 0x2720, 1, 1, 9, 9, .u32, 4, .ro, .viewer, false, [], 0, [900]⟩,
   ⟨"SPARE.ROTATIONS", 0x2720, 1, 1, 10, 10, .u32, 4, .ro, .viewer, false, [], 0, [0]⟩,
   ⟨"SPARE.DEFERRED", 0x2720, 1, 1, 11, 11, .u32, 4, .ro, .viewer, false, [], 0, [0]⟩,
   ⟨"SPARE.ROTATE_NOW", 0x2720, 1, 1, 12, 12, .bool, 1, .wo, .engineer, false, [(0, 1)], 0, [0]⟩,
   ⟨"SPARE.TEST_LANE", 0x2720, 1, 1, 13, 13, .u8, 1, .ro, .viewer, false, [], 0, [255]⟩,
   ⟨"SPARE.LOW_LIMIT", 0x2720, 1, 1, 14, 14, .u8, 1, .rw, .engineer, true, [(0, 3)], 0, [1]⟩,
   ⟨"PAV.p.COUNT", 0x2800, 256, 1, 0, 0, .u8, 1, .ro, .viewer, false, [], 0, [45]⟩,
   ⟨"PAV.p.FLAGS", 0x2800, 256, 1, 1, 1, .u16, 2, .rw, .engineer, true, [], 0, [0]⟩,
   ⟨"PAV.p.LANE", 0x2800, 256, 1, 2, 2, .u8, 1, .rw, .engineer, true, [(255, 255), (0, 11)], 0, [255]⟩,
   ⟨"PAV.p.CODE_BASE", 0x2800, 256, 1, 3, 3, .u64, 8, .rw, .engineer, true, [], 0, [0]⟩,
   ⟨"PAV.p.CODE_SIZE", 0x2800, 256, 1, 4, 4, .u32, 4, .rw, .engineer, true, [(0, 1048576)], 0, [0]⟩,
   ⟨"PAV.p.CSTACK_BASE", 0x2800, 256, 1, 5, 5, .u64, 8, .rw, .engineer, true, [], 0, [0]⟩,
   ⟨"PAV.p.D_BASE", 0x2800, 256, 1, 6, 6, .u64, 8, .rw, .engineer, true, [], 0, [0]⟩,
   ⟨"PAV.p.M_BASE", 0x2800, 256, 1, 7, 7, .u64, 8, .rw, .engineer, true, [], 0, [0]⟩,
   ⟨"PAV.p.L_BASE_A, _B, _C", 0x2800, 256, 1, 8, 10, .u64, 8, .rw, .engineer, true, [], 0, [0]⟩,
   ⟨"PAV.p.T_BASE", 0x2800, 256, 1, 11, 11, .u64, 8, .rw, .engineer, true, [], 0, [0]⟩,
   ⟨"PAV.p.C_BASE", 0x2800, 256, 1, 12, 12, .u64, 8, .rw, .engineer, true, [], 0, [0]⟩,
   ⟨"PAV.p.K_BASE", 0x2800, 256, 1, 13, 13, .u64, 8, .rw, .engineer, true, [], 0, [0]⟩,
   ⟨"PAV.p.ENTRY_A, _B, _C", 0x2800, 256, 1, 14, 16, .u32, 4, .rw, .engineer, true, [], 0, [4294967295]⟩,
   ⟨"PAV.p.IBUDGET_A, _B, _C", 0x2800, 256, 1, 17, 19, .u32, 4, .rw, .engineer, true, [(1, 16777216)], 0, [10000]⟩,
   ⟨"PAV.p.WINDOW_A", 0x2800, 256, 1, 20, 20, .u32, 4, .rw, .engineer, true, [], 0, [0]⟩,
   ⟨"PAV.p.TBUDGET_B", 0x2800, 256, 1, 21, 21, .u32, 4, .rw, .engineer, true, [], 0, [1000]⟩,
   ⟨"PAV.p.TBUDGET_C", 0x2800, 256, 1, 22, 22, .u32, 4, .rw, .engineer, true, [], 0, [100000]⟩,
   ⟨"PAV.p.ORDER", 0x2800, 256, 1, 23, 23, .u16, 2, .rw, .engineer, true, [], 0, [0]⟩,
   ⟨"PAV.p.OVERRUN_LIMIT", 0x2800, 256, 1, 24, 24, .u8, 1, .rw, .engineer, true, [(1, 255)], 0, [3]⟩,
   ⟨"PAV.p.HOLD_LIMIT", 0x2800, 256, 1, 25, 25, .u16, 2, .rw, .engineer, true, [(1, 60000)], 0, [10000]⟩,
   ⟨"PAV.p.DECL_A", 0x2800, 256, 1, 26, 26, .oct, 32, .rw, .engineer, true, [], 0, [0]⟩,
   ⟨"PAV.p.ADMIT", 0x2800, 256, 1, 27, 27, .u8, 1, .ro, .viewer, false, [], 0, [0]⟩,
   ⟨"PAV.p.ADMIT_DEMAND", 0x2800, 256, 1, 28, 28, .u32, 4, .ro, .viewer, false, [], 0, [0]⟩,
   ⟨"PAV.p.PROGRAM", 0x2800, 256, 1, 29, 29, .oct, 1048576, .wo, .engineer, false, [], 0, [0]⟩,
   ⟨"PAV.p.LOAD", 0x2800, 256, 1, 30, 30, .u8, 1, .wo, .engineer, false, [(1, 2)], 0, [0]⟩,
   ⟨"PAV.p.LOAD_STATE", 0x2800, 256, 1, 31, 31, .u8, 1, .ro, .viewer, false, [], 0, [0]⟩,
   ⟨"PAV.p.SCHEMA", 0x2800, 256, 1, 32, 32, .u32, 4, .rw, .engineer, true, [], 0, [0]⟩,
   ⟨"PAV.p.REGION_ARM", 0x2800, 256, 1, 33, 33, .u8, 1, .rw, .engineer, true, [(0, 1)], 0, [0]⟩,
   ⟨"PAV.p.REGION_FAULT", 0x2800, 256, 1, 34, 34, .oct, 8, .ro, .viewer, false, [], 0, [0]⟩,
   ⟨"PAV.p.SHARE_TO", 0x2800, 256, 1, 35, 35, .oct, 32, .rw, .engineer, true, [], 0, [0]⟩]

/-- Rows 160 to 199 of the dictionary tables. -/
def dictRows4 : List DictRow :=
  [⟨"PAV.p.STOP_CAUSE", 0x2800, 256, 1, 36, 36, .u8, 1, .ro, .viewer, false, [], 0, [0]⟩,
   ⟨"PAV.p.WDT.STATE", 0x2800, 256, 1, 37, 37, .u8, 1, .ro, .viewer, false, [], 0, [0]⟩,
   ⟨"PAV.p.WDT.OPEN", 0x2800, 256, 1, 38, 38, .u32, 4, .rw, .engineer, true, [], 0, [0]⟩,
   ⟨"PAV.p.WDT.TIMEOUT", 0x2800, 256, 1, 39, 39, .u32, 4, .rw, .engineer, true, [(1000, 60000000)], 0, [100000]⟩,
   ⟨"PAV.p.WDT.KEY", 0x2800, 256, 1, 40, 40, .u16, 2, .wo, .engineer, false, [], 0, [0]⟩,
   ⟨"PAV.p.WDT.ENABLE", 0x2800, 256, 1, 41, 41, .bool, 1, .wo, .engineer, false, [(0, 1)], 0, [0]⟩,
   ⟨"PAV.p.WDT.LOCK", 0x2800, 256, 1, 42, 42, .bool, 1, .rw, .engineer, true, [(0, 1)], 0, [0]⟩,
   ⟨"PAV.p.WDT.EXPIRIES", 0x2800, 256, 1, 43, 43, .u32, 4, .ro, .viewer, false, [], 0, [0]⟩,
   ⟨"PAV.p.DMA.LAST", 0x2800, 256, 1, 44, 44, .u64, 8, .ro, .viewer, false, [], 0, [0]⟩,
   ⟨"PAV.p.DECLARE", 0x2800, 256, 1, 45, 45, .oct, 65536, .wo, .engineer, false, [], 0, [0]⟩,
   ⟨"QUOTA.p.COUNT", 0x2A00, 256, 1, 0, 0, .u8, 1, .ro, .viewer, false, [], 0, [9]⟩,
   ⟨"QUOTA.p.WEIGHT", 0x2A00, 256, 1, 1, 1, .u16, 2, .rw, .engineer, true, [(1, 1000)], 0, [10]⟩,
   ⟨"QUOTA.p.DRAM", 0x2A00, 256, 1, 2, 2, .u32, 4, .rw, .engineer, true, [(0, 262144)], 0, [0]⟩,
   ⟨"QUOTA.p.DRAM_USED", 0x2A00, 256, 1, 3, 3, .u32, 4, .ro, .viewer, false, [], 0, [0]⟩,
   ⟨"QUOTA.p.STORE", 0x2A00, 256, 1, 4, 4, .u64, 8, .rw, .owner, true, [], 0, [0]⟩,
   ⟨"QUOTA.p.STORE_USED", 0x2A00, 256, 1, 5, 5, .u64, 8, .ro, .viewer, false, [], 0, [0]⟩,
   ⟨"QUOTA.p.CREDIT", 0x2A00, 256, 1, 6, 6, .i32, 4, .ro, .viewer, false, [], 0, [0]⟩,
   ⟨"QUOTA.p.BEATS_SRAM", 0x2A00, 256, 1, 7, 7, .u64, 8, .ro, .viewer, false, [], 0, [0]⟩,
   ⟨"QUOTA.p.BEATS_DRAM", 0x2A00, 256, 1, 8, 8, .u64, 8, .ro, .viewer, false, [], 0, [0]⟩,
   ⟨"QUOTA.p.DMA_OPEN", 0x2A00, 256, 1, 9, 9, .u8, 1, .ro, .viewer, false, [], 0, [0]⟩,
   ⟨"PAIR.COUNT", 0x3000, 1, 1, 0, 0, .u8, 1, .ro, .viewer, false, [], 0, [10]⟩,
   ⟨"PAIR.MODE", 0x3000, 1, 1, 1, 1, .u8, 1, .rw, .owner, true, [(0, 1)], 0, [0]⟩,
   ⟨"PAIR.ROLE", 0x3000, 1, 1, 2, 2, .u8, 1, .ro, .viewer, false, [], 0, [5]⟩,
   ⟨"PAIR.STATE", 0x3000, 1, 1, 3, 3, .u8, 1, .ro, .viewer, false, [], 0, [0]⟩,
   ⟨"PAIR.PARTNER_SERIAL", 0x3000, 1, 1, 4, 4, .u32, 4, .ro, .viewer, false, [], 0, [0]⟩,
   ⟨"PAIR.PARTNER_GRADE", 0x3000, 1, 1, 5, 5, .u8, 1, .ro, .viewer, false, [], 0, [0]⟩,
   ⟨"PAIR.TAKEOVERS", 0x3000, 1, 1, 6, 6, .u32, 4, .ro, .viewer, false, [], 0, [0]⟩,
   ⟨"PAIR.LAST_TAKEOVER", 0x3000, 1, 1, 7, 7, .oct, 32, .ro, .viewer, false, [], 0, [0]⟩,
   ⟨"PAIR.BOUND", 0x3000, 1, 1, 8, 8, .u32, 4, .ro, .viewer, false, [], 0, [0]⟩,
   ⟨"PAIR.HOLD_SHORT", 0x3000, 1, 1, 9, 9, .u16, 2, .ro, .viewer, false, [], 0, [0]⟩,
   ⟨"PAIR.STATUS", 0x3000, 1, 1, 10, 10, .u32, 4, .ro, .viewer, false, [], 0, [0]⟩,
   ⟨"CW.COUNT", 0x3001, 1, 1, 0, 0, .u8, 1, .ro, .viewer, false, [], 0, [9]⟩,
   ⟨"CW.STATE", 0x3001, 1, 1, 1, 1, .u8, 1, .ro, .viewer, false, [], 0, [0]⟩,
   ⟨"CW.LANES", 0x3001, 1, 1, 2, 2, .u8, 1, .ro, .viewer, false, [], 0, [0]⟩,
   ⟨"CW.HB_MISSED", 0x3001, 1, 1, 3, 3, .u32, 4, .ro, .viewer, false, [], 0, [0]⟩,
   ⟨"CW.BLOCK_ERRORS", 0x3001, 1, 1, 4, 4, .u32, 4, .ro, .viewer, false, [], 0, [0]⟩,
   ⟨"CW.CRC_ERRORS", 0x3001, 1, 1, 5, 5, .u32, 4, .ro, .viewer, false, [], 0, [0]⟩,
   ⟨"CW.RX_BYTES", 0x3001, 1, 1, 6, 6, .u64, 8, .ro, .viewer, false, [], 0, [0]⟩,
   ⟨"CW.TX_BYTES", 0x3001, 1, 1, 7, 7, .u64, 8, .ro, .viewer, false, [], 0, [0]⟩,
   ⟨"CW.LOOP_INTERVAL", 0x3001, 1, 1, 8, 8, .u32, 4, .rw, .engineer, true, [(60, 86400)], 0, [600]⟩]

/-- Rows 200 to 239 of the dictionary tables. -/
def dictRows5 : List DictRow :=
  [⟨"CW.LOOP_RESULT", 0x3001, 1, 1, 9, 9, .u8, 1, .ro, .viewer, false, [], 0, [0]⟩,
   ⟨"CKPT.COUNT", 0x3002, 1, 1, 0, 0, .u8, 1, .ro, .viewer, false, [], 0, [14]⟩,
   ⟨"CKPT.SCOPE_PAGES", 0x3002, 1, 1, 1, 1, .u32, 4, .ro, .viewer, false, [], 0, [200]⟩,
   ⟨"CKPT.SCOPE_LIMIT", 0x3002, 1, 1, 2, 2, .u32, 4, .ro, .viewer, false, [], 0, [7680]⟩,
   ⟨"CKPT.EPOCH", 0x3002, 1, 1, 3, 3, .u64, 8, .ro, .viewer, false, [], 0, [0]⟩,
   ⟨"CKPT.LAG", 0x3002, 1, 1, 4, 4, .u16, 2, .ro, .viewer, false, [], 0, [0]⟩,
   ⟨"CKPT.COALESCED", 0x3002, 1, 1, 5, 5, .u32, 4, .ro, .viewer, false, [], 0, [0]⟩,
   ⟨"CKPT.ABANDONED", 0x3002, 1, 1, 6, 6, .u32, 4, .ro, .viewer, false, [], 0, [0]⟩,
   ⟨"CKPT.JOINS", 0x3002, 1, 1, 7, 7, .u32, 4, .ro, .viewer, false, [], 0, [0]⟩,
   ⟨"CKPT.LAST_BYTES", 0x3002, 1, 1, 8, 8, .u32, 4, .ro, .viewer, false, [], 0, [0]⟩,
   ⟨"CKPT.NAND_INTERVAL", 0x3002, 1, 1, 9, 9, .u32, 4, .rw, .engineer, true, [(0, 0), (1, 3600)], 0, [10]⟩,
   ⟨"CKPT.NAND_LAST", 0x3002, 1, 1, 10, 10, .t96, 12, .ro, .viewer, false, [], 0, [0]⟩,
   ⟨"CKPT.WARM_RESTART", 0x3002, 1, 1, 11, 11, .bool, 1, .rw, .engineer, true, [(0, 1)], 0, [1]⟩,
   ⟨"CKPT.SCHEMA", 0x3002, 1, 1, 12, 12, .u32, 4, .ro, .viewer, false, [], 0, [0]⟩,
   ⟨"CKPT.PARTNER_SCHEMA", 0x3002, 1, 1, 13, 13, .u32, 4, .ro, .viewer, false, [], 0, [0]⟩,
   ⟨"CKPT.TRANSLATION", 0x3002, 1, 1, 14, 14, .u8, 1, .ro, .viewer, false, [], 0, [0]⟩,
   ⟨"REF.COUNT", 0x3003, 1, 1, 0, 0, .u8, 1, .ro, .viewer, false, [], 0, [10]⟩,
   ⟨"REF.PATHS", 0x3003, 1, 1, 1, 1, .u8, 1, .rw, .owner, true, [(1, 3)], 0, [1]⟩,
   ⟨"REF.KEY", 0x3003, 1, 1, 2, 2, .oct, 32, .wo, .owner, true, [], 0, [0]⟩,
   ⟨"REF.PEER", 0x3003, 1, 1, 3, 3, .oct, 18, .rw, .owner, true, [], 0, [0]⟩,
   ⟨"REF.STATE", 0x3003, 1, 1, 4, 4, .u8, 1, .ro, .viewer, false, [], 0, [1]⟩,
   ⟨"REF.GRANT_EPOCH", 0x3003, 1, 1, 5, 5, .u32, 4, .ro, .viewer, false, [], 0, [0]⟩,
   ⟨"REF.HOLDER", 0x3003, 1, 1, 6, 6, .u32, 4, .ro, .viewer, false, [], 0, [0]⟩,
   ⟨"REF.GRANT_AGE", 0x3003, 1, 1, 7, 7, .u32, 4, .ro, .viewer, false, [], 0, [4294967295]⟩,
   ⟨"REF.FRAMES_BAD", 0x3003, 1, 1, 8, 8, .u32, 4, .ro, .viewer, false, [], 0, [0]⟩,
   ⟨"REF.LINE_STUCK", 0x3003, 1, 1, 9, 9, .bool, 1, .ro, .viewer, false, [], 0, [0]⟩,
   ⟨"REF.DENIES", 0x3003, 1, 1, 10, 10, .u32, 4, .ro, .viewer, false, [], 0, [0]⟩,
   ⟨"HEALTH.COUNT", 0x3004, 1, 1, 0, 0, .u8, 1, .ro, .viewer, false, [], 0, [5]⟩,
   ⟨"HEALTH.OWN", 0x3004, 1, 1, 1, 1, .oct, 32, .ro, .viewer, false, [], 0, [0]⟩,
   ⟨"HEALTH.PARTNER", 0x3004, 1, 1, 2, 2, .oct, 32, .ro, .viewer, false, [], 0, [0]⟩,
   ⟨"HEALTH.AGREE_FAILS", 0x3004, 1, 1, 3, 3, .u32, 4, .ro, .viewer, false, [], 0, [0]⟩,
   ⟨"HEALTH.AI_TOLERANCE", 0x3004, 1, 1, 4, 4, .u16, 2, .rw, .engineer, true, [(10, 2000)], 0, [160]⟩,
   ⟨"HEALTH.TEST_INTERVAL", 0x3004, 1, 1, 5, 5, .u32, 4, .rw, .engineer, true, [(60, 86400)], 0, [600]⟩,
   ⟨"SAFECMP.COUNT", 0x3005, 1, 1, 0, 0, .u8, 1, .ro, .viewer, false, [], 0, [7]⟩,
   ⟨"SAFECMP.ENABLE", 0x3005, 1, 1, 1, 1, .u8, 1, .rw, .safety, true, [(0, 63)], 0, [0]⟩,
   ⟨"SAFECMP.LIMIT", 0x3005, 1, 1, 2, 2, .u8, 1, .rw, .safety, true, [(5, 100)], 0, [20]⟩,
   ⟨"SAFECMP.DIFFER", 0x3005, 1, 1, 3, 3, .u8, 1, .ro, .viewer, false, [], 0, [0]⟩,
   ⟨"SAFECMP.LATCHED", 0x3005, 1, 1, 4, 4, .u8, 1, .ro, .viewer, false, [], 0, [0]⟩,
   ⟨"SAFECMP.OWN", 0x3005, 1, 1, 5, 5, .u32, 4, .ro, .viewer, false, [], 0, [0]⟩,
   ⟨"SAFECMP.PARTNER", 0x3005, 1, 1, 6, 6, .u32, 4, .ro, .viewer, false, [], 0, [0]⟩]

/-- Rows 240 to 279 of the dictionary tables. -/
def dictRows6 : List DictRow :=
  [⟨"SAFECMP.TRIPS", 0x3005, 1, 1, 7, 7, .u32, 4, .ro, .viewer, false, [], 0, [0]⟩,
   ⟨"PAIRCMD.COUNT", 0x3006, 1, 1, 0, 0, .u8, 1, .ro, .viewer, false, [], 0, [4]⟩,
   ⟨"PAIRCMD.HANDOVER", 0x3006, 1, 1, 1, 1, .bool, 1, .wo, .engineer, false, [(0, 1)], 0, [0]⟩,
   ⟨"PAIRCMD.HANDOVER_STATE", 0x3006, 1, 1, 2, 2, .u8, 1, .ro, .viewer, false, [], 0, [0]⟩,
   ⟨"PAIRCMD.TAKEOVER_REQ", 0x3006, 1, 1, 3, 3, .bool, 1, .wo, .owner, false, [(0, 1)], 0, [0]⟩,
   ⟨"PAIRCMD.REJOIN", 0x3006, 1, 1, 4, 4, .bool, 1, .wo, .engineer, false, [(0, 1)], 0, [0]⟩,
   ⟨"SAFETY.COUNT", 0x3400, 1, 1, 0, 0, .u8, 1, .ro, .viewer, false, [], 0, [10]⟩,
   ⟨"SAFETY.CPU_MODE", 0x3400, 1, 1, 1, 1, .u8, 1, .rw, .safety, true, [(0, 1)], 0, [0]⟩,
   ⟨"SAFETY.CPU_MODE_NOW", 0x3400, 1, 1, 2, 2, .u8, 1, .ro, .viewer, false, [], 0, [0]⟩,
   ⟨"SAFETY.STATE", 0x3400, 1, 1, 3, 3, .u8, 1, .ro, .viewer, false, [], 0, [0]⟩,
   ⟨"SAFETY.FAULTS", 0x3400, 1, 1, 4, 4, .u32, 4, .ro, .viewer, false, [], 0, [0]⟩,
   ⟨"SAFETY.FAULT_ACK", 0x3400, 1, 1, 5, 5, .bool, 1, .wo, .safety, false, [(0, 1)], 0, [0]⟩,
   ⟨"SAFETY.PULSE_PERIOD", 0x3400, 1, 1, 6, 6, .u16, 2, .rw, .safety, true, [(10, 1000)], 0, [250]⟩,
   ⟨"SAFETY.STATUS_OFFSET", 0x3400, 1, 1, 7, 7, .u32, 4, .rw, .safety, true, [], 0, [4294967295]⟩,
   ⟨"SAFETY.STATUS_OWNER", 0x3400, 1, 1, 8, 8, .u16, 2, .rw, .safety, true, [], 0, [65535]⟩,
   ⟨"SAFETY.STARTUP_MS", 0x3400, 1, 1, 9, 9, .u16, 2, .ro, .viewer, false, [], 0, [0]⟩,
   ⟨"SAFETY.FW_VERSION", 0x3400, 1, 1, 10, 10, .u32, 4, .ro, .viewer, false, [], 0, [0]⟩,
   ⟨"SAFEVER.COUNT", 0x3402, 1, 1, 0, 0, .u8, 1, .ro, .viewer, false, [], 0, [9]⟩,
   ⟨"SAFEVER.STAGED_CRC", 0x3402, 1, 1, 1, 1, .u32, 4, .ro, .viewer, false, [], 0, [0]⟩,
   ⟨"SAFEVER.PARAPET_STAGED_CRC", 0x3402, 1, 1, 2, 2, .u32, 4, .ro, .viewer, false, [], 0, [0]⟩,
   ⟨"SAFEVER.ACTIVE_CRC", 0x3402, 1, 1, 3, 3, .u32, 4, .ro, .viewer, false, [], 0, [0]⟩,
   ⟨"SAFEVER.CONFIRM", 0x3402, 1, 1, 4, 4, .u64, 8, .wo, .safety, false, [], 0, [0]⟩,
   ⟨"SAFEVER.STATE", 0x3402, 1, 1, 5, 5, .u8, 1, .ro, .viewer, false, [], 0, [0]⟩,
   ⟨"SAFEVER.RESULT", 0x3402, 1, 1, 6, 6, .u8, 1, .ro, .viewer, false, [], 0, [0]⟩,
   ⟨"SAFEVER.ACTIVATE", 0x3402, 1, 1, 7, 7, .bool, 1, .wo, .safety, false, [(0, 1)], 0, [0]⟩,
   ⟨"SAFEVER.ACTIVATED_AT", 0x3402, 1, 1, 8, 8, .t96, 12, .ro, .viewer, false, [], 0, [0]⟩,
   ⟨"SAFEVER.DISCARD", 0x3402, 1, 1, 9, 9, .bool, 1, .wo, .safety, false, [(0, 1)], 0, [0]⟩,
   ⟨"SPAIR.i.COUNT", 0x3410, 12, 1, 0, 0, .u8, 1, .ro, .viewer, false, [], 0, [8]⟩,
   ⟨"SPAIR.i.TYPE", 0x3410, 12, 1, 1, 1, .u8, 1, .rw, .safety, true, [(0, 3)], 0, [0]⟩,
   ⟨"SPAIR.i.SOURCE", 0x3410, 12, 1, 2, 2, .u8, 1, .rw, .safety, true, [], 0, [0]⟩,
   ⟨"SPAIR.i.FILTER", 0x3410, 12, 1, 3, 3, .u16, 2, .rw, .safety, true, [(500, 20000)], 0, [1000]⟩,
   ⟨"SPAIR.i.DISCREPANCY", 0x3410, 12, 1, 4, 4, .u16, 2, .rw, .safety, true, [(5, 5000)], 0, [100]⟩,
   ⟨"SPAIR.i.OWNER", 0x3410, 12, 1, 5, 5, .u16, 2, .rw, .safety, true, [], 0, [65535]⟩,
   ⟨"SPAIR.i.STATE", 0x3410, 12, 1, 6, 6, .u8, 1, .ro, .viewer, false, [], 0, [0]⟩,
   ⟨"SPAIR.i.CAUSE", 0x3410, 12, 1, 7, 7, .u8, 1, .ro, .viewer, false, [], 0, [0]⟩,
   ⟨"SPAIR.i.DEMANDS", 0x3410, 12, 1, 8, 8, .u32, 4, .ro, .viewer, false, [], 0, [0]⟩,
   ⟨"SOUT.o.COUNT", 0x3420, 12, 1, 0, 0, .u8, 1, .ro, .viewer, false, [], 0, [9]⟩,
   ⟨"SOUT.o.GROUP", 0x3420, 12, 1, 1, 1, .u8, 1, .rw, .safety, true, [(255, 255), (0, 5)], 0, [255]⟩,
   ⟨"SOUT.o.PULSE_WIDTH", 0x3420, 12, 1, 2, 2, .u16, 2, .rw, .safety, true, [(100, 1000)], 0, [400]⟩,
   ⟨"SOUT.o.OWNER", 0x3420, 12, 1, 3, 3, .u16, 2, .rw, .safety, true, [], 0, [65535]⟩]

/-- Rows 280 to 319 of the dictionary tables. -/
def dictRows7 : List DictRow :=
  [⟨"SOUT.o.STATE", 0x3420, 12, 1, 4, 4, .u8, 1, .ro, .viewer, false, [], 0, [0]⟩,
   ⟨"SOUT.o.CAUSE", 0x3420, 12, 1, 5, 5, .u8, 1, .ro, .viewer, false, [], 0, [0]⟩,
   ⟨"SOUT.o.READBACK", 0x3420, 12, 1, 6, 6, .u16, 2, .ro, .viewer, false, [], 0, [0]⟩,
   ⟨"SOUT.o.TESTS", 0x3420, 12, 1, 7, 7, .u32, 4, .ro, .viewer, false, [], 0, [0]⟩,
   ⟨"SOUT.o.ACK", 0x3420, 12, 1, 8, 8, .bool, 1, .wo, .safety, false, [(0, 1)], 0, [0]⟩,
   ⟨"SOUT.o.LAST_FALL", 0x3420, 12, 1, 9, 9, .u8, 1, .ro, .viewer, false, [], 0, [0]⟩,
   ⟨"SGROUP.g.COUNT", 0x3430, 6, 1, 0, 0, .u8, 1, .ro, .viewer, false, [], 0, [19]⟩,
   ⟨"SGROUP.g.ENABLE", 0x3430, 6, 1, 1, 1, .bool, 1, .rw, .safety, true, [(0, 1)], 0, [0]⟩,
   ⟨"SGROUP.g.STO_MASK", 0x3430, 6, 1, 2, 2, .u16, 2, .rw, .safety, true, [], 61440, [0]⟩,
   ⟨"SGROUP.g.SS1_MASK", 0x3430, 6, 1, 3, 3, .u16, 2, .rw, .safety, true, [], 61440, [0]⟩,
   ⟨"SGROUP.g.RESET_PAIR", 0x3430, 6, 1, 4, 4, .u8, 1, .rw, .safety, true, [(255, 255), (0, 11)], 0, [255]⟩,
   ⟨"SGROUP.g.RESET_POINT", 0x3430, 6, 1, 5, 5, .u32, 4, .rw, .safety, true, [], 0, [0]⟩,
   ⟨"SGROUP.g.REQ_POINT", 0x3430, 6, 1, 6, 6, .u32, 4, .rw, .safety, true, [], 0, [0]⟩,
   ⟨"SGROUP.g.ENCODER_USED", 0x3430, 6, 1, 7, 7, .bool, 1, .rw, .safety, true, [(0, 1)], 0, [1]⟩,
   ⟨"SGROUP.g.T_D", 0x3430, 6, 1, 8, 8, .u16, 2, .rw, .safety, true, [(0, 10000)], 0, [100]⟩,
   ⟨"SGROUP.g.A_MIN", 0x3430, 6, 1, 9, 9, .u32, 4, .rw, .safety, true, [(100, 100000000)], 0, [10000]⟩,
   ⟨"SGROUP.g.V_TOL", 0x3430, 6, 1, 10, 10, .u32, 4, .rw, .safety, true, [(2000, 4000000)], 0, [10000]⟩,
   ⟨"SGROUP.g.V_SS", 0x3430, 6, 1, 11, 11, .u32, 4, .rw, .safety, true, [(1000, 1000000)], 0, [2000]⟩,
   ⟨"SGROUP.g.T_SS", 0x3430, 6, 1, 12, 12, .u16, 2, .rw, .safety, true, [(10, 10000)], 0, [50]⟩,
   ⟨"SGROUP.g.T_MAX", 0x3430, 6, 1, 13, 13, .u16, 2, .rw, .safety, true, [(100, 60000)], 0, [5000]⟩,
   ⟨"SGROUP.g.OWNER", 0x3430, 6, 1, 14, 14, .u16, 2, .rw, .safety, true, [], 0, [65535]⟩,
   ⟨"SGROUP.g.STATE", 0x3430, 6, 1, 15, 15, .u8, 1, .ro, .viewer, false, [], 0, [0]⟩,
   ⟨"SGROUP.g.LATCH", 0x3430, 6, 1, 16, 16, .u16, 2, .ro, .viewer, false, [], 0, [0]⟩,
   ⟨"SGROUP.g.ACK", 0x3430, 6, 1, 17, 17, .bool, 1, .wo, .safety, false, [(0, 1)], 0, [0]⟩,
   ⟨"SGROUP.g.LAST_STOP", 0x3430, 6, 1, 18, 18, .oct, 16, .ro, .viewer, false, [], 0, [0]⟩,
   ⟨"SGROUP.g.STOPS", 0x3430, 6, 1, 19, 19, .u32, 4, .ro, .viewer, false, [], 0, [0]⟩,
   ⟨"SENC.e.COUNT", 0x3440, 6, 1, 0, 0, .u8, 1, .ro, .viewer, false, [], 0, [9]⟩,
   ⟨"SENC.e.TYPE", 0x3440, 6, 1, 1, 1, .u8, 1, .rw, .safety, true, [(0, 2)], 0, [0]⟩,
   ⟨"SENC.e.INVERT", 0x3440, 6, 1, 2, 2, .bool, 1, .rw, .safety, true, [(0, 1)], 0, [0]⟩,
   ⟨"SENC.e.MAX_RATE", 0x3440, 6, 1, 3, 3, .u32, 4, .rw, .safety, true, [(1000, 4000000)], 0, [1000000]⟩,
   ⟨"SENC.e.CROSS_TOL", 0x3440, 6, 1, 4, 4, .u32, 4, .rw, .safety, true, [(1000, 100000)], 0, [5000]⟩,
   ⟨"SENC.e.OWNER", 0x3440, 6, 1, 5, 5, .u16, 2, .rw, .safety, true, [], 0, [65535]⟩,
   ⟨"SENC.e.SPEED_SP", 0x3440, 6, 1, 6, 6, .i32, 4, .ro, .viewer, false, [], 0, [0]⟩,
   ⟨"SENC.e.SPEED_PP", 0x3440, 6, 1, 7, 7, .i32, 4, .ro, .viewer, false, [], 0, [0]⟩,
   ⟨"SENC.e.POSITION", 0x3440, 6, 1, 8, 8, .i64, 8, .ro, .viewer, false, [], 0, [0]⟩,
   ⟨"SENC.e.FAULT", 0x3440, 6, 1, 9, 9, .u8, 1, .ro, .viewer, false, [], 0, [0]⟩,
   ⟨"DI.i.COUNT", 0x4000, 128, 1, 0, 0, .u8, 1, .ro, .viewer, false, [], 0, [10]⟩,
   ⟨"DI.i.POINT", 0x4000, 128, 1, 1, 1, .u32, 4, .rw, .engineer, true, [], 0, [0]⟩,
   ⟨"DI.i.TYPE", 0x4000, 128, 1, 2, 2, .u8, 1, .rw, .engineer, true, [(1, 1), (3, 3)], 0, [1]⟩,
   ⟨"DI.i.DEBOUNCE", 0x4000, 128, 1, 3, 3, .u16, 2, .rw, .engineer, true, [(0, 65535)], 0, [1000]⟩]

/-- Rows 320 to 359 of the dictionary tables. -/
def dictRows8 : List DictRow :=
  [⟨"DI.i.EDGE", 0x4000, 128, 1, 4, 4, .u8, 1, .rw, .engineer, true, [(0, 3)], 0, [1]⟩,
   ⟨"DI.i.EXT", 0x4000, 128, 1, 5, 5, .u32, 4, .rw, .engineer, true, [], 0, [0]⟩,
   ⟨"DI.i.OWNER", 0x4000, 128, 1, 6, 6, .u16, 2, .rw, .engineer, true, [], 0, [65535]⟩,
   ⟨"DI.i.STATE", 0x4000, 128, 1, 7, 7, .u8, 1, .ro, .viewer, false, [], 0, [0]⟩,
   ⟨"DI.i.EDGES", 0x4000, 128, 1, 8, 8, .u32, 4, .rw, .pavilion, false, [], 0, [0]⟩,
   ⟨"DI.i.LAST_EDGE", 0x4000, 128, 1, 9, 9, .u64, 8, .ro, .viewer, false, [], 0, [0]⟩,
   ⟨"DI.i.WAKE", 0x4000, 128, 1, 10, 10, .bool, 1, .rw, .engineer, true, [(0, 1)], 0, [0]⟩,
   ⟨"DO.o.COUNT", 0x4080, 96, 1, 0, 0, .u8, 1, .ro, .viewer, false, [], 0, [12]⟩,
   ⟨"DO.o.POINT", 0x4080, 96, 1, 1, 1, .u32, 4, .rw, .engineer, true, [], 0, [0]⟩,
   ⟨"DO.o.MODE", 0x4080, 96, 1, 2, 2, .u8, 1, .rw, .engineer, true, [(0, 1)], 0, [0]⟩,
   ⟨"DO.o.SAFE", 0x4080, 96, 1, 3, 3, .u8, 1, .rw, .engineer, true, [(0, 2)], 0, [0]⟩,
   ⟨"DO.o.OWNER", 0x4080, 96, 1, 4, 4, .u16, 2, .rw, .engineer, true, [], 0, [65535]⟩,
   ⟨"DO.o.OC_DELAY", 0x4080, 96, 1, 5, 5, .u16, 2, .rw, .engineer, true, [(100, 50000)], 0, [5000]⟩,
   ⟨"DO.o.RETRY", 0x4080, 96, 1, 6, 6, .u16, 2, .rw, .engineer, true, [(0, 0), (10, 60000)], 0, [1000]⟩,
   ⟨"DO.o.DIAG_ENABLE", 0x4080, 96, 1, 7, 7, .u8, 1, .rw, .engineer, true, [(0, 7)], 248, [7]⟩,
   ⟨"DO.o.STATE", 0x4080, 96, 1, 8, 8, .u8, 1, .ro, .viewer, false, [], 0, [0]⟩,
   ⟨"DO.o.FAULT", 0x4080, 96, 1, 9, 9, .u8, 1, .ro, .viewer, false, [], 0, [0]⟩,
   ⟨"DO.o.ACK", 0x4080, 96, 1, 10, 10, .bool, 1, .wo, .operator, false, [(0, 1)], 0, [0]⟩,
   ⟨"DO.o.TRIPS", 0x4080, 96, 1, 11, 11, .u32, 4, .ro, .viewer, false, [], 0, [0]⟩,
   ⟨"DO.o.SWITCHES", 0x4080, 96, 1, 12, 12, .u64, 8, .ro, .viewer, false, [], 0, [0]⟩,
   ⟨"FSUP.g.COUNT", 0x40E0, 8, 1, 0, 0, .u8, 1, .ro, .viewer, false, [], 0, [11, 9, 9, 9, 9, 9]⟩,
   ⟨"FSUP.g.STATE", 0x40E0, 8, 1, 1, 1, .u8, 1, .ro, .viewer, false, [], 0, [2]⟩,
   ⟨"FSUP.g.VOLTAGE", 0x40E0, 8, 1, 2, 2, .u16, 2, .ro, .viewer, false, [], 0, [0]⟩,
   ⟨"FSUP.g.HOLD", 0x40E0, 8, 1, 3, 3, .u16, 2, .rw, .engineer, true, [(1, 2000)], 0, [50]⟩,
   ⟨"FSUP.g.DIAG_POINT", 0x40E0, 8, 1, 4, 4, .u32, 4, .rw, .engineer, true, [], 0, [0]⟩,
   ⟨"FSUP.g.DIAG_OWNER", 0x40E0, 8, 1, 5, 5, .u16, 2, .rw, .engineer, true, [], 0, [65535]⟩,
   ⟨"FSUP.g.CURRENT", 0x40E0, 8, 1, 6, 6, .u16, 2, .ro, .viewer, false, [], 0, [0]⟩,
   ⟨"FSUP.g.HOLD_EXPIRIES", 0x40E0, 8, 1, 7, 7, .u32, 4, .ro, .viewer, false, [], 0, [0]⟩,
   ⟨"FSUP.g.CHANGES", 0x40E0, 8, 1, 8, 8, .u32, 4, .ro, .viewer, false, [], 0, [0]⟩,
   ⟨"FSUP.g.HOLD_STATE", 0x40E0, 8, 1, 9, 9, .u8, 1, .ro, .viewer, false, [], 0, [0]⟩,
   ⟨"VSENS.STATE", 0x40E0, 1, 1, 10, 10, .u8, 1, .ro, .viewer, false, [], 0, [2]⟩,
   ⟨"VSENS.VOLTAGE", 0x40E0, 1, 1, 11, 11, .u16, 2, .ro, .viewer, false, [], 0, [0]⟩,
   ⟨"IOL.n.COUNT", 0x4200, 32, 1, 0, 0, .u8, 1, .ro, .viewer, false, [], 0, [20]⟩,
   ⟨"IOL.n.MODE", 0x4200, 32, 1, 1, 1, .u8, 1, .rw, .engineer, true, [(0, 4)], 0, [0]⟩,
   ⟨"IOL.n.OWNER", 0x4200, 32, 1, 2, 2, .u16, 2, .rw, .engineer, true, [], 0, [65535]⟩,
   ⟨"IOL.n.VENDOR_ID", 0x4200, 32, 1, 3, 3, .u16, 2, .rw, .engineer, true, [], 0, [0]⟩,
   ⟨"IOL.n.DEVICE_ID", 0x4200, 32, 1, 4, 4, .u32, 4, .rw, .engineer, true, [], 4278190080, [0]⟩,
   ⟨"IOL.n.CYCLE", 0x4200, 32, 1, 5, 5, .u16, 2, .rw, .engineer, true, [(0, 0), (4, 1320)], 0, [0]⟩,
   ⟨"IOL.n.IN_POINT", 0x4200, 32, 1, 6, 6, .u32, 4, .rw, .engineer, true, [], 0, [0]⟩,
   ⟨"IOL.n.OUT_POINT", 0x4200, 32, 1, 7, 7, .u32, 4, .rw, .engineer, true, [], 0, [0]⟩]

/-- Rows 360 to 399 of the dictionary tables. -/
def dictRows9 : List DictRow :=
  [⟨"IOL.n.IN_LEN", 0x4200, 32, 1, 8, 8, .u8, 1, .rw, .engineer, true, [(0, 32)], 0, [0]⟩,
   ⟨"IOL.n.OUT_LEN", 0x4200, 32, 1, 9, 9, .u8, 1, .rw, .engineer, true, [(0, 32)], 0, [0]⟩,
   ⟨"IOL.n.HOLD", 0x4200, 32, 1, 10, 10, .u16, 2, .rw, .engineer, true, [(1, 2000)], 0, [50]⟩,
   ⟨"IOL.n.SAFE", 0x4200, 32, 1, 11, 11, .u8, 1, .rw, .engineer, true, [(0, 2)], 0, [0]⟩,
   ⟨"IOL.n.REPLACE", 0x4200, 32, 1, 12, 12, .oct, 32, .rw, .engineer, true, [], 0, [0]⟩,
   ⟨"IOL.n.STATE", 0x4200, 32, 1, 13, 13, .u8, 1, .ro, .viewer, false, [], 0, [0]⟩,
   ⟨"IOL.n.COM", 0x4200, 32, 1, 14, 14, .u8, 1, .ro, .viewer, false, [], 0, [0]⟩,
   ⟨"IOL.n.ACT_CYCLE", 0x4200, 32, 1, 15, 15, .u16, 2, .ro, .viewer, false, [], 0, [0]⟩,
   ⟨"IOL.n.DEV_VENDOR", 0x4200, 32, 1, 16, 16, .u16, 2, .ro, .viewer, false, [], 0, [0]⟩,
   ⟨"IOL.n.DEV_ID", 0x4200, 32, 1, 17, 17, .u32, 4, .ro, .viewer, false, [], 0, [0]⟩,
   ⟨"IOL.n.CAUSE", 0x4200, 32, 1, 18, 18, .u8, 1, .ro, .viewer, false, [], 0, [0]⟩,
   ⟨"IOL.n.ERRORS", 0x4200, 32, 1, 19, 19, .u32, 4, .ro, .viewer, false, [], 0, [0]⟩,
   ⟨"IOL.n.LPLUS_MA", 0x4200, 32, 1, 20, 20, .u16, 2, .ro, .viewer, false, [], 0, [0]⟩,
   ⟨"ADC.a.COUNT", 0x4300, 4, 1, 0, 0, .u8, 1, .ro, .viewer, false, [], 0, [28]⟩,
   ⟨"ADC.a.REF", 0x4300, 4, 1, 1, 1, .u8, 1, .rw, .engineer, true, [(0, 2)], 0, [0]⟩,
   ⟨"ADC.a.AREF_MV", 0x4300, 4, 1, 2, 2, .u16, 2, .rw, .engineer, true, [(2000, 3000)], 0, [2500]⟩,
   ⟨"ADC.a.MODE", 0x4300, 4, 1, 3, 3, .u8, 1, .rw, .engineer, true, [(0, 1)], 0, [0]⟩,
   ⟨"ADC.a.MASK", 0x4300, 4, 1, 4, 4, .u16, 2, .rw, .engineer, true, [], 57344, [255]⟩,
   ⟨"ADC.a.CHSEL", 0x4300, 4, 1, 5, 5, .u8, 1, .rw, .engineer, true, [(0, 12)], 0, [0]⟩,
   ⟨"ADC.a.TRIGGER", 0x4300, 4, 1, 6, 6, .u8, 1, .rw, .engineer, true, [(0, 2)], 0, [1]⟩,
   ⟨"ADC.a.PERIOD", 0x4300, 4, 1, 7, 7, .u16, 2, .rw, .engineer, true, [(2, 65535)], 0, [100]⟩,
   ⟨"ADC.a.START", 0x4300, 4, 1, 8, 8, .bool, 1, .wo, .engineer, false, [(0, 1)], 0, [0]⟩,
   ⟨"ADC.a.STATUS", 0x4300, 4, 1, 9, 9, .u16, 2, .ro, .viewer, false, [], 0, [0]⟩,
   ⟨"ADC.a.SELFTEST_INTERVAL", 0x4300, 4, 1, 10, 10, .u16, 2, .rw, .engineer, true, [(1, 1000)], 0, [10]⟩,
   ⟨"ADC.a.SELFTEST_FAILS", 0x4300, 4, 1, 11, 11, .u32, 4, .ro, .viewer, false, [], 0, [0]⟩,
   ⟨"ADC.a.CONVERSIONS", 0x4300, 4, 1, 12, 12, .u64, 8, .ro, .viewer, false, [], 0, [0]⟩,
   ⟨"ADC.a.MISSED", 0x4300, 4, 1, 13, 13, .u32, 4, .ro, .viewer, false, [], 0, [0]⟩,
   ⟨"ADC.a.SETTLE_US", 0x4300, 4, 1, 14, 14, .u32, 4, .ro, .viewer, false, [], 0, [0]⟩,
   ⟨"ADC.a.RESULT", 0x4300, 4, 1, 16, 28, .u32, 4, .ro, .viewer, false, [], 0, [2147483648]⟩,
   ⟨"ADC.4.COUNT", 0x4304, 1, 1, 0, 0, .u8, 1, .ro, .viewer, false, [], 0, [47]⟩,
   ⟨"ADC.4.REF", 0x4304, 1, 1, 1, 1, .u8, 1, .ro, .viewer, false, [], 0, [0]⟩,
   ⟨"ADC.4.AREF_MV", 0x4304, 1, 1, 2, 2, .u16, 2, .ro, .viewer, false, [], 0, [2500]⟩,
   ⟨"ADC.4.MODE", 0x4304, 1, 1, 3, 3, .u8, 1, .ro, .viewer, false, [], 0, [0]⟩,
   ⟨"ADC.4.MASK", 0x4304, 1, 1, 4, 4, .u16, 2, .ro, .viewer, false, [], 0, [255]⟩,
   ⟨"ADC.4.CHSEL", 0x4304, 1, 1, 5, 5, .u8, 1, .ro, .viewer, false, [], 0, [0]⟩,
   ⟨"ADC.4.TRIGGER", 0x4304, 1, 1, 6, 6, .u8, 1, .ro, .viewer, false, [], 0, [1]⟩,
   ⟨"ADC.4.PERIOD", 0x4304, 1, 1, 7, 7, .u16, 2, .ro, .viewer, false, [], 0, [100]⟩,
   ⟨"ADC.4.START", 0x4304, 1, 1, 8, 8, .bool, 1, .ro, .viewer, false, [], 0, [0]⟩,
   ⟨"ADC.4.STATUS", 0x4304, 1, 1, 9, 9, .u16, 2, .ro, .viewer, false, [], 0, [0]⟩,
   ⟨"ADC.4.SELFTEST_INTERVAL", 0x4304, 1, 1, 10, 10, .u16, 2, .ro, .viewer, false, [], 0, [10]⟩,
   ⟨"ADC.4.SELFTEST_FAILS", 0x4304, 1, 1, 11, 11, .u32, 4, .ro, .viewer, false, [], 0, [0]⟩,
   ⟨"ADC.4.CONVERSIONS", 0x4304, 1, 1, 12, 12, .u64, 8, .ro, .viewer, false, [], 0, [0]⟩,
   ⟨"ADC.4.MISSED", 0x4304, 1, 1, 13, 13, .u32, 4, .ro, .viewer, false, [], 0, [0]⟩,
   ⟨"ADC.4.SETTLE_US", 0x4304, 1, 1, 14, 14, .u32, 4, .ro, .viewer, false, [], 0, [0]⟩,
   ⟨"ADC.4.RESULT", 0x4304, 1, 1, 16, 47, .u32, 4, .ro, .viewer, false, [], 0, [2147483648]⟩,
   ⟨"ADC.5.COUNT", 0x4305, 1, 1, 0, 0, .u8, 1, .ro, .viewer, false, [], 0, [1]⟩,
   ⟨"ADC.5.RESERVED", 0x4305, 1, 1, 1, 1, .u8, 1, .ro, .viewer, false, [], 0, [255]⟩,
   ⟨"AI.i.COUNT", 0x4310, 32, 1, 0, 0, .u8, 1, .ro, .viewer, false, [], 0, [12]⟩,
   ⟨"AI.i.POINT", 0x4310, 32, 1, 1, 1, .u32, 4, .rw, .engineer, true, [], 0, [0]⟩,
   ⟨"AI.i.OWNER", 0x4310, 32, 1, 2, 2, .u16, 2, .rw, .engineer, true, [], 0, [65535]⟩,
   ⟨"AI.i.MODE", 0x4310, 32, 1, 3, 3, .u8, 1, .rw, .engineer, true, [(0, 2)], 0, [0]⟩,
   ⟨"AI.i.DAMPING", 0x4310, 32, 1, 4, 4, .u16, 2, .rw, .engineer, true, [(0, 6000)], 0, [0]⟩,
   ⟨"AI.i.SCALE_LO", 0x4310, 32, 1, 5, 5, .f32, 4, .rw, .engineer, true, [], 0, [0]⟩,
   ⟨"AI.i.SCALE_HI", 0x4310, 32, 1, 6, 6, .f32, 4, .rw, .engineer, true, [], 0, [1120403456]⟩,
   ⟨"AI.i.RAW_MA", 0x4310, 32, 1, 7, 7, .f32, 4, .ro, .viewer, false, [], 0, [0]⟩,
   ⟨"AI.i.VALUE", 0x4310, 32, 1, 8, 8, .f32, 4, .ro, .viewer, false, [], 0, [0]⟩,
   ⟨"AI.i.NE43", 0x4310, 32, 1, 9, 9, .u8, 1, .ro, .viewer, false, [], 0, [3]⟩,
   ⟨"AI.i.FLAGS", 0x4310, 32, 1, 10, 10, .u8, 1, .ro, .viewer, false, [], 0, [1]⟩]

/-- Rows 400 to 439 of the dictionary tables. -/
def dictRows10 : List DictRow :=
  [⟨"AI.i.NE43_QUAL", 0x4310, 32, 1, 11, 11, .u16, 2, .rw, .engineer, true, [(1, 10000)], 0, [3]⟩,
   ⟨"AI.i.STATE_CHANGES", 0x4310, 32, 1, 12, 12, .u32, 4, .ro, .viewer, false, [], 0, [0]⟩,
   ⟨"AO.j.COUNT", 0x4330, 16, 1, 0, 0, .u8, 1, .ro, .viewer, false, [], 0, [19]⟩,
   ⟨"AO.j.OUT_POINT", 0x4330, 16, 1, 1, 1, .u32, 4, .rw, .engineer, true, [], 0, [0]⟩,
   ⟨"AO.j.IN_POINT", 0x4330, 16, 1, 2, 2, .u32, 4, .rw, .engineer, true, [], 0, [0]⟩,
   ⟨"AO.j.OWNER", 0x4330, 16, 1, 3, 3, .u16, 2, .rw, .engineer, true, [], 0, [65535]⟩,
   ⟨"AO.j.SCALE_LO", 0x4330, 16, 1, 4, 4, .f32, 4, .rw, .engineer, true, [], 0, [0]⟩,
   ⟨"AO.j.SCALE_HI", 0x4330, 16, 1, 5, 5, .f32, 4, .rw, .engineer, true, [], 0, [1120403456]⟩,
   ⟨"AO.j.RATE", 0x4330, 16, 1, 6, 6, .f32, 4, .rw, .engineer, true, [], 0, [0]⟩,
   ⟨"AO.j.LIMIT_LO", 0x4330, 16, 1, 7, 7, .f32, 4, .rw, .engineer, true, [], 0, [1081291571]⟩,
   ⟨"AO.j.LIMIT_HI", 0x4330, 16, 1, 8, 8, .f32, 4, .rw, .engineer, true, [], 0, [1101266944]⟩,
   ⟨"AO.j.SAFE", 0x4330, 16, 1, 9, 9, .u8, 1, .rw, .engineer, true, [(0, 3)], 0, [1]⟩,
   ⟨"AO.j.SAFE_MA", 0x4330, 16, 1, 10, 10, .f32, 4, .rw, .engineer, true, [], 0, [1082130432]⟩,
   ⟨"AO.j.FAIL_LOW_MA", 0x4330, 16, 1, 11, 11, .f32, 4, .rw, .engineer, true, [], 0, [1080033280]⟩,
   ⟨"AO.j.FAIL_HIGH_MA", 0x4330, 16, 1, 12, 12, .f32, 4, .rw, .engineer, true, [], 0, [1101791232]⟩,
   ⟨"AO.j.FAULT_ALARM", 0x4330, 16, 1, 13, 13, .u8, 1, .rw, .engineer, true, [(1, 2)], 0, [1]⟩,
   ⟨"AO.j.HOLD", 0x4330, 16, 1, 14, 14, .u16, 2, .rw, .engineer, true, [(1, 2000)], 0, [50]⟩,
   ⟨"AO.j.OUT_MA", 0x4330, 16, 1, 15, 15, .f32, 4, .ro, .viewer, false, [], 0, [0]⟩,
   ⟨"AO.j.READBACK_MA", 0x4330, 16, 1, 16, 16, .f32, 4, .ro, .viewer, false, [], 0, [0]⟩,
   ⟨"AO.j.STATE", 0x4330, 16, 1, 17, 17, .u8, 1, .ro, .viewer, false, [], 0, [0]⟩,
   ⟨"AO.j.FAULT", 0x4330, 16, 1, 18, 18, .u8, 1, .ro, .viewer, false, [], 0, [0]⟩,
   ⟨"AO.j.ACK", 0x4330, 16, 1, 19, 19, .bool, 1, .wo, .operator, false, [(0, 1)], 0, [0]⟩,
   ⟨"HART.m.COUNT", 0x4340, 48, 1, 0, 0, .u8, 1, .ro, .viewer, false, [], 0, [19]⟩,
   ⟨"HART.m.ENABLE", 0x4340, 48, 1, 1, 1, .bool, 1, .rw, .engineer, true, [(0, 1)], 0, [0]⟩,
   ⟨"HART.m.MASTER", 0x4340, 48, 1, 2, 2, .u8, 1, .rw, .engineer, true, [(0, 1)], 0, [0]⟩,
   ⟨"HART.m.POLL_ADDR", 0x4340, 48, 1, 3, 3, .u8, 1, .rw, .engineer, true, [(0, 63)], 0, [0]⟩,
   ⟨"HART.m.OWNER", 0x4340, 48, 1, 4, 4, .u16, 2, .rw, .engineer, true, [], 0, [65535]⟩,
   ⟨"HART.m.POINT", 0x4340, 48, 1, 5, 5, .u32, 4, .rw, .engineer, true, [], 0, [0]⟩,
   ⟨"HART.m.AUTO_CMD", 0x4340, 48, 1, 6, 6, .u16, 2, .rw, .engineer, true, [], 32512, [0]⟩,
   ⟨"HART.m.AUTO_PERIOD", 0x4340, 48, 1, 7, 7, .u16, 2, .rw, .engineer, true, [(100, 60000)], 0, [1000]⟩,
   ⟨"HART.m.BURST_LISTEN", 0x4340, 48, 1, 8, 8, .bool, 1, .rw, .engineer, true, [(0, 1)], 0, [0]⟩,
   ⟨"HART.m.PREAMBLE", 0x4340, 48, 1, 9, 9, .u8, 1, .rw, .engineer, true, [(5, 20)], 0, [5]⟩,
   ⟨"HART.m.RETRIES", 0x4340, 48, 1, 10, 10, .u8, 1, .rw, .engineer, true, [(0, 7)], 0, [3]⟩,
   ⟨"HART.m.STATE", 0x4340, 48, 1, 11, 11, .u8, 1, .ro, .viewer, false, [], 0, [0]⟩,
   ⟨"HART.m.FLAGS", 0x4340, 48, 1, 12, 12, .u8, 1, .ro, .viewer, false, [], 0, [0]⟩,
   ⟨"HART.m.UNIQUE_ID", 0x4340, 48, 1, 13, 13, .oct, 5, .ro, .viewer, false, [], 0, [0]⟩,
   ⟨"HART.m.FRAMES_OK", 0x4340, 48, 1, 14, 14, .u32, 4, .ro, .viewer, false, [], 0, [0]⟩,
   ⟨"HART.m.NOISE_ABORTS", 0x4340, 48, 1, 15, 15, .u32, 4, .ro, .viewer, false, [], 0, [0]⟩,
   ⟨"HART.m.PARITY_ERRORS", 0x4340, 48, 1, 16, 16, .u32, 4, .ro, .viewer, false, [], 0, [0]⟩,
   ⟨"HART.m.CHECKSUM_ERRORS", 0x4340, 48, 1, 17, 17, .u32, 4, .ro, .viewer, false, [], 0, [0]⟩]

/-- Rows 440 to 479 of the dictionary tables. -/
def dictRows11 : List DictRow :=
  [⟨"HART.m.TIMEOUTS", 0x4340, 48, 1, 18, 18, .u32, 4, .ro, .viewer, false, [], 0, [0]⟩,
   ⟨"HART.m.NOISY_MS", 0x4340, 48, 1, 19, 19, .u32, 4, .ro, .viewer, false, [], 0, [0]⟩,
   ⟨"SW.COUNT", 0x4800, 1, 1, 0, 0, .u8, 1, .ro, .viewer, false, [], 0, [4]⟩,
   ⟨"SW.BRIDGE_MAC", 0x4800, 1, 1, 1, 1, .oct, 6, .ro, .viewer, false, [], 0, [0]⟩,
   ⟨"SW.FDB_AGE", 0x4800, 1, 1, 2, 2, .u32, 4, .rw, .engineer, true, [(10, 1000000)], 0, [300]⟩,
   ⟨"SW.FDB_USED", 0x4800, 1, 1, 3, 3, .u16, 2, .ro, .viewer, false, [], 0, [0]⟩,
   ⟨"SW.FDB_FLUSH", 0x4800, 1, 1, 4, 4, .bool, 1, .wo, .engineer, false, [(0, 1)], 0, [0]⟩,
   ⟨"SW.VLAN_TABLE", 0x4801, 1, 1, 1, 1, .oct, 16384, .rw, .engineer, true, [], 0, [0]⟩,
   ⟨"PORT.n.COUNT", 0x4810, 10, 1, 0, 0, .u8, 1, .ro, .viewer, false, [], 0, [39]⟩,
   ⟨"PORT.n.ENABLE", 0x4810, 10, 1, 1, 1, .bool, 1, .rw, .engineer, true, [(0, 1)], 0, [1]⟩,
   ⟨"PORT.n.INTERFACE", 0x4810, 10, 1, 2, 2, .u8, 1, .rw, .engineer, true, [(0, 1)], 0, [0]⟩,
   ⟨"PORT.n.SPEED", 0x4810, 10, 1, 3, 3, .u8, 1, .ro, .viewer, false, [], 0, [0]⟩,
   ⟨"PORT.n.PVID", 0x4810, 10, 1, 4, 4, .u16, 2, .rw, .engineer, true, [(1, 4094)], 0, [1]⟩,
   ⟨"PORT.n.STATE", 0x4810, 10, 1, 5, 5, .u8, 1, .rw, .engineer, false, [(0, 2)], 0, [0]⟩,
   ⟨"PORT.n.INGRESS_LAT", 0x4810, 10, 1, 6, 6, .i32, 4, .rw, .engineer, true, [], 0, [0]⟩,
   ⟨"PORT.n.EGRESS_LAT", 0x4810, 10, 1, 7, 7, .i32, 4, .rw, .engineer, true, [], 0, [0]⟩,
   ⟨"PORT.n.ASYMMETRY", 0x4810, 10, 1, 8, 8, .i32, 4, .rw, .engineer, true, [], 0, [0]⟩,
   ⟨"PORT.n.PREEMPT", 0x4810, 10, 1, 9, 9, .u8, 1, .rw, .engineer, true, [], 0, [0]⟩,
   ⟨"PORT.n.PREEMPT_STATE", 0x4810, 10, 1, 10, 10, .u8, 1, .ro, .viewer, false, [], 0, [0]⟩,
   ⟨"PORT.n.LAUNCH_MASK", 0x4810, 10, 1, 11, 11, .u8, 1, .rw, .engineer, true, [], 0, [64, 64, 64, 64, 64, 64, 64, 64, 0, 0]⟩,
   ⟨"PORT.n.LATE_TOL", 0x4810, 10, 1, 12, 12, .u32, 4, .rw, .engineer, true, [(0, 1000000)], 0, [1000]⟩,
   ⟨"PORT.n.LAUNCH_DROPS", 0x4810, 10, 1, 13, 13, .u32, 4, .ro, .viewer, false, [], 0, [0]⟩,
   ⟨"PORT.n.RX_FRAMES", 0x4810, 10, 1, 14, 14, .u64, 8, .ro, .viewer, false, [], 0, [0]⟩,
   ⟨"PORT.n.TX_FRAMES", 0x4810, 10, 1, 15, 15, .u64, 8, .ro, .viewer, false, [], 0, [0]⟩,
   ⟨"PORT.n.RX_ERRORS", 0x4810, 10, 1, 16, 16, .u32, 4, .ro, .viewer, false, [], 0, [0]⟩,
   ⟨"PORT.n.TX_DISCARDS", 0x4810, 10, 1, 17, 17, .u32, 4, .ro, .viewer, false, [], 0, [0]⟩,
   ⟨"PORT.n.CBS_SLOPE", 0x4810, 10, 1, 32, 39, .u32, 4, .rw, .engineer, true, [], 0, [0]⟩,
   ⟨"GATE.n.COUNT", 0x4820, 8, 1, 0, 0, .u8, 1, .ro, .viewer, false, [], 0, [143]⟩,
   ⟨"GATE.n.ENABLE", 0x4820, 8, 1, 1, 1, .bool, 1, .rw, .engineer, true, [(0, 1)], 0, [0]⟩,
   ⟨"GATE.n.TIME_BASE", 0x4820, 8, 1, 2, 2, .u8, 1, .rw, .engineer, true, [(0, 7)], 0, [0]⟩,
   ⟨"GATE.n.BASE", 0x4820, 8, 1, 3, 3, .t96, 12, .rw, .engineer, true, [], 0, [0]⟩,
   ⟨"GATE.n.CYCLE", 0x4820, 8, 1, 4, 4, .u32, 4, .rw, .engineer, true, [(1000, 1000000000)], 0, [1000000]⟩,
   ⟨"GATE.n.LENGTH", 0x4820, 8, 1, 5, 5, .u8, 1, .rw, .engineer, true, [(1, 128)], 0, [1]⟩,
   ⟨"GATE.n.APPLY", 0x4820, 8, 1, 6, 6, .bool, 1, .wo, .engineer, false, [(0, 1)], 0, [0]⟩,
   ⟨"GATE.n.STATE", 0x4820, 8, 1, 7, 7, .u8, 1, .ro, .viewer, false, [], 0, [0]⟩,
   ⟨"GATE.n.OPER_BASE", 0x4820, 8, 1, 8, 8, .t96, 12, .ro, .viewer, false, [], 0, [0]⟩,
   ⟨"GATE.n.ENTRY", 0x4820, 8, 1, 16, 143, .u64, 8, .rw, .engineer, true, [], 0, [1095217660480]⟩,
   ⟨"STREAM.TABLE", 0x4840, 1, 1, 1, 16, .oct, 8192, .rw, .engineer, true, [], 0, [0]⟩,
   ⟨"STREAM.STATUS", 0x4841, 1, 1, 1, 1, .oct, 65536, .ro, .viewer, false, [], 0, [0]⟩,
   ⟨"RED.r.COUNT", 0x4850, 2, 1, 0, 0, .u8, 1, .ro, .viewer, false, [], 0, [10]⟩]

/-- Rows 480 to 519 of the dictionary tables. -/
def dictRows12 : List DictRow :=
  [⟨"RED.r.MODE", 0x4850, 2, 1, 1, 1, .u8, 1, .rw, .engineer, true, [(0, 2)], 0, [0]⟩,
   ⟨"RED.r.PORT_A", 0x4850, 2, 1, 2, 2, .u8, 1, .rw, .engineer, true, [(0, 7)], 0, [0, 2]⟩,
   ⟨"RED.r.PORT_B", 0x4850, 2, 1, 3, 3, .u8, 1, .rw, .engineer, true, [(0, 7)], 0, [1, 3]⟩,
   ⟨"RED.r.LIFE_CHECK", 0x4850, 2, 1, 4, 4, .u16, 2, .rw, .engineer, true, [(100, 10000)], 0, [2000]⟩,
   ⟨"RED.r.ENTRY_FORGET", 0x4850, 2, 1, 5, 5, .u16, 2, .rw, .engineer, true, [(10, 10000)], 0, [400]⟩,
   ⟨"RED.r.STATE_A", 0x4850, 2, 1, 6, 6, .u8, 1, .ro, .viewer, false, [], 0, [1]⟩,
   ⟨"RED.r.STATE_B", 0x4850, 2, 1, 7, 7, .u8, 1, .ro, .viewer, false, [], 0, [1]⟩,
   ⟨"RED.r.DUPLICATES", 0x4850, 2, 1, 8, 8, .u64, 8, .ro, .viewer, false, [], 0, [0]⟩,
   ⟨"RED.r.WRONG_LAN", 0x4850, 2, 1, 9, 9, .u32, 4, .ro, .viewer, false, [], 0, [0]⟩,
   ⟨"RED.r.NODES", 0x4850, 2, 1, 10, 10, .u16, 2, .ro, .viewer, false, [], 0, [0]⟩,
   ⟨"PPSIN.k.COUNT", 0x4860, 2, 1, 0, 0, .u8, 1, .ro, .viewer, false, [], 0, [2]⟩,
   ⟨"PPSIN.k.EDGES", 0x4860, 2, 1, 1, 1, .u32, 4, .ro, .viewer, false, [], 0, [0]⟩,
   ⟨"PPSIN.k.LAST", 0x4860, 2, 1, 2, 2, .t96, 12, .ro, .viewer, false, [], 0, [0]⟩,
   ⟨"PPSOUT.k.COUNT", 0x4862, 2, 1, 0, 0, .u8, 1, .ro, .viewer, false, [], 0, [5]⟩,
   ⟨"PPSOUT.k.ENABLE", 0x4862, 2, 1, 1, 1, .bool, 1, .rw, .engineer, true, [(0, 1)], 0, [0]⟩,
   ⟨"PPSOUT.k.TIME_BASE", 0x4862, 2, 1, 2, 2, .u8, 1, .rw, .engineer, true, [(0, 7)], 0, [3]⟩,
   ⟨"PPSOUT.k.OFFSET_NS", 0x4862, 2, 1, 3, 3, .u32, 4, .rw, .engineer, true, [(0, 999999999)], 0, [0]⟩,
   ⟨"PPSOUT.k.WIDTH", 0x4862, 2, 1, 4, 4, .u32, 4, .rw, .engineer, true, [(1, 500000)], 0, [100000]⟩,
   ⟨"PPSOUT.k.GATE_UNSYNC", 0x4862, 2, 1, 5, 5, .bool, 1, .rw, .engineer, true, [(0, 1)], 0, [1]⟩,
   ⟨"TB.n.COUNT", 0x4900, 8, 1, 0, 0, .u8, 1, .ro, .viewer, false, [], 0, [14]⟩,
   ⟨"TB.n.SOURCE", 0x4900, 8, 1, 1, 1, .u8, 1, .rw, .engineer, true, [(0, 2)], 0, [0, 1, 1, 0, 0, 0, 0, 0]⟩,
   ⟨"TB.n.SRC_ARG", 0x4900, 8, 1, 2, 2, .u8, 1, .rw, .engineer, true, [(0, 7)], 0, [0, 0, 1, 0, 0, 0, 0, 0]⟩,
   ⟨"TB.n.RATE", 0x4900, 8, 1, 3, 3, .i64, 8, .rw, .engineer, false, [(-4294967296000000, 4294967296000000)], 0, [0]⟩,
   ⟨"TB.n.OFFSET", 0x4900, 8, 1, 4, 4, .i64, 8, .rw, .engineer, true, [], 0, [0]⟩,
   ⟨"TB.n.VALUE", 0x4900, 8, 1, 5, 5, .t96, 12, .ro, .viewer, false, [], 0, [0]⟩,
   ⟨"TB.n.STEP", 0x4900, 8, 1, 6, 6, .i64, 8, .wo, .engineer, false, [], 0, [0]⟩,
   ⟨"TB.n.SET", 0x4900, 8, 1, 7, 7, .t96, 12, .wo, .engineer, false, [], 0, [0]⟩,
   ⟨"TB.n.SYNC", 0x4900, 8, 1, 8, 8, .u8, 1, .ro, .viewer, false, [], 0, [1]⟩,
   ⟨"TB.n.DECLARE", 0x4900, 8, 1, 9, 9, .u8, 1, .wo, .engineer, false, [(0, 1)], 0, [0]⟩,
   ⟨"TB.n.ERA", 0x4900, 8, 1, 10, 10, .u32, 4, .ro, .viewer, false, [], 0, [0]⟩,
   ⟨"TB.n.STEPS", 0x4900, 8, 1, 11, 11, .u32, 4, .ro, .viewer, false, [], 0, [0]⟩,
   ⟨"TB.n.LAST_STEP", 0x4900, 8, 1, 12, 12, .i64, 8, .ro, .viewer, false, [], 0, [0]⟩,
   ⟨"TB.n.PAV_READ", 0x4900, 8, 1, 13, 13, .oct, 32, .rw, .engineer, true, [], 0, [0]⟩,
   ⟨"TB.n.RUNNING_AS", 0x4900, 8, 1, 14, 14, .u8, 1, .ro, .viewer, false, [], 0, [0]⟩,
   ⟨"PTP.k.COUNT", 0x4910, 4, 1, 0, 0, .u8, 1, .ro, .viewer, false, [], 0, [18]⟩,
   ⟨"PTP.k.ENABLE", 0x4910, 4, 1, 1, 1, .bool, 1, .rw, .engineer, true, [(0, 1)], 0, [0]⟩,
   ⟨"PTP.k.PROFILE", 0x4910, 4, 1, 2, 2, .u8, 1, .rw, .engineer, true, [(0, 2)], 0, [0, 2, 0, 0]⟩,
   ⟨"PTP.k.DOMAIN", 0x4910, 4, 1, 3, 3, .u8, 1, .rw, .engineer, true, [], 0, [0]⟩,
   ⟨"PTP.k.PORTS", 0x4910, 4, 1, 4, 4, .u8, 1, .rw, .engineer, true, [(0, 255)], 0, [0]⟩,
   ⟨"PTP.k.MODE", 0x4910, 4, 1, 5, 5, .u8, 1, .rw, .engineer, true, [(0, 1)], 0, [0]⟩]

/-- Rows 520 to 559 of the dictionary tables. -/
def dictRows13 : List DictRow :=
  [⟨"PTP.k.PRIORITY1", 0x4910, 4, 1, 6, 6, .u8, 1, .rw, .engineer, true, [], 0, [248]⟩,
   ⟨"PTP.k.PRIORITY2", 0x4910, 4, 1, 7, 7, .u8, 1, .rw, .engineer, true, [], 0, [248]⟩,
   ⟨"PTP.k.GM_CAPABLE", 0x4910, 4, 1, 8, 8, .bool, 1, .rw, .engineer, true, [(0, 1)], 0, [0]⟩,
   ⟨"PTP.k.LOCK_NS", 0x4910, 4, 1, 9, 9, .u32, 4, .rw, .engineer, true, [], 0, [100]⟩,
   ⟨"PTP.k.UNLOCK_NS", 0x4910, 4, 1, 10, 10, .u32, 4, .rw, .engineer, true, [], 0, [1000]⟩,
   ⟨"PTP.k.LOCK_COUNT", 0x4910, 4, 1, 11, 11, .u8, 1, .rw, .engineer, true, [(1, 255)], 0, [8]⟩,
   ⟨"PTP.k.HOLDOVER", 0x4910, 4, 1, 12, 12, .u32, 4, .rw, .engineer, true, [], 0, [3000]⟩,
   ⟨"PTP.k.STEP_NS", 0x4910, 4, 1, 13, 13, .u32, 4, .rw, .engineer, true, [], 0, [1000000]⟩,
   ⟨"PTP.k.STATE", 0x4910, 4, 1, 14, 14, .u8, 1, .ro, .viewer, false, [], 0, [0]⟩,
   ⟨"PTP.k.OFFSET_NS", 0x4910, 4, 1, 15, 15, .i64, 8, .ro, .viewer, false, [], 0, [0]⟩,
   ⟨"PTP.k.MEAN_DELAY_NS", 0x4910, 4, 1, 16, 16, .i64, 8, .ro, .viewer, false, [], 0, [0]⟩,
   ⟨"PTP.k.GM_ID", 0x4910, 4, 1, 17, 17, .oct, 8, .ro, .viewer, false, [], 0, [0]⟩,
   ⟨"PTP.k.RX_PORT", 0x4910, 4, 1, 18, 18, .u8, 1, .ro, .viewer, false, [], 0, [255]⟩,
   ⟨"TIME.COUNT", 0x4920, 1, 1, 0, 0, .u8, 1, .ro, .viewer, false, [], 0, [8]⟩,
   ⟨"TIME.UTC_OFFSET", 0x4920, 1, 1, 1, 1, .i16, 2, .rw, .engineer, true, [], 0, [37]⟩,
   ⟨"TIME.LEAP", 0x4920, 1, 1, 2, 2, .u8, 1, .rw, .engineer, false, [(0, 3)], 0, [0]⟩,
   ⟨"TIME.UTC_VALID", 0x4920, 1, 1, 3, 3, .bool, 1, .rw, .engineer, true, [(0, 1)], 0, [0]⟩,
   ⟨"TIME.OSC", 0x4920, 1, 1, 4, 4, .u8, 1, .ro, .viewer, false, [], 0, [0]⟩,
   ⟨"TIME.OSC_SWITCHES", 0x4920, 1, 1, 5, 5, .u32, 4, .ro, .viewer, false, [], 0, [0]⟩,
   ⟨"TIME.CW_TIME_ERR", 0x4920, 1, 1, 6, 6, .i32, 4, .ro, .viewer, false, [], 0, [0]⟩,
   ⟨"TIME.RTC", 0x4920, 1, 1, 7, 7, .t96, 12, .ro, .viewer, false, [], 0, [0]⟩,
   ⟨"TIME.RTC_VALID", 0x4920, 1, 1, 8, 8, .bool, 1, .ro, .viewer, false, [], 0, [0]⟩,
   ⟨"CANBT.c.COUNT", 0x4C01, 8, 16, 0, 0, .u8, 1, .ro, .viewer, false, [], 0, [11]⟩,
   ⟨"CANBT.c.N_BRP", 0x4C01, 8, 16, 1, 1, .u16, 2, .rw, .engineer, true, [(1, 512)], 0, [1]⟩,
   ⟨"CANBT.c.N_TSEG1", 0x4C01, 8, 16, 2, 2, .u16, 2, .rw, .engineer, true, [(2, 256)], 0, [127]⟩,
   ⟨"CANBT.c.N_TSEG2", 0x4C01, 8, 16, 3, 3, .u8, 1, .rw, .engineer, true, [(1, 128)], 0, [32]⟩,
   ⟨"CANBT.c.N_SJW", 0x4C01, 8, 16, 4, 4, .u8, 1, .rw, .engineer, true, [(1, 128)], 0, [32]⟩,
   ⟨"CANBT.c.TRIPLE", 0x4C01, 8, 16, 5, 5, .bool, 1, .rw, .engineer, true, [(0, 1)], 0, [0]⟩,
   ⟨"CANBT.c.FD_ENABLE", 0x4C01, 8, 16, 6, 6, .bool, 1, .rw, .engineer, true, [(0, 1)], 0, [0]⟩,
   ⟨"CANBT.c.D_BRP", 0x4C01, 8, 16, 7, 7, .u8, 1, .rw, .engineer, true, [(1, 32)], 0, [1]⟩,
   ⟨"CANBT.c.D_TSEG1", 0x4C01, 8, 16, 8, 8, .u8, 1, .rw, .engineer, true, [(1, 32)], 0, [29]⟩,
   ⟨"CANBT.c.D_TSEG2", 0x4C01, 8, 16, 9, 9, .u8, 1, .rw, .engineer, true, [(1, 16)], 0, [10]⟩,
   ⟨"CANBT.c.D_SJW", 0x4C01, 8, 16, 10, 10, .u8, 1, .rw, .engineer, true, [(1, 16)], 0, [10]⟩,
   ⟨"CANBT.c.TDC", 0x4C01, 8, 16, 11, 11, .u16, 2, .rw, .engineer, true, [], 32512, [32798]⟩,
   ⟨"CAN.c.COUNT", 0x4C00, 8, 16, 0, 0, .u8, 1, .ro, .viewer, false, [], 0, [17]⟩,
   ⟨"CAN.c.ENABLE", 0x4C00, 8, 16, 1, 1, .bool, 1, .rw, .engineer, true, [(0, 1)], 0, [0]⟩,
   ⟨"CAN.c.ORDER", 0x4C00, 8, 16, 2, 2, .u8, 1, .rw, .engineer, true, [(0, 1)], 0, [0]⟩,
   ⟨"CAN.c.STANDBY_MODE", 0x4C00, 8, 16, 3, 3, .u8, 1, .rw, .engineer, true, [(0, 1)], 0, [0]⟩,
   ⟨"CAN.c.AUTO_RECOVER", 0x4C00, 8, 16, 4, 4, .bool, 1, .rw, .engineer, true, [(0, 1)], 0, [1]⟩,
   ⟨"CAN.c.RECOVER", 0x4C00, 8, 16, 5, 5, .bool, 1, .wo, .operator, false, [(0, 1)], 0, [0]⟩]

/-- Rows 560 to 599 of the dictionary tables. -/
def dictRows14 : List DictRow :=
  [⟨"CAN.c.NODE_ID", 0x4C00, 8, 16, 6, 6, .u8, 1, .rw, .engineer, true, [(0, 127)], 0, [0]⟩,
   ⟨"CAN.c.NMT_AUTO", 0x4C00, 8, 16, 7, 7, .bool, 1, .rw, .engineer, true, [(0, 1)], 0, [0]⟩,
   ⟨"CAN.c.PDO_FD", 0x4C00, 8, 16, 8, 8, .bool, 1, .rw, .engineer, true, [(0, 1)], 0, [0]⟩,
   ⟨"CAN.c.STATUS_POINT", 0x4C00, 8, 16, 9, 9, .u32, 4, .rw, .engineer, true, [], 0, [0]⟩,
   ⟨"CAN.c.STATUS_OWNER", 0x4C00, 8, 16, 10, 10, .u16, 2, .rw, .engineer, true, [], 0, [65535]⟩,
   ⟨"CAN.c.STATE", 0x4C00, 8, 16, 11, 11, .u8, 1, .ro, .viewer, false, [], 0, [0]⟩,
   ⟨"CAN.c.RESTRICTED", 0x4C00, 8, 16, 12, 12, .bool, 1, .ro, .viewer, false, [], 0, [0]⟩,
   ⟨"CAN.c.TEC", 0x4C00, 8, 16, 13, 13, .u16, 2, .ro, .viewer, false, [], 0, [0]⟩,
   ⟨"CAN.c.REC", 0x4C00, 8, 16, 14, 14, .u16, 2, .ro, .viewer, false, [], 0, [0]⟩,
   ⟨"CAN.c.NMT_STATE", 0x4C00, 8, 16, 15, 15, .u8, 1, .ro, .viewer, false, [], 0, [0]⟩,
   ⟨"CAN.c.STUCK_RETRY", 0x4C00, 8, 16, 16, 16, .u32, 4, .ro, .viewer, false, [], 0, [0]⟩,
   ⟨"CAN.c.LAST_ERROR", 0x4C00, 8, 16, 17, 17, .u8, 1, .ro, .viewer, false, [], 0, [0]⟩,
   ⟨"CANOBJ.c.COUNT", 0x4C02, 8, 16, 0, 0, .u8, 1, .ro, .viewer, false, [], 0, [8]⟩,
   ⟨"CANOBJ.c.TABLE", 0x4C02, 8, 16, 1, 8, .oct, 2048, .rw, .engineer, true, [], 0, [0]⟩,
   ⟨"CANQ.c.COUNT", 0x4C03, 8, 16, 0, 0, .u8, 1, .ro, .viewer, false, [], 0, [32]⟩,
   ⟨"CANQ.c.RING", 0x4C03, 8, 16, 1, 16, .u64, 8, .rw, .engineer, true, [], 0, [18446462598732840960]⟩,
   ⟨"CANQ.c.IDFILTER", 0x4C03, 8, 16, 17, 32, .u64, 8, .rw, .engineer, true, [], 0, [0]⟩,
   ⟨"CANRPDO.c.COUNT", 0x4C04, 8, 16, 0, 0, .u8, 1, .ro, .viewer, false, [], 0, [64]⟩,
   ⟨"CANRPDO.c.AREA", 0x4C04, 8, 16, 1, 64, .u64, 8, .rw, .engineer, true, [], 0, [281470681743360]⟩,
   ⟨"CANTPDO.c.COUNT", 0x4C05, 8, 16, 0, 0, .u8, 1, .ro, .viewer, false, [], 0, [64]⟩,
   ⟨"CANTPDO.c.AREA", 0x4C05, 8, 16, 1, 64, .u64, 8, .rw, .engineer, true, [], 0, [281470681743360]⟩,
   ⟨"CANSTAT.c.COUNT", 0x4C06, 8, 16, 0, 0, .u8, 1, .ro, .viewer, false, [], 0, [11]⟩,
   ⟨"CANSTAT.c.RX_FRAMES", 0x4C06, 8, 16, 1, 1, .u64, 8, .ro, .viewer, false, [], 0, [0]⟩,
   ⟨"CANSTAT.c.TX_FRAMES", 0x4C06, 8, 16, 2, 2, .u64, 8, .ro, .viewer, false, [], 0, [0]⟩,
   ⟨"CANSTAT.c.UNMATCHED", 0x4C06, 8, 16, 3, 3, .u32, 4, .ro, .viewer, false, [], 0, [0]⟩,
   ⟨"CANSTAT.c.LOST", 0x4C06, 8, 16, 4, 4, .u32, 4, .ro, .viewer, false, [], 0, [0]⟩,
   ⟨"CANSTAT.c.ERROR_FRAMES", 0x4C06, 8, 16, 5, 5, .u32, 4, .ro, .viewer, false, [], 0, [0]⟩,
   ⟨"CANSTAT.c.BUS_OFF", 0x4C06, 8, 16, 6, 6, .u32, 4, .ro, .viewer, false, [], 0, [0]⟩,
   ⟨"CANSTAT.c.STUCK", 0x4C06, 8, 16, 7, 7, .u32, 4, .ro, .viewer, false, [], 0, [0]⟩,
   ⟨"CANSTAT.c.CANCELS", 0x4C06, 8, 16, 8, 8, .u32, 4, .ro, .viewer, false, [], 0, [0]⟩,
   ⟨"CANSTAT.c.CANCEL_REFUSED", 0x4C06, 8, 16, 9, 9, .u32, 4, .ro, .viewer, false, [], 0, [0]⟩,
   ⟨"CANSTAT.c.RPDO_ERRORS", 0x4C06, 8, 16, 10, 10, .u32, 4, .ro, .viewer, false, [], 0, [0]⟩,
   ⟨"CANSTAT.c.ARB_LOST", 0x4C06, 8, 16, 11, 11, .u32, 4, .ro, .viewer, false, [], 0, [0]⟩,
   ⟨"CAN.c.PDO_IMAGE", 0x4C0F, 8, 16, 0, 0, .oct, 0, .ro, .viewer, false, [], 0, [0]⟩,
   ⟨"STOR.COUNT", 0x5000, 1, 1, 0, 0, .u8, 1, .ro, .viewer, false, [], 0, [25]⟩,
   ⟨"STOR.STATE", 0x5000, 1, 1, 1, 1, .u8, 1, .ro, .viewer, false, [], 0, [1]⟩,
   ⟨"STOR.RAW_BYTES", 0x5000, 1, 1, 2, 2, .u64, 8, .ro, .viewer, false, [], 0, [0]⟩,
   ⟨"STOR.USER_BYTES", 0x5000, 1, 1, 3, 3, .u64, 8, .ro, .viewer, false, [], 0, [0]⟩,
   ⟨"STOR.DIES_GOOD", 0x5000, 1, 1, 4, 4, .u8, 1, .ro, .viewer, false, [], 0, [0]⟩,
   ⟨"STOR.SPARE_INITIAL", 0x5000, 1, 1, 5, 5, .u32, 4, .ro, .viewer, false, [], 0, [0]⟩]

/-- Rows 600 to 639 of the dictionary tables. -/
def dictRows15 : List DictRow :=
  [⟨"STOR.SPARE_LEFT", 0x5000, 1, 1, 6, 6, .u32, 4, .ro, .viewer, false, [], 0, [0]⟩,
   ⟨"STOR.MARGIN", 0x5000, 1, 1, 7, 7, .u16, 2, .ro, .viewer, false, [], 0, [1000]⟩,
   ⟨"STOR.SCRUB_INTERVAL", 0x5000, 1, 1, 8, 8, .u32, 4, .rw, .engineer, true, [(24, 720)], 0, [168]⟩,
   ⟨"STOR.SCRUB_PROGRESS", 0x5000, 1, 1, 9, 9, .u16, 2, .ro, .viewer, false, [], 0, [0]⟩,
   ⟨"STOR.SCRUB_LAST", 0x5000, 1, 1, 10, 10, .t96, 12, .ro, .viewer, false, [], 0, [0]⟩,
   ⟨"STOR.RETENTION_AGE", 0x5000, 1, 1, 11, 11, .u32, 4, .rw, .engineer, true, [(30, 3650)], 0, [365]⟩,
   ⟨"STOR.READ_DISTURB_LIMIT", 0x5000, 1, 1, 12, 12, .u32, 4, .rw, .engineer, true, [(10000, 10000000)], 0, [100000]⟩,
   ⟨"STOR.REBUILD_RATE", 0x5000, 1, 1, 13, 13, .u32, 4, .rw, .engineer, true, [(20, 2000)], 0, [200]⟩,
   ⟨"STOR.REBUILD_PROGRESS", 0x5000, 1, 1, 14, 14, .u16, 2, .ro, .viewer, false, [], 0, [0]⟩,
   ⟨"STOR.PFAIL_STATE", 0x5000, 1, 1, 15, 15, .u8, 1, .ro, .viewer, false, [], 0, [0]⟩,
   ⟨"STOR.PFAIL_FLUSHES", 0x5000, 1, 1, 16, 16, .u32, 4, .ro, .viewer, false, [], 0, [0]⟩,
   ⟨"STOR.PFAIL_LAST", 0x5000, 1, 1, 17, 17, .u32, 4, .ro, .viewer, false, [], 0, [0]⟩,
   ⟨"STOR.JOURNAL_LIMIT", 0x5000, 1, 1, 18, 18, .u32, 4, .ro, .viewer, false, [], 0, [2097152]⟩,
   ⟨"STOR.JOURNAL_USED", 0x5000, 1, 1, 19, 19, .u32, 4, .ro, .viewer, false, [], 0, [0]⟩,
   ⟨"STOR.RECOVERED", 0x5000, 1, 1, 20, 20, .u64, 8, .ro, .viewer, false, [], 0, [0]⟩,
   ⟨"STOR.RECONSTRUCTED", 0x5000, 1, 1, 21, 21, .u64, 8, .ro, .viewer, false, [], 0, [0]⟩,
   ⟨"STOR.UNRECOVERABLE", 0x5000, 1, 1, 22, 22, .u32, 4, .ro, .viewer, false, [], 0, [0]⟩,
   ⟨"STOR.CRC_ERRORS", 0x5000, 1, 1, 23, 23, .u32, 4, .ro, .viewer, false, [], 0, [0]⟩,
   ⟨"STOR.BLOCKS_RETIRED", 0x5000, 1, 1, 24, 24, .u32, 4, .ro, .viewer, false, [], 0, [0]⟩,
   ⟨"STOR.SUSPECT_BLOCKS", 0x5000, 1, 1, 25, 25, .u32, 4, .ro, .viewer, false, [], 0, [0]⟩,
   ⟨"NCH.ch.COUNT", 0x5001, 4, 1, 0, 0, .u8, 1, .ro, .viewer, false, [], 0, [6]⟩,
   ⟨"NCH.ch.ENABLE", 0x5001, 4, 1, 1, 1, .bool, 1, .rw, .owner, true, [(0, 1)], 0, [1]⟩,
   ⟨"NCH.ch.RATE", 0x5001, 4, 1, 2, 2, .u16, 2, .rw, .engineer, true, [(50, 800)], 0, [800]⟩,
   ⟨"NCH.ch.STATE", 0x5001, 4, 1, 3, 3, .u8, 1, .ro, .viewer, false, [], 0, [0]⟩,
   ⟨"NCH.ch.CE_PRESENT", 0x5001, 4, 1, 4, 4, .u8, 1, .ro, .viewer, false, [], 0, [0]⟩,
   ⟨"NCH.ch.INTERFACE", 0x5001, 4, 1, 5, 5, .u8, 1, .ro, .viewer, false, [], 0, [0]⟩,
   ⟨"NCH.ch.ERRORS", 0x5001, 4, 1, 6, 6, .u32, 4, .ro, .viewer, false, [], 0, [0]⟩,
   ⟨"DIE.d.COUNT", 0x5010, 64, 1, 0, 0, .u8, 1, .ro, .viewer, false, [], 0, [9]⟩,
   ⟨"DIE.d.STATE", 0x5010, 64, 1, 1, 1, .u8, 1, .ro, .viewer, false, [], 0, [0]⟩,
   ⟨"DIE.d.MODEL", 0x5010, 64, 1, 2, 2, .str, 32, .ro, .viewer, false, [], 0, [0]⟩,
   ⟨"DIE.d.PAGE_BYTES", 0x5010, 64, 1, 3, 3, .u32, 4, .ro, .viewer, false, [], 0, [0]⟩,
   ⟨"DIE.d.BLOCKS", 0x5010, 64, 1, 4, 4, .u32, 4, .ro, .viewer, false, [], 0, [0]⟩,
   ⟨"DIE.d.PE_LIMIT", 0x5010, 64, 1, 5, 5, .u32, 4, .ro, .viewer, false, [], 0, [0]⟩,
   ⟨"DIE.d.PE_MEAN", 0x5010, 64, 1, 6, 6, .u32, 4, .ro, .viewer, false, [], 0, [0]⟩,
   ⟨"DIE.d.PE_MAX", 0x5010, 64, 1, 7, 7, .u32, 4, .ro, .viewer, false, [], 0, [0]⟩,
   ⟨"DIE.d.BAD_BLOCKS", 0x5010, 64, 1, 8, 8, .u32, 4, .ro, .viewer, false, [], 0, [0]⟩,
   ⟨"DIE.d.RETRIES", 0x5010, 64, 1, 9, 9, .u64, 8, .ro, .viewer, false, [], 0, [0]⟩,
   ⟨"PART.k.COUNT", 0x5100, 7, 1, 0, 0, .u8, 1, .ro, .viewer, false, [], 0, [5]⟩,
   ⟨"PART.k.SIZE", 0x5100, 3, 1, 1, 1, .u32, 4, .rw, .owner, true, [], 0, [0]⟩,
   ⟨"PART.k.SIZE", 0x5104, 1, 1, 1, 1, .u32, 4, .rw, .owner, true, [], 0, [0]⟩,
   ⟨"PART.k.SIZE", 0x5103, 1, 1, 1, 1, .u32, 4, .ro, .viewer, false, [], 0, [0]⟩,
   ⟨"PART.k.SIZE", 0x5105, 2, 1, 1, 1, .u32, 4, .ro, .viewer, false, [], 0, [0]⟩,
   ⟨"PART.k.USED", 0x5100, 7, 1, 2, 2, .u64, 8, .ro, .viewer, false, [], 0, [0]⟩]

/-- Rows 640 to 679 of the dictionary tables. -/
def dictRows16 : List DictRow :=
  [⟨"PART.k.STATE", 0x5100, 7, 1, 3, 3, .u8, 1, .ro, .viewer, false, [], 0, [0]⟩,
   ⟨"PART.k.WRITTEN", 0x5100, 7, 1, 4, 4, .u64, 8, .ro, .viewer, false, [], 0, [0]⟩,
   ⟨"PART.k.STORE_MIRROR", 0x5100, 7, 1, 5, 5, .u8, 1, .ro, .viewer, false, [], 0, [0]⟩,
   ⟨"STORJ.COUNT", 0x5120, 1, 1, 0, 0, .u8, 1, .ro, .viewer, false, [], 0, [2]⟩,
   ⟨"STORJ.OPEN", 0x5120, 1, 1, 1, 1, .u8, 1, .ro, .viewer, false, [], 0, [0]⟩,
   ⟨"STORJ.LAST_RECOVERY", 0x5120, 1, 1, 2, 2, .oct, 16, .ro, .viewer, false, [], 0, [0]⟩,
   ⟨"RECQ.QUERY", 0x2050, 1, 1, 1, 1, .oct, 16, .wo, .viewer, false, [], 0, [0]⟩,
   ⟨"RECQ.RESULT", 0x2050, 1, 1, 2, 2, .oct, 65536, .ro, .viewer, false, [], 0, [0]⟩,
   ⟨"HISTQ.QUERY", 0x2051, 1, 1, 1, 1, .oct, 32, .wo, .viewer, false, [], 0, [0]⟩,
   ⟨"HISTQ.RESULT", 0x2051, 1, 1, 2, 2, .oct, 65536, .ro, .viewer, false, [], 0, [0]⟩,
   ⟨"REC.FREEZE", 0x2052, 1, 1, 1, 1, .u8, 1, .wo, .operator, false, [(0, 1)], 0, [0]⟩,
   ⟨"REC.FROZEN", 0x2052, 1, 1, 2, 2, .u8, 1, .ro, .viewer, false, [], 0, [0]⟩,
   ⟨"REC.CLEAR_NONCE", 0x2053, 1, 1, 1, 1, .oct, 16, .ro, .viewer, false, [], 0, [0]⟩,
   ⟨"REC.CLEAR_TOKEN", 0x2053, 1, 1, 2, 2, .oct, 128, .wo, .engineer, false, [], 0, [0]⟩,
   ⟨"REC.CLEAR_KEYSWITCH", 0x2053, 1, 1, 3, 3, .u64, 8, .wo, .operator, false, [], 0, [0]⟩,
   ⟨"REC.CLEAR_LOG", 0x2053, 1, 1, 4, 4, .oct, 1792, .ro, .viewer, false, [], 0, [0]⟩,
   ⟨"REC.COUNT", 0x5400, 1, 1, 0, 0, .u8, 1, .ro, .viewer, false, [], 0, [13]⟩,
   ⟨"REC.RING_BYTES", 0x5400, 1, 1, 1, 1, .u32, 4, .ro, .viewer, false, [], 0, [8388608]⟩,
   ⟨"REC.HEAD", 0x5400, 1, 1, 2, 2, .u32, 4, .ro, .viewer, false, [], 0, [0]⟩,
   ⟨"REC.TAIL", 0x5400, 1, 1, 3, 3, .u32, 4, .ro, .viewer, false, [], 0, [0]⟩,
   ⟨"REC.SEQ_FIRST", 0x5400, 1, 1, 4, 4, .u64, 8, .ro, .viewer, false, [], 0, [0]⟩,
   ⟨"REC.SEQ_NEXT", 0x5400, 1, 1, 5, 5, .u64, 8, .ro, .viewer, false, [], 0, [0]⟩,
   ⟨"REC.ARCHIVED", 0x5400, 1, 1, 6, 6, .u64, 8, .ro, .viewer, false, [], 0, [0]⟩,
   ⟨"REC.ARCHIVE_FIRST", 0x5400, 1, 1, 7, 7, .u64, 8, .ro, .viewer, false, [], 0, [0]⟩,
   ⟨"REC.ARCHIVE_LOST", 0x5400, 1, 1, 8, 8, .u64, 8, .ro, .viewer, false, [], 0, [0]⟩,
   ⟨"REC.SIDE_USED", 0x5400, 1, 1, 9, 9, .u32, 4, .ro, .viewer, false, [], 0, [0]⟩,
   ⟨"REC.GAPS", 0x5400, 1, 1, 10, 10, .u32, 4, .ro, .viewer, false, [], 0, [0]⟩,
   ⟨"REC.CLEARS", 0x5400, 1, 1, 11, 11, .u32, 4, .ro, .viewer, false, [], 0, [0]⟩,
   ⟨"REC.KEYSWITCH", 0x5400, 1, 1, 12, 12, .bool, 1, .ro, .viewer, false, [], 0, [0]⟩,
   ⟨"REC.CLEAR_REFUSED", 0x5400, 1, 1, 13, 13, .u32, 4, .ro, .viewer, false, [], 0, [0]⟩,
   ⟨"HIST.COUNT", 0x5500, 1, 1, 0, 0, .u8, 1, .ro, .viewer, false, [], 0, [7]⟩,
   ⟨"HIST.ENABLE", 0x5500, 1, 1, 1, 1, .bool, 1, .rw, .engineer, true, [(0, 1)], 0, [0]⟩,
   ⟨"HIST.LOAD", 0x5500, 1, 1, 2, 2, .u32, 4, .ro, .viewer, false, [], 0, [0]⟩,
   ⟨"HIST.SAMPLES", 0x5500, 1, 1, 3, 3, .u64, 8, .ro, .viewer, false, [], 0, [0]⟩,
   ⟨"HIST.POINTS", 0x5500, 1, 1, 4, 4, .u64, 8, .ro, .viewer, false, [], 0, [0]⟩,
   ⟨"HIST.OVERFLOWS", 0x5500, 1, 1, 5, 5, .u32, 4, .ro, .viewer, false, [], 0, [0]⟩,
   ⟨"HIST.BUFFER_USED", 0x5500, 1, 1, 6, 6, .u32, 4, .ro, .viewer, false, [], 0, [0]⟩,
   ⟨"HIST.TAGS", 0x5500, 1, 1, 7, 7, .u32, 4, .ro, .viewer, false, [], 0, [0]⟩,
   ⟨"HIST.TAG_TABLE", 0x5510, 4, 1, 1, 64, .oct, 8192, .rw, .engineer, true, [], 0, [0]⟩,
   ⟨"TOT.u.COUNT", 0x5580, 128, 1, 0, 0, .u8, 1, .ro, .viewer, false, [], 0, [11]⟩]

/-- Rows 680 to 719 of the dictionary tables. -/
def dictRows17 : List DictRow :=
  [⟨"TOT.u.TAG", 0x5580, 128, 1, 1, 1, .u16, 2, .rw, .engineer, true, [], 0, [65535]⟩,
   ⟨"TOT.u.KIND", 0x5580, 128, 1, 2, 2, .u8, 1, .rw, .engineer, true, [(0, 2)], 0, [0]⟩,
   ⟨"TOT.u.SCALE", 0x5580, 128, 1, 3, 3, .f64, 8, .rw, .engineer, true, [], 0, [4607182418800017408]⟩,
   ⟨"TOT.u.PERIOD", 0x5580, 128, 1, 4, 4, .u32, 4, .rw, .engineer, true, [(60, 86400)], 0, [900]⟩,
   ⟨"TOT.u.ALIGN", 0x5580, 128, 1, 5, 5, .i32, 4, .rw, .engineer, true, [(-43200, 43200)], 0, [0]⟩,
   ⟨"TOT.u.TOTAL", 0x5580, 128, 1, 6, 6, .f64, 8, .ro, .viewer, false, [], 0, [0]⟩,
   ⟨"TOT.u.PERIOD_ACC", 0x5580, 128, 1, 7, 7, .f64, 8, .ro, .viewer, false, [], 0, [0]⟩,
   ⟨"TOT.u.PERIOD_START", 0x5580, 128, 1, 8, 8, .t96, 12, .ro, .viewer, false, [], 0, [0]⟩,
   ⟨"TOT.u.ERA", 0x5580, 128, 1, 9, 9, .u32, 4, .ro, .viewer, false, [], 0, [0]⟩,
   ⟨"TOT.u.LAST_CLOSE", 0x5580, 128, 1, 10, 10, .oct, 48, .ro, .viewer, false, [], 0, [0]⟩,
   ⟨"TOT.u.CLOSES", 0x5580, 128, 1, 11, 11, .u32, 4, .ro, .viewer, false, [], 0, [0]⟩,
   ⟨"GH.COUNT", 0x2000, 1, 1, 0, 0, .u8, 1, .ro, .viewer, false, [], 0, [6]⟩,
   ⟨"GH.PART", 0x2000, 1, 1, 1, 1, .str, 16, .ro, .viewer, false, [], 0, [0]⟩,
   ⟨"GH.GRADE", 0x2000, 1, 1, 2, 2, .u8, 1, .ro, .viewer, false, [], 0, [0]⟩,
   ⟨"GH.SERIAL", 0x2000, 1, 1, 3, 3, .u32, 4, .ro, .viewer, false, [], 0, [0]⟩,
   ⟨"GH.FW_VERSION", 0x2000, 1, 1, 4, 4, .u32, 4, .ro, .viewer, false, [], 0, [0]⟩,
   ⟨"GH.UPTIME", 0x2000, 1, 1, 5, 5, .u32, 4, .ro, .viewer, false, [], 0, [0]⟩,
   ⟨"GH.SRAM_CORRECTED", 0x2000, 1, 1, 6, 6, .u32, 4, .ro, .viewer, false, [], 0, [0]⟩,
   ⟨"MODE.COUNT", 0x2001, 1, 1, 0, 0, .u8, 1, .ro, .viewer, false, [], 0, [6]⟩,
   ⟨"MODE.NOW", 0x2001, 1, 1, 1, 1, .u8, 1, .ro, .viewer, false, [], 0, [2]⟩,
   ⟨"MODE.SINCE", 0x2001, 1, 1, 2, 2, .t96, 12, .ro, .viewer, false, [], 0, [0]⟩,
   ⟨"MODE.LAST_RESET", 0x2001, 1, 1, 3, 3, .u8, 1, .ro, .viewer, false, [], 0, [1]⟩,
   ⟨"MODE.RESETS", 0x2001, 1, 1, 4, 4, .u32, 4, .ro, .viewer, false, [], 0, [0]⟩,
   ⟨"MODE.HALT_CAUSE", 0x2001, 1, 1, 5, 5, .u8, 1, .ro, .viewer, false, [], 0, [0]⟩,
   ⟨"MODE.PREVIOUS", 0x2001, 1, 1, 6, 6, .u8, 1, .ro, .viewer, false, [], 0, [2]⟩,
   ⟨"MODECMD.COUNT", 0x2002, 1, 1, 0, 0, .u8, 1, .ro, .viewer, false, [], 0, [4]⟩,
   ⟨"MODECMD.SERVICE", 0x2002, 1, 1, 1, 1, .u8, 1, .wo, .engineer, false, [(0, 1)], 0, [0]⟩,
   ⟨"MODECMD.SERVICE_LIMIT", 0x2002, 1, 1, 2, 2, .u16, 2, .rw, .engineer, true, [(1, 480)], 0, [60]⟩,
   ⟨"MODECMD.DORMANT", 0x2002, 1, 1, 3, 3, .bool, 1, .wo, .engineer, false, [(0, 1)], 0, [0]⟩,
   ⟨"MODECMD.RESET", 0x2002, 1, 1, 4, 4, .u8, 1, .wo, .owner, false, [(90, 90)], 0, [0]⟩,
   ⟨"WDT.COUNT", 0x2003, 1, 1, 0, 0, .u8, 1, .ro, .viewer, false, [], 0, [10]⟩,
   ⟨"WDT.STATE", 0x2003, 1, 1, 1, 1, .u8, 1, .ro, .viewer, false, [], 0, [1]⟩,
   ⟨"WDT.OPEN", 0x2003, 1, 1, 2, 2, .u32, 4, .rw, .owner, true, [], 0, [20]⟩,
   ⟨"WDT.TIMEOUT", 0x2003, 1, 1, 3, 3, .u32, 4, .rw, .owner, true, [(10, 10000)], 0, [100]⟩,
   ⟨"WDT.SERVICE", 0x2003, 1, 1, 4, 4, .u16, 2, .ro, .viewer, false, [], 0, [0]⟩,
   ⟨"WDT.KEY", 0x2003, 1, 1, 5, 5, .u16, 2, .wo, .owner, false, [], 0, [0]⟩,
   ⟨"WDT.LOCK", 0x2003, 1, 1, 6, 6, .bool, 1, .rw, .owner, false, [(0, 1)], 0, [0]⟩,
   ⟨"WDT.LOCK_AT_BOOT", 0x2003, 1, 1, 7, 7, .bool, 1, .rw, .owner, true, [(0, 1)], 0, [1]⟩,
   ⟨"WDT.ENABLE", 0x2003, 1, 1, 8, 8, .bool, 1, .wo, .owner, false, [(0, 1)], 0, [0]⟩,
   ⟨"WDT.EXPIRIES", 0x2003, 1, 1, 9, 9, .u32, 4, .ro, .viewer, false, [], 0, [0]⟩]

/-- Rows 720 to 759 of the dictionary tables. -/
def dictRows18 : List DictRow :=
  [⟨"WDT.MARGIN_MIN", 0x2003, 1, 1, 10, 10, .u32, 4, .ro, .viewer, false, [], 0, [4294967295]⟩,
   ⟨"TEMP.COUNT", 0x2004, 1, 1, 0, 0, .u8, 1, .ro, .viewer, false, [], 0, [37]⟩,
   ⟨"TEMP.VALUE", 0x2004, 1, 1, 1, 32, .i16, 2, .ro, .viewer, false, [], 0, [0]⟩,
   ⟨"TEMP.WARN", 0x2004, 1, 1, 33, 33, .i16, 2, .rw, .engineer, true, [(700, 1250)], 0, [1050]⟩,
   ⟨"TEMP.CRIT", 0x2004, 1, 1, 34, 34, .i16, 2, .rw, .owner, true, [(-32768, 1250)], 0, [1200]⟩,
   ⟨"TEMP.WARN_MAP", 0x2004, 1, 1, 35, 35, .u32, 4, .ro, .viewer, false, [], 0, [0]⟩,
   ⟨"TEMP.CRIT_MAP", 0x2004, 1, 1, 36, 36, .u32, 4, .ro, .viewer, false, [], 0, [0]⟩,
   ⟨"TEMP.PLATE_MAX", 0x2004, 1, 1, 37, 37, .i16, 2, .ro, .viewer, false, [], 0, [0]⟩,
   ⟨"RAIL.COUNT", 0x2005, 1, 1, 0, 0, .u8, 1, .ro, .viewer, false, [], 0, [20]⟩,
   ⟨"RAIL.MV", 0x2005, 1, 1, 1, 18, .u16, 2, .ro, .viewer, false, [], 0, [0]⟩,
   ⟨"RAIL.WARN_MAP", 0x2005, 1, 1, 19, 19, .u32, 4, .ro, .viewer, false, [], 0, [0]⟩,
   ⟨"RAIL.FAULT_MAP", 0x2005, 1, 1, 20, 20, .u32, 4, .ro, .viewer, false, [], 0, [0]⟩,
   ⟨"VIB.COUNT", 0x2006, 1, 1, 0, 0, .u8, 1, .ro, .viewer, false, [], 0, [7]⟩,
   ⟨"VIB.RMS", 0x2006, 1, 1, 1, 1, .oct, 12, .ro, .viewer, false, [], 0, [0]⟩,
   ⟨"VIB.HISTOGRAM", 0x2006, 1, 1, 2, 2, .oct, 3072, .ro, .viewer, false, [], 0, [0]⟩,
   ⟨"VIB.SHOCK_LEVEL", 0x2006, 1, 1, 3, 3, .u16, 2, .rw, .engineer, true, [(10, 160)], 0, [50]⟩,
   ⟨"VIB.SHOCK_LOG", 0x2006, 1, 1, 4, 4, .oct, 2048, .ro, .viewer, false, [], 0, [0]⟩,
   ⟨"VIB.SHOCKS", 0x2006, 1, 1, 5, 5, .u32, 4, .ro, .viewer, false, [], 0, [0]⟩,
   ⟨"VIB.PEAK", 0x2006, 1, 1, 6, 6, .oct, 12, .ro, .viewer, false, [], 0, [0]⟩,
   ⟨"VIB.ALERT", 0x2006, 1, 1, 7, 7, .f32, 4, .rw, .engineer, true, [], 0, [1073741824]⟩,
   ⟨"ENV.COUNT", 0x2007, 1, 1, 0, 0, .u8, 1, .ro, .viewer, false, [], 0, [3]⟩,
   ⟨"ENV.RH", 0x2007, 1, 1, 1, 1, .u16, 2, .ro, .viewer, false, [], 0, [0]⟩,
   ⟨"ENV.RH_WARN", 0x2007, 1, 1, 2, 2, .u16, 2, .rw, .engineer, true, [(100, 950)], 0, [600]⟩,
   ⟨"ENV.LID_LIGHT", 0x2007, 1, 1, 3, 3, .u16, 2, .ro, .viewer, false, [], 0, [0]⟩,
   ⟨"CONT.COUNT", 0x2008, 1, 1, 0, 0, .u8, 1, .ro, .viewer, false, [], 0, [36]⟩,
   ⟨"CONT.MOHM", 0x2008, 1, 1, 1, 16, .u16, 2, .ro, .viewer, false, [], 0, [0]⟩,
   ⟨"CONT.BASELINE", 0x2008, 1, 1, 17, 32, .u16, 2, .ro, .viewer, false, [], 0, [0]⟩,
   ⟨"CONT.WARN", 0x2008, 1, 1, 33, 33, .u16, 2, .rw, .engineer, true, [(5, 1000)], 0, [50]⟩,
   ⟨"CONT.CRIT", 0x2008, 1, 1, 34, 34, .u16, 2, .rw, .engineer, true, [], 0, [200]⟩,
   ⟨"CONT.REBASE", 0x2008, 1, 1, 35, 35, .bool, 1, .wo, .owner, false, [(0, 1)], 0, [0]⟩,
   ⟨"CONT.STATE", 0x2008, 1, 1, 36, 36, .u32, 4, .ro, .viewer, false, [], 0, [0]⟩,
   ⟨"WEAR.COUNT", 0x2009, 1, 1, 0, 0, .u8, 1, .ro, .viewer, false, [], 0, [8]⟩,
   ⟨"WEAR.HOURS", 0x2009, 1, 1, 1, 1, .u32, 4, .ro, .viewer, false, [], 0, [0]⟩,
   ⟨"WEAR.POWER_UPS", 0x2009, 1, 1, 2, 2, .u32, 4, .ro, .viewer, false, [], 0, [0]⟩,
   ⟨"WEAR.MATINGS", 0x2009, 1, 1, 3, 3, .u32, 4, .ro, .viewer, false, [], 0, [0]⟩,
   ⟨"WEAR.PLATE_HOURS", 0x2009, 1, 1, 4, 4, .oct, 56, .ro, .viewer, false, [], 0, [0]⟩,
   ⟨"WEAR.LANES_RETIRED", 0x2009, 1, 1, 5, 5, .u8, 1, .ro, .viewer, false, [], 0, [0]⟩,
   ⟨"WEAR.SPARES", 0x2009, 1, 1, 6, 6, .u8, 1, .ro, .viewer, false, [], 0, [3]⟩,
   ⟨"WEAR.STORAGE_MARGIN", 0x2009, 1, 1, 7, 7, .u16, 2, .ro, .viewer, false, [], 0, [1000]⟩,
   ⟨"WEAR.WDT_EXPIRIES", 0x2009, 1, 1, 8, 8, .u32, 4, .ro, .viewer, false, [], 0, [0]⟩]

/-- Rows 760 to 799 of the dictionary tables. -/
def dictRows19 : List DictRow :=
  [⟨"SVCETH.COUNT", 0x200A, 1, 1, 0, 0, .u8, 1, .ro, .viewer, false, [], 0, [7]⟩,
   ⟨"SVCETH.ENABLE", 0x200A, 1, 1, 1, 1, .bool, 1, .rw, .owner, true, [(0, 1)], 0, [1]⟩,
   ⟨"SVCETH.LINK", 0x200A, 1, 1, 2, 2, .u8, 1, .ro, .viewer, false, [], 0, [0]⟩,
   ⟨"SVCETH.MAC", 0x200A, 1, 1, 3, 3, .oct, 6, .ro, .viewer, false, [], 0, [0]⟩,
   ⟨"SVCETH.IPV6", 0x200A, 1, 1, 4, 4, .oct, 17, .rw, .owner, true, [], 0, [0]⟩,
   ⟨"SVCETH.IPV4", 0x200A, 1, 1, 5, 5, .oct, 5, .rw, .owner, true, [], 0, [0]⟩,
   ⟨"SVCETH.DISCARDS", 0x200A, 1, 1, 6, 6, .u32, 4, .ro, .viewer, false, [], 0, [0]⟩,
   ⟨"SVCETH.FRAMES", 0x200A, 1, 1, 7, 7, .u64, 8, .ro, .viewer, false, [], 0, [0]⟩,
   ⟨"OPT.COUNT", 0x200B, 1, 1, 0, 0, .u8, 1, .ro, .viewer, false, [], 0, [7]⟩,
   ⟨"OPT.ENABLE", 0x200B, 1, 1, 1, 1, .bool, 1, .rw, .owner, true, [(0, 1)], 0, [1]⟩,
   ⟨"OPT.STATE", 0x200B, 1, 1, 2, 2, .u8, 1, .ro, .viewer, false, [], 0, [0]⟩,
   ⟨"OPT.AMBIENT", 0x200B, 1, 1, 3, 3, .u16, 2, .ro, .viewer, false, [], 0, [0]⟩,
   ⟨"OPT.FRAMES_OK", 0x200B, 1, 1, 4, 4, .u32, 4, .ro, .viewer, false, [], 0, [0]⟩,
   ⟨"OPT.DISCARDED", 0x200B, 1, 1, 5, 5, .u32, 4, .ro, .viewer, false, [], 0, [0]⟩,
   ⟨"OPT.FLOOD_MS", 0x200B, 1, 1, 6, 6, .u32, 4, .ro, .viewer, false, [], 0, [0]⟩,
   ⟨"OPT.IDLE", 0x200B, 1, 1, 7, 7, .u16, 2, .rw, .owner, true, [(10, 600)], 0, [60]⟩,
   ⟨"PWR.COUNT", 0x2100, 1, 1, 0, 0, .u8, 1, .ro, .viewer, false, [], 0, [9]⟩,
   ⟨"PWR.VLOGIC_MV", 0x2100, 1, 1, 1, 1, .u16, 2, .ro, .viewer, false, [], 0, [0]⟩,
   ⟨"PWR.VLOGIC_STATE", 0x2100, 1, 1, 2, 2, .u8, 1, .ro, .viewer, false, [], 0, [0]⟩,
   ⟨"PWR.PFAIL", 0x2100, 1, 1, 3, 3, .u8, 1, .ro, .viewer, false, [], 0, [0]⟩,
   ⟨"PWR.SEATED", 0x2100, 1, 1, 4, 4, .u8, 1, .ro, .viewer, false, [], 0, [0]⟩,
   ⟨"PWR.LOGIC_MW", 0x2100, 1, 1, 5, 5, .u32, 4, .ro, .viewer, false, [], 0, [0]⟩,
   ⟨"PWR.LOGIC_MW_MAX", 0x2100, 1, 1, 6, 6, .u32, 4, .ro, .viewer, false, [], 0, [0]⟩,
   ⟨"PWR.PFAIL_COUNT", 0x2100, 1, 1, 7, 7, .u32, 4, .ro, .viewer, false, [], 0, [0]⟩,
   ⟨"PWR.INTERNAL_PFAIL", 0x2100, 1, 1, 8, 8, .u32, 4, .ro, .viewer, false, [], 0, [0]⟩,
   ⟨"PWR.SEATED_OPENS", 0x2100, 1, 1, 9, 9, .u32, 4, .ro, .viewer, false, [], 0, [0]⟩,
   ⟨"DROOP.COUNT", 0x2101, 1, 1, 0, 0, .u8, 1, .ro, .viewer, false, [], 0, [9]⟩,
   ⟨"DROOP.THROTTLES", 0x2101, 1, 1, 1, 1, .u64, 8, .ro, .viewer, false, [], 0, [0]⟩,
   ⟨"DROOP.THROTTLE_NS", 0x2101, 1, 1, 2, 2, .u64, 8, .ro, .viewer, false, [], 0, [0]⟩,
   ⟨"DROOP.STRETCHES", 0x2101, 1, 1, 3, 3, .u64, 8, .ro, .viewer, false, [], 0, [0]⟩,
   ⟨"DROOP.STRETCH_NS", 0x2101, 1, 1, 4, 4, .u64, 8, .ro, .viewer, false, [], 0, [0]⟩,
   ⟨"DROOP.PERIOD_MAX", 0x2101, 1, 1, 5, 5, .u32, 4, .ro, .viewer, false, [], 0, [0]⟩,
   ⟨"DROOP.DEFERRED", 0x2101, 1, 1, 6, 6, .u32, 4, .ro, .viewer, false, [], 0, [0]⟩,
   ⟨"DROOP.BUDGET_HITS", 0x2101, 1, 1, 7, 7, .u32, 4, .ro, .viewer, false, [], 0, [0]⟩,
   ⟨"DROOP.CRITICAL", 0x2101, 1, 1, 8, 8, .u32, 4, .ro, .viewer, false, [], 0, [0]⟩,
   ⟨"DROOP.LAST", 0x2101, 1, 1, 9, 9, .oct, 16, .ro, .viewer, false, [], 0, [0]⟩,
   ⟨"CLK.COUNT", 0x2102, 1, 1, 0, 0, .u8, 1, .ro, .viewer, false, [], 0, [29]⟩,
   ⟨"CLK.STATE", 0x2102, 1, 1, 1, 28, .u8, 1, .ro, .viewer, false, [], 0, [0]⟩,
   ⟨"CLK.RELOCKS", 0x2102, 1, 1, 29, 29, .u32, 4, .ro, .viewer, false, [], 0, [0]⟩,
   ⟨"WAKE.COUNT", 0x2103, 1, 1, 0, 0, .u8, 1, .ro, .viewer, false, [], 0, [7]⟩]

/-- Rows 800 to 839 of the dictionary tables. -/
def dictRows20 : List DictRow :=
  [⟨"WAKE.SOURCES", 0x2103, 1, 1, 1, 1, .u8, 1, .rw, .engineer, true, [], 224, [25]⟩,
   ⟨"WAKE.ALARM", 0x2103, 1, 1, 2, 2, .t96, 12, .rw, .engineer, false, [], 0, [0]⟩,
   ⟨"WAKE.NET_PORTS", 0x2103, 1, 1, 3, 3, .u8, 1, .rw, .engineer, true, [], 224, [16]⟩,
   ⟨"WAKE.CAN_MASK", 0x2103, 1, 1, 4, 4, .u8, 1, .rw, .engineer, true, [], 0, [0]⟩,
   ⟨"WAKE.LAST_CAUSE", 0x2103, 1, 1, 5, 5, .u8, 1, .ro, .viewer, false, [], 0, [0]⟩,
   ⟨"WAKE.LAST_ARG", 0x2103, 1, 1, 6, 6, .u16, 2, .ro, .viewer, false, [], 0, [0]⟩,
   ⟨"WAKE.WAKES", 0x2103, 1, 1, 7, 7, .u32, 4, .ro, .viewer, false, [], 0, [0]⟩,
   ⟨"VBAT.COUNT", 0x2104, 1, 1, 0, 0, .u8, 1, .ro, .viewer, false, [], 0, [4]⟩,
   ⟨"VBAT.MV", 0x2104, 1, 1, 1, 1, .u16, 2, .ro, .viewer, false, [], 0, [0]⟩,
   ⟨"VBAT.STATE", 0x2104, 1, 1, 2, 2, .u8, 1, .ro, .viewer, false, [], 0, [3]⟩,
   ⟨"VBAT.LAST", 0x2104, 1, 1, 3, 3, .t96, 12, .ro, .viewer, false, [], 0, [0]⟩,
   ⟨"VBAT.ICEHOUSE_HOURS", 0x2104, 1, 1, 4, 4, .u32, 4, .ro, .viewer, false, [], 0, [0]⟩,
   ⟨"STARTUP.COUNT", 0x2105, 1, 1, 0, 0, .u8, 1, .ro, .viewer, false, [], 0, [13]⟩,
   ⟨"STARTUP.MILESTONE", 0x2105, 1, 1, 1, 12, .u32, 4, .ro, .viewer, false, [], 0, [4294967295]⟩,
   ⟨"STARTUP.LATE", 0x2105, 1, 1, 13, 13, .u16, 2, .ro, .viewer, false, [], 0, [0]⟩,
   ⟨"LC.COUNT", 0x2200, 1, 1, 0, 0, .u8, 1, .ro, .viewer, false, [], 0, [7]⟩,
   ⟨"LC.STATE", 0x2200, 1, 1, 1, 1, .u8, 1, .ro, .viewer, false, [], 0, [0]⟩,
   ⟨"LC.CLAIMS", 0x2200, 1, 1, 2, 2, .u8, 1, .ro, .viewer, false, [], 0, [0]⟩,
   ⟨"LC.VOUCHER", 0x2200, 1, 1, 3, 3, .oct, 312, .wo, .viewer, false, [], 0, [0]⟩,
   ⟨"LC.CLAIM_RESULT", 0x2200, 1, 1, 4, 4, .u8, 1, .ro, .viewer, false, [], 0, [0]⟩,
   ⟨"LC.TOKEN", 0x2200, 1, 1, 5, 5, .oct, 128, .wo, .viewer, false, [], 0, [0]⟩,
   ⟨"LC.NONCE", 0x2200, 1, 1, 6, 6, .oct, 16, .ro, .viewer, false, [], 0, [0]⟩,
   ⟨"LC.DEVICE_CERT", 0x2200, 1, 1, 7, 7, .oct, 1024, .ro, .viewer, false, [], 0, [0]⟩,
   ⟨"KEYS.COUNT", 0x2202, 1, 1, 0, 0, .u8, 1, .ro, .viewer, false, [], 0, [5]⟩,
   ⟨"KEYS.STORE_STATE", 0x2202, 1, 1, 1, 1, .u8, 1, .ro, .viewer, false, [], 0, [0]⟩,
   ⟨"KEYS.GENERATION", 0x2202, 1, 1, 2, 2, .u32, 4, .ro, .viewer, false, [], 0, [0]⟩,
   ⟨"KEYS.OWNER_ECDH_PUB", 0x2202, 1, 1, 3, 3, .oct, 97, .ro, .viewer, false, [], 0, [0]⟩,
   ⟨"KEYS.SERVICE_PUB", 0x2202, 1, 1, 4, 4, .oct, 97, .rw, .owner, false, [], 0, [0]⟩,
   ⟨"KEYS.OWNER_ROOT_PUB", 0x2202, 1, 1, 5, 5, .oct, 97, .ro, .viewer, false, [], 0, [0]⟩,
   ⟨"CERT.COUNT", 0x2203, 1, 1, 0, 0, .u8, 1, .ro, .viewer, false, [], 0, [2]⟩,
   ⟨"CERT.CRL", 0x2203, 1, 1, 1, 1, .oct, 4096, .rw, .owner, true, [], 0, [0]⟩,
   ⟨"CERT.CRL_COUNT", 0x2203, 1, 1, 2, 2, .u16, 2, .ro, .viewer, false, [], 0, [0]⟩,
   ⟨"ALARM.COUNT", 0x2204, 1, 1, 0, 0, .u8, 1, .ro, .viewer, false, [], 0, [9]⟩,
   ⟨"ALARM.PRESENT", 0x2204, 1, 1, 1, 1, .u16, 2, .ro, .viewer, false, [], 0, [0]⟩,
   ⟨"ALARM.RESPONSE", 0x2204, 1, 1, 2, 2, .u16, 2, .rw, .owner, true, [], 49152, [4186]⟩,
   ⟨"ALARM.AUTH_LIMIT", 0x2204, 1, 1, 3, 3, .u16, 2, .rw, .owner, true, [(3, 1000)], 0, [20]⟩,
   ⟨"ALARM.AUTH_WINDOW", 0x2204, 1, 1, 4, 4, .u16, 2, .rw, .owner, true, [(10, 3600)], 0, [60]⟩,
   ⟨"ALARM.LOG", 0x2204, 1, 1, 5, 5, .oct, 512, .ro, .viewer, false, [], 0, [0]⟩,
   ⟨"ALARM.ACK", 0x2204, 1, 1, 6, 6, .bool, 1, .wo, .owner, false, [(0, 1)], 0, [0]⟩,
   ⟨"ALARM.UNACKED", 0x2204, 1, 1, 7, 7, .u8, 1, .ro, .viewer, false, [], 0, [0]⟩]

/-- Rows 840 to 878 of the dictionary tables. -/
def dictRows21 : List DictRow :=
  [⟨"ALARM.TOTAL", 0x2204, 1, 1, 8, 8, .u32, 4, .ro, .viewer, false, [], 0, [0]⟩,
   ⟨"ALARM.LID_THRESHOLD", 0x2204, 1, 1, 9, 9, .u16, 2, .rw, .owner, true, [(20, 4000)], 0, [200]⟩,
   ⟨"ICE.COUNT", 0x2205, 1, 1, 0, 0, .u8, 1, .ro, .viewer, false, [], 0, [4]⟩,
   ⟨"ICE.MESH", 0x2205, 1, 1, 1, 1, .u8, 1, .ro, .viewer, false, [], 0, [0]⟩,
   ⟨"ICE.TEMP", 0x2205, 1, 1, 2, 2, .i16, 2, .ro, .viewer, false, [], 0, [0]⟩,
   ⟨"ICE.ERASE_LATCH", 0x2205, 1, 1, 3, 3, .bool, 1, .ro, .viewer, false, [], 0, [0]⟩,
   ⟨"ICE.POWER_LOST", 0x2205, 1, 1, 4, 4, .bool, 1, .ro, .viewer, false, [], 0, [0]⟩,
   ⟨"RNG.COUNT", 0x2206, 1, 1, 0, 0, .u8, 1, .ro, .viewer, false, [], 0, [4]⟩,
   ⟨"RNG.STATE", 0x2206, 1, 1, 1, 1, .u8, 1, .ro, .viewer, false, [], 0, [0]⟩,
   ⟨"RNG.HEALTH_FAILS", 0x2206, 1, 1, 2, 2, .u32, 4, .ro, .viewer, false, [], 0, [0]⟩,
   ⟨"RNG.RESEEDS", 0x2206, 1, 1, 3, 3, .u64, 8, .ro, .viewer, false, [], 0, [0]⟩,
   ⟨"RNG.LAST_FAIL", 0x2206, 1, 1, 4, 4, .u8, 1, .ro, .viewer, false, [], 0, [0]⟩,
   ⟨"DBG.COUNT", 0x2207, 1, 1, 0, 0, .u8, 1, .ro, .viewer, false, [], 0, [5]⟩,
   ⟨"DBG.NONCE", 0x2207, 1, 1, 1, 1, .oct, 16, .ro, .viewer, false, [], 0, [0]⟩,
   ⟨"DBG.TOKEN", 0x2207, 1, 1, 2, 2, .oct, 128, .wo, .engineer, false, [], 0, [0]⟩,
   ⟨"DBG.STATE", 0x2207, 1, 1, 3, 3, .u8, 1, .ro, .viewer, false, [], 0, [0]⟩,
   ⟨"DBG.SCOPE", 0x2207, 1, 1, 4, 4, .u16, 2, .ro, .viewer, false, [], 0, [0]⟩,
   ⟨"DBG.CLOSE", 0x2207, 1, 1, 5, 5, .bool, 1, .wo, .engineer, false, [(0, 1)], 0, [0]⟩,
   ⟨"BOOTSEC.COUNT", 0x2208, 1, 1, 0, 0, .u8, 1, .ro, .viewer, false, [], 0, [11]⟩,
   ⟨"BOOTSEC.ROLLBACK", 0x2208, 1, 1, 1, 9, .u16, 2, .ro, .viewer, false, [], 0, [0]⟩,
   ⟨"BOOTSEC.VENDOR_REVOKED", 0x2208, 1, 1, 10, 10, .u8, 1, .ro, .viewer, false, [], 0, [0]⟩,
   ⟨"BOOTSEC.LAST_VERIFY", 0x2208, 1, 1, 11, 11, .u8, 1, .ro, .viewer, false, [], 0, [0]⟩,
   ⟨"UPD.COUNT", 0x2300, 1, 1, 0, 0, .u8, 1, .ro, .viewer, false, [], 0, [10]⟩,
   ⟨"UPD.STATE", 0x2300, 1, 1, 1, 1, .u8, 1, .ro, .viewer, false, [], 0, [0]⟩,
   ⟨"UPD.MANIFEST", 0x2300, 1, 1, 2, 2, .oct, 8192, .wo, .owner, false, [], 0, [0]⟩,
   ⟨"UPD.RESULT", 0x2300, 1, 1, 3, 3, .u8, 1, .ro, .viewer, false, [], 0, [0]⟩,
   ⟨"UPD.SOURCE", 0x2300, 1, 1, 4, 4, .str, 256, .rw, .owner, true, [], 0, [0]⟩,
   ⟨"UPD.START", 0x2300, 1, 1, 5, 5, .u8, 1, .wo, .owner, false, [(1, 2)], 0, [0]⟩,
   ⟨"UPD.ACTIVATE", 0x2300, 1, 1, 6, 6, .u8, 1, .wo, .owner, false, [(1, 2)], 0, [0]⟩,
   ⟨"UPD.PROGRESS", 0x2300, 1, 1, 7, 7, .u16, 2, .ro, .viewer, false, [], 0, [0]⟩,
   ⟨"UPD.TRIAL_LIMIT", 0x2300, 1, 1, 8, 8, .u16, 2, .rw, .owner, true, [(10, 600)], 0, [60]⟩,
   ⟨"UPD.RUNNING_ID", 0x2300, 1, 1, 9, 9, .u64, 8, .ro, .viewer, false, [], 0, [0]⟩,
   ⟨"UPD.STAGED_ID", 0x2300, 1, 1, 10, 10, .u64, 8, .ro, .viewer, false, [], 0, [0]⟩,
   ⟨"UPD.PART_STATE", 0x2301, 1, 1, 1, 9, .u8, 1, .ro, .viewer, false, [], 0, [0]⟩,
   ⟨"UPD.PART_IMAGE", 0x2302, 1, 1, 1, 9, .oct, 67108864, .wo, .owner, false, [], 0, [0]⟩,
   ⟨"UPD.PART_VERSION", 0x2303, 1, 1, 1, 9, .u32, 4, .ro, .viewer, false, [], 0, [0]⟩,
   ⟨"UPD.PREPARED", 0x2304, 1, 1, 0, 0, .u32, 4, .rw, .engineer, false, [], 0, [0]⟩,
   ⟨"UPD.SCHEMA_DIFF", 0x2305, 1, 1, 0, 0, .u32, 4, .ro, .viewer, false, [], 0, [0]⟩,
   ⟨"UPD.ACT_RECORD", 0x2306, 1, 1, 1, 2, .oct, 64, .ro, .viewer, false, [], 0, [0]⟩]

/-- The event configuration entries (R10, R529); their defaults are those of `evDefault`. -/
def dictRowsEv : List DictRow :=
  [⟨"EVENT.CONFIG", 0x2400, 10, 1, 1, 128, .u32, 4, .rw, .engineer, true, [], 0x00F8FE00, [0]⟩]

/-- The region tables (R183). -/
def dictRowsRegion : List DictRow :=
  [⟨"REGION.p", 0x2900, 256, 1, 1, 128, .u64, 8, .rw, .engineer, true, [], 0, [0]⟩]

/-- Every row of the dictionary tables (R37). -/
def dictRows : List DictRow :=
  dictRows0 ++ dictRows1 ++ dictRows2 ++ dictRows3 ++ dictRows4 ++ dictRows5 ++ dictRows6 ++ dictRows7 ++ dictRows8 ++ dictRows9 ++ dictRows10 ++ dictRows11 ++ dictRows12 ++ dictRows13 ++ dictRows14 ++ dictRows15 ++ dictRows16 ++ dictRows17 ++ dictRows18 ++ dictRows19 ++ dictRows20 ++ dictRows21 ++ dictRowsEv ++ dictRowsRegion

/-- A row holds the entry `(idx, sub)`. -/
def DictRow.holds (r : DictRow) (idx sub : Nat) : Bool :=
  r.base ≤ idx && idx < r.base + r.n * r.stride && (idx - r.base) % r.stride == 0 && r.s0 ≤ sub && sub ≤ r.s1

/-- The row of an entry, if a table lists one. -/
def dictFind (idx sub : Nat) : Option DictRow := dictRows.find? (fun r => r.holds idx sub)

/-- The instance number a row's index stands for (R14). -/
def DictRow.instanceOf (r : DictRow) (idx : Nat) : Nat := (idx - r.base) / r.stride

end Sys2Proof.Machine
end

