-- ==== Sys2Proof/Machine/EventDefs.lean ====
section
/-! DEFINITION. The event tables of spec/01 to spec/18: the first number of each event, how many instances it has,
and the default of its configuration entry (R10, R529): SEVERITY, RATE_CAP and the destination bits, with ENABLE. -/

namespace Sys2Proof.Machine

/-- One event of an event table. -/
structure EvRow where
  name : String
  first : Nat
  n : Nat
  severity : Nat
  rateCap : Nat
  flags : Nat
  deriving DecidableEq, Repr

/-- The events the spec's tables define. ENABLE (bit 8) is set in each (R529). The row of EV 0192+p is spec/06 R208. -/
def evRows : List EvRow :=
  [⟨"MODE_CHANGED", 0, 1, 3, 0, 0x173⟩,
   ⟨"RESET_CAUSE", 1, 1, 3, 0, 0x1B3⟩,
   ⟨"WDT_STATE", 2, 1, 4, 0, 0x193⟩,
   ⟨"WDT_FOREIGN_SERVICE", 3, 1, 4, 1, 0x113⟩,
   ⟨"SAFE_HALT", 4, 1, 6, 0, 0x1FB⟩,
   ⟨"TEMPERATURE", 5, 1, 3, 10, 0x193⟩,
   ⟨"RAIL", 6, 1, 3, 10, 0x193⟩,
   ⟨"HUMIDITY", 7, 1, 4, 0, 0x193⟩,
   ⟨"SHOCK", 8, 1, 3, 10, 0x113⟩,
   ⟨"VIBRATION", 9, 1, 3, 1, 0x113⟩,
   ⟨"CONTACT_RESISTANCE", 10, 1, 3, 0, 0x1D3⟩,
   ⟨"OPTICAL_AMBIENT", 11, 1, 2, 1, 0x103⟩,
   ⟨"OPTICAL_AUTH_FAILED", 12, 1, 4, 10, 0x113⟩,
   ⟨"SERVICE_LINK", 13, 1, 2, 0, 0x103⟩,
   ⟨"WEAR_LEDGER", 15, 1, 3, 0, 0x153⟩,
   ⟨"VLOGIC_STATE", 16, 1, 4, 0, 0x193⟩,
   ⟨"POWER_WARNING", 17, 1, 4, 0, 0x133⟩,
   ⟨"SEATED", 18, 1, 4, 0, 0x1B3⟩,
   ⟨"DROOP_THROTTLE", 19, 1, 1, 1, 0x101⟩,
   ⟨"DROOP_STRETCH", 20, 1, 2, 10, 0x103⟩,
   ⟨"STRETCH_BUDGET", 21, 1, 4, 10, 0x193⟩,
   ⟨"PLL_RELOCK", 22, 1, 3, 10, 0x113⟩,
   ⟨"CLOCK_FAULT", 23, 1, 5, 0, 0x1B3⟩,
   ⟨"VBAT_STATE", 24, 1, 3, 0, 0x193⟩,
   ⟨"DORMANT", 25, 1, 2, 0, 0x123⟩,
   ⟨"STARTUP_LATE", 26, 1, 3, 0, 0x113⟩,
   ⟨"DICT_SECTION_RESET", 40, 1, 3, 0, 0x1B3⟩,
   ⟨"DAP_SESSION_REFUSED", 41, 1, 3, 10, 0x113⟩,
   ⟨"DAP_RATE_LIMITED", 42, 1, 2, 1, 0x103⟩,
   ⟨"DAP_AUTH_FAILED", 43, 1, 4, 10, 0x113⟩,
   ⟨"DICTSTORE_FULL", 44, 1, 4, 0, 0x193⟩,
   ⟨"DICT_VALUE_REVERTED", 46, 1, 3, 0, 0x113⟩,
   ⟨"SRAM_CORRECTED", 48, 1, 2, 10, 0x113⟩,
   ⟨"SRAM_UNCORRECTABLE", 49, 1, 5, 0, 0x133⟩,
   ⟨"FABRIC_BUS_ERROR", 50, 1, 4, 0, 0x113⟩,
   ⟨"SRAM_ROW_SPARED", 51, 1, 3, 0, 0x193⟩,
   ⟨"SCAN_CHANGE_OUTCOME", 52, 1, 2, 0, 0x133⟩,
   ⟨"SCAN_TB0_STEP", 53, 1, 3, 0, 0x193⟩,
   ⟨"RIO_STATION_STALE", 54, 1, 3, 20, 0x117⟩,
   ⟨"RIO_STATION_LOST", 55, 1, 4, 0, 0x197⟩,
   ⟨"RIO_FRAME_ERROR", 56, 1, 2, 10, 0x103⟩,
   ⟨"TRESTLE_MISMATCH", 64, 4, 4, 10, 0x1B3⟩,
   ⟨"TRESTLE_RESYNCED", 68, 4, 2, 0, 0x113⟩,
   ⟨"TRESTLE_DEBUG_SPLIT", 72, 4, 4, 0, 0x1F3⟩,
   ⟨"TRESTLE_FAILED", 76, 4, 5, 0, 0x1F3⟩,
   ⟨"TRESTLE_COVERAGE_REDUCED", 80, 4, 3, 0, 0x1D3⟩,
   ⟨"LANE_ROTATED", 84, 1, 1, 0, 0x101⟩,
   ⟨"ROTATION_DEFERRED", 85, 1, 2, 1, 0x103⟩,
   ⟨"SPARE_LOW", 86, 1, 3, 0, 0x1D3⟩,
   ⟨"DEBUG_REFUSED", 87, 1, 3, 0, 0x113⟩,
   ⟨"LANE_BIST_FAILED", 96, 15, 4, 0, 0x113⟩,
   ⟨"LANE_RETIRED", 112, 15, 4, 0, 0x1B3⟩,
   ⟨"TRESTLE_REBUILT", 128, 4, 3, 0, 0x113⟩,
   ⟨"PAVILION", 192, 256, 3, 0, 0x137⟩,
   ⟨"PAIR_ROLE_CHANGED", 448, 1, 3, 0, 0x153⟩,
   ⟨"PARTNER_SUSPECT", 449, 1, 4, 0, 0x113⟩,
   ⟨"TAKEOVER_STARTED", 450, 1, 4, 0, 0x1B3⟩,
   ⟨"TAKEOVER_DONE", 451, 1, 4, 0, 0x133⟩,
   ⟨"TAKEOVER_FAILED", 452, 1, 6, 0, 0x1F3⟩,
   ⟨"DEMOTED", 453, 1, 4, 0, 0x133⟩,
   ⟨"REFEREE_STATE", 454, 1, 4, 0, 0x1B3⟩,
   ⟨"REFEREE_DENY", 455, 1, 3, 1, 0x113⟩,
   ⟨"GRANT_REFUSED", 456, 1, 5, 0, 0x1F3⟩,
   ⟨"CAUSEWAY_STATE", 457, 1, 4, 0, 0x193⟩,
   ⟨"EPOCH_COALESCED", 458, 1, 2, 1, 0x103⟩,
   ⟨"EPOCH_ABANDONED", 459, 1, 3, 1, 0x113⟩,
   ⟨"PAIR_PROTECTION", 460, 1, 4, 0, 0x1D3⟩,
   ⟨"JOIN_COMPLETE", 461, 1, 2, 0, 0x113⟩,
   ⟨"INPUT_DISAGREE", 462, 1, 3, 10, 0x113⟩,
   ⟨"SAFE_COMPARE_TRIP", 463, 1, 5, 0, 0x1F3⟩,
   ⟨"HANDOVER_DONE", 464, 1, 2, 0, 0x133⟩,
   ⟨"HANDOVER_FAILED", 465, 1, 4, 0, 0x1B3⟩,
   ⟨"STANDBY_TEST_FAILED", 466, 1, 4, 0, 0x1B3⟩,
   ⟨"HOLD_TIMER_SHORT", 467, 1, 4, 0, 0x193⟩,
   ⟨"NAND_CHECKPOINT_FAILED", 468, 1, 4, 0, 0x113⟩,
   ⟨"SCHEMA_MISMATCH", 469, 1, 4, 0, 0x193⟩,
   ⟨"TWO_ACTIVE", 470, 1, 6, 0, 0x1F3⟩,
   ⟨"SAFETY_STARTUP", 512, 1, 2, 0, 0x173⟩,
   ⟨"SAFETY_CONFIG", 513, 1, 3, 0, 0x1B3⟩,
   ⟨"SAFETY_ISLAND_FAULT", 514, 1, 6, 0, 0x1FB⟩,
   ⟨"SAFETY_SPLIT", 515, 1, 4, 0, 0x193⟩,
   ⟨"SAFE_INPUT_FAULT", 520, 12, 4, 10, 0x117⟩,
   ⟨"SAFE_OUTPUT_FAULT", 532, 12, 5, 0, 0x1B7⟩,
   ⟨"SAFE_GROUP_STATE", 544, 6, 2, 0, 0x117⟩,
   ⟨"SAFE_GROUP_FAULT", 550, 6, 5, 0, 0x1F7⟩,
   ⟨"ENCODER_FAULT", 556, 6, 4, 0, 0x117⟩,
   ⟨"FIELD_SUPPLY", 576, 8, 4, 0, 0x193⟩,
   ⟨"VSENS_SUPPLY", 584, 1, 4, 0, 0x193⟩,
   ⟨"OUTPUT_HOLD_EXPIRED", 585, 1, 4, 0, 0x1B3⟩,
   ⟨"DO_FAULT", 592, 96, 4, 10, 0x117⟩,
   ⟨"IOL_PORT_STATE", 688, 32, 4, 10, 0x117⟩,
   ⟨"IOL_DEVICE_EVENT", 720, 32, 2, 20, 0x115⟩,
   ⟨"DI_WAKE", 752, 1, 1, 0, 0x103⟩,
   ⟨"ADC_FAULT", 768, 5, 4, 0, 0x1B3⟩,
   ⟨"AI_STATE", 776, 32, 4, 10, 0x117⟩,
   ⟨"AO_FAULT", 808, 16, 4, 10, 0x197⟩,
   ⟨"HART_NOISY", 824, 1, 2, 10, 0x107⟩,
   ⟨"HART_LINK", 825, 1, 3, 10, 0x117⟩,
   ⟨"PORT_LINK", 864, 10, 3, 0, 0x193⟩,
   ⟨"FDB_FULL", 874, 1, 3, 1, 0x113⟩,
   ⟨"RED_LAN", 875, 2, 4, 0, 0x193⟩,
   ⟨"PREEMPT_VERIFY_FAILED", 877, 1, 3, 0, 0x113⟩,
   ⟨"GATE_LIST_APPLIED", 878, 1, 2, 0, 0x103⟩,
   ⟨"TB_STEP", 880, 8, 3, 0, 0x133⟩,
   ⟨"TB_SYNC", 888, 8, 3, 0, 0x193⟩,
   ⟨"LAUNCH_DROPPED", 896, 1, 3, 10, 0x117⟩,
   ⟨"STREAM_DROP", 897, 1, 3, 10, 0x117⟩,
   ⟨"STREAM_RING", 898, 1, 3, 10, 0x107⟩,
   ⟨"OSC_SWITCHED", 899, 1, 4, 0, 0x1B3⟩,
   ⟨"PTP_STATE", 900, 4, 3, 10, 0x113⟩,
   ⟨"PPS_IN_LOST", 904, 2, 3, 0, 0x113⟩,
   ⟨"CAN_STATE", 992, 8, 4, 0, 0x193⟩,
   ⟨"CAN_OBJECT_LOST", 1000, 8, 2, 10, 0x115⟩,
   ⟨"CAN_TX_FAILED", 1008, 8, 3, 10, 0x117⟩,
   ⟨"CAN_NMT", 1016, 8, 3, 10, 0x113⟩,
   ⟨"CAN_PDO", 1024, 8, 3, 10, 0x117⟩,
   ⟨"CAN_CONTROLLER_FAULT", 1032, 8, 5, 0, 0x1B3⟩,
   ⟨"STORAGE_STATE", 1088, 1, 4, 0, 0x1B3⟩,
   ⟨"NAND_UNSUPPORTED", 1089, 1, 3, 0, 0x113⟩,
   ⟨"READ_RECONSTRUCTED", 1091, 1, 3, 10, 0x113⟩,
   ⟨"READ_UNRECOVERABLE", 1092, 1, 5, 10, 0x1B3⟩,
   ⟨"STORAGE_CRC", 1093, 1, 4, 10, 0x113⟩,
   ⟨"BLOCK_RETIRED", 1094, 1, 2, 10, 0x103⟩,
   ⟨"DIE_FAILED", 1095, 1, 5, 0, 0x1F3⟩,
   ⟨"REBUILD_DONE", 1096, 1, 3, 0, 0x113⟩,
   ⟨"SPARE_MARGIN", 1097, 1, 4, 0, 0x1D3⟩,
   ⟨"SCRUB_PASS", 1098, 1, 1, 0, 0x101⟩,
   ⟨"PFAIL_FLUSH", 1099, 1, 3, 0, 0x113⟩,
   ⟨"PFAIL_STUCK", 1100, 1, 4, 0, 0x193⟩,
   ⟨"JOURNAL_RECOVERY", 1101, 1, 3, 0, 0x193⟩,
   ⟨"SUSPECT_BLOCK", 1102, 1, 2, 10, 0x103⟩,
   ⟨"PARTITION_FULL", 1103, 1, 4, 1, 0x193⟩,
   ⟨"CHANNEL_FAULT", 1104, 1, 5, 0, 0x1B3⟩,
   ⟨"PAVSTORE", 1105, 1, 3, 10, 0x117⟩,
   ⟨"REC_FREEZE", 1152, 1, 1, 0, 0x103⟩,
   ⟨"REC_ARCHIVE_LOST", 1153, 1, 4, 0, 0x193⟩,
   ⟨"REC_CLEAR_REFUSED", 1154, 1, 4, 10, 0x113⟩,
   ⟨"HIST_OVERFLOW", 1160, 1, 4, 1, 0x193⟩,
   ⟨"TOTALISER_PERIOD", 1168, 1, 3, 10, 0x117⟩,
   ⟨"LIFE_CYCLE", 1216, 1, 5, 0, 0x1F3⟩,
   ⟨"CLAIM_REFUSED", 1217, 1, 4, 10, 0x113⟩,
   ⟨"SECURITY_ALARM", 1218, 1, 6, 0, 0x1FB⟩,
   ⟨"KEYSTORE_ERASED", 1219, 1, 7, 0, 0x1F3⟩,
   ⟨"TRNG_HEALTH", 1220, 1, 5, 0, 0x193⟩,
   ⟨"DEBUG_SESSION", 1221, 1, 4, 0, 0x133⟩,
   ⟨"DEBUG_REFUSED", 1222, 1, 4, 10, 0x113⟩,
   ⟨"BOOT_VERIFY", 1223, 1, 6, 0, 0x193⟩,
   ⟨"KEYSTORE_RESTORED", 1225, 1, 4, 0, 0x193⟩,
   ⟨"UPDATE_MANIFEST", 1248, 1, 3, 0, 0x133⟩,
   ⟨"UPDATE_STAGED", 1249, 1, 2, 0, 0x113⟩,
   ⟨"ACTIVATION", 1250, 1, 4, 0, 0x173⟩,
   ⟨"TRIAL_COMMITTED", 1251, 1, 3, 0, 0x133⟩,
   ⟨"TRIAL_REVERTED", 1252, 1, 5, 0, 0x1F3⟩,
   ⟨"ROLLBACK_RAISED", 1253, 1, 3, 0, 0x113⟩,
   ⟨"ACT_RECORD_LOST", 1254, 1, 6, 0, 0x193⟩]

/-- The row of event `n`, if a table defines it. -/
def evFind (n : Nat) : Option EvRow := evRows.find? (fun r => r.first ≤ n && n < r.first + r.n)

/-- R34: the ranges in which REC, GATEHOUSE and ENABLE always read as 1. -/
def evAlwaysOn (n : Nat) : Bool := (512 ≤ n && n ≤ 575) || (1216 ≤ n && n ≤ 1279)

/-- R529: the default configuration of event `n`. -/
def evDefault (n : Nat) : Nat :=
  match evFind n with
  | some r => r.rateCap * 2 ^ 24 + r.severity * 2 ^ 16 + r.flags
  | none => if evAlwaysOn n then 0x103 else 0

end Sys2Proof.Machine

namespace Sys2Proof.Machine.Ev

/-- EV 0000 MODE_CHANGED. -/
def modeChanged : Nat := 0
/-- EV 0001 RESET_CAUSE. -/
def resetCause : Nat := 1
/-- EV 0002 WDT_STATE. -/
def wdtState : Nat := 2
/-- EV 0003 WDT_FOREIGN_SERVICE. -/
def wdtForeignService : Nat := 3
/-- EV 0004 SAFE_HALT. -/
def safeHalt : Nat := 4
/-- EV 0005 TEMPERATURE. -/
def temperature : Nat := 5
/-- EV 0006 RAIL. -/
def rail : Nat := 6
/-- EV 0007 HUMIDITY. -/
def humidity : Nat := 7
/-- EV 0008 SHOCK. -/
def shock : Nat := 8
/-- EV 0009 VIBRATION. -/
def vibration : Nat := 9
/-- EV 0010 CONTACT_RESISTANCE. -/
def contactResistance : Nat := 10
/-- EV 0011 OPTICAL_AMBIENT. -/
def opticalAmbient : Nat := 11
/-- EV 0012 OPTICAL_AUTH_FAILED. -/
def opticalAuthFailed : Nat := 12
/-- EV 0013 SERVICE_LINK. -/
def serviceLink : Nat := 13
/-- EV 0015 WEAR_LEDGER. -/
def wearLedger : Nat := 15
/-- EV 0016 VLOGIC_STATE. -/
def vlogicState : Nat := 16
/-- EV 0017 POWER_WARNING. -/
def powerWarning : Nat := 17
/-- EV 0018 SEATED. -/
def seated : Nat := 18
/-- EV 0019 DROOP_THROTTLE. -/
def droopThrottle : Nat := 19
/-- EV 0020 DROOP_STRETCH. -/
def droopStretch : Nat := 20
/-- EV 0021 STRETCH_BUDGET. -/
def stretchBudget : Nat := 21
/-- EV 0022 PLL_RELOCK. -/
def pllRelock : Nat := 22
/-- EV 0023 CLOCK_FAULT. -/
def clockFault : Nat := 23
/-- EV 0024 VBAT_STATE. -/
def vbatState : Nat := 24
/-- EV 0025 DORMANT. -/
def dormant : Nat := 25
/-- EV 0026 STARTUP_LATE. -/
def startupLate : Nat := 26
/-- EV 0040 DICT_SECTION_RESET. -/
def dictSectionReset : Nat := 40
/-- EV 0041 DAP_SESSION_REFUSED. -/
def dapSessionRefused : Nat := 41
/-- EV 0042 DAP_RATE_LIMITED. -/
def dapRateLimited : Nat := 42
/-- EV 0043 DAP_AUTH_FAILED. -/
def dapAuthFailed : Nat := 43
/-- EV 0044 DICTSTORE_FULL. -/
def dictstoreFull : Nat := 44
/-- EV 0046 DICT_VALUE_REVERTED. -/
def dictValueReverted : Nat := 46
/-- EV 0048 SRAM_CORRECTED. -/
def sramCorrected : Nat := 48
/-- EV 0049 SRAM_UNCORRECTABLE. -/
def sramUncorrectable : Nat := 49
/-- EV 0050 FABRIC_BUS_ERROR. -/
def fabricBusError : Nat := 50
/-- EV 0051 SRAM_ROW_SPARED. -/
def sramRowSpared : Nat := 51
/-- EV 0052 SCAN_CHANGE_OUTCOME. -/
def scanChangeOutcome : Nat := 52
/-- EV 0053 SCAN_TB0_STEP. -/
def scanTb0Step : Nat := 53
/-- EV 0054 RIO_STATION_STALE. -/
def rioStationStale : Nat := 54
/-- EV 0055 RIO_STATION_LOST. -/
def rioStationLost : Nat := 55
/-- EV 0056 RIO_FRAME_ERROR. -/
def rioFrameError : Nat := 56
/-- EV 0064+n TRESTLE_MISMATCH. -/
def trestleMismatch (n : Nat) : Nat := 64 + n
/-- EV 0068+n TRESTLE_RESYNCED. -/
def trestleResynced (n : Nat) : Nat := 68 + n
/-- EV 0072+n TRESTLE_DEBUG_SPLIT. -/
def trestleDebugSplit (n : Nat) : Nat := 72 + n
/-- EV 0076+n TRESTLE_FAILED. -/
def trestleFailed (n : Nat) : Nat := 76 + n
/-- EV 0080+n TRESTLE_COVERAGE_REDUCED. -/
def trestleCoverageReduced (n : Nat) : Nat := 80 + n
/-- EV 0084 LANE_ROTATED. -/
def laneRotated : Nat := 84
/-- EV 0085 ROTATION_DEFERRED. -/
def rotationDeferred : Nat := 85
/-- EV 0086 SPARE_LOW. -/
def spareLow : Nat := 86
/-- EV 0087 DEBUG_REFUSED. -/
def debugRefused : Nat := 87
/-- EV 0096+n LANE_BIST_FAILED. -/
def laneBistFailed (n : Nat) : Nat := 96 + n
/-- EV 0112+n LANE_RETIRED. -/
def laneRetired (n : Nat) : Nat := 112 + n
/-- EV 0128+n TRESTLE_REBUILT. -/
def trestleRebuilt (n : Nat) : Nat := 128 + n
/-- EV 0192+n PAVILION. -/
def pavilion (n : Nat) : Nat := 192 + n
/-- EV 0448 PAIR_ROLE_CHANGED. -/
def pairRoleChanged : Nat := 448
/-- EV 0449 PARTNER_SUSPECT. -/
def partnerSuspect : Nat := 449
/-- EV 0450 TAKEOVER_STARTED. -/
def takeoverStarted : Nat := 450
/-- EV 0451 TAKEOVER_DONE. -/
def takeoverDone : Nat := 451
/-- EV 0452 TAKEOVER_FAILED. -/
def takeoverFailed : Nat := 452
/-- EV 0453 DEMOTED. -/
def demoted : Nat := 453
/-- EV 0454 REFEREE_STATE. -/
def refereeState : Nat := 454
/-- EV 0455 REFEREE_DENY. -/
def refereeDeny : Nat := 455
/-- EV 0456 GRANT_REFUSED. -/
def grantRefused : Nat := 456
/-- EV 0457 CAUSEWAY_STATE. -/
def causewayState : Nat := 457
/-- EV 0458 EPOCH_COALESCED. -/
def epochCoalesced : Nat := 458
/-- EV 0459 EPOCH_ABANDONED. -/
def epochAbandoned : Nat := 459
/-- EV 0460 PAIR_PROTECTION. -/
def pairProtection : Nat := 460
/-- EV 0461 JOIN_COMPLETE. -/
def joinComplete : Nat := 461
/-- EV 0462 INPUT_DISAGREE. -/
def inputDisagree : Nat := 462
/-- EV 0463 SAFE_COMPARE_TRIP. -/
def safeCompareTrip : Nat := 463
/-- EV 0464 HANDOVER_DONE. -/
def handoverDone : Nat := 464
/-- EV 0465 HANDOVER_FAILED. -/
def handoverFailed : Nat := 465
/-- EV 0466 STANDBY_TEST_FAILED. -/
def standbyTestFailed : Nat := 466
/-- EV 0467 HOLD_TIMER_SHORT. -/
def holdTimerShort : Nat := 467
/-- EV 0468 NAND_CHECKPOINT_FAILED. -/
def nandCheckpointFailed : Nat := 468
/-- EV 0469 SCHEMA_MISMATCH. -/
def schemaMismatch : Nat := 469
/-- EV 0470 TWO_ACTIVE. -/
def twoActive : Nat := 470
/-- EV 0512 SAFETY_STARTUP. -/
def safetyStartup : Nat := 512
/-- EV 0513 SAFETY_CONFIG. -/
def safetyConfig : Nat := 513
/-- EV 0514 SAFETY_ISLAND_FAULT. -/
def safetyIslandFault : Nat := 514
/-- EV 0515 SAFETY_SPLIT. -/
def safetySplit : Nat := 515
/-- EV 0520+n SAFE_INPUT_FAULT. -/
def safeInputFault (n : Nat) : Nat := 520 + n
/-- EV 0532+n SAFE_OUTPUT_FAULT. -/
def safeOutputFault (n : Nat) : Nat := 532 + n
/-- EV 0544+n SAFE_GROUP_STATE. -/
def safeGroupState (n : Nat) : Nat := 544 + n
/-- EV 0550+n SAFE_GROUP_FAULT. -/
def safeGroupFault (n : Nat) : Nat := 550 + n
/-- EV 0556+n ENCODER_FAULT. -/
def encoderFault (n : Nat) : Nat := 556 + n
/-- EV 0576+n FIELD_SUPPLY. -/
def fieldSupply (n : Nat) : Nat := 576 + n
/-- EV 0584 VSENS_SUPPLY. -/
def vsensSupply : Nat := 584
/-- EV 0585 OUTPUT_HOLD_EXPIRED. -/
def outputHoldExpired : Nat := 585
/-- EV 0592+n DO_FAULT. -/
def doFault (n : Nat) : Nat := 592 + n
/-- EV 0688+n IOL_PORT_STATE. -/
def iolPortState (n : Nat) : Nat := 688 + n
/-- EV 0720+n IOL_DEVICE_EVENT. -/
def iolDeviceEvent (n : Nat) : Nat := 720 + n
/-- EV 0752 DI_WAKE. -/
def diWake : Nat := 752
/-- EV 0768+n ADC_FAULT. -/
def adcFault (n : Nat) : Nat := 768 + n
/-- EV 0776+n AI_STATE. -/
def aiState (n : Nat) : Nat := 776 + n
/-- EV 0808+n AO_FAULT. -/
def aoFault (n : Nat) : Nat := 808 + n
/-- EV 0824 HART_NOISY. -/
def hartNoisy : Nat := 824
/-- EV 0825 HART_LINK. -/
def hartLink : Nat := 825
/-- EV 0864+n PORT_LINK. -/
def portLink (n : Nat) : Nat := 864 + n
/-- EV 0874 FDB_FULL. -/
def fdbFull : Nat := 874
/-- EV 0875+n RED_LAN. -/
def redLan (n : Nat) : Nat := 875 + n
/-- EV 0877 PREEMPT_VERIFY_FAILED. -/
def preemptVerifyFailed : Nat := 877
/-- EV 0878 GATE_LIST_APPLIED. -/
def gateListApplied : Nat := 878
/-- EV 0880+n TB_STEP. -/
def tbStep (n : Nat) : Nat := 880 + n
/-- EV 0888+n TB_SYNC. -/
def tbSync (n : Nat) : Nat := 888 + n
/-- EV 0896 LAUNCH_DROPPED. -/
def launchDropped : Nat := 896
/-- EV 0897 STREAM_DROP. -/
def streamDrop : Nat := 897
/-- EV 0898 STREAM_RING. -/
def streamRing : Nat := 898
/-- EV 0899 OSC_SWITCHED. -/
def oscSwitched : Nat := 899
/-- EV 0900+n PTP_STATE. -/
def ptpState (n : Nat) : Nat := 900 + n
/-- EV 0904+n PPS_IN_LOST. -/
def ppsInLost (n : Nat) : Nat := 904 + n
/-- EV 0992+n CAN_STATE. -/
def canState (n : Nat) : Nat := 992 + n
/-- EV 1000+n CAN_OBJECT_LOST. -/
def canObjectLost (n : Nat) : Nat := 1000 + n
/-- EV 1008+n CAN_TX_FAILED. -/
def canTxFailed (n : Nat) : Nat := 1008 + n
/-- EV 1016+n CAN_NMT. -/
def canNmt (n : Nat) : Nat := 1016 + n
/-- EV 1024+n CAN_PDO. -/
def canPdo (n : Nat) : Nat := 1024 + n
/-- EV 1032+n CAN_CONTROLLER_FAULT. -/
def canControllerFault (n : Nat) : Nat := 1032 + n
/-- EV 1088 STORAGE_STATE. -/
def storageState : Nat := 1088
/-- EV 1089 NAND_UNSUPPORTED. -/
def nandUnsupported : Nat := 1089
/-- EV 1091 READ_RECONSTRUCTED. -/
def readReconstructed : Nat := 1091
/-- EV 1092 READ_UNRECOVERABLE. -/
def readUnrecoverable : Nat := 1092
/-- EV 1093 STORAGE_CRC. -/
def storageCrc : Nat := 1093
/-- EV 1094 BLOCK_RETIRED. -/
def blockRetired : Nat := 1094
/-- EV 1095 DIE_FAILED. -/
def dieFailed : Nat := 1095
/-- EV 1096 REBUILD_DONE. -/
def rebuildDone : Nat := 1096
/-- EV 1097 SPARE_MARGIN. -/
def spareMargin : Nat := 1097
/-- EV 1098 SCRUB_PASS. -/
def scrubPass : Nat := 1098
/-- EV 1099 PFAIL_FLUSH. -/
def pfailFlush : Nat := 1099
/-- EV 1100 PFAIL_STUCK. -/
def pfailStuck : Nat := 1100
/-- EV 1101 JOURNAL_RECOVERY. -/
def journalRecovery : Nat := 1101
/-- EV 1102 SUSPECT_BLOCK. -/
def suspectBlock : Nat := 1102
/-- EV 1103 PARTITION_FULL. -/
def partitionFull : Nat := 1103
/-- EV 1104 CHANNEL_FAULT. -/
def channelFault : Nat := 1104
/-- EV 1105 PAVSTORE. -/
def pavstore : Nat := 1105
/-- EV 1152 REC_FREEZE. -/
def recFreeze : Nat := 1152
/-- EV 1153 REC_ARCHIVE_LOST. -/
def recArchiveLost : Nat := 1153
/-- EV 1154 REC_CLEAR_REFUSED. -/
def recClearRefused : Nat := 1154
/-- EV 1160 HIST_OVERFLOW. -/
def histOverflow : Nat := 1160
/-- EV 1168 TOTALISER_PERIOD. -/
def totaliserPeriod : Nat := 1168
/-- EV 1216 LIFE_CYCLE. -/
def lifeCycle : Nat := 1216
/-- EV 1217 CLAIM_REFUSED. -/
def claimRefused : Nat := 1217
/-- EV 1218 SECURITY_ALARM. -/
def securityAlarm : Nat := 1218
/-- EV 1219 KEYSTORE_ERASED. -/
def keystoreErased : Nat := 1219
/-- EV 1220 TRNG_HEALTH. -/
def trngHealth : Nat := 1220
/-- EV 1221 DEBUG_SESSION. -/
def debugSession : Nat := 1221
/-- EV 1222 DEBUG_REFUSED. -/
def debugRefused1222 : Nat := 1222
/-- EV 1223 BOOT_VERIFY. -/
def bootVerify : Nat := 1223
/-- EV 1225 KEYSTORE_RESTORED. -/
def keystoreRestored : Nat := 1225
/-- EV 1248 UPDATE_MANIFEST. -/
def updateManifest : Nat := 1248
/-- EV 1249 UPDATE_STAGED. -/
def updateStaged : Nat := 1249
/-- EV 1250 ACTIVATION. -/
def activation : Nat := 1250
/-- EV 1251 TRIAL_COMMITTED. -/
def trialCommitted : Nat := 1251
/-- EV 1252 TRIAL_REVERTED. -/
def trialReverted : Nat := 1252
/-- EV 1253 ROLLBACK_RAISED. -/
def rollbackRaised : Nat := 1253
/-- EV 1254 ACT_RECORD_LOST. -/
def actRecordLost : Nat := 1254

end Sys2Proof.Machine.Ev
end

