-- ==== Sys2Proof/Machine/Keys.lean ====
section
/-! DEFINITION. Names for the dictionary entries of spec/02 to spec/18: `K.<name>` is the key
(index << 8) | sub of the entry (R51), with the instance number as argument where the index is repeated (R14) and
the element number, from 0, where the table gives a range of subindices. -/

namespace Sys2Proof.Machine.K

/-- 0x1000:00 COMM.DEVICE_TYPE. -/
def commDeviceType : Nat := 0x100000
/-- 0x1008:00 COMM.DEVICE_NAME. -/
def commDeviceName : Nat := 0x100800
/-- 0x1009:00 COMM.HW_VERSION. -/
def commHwVersion : Nat := 0x100900
/-- 0x100A:00 COMM.SW_VERSION. -/
def commSwVersion : Nat := 0x100A00
/-- 0x1018:01 COMM.ID.VENDOR. -/
def commIdVendor : Nat := 0x101801
/-- 0x1018:02 COMM.ID.PRODUCT. -/
def commIdProduct : Nat := 0x101802
/-- 0x1018:03 COMM.ID.REVISION. -/
def commIdRevision : Nat := 0x101803
/-- 0x1018:04 COMM.ID.SERIAL. -/
def commIdSerial : Nat := 0x101804
/-- 0x1400+64c+n:01–05 COMM.RPDO.PARAM.Cobid. -/
def commRpdoCobid (n : Nat) : Nat := 0x140001 + 256 * n
/-- 0x1400+64c+n:01–05 COMM.RPDO.PARAM.Type. -/
def commRpdoType (n : Nat) : Nat := 0x140002 + 256 * n
/-- 0x1400+64c+n:01–05 COMM.RPDO.PARAM.Inhibit. -/
def commRpdoInhibit (n : Nat) : Nat := 0x140003 + 256 * n
/-- 0x1400+64c+n:01–05 COMM.RPDO.PARAM.Compat. -/
def commRpdoCompat (n : Nat) : Nat := 0x140004 + 256 * n
/-- 0x1400+64c+n:01–05 COMM.RPDO.PARAM.Event. -/
def commRpdoEvent (n : Nat) : Nat := 0x140005 + 256 * n
/-- 0x1600+64c+n:01–40 COMM.RPDO.MAP. -/
def commRpdoMap (n : Nat) (j : Nat) : Nat := 0x160001 + 256 * n + j
/-- 0x1800+64c+n:01–06 COMM.TPDO.PARAM.Cobid. -/
def commTpdoCobid (n : Nat) : Nat := 0x180001 + 256 * n
/-- 0x1800+64c+n:01–06 COMM.TPDO.PARAM.Type. -/
def commTpdoType (n : Nat) : Nat := 0x180002 + 256 * n
/-- 0x1800+64c+n:01–06 COMM.TPDO.PARAM.Inhibit. -/
def commTpdoInhibit (n : Nat) : Nat := 0x180003 + 256 * n
/-- 0x1800+64c+n:01–06 COMM.TPDO.PARAM.Compat. -/
def commTpdoCompat (n : Nat) : Nat := 0x180004 + 256 * n
/-- 0x1800+64c+n:01–06 COMM.TPDO.PARAM.Event. -/
def commTpdoEvent (n : Nat) : Nat := 0x180005 + 256 * n
/-- 0x1800+64c+n:01–06 COMM.TPDO.PARAM.SyncStart. -/
def commTpdoSyncStart (n : Nat) : Nat := 0x180006 + 256 * n
/-- 0x1A00+64c+n:01–40 COMM.TPDO.MAP. -/
def commTpdoMap (n : Nat) (j : Nat) : Nat := 0x1A0001 + 256 * n + j
/-- 0x1E00+16c:00 COMM.C.ERROR_REG. -/
def commErrorReg (n : Nat) : Nat := 0x1E0000 + 4096 * n
/-- 0x1E00+16c+1:00–10 COMM.C.ERROR_FIELD. -/
def commErrorField (n : Nat) (j : Nat) : Nat := 0x1E0100 + 4096 * n + j
/-- 0x1E00+16c+2:00 COMM.C.SYNC_COBID. -/
def commSyncCobid (n : Nat) : Nat := 0x1E0200 + 4096 * n
/-- 0x1E00+16c+3:00 COMM.C.CYCLE. -/
def commCycle (n : Nat) : Nat := 0x1E0300 + 4096 * n
/-- 0x1E00+16c+4:00 COMM.C.EMCY_COBID. -/
def commEmcyCobid (n : Nat) : Nat := 0x1E0400 + 4096 * n
/-- 0x1E00+16c+5:00 COMM.C.EMCY_INHIBIT. -/
def commEmcyInhibit (n : Nat) : Nat := 0x1E0500 + 4096 * n
/-- 0x1E00+16c+6:01–08 COMM.C.HB_CONSUMER. -/
def commHbConsumer (n : Nat) (j : Nat) : Nat := 0x1E0601 + 4096 * n + j
/-- 0x1E00+16c+7:00 COMM.C.HB_PRODUCER. -/
def commHbProducer (n : Nat) : Nat := 0x1E0700 + 4096 * n
/-- 0x1E00+16c+8:00 COMM.C.SYNC_OVERFLOW. -/
def commSyncOverflow (n : Nat) : Nat := 0x1E0800 + 4096 * n
/-- 0x1E00+16c+9:01–02 COMM.C.SDO_SERVER. -/
def commSdoServer (n : Nat) (j : Nat) : Nat := 0x1E0901 + 4096 * n + j
/-- 0x2040:01 DICT.INFO.DEFINITIONS. -/
def dictInfoDefinitions : Nat := 0x204001
/-- 0x2040:02 DICT.INFO.INSTANCES. -/
def dictInfoInstances : Nat := 0x204002
/-- 0x2041:01–18 DICT.SECTION.SCHEMA. -/
def dictSectionSchema (j : Nat) : Nat := 0x204101 + j
/-- 0x2042:01–18 DICT.SECTION.RESETS. -/
def dictSectionResets (j : Nat) : Nat := 0x204201 + j
/-- 0x2043:00 DICT.SECTION.DEFAULTS. -/
def dictSectionDefaults : Nat := 0x204300
/-- 0x2044:01 DICT.DAP.PORT. -/
def dictDapPort : Nat := 0x204401
/-- 0x2044:02 DICT.DAP.ENABLE. -/
def dictDapEnable : Nat := 0x204402
/-- 0x2044:03 DICT.DAP.IDLE. -/
def dictDapIdle : Nat := 0x204403
/-- 0x2044:04 DICT.DAP.RATE. -/
def dictDapRate : Nat := 0x204404
/-- 0x2044:05 DICT.DAP.BURST. -/
def dictDapBurst : Nat := 0x204405
/-- 0x2044:06 DICT.DAP.OPEN. -/
def dictDapOpen : Nat := 0x204406
/-- 0x2044:07 DICT.DAP.REFUSED. -/
def dictDapRefused : Nat := 0x204407
/-- 0x2045:01–08 DICT.SDO.ROLE. -/
def dictSdoRole (j : Nat) : Nat := 0x204501 + j
/-- 0x2046:01–80 DICT.WIN.LASTERR. -/
def dictWinLasterr (j : Nat) : Nat := 0x204601 + j
/-- 0x2047:01–80 DICT.WIN.LASTERR. -/
def dictWinLasterrHi (j : Nat) : Nat := 0x204701 + j
/-- 0x2048:01 DICT.STORE.USED. -/
def dictStoreUsed : Nat := 0x204801
/-- 0x2048:02 DICT.STORE.CAPACITY. -/
def dictStoreCapacity : Nat := 0x204802
/-- 0x2600:00 SCAN.COUNT. -/
def scanCount : Nat := 0x260000
/-- 0x2600:01 SCAN.PHASE. -/
def scanPhase : Nat := 0x260001
/-- 0x2600:02 SCAN.STEP_SUM. -/
def scanStepSum : Nat := 0x260002
/-- 0x2600:03 SCAN.REALIGN. -/
def scanRealign : Nat := 0x260003
/-- 0x2600:04 SCAN.ENGINE_STATE. -/
def scanEngineState : Nat := 0x260004
/-- 0x2600:05 SCAN.SWITCH_MAX. -/
def scanSwitchMax : Nat := 0x260005
/-- 0x2610+x:01 SCAN.x.ENABLE. -/
def scanEnable (n : Nat) : Nat := 0x261001 + 256 * n
/-- 0x2610+x:02 SCAN.x.NUMBER. -/
def scanNumber (n : Nat) : Nat := 0x261002 + 256 * n
/-- 0x2610+x:03 SCAN.x.PERIOD. -/
def scanPeriod (n : Nat) : Nat := 0x261003 + 256 * n
/-- 0x2610+x:04 SCAN.x.T_S. -/
def scanSampleAt (n : Nat) : Nat := 0x261004 + 256 * n
/-- 0x2610+x:05 SCAN.x.T_C. -/
def scanCommitAt (n : Nat) : Nat := 0x261005 + 256 * n
/-- 0x2610+x:06 SCAN.x.TS. -/
def scanTs (n : Nat) : Nat := 0x261006 + 256 * n
/-- 0x2610+x:07 SCAN.x.OVERRUNS. -/
def scanOverruns (n : Nat) : Nat := 0x261007 + 256 * n
/-- 0x2610+x:08 SCAN.x.BUSY_MAX. -/
def scanBusyMax (n : Nat) : Nat := 0x261008 + 256 * n
/-- 0x2610+x:09 SCAN.x.STALE. -/
def scanStale (n : Nat) : Nat := 0x261009 + 256 * n
/-- 0x2610+x:0A SCAN.x.FIRST_BUILD. -/
def scanFirstBuild (n : Nat) : Nat := 0x26100A + 256 * n
/-- 0x2614:00 SCAN.C.COUNT. -/
def scanCCount : Nat := 0x261400
/-- 0x2614:01–40 SCAN.C.OUTRANGE. -/
def scanOutrange (j : Nat) : Nat := 0x261401 + j
/-- 0x2620:00 RIO.COUNT. -/
def rioCount : Nat := 0x262000
/-- 0x2620:01 RIO.ENABLE. -/
def rioEnable : Nat := 0x262001
/-- 0x2620:02 RIO.ETHERTYPE. -/
def rioEthertype : Nat := 0x262002
/-- 0x2620:03 RIO.STATIONS. -/
def rioStations : Nat := 0x262003
/-- 0x2620:04 RIO.STALE_TOTAL. -/
def rioStaleTotal : Nat := 0x262004
/-- 0x2620:05 RIO.LOST_LIMIT. -/
def rioLostLimit : Nat := 0x262005
/-- 0x2620:06 RIO.HOLD. -/
def rioHold : Nat := 0x262006
/-- 0x2621:01–04 RIO.STATION_TABLE. -/
def rioStationTable (j : Nat) : Nat := 0x262101 + j
/-- 0x2622:01 RIO.STATION_STATUS. -/
def rioStationStatus : Nat := 0x262201
/-- 0x2630:00 CHG.COUNT. -/
def chgCount : Nat := 0x263000
/-- 0x2630:01 CHG.REQUEST. -/
def chgRequest : Nat := 0x263001
/-- 0x2630:02 CHG.RESULTS. -/
def chgResults : Nat := 0x263002
/-- 0x2630:03 CHG.CANCEL. -/
def chgCancel : Nat := 0x263003
/-- 0x2630:04 CHG.PENDING. -/
def chgPending : Nat := 0x263004
/-- 0x2630:05 CHG.APPLIED_TOTAL. -/
def chgAppliedTotal : Nat := 0x263005
/-- 0x2630:06 CHG.LATE_TOTAL. -/
def chgLateTotal : Nat := 0x263006
/-- 0x2632:01–80 PAV.STATE. -/
def pavState (j : Nat) : Nat := 0x263201 + j
/-- 0x2633:01–80 PAV.STATE. -/
def pavStateHi (j : Nat) : Nat := 0x263301 + j
/-- 0x2730:00 ARBOUR.POLICY_COUNT. -/
def arbourPolicyCount : Nat := 0x273000
/-- 0x2730:01–80 ARBOUR.TRAP_POLICY. -/
def arbourTrapPolicy (j : Nat) : Nat := 0x273001 + j
/-- 0x2731:01–80 ARBOUR.TRAP_POLICY. -/
def arbourTrapPolicyHi (j : Nat) : Nat := 0x273101 + j
/-- 0x2732:01–80 ARBOUR.LAST_TRAP. -/
def arbourLastTrap (j : Nat) : Nat := 0x273201 + j
/-- 0x2733:01–80 ARBOUR.LAST_TRAP. -/
def arbourLastTrapHi (j : Nat) : Nat := 0x273301 + j
/-- 0x2734:00 ARBOUR.REVISION. -/
def arbourRevision : Nat := 0x273400
/-- 0x2700+t:00 TRESTLE.t.COUNT. -/
def trestleCount (n : Nat) : Nat := 0x270000 + 256 * n
/-- 0x2700+t:01 TRESTLE.t.CONFIG. -/
def trestleConfig (n : Nat) : Nat := 0x270001 + 256 * n
/-- 0x2700+t:02 TRESTLE.t.CONFIG_NOW. -/
def trestleConfigNow (n : Nat) : Nat := 0x270002 + 256 * n
/-- 0x2700+t:03 TRESTLE.t.STATE. -/
def trestleState (n : Nat) : Nat := 0x270003 + 256 * n
/-- 0x2700+t:04 TRESTLE.t.STATUS. -/
def trestleStatus (n : Nat) : Nat := 0x270004 + 256 * n
/-- 0x2700+t:05 TRESTLE.t.LANE_MAP. -/
def trestleLaneMap (n : Nat) : Nat := 0x270005 + 256 * n
/-- 0x2700+t:06 TRESTLE.t.MISMATCHES. -/
def trestleMismatches (n : Nat) : Nat := 0x270006 + 256 * n
/-- 0x2700+t:07 TRESTLE.t.RESYNCS. -/
def trestleResyncs (n : Nat) : Nat := 0x270007 + 256 * n
/-- 0x2700+t:08 TRESTLE.t.LAST_MISMATCH. -/
def trestleLastMismatch (n : Nat) : Nat := 0x270008 + 256 * n
/-- 0x2700+t:09 TRESTLE.t.DUPLEX_MAX. -/
def trestleDuplexMax (n : Nat) : Nat := 0x270009 + 256 * n
/-- 0x2700+t:0A TRESTLE.t.FAIL_CAUSE. -/
def trestleFailCause (n : Nat) : Nat := 0x27000A + 256 * n
/-- 0x2710+n:00 LANE.n.COUNT. -/
def laneCount (n : Nat) : Nat := 0x271000 + 256 * n
/-- 0x2710+n:01 LANE.n.ROLE. -/
def laneRole (n : Nat) : Nat := 0x271001 + 256 * n
/-- 0x2710+n:02 LANE.n.TRESTLE. -/
def laneTrestle (n : Nat) : Nat := 0x271002 + 256 * n
/-- 0x2710+n:03 LANE.n.POSITION. -/
def lanePosition (n : Nat) : Nat := 0x271003 + 256 * n
/-- 0x2710+n:04 LANE.n.LAST_BIST. -/
def laneLastBist (n : Nat) : Nat := 0x271004 + 256 * n
/-- 0x2710+n:05 LANE.n.BIST_AGE. -/
def laneBistAge (n : Nat) : Nat := 0x271005 + 256 * n
/-- 0x2710+n:06 LANE.n.BIST_COUNT. -/
def laneBistCount (n : Nat) : Nat := 0x271006 + 256 * n
/-- 0x2710+n:07 LANE.n.BIST_FAILS. -/
def laneBistFails (n : Nat) : Nat := 0x271007 + 256 * n
/-- 0x2710+n:08 LANE.n.MISMATCH_WINDOW. -/
def laneMismatchWindow (n : Nat) : Nat := 0x271008 + 256 * n
/-- 0x2710+n:09 LANE.n.MISMATCH_TOTAL. -/
def laneMismatchTotal (n : Nat) : Nat := 0x271009 + 256 * n
/-- 0x2710+n:0A LANE.n.RETIRE_CAUSE. -/
def laneRetireCause (n : Nat) : Nat := 0x27100A + 256 * n
/-- 0x2710+n:0B LANE.n.HOURS. -/
def laneHours (n : Nat) : Nat := 0x27100B + 256 * n
/-- 0x2710+n:0C LANE.n.RETIRE. -/
def laneRetire (n : Nat) : Nat := 0x27100C + 256 * n
/-- 0x2710+n:0D LANE.n.CORRECTED. -/
def laneCorrected (n : Nat) : Nat := 0x27100D + 256 * n
/-- 0x2720:00 SPARE.COUNT. -/
def spareCount : Nat := 0x272000
/-- 0x2720:01 SPARE.ROTATE_ENABLE. -/
def spareRotateEnable : Nat := 0x272001
/-- 0x2720:02 SPARE.INTERVAL. -/
def spareInterval : Nat := 0x272002
/-- 0x2720:03 SPARE.BIST_LIMIT. -/
def spareBistLimit : Nat := 0x272003
/-- 0x2720:04 SPARE.MISMATCH_LIMIT. -/
def spareMismatchLimit : Nat := 0x272004
/-- 0x2720:05 SPARE.MISMATCH_WINDOW. -/
def spareMismatchWindow : Nat := 0x272005
/-- 0x2720:06 SPARE.SPARES. -/
def spareSpares : Nat := 0x272006
/-- 0x2720:07 SPARE.RETIRED. -/
def spareRetired : Nat := 0x272007
/-- 0x2720:08 SPARE.OLDEST_TEST. -/
def spareOldestTest : Nat := 0x272008
/-- 0x2720:09 SPARE.NEXT. -/
def spareNext : Nat := 0x272009
/-- 0x2720:0A SPARE.ROTATIONS. -/
def spareRotations : Nat := 0x27200A
/-- 0x2720:0B SPARE.DEFERRED. -/
def spareDeferred : Nat := 0x27200B
/-- 0x2720:0C SPARE.ROTATE_NOW. -/
def spareRotateNow : Nat := 0x27200C
/-- 0x2720:0D SPARE.TEST_LANE. -/
def spareTestLane : Nat := 0x27200D
/-- 0x2720:0E SPARE.LOW_LIMIT. -/
def spareLowLimit : Nat := 0x27200E
/-- 0x2800+p:00 PAV.p.COUNT. -/
def pavCount (n : Nat) : Nat := 0x280000 + 256 * n
/-- 0x2800+p:01 PAV.p.FLAGS. -/
def pavFlags (n : Nat) : Nat := 0x280001 + 256 * n
/-- 0x2800+p:02 PAV.p.LANE. -/
def pavLane (n : Nat) : Nat := 0x280002 + 256 * n
/-- 0x2800+p:03 PAV.p.CODE_BASE. -/
def pavCodeBase (n : Nat) : Nat := 0x280003 + 256 * n
/-- 0x2800+p:04 PAV.p.CODE_SIZE. -/
def pavCodeSize (n : Nat) : Nat := 0x280004 + 256 * n
/-- 0x2800+p:05 PAV.p.CSTACK_BASE. -/
def pavCstackBase (n : Nat) : Nat := 0x280005 + 256 * n
/-- 0x2800+p:06 PAV.p.D_BASE. -/
def pavDBase (n : Nat) : Nat := 0x280006 + 256 * n
/-- 0x2800+p:07 PAV.p.M_BASE. -/
def pavMBase (n : Nat) : Nat := 0x280007 + 256 * n
/-- 0x2800+p:08–0A PAV.p.L_BASE_A, _B, _C. -/
def pavLBase (n : Nat) (j : Nat) : Nat := 0x280008 + 256 * n + j
/-- 0x2800+p:0B PAV.p.T_BASE. -/
def pavTBase (n : Nat) : Nat := 0x28000B + 256 * n
/-- 0x2800+p:0C PAV.p.C_BASE. -/
def pavCBase (n : Nat) : Nat := 0x28000C + 256 * n
/-- 0x2800+p:0D PAV.p.K_BASE. -/
def pavKBase (n : Nat) : Nat := 0x28000D + 256 * n
/-- 0x2800+p:0E–10 PAV.p.ENTRY_A, _B, _C. -/
def pavEntry (n : Nat) (j : Nat) : Nat := 0x28000E + 256 * n + j
/-- 0x2800+p:11–13 PAV.p.IBUDGET_A, _B, _C. -/
def pavIbudget (n : Nat) (j : Nat) : Nat := 0x280011 + 256 * n + j
/-- 0x2800+p:14 PAV.p.WINDOW_A. -/
def pavWindowA (n : Nat) : Nat := 0x280014 + 256 * n
/-- 0x2800+p:15 PAV.p.TBUDGET_B. -/
def pavTbudgetB (n : Nat) : Nat := 0x280015 + 256 * n
/-- 0x2800+p:16 PAV.p.TBUDGET_C. -/
def pavTbudgetC (n : Nat) : Nat := 0x280016 + 256 * n
/-- 0x2800+p:17 PAV.p.ORDER. -/
def pavOrder (n : Nat) : Nat := 0x280017 + 256 * n
/-- 0x2800+p:18 PAV.p.OVERRUN_LIMIT. -/
def pavOverrunLimit (n : Nat) : Nat := 0x280018 + 256 * n
/-- 0x2800+p:19 PAV.p.HOLD_LIMIT. -/
def pavHoldLimit (n : Nat) : Nat := 0x280019 + 256 * n
/-- 0x2800+p:1A PAV.p.DECL_A. -/
def pavDeclA (n : Nat) : Nat := 0x28001A + 256 * n
/-- 0x2800+p:1B PAV.p.ADMIT. -/
def pavAdmit (n : Nat) : Nat := 0x28001B + 256 * n
/-- 0x2800+p:1C PAV.p.ADMIT_DEMAND. -/
def pavAdmitDemand (n : Nat) : Nat := 0x28001C + 256 * n
/-- 0x2800+p:1D PAV.p.PROGRAM. -/
def pavProgram (n : Nat) : Nat := 0x28001D + 256 * n
/-- 0x2800+p:1E PAV.p.LOAD. -/
def pavLoad (n : Nat) : Nat := 0x28001E + 256 * n
/-- 0x2800+p:1F PAV.p.LOAD_STATE. -/
def pavLoadState (n : Nat) : Nat := 0x28001F + 256 * n
/-- 0x2800+p:20 PAV.p.SCHEMA. -/
def pavSchema (n : Nat) : Nat := 0x280020 + 256 * n
/-- 0x2800+p:21 PAV.p.REGION_ARM. -/
def pavRegionArm (n : Nat) : Nat := 0x280021 + 256 * n
/-- 0x2800+p:22 PAV.p.REGION_FAULT. -/
def pavRegionFault (n : Nat) : Nat := 0x280022 + 256 * n
/-- 0x2800+p:23 PAV.p.SHARE_TO. -/
def pavShareTo (n : Nat) : Nat := 0x280023 + 256 * n
/-- 0x2800+p:24 PAV.p.STOP_CAUSE. -/
def pavStopCause (n : Nat) : Nat := 0x280024 + 256 * n
/-- 0x2800+p:25 PAV.p.WDT.STATE. -/
def pavWdtState (n : Nat) : Nat := 0x280025 + 256 * n
/-- 0x2800+p:26 PAV.p.WDT.OPEN. -/
def pavWdtOpen (n : Nat) : Nat := 0x280026 + 256 * n
/-- 0x2800+p:27 PAV.p.WDT.TIMEOUT. -/
def pavWdtTimeout (n : Nat) : Nat := 0x280027 + 256 * n
/-- 0x2800+p:28 PAV.p.WDT.KEY. -/
def pavWdtKey (n : Nat) : Nat := 0x280028 + 256 * n
/-- 0x2800+p:29 PAV.p.WDT.ENABLE. -/
def pavWdtEnable (n : Nat) : Nat := 0x280029 + 256 * n
/-- 0x2800+p:2A PAV.p.WDT.LOCK. -/
def pavWdtLock (n : Nat) : Nat := 0x28002A + 256 * n
/-- 0x2800+p:2B PAV.p.WDT.EXPIRIES. -/
def pavWdtExpiries (n : Nat) : Nat := 0x28002B + 256 * n
/-- 0x2800+p:2C PAV.p.DMA.LAST. -/
def pavDmaLast (n : Nat) : Nat := 0x28002C + 256 * n
/-- 0x2800+p:2D PAV.p.DECLARE. -/
def pavDeclare (n : Nat) : Nat := 0x28002D + 256 * n
/-- 0x2A00+p:00 QUOTA.p.COUNT. -/
def quotaCount (n : Nat) : Nat := 0x2A0000 + 256 * n
/-- 0x2A00+p:01 QUOTA.p.WEIGHT. -/
def quotaWeight (n : Nat) : Nat := 0x2A0001 + 256 * n
/-- 0x2A00+p:02 QUOTA.p.DRAM. -/
def quotaDram (n : Nat) : Nat := 0x2A0002 + 256 * n
/-- 0x2A00+p:03 QUOTA.p.DRAM_USED. -/
def quotaDramUsed (n : Nat) : Nat := 0x2A0003 + 256 * n
/-- 0x2A00+p:04 QUOTA.p.STORE. -/
def quotaStore (n : Nat) : Nat := 0x2A0004 + 256 * n
/-- 0x2A00+p:05 QUOTA.p.STORE_USED. -/
def quotaStoreUsed (n : Nat) : Nat := 0x2A0005 + 256 * n
/-- 0x2A00+p:06 QUOTA.p.CREDIT. -/
def quotaCredit (n : Nat) : Nat := 0x2A0006 + 256 * n
/-- 0x2A00+p:07 QUOTA.p.BEATS_SRAM. -/
def quotaBeatsSram (n : Nat) : Nat := 0x2A0007 + 256 * n
/-- 0x2A00+p:08 QUOTA.p.BEATS_DRAM. -/
def quotaBeatsDram (n : Nat) : Nat := 0x2A0008 + 256 * n
/-- 0x2A00+p:09 QUOTA.p.DMA_OPEN. -/
def quotaDmaOpen (n : Nat) : Nat := 0x2A0009 + 256 * n
/-- 0x3000:00 PAIR.COUNT. -/
def pairCount : Nat := 0x300000
/-- 0x3000:01 PAIR.MODE. -/
def pairMode : Nat := 0x300001
/-- 0x3000:02 PAIR.ROLE. -/
def pairRole : Nat := 0x300002
/-- 0x3000:03 PAIR.STATE. -/
def pairState : Nat := 0x300003
/-- 0x3000:04 PAIR.PARTNER_SERIAL. -/
def pairPartnerSerial : Nat := 0x300004
/-- 0x3000:05 PAIR.PARTNER_GRADE. -/
def pairPartnerGrade : Nat := 0x300005
/-- 0x3000:06 PAIR.TAKEOVERS. -/
def pairTakeovers : Nat := 0x300006
/-- 0x3000:07 PAIR.LAST_TAKEOVER. -/
def pairLastTakeover : Nat := 0x300007
/-- 0x3000:08 PAIR.BOUND. -/
def pairBound : Nat := 0x300008
/-- 0x3000:09 PAIR.HOLD_SHORT. -/
def pairHoldShort : Nat := 0x300009
/-- 0x3000:0A PAIR.STATUS. -/
def pairStatus : Nat := 0x30000A
/-- 0x3001:00 CW.COUNT. -/
def cwCount : Nat := 0x300100
/-- 0x3001:01 CW.STATE. -/
def cwState : Nat := 0x300101
/-- 0x3001:02 CW.LANES. -/
def cwLanes : Nat := 0x300102
/-- 0x3001:03 CW.HB_MISSED. -/
def cwHbMissed : Nat := 0x300103
/-- 0x3001:04 CW.BLOCK_ERRORS. -/
def cwBlockErrors : Nat := 0x300104
/-- 0x3001:05 CW.CRC_ERRORS. -/
def cwCrcErrors : Nat := 0x300105
/-- 0x3001:06 CW.RX_BYTES. -/
def cwRxBytes : Nat := 0x300106
/-- 0x3001:07 CW.TX_BYTES. -/
def cwTxBytes : Nat := 0x300107
/-- 0x3001:08 CW.LOOP_INTERVAL. -/
def cwLoopInterval : Nat := 0x300108
/-- 0x3001:09 CW.LOOP_RESULT. -/
def cwLoopResult : Nat := 0x300109
/-- 0x3002:00 CKPT.COUNT. -/
def ckptCount : Nat := 0x300200
/-- 0x3002:01 CKPT.SCOPE_PAGES. -/
def ckptScopePages : Nat := 0x300201
/-- 0x3002:02 CKPT.SCOPE_LIMIT. -/
def ckptScopeLimit : Nat := 0x300202
/-- 0x3002:03 CKPT.EPOCH. -/
def ckptEpoch : Nat := 0x300203
/-- 0x3002:04 CKPT.LAG. -/
def ckptLag : Nat := 0x300204
/-- 0x3002:05 CKPT.COALESCED. -/
def ckptCoalesced : Nat := 0x300205
/-- 0x3002:06 CKPT.ABANDONED. -/
def ckptAbandoned : Nat := 0x300206
/-- 0x3002:07 CKPT.JOINS. -/
def ckptJoins : Nat := 0x300207
/-- 0x3002:08 CKPT.LAST_BYTES. -/
def ckptLastBytes : Nat := 0x300208
/-- 0x3002:09 CKPT.NAND_INTERVAL. -/
def ckptNandInterval : Nat := 0x300209
/-- 0x3002:0A CKPT.NAND_LAST. -/
def ckptNandLast : Nat := 0x30020A
/-- 0x3002:0B CKPT.WARM_RESTART. -/
def ckptWarmRestart : Nat := 0x30020B
/-- 0x3002:0C CKPT.SCHEMA. -/
def ckptSchema : Nat := 0x30020C
/-- 0x3002:0D CKPT.PARTNER_SCHEMA. -/
def ckptPartnerSchema : Nat := 0x30020D
/-- 0x3002:0E CKPT.TRANSLATION. -/
def ckptTranslation : Nat := 0x30020E
/-- 0x3003:00 REF.COUNT. -/
def refCount : Nat := 0x300300
/-- 0x3003:01 REF.PATHS. -/
def refPaths : Nat := 0x300301
/-- 0x3003:02 REF.KEY. -/
def refKey : Nat := 0x300302
/-- 0x3003:03 REF.PEER. -/
def refPeer : Nat := 0x300303
/-- 0x3003:04 REF.STATE. -/
def refState : Nat := 0x300304
/-- 0x3003:05 REF.GRANT_EPOCH. -/
def refGrantEpoch : Nat := 0x300305
/-- 0x3003:06 REF.HOLDER. -/
def refHolder : Nat := 0x300306
/-- 0x3003:07 REF.GRANT_AGE. -/
def refGrantAge : Nat := 0x300307
/-- 0x3003:08 REF.FRAMES_BAD. -/
def refFramesBad : Nat := 0x300308
/-- 0x3003:09 REF.LINE_STUCK. -/
def refLineStuck : Nat := 0x300309
/-- 0x3003:0A REF.DENIES. -/
def refDenies : Nat := 0x30030A
/-- 0x3004:00 HEALTH.COUNT. -/
def healthCount : Nat := 0x300400
/-- 0x3004:01 HEALTH.OWN. -/
def healthOwn : Nat := 0x300401
/-- 0x3004:02 HEALTH.PARTNER. -/
def healthPartner : Nat := 0x300402
/-- 0x3004:03 HEALTH.AGREE_FAILS. -/
def healthAgreeFails : Nat := 0x300403
/-- 0x3004:04 HEALTH.AI_TOLERANCE. -/
def healthAiTolerance : Nat := 0x300404
/-- 0x3004:05 HEALTH.TEST_INTERVAL. -/
def healthTestInterval : Nat := 0x300405
/-- 0x3005:00 SAFECMP.COUNT. -/
def safecmpCount : Nat := 0x300500
/-- 0x3005:01 SAFECMP.ENABLE. -/
def safecmpEnable : Nat := 0x300501
/-- 0x3005:02 SAFECMP.LIMIT. -/
def safecmpLimit : Nat := 0x300502
/-- 0x3005:03 SAFECMP.DIFFER. -/
def safecmpDiffer : Nat := 0x300503
/-- 0x3005:04 SAFECMP.LATCHED. -/
def safecmpLatched : Nat := 0x300504
/-- 0x3005:05 SAFECMP.OWN. -/
def safecmpOwn : Nat := 0x300505
/-- 0x3005:06 SAFECMP.PARTNER. -/
def safecmpPartner : Nat := 0x300506
/-- 0x3005:07 SAFECMP.TRIPS. -/
def safecmpTrips : Nat := 0x300507
/-- 0x3006:00 PAIRCMD.COUNT. -/
def paircmdCount : Nat := 0x300600
/-- 0x3006:01 PAIRCMD.HANDOVER. -/
def paircmdHandover : Nat := 0x300601
/-- 0x3006:02 PAIRCMD.HANDOVER_STATE. -/
def paircmdHandoverState : Nat := 0x300602
/-- 0x3006:03 PAIRCMD.TAKEOVER_REQ. -/
def paircmdTakeoverReq : Nat := 0x300603
/-- 0x3006:04 PAIRCMD.REJOIN. -/
def paircmdRejoin : Nat := 0x300604
/-- 0x3400:00 SAFETY.COUNT. -/
def safetyCount : Nat := 0x340000
/-- 0x3400:01 SAFETY.CPU_MODE. -/
def safetyCpuMode : Nat := 0x340001
/-- 0x3400:02 SAFETY.CPU_MODE_NOW. -/
def safetyCpuModeNow : Nat := 0x340002
/-- 0x3400:03 SAFETY.STATE. -/
def safetyState : Nat := 0x340003
/-- 0x3400:04 SAFETY.FAULTS. -/
def safetyFaults : Nat := 0x340004
/-- 0x3400:05 SAFETY.FAULT_ACK. -/
def safetyFaultAck : Nat := 0x340005
/-- 0x3400:06 SAFETY.PULSE_PERIOD. -/
def safetyPulsePeriod : Nat := 0x340006
/-- 0x3400:07 SAFETY.STATUS_OFFSET. -/
def safetyStatusOffset : Nat := 0x340007
/-- 0x3400:08 SAFETY.STATUS_OWNER. -/
def safetyStatusOwner : Nat := 0x340008
/-- 0x3400:09 SAFETY.STARTUP_MS. -/
def safetyStartupMs : Nat := 0x340009
/-- 0x3400:0A SAFETY.FW_VERSION. -/
def safetyFwVersion : Nat := 0x34000A
/-- 0x3402:00 SAFEVER.COUNT. -/
def safeverCount : Nat := 0x340200
/-- 0x3402:01 SAFEVER.STAGED_CRC. -/
def safeverStagedCrc : Nat := 0x340201
/-- 0x3402:02 SAFEVER.PARAPET_STAGED_CRC. -/
def safeverParapetStagedCrc : Nat := 0x340202
/-- 0x3402:03 SAFEVER.ACTIVE_CRC. -/
def safeverActiveCrc : Nat := 0x340203
/-- 0x3402:04 SAFEVER.CONFIRM. -/
def safeverConfirm : Nat := 0x340204
/-- 0x3402:05 SAFEVER.STATE. -/
def safeverState : Nat := 0x340205
/-- 0x3402:06 SAFEVER.RESULT. -/
def safeverResult : Nat := 0x340206
/-- 0x3402:07 SAFEVER.ACTIVATE. -/
def safeverActivate : Nat := 0x340207
/-- 0x3402:08 SAFEVER.ACTIVATED_AT. -/
def safeverActivatedAt : Nat := 0x340208
/-- 0x3402:09 SAFEVER.DISCARD. -/
def safeverDiscard : Nat := 0x340209
/-- 0x3410+i:00 SPAIR.i.COUNT. -/
def spairCount (n : Nat) : Nat := 0x341000 + 256 * n
/-- 0x3410+i:01 SPAIR.i.TYPE. -/
def spairType (n : Nat) : Nat := 0x341001 + 256 * n
/-- 0x3410+i:02 SPAIR.i.SOURCE. -/
def spairSource (n : Nat) : Nat := 0x341002 + 256 * n
/-- 0x3410+i:03 SPAIR.i.FILTER. -/
def spairFilter (n : Nat) : Nat := 0x341003 + 256 * n
/-- 0x3410+i:04 SPAIR.i.DISCREPANCY. -/
def spairDiscrepancy (n : Nat) : Nat := 0x341004 + 256 * n
/-- 0x3410+i:05 SPAIR.i.OWNER. -/
def spairOwner (n : Nat) : Nat := 0x341005 + 256 * n
/-- 0x3410+i:06 SPAIR.i.STATE. -/
def spairState (n : Nat) : Nat := 0x341006 + 256 * n
/-- 0x3410+i:07 SPAIR.i.CAUSE. -/
def spairCause (n : Nat) : Nat := 0x341007 + 256 * n
/-- 0x3410+i:08 SPAIR.i.DEMANDS. -/
def spairDemands (n : Nat) : Nat := 0x341008 + 256 * n
/-- 0x3420+o:00 SOUT.o.COUNT. -/
def soutCount (n : Nat) : Nat := 0x342000 + 256 * n
/-- 0x3420+o:01 SOUT.o.GROUP. -/
def soutGroup (n : Nat) : Nat := 0x342001 + 256 * n
/-- 0x3420+o:02 SOUT.o.PULSE_WIDTH. -/
def soutPulseWidth (n : Nat) : Nat := 0x342002 + 256 * n
/-- 0x3420+o:03 SOUT.o.OWNER. -/
def soutOwner (n : Nat) : Nat := 0x342003 + 256 * n
/-- 0x3420+o:04 SOUT.o.STATE. -/
def soutState (n : Nat) : Nat := 0x342004 + 256 * n
/-- 0x3420+o:05 SOUT.o.CAUSE. -/
def soutCause (n : Nat) : Nat := 0x342005 + 256 * n
/-- 0x3420+o:06 SOUT.o.READBACK. -/
def soutReadback (n : Nat) : Nat := 0x342006 + 256 * n
/-- 0x3420+o:07 SOUT.o.TESTS. -/
def soutTests (n : Nat) : Nat := 0x342007 + 256 * n
/-- 0x3420+o:08 SOUT.o.ACK. -/
def soutAck (n : Nat) : Nat := 0x342008 + 256 * n
/-- 0x3420+o:09 SOUT.o.LAST_FALL. -/
def soutLastFall (n : Nat) : Nat := 0x342009 + 256 * n
/-- 0x3430+g:00 SGROUP.g.COUNT. -/
def sgroupCount (n : Nat) : Nat := 0x343000 + 256 * n
/-- 0x3430+g:01 SGROUP.g.ENABLE. -/
def sgroupEnable (n : Nat) : Nat := 0x343001 + 256 * n
/-- 0x3430+g:02 SGROUP.g.STO_MASK. -/
def sgroupStoMask (n : Nat) : Nat := 0x343002 + 256 * n
/-- 0x3430+g:03 SGROUP.g.SS1_MASK. -/
def sgroupSs1Mask (n : Nat) : Nat := 0x343003 + 256 * n
/-- 0x3430+g:04 SGROUP.g.RESET_PAIR. -/
def sgroupResetPair (n : Nat) : Nat := 0x343004 + 256 * n
/-- 0x3430+g:05 SGROUP.g.RESET_POINT. -/
def sgroupResetPoint (n : Nat) : Nat := 0x343005 + 256 * n
/-- 0x3430+g:06 SGROUP.g.REQ_POINT. -/
def sgroupReqPoint (n : Nat) : Nat := 0x343006 + 256 * n
/-- 0x3430+g:07 SGROUP.g.ENCODER_USED. -/
def sgroupEncoderUsed (n : Nat) : Nat := 0x343007 + 256 * n
/-- 0x3430+g:08 SGROUP.g.T_D. -/
def sgroupTD (n : Nat) : Nat := 0x343008 + 256 * n
/-- 0x3430+g:09 SGROUP.g.A_MIN. -/
def sgroupAMin (n : Nat) : Nat := 0x343009 + 256 * n
/-- 0x3430+g:0A SGROUP.g.V_TOL. -/
def sgroupVTol (n : Nat) : Nat := 0x34300A + 256 * n
/-- 0x3430+g:0B SGROUP.g.V_SS. -/
def sgroupVSs (n : Nat) : Nat := 0x34300B + 256 * n
/-- 0x3430+g:0C SGROUP.g.T_SS. -/
def sgroupTSs (n : Nat) : Nat := 0x34300C + 256 * n
/-- 0x3430+g:0D SGROUP.g.T_MAX. -/
def sgroupTMax (n : Nat) : Nat := 0x34300D + 256 * n
/-- 0x3430+g:0E SGROUP.g.OWNER. -/
def sgroupOwner (n : Nat) : Nat := 0x34300E + 256 * n
/-- 0x3430+g:0F SGROUP.g.STATE. -/
def sgroupState (n : Nat) : Nat := 0x34300F + 256 * n
/-- 0x3430+g:10 SGROUP.g.LATCH. -/
def sgroupLatch (n : Nat) : Nat := 0x343010 + 256 * n
/-- 0x3430+g:11 SGROUP.g.ACK. -/
def sgroupAck (n : Nat) : Nat := 0x343011 + 256 * n
/-- 0x3430+g:12 SGROUP.g.LAST_STOP. -/
def sgroupLastStop (n : Nat) : Nat := 0x343012 + 256 * n
/-- 0x3430+g:13 SGROUP.g.STOPS. -/
def sgroupStops (n : Nat) : Nat := 0x343013 + 256 * n
/-- 0x3440+e:00 SENC.e.COUNT. -/
def sencCount (n : Nat) : Nat := 0x344000 + 256 * n
/-- 0x3440+e:01 SENC.e.TYPE. -/
def sencType (n : Nat) : Nat := 0x344001 + 256 * n
/-- 0x3440+e:02 SENC.e.INVERT. -/
def sencInvert (n : Nat) : Nat := 0x344002 + 256 * n
/-- 0x3440+e:03 SENC.e.MAX_RATE. -/
def sencMaxRate (n : Nat) : Nat := 0x344003 + 256 * n
/-- 0x3440+e:04 SENC.e.CROSS_TOL. -/
def sencCrossTol (n : Nat) : Nat := 0x344004 + 256 * n
/-- 0x3440+e:05 SENC.e.OWNER. -/
def sencOwner (n : Nat) : Nat := 0x344005 + 256 * n
/-- 0x3440+e:06 SENC.e.SPEED_SP. -/
def sencSpeedSp (n : Nat) : Nat := 0x344006 + 256 * n
/-- 0x3440+e:07 SENC.e.SPEED_PP. -/
def sencSpeedPp (n : Nat) : Nat := 0x344007 + 256 * n
/-- 0x3440+e:08 SENC.e.POSITION. -/
def sencPosition (n : Nat) : Nat := 0x344008 + 256 * n
/-- 0x3440+e:09 SENC.e.FAULT. -/
def sencFault (n : Nat) : Nat := 0x344009 + 256 * n
/-- 0x4000+i:00 DI.i.COUNT. -/
def diCount (n : Nat) : Nat := 0x400000 + 256 * n
/-- 0x4000+i:01 DI.i.POINT. -/
def diPoint (n : Nat) : Nat := 0x400001 + 256 * n
/-- 0x4000+i:02 DI.i.TYPE. -/
def diType (n : Nat) : Nat := 0x400002 + 256 * n
/-- 0x4000+i:03 DI.i.DEBOUNCE. -/
def diDebounce (n : Nat) : Nat := 0x400003 + 256 * n
/-- 0x4000+i:04 DI.i.EDGE. -/
def diEdge (n : Nat) : Nat := 0x400004 + 256 * n
/-- 0x4000+i:05 DI.i.EXT. -/
def diExt (n : Nat) : Nat := 0x400005 + 256 * n
/-- 0x4000+i:06 DI.i.OWNER. -/
def diOwner (n : Nat) : Nat := 0x400006 + 256 * n
/-- 0x4000+i:07 DI.i.STATE. -/
def diState (n : Nat) : Nat := 0x400007 + 256 * n
/-- 0x4000+i:08 DI.i.EDGES. -/
def diEdges (n : Nat) : Nat := 0x400008 + 256 * n
/-- 0x4000+i:09 DI.i.LAST_EDGE. -/
def diLastEdge (n : Nat) : Nat := 0x400009 + 256 * n
/-- 0x4000+i:0A DI.i.WAKE. -/
def diWake (n : Nat) : Nat := 0x40000A + 256 * n
/-- 0x4080+o:00 DO.o.COUNT. -/
def doCount (n : Nat) : Nat := 0x408000 + 256 * n
/-- 0x4080+o:01 DO.o.POINT. -/
def doPoint (n : Nat) : Nat := 0x408001 + 256 * n
/-- 0x4080+o:02 DO.o.MODE. -/
def doMode (n : Nat) : Nat := 0x408002 + 256 * n
/-- 0x4080+o:03 DO.o.SAFE. -/
def doSafe (n : Nat) : Nat := 0x408003 + 256 * n
/-- 0x4080+o:04 DO.o.OWNER. -/
def doOwner (n : Nat) : Nat := 0x408004 + 256 * n
/-- 0x4080+o:05 DO.o.OC_DELAY. -/
def doOcDelay (n : Nat) : Nat := 0x408005 + 256 * n
/-- 0x4080+o:06 DO.o.RETRY. -/
def doRetry (n : Nat) : Nat := 0x408006 + 256 * n
/-- 0x4080+o:07 DO.o.DIAG_ENABLE. -/
def doDiagEnable (n : Nat) : Nat := 0x408007 + 256 * n
/-- 0x4080+o:08 DO.o.STATE. -/
def doState (n : Nat) : Nat := 0x408008 + 256 * n
/-- 0x4080+o:09 DO.o.FAULT. -/
def doFault (n : Nat) : Nat := 0x408009 + 256 * n
/-- 0x4080+o:0A DO.o.ACK. -/
def doAck (n : Nat) : Nat := 0x40800A + 256 * n
/-- 0x4080+o:0B DO.o.TRIPS. -/
def doTrips (n : Nat) : Nat := 0x40800B + 256 * n
/-- 0x4080+o:0C DO.o.SWITCHES. -/
def doSwitches (n : Nat) : Nat := 0x40800C + 256 * n
/-- 0x40E0+g:00 FSUP.g.COUNT. -/
def fsupCount (n : Nat) : Nat := 0x40E000 + 256 * n
/-- 0x40E0+g:01 FSUP.g.STATE. -/
def fsupState (n : Nat) : Nat := 0x40E001 + 256 * n
/-- 0x40E0+g:02 FSUP.g.VOLTAGE. -/
def fsupVoltage (n : Nat) : Nat := 0x40E002 + 256 * n
/-- 0x40E0+g:03 FSUP.g.HOLD. -/
def fsupHold (n : Nat) : Nat := 0x40E003 + 256 * n
/-- 0x40E0+g:04 FSUP.g.DIAG_POINT. -/
def fsupDiagPoint (n : Nat) : Nat := 0x40E004 + 256 * n
/-- 0x40E0+g:05 FSUP.g.DIAG_OWNER. -/
def fsupDiagOwner (n : Nat) : Nat := 0x40E005 + 256 * n
/-- 0x40E0+g:06 FSUP.g.CURRENT. -/
def fsupCurrent (n : Nat) : Nat := 0x40E006 + 256 * n
/-- 0x40E0+g:07 FSUP.g.HOLD_EXPIRIES. -/
def fsupHoldExpiries (n : Nat) : Nat := 0x40E007 + 256 * n
/-- 0x40E0+g:08 FSUP.g.CHANGES. -/
def fsupChanges (n : Nat) : Nat := 0x40E008 + 256 * n
/-- 0x40E0+g:09 FSUP.g.HOLD_STATE. -/
def fsupHoldState (n : Nat) : Nat := 0x40E009 + 256 * n
/-- 0x40E0:0A VSENS.STATE. -/
def vsensState : Nat := 0x40E00A
/-- 0x40E0:0B VSENS.VOLTAGE. -/
def vsensVoltage : Nat := 0x40E00B
/-- 0x4200+n:00 IOL.n.COUNT. -/
def iolCount (n : Nat) : Nat := 0x420000 + 256 * n
/-- 0x4200+n:01 IOL.n.MODE. -/
def iolMode (n : Nat) : Nat := 0x420001 + 256 * n
/-- 0x4200+n:02 IOL.n.OWNER. -/
def iolOwner (n : Nat) : Nat := 0x420002 + 256 * n
/-- 0x4200+n:03 IOL.n.VENDOR_ID. -/
def iolVendorId (n : Nat) : Nat := 0x420003 + 256 * n
/-- 0x4200+n:04 IOL.n.DEVICE_ID. -/
def iolDeviceId (n : Nat) : Nat := 0x420004 + 256 * n
/-- 0x4200+n:05 IOL.n.CYCLE. -/
def iolCycle (n : Nat) : Nat := 0x420005 + 256 * n
/-- 0x4200+n:06 IOL.n.IN_POINT. -/
def iolInPoint (n : Nat) : Nat := 0x420006 + 256 * n
/-- 0x4200+n:07 IOL.n.OUT_POINT. -/
def iolOutPoint (n : Nat) : Nat := 0x420007 + 256 * n
/-- 0x4200+n:08 IOL.n.IN_LEN. -/
def iolInLen (n : Nat) : Nat := 0x420008 + 256 * n
/-- 0x4200+n:09 IOL.n.OUT_LEN. -/
def iolOutLen (n : Nat) : Nat := 0x420009 + 256 * n
/-- 0x4200+n:0A IOL.n.HOLD. -/
def iolHold (n : Nat) : Nat := 0x42000A + 256 * n
/-- 0x4200+n:0B IOL.n.SAFE. -/
def iolSafe (n : Nat) : Nat := 0x42000B + 256 * n
/-- 0x4200+n:0C IOL.n.REPLACE. -/
def iolReplace (n : Nat) : Nat := 0x42000C + 256 * n
/-- 0x4200+n:0D IOL.n.STATE. -/
def iolState (n : Nat) : Nat := 0x42000D + 256 * n
/-- 0x4200+n:0E IOL.n.COM. -/
def iolCom (n : Nat) : Nat := 0x42000E + 256 * n
/-- 0x4200+n:0F IOL.n.ACT_CYCLE. -/
def iolActCycle (n : Nat) : Nat := 0x42000F + 256 * n
/-- 0x4200+n:10 IOL.n.DEV_VENDOR. -/
def iolDevVendor (n : Nat) : Nat := 0x420010 + 256 * n
/-- 0x4200+n:11 IOL.n.DEV_ID. -/
def iolDevId (n : Nat) : Nat := 0x420011 + 256 * n
/-- 0x4200+n:12 IOL.n.CAUSE. -/
def iolCause (n : Nat) : Nat := 0x420012 + 256 * n
/-- 0x4200+n:13 IOL.n.ERRORS. -/
def iolErrors (n : Nat) : Nat := 0x420013 + 256 * n
/-- 0x4200+n:14 IOL.n.LPLUS_MA. -/
def iolLplusMa (n : Nat) : Nat := 0x420014 + 256 * n
/-- 0x4300+a:00 ADC.a.COUNT. -/
def adcCount (n : Nat) : Nat := 0x430000 + 256 * n
/-- 0x4300+a:01 ADC.a.REF. -/
def adcRef (n : Nat) : Nat := 0x430001 + 256 * n
/-- 0x4300+a:02 ADC.a.AREF_MV. -/
def adcArefMv (n : Nat) : Nat := 0x430002 + 256 * n
/-- 0x4300+a:03 ADC.a.MODE. -/
def adcMode (n : Nat) : Nat := 0x430003 + 256 * n
/-- 0x4300+a:04 ADC.a.MASK. -/
def adcMask (n : Nat) : Nat := 0x430004 + 256 * n
/-- 0x4300+a:05 ADC.a.CHSEL. -/
def adcChsel (n : Nat) : Nat := 0x430005 + 256 * n
/-- 0x4300+a:06 ADC.a.TRIGGER. -/
def adcTrigger (n : Nat) : Nat := 0x430006 + 256 * n
/-- 0x4300+a:07 ADC.a.PERIOD. -/
def adcPeriod (n : Nat) : Nat := 0x430007 + 256 * n
/-- 0x4300+a:08 ADC.a.START. -/
def adcStart (n : Nat) : Nat := 0x430008 + 256 * n
/-- 0x4300+a:09 ADC.a.STATUS. -/
def adcStatus (n : Nat) : Nat := 0x430009 + 256 * n
/-- 0x4300+a:0A ADC.a.SELFTEST_INTERVAL. -/
def adcSelftestInterval (n : Nat) : Nat := 0x43000A + 256 * n
/-- 0x4300+a:0B ADC.a.SELFTEST_FAILS. -/
def adcSelftestFails (n : Nat) : Nat := 0x43000B + 256 * n
/-- 0x4300+a:0C ADC.a.CONVERSIONS. -/
def adcConversions (n : Nat) : Nat := 0x43000C + 256 * n
/-- 0x4300+a:0D ADC.a.MISSED. -/
def adcMissed (n : Nat) : Nat := 0x43000D + 256 * n
/-- 0x4300+a:0E ADC.a.SETTLE_US. -/
def adcSettleUs (n : Nat) : Nat := 0x43000E + 256 * n
/-- 0x4300+a:10–1C ADC.a.RESULT. -/
def adcResult (n : Nat) (j : Nat) : Nat := 0x430010 + 256 * n + j
/-- 0x4310+i:00 AI.i.COUNT. -/
def aiCount (n : Nat) : Nat := 0x431000 + 256 * n
/-- 0x4310+i:01 AI.i.POINT. -/
def aiPoint (n : Nat) : Nat := 0x431001 + 256 * n
/-- 0x4310+i:02 AI.i.OWNER. -/
def aiOwner (n : Nat) : Nat := 0x431002 + 256 * n
/-- 0x4310+i:03 AI.i.MODE. -/
def aiMode (n : Nat) : Nat := 0x431003 + 256 * n
/-- 0x4310+i:04 AI.i.DAMPING. -/
def aiDamping (n : Nat) : Nat := 0x431004 + 256 * n
/-- 0x4310+i:05 AI.i.SCALE_LO. -/
def aiScaleLo (n : Nat) : Nat := 0x431005 + 256 * n
/-- 0x4310+i:06 AI.i.SCALE_HI. -/
def aiScaleHi (n : Nat) : Nat := 0x431006 + 256 * n
/-- 0x4310+i:07 AI.i.RAW_MA. -/
def aiRawMa (n : Nat) : Nat := 0x431007 + 256 * n
/-- 0x4310+i:08 AI.i.VALUE. -/
def aiValue (n : Nat) : Nat := 0x431008 + 256 * n
/-- 0x4310+i:09 AI.i.NE43. -/
def aiNe43 (n : Nat) : Nat := 0x431009 + 256 * n
/-- 0x4310+i:0A AI.i.FLAGS. -/
def aiFlags (n : Nat) : Nat := 0x43100A + 256 * n
/-- 0x4310+i:0B AI.i.NE43_QUAL. -/
def aiNe43Qual (n : Nat) : Nat := 0x43100B + 256 * n
/-- 0x4310+i:0C AI.i.STATE_CHANGES. -/
def aiStateChanges (n : Nat) : Nat := 0x43100C + 256 * n
/-- 0x4330+j:00 AO.j.COUNT. -/
def aoCount (n : Nat) : Nat := 0x433000 + 256 * n
/-- 0x4330+j:01 AO.j.OUT_POINT. -/
def aoOutPoint (n : Nat) : Nat := 0x433001 + 256 * n
/-- 0x4330+j:02 AO.j.IN_POINT. -/
def aoInPoint (n : Nat) : Nat := 0x433002 + 256 * n
/-- 0x4330+j:03 AO.j.OWNER. -/
def aoOwner (n : Nat) : Nat := 0x433003 + 256 * n
/-- 0x4330+j:04 AO.j.SCALE_LO. -/
def aoScaleLo (n : Nat) : Nat := 0x433004 + 256 * n
/-- 0x4330+j:05 AO.j.SCALE_HI. -/
def aoScaleHi (n : Nat) : Nat := 0x433005 + 256 * n
/-- 0x4330+j:06 AO.j.RATE. -/
def aoRate (n : Nat) : Nat := 0x433006 + 256 * n
/-- 0x4330+j:07 AO.j.LIMIT_LO. -/
def aoLimitLo (n : Nat) : Nat := 0x433007 + 256 * n
/-- 0x4330+j:08 AO.j.LIMIT_HI. -/
def aoLimitHi (n : Nat) : Nat := 0x433008 + 256 * n
/-- 0x4330+j:09 AO.j.SAFE. -/
def aoSafe (n : Nat) : Nat := 0x433009 + 256 * n
/-- 0x4330+j:0A AO.j.SAFE_MA. -/
def aoSafeMa (n : Nat) : Nat := 0x43300A + 256 * n
/-- 0x4330+j:0B AO.j.FAIL_LOW_MA. -/
def aoFailLowMa (n : Nat) : Nat := 0x43300B + 256 * n
/-- 0x4330+j:0C AO.j.FAIL_HIGH_MA. -/
def aoFailHighMa (n : Nat) : Nat := 0x43300C + 256 * n
/-- 0x4330+j:0D AO.j.FAULT_ALARM. -/
def aoFaultAlarm (n : Nat) : Nat := 0x43300D + 256 * n
/-- 0x4330+j:0E AO.j.HOLD. -/
def aoHold (n : Nat) : Nat := 0x43300E + 256 * n
/-- 0x4330+j:0F AO.j.OUT_MA. -/
def aoOutMa (n : Nat) : Nat := 0x43300F + 256 * n
/-- 0x4330+j:10 AO.j.READBACK_MA. -/
def aoReadbackMa (n : Nat) : Nat := 0x433010 + 256 * n
/-- 0x4330+j:11 AO.j.STATE. -/
def aoState (n : Nat) : Nat := 0x433011 + 256 * n
/-- 0x4330+j:12 AO.j.FAULT. -/
def aoFault (n : Nat) : Nat := 0x433012 + 256 * n
/-- 0x4330+j:13 AO.j.ACK. -/
def aoAck (n : Nat) : Nat := 0x433013 + 256 * n
/-- 0x4340+m:00 HART.m.COUNT. -/
def hartCount (n : Nat) : Nat := 0x434000 + 256 * n
/-- 0x4340+m:01 HART.m.ENABLE. -/
def hartEnable (n : Nat) : Nat := 0x434001 + 256 * n
/-- 0x4340+m:02 HART.m.MASTER. -/
def hartMaster (n : Nat) : Nat := 0x434002 + 256 * n
/-- 0x4340+m:03 HART.m.POLL_ADDR. -/
def hartPollAddr (n : Nat) : Nat := 0x434003 + 256 * n
/-- 0x4340+m:04 HART.m.OWNER. -/
def hartOwner (n : Nat) : Nat := 0x434004 + 256 * n
/-- 0x4340+m:05 HART.m.POINT. -/
def hartPoint (n : Nat) : Nat := 0x434005 + 256 * n
/-- 0x4340+m:06 HART.m.AUTO_CMD. -/
def hartAutoCmd (n : Nat) : Nat := 0x434006 + 256 * n
/-- 0x4340+m:07 HART.m.AUTO_PERIOD. -/
def hartAutoPeriod (n : Nat) : Nat := 0x434007 + 256 * n
/-- 0x4340+m:08 HART.m.BURST_LISTEN. -/
def hartBurstListen (n : Nat) : Nat := 0x434008 + 256 * n
/-- 0x4340+m:09 HART.m.PREAMBLE. -/
def hartPreamble (n : Nat) : Nat := 0x434009 + 256 * n
/-- 0x4340+m:0A HART.m.RETRIES. -/
def hartRetries (n : Nat) : Nat := 0x43400A + 256 * n
/-- 0x4340+m:0B HART.m.STATE. -/
def hartState (n : Nat) : Nat := 0x43400B + 256 * n
/-- 0x4340+m:0C HART.m.FLAGS. -/
def hartFlags (n : Nat) : Nat := 0x43400C + 256 * n
/-- 0x4340+m:0D HART.m.UNIQUE_ID. -/
def hartUniqueId (n : Nat) : Nat := 0x43400D + 256 * n
/-- 0x4340+m:0E HART.m.FRAMES_OK. -/
def hartFramesOk (n : Nat) : Nat := 0x43400E + 256 * n
/-- 0x4340+m:0F HART.m.NOISE_ABORTS. -/
def hartNoiseAborts (n : Nat) : Nat := 0x43400F + 256 * n
/-- 0x4340+m:10 HART.m.PARITY_ERRORS. -/
def hartParityErrors (n : Nat) : Nat := 0x434010 + 256 * n
/-- 0x4340+m:11 HART.m.CHECKSUM_ERRORS. -/
def hartChecksumErrors (n : Nat) : Nat := 0x434011 + 256 * n
/-- 0x4340+m:12 HART.m.TIMEOUTS. -/
def hartTimeouts (n : Nat) : Nat := 0x434012 + 256 * n
/-- 0x4340+m:13 HART.m.NOISY_MS. -/
def hartNoisyMs (n : Nat) : Nat := 0x434013 + 256 * n
/-- 0x4800:00 SW.COUNT. -/
def swCount : Nat := 0x480000
/-- 0x4800:01 SW.BRIDGE_MAC. -/
def swBridgeMac : Nat := 0x480001
/-- 0x4800:02 SW.FDB_AGE. -/
def swFdbAge : Nat := 0x480002
/-- 0x4800:03 SW.FDB_USED. -/
def swFdbUsed : Nat := 0x480003
/-- 0x4800:04 SW.FDB_FLUSH. -/
def swFdbFlush : Nat := 0x480004
/-- 0x4801:01 SW.VLAN_TABLE. -/
def swVlanTable : Nat := 0x480101
/-- 0x4810+n:00 PORT.n.COUNT. -/
def portCount (n : Nat) : Nat := 0x481000 + 256 * n
/-- 0x4810+n:01 PORT.n.ENABLE. -/
def portEnable (n : Nat) : Nat := 0x481001 + 256 * n
/-- 0x4810+n:02 PORT.n.INTERFACE. -/
def portInterface (n : Nat) : Nat := 0x481002 + 256 * n
/-- 0x4810+n:03 PORT.n.SPEED. -/
def portSpeed (n : Nat) : Nat := 0x481003 + 256 * n
/-- 0x4810+n:04 PORT.n.PVID. -/
def portPvid (n : Nat) : Nat := 0x481004 + 256 * n
/-- 0x4810+n:05 PORT.n.STATE. -/
def portState (n : Nat) : Nat := 0x481005 + 256 * n
/-- 0x4810+n:06 PORT.n.INGRESS_LAT. -/
def portIngressLat (n : Nat) : Nat := 0x481006 + 256 * n
/-- 0x4810+n:07 PORT.n.EGRESS_LAT. -/
def portEgressLat (n : Nat) : Nat := 0x481007 + 256 * n
/-- 0x4810+n:08 PORT.n.ASYMMETRY. -/
def portAsymmetry (n : Nat) : Nat := 0x481008 + 256 * n
/-- 0x4810+n:09 PORT.n.PREEMPT. -/
def portPreempt (n : Nat) : Nat := 0x481009 + 256 * n
/-- 0x4810+n:0A PORT.n.PREEMPT_STATE. -/
def portPreemptState (n : Nat) : Nat := 0x48100A + 256 * n
/-- 0x4810+n:0B PORT.n.LAUNCH_MASK. -/
def portLaunchMask (n : Nat) : Nat := 0x48100B + 256 * n
/-- 0x4810+n:0C PORT.n.LATE_TOL. -/
def portLateTol (n : Nat) : Nat := 0x48100C + 256 * n
/-- 0x4810+n:0D PORT.n.LAUNCH_DROPS. -/
def portLaunchDrops (n : Nat) : Nat := 0x48100D + 256 * n
/-- 0x4810+n:0E PORT.n.RX_FRAMES. -/
def portRxFrames (n : Nat) : Nat := 0x48100E + 256 * n
/-- 0x4810+n:0F PORT.n.TX_FRAMES. -/
def portTxFrames (n : Nat) : Nat := 0x48100F + 256 * n
/-- 0x4810+n:10 PORT.n.RX_ERRORS. -/
def portRxErrors (n : Nat) : Nat := 0x481010 + 256 * n
/-- 0x4810+n:11 PORT.n.TX_DISCARDS. -/
def portTxDiscards (n : Nat) : Nat := 0x481011 + 256 * n
/-- 0x4810+n:20–27 PORT.n.CBS_SLOPE. -/
def portCbsSlope (n : Nat) (j : Nat) : Nat := 0x481020 + 256 * n + j
/-- 0x4820+n:00 GATE.n.COUNT. -/
def gateCount (n : Nat) : Nat := 0x482000 + 256 * n
/-- 0x4820+n:01 GATE.n.ENABLE. -/
def gateEnable (n : Nat) : Nat := 0x482001 + 256 * n
/-- 0x4820+n:02 GATE.n.TIME_BASE. -/
def gateTimeBase (n : Nat) : Nat := 0x482002 + 256 * n
/-- 0x4820+n:03 GATE.n.BASE. -/
def gateBase (n : Nat) : Nat := 0x482003 + 256 * n
/-- 0x4820+n:04 GATE.n.CYCLE. -/
def gateCycle (n : Nat) : Nat := 0x482004 + 256 * n
/-- 0x4820+n:05 GATE.n.LENGTH. -/
def gateLength (n : Nat) : Nat := 0x482005 + 256 * n
/-- 0x4820+n:06 GATE.n.APPLY. -/
def gateApply (n : Nat) : Nat := 0x482006 + 256 * n
/-- 0x4820+n:07 GATE.n.STATE. -/
def gateState (n : Nat) : Nat := 0x482007 + 256 * n
/-- 0x4820+n:08 GATE.n.OPER_BASE. -/
def gateOperBase (n : Nat) : Nat := 0x482008 + 256 * n
/-- 0x4820+n:10–8F GATE.n.ENTRY. -/
def gateEntry (n : Nat) (j : Nat) : Nat := 0x482010 + 256 * n + j
/-- 0x4840:01–10 STREAM.TABLE. -/
def streamTable (j : Nat) : Nat := 0x484001 + j
/-- 0x4841:01 STREAM.STATUS. -/
def streamStatus : Nat := 0x484101
/-- 0x4850+r:00 RED.r.COUNT. -/
def redCount (n : Nat) : Nat := 0x485000 + 256 * n
/-- 0x4850+r:01 RED.r.MODE. -/
def redMode (n : Nat) : Nat := 0x485001 + 256 * n
/-- 0x4850+r:02 RED.r.PORT_A. -/
def redPortA (n : Nat) : Nat := 0x485002 + 256 * n
/-- 0x4850+r:03 RED.r.PORT_B. -/
def redPortB (n : Nat) : Nat := 0x485003 + 256 * n
/-- 0x4850+r:04 RED.r.LIFE_CHECK. -/
def redLifeCheck (n : Nat) : Nat := 0x485004 + 256 * n
/-- 0x4850+r:05 RED.r.ENTRY_FORGET. -/
def redEntryForget (n : Nat) : Nat := 0x485005 + 256 * n
/-- 0x4850+r:06 RED.r.STATE_A. -/
def redStateA (n : Nat) : Nat := 0x485006 + 256 * n
/-- 0x4850+r:07 RED.r.STATE_B. -/
def redStateB (n : Nat) : Nat := 0x485007 + 256 * n
/-- 0x4850+r:08 RED.r.DUPLICATES. -/
def redDuplicates (n : Nat) : Nat := 0x485008 + 256 * n
/-- 0x4850+r:09 RED.r.WRONG_LAN. -/
def redWrongLan (n : Nat) : Nat := 0x485009 + 256 * n
/-- 0x4850+r:0A RED.r.NODES. -/
def redNodes (n : Nat) : Nat := 0x48500A + 256 * n
/-- 0x4860+k:00 PPSIN.k.COUNT. -/
def ppsinCount (n : Nat) : Nat := 0x486000 + 256 * n
/-- 0x4860+k:01 PPSIN.k.EDGES. -/
def ppsinEdges (n : Nat) : Nat := 0x486001 + 256 * n
/-- 0x4860+k:02 PPSIN.k.LAST. -/
def ppsinLast (n : Nat) : Nat := 0x486002 + 256 * n
/-- 0x4862+k:00 PPSOUT.k.COUNT. -/
def ppsoutCount (n : Nat) : Nat := 0x486200 + 256 * n
/-- 0x4862+k:01 PPSOUT.k.ENABLE. -/
def ppsoutEnable (n : Nat) : Nat := 0x486201 + 256 * n
/-- 0x4862+k:02 PPSOUT.k.TIME_BASE. -/
def ppsoutTimeBase (n : Nat) : Nat := 0x486202 + 256 * n
/-- 0x4862+k:03 PPSOUT.k.OFFSET_NS. -/
def ppsoutOffsetNs (n : Nat) : Nat := 0x486203 + 256 * n
/-- 0x4862+k:04 PPSOUT.k.WIDTH. -/
def ppsoutWidth (n : Nat) : Nat := 0x486204 + 256 * n
/-- 0x4862+k:05 PPSOUT.k.GATE_UNSYNC. -/
def ppsoutGateUnsync (n : Nat) : Nat := 0x486205 + 256 * n
/-- 0x4900+n:00 TB.n.COUNT. -/
def tbCount (n : Nat) : Nat := 0x490000 + 256 * n
/-- 0x4900+n:01 TB.n.SOURCE. -/
def tbSource (n : Nat) : Nat := 0x490001 + 256 * n
/-- 0x4900+n:02 TB.n.SRC_ARG. -/
def tbSrcArg (n : Nat) : Nat := 0x490002 + 256 * n
/-- 0x4900+n:03 TB.n.RATE. -/
def tbRate (n : Nat) : Nat := 0x490003 + 256 * n
/-- 0x4900+n:04 TB.n.OFFSET. -/
def tbOffset (n : Nat) : Nat := 0x490004 + 256 * n
/-- 0x4900+n:05 TB.n.VALUE. -/
def tbValue (n : Nat) : Nat := 0x490005 + 256 * n
/-- 0x4900+n:06 TB.n.STEP. -/
def tbStep (n : Nat) : Nat := 0x490006 + 256 * n
/-- 0x4900+n:07 TB.n.SET. -/
def tbSet (n : Nat) : Nat := 0x490007 + 256 * n
/-- 0x4900+n:08 TB.n.SYNC. -/
def tbSync (n : Nat) : Nat := 0x490008 + 256 * n
/-- 0x4900+n:09 TB.n.DECLARE. -/
def tbDeclare (n : Nat) : Nat := 0x490009 + 256 * n
/-- 0x4900+n:0A TB.n.ERA. -/
def tbEra (n : Nat) : Nat := 0x49000A + 256 * n
/-- 0x4900+n:0B TB.n.STEPS. -/
def tbSteps (n : Nat) : Nat := 0x49000B + 256 * n
/-- 0x4900+n:0C TB.n.LAST_STEP. -/
def tbLastStep (n : Nat) : Nat := 0x49000C + 256 * n
/-- 0x4900+n:0D TB.n.PAV_READ. -/
def tbPavRead (n : Nat) : Nat := 0x49000D + 256 * n
/-- 0x4900+n:0E TB.n.RUNNING_AS. -/
def tbRunningAs (n : Nat) : Nat := 0x49000E + 256 * n
/-- 0x4910+k:00 PTP.k.COUNT. -/
def ptpCount (n : Nat) : Nat := 0x491000 + 256 * n
/-- 0x4910+k:01 PTP.k.ENABLE. -/
def ptpEnable (n : Nat) : Nat := 0x491001 + 256 * n
/-- 0x4910+k:02 PTP.k.PROFILE. -/
def ptpProfile (n : Nat) : Nat := 0x491002 + 256 * n
/-- 0x4910+k:03 PTP.k.DOMAIN. -/
def ptpDomain (n : Nat) : Nat := 0x491003 + 256 * n
/-- 0x4910+k:04 PTP.k.PORTS. -/
def ptpPorts (n : Nat) : Nat := 0x491004 + 256 * n
/-- 0x4910+k:05 PTP.k.MODE. -/
def ptpMode (n : Nat) : Nat := 0x491005 + 256 * n
/-- 0x4910+k:06 PTP.k.PRIORITY1. -/
def ptpPriority1 (n : Nat) : Nat := 0x491006 + 256 * n
/-- 0x4910+k:07 PTP.k.PRIORITY2. -/
def ptpPriority2 (n : Nat) : Nat := 0x491007 + 256 * n
/-- 0x4910+k:08 PTP.k.GM_CAPABLE. -/
def ptpGmCapable (n : Nat) : Nat := 0x491008 + 256 * n
/-- 0x4910+k:09 PTP.k.LOCK_NS. -/
def ptpLockNs (n : Nat) : Nat := 0x491009 + 256 * n
/-- 0x4910+k:0A PTP.k.UNLOCK_NS. -/
def ptpUnlockNs (n : Nat) : Nat := 0x49100A + 256 * n
/-- 0x4910+k:0B PTP.k.LOCK_COUNT. -/
def ptpLockCount (n : Nat) : Nat := 0x49100B + 256 * n
/-- 0x4910+k:0C PTP.k.HOLDOVER. -/
def ptpHoldover (n : Nat) : Nat := 0x49100C + 256 * n
/-- 0x4910+k:0D PTP.k.STEP_NS. -/
def ptpStepNs (n : Nat) : Nat := 0x49100D + 256 * n
/-- 0x4910+k:0E PTP.k.STATE. -/
def ptpState (n : Nat) : Nat := 0x49100E + 256 * n
/-- 0x4910+k:0F PTP.k.OFFSET_NS. -/
def ptpOffsetNs (n : Nat) : Nat := 0x49100F + 256 * n
/-- 0x4910+k:10 PTP.k.MEAN_DELAY_NS. -/
def ptpMeanDelayNs (n : Nat) : Nat := 0x491010 + 256 * n
/-- 0x4910+k:11 PTP.k.GM_ID. -/
def ptpGmId (n : Nat) : Nat := 0x491011 + 256 * n
/-- 0x4910+k:12 PTP.k.RX_PORT. -/
def ptpRxPort (n : Nat) : Nat := 0x491012 + 256 * n
/-- 0x4920:00 TIME.COUNT. -/
def timeCount : Nat := 0x492000
/-- 0x4920:01 TIME.UTC_OFFSET. -/
def timeUtcOffset : Nat := 0x492001
/-- 0x4920:02 TIME.LEAP. -/
def timeLeap : Nat := 0x492002
/-- 0x4920:03 TIME.UTC_VALID. -/
def timeUtcValid : Nat := 0x492003
/-- 0x4920:04 TIME.OSC. -/
def timeOsc : Nat := 0x492004
/-- 0x4920:05 TIME.OSC_SWITCHES. -/
def timeOscSwitches : Nat := 0x492005
/-- 0x4920:06 TIME.CW_TIME_ERR. -/
def timeCwTimeErr : Nat := 0x492006
/-- 0x4920:07 TIME.RTC. -/
def timeRtc : Nat := 0x492007
/-- 0x4920:08 TIME.RTC_VALID. -/
def timeRtcValid : Nat := 0x492008
/-- 0x4C01+16c:00 CANBT.c.COUNT. -/
def canbtCount (n : Nat) : Nat := 0x4C0100 + 4096 * n
/-- 0x4C01+16c:01 CANBT.c.N_BRP. -/
def canbtNBrp (n : Nat) : Nat := 0x4C0101 + 4096 * n
/-- 0x4C01+16c:02 CANBT.c.N_TSEG1. -/
def canbtNTseg1 (n : Nat) : Nat := 0x4C0102 + 4096 * n
/-- 0x4C01+16c:03 CANBT.c.N_TSEG2. -/
def canbtNTseg2 (n : Nat) : Nat := 0x4C0103 + 4096 * n
/-- 0x4C01+16c:04 CANBT.c.N_SJW. -/
def canbtNSjw (n : Nat) : Nat := 0x4C0104 + 4096 * n
/-- 0x4C01+16c:05 CANBT.c.TRIPLE. -/
def canbtTriple (n : Nat) : Nat := 0x4C0105 + 4096 * n
/-- 0x4C01+16c:06 CANBT.c.FD_ENABLE. -/
def canbtFdEnable (n : Nat) : Nat := 0x4C0106 + 4096 * n
/-- 0x4C01+16c:07 CANBT.c.D_BRP. -/
def canbtDBrp (n : Nat) : Nat := 0x4C0107 + 4096 * n
/-- 0x4C01+16c:08 CANBT.c.D_TSEG1. -/
def canbtDTseg1 (n : Nat) : Nat := 0x4C0108 + 4096 * n
/-- 0x4C01+16c:09 CANBT.c.D_TSEG2. -/
def canbtDTseg2 (n : Nat) : Nat := 0x4C0109 + 4096 * n
/-- 0x4C01+16c:0A CANBT.c.D_SJW. -/
def canbtDSjw (n : Nat) : Nat := 0x4C010A + 4096 * n
/-- 0x4C01+16c:0B CANBT.c.TDC. -/
def canbtTdc (n : Nat) : Nat := 0x4C010B + 4096 * n
/-- 0x4C00+16c:00 CAN.c.COUNT. -/
def canCount (n : Nat) : Nat := 0x4C0000 + 4096 * n
/-- 0x4C00+16c:01 CAN.c.ENABLE. -/
def canEnable (n : Nat) : Nat := 0x4C0001 + 4096 * n
/-- 0x4C00+16c:02 CAN.c.ORDER. -/
def canOrder (n : Nat) : Nat := 0x4C0002 + 4096 * n
/-- 0x4C00+16c:03 CAN.c.STANDBY_MODE. -/
def canStandbyMode (n : Nat) : Nat := 0x4C0003 + 4096 * n
/-- 0x4C00+16c:04 CAN.c.AUTO_RECOVER. -/
def canAutoRecover (n : Nat) : Nat := 0x4C0004 + 4096 * n
/-- 0x4C00+16c:05 CAN.c.RECOVER. -/
def canRecover (n : Nat) : Nat := 0x4C0005 + 4096 * n
/-- 0x4C00+16c:06 CAN.c.NODE_ID. -/
def canNodeId (n : Nat) : Nat := 0x4C0006 + 4096 * n
/-- 0x4C00+16c:07 CAN.c.NMT_AUTO. -/
def canNmtAuto (n : Nat) : Nat := 0x4C0007 + 4096 * n
/-- 0x4C00+16c:08 CAN.c.PDO_FD. -/
def canPdoFd (n : Nat) : Nat := 0x4C0008 + 4096 * n
/-- 0x4C00+16c:09 CAN.c.STATUS_POINT. -/
def canStatusPoint (n : Nat) : Nat := 0x4C0009 + 4096 * n
/-- 0x4C00+16c:0A CAN.c.STATUS_OWNER. -/
def canStatusOwner (n : Nat) : Nat := 0x4C000A + 4096 * n
/-- 0x4C00+16c:0B CAN.c.STATE. -/
def canState (n : Nat) : Nat := 0x4C000B + 4096 * n
/-- 0x4C00+16c:0C CAN.c.RESTRICTED. -/
def canRestricted (n : Nat) : Nat := 0x4C000C + 4096 * n
/-- 0x4C00+16c:0D CAN.c.TEC. -/
def canTec (n : Nat) : Nat := 0x4C000D + 4096 * n
/-- 0x4C00+16c:0E CAN.c.REC. -/
def canRec (n : Nat) : Nat := 0x4C000E + 4096 * n
/-- 0x4C00+16c:0F CAN.c.NMT_STATE. -/
def canNmtState (n : Nat) : Nat := 0x4C000F + 4096 * n
/-- 0x4C00+16c:10 CAN.c.STUCK_RETRY. -/
def canStuckRetry (n : Nat) : Nat := 0x4C0010 + 4096 * n
/-- 0x4C00+16c:11 CAN.c.LAST_ERROR. -/
def canLastError (n : Nat) : Nat := 0x4C0011 + 4096 * n
/-- 0x4C02+16c:00 CANOBJ.c.COUNT. -/
def canobjCount (n : Nat) : Nat := 0x4C0200 + 4096 * n
/-- 0x4C02+16c:01–08 CANOBJ.c.TABLE. -/
def canobjTable (n : Nat) (j : Nat) : Nat := 0x4C0201 + 4096 * n + j
/-- 0x4C03+16c:00 CANQ.c.COUNT. -/
def canqCount (n : Nat) : Nat := 0x4C0300 + 4096 * n
/-- 0x4C03+16c:01–10 CANQ.c.RING. -/
def canqRing (n : Nat) (j : Nat) : Nat := 0x4C0301 + 4096 * n + j
/-- 0x4C03+16c:11–20 CANQ.c.IDFILTER. -/
def canqIdfilter (n : Nat) (j : Nat) : Nat := 0x4C0311 + 4096 * n + j
/-- 0x4C04+16c:00 CANRPDO.c.COUNT. -/
def canrpdoCount (n : Nat) : Nat := 0x4C0400 + 4096 * n
/-- 0x4C04+16c:01–40 CANRPDO.c.AREA. -/
def canrpdoArea (n : Nat) (j : Nat) : Nat := 0x4C0401 + 4096 * n + j
/-- 0x4C05+16c:00 CANTPDO.c.COUNT. -/
def cantpdoCount (n : Nat) : Nat := 0x4C0500 + 4096 * n
/-- 0x4C05+16c:01–40 CANTPDO.c.AREA. -/
def cantpdoArea (n : Nat) (j : Nat) : Nat := 0x4C0501 + 4096 * n + j
/-- 0x4C06+16c:00 CANSTAT.c.COUNT. -/
def canstatCount (n : Nat) : Nat := 0x4C0600 + 4096 * n
/-- 0x4C06+16c:01 CANSTAT.c.RX_FRAMES. -/
def canstatRxFrames (n : Nat) : Nat := 0x4C0601 + 4096 * n
/-- 0x4C06+16c:02 CANSTAT.c.TX_FRAMES. -/
def canstatTxFrames (n : Nat) : Nat := 0x4C0602 + 4096 * n
/-- 0x4C06+16c:03 CANSTAT.c.UNMATCHED. -/
def canstatUnmatched (n : Nat) : Nat := 0x4C0603 + 4096 * n
/-- 0x4C06+16c:04 CANSTAT.c.LOST. -/
def canstatLost (n : Nat) : Nat := 0x4C0604 + 4096 * n
/-- 0x4C06+16c:05 CANSTAT.c.ERROR_FRAMES. -/
def canstatErrorFrames (n : Nat) : Nat := 0x4C0605 + 4096 * n
/-- 0x4C06+16c:06 CANSTAT.c.BUS_OFF. -/
def canstatBusOff (n : Nat) : Nat := 0x4C0606 + 4096 * n
/-- 0x4C06+16c:07 CANSTAT.c.STUCK. -/
def canstatStuck (n : Nat) : Nat := 0x4C0607 + 4096 * n
/-- 0x4C06+16c:08 CANSTAT.c.CANCELS. -/
def canstatCancels (n : Nat) : Nat := 0x4C0608 + 4096 * n
/-- 0x4C06+16c:09 CANSTAT.c.CANCEL_REFUSED. -/
def canstatCancelRefused (n : Nat) : Nat := 0x4C0609 + 4096 * n
/-- 0x4C06+16c:0A CANSTAT.c.RPDO_ERRORS. -/
def canstatRpdoErrors (n : Nat) : Nat := 0x4C060A + 4096 * n
/-- 0x4C06+16c:0B CANSTAT.c.ARB_LOST. -/
def canstatArbLost (n : Nat) : Nat := 0x4C060B + 4096 * n
/-- 0x4C0F+16c:00 CAN.c.PDO_IMAGE. -/
def canPdoImage (n : Nat) : Nat := 0x4C0F00 + 4096 * n
/-- 0x5000:00 STOR.COUNT. -/
def storCount : Nat := 0x500000
/-- 0x5000:01 STOR.STATE. -/
def storState : Nat := 0x500001
/-- 0x5000:02 STOR.RAW_BYTES. -/
def storRawBytes : Nat := 0x500002
/-- 0x5000:03 STOR.USER_BYTES. -/
def storUserBytes : Nat := 0x500003
/-- 0x5000:04 STOR.DIES_GOOD. -/
def storDiesGood : Nat := 0x500004
/-- 0x5000:05 STOR.SPARE_INITIAL. -/
def storSpareInitial : Nat := 0x500005
/-- 0x5000:06 STOR.SPARE_LEFT. -/
def storSpareLeft : Nat := 0x500006
/-- 0x5000:07 STOR.MARGIN. -/
def storMargin : Nat := 0x500007
/-- 0x5000:08 STOR.SCRUB_INTERVAL. -/
def storScrubInterval : Nat := 0x500008
/-- 0x5000:09 STOR.SCRUB_PROGRESS. -/
def storScrubProgress : Nat := 0x500009
/-- 0x5000:0A STOR.SCRUB_LAST. -/
def storScrubLast : Nat := 0x50000A
/-- 0x5000:0B STOR.RETENTION_AGE. -/
def storRetentionAge : Nat := 0x50000B
/-- 0x5000:0C STOR.READ_DISTURB_LIMIT. -/
def storReadDisturbLimit : Nat := 0x50000C
/-- 0x5000:0D STOR.REBUILD_RATE. -/
def storRebuildRate : Nat := 0x50000D
/-- 0x5000:0E STOR.REBUILD_PROGRESS. -/
def storRebuildProgress : Nat := 0x50000E
/-- 0x5000:0F STOR.PFAIL_STATE. -/
def storPfailState : Nat := 0x50000F
/-- 0x5000:10 STOR.PFAIL_FLUSHES. -/
def storPfailFlushes : Nat := 0x500010
/-- 0x5000:11 STOR.PFAIL_LAST. -/
def storPfailLast : Nat := 0x500011
/-- 0x5000:12 STOR.JOURNAL_LIMIT. -/
def storJournalLimit : Nat := 0x500012
/-- 0x5000:13 STOR.JOURNAL_USED. -/
def storJournalUsed : Nat := 0x500013
/-- 0x5000:14 STOR.RECOVERED. -/
def storRecovered : Nat := 0x500014
/-- 0x5000:15 STOR.RECONSTRUCTED. -/
def storReconstructed : Nat := 0x500015
/-- 0x5000:16 STOR.UNRECOVERABLE. -/
def storUnrecoverable : Nat := 0x500016
/-- 0x5000:17 STOR.CRC_ERRORS. -/
def storCrcErrors : Nat := 0x500017
/-- 0x5000:18 STOR.BLOCKS_RETIRED. -/
def storBlocksRetired : Nat := 0x500018
/-- 0x5000:19 STOR.SUSPECT_BLOCKS. -/
def storSuspectBlocks : Nat := 0x500019
/-- 0x5001+ch:00 NCH.ch.COUNT. -/
def nchCount (n : Nat) : Nat := 0x500100 + 256 * n
/-- 0x5001+ch:01 NCH.ch.ENABLE. -/
def nchEnable (n : Nat) : Nat := 0x500101 + 256 * n
/-- 0x5001+ch:02 NCH.ch.RATE. -/
def nchRate (n : Nat) : Nat := 0x500102 + 256 * n
/-- 0x5001+ch:03 NCH.ch.STATE. -/
def nchState (n : Nat) : Nat := 0x500103 + 256 * n
/-- 0x5001+ch:04 NCH.ch.CE_PRESENT. -/
def nchCePresent (n : Nat) : Nat := 0x500104 + 256 * n
/-- 0x5001+ch:05 NCH.ch.INTERFACE. -/
def nchInterface (n : Nat) : Nat := 0x500105 + 256 * n
/-- 0x5001+ch:06 NCH.ch.ERRORS. -/
def nchErrors (n : Nat) : Nat := 0x500106 + 256 * n
/-- 0x5010+d:00 DIE.d.COUNT. -/
def dieCount (n : Nat) : Nat := 0x501000 + 256 * n
/-- 0x5010+d:01 DIE.d.STATE. -/
def dieState (n : Nat) : Nat := 0x501001 + 256 * n
/-- 0x5010+d:02 DIE.d.MODEL. -/
def dieModel (n : Nat) : Nat := 0x501002 + 256 * n
/-- 0x5010+d:03 DIE.d.PAGE_BYTES. -/
def diePageBytes (n : Nat) : Nat := 0x501003 + 256 * n
/-- 0x5010+d:04 DIE.d.BLOCKS. -/
def dieBlocks (n : Nat) : Nat := 0x501004 + 256 * n
/-- 0x5010+d:05 DIE.d.PE_LIMIT. -/
def diePeLimit (n : Nat) : Nat := 0x501005 + 256 * n
/-- 0x5010+d:06 DIE.d.PE_MEAN. -/
def diePeMean (n : Nat) : Nat := 0x501006 + 256 * n
/-- 0x5010+d:07 DIE.d.PE_MAX. -/
def diePeMax (n : Nat) : Nat := 0x501007 + 256 * n
/-- 0x5010+d:08 DIE.d.BAD_BLOCKS. -/
def dieBadBlocks (n : Nat) : Nat := 0x501008 + 256 * n
/-- 0x5010+d:09 DIE.d.RETRIES. -/
def dieRetries (n : Nat) : Nat := 0x501009 + 256 * n
/-- 0x5100+k:00 PART.k.COUNT. -/
def partCount (n : Nat) : Nat := 0x510000 + 256 * n
/-- 0x5100+k:01 PART.k.SIZE. -/
def partSize (n : Nat) : Nat := 0x510001 + 256 * n
/-- 0x5100+k:02 PART.k.USED. -/
def partUsed (n : Nat) : Nat := 0x510002 + 256 * n
/-- 0x5100+k:03 PART.k.STATE. -/
def partState (n : Nat) : Nat := 0x510003 + 256 * n
/-- 0x5100+k:04 PART.k.WRITTEN. -/
def partWritten (n : Nat) : Nat := 0x510004 + 256 * n
/-- 0x5100+k:05 PART.k.STORE_MIRROR. -/
def partStoreMirror (n : Nat) : Nat := 0x510005 + 256 * n
/-- 0x5120:00 STORJ.COUNT. -/
def storjCount : Nat := 0x512000
/-- 0x5120:01 STORJ.OPEN. -/
def storjOpen : Nat := 0x512001
/-- 0x5120:02 STORJ.LAST_RECOVERY. -/
def storjLastRecovery : Nat := 0x512002
/-- 0x2050:01 RECQ.QUERY. -/
def recqQuery : Nat := 0x205001
/-- 0x2050:02 RECQ.RESULT. -/
def recqResult : Nat := 0x205002
/-- 0x2051:01 HISTQ.QUERY. -/
def histqQuery : Nat := 0x205101
/-- 0x2051:02 HISTQ.RESULT. -/
def histqResult : Nat := 0x205102
/-- 0x2052:01 REC.FREEZE. -/
def recFreeze : Nat := 0x205201
/-- 0x2052:02 REC.FROZEN. -/
def recFrozen : Nat := 0x205202
/-- 0x2053:01 REC.CLEAR_NONCE. -/
def recClearNonce : Nat := 0x205301
/-- 0x2053:02 REC.CLEAR_TOKEN. -/
def recClearToken : Nat := 0x205302
/-- 0x2053:03 REC.CLEAR_KEYSWITCH. -/
def recClearKeyswitch : Nat := 0x205303
/-- 0x2053:04 REC.CLEAR_LOG. -/
def recClearLog : Nat := 0x205304
/-- 0x5400:00 REC.COUNT. -/
def recCount : Nat := 0x540000
/-- 0x5400:01 REC.RING_BYTES. -/
def recRingBytes : Nat := 0x540001
/-- 0x5400:02 REC.HEAD. -/
def recHead : Nat := 0x540002
/-- 0x5400:03 REC.TAIL. -/
def recTail : Nat := 0x540003
/-- 0x5400:04 REC.SEQ_FIRST. -/
def recSeqFirst : Nat := 0x540004
/-- 0x5400:05 REC.SEQ_NEXT. -/
def recSeqNext : Nat := 0x540005
/-- 0x5400:06 REC.ARCHIVED. -/
def recArchived : Nat := 0x540006
/-- 0x5400:07 REC.ARCHIVE_FIRST. -/
def recArchiveFirst : Nat := 0x540007
/-- 0x5400:08 REC.ARCHIVE_LOST. -/
def recArchiveLost : Nat := 0x540008
/-- 0x5400:09 REC.SIDE_USED. -/
def recSideUsed : Nat := 0x540009
/-- 0x5400:0A REC.GAPS. -/
def recGaps : Nat := 0x54000A
/-- 0x5400:0B REC.CLEARS. -/
def recClears : Nat := 0x54000B
/-- 0x5400:0C REC.KEYSWITCH. -/
def recKeyswitch : Nat := 0x54000C
/-- 0x5400:0D REC.CLEAR_REFUSED. -/
def recClearRefused : Nat := 0x54000D
/-- 0x5500:00 HIST.COUNT. -/
def histCount : Nat := 0x550000
/-- 0x5500:01 HIST.ENABLE. -/
def histEnable : Nat := 0x550001
/-- 0x5500:02 HIST.LOAD. -/
def histLoad : Nat := 0x550002
/-- 0x5500:03 HIST.SAMPLES. -/
def histSamples : Nat := 0x550003
/-- 0x5500:04 HIST.POINTS. -/
def histPoints : Nat := 0x550004
/-- 0x5500:05 HIST.OVERFLOWS. -/
def histOverflows : Nat := 0x550005
/-- 0x5500:06 HIST.BUFFER_USED. -/
def histBufferUsed : Nat := 0x550006
/-- 0x5500:07 HIST.TAGS. -/
def histTags : Nat := 0x550007
/-- 0x5510+g:01–40 HIST.TAG_TABLE. -/
def histTagTable (n : Nat) (j : Nat) : Nat := 0x551001 + 256 * n + j
/-- 0x5580+u:00 TOT.u.COUNT. -/
def totCount (n : Nat) : Nat := 0x558000 + 256 * n
/-- 0x5580+u:01 TOT.u.TAG. -/
def totTag (n : Nat) : Nat := 0x558001 + 256 * n
/-- 0x5580+u:02 TOT.u.KIND. -/
def totKind (n : Nat) : Nat := 0x558002 + 256 * n
/-- 0x5580+u:03 TOT.u.SCALE. -/
def totScale (n : Nat) : Nat := 0x558003 + 256 * n
/-- 0x5580+u:04 TOT.u.PERIOD. -/
def totPeriod (n : Nat) : Nat := 0x558004 + 256 * n
/-- 0x5580+u:05 TOT.u.ALIGN. -/
def totAlign (n : Nat) : Nat := 0x558005 + 256 * n
/-- 0x5580+u:06 TOT.u.TOTAL. -/
def totTotal (n : Nat) : Nat := 0x558006 + 256 * n
/-- 0x5580+u:07 TOT.u.PERIOD_ACC. -/
def totPeriodAcc (n : Nat) : Nat := 0x558007 + 256 * n
/-- 0x5580+u:08 TOT.u.PERIOD_START. -/
def totPeriodStart (n : Nat) : Nat := 0x558008 + 256 * n
/-- 0x5580+u:09 TOT.u.ERA. -/
def totEra (n : Nat) : Nat := 0x558009 + 256 * n
/-- 0x5580+u:0A TOT.u.LAST_CLOSE. -/
def totLastClose (n : Nat) : Nat := 0x55800A + 256 * n
/-- 0x5580+u:0B TOT.u.CLOSES. -/
def totCloses (n : Nat) : Nat := 0x55800B + 256 * n
/-- 0x2000:00 GH.COUNT. -/
def ghCount : Nat := 0x200000
/-- 0x2000:01 GH.PART. -/
def ghPart : Nat := 0x200001
/-- 0x2000:02 GH.GRADE. -/
def ghGrade : Nat := 0x200002
/-- 0x2000:03 GH.SERIAL. -/
def ghSerial : Nat := 0x200003
/-- 0x2000:04 GH.FW_VERSION. -/
def ghFwVersion : Nat := 0x200004
/-- 0x2000:05 GH.UPTIME. -/
def ghUptime : Nat := 0x200005
/-- 0x2000:06 GH.SRAM_CORRECTED. -/
def ghSramCorrected : Nat := 0x200006
/-- 0x2001:00 MODE.COUNT. -/
def modeCount : Nat := 0x200100
/-- 0x2001:01 MODE.NOW. -/
def modeNow : Nat := 0x200101
/-- 0x2001:02 MODE.SINCE. -/
def modeSince : Nat := 0x200102
/-- 0x2001:03 MODE.LAST_RESET. -/
def modeLastReset : Nat := 0x200103
/-- 0x2001:04 MODE.RESETS. -/
def modeResets : Nat := 0x200104
/-- 0x2001:05 MODE.HALT_CAUSE. -/
def modeHaltCause : Nat := 0x200105
/-- 0x2001:06 MODE.PREVIOUS. -/
def modePrevious : Nat := 0x200106
/-- 0x2002:00 MODECMD.COUNT. -/
def modecmdCount : Nat := 0x200200
/-- 0x2002:01 MODECMD.SERVICE. -/
def modecmdService : Nat := 0x200201
/-- 0x2002:02 MODECMD.SERVICE_LIMIT. -/
def modecmdServiceLimit : Nat := 0x200202
/-- 0x2002:03 MODECMD.DORMANT. -/
def modecmdDormant : Nat := 0x200203
/-- 0x2002:04 MODECMD.RESET. -/
def modecmdReset : Nat := 0x200204
/-- 0x2003:00 WDT.COUNT. -/
def wdtCount : Nat := 0x200300
/-- 0x2003:01 WDT.STATE. -/
def wdtState : Nat := 0x200301
/-- 0x2003:02 WDT.OPEN. -/
def wdtOpen : Nat := 0x200302
/-- 0x2003:03 WDT.TIMEOUT. -/
def wdtTimeout : Nat := 0x200303
/-- 0x2003:04 WDT.SERVICE. -/
def wdtService : Nat := 0x200304
/-- 0x2003:05 WDT.KEY. -/
def wdtKey : Nat := 0x200305
/-- 0x2003:06 WDT.LOCK. -/
def wdtLock : Nat := 0x200306
/-- 0x2003:07 WDT.LOCK_AT_BOOT. -/
def wdtLockAtBoot : Nat := 0x200307
/-- 0x2003:08 WDT.ENABLE. -/
def wdtEnable : Nat := 0x200308
/-- 0x2003:09 WDT.EXPIRIES. -/
def wdtExpiries : Nat := 0x200309
/-- 0x2003:0A WDT.MARGIN_MIN. -/
def wdtMarginMin : Nat := 0x20030A
/-- 0x2004:00 TEMP.COUNT. -/
def tempCount : Nat := 0x200400
/-- 0x2004:01–20 TEMP.VALUE. -/
def tempValue (j : Nat) : Nat := 0x200401 + j
/-- 0x2004:21 TEMP.WARN. -/
def tempWarn : Nat := 0x200421
/-- 0x2004:22 TEMP.CRIT. -/
def tempCrit : Nat := 0x200422
/-- 0x2004:23 TEMP.WARN_MAP. -/
def tempWarnMap : Nat := 0x200423
/-- 0x2004:24 TEMP.CRIT_MAP. -/
def tempCritMap : Nat := 0x200424
/-- 0x2004:25 TEMP.PLATE_MAX. -/
def tempPlateMax : Nat := 0x200425
/-- 0x2005:00 RAIL.COUNT. -/
def railCount : Nat := 0x200500
/-- 0x2005:01–12 RAIL.MV. -/
def railMv (j : Nat) : Nat := 0x200501 + j
/-- 0x2005:13 RAIL.WARN_MAP. -/
def railWarnMap : Nat := 0x200513
/-- 0x2005:14 RAIL.FAULT_MAP. -/
def railFaultMap : Nat := 0x200514
/-- 0x2006:00 VIB.COUNT. -/
def vibCount : Nat := 0x200600
/-- 0x2006:01 VIB.RMS. -/
def vibRms : Nat := 0x200601
/-- 0x2006:02 VIB.HISTOGRAM. -/
def vibHistogram : Nat := 0x200602
/-- 0x2006:03 VIB.SHOCK_LEVEL. -/
def vibShockLevel : Nat := 0x200603
/-- 0x2006:04 VIB.SHOCK_LOG. -/
def vibShockLog : Nat := 0x200604
/-- 0x2006:05 VIB.SHOCKS. -/
def vibShocks : Nat := 0x200605
/-- 0x2006:06 VIB.PEAK. -/
def vibPeak : Nat := 0x200606
/-- 0x2006:07 VIB.ALERT. -/
def vibAlert : Nat := 0x200607
/-- 0x2007:00 ENV.COUNT. -/
def envCount : Nat := 0x200700
/-- 0x2007:01 ENV.RH. -/
def envRh : Nat := 0x200701
/-- 0x2007:02 ENV.RH_WARN. -/
def envRhWarn : Nat := 0x200702
/-- 0x2007:03 ENV.LID_LIGHT. -/
def envLidLight : Nat := 0x200703
/-- 0x2008:00 CONT.COUNT. -/
def contCount : Nat := 0x200800
/-- 0x2008:01–10 CONT.MOHM. -/
def contMohm (j : Nat) : Nat := 0x200801 + j
/-- 0x2008:11–20 CONT.BASELINE. -/
def contBaseline (j : Nat) : Nat := 0x200811 + j
/-- 0x2008:21 CONT.WARN. -/
def contWarn : Nat := 0x200821
/-- 0x2008:22 CONT.CRIT. -/
def contCrit : Nat := 0x200822
/-- 0x2008:23 CONT.REBASE. -/
def contRebase : Nat := 0x200823
/-- 0x2008:24 CONT.STATE. -/
def contState : Nat := 0x200824
/-- 0x2009:00 WEAR.COUNT. -/
def wearCount : Nat := 0x200900
/-- 0x2009:01 WEAR.HOURS. -/
def wearHours : Nat := 0x200901
/-- 0x2009:02 WEAR.POWER_UPS. -/
def wearPowerUps : Nat := 0x200902
/-- 0x2009:03 WEAR.MATINGS. -/
def wearMatings : Nat := 0x200903
/-- 0x2009:04 WEAR.PLATE_HOURS. -/
def wearPlateHours : Nat := 0x200904
/-- 0x2009:05 WEAR.LANES_RETIRED. -/
def wearLanesRetired : Nat := 0x200905
/-- 0x2009:06 WEAR.SPARES. -/
def wearSpares : Nat := 0x200906
/-- 0x2009:07 WEAR.STORAGE_MARGIN. -/
def wearStorageMargin : Nat := 0x200907
/-- 0x2009:08 WEAR.WDT_EXPIRIES. -/
def wearWdtExpiries : Nat := 0x200908
/-- 0x200A:00 SVCETH.COUNT. -/
def svcethCount : Nat := 0x200A00
/-- 0x200A:01 SVCETH.ENABLE. -/
def svcethEnable : Nat := 0x200A01
/-- 0x200A:02 SVCETH.LINK. -/
def svcethLink : Nat := 0x200A02
/-- 0x200A:03 SVCETH.MAC. -/
def svcethMac : Nat := 0x200A03
/-- 0x200A:04 SVCETH.IPV6. -/
def svcethIpv6 : Nat := 0x200A04
/-- 0x200A:05 SVCETH.IPV4. -/
def svcethIpv4 : Nat := 0x200A05
/-- 0x200A:06 SVCETH.DISCARDS. -/
def svcethDiscards : Nat := 0x200A06
/-- 0x200A:07 SVCETH.FRAMES. -/
def svcethFrames : Nat := 0x200A07
/-- 0x200B:00 OPT.COUNT. -/
def optCount : Nat := 0x200B00
/-- 0x200B:01 OPT.ENABLE. -/
def optEnable : Nat := 0x200B01
/-- 0x200B:02 OPT.STATE. -/
def optState : Nat := 0x200B02
/-- 0x200B:03 OPT.AMBIENT. -/
def optAmbient : Nat := 0x200B03
/-- 0x200B:04 OPT.FRAMES_OK. -/
def optFramesOk : Nat := 0x200B04
/-- 0x200B:05 OPT.DISCARDED. -/
def optDiscarded : Nat := 0x200B05
/-- 0x200B:06 OPT.FLOOD_MS. -/
def optFloodMs : Nat := 0x200B06
/-- 0x200B:07 OPT.IDLE. -/
def optIdle : Nat := 0x200B07
/-- 0x2100:00 PWR.COUNT. -/
def pwrCount : Nat := 0x210000
/-- 0x2100:01 PWR.VLOGIC_MV. -/
def pwrVlogicMv : Nat := 0x210001
/-- 0x2100:02 PWR.VLOGIC_STATE. -/
def pwrVlogicState : Nat := 0x210002
/-- 0x2100:03 PWR.PFAIL. -/
def pwrPfail : Nat := 0x210003
/-- 0x2100:04 PWR.SEATED. -/
def pwrSeated : Nat := 0x210004
/-- 0x2100:05 PWR.LOGIC_MW. -/
def pwrLogicMw : Nat := 0x210005
/-- 0x2100:06 PWR.LOGIC_MW_MAX. -/
def pwrLogicMwMax : Nat := 0x210006
/-- 0x2100:07 PWR.PFAIL_COUNT. -/
def pwrPfailCount : Nat := 0x210007
/-- 0x2100:08 PWR.INTERNAL_PFAIL. -/
def pwrInternalPfail : Nat := 0x210008
/-- 0x2100:09 PWR.SEATED_OPENS. -/
def pwrSeatedOpens : Nat := 0x210009
/-- 0x2101:00 DROOP.COUNT. -/
def droopCount : Nat := 0x210100
/-- 0x2101:01 DROOP.THROTTLES. -/
def droopThrottles : Nat := 0x210101
/-- 0x2101:02 DROOP.THROTTLE_NS. -/
def droopThrottleNs : Nat := 0x210102
/-- 0x2101:03 DROOP.STRETCHES. -/
def droopStretches : Nat := 0x210103
/-- 0x2101:04 DROOP.STRETCH_NS. -/
def droopStretchNs : Nat := 0x210104
/-- 0x2101:05 DROOP.PERIOD_MAX. -/
def droopPeriodMax : Nat := 0x210105
/-- 0x2101:06 DROOP.DEFERRED. -/
def droopDeferred : Nat := 0x210106
/-- 0x2101:07 DROOP.BUDGET_HITS. -/
def droopBudgetHits : Nat := 0x210107
/-- 0x2101:08 DROOP.CRITICAL. -/
def droopCritical : Nat := 0x210108
/-- 0x2101:09 DROOP.LAST. -/
def droopLast : Nat := 0x210109
/-- 0x2102:00 CLK.COUNT. -/
def clkCount : Nat := 0x210200
/-- 0x2102:01–1C CLK.STATE. -/
def clkState (j : Nat) : Nat := 0x210201 + j
/-- 0x2102:1D CLK.RELOCKS. -/
def clkRelocks : Nat := 0x21021D
/-- 0x2103:00 WAKE.COUNT. -/
def wakeCount : Nat := 0x210300
/-- 0x2103:01 WAKE.SOURCES. -/
def wakeSources : Nat := 0x210301
/-- 0x2103:02 WAKE.ALARM. -/
def wakeAlarm : Nat := 0x210302
/-- 0x2103:03 WAKE.NET_PORTS. -/
def wakeNetPorts : Nat := 0x210303
/-- 0x2103:04 WAKE.CAN_MASK. -/
def wakeCanMask : Nat := 0x210304
/-- 0x2103:05 WAKE.LAST_CAUSE. -/
def wakeLastCause : Nat := 0x210305
/-- 0x2103:06 WAKE.LAST_ARG. -/
def wakeLastArg : Nat := 0x210306
/-- 0x2103:07 WAKE.WAKES. -/
def wakeWakes : Nat := 0x210307
/-- 0x2104:00 VBAT.COUNT. -/
def vbatCount : Nat := 0x210400
/-- 0x2104:01 VBAT.MV. -/
def vbatMv : Nat := 0x210401
/-- 0x2104:02 VBAT.STATE. -/
def vbatState : Nat := 0x210402
/-- 0x2104:03 VBAT.LAST. -/
def vbatLast : Nat := 0x210403
/-- 0x2104:04 VBAT.ICEHOUSE_HOURS. -/
def vbatIcehouseHours : Nat := 0x210404
/-- 0x2105:00 STARTUP.COUNT. -/
def startupCount : Nat := 0x210500
/-- 0x2105:01–0C STARTUP.MILESTONE. -/
def startupMilestone (j : Nat) : Nat := 0x210501 + j
/-- 0x2105:0D STARTUP.LATE. -/
def startupLate : Nat := 0x21050D
/-- 0x2200:00 LC.COUNT. -/
def lcCount : Nat := 0x220000
/-- 0x2200:01 LC.STATE. -/
def lcState : Nat := 0x220001
/-- 0x2200:02 LC.CLAIMS. -/
def lcClaims : Nat := 0x220002
/-- 0x2200:03 LC.VOUCHER. -/
def lcVoucher : Nat := 0x220003
/-- 0x2200:04 LC.CLAIM_RESULT. -/
def lcClaimResult : Nat := 0x220004
/-- 0x2200:05 LC.TOKEN. -/
def lcToken : Nat := 0x220005
/-- 0x2200:06 LC.NONCE. -/
def lcNonce : Nat := 0x220006
/-- 0x2200:07 LC.DEVICE_CERT. -/
def lcDeviceCert : Nat := 0x220007
/-- 0x2202:00 KEYS.COUNT. -/
def keysCount : Nat := 0x220200
/-- 0x2202:01 KEYS.STORE_STATE. -/
def keysStoreState : Nat := 0x220201
/-- 0x2202:02 KEYS.GENERATION. -/
def keysGeneration : Nat := 0x220202
/-- 0x2202:03 KEYS.OWNER_ECDH_PUB. -/
def keysOwnerEcdhPub : Nat := 0x220203
/-- 0x2202:04 KEYS.SERVICE_PUB. -/
def keysServicePub : Nat := 0x220204
/-- 0x2202:05 KEYS.OWNER_ROOT_PUB. -/
def keysOwnerRootPub : Nat := 0x220205
/-- 0x2203:00 CERT.COUNT. -/
def certCount : Nat := 0x220300
/-- 0x2203:01 CERT.CRL. -/
def certCrl : Nat := 0x220301
/-- 0x2203:02 CERT.CRL_COUNT. -/
def certCrlCount : Nat := 0x220302
/-- 0x2204:00 ALARM.COUNT. -/
def alarmCount : Nat := 0x220400
/-- 0x2204:01 ALARM.PRESENT. -/
def alarmPresent : Nat := 0x220401
/-- 0x2204:02 ALARM.RESPONSE. -/
def alarmResponse : Nat := 0x220402
/-- 0x2204:03 ALARM.AUTH_LIMIT. -/
def alarmAuthLimit : Nat := 0x220403
/-- 0x2204:04 ALARM.AUTH_WINDOW. -/
def alarmAuthWindow : Nat := 0x220404
/-- 0x2204:05 ALARM.LOG. -/
def alarmLog : Nat := 0x220405
/-- 0x2204:06 ALARM.ACK. -/
def alarmAck : Nat := 0x220406
/-- 0x2204:07 ALARM.UNACKED. -/
def alarmUnacked : Nat := 0x220407
/-- 0x2204:08 ALARM.TOTAL. -/
def alarmTotal : Nat := 0x220408
/-- 0x2204:09 ALARM.LID_THRESHOLD. -/
def alarmLidThreshold : Nat := 0x220409
/-- 0x2205:00 ICE.COUNT. -/
def iceCount : Nat := 0x220500
/-- 0x2205:01 ICE.MESH. -/
def iceMesh : Nat := 0x220501
/-- 0x2205:02 ICE.TEMP. -/
def iceTemp : Nat := 0x220502
/-- 0x2205:03 ICE.ERASE_LATCH. -/
def iceEraseLatch : Nat := 0x220503
/-- 0x2205:04 ICE.POWER_LOST. -/
def icePowerLost : Nat := 0x220504
/-- 0x2206:00 RNG.COUNT. -/
def rngCount : Nat := 0x220600
/-- 0x2206:01 RNG.STATE. -/
def rngState : Nat := 0x220601
/-- 0x2206:02 RNG.HEALTH_FAILS. -/
def rngHealthFails : Nat := 0x220602
/-- 0x2206:03 RNG.RESEEDS. -/
def rngReseeds : Nat := 0x220603
/-- 0x2206:04 RNG.LAST_FAIL. -/
def rngLastFail : Nat := 0x220604
/-- 0x2207:00 DBG.COUNT. -/
def dbgCount : Nat := 0x220700
/-- 0x2207:01 DBG.NONCE. -/
def dbgNonce : Nat := 0x220701
/-- 0x2207:02 DBG.TOKEN. -/
def dbgToken : Nat := 0x220702
/-- 0x2207:03 DBG.STATE. -/
def dbgState : Nat := 0x220703
/-- 0x2207:04 DBG.SCOPE. -/
def dbgScope : Nat := 0x220704
/-- 0x2207:05 DBG.CLOSE. -/
def dbgClose : Nat := 0x220705
/-- 0x2208:00 BOOTSEC.COUNT. -/
def bootsecCount : Nat := 0x220800
/-- 0x2208:01–09 BOOTSEC.ROLLBACK. -/
def bootsecRollback (j : Nat) : Nat := 0x220801 + j
/-- 0x2208:0A BOOTSEC.VENDOR_REVOKED. -/
def bootsecVendorRevoked : Nat := 0x22080A
/-- 0x2208:0B BOOTSEC.LAST_VERIFY. -/
def bootsecLastVerify : Nat := 0x22080B
/-- 0x2300:00 UPD.COUNT. -/
def updCount : Nat := 0x230000
/-- 0x2300:01 UPD.STATE. -/
def updState : Nat := 0x230001
/-- 0x2300:02 UPD.MANIFEST. -/
def updManifest : Nat := 0x230002
/-- 0x2300:03 UPD.RESULT. -/
def updResult : Nat := 0x230003
/-- 0x2300:04 UPD.SOURCE. -/
def updSource : Nat := 0x230004
/-- 0x2300:05 UPD.START. -/
def updStart : Nat := 0x230005
/-- 0x2300:06 UPD.ACTIVATE. -/
def updActivate : Nat := 0x230006
/-- 0x2300:07 UPD.PROGRESS. -/
def updProgress : Nat := 0x230007
/-- 0x2300:08 UPD.TRIAL_LIMIT. -/
def updTrialLimit : Nat := 0x230008
/-- 0x2300:09 UPD.RUNNING_ID. -/
def updRunningId : Nat := 0x230009
/-- 0x2300:0A UPD.STAGED_ID. -/
def updStagedId : Nat := 0x23000A
/-- 0x2301:01–09 UPD.PART_STATE. -/
def updPartState (j : Nat) : Nat := 0x230101 + j
/-- 0x2302:01–09 UPD.PART_IMAGE. -/
def updPartImage (j : Nat) : Nat := 0x230201 + j
/-- 0x2303:01–09 UPD.PART_VERSION. -/
def updPartVersion (j : Nat) : Nat := 0x230301 + j
/-- 0x2304:00 UPD.PREPARED. -/
def updPrepared : Nat := 0x230400
/-- 0x2305:00 UPD.SCHEMA_DIFF. -/
def updSchemaDiff : Nat := 0x230500
/-- 0x2306:01–02 UPD.ACT_RECORD. -/
def updActRecord (j : Nat) : Nat := 0x230601 + j
/-- 0x2900+p: region r of Pavilion p, START at j = 2r and END at j = 2r + 1 (R183). -/
def regionWord (n : Nat) (j : Nat) : Nat := 0x290001 + 256 * n + j

/-- The configuration entry of event `n` (R10). -/
def evConfig (n : Nat) : Nat := 256 * (0x2400 + n / 128) + n % 128 + 1

end Sys2Proof.Machine.K
end

