-- ==== Sys2Proof/Machine/Parts1.lean ====
section
/-! DEFINITION. The pieces of State that spec/01 to spec/06 give the machine beside its dictionary: event router,
dictionary server, scan engine, lanes, Trestles, Pavilions and the fabric. -/

namespace Sys2Proof.Machine

/-- A 64-bit word of a lane (R108). -/
abbrev Word := BitVec 64

/-- R12, R352: one time base: its value in units of 2⁻¹⁶ ns, and the part of a unit its rate has gained. -/
structure TBase where
  val : Nat := 0
  acc : Int := 0
  /-- DECLARE was last written 1 (R354) -/
  declared : Bool := false
  deriving DecidableEq, Repr

/-- R31: the pending raises of one event number: occurrence count, payload of the latest raise, and the severity of
its case (R529) where the event's Defaults give one. -/
structure EvPend where
  count : Nat := 0
  payload : Bytes := []
  sev : Option Nat := none
  owner : Option Nat := none
  /-- TB4 time at which the event joined the queue (R32) -/
  at_ : Nat := 0
  deriving DecidableEq, Repr

/-- R36: one 64-byte entry of a Pavilion event channel. -/
structure ChanEntry where
  header : Bytes := []
  payload : Bytes := []
  seq : Nat := 0
  deriving DecidableEq, Repr

/-- R36: a Pavilion event channel, at most 63 entries, oldest first. -/
structure Channel where
  entries : List ChanEntry := []
  overflow : Bool := false
  deriving DecidableEq, Repr

/-- R31 to R33, R529: the event router. -/
structure Router where
  /-- pending raises by event number (R31) -/
  pend : Sparse EvPend := []
  /-- event numbers waiting to be taken, in order of arrival (R32) -/
  order : List Nat := []
  /-- records written in the present RATE_CAP window, by event (R33) -/
  window : Sparse Nat := []
  /-- occurrences carried to the next recorder record, by event (RATE_CAP) -/
  held : Sparse Nat := []
  /-- latched status bits (LATCH) -/
  latched : Sparse Bool := []
  /-- events whose SEVERITY a write has changed (R529) -/
  sevSet : Sparse Bool := []
  /-- Pavilion event channels (R36) -/
  chan : Sparse Channel := []
  /-- the second of TB4 the present RATE_CAP window began at (R33) -/
  winAt : Nat := 0
  /-- bit 0 or bit 7 of the error register was set when last looked at (R58) -/
  emcyUp : Bool := false
  deriving DecidableEq, Repr

/-- R60 to R62, R531: one DAP session. -/
structure Session where
  isOpen : Bool := false
  role : Role := .viewer
  safety : Bool := false
  scope : Option Nat := none
  /-- SHA-384 of its client certificate, and its peer address (R412, R528) -/
  cert : Bytes := []
  peer : Bytes := []
  tokens : Nat := 0
  /-- requests that found the bucket empty -/
  limited : Nat := 0
  /-- requests received and not yet answered (R60) -/
  unanswered : Nat := 0
  lastFrame : Nat := 0
  lastRefill : Nat := 0
  /-- the responses to the last 8 REQ_IDs, newest first (R61) -/
  stored : List (Nat × Bytes) := []
  /-- subscribed event ranges (R62) -/
  ranges : List (Nat × Nat) := []
  /-- event pushes waiting, oldest first, at most 64 (R62) -/
  pushes : List Bytes := []
  dropped : Nat := 0
  /-- the open WRITE_SEG sequence: entry and the bytes received (R531) -/
  segKey : Option Nat := none
  segData : Bytes := []
  segAt : Nat := 0
  deriving DecidableEq, Repr

/-- R56: the transfer in progress on one controller's SDO server. -/
structure Sdo where
  /-- 0 none, 1 segmented upload, 2 segmented download, 3 block upload, 4 block download -/
  kind : Nat := 0
  idx : Nat := 0
  sub : Nat := 0
  data : Bytes := []
  offset : Nat := 0
  toggle : Bool := false
  blksize : Nat := 0
  seqno : Nat := 0
  /-- block transfers: 0 initiated, 1 sub-blocks running, 2 end awaited -/
  phase : Nat := 0
  size : Nat := 0
  lastActivity : Nat := 0
  deriving DecidableEq, Repr

/-- R526: one declared entry of a Pavilion's program. -/
structure Decl where
  idx : Nat
  sub : Nat
  ty : Nat
  access : Nat
  role : Nat
  persistent : Bool
  maxLen : Nat
  dflt : Bytes
  deriving DecidableEq, Repr

/-- What a task is doing (R75 to R81). `halted` is HOLD's halted task (R88). -/
inductive TaskSt where
  | idle | ready | running | preempted | ended | cut | halted
  deriving DecidableEq, Repr

/-- One task: Pavilion p, class c (R75), at key 3p + c. -/
structure Task where
  st : TaskSt := .idle
  /-- instructions retired in this scan (R139) -/
  retired : Nat := 0
  /-- time the lane was held before the present run, and the start of the present run, in ns (R77, R81) -/
  used : Nat := 0
  since : Nat := 0
  /-- consecutive overruns (R82) and consecutive trapped scans (R141) -/
  overruns : Nat := 0
  trapped : Nat := 0
  prevTrap : Bool := false
  /-- END executed since the latest commit of the class (R17); ENDs executed in all (R18, R80) -/
  ended : Bool := false
  ends : Nat := 0
  /-- the SYS service the lane waits for, 256 for the drain of FENCE, with its results (R133, R136) -/
  sysN : Nat := 0
  sysG : List (Nat × Nat) := []
  /-- one more than the scan number it was last made ready in; the trap policy of its dispatch (R142) -/
  scan : Nat := 0
  policy : Nat := 0x0300
  deriving DecidableEq, Repr

/-- R108: one register bank; a logical lane has one for each class (R111). -/
structure Bank where
  acc : Bool := false
  /-- branch stack, top first, each a bit and its 2-bit join tag (R121) -/
  bstk : List (Bool × BitVec 2) := []
  wa : Word := 0
  wb : Word := 0
  g : Vector Word 16 := Vector.replicate 16 0
  pc : BitVec 20 := 0
  /-- execution has run past the last byte a PC can name (R129) -/
  pcOver : Bool := false
  csp : BitVec 40 := 0
  status : BitVec 16 := 0
  pav : BitVec 8 := 0
  ts : Word := 0
  /-- call depth, 0 to 64 (R131) -/
  depth : Nat := 0
  deriving DecidableEq, Repr

/-- One logical lane (R145). -/
structure Lane where
  /-- the task that holds the lane, as 3p + c (R76, R77) -/
  run : Option Nat := none
  /-- the Class A task whose window is open (R76) -/
  window : Option Nat := none
  /-- stores waiting in the egress buffer, at most 8 (R136) -/
  egress : Nat := 0
  /-- clock gated by the scan engine (R460) -/
  gated : Bool := false
  deriving DecidableEq, Repr

/-- A Pavilion DMA transfer (R192 to R194). -/
structure Dma where
  ticket : Nat := 0
  src : Nat := 0
  dst : Nat := 0
  len : Nat := 0
  cls : Nat := 0
  zero : Bool := false
  /-- 0 QUEUED, 1 RUNNING, 2 DONE, 3 ABORTED, 4 ERROR -/
  st : Nat := 0
  deriving DecidableEq, Repr

/-- One Pavilion, beside its dictionary entries. -/
structure Pav where
  /-- a transition to STOP taken at the next boundary of the fastest class, with its STOP_CAUSE (R82, R85) -/
  stopDue : Option Nat := none
  /-- FIRST_A, FIRST_B, FIRST_C of R92, as bits 0 to 2 -/
  first : Nat := 0
  outSafe : Bool := false
  remoteSafe : Bool := false
  /-- times, in ns of TB4, of the entry to STOP and to HOLD and of the Pavilion's last commit (R86, R87) -/
  stopAt : Nat := 0
  holdAt : Nat := 0
  lastCommit : Nat := 0
  lastCause : Nat := 0
  changeId : Nat := 0
  changeScan : Nat := 0
  /-- loaded image and declaration list, and those last written (R180, R526) -/
  image : Bytes := []
  declList : Bytes := []
  /-- the entries its program declares, while it is loaded -/
  decls : List Decl := []
  schema : Nat := 0
  /-- next ticket and the transfers of the 16 most recent tickets, newest first (R193, R194) -/
  ticket : Nat := 0
  dma : List Dma := []
  /-- import regions that are suspended (R189) -/
  suspended : List Nat := []
  /-- watchdog: previous service, time run while FROZEN, key sequence position, its session and its start -/
  wdtS : Nat := 0
  wdtRan : Nat := 0
  keyPos : Nat := 0
  keyBy : Option Path := none
  keyAt : Nat := 0
  /-- enabled (R206); it is disabled until it is enabled, and a reset keeps this -/
  wdtOn : Bool := false
  /-- single step, or a resume, requested of the halted task (R88) -/
  step : Bool := false
  go : Bool := false
  deriving DecidableEq, Repr

/-- R102: a PENDING coordinated change. -/
structure Change where
  id : Nat
  tb : Nat
  imm : Bool
  cls : Nat
  act : Nat
  run : Bytes
  stop : Bytes
  lead : Int
  deriving DecidableEq, Repr

/-- The scan engine (spec/03). -/
structure Scan where
  tasks : Sparse Task := []
  changes : List Change := []
  /-- stations whose frame has completed since the previous t_s of their class (R96) -/
  arrived : Sparse Bool := []
  /-- a FIRST output frame is due since the module became ACTIVE (R95) -/
  firstOut : Bool := false
  /-- Pavilions with AUTOSTART start at the next boundary (R85) -/
  autostart : Bool := false
  /-- by station: one more than the scan number of the latest frame build, and whether a frame has gone out since the
  module became ACTIVE (R95, R98) -/
  built : Sparse Nat := []
  sent : Sparse Bool := []
  /-- by class: 0 from the boundary, 1 from the freeze, 2 from the commit of the scan -/
  phase : Sparse Nat := []
  deriving DecidableEq, Repr

/-- R152, R153: the voter of one Trestle: the records presented and not yet consumed, in order of arrival, each with
its position and lane cycle. -/
structure Voter where
  slot : Nat := 0
  queue : List (Nat × Nat × Bytes) := []
  /-- the record released for the present slot -/
  released : Option Bytes := none
  /-- the record released for the latest slot: what left the Trestle -/
  out : Bytes := []
  /-- cycle and position of the latest oddness (R155) -/
  oddAt : Option (Nat × Nat) := none
  deriving DecidableEq, Repr

/-- R158 to R161: a resynchronisation in progress. -/
structure Resync where
  active : Bool := false
  /-- the lane copied into, or 0xFF; it is not active while that lane is being locked -/
  target : Nat := 0xFF
  pos : Nat := 0
  /-- positions 1 and 2 together, at the end of DEBUG_SPLIT (R178) -/
  both : Bool := false
  /-- the register state has been copied -/
  regs : Bool := false
  /-- the items of R158 still to copy: D-TCM chunks, mirror chunks, I-TCM chunks -/
  dtcm : Nat := 0
  mirror : Nat := 0
  itcm : Nat := 0
  lastChunk : Nat := 0
  deriving DecidableEq, Repr

/-- One Trestle, beside its dictionary entries. -/
structure Trestle where
  voter : Voter := {}
  resync : Resync := {}
  /-- time of a takeover request made for this Trestle (R164), and of the start of DEBUG_SPLIT -/
  takeoverAt : Option Nat := none
  splitSince : Nat := 0
  duplexSince : Nat := 0
  deriving DecidableEq, Repr

/-- One physical lane, beside its dictionary entries. -/
structure PLane where
  consecFails : Nat := 0
  mismatchTimes : List Nat := []
  bistFailed : Bool := false
  lastBistTb4 : Nat := 0
  /-- an extra rotation (R169), or a manual retirement by rotation (R173), is due -/
  extraDue : Bool := false
  retireDue : Bool := false
  /-- the SPLIT position the lane returns to after its test -/
  splitHome : Bool := false
  deriving DecidableEq, Repr

/-- R166 to R168: the rotation scheduler and the test slot. -/
structure Rotation where
  active : Bool := false
  victim : Nat := 0
  spare : Nat := 0
  trestle : Nat := 0
  retireVictim : Bool := false
  extra : Bool := false
  /-- start of the present interval, and whether its rotation has been deferred -/
  last : Nat := 0
  deferred : Bool := false
  testQueue : List Nat := []
  deriving DecidableEq, Repr

/-- R195, R196, R29, R30: one request waiting in the fabric. -/
structure FabReq where
  resource : Nat := 0
  /-- account: 0 to 255 a Pavilion, 256 SYSTEM -/
  account : Nat := 0
  /-- 0 A, 1 B, 2 C, 3 checkpoint engine -/
  cls : Nat := 0
  addr : Nat := 0
  write : Bool := false
  /-- a store of a whole aligned 64-bit word (R29) -/
  whole : Bool := false
  deriving DecidableEq, Repr

/-- The fabric: arbiters, ledger and SRAM error correction. -/
structure Fabric where
  reqs : List FabReq := []
  /-- classes served at each resource in its latest cycles, newest first: 0 A, 3 checkpoint, 1 other (R195) -/
  served : Sparse (List Nat) := []
  credit : Sparse Int := []
  /-- accounts that had a request waiting in this round -/
  waited : Sparse Bool := []
  /-- TB4 time of the latest corrected error of a row, by bank × 6144 + row (R29) -/
  rowHit : Sparse Nat := []
  /-- spare rows used, by bank -/
  spares : Sparse Nat := []
  corrected : Sparse Nat := []
  /-- poisoned 64-bit words, by address / 8 (R30) -/
  poison : Sparse Bool := []
  deriving DecidableEq, Repr

/-- R446 to R449: the optical service port. -/
structure Opt where
  isOpen : Bool := false
  role : Role := .viewer
  /-- end of the session's token, in TB3 seconds -/
  lastFrame : Nat := 0
  nonce : Bytes := []
  /-- SEQ of the latest answered frame and its answer -/
  lastSeq : Option Nat := none
  lastAnswer : Bytes := []
  /-- consecutive 100 ms intervals with, and without, a flood condition (R449) -/
  floodRun : Nat := 0
  clearRun : Nat := 0
  /-- entry to AMBIENT_HIGH -/
  highAt : Nat := 0
  deriving DecidableEq, Repr

end Sys2Proof.Machine
end

