-- ==== Sys2Proof/Machine/Parts2.lean ====
section
/-! DEFINITION. The pieces of State that spec/08 to spec/10 give the field blocks beside the dictionary: digital I/O,
hold blocks, IO-Link ports, converters, current loops and HART modems. -/

namespace Sys2Proof.Machine

/-- R287: wake detection of one digital input. -/
structure Di where
  wakeRef : Bool := false
  wakeRun : Nat := 0
  deriving DecidableEq, Repr

/-- R289 to R291: one digital output, beside its entries. -/
structure DoCh where
  /-- latched bits of FAULT -/
  latched : Nat := 0
  /-- TB4 time of the overcurrent trip whose RETRY wait runs -/
  wait : Option Nat := none
  /-- TB4 time of the latest retry -/
  retryAt : Option Nat := none
  hot : Bool := false
  hotTimes : List Nat := []
  /-- consecutive suspected and consecutive good results of the tests of bits 2 and 3 -/
  suspOpen : Nat := 0
  suspShort : Nat := 0
  goodOpen : Nat := 0
  goodShort : Nat := 0
  /-- times of the latest change of command, and of the latest off-state test -/
  cmdAt : Nat := 0
  testAt : Nat := 0
  deriving DecidableEq, Repr

/-- R296, R323: one hold block: LC, LC_p by Pavilion, and whether it has expired. -/
structure HoldBlk where
  lc : Nat := 0
  committed : Bool := false
  lcp : Sparse Nat := []
  expired : Bool := false
  deriving DecidableEq, Repr

/-- R304: an ISDU request of an IO-Link port; R331 uses the same form for a HART command. -/
structure BufReq where
  pav : Nat := 0
  buf : Nat := 0
  len : Nat := 0
  /-- index and subindex of the ISDU, or the HART command -/
  code : Nat := 0
  write : Bool := false
  data : Bytes := []
  at_ : Nat := 0
  deriving DecidableEq, Repr

/-- R300 to R305: one IO-Link port, beside its entries. -/
structure Iol where
  attempts : Nat := 0
  lastAttempt : Nat := 0
  /-- C/Q read low at every instant so far, and followed the wake-up request -/
  low : Bool := true
  follow : Bool := true
  fails : Nat := 0
  cycles : Nat := 0
  fresh : Bool := false
  devEvent : Bool := false
  pdValid : Bool := false
  pdIn : Bytes := []
  /-- the output process data as last sent, and whether they are marked invalid (R303) -/
  pdOut : Bytes := []
  outInvalid : Bool := false
  safe : Bool := false
  faultAt : Nat := 0
  retried : Bool := false
  isdu : Option BufReq := none
  deriving DecidableEq, Repr

/-- R309 to R313: one converter, beside its entries. -/
structure Adc where
  clearedAt : Nat := 0
  settledAt : Nat := 0
  /-- the latest settling conversions of channel 8, newest first -/
  settling : List Nat := []
  refTestAt : Nat := 0
  /-- channels still to convert for the present trigger -/
  left : List Nat := []
  lastTrig : Nat := 0
  stPending : Bool := false
  stNext : Nat := 8
  lastSt : Nat := 0
  /-- consecutive failed and passed self-tests, by channel -/
  fails : Sparse Nat := []
  passes : Sparse Nat := []
  /-- code of channel 8 at its latest self-test, for the SUPPLY reference -/
  railCode : Nat := 24824
  deriving DecidableEq, Repr

/-- R316 to R319: one current-loop input, beside its entries. -/
structure Ai where
  y : Nat := 0
  started : Bool := false
  cand : Nat := 0
  run : Nat := 0
  count : Nat := 0
  lastConv : Nat := 0
  deriving DecidableEq, Repr

/-- R321 to R324: one current-loop output, beside its entries. Currents are binary32 patterns. -/
structure Ao where
  target : Nat := 0
  alarm : Bool := false
  fromOpen : Bool := true
  leftOpen : Nat := 0
  changedAt : Nat := 0
  safe : Bool := false
  rateLimited : Bool := false
  clamped : Bool := false
  invalid : Bool := false
  deriving DecidableEq, Repr

/-- R327 to R331: one HART modem, beside its entries. -/
structure Hart where
  /-- request in progress: 0 none, 1 acquisition, 2 automatic, 3 SYS 11 -/
  job : Nat := 0
  /-- the request has been sent and its response is awaited -/
  waiting : Bool := false
  sentAt : Nat := 0
  tries : Nat := 0
  /-- the latest failed attempt was a frame error -/
  frameError : Bool := false
  quietUntil : Nat := 0
  noisyAt : Nat := 0
  noisySince : Nat := 0
  stateAt : Nat := 0
  exhausted : Nat := 0
  autoDue : Bool := false
  autoAt : Nat := 0
  frameAt : Option Nat := none
  fresh : Bool := false
  burst : Bool := false
  cmd : Nat := 0
  status : Bytes := []
  data : Bytes := []
  req : Option BufReq := none
  deriving DecidableEq, Repr

/-- The field blocks. -/
structure Field where
  /-- the configuration has been loaded since power-up; SEATED# has been mated for 100 ms (R298, R320) -/
  cfgLoaded : Bool := false
  mated : Bool := false
  di : Sparse Di := []
  dout : Sparse DoCh := []
  hold : Sparse HoldBlk := []
  /-- TB4 time of the latest change of each supply's state -/
  supAt : Sparse Nat := []
  iol : Sparse Iol := []
  adc : Sparse Adc := []
  ai : Sparse Ai := []
  ao : Sparse Ao := []
  hart : Sparse Hart := []
  deriving DecidableEq, Repr

end Sys2Proof.Machine
end

