-- ==== Sys2Proof/Machine/Parts3.lean ====
section
/-! DEFINITION. The pieces of State that spec/07, spec/08, spec/15 and spec/16 give the pair, the safety island, the
Gatehouse and the power unit beside the dictionary. -/

namespace Sys2Proof.Machine

/-- R261, R262: one safe-stop group. Speeds of the envelope are in units of 10⁻⁹ edges/s. -/
structure Group where
  /-- SS1 in progress: its start, v_0 and sign of each channel, envelope and low-speed time of each channel -/
  ss1At : Nat := 0
  v0Sp : Int := 0
  v0Pp : Int := 0
  envSp : Int := 0
  envPp : Int := 0
  lowSp : Option Nat := none
  lowPp : Option Nat := none
  /-- enabling sequence: 0 none, else its phase, and the time of the reset's acceptance -/
  phase : Nat := 0
  seqAt : Nat := 0
  /-- a reset event waits: press duration of RESET_PAIR in ns, or a rising RESET_POINT -/
  press : Option Nat := none
  pointRose : Bool := false
  /-- values of REQ_POINT and RESET_POINT as last read -/
  req : Bool := false
  rst : Bool := false
  /-- the channels have differed in torque state since -/
  differSince : Option Nat := none
  /-- R236: own and partner's words have differed since -/
  cmpSince : Option Nat := none
  deriving DecidableEq, Repr

/-- R268, R269: the test of one safe output. -/
structure OutTest where
  /-- 0 none, 1 switch open, 2 closed again -/
  phase : Nat := 0
  swP : Bool := false
  t0 : Nat := 0
  t1 : Nat := 0
  deriving DecidableEq, Repr

/-- R256: one safe input pair. -/
structure PairIn where
  since : Nat := 0
  cross : Bool := false
  srcFault : Bool := false
  pressAt : Nat := 0
  deriving DecidableEq, Repr

/-- The safety island. -/
structure Island where
  /-- the active configuration, by dictionary key; an unlisted key is at its default (R274) -/
  active : Sparse Int := []
  activated : Bool := false
  /-- CRC of the active configuration as recorded at activation (R277) -/
  crcRecord : Nat := 0
  crcBad : Bool := false
  /-- switches S and P that are closed, a bit for each output; groups in which each channel enables torque -/
  swS : Nat := 0
  swP : Nat := 0
  torqueS : Nat := 0
  torqueP : Nat := 0
  groups : Sparse Group := []
  pairs : Sparse PairIn := []
  tests : Sparse OutTest := []
  /-- times at which a condition of an encoder fault was last present, by 8 e + bit; cross-check start by e (R258) -/
  encBad : Sparse Nat := []
  encCross : Sparse (Option Nat) := []
  hbAt : Nat := 0
  supplyBad : Bool := false
  startupOk : Bool := false
  slotAt : Nat := 0
  slotP : Bool := true
  /-- the partner's decision word: its arrival and request-point values (R265) -/
  partnerAt : Option Nat := none
  partnerReq : Nat := 0
  partnerRst : Nat := 0
  deriving DecidableEq, Repr

/-- R219, R222: an epoch in flight at the sender, or the current one of either side. -/
structure Flight where
  epoch : Nat := 0
  join : Bool := false
  sentAt : Nat := 0
  /-- coded bytes, pages by PAGE field, and boundaries covered -/
  bytes : Nat := 0
  pages : Sparse Bytes := []
  covered : Nat := 0
  /-- scan numbers and STEP_SUM at the close, and the SYSTEM body -/
  scans : List Nat := []
  stepSum : Int := 0
  sys : Bytes := []
  /-- PAIR-scope writes it carries (R39) -/
  writes : List (Nat × Bytes) := []
  /-- the receiver's own scan numbers at the boundary at which it closed -/
  own : List Nat := []
  deriving DecidableEq, Repr

/-- R222: an epoch being received. -/
structure Rx where
  active : Bool := false
  bad : Bool := false
  f : Flight := {}
  /-- CRCs of its records so far -/
  crcs : Bytes := []
  count : Nat := 0
  input : Bytes := []
  /-- own inputs at the boundary at which it closed (R237) -/
  mine : Bytes := []
  deriving DecidableEq, Repr

/-- R39: an answer delayed until the partner holds the epoch: link 0 is a command's answer, otherwise a frame. -/
structure Owed where
  epoch : Nat
  code : Nat
  link : Nat := 0
  frame : Bytes := []
  deriving DecidableEq, Repr

/-- The pair logic. -/
structure PairSt where
  /-- PAIR.MODE as it stood at BOOT (R210) -/
  op : Nat := 0
  /-- time of the latest heartbeat sent, of the latest valid one received, of the loss of the last lane, and of DOWN -/
  hbSentAt : Nat := 0
  hbAt : Option Nat := none
  laneLostAt : Nat := 0
  downAt : Nat := 0
  /-- partner as its heartbeats and health words show it: role, held grant epoch, READY, mode DORMANT, scan numbers -/
  pRole : Nat := 5
  pEpoch : Nat := 0
  pReady : Bool := false
  pDormant : Bool := false
  pScans : List Nat := []
  /-- R355: the partner's bases that are synchronised, a bit for each -/
  pSync : Nat := 0
  /-- own held grant epoch (R225) -/
  held : Nat := 0
  bootCount : Nat := 0
  /-- referee frames: counter sent, SEQ received, and SEQ and time of the STATUS and REQUEST frames sent lately -/
  txSeq : Nat := 0
  rxSeq : Nat := 0
  sent : List (Nat × Nat) := []
  /-- the latest valid GRANT: holder, epoch and the time of the frame its ECHO names -/
  grHolder : Nat := 0
  grEpoch : Nat := 0
  grEcho : Option Nat := none
  freshAt : Option Nat := none
  refAt : Option Nat := none
  statusAt : Nat := 0
  healthAt : Nat := 0
  requesting : Bool := false
  reqSentAt : Nat := 0
  takeoverReq : Bool := false
  /-- suspicion, request or swap that leads to a takeover: its time and its cause in LAST_TAKEOVER -/
  t0 : Nat := 0
  cause : Nat := 0
  /-- own takeover request pending: its time and the HALT_CAUSE should it fail; a reset follows the partner's ACTIVE -/
  reqAt : Option (Nat × Nat) := none
  thenReset : Bool := false
  /-- TAKEOVER: 0 none, 1 lanes powering, 2 restoring, 3 restored; TB3 time of entry -/
  step : Nat := 0
  entryTb : Nat := 0
  /-- HANDOVER: time of its acceptance, and of the swap boundary; lanes powered by PREPARE -/
  hoAt : Nat := 0
  swapAt : Option Nat := none
  /-- the final epoch closes at the next boundary at which no other is in flight -/
  finalDue : Bool := false
  prepared : Bool := false
  /-- joining: since when, the dictionary received, a JOIN epoch completed -/
  joinAt : Nat := 0
  dictReceived : Bool := false
  joined : Bool := false
  /-- epochs: latest closed, boundaries since it, the one in flight, the next is a JOIN, none are closed any more -/
  epoch : Nat := 0
  covered : Nat := 0
  flight : Option Flight := none
  joinDue : Bool := true
  noEpochs : Bool := false
  /-- reference image, by PAGE field; the current epoch; the one being received -/
  ref : Sparse Bytes := []
  cur : Flight := {}
  rx : Rx := {}
  /-- PAIR-scope writes not yet carried, oldest first, and answers that wait for an ACK (R39) -/
  writes : List (Nat × Bytes) := []
  owed : List Owed := []
  /-- self-tests (R237): next Trestle, times, Trestles whose BIST failure is unresolved -/
  bistTrestle : Nat := 0
  bistAt : Nat := 0
  bistBad : List Nat := []
  loopAt : Nat := 0
  /-- lane whose loopback is next (R216) -/
  loopNext : Nat := 0
  scrubAt : Nat := 0
  ckptAt : Nat := 0
  /-- own inputs at the latest freeze, and as they stood with own scan numbers at the latest boundary -/
  frozen : Bytes := []
  latched : Bytes := []
  ownScans : List Nat := []
  /-- input agreement: channels that differed at the previous comparison (DI 0–127, AI 128–159) -/
  differed : List Nat := []
  deriving DecidableEq, Repr

/-- R435 to R437: the module watchdog, and the Gatehouse's sensors. -/
structure Gate where
  wdtS : Nat := 0
  expectB : Bool := false
  keyAAt : Nat := 0
  wOpen : Nat := 20
  wTimeout : Nat := 100
  keyPos : Nat := 0
  keyBy : Option Path := none
  keyAt : Nat := 0
  serviceAt : Nat := 0
  /-- a reset that is due: its time (R434, R475, R485) -/
  resetAt : Option Nat := none
  resetCause : Nat := 1
  bootAt : Nat := 0
  /-- sensor and rail states: 0 normal, 1 WARN, 2 CRIT or FAULT -/
  temp : Sparse Nat := []
  /-- since when a sensor has been CRIT, plus 1; 0: not, or settled (R433) -/
  critAt : Sparse Nat := []
  rail : Sparse Nat := []
  rhSince : Option Nat := none
  rhRaised : Bool := false
  cont : Sparse (List Nat) := []
  contFirst : Sparse (List Nat) := []
  rebaseAt : Option Nat := none
  /-- shock in progress: TB3 start, TB4 start, peaks (F32) and the TB4 time of the latest sample at or above the level -/
  shock : Option (Nat × Nat × List Nat) := none
  wearAt : Nat := 0
  /-- the service port: start of the present second, and its frames (R445) -/
  svcAt : Nat := 0
  svcN : Nat := 0
  deriving DecidableEq, Repr

/-- The power unit (spec/16). -/
structure Power where
  precharged : Bool := false
  good : Bool := false
  seat1At : Option Nat := none
  seat2At : Option Nat := none
  /-- the module is held in reset by an open SEATED# contact (R457) -/
  heldReset : Bool := false
  pfail : Bool := false
  flushing : Bool := false
  /-- droop response (R462 to R464) -/
  throttle : Bool := false
  throttleAt : Nat := 0
  stretch : Bool := false
  /-- since when the stretch runs, and since when its time is not yet counted -/
  stretchFrom : Nat := 0
  stretchAt : Nat := 0
  stretchKind : Nat := 0
  stretchSag : Nat := 0
  stretchRail : Nat := 0
  usedNs : Nat := 0
  budgetAt : Nat := 0
  /-- times of the latest losses of lock, by domain (R461) -/
  lockLost : Sparse (List Nat) := []
  /-- domains whose clock a loss of lock has stopped -/
  stopped : List Nat := []
  /-- DORMANT entry: progress 0 none, 1 flushing, 2 powering down -/
  dormantStep : Nat := 0
  modeBefore : Nat := 0
  /-- start-up: milestones reached so far, failures of attempts -/
  bootZero : Nat := 0
  rails : Bool := false
  released : Bool := false
  wiped : Bool := false
  seeded : Bool := false
  trained : Bool := false
  filled : Bool := false
  verified : Bool := false
  formed : Bool := false
  trngTries : Nat := 0
  dramTries : Nat := 0
  /-- carrier identity: slot straps and EEPROM identity as recorded, and as read (R443, R514) -/
  carrier : Bytes := []
  slot : Nat := 0
  /-- open-drain STATUS3 level (R508) -/
  status3 : Bool := false
  status3At : Nat := 0
  deriving DecidableEq, Repr

end Sys2Proof.Machine
end

