-- ==== Sys2Proof/Machine/Parts4.lean ====
section
/-! DEFINITION. The pieces of State that spec/13, spec/14, spec/17 and spec/18 give the storage engine, the recorder
and historian, the Icehouse and the update engine beside the dictionary. -/

namespace Sys2Proof.Machine

/-- R474 to R490: the Icehouse, the key store and the debug session. -/
structure Sec where
  /-- the key store of R480, and its sealed copy in the boot NOR (R481) -/
  store : Bytes := []
  sealedCopy : Bytes := []
  /-- the sealed copy still stands; the store answers its integrity check -/
  sealedOk : Bool := false
  storeOk : Bool := false
  /-- PENDING_LC: the target state of a transition in progress (R476) -/
  pendingLc : Option Nat := none
  /-- every OTP key fuse is blown (R475, SCRAPPED) -/
  fusesBlown : Bool := false
  /-- source of an ERASE in progress on main power; time the sealed copy was destroyed (R485) -/
  eraseBy : Option (Nat × Bool) := none
  destroyedAt : Option Nat := none
  /-- TB4 times of the latest authentication failures (R484, AUTH) -/
  authFails : List Nat := []
  /-- first readings that await confirmation, a bit for each source (R483) -/
  indicated : Nat := 0
  /-- the Icehouse RTC: value last written, in units of 2⁻¹⁶ ns, and when (R355) -/
  rtc : Nat := 0
  rtcAt : Nat := 0
  /-- end of the open debug session, in TB3 seconds (R490); it was opened on this path -/
  dbgExpiry : Nat := 0
  dbgBy : Nat := 0xFFFF
  /-- DRBG: requests since the latest reseed, its time; times of the latest TRNG failures (R488) -/
  drbgReqs : Nat := 0
  reseedAt : Nat := 0
  trngFails : List Nat := []
  /-- alarm records made on VBAT and not yet raised as events, oldest first (R485) -/
  owed : List Bytes := []
  /-- VBAT was absent when VLOGIC was lost; time in ICEHOUSE not yet counted as hours, and its start -/
  vbatLost : Bool := false
  iceAt : Nat := 0
  iceNs : Nat := 0
  /-- minutes not yet counted as hours by the wear ledger: powered, by band of the cold plate, by lane (R444) -/
  wearMin : Nat := 0
  plateMin : Sparse Nat := []
  laneMin : Sparse Nat := []
  deriving DecidableEq, Repr

/-- R491 to R504: the update engine. -/
structure Upd where
  /-- bytes received of each part in IMAGES -/
  image : Sparse Bytes := []
  /-- inactive NOR slots written so far, by part (R496) -/
  slot : Sparse Bytes := []
  /-- part records and section schemas of the manifest being staged -/
  manifest : Bytes := []
  /-- schemas, versions, SVN and hashes of the trial set; those of the running set are the dictionary's -/
  trial : Bool := false
  trialAt : Nat := 0
  heldNs : Nat := 0
  /-- hashes of the running images, by part -/
  hash : Sparse Bytes := []
  /-- activation value accepted (R498) -/
  activating : Option Nat := none
  /-- the part whose check failed in the latest trial, or 0; SAFE Trestles formed before the activation (R501) -/
  failedPart : Nat := 0
  safeHad : Nat := 0
  /-- FLAGS of the committed CHECKPOINT-SCHEMA part, plus 1; 0: the factory set's (R492) -/
  ckptFlags : Nat := 0
  deriving DecidableEq, Repr

/-- R389, R390: one NAND block, by die × 2²⁴ + block. -/
structure NBlk where
  erases : Nat := 0
  reads : Nat := 0
  programmedAt : Nat := 0
  valid : Bool := false
  retired : Bool := false
  /-- a read or the patrol scrub has found it in need of relocation -/
  due : Bool := false
  deriving DecidableEq, Repr

/-- R401: an open intent: its operation (0 relocation, 1 rebuild, 2 resize, 3 staging, 4 checkpoint, 5 mirror copy),
an argument, and whether its map commit or all its moves are recorded. -/
structure Intent where
  op : Nat
  arg : Nat
  done : Bool
  deriving DecidableEq, Repr

/-- R394: a PAVSTORE request: 0 READ, 1 WRITE, 2 TRIM, 3 SYNC. -/
structure StoReq where
  pav : Nat
  op : Nat
  off : Nat
  buf : Nat
  len : Nat
  rec_ : Nat
  /-- it has begun (R395) -/
  begun : Bool := false
  deriving DecidableEq, Repr

/-- R394, R400: a WRITE or TRIM that stands in the journal only: what it replaced. -/
structure Undo where
  pav : Nat
  off : Nat
  old : Bytes
  /-- blocks it newly held, and blocks it released -/
  added : List Nat
  freed : List Nat
  deriving DecidableEq, Repr

/-- R397: one checkpoint slot. -/
structure CkSlot where
  valid : Bool := false
  /-- the 64-byte header -/
  head : Bytes := []
  /-- the pages, by their PAGE field, and the SYSTEM body (R219) -/
  pages : Sparse Bytes := []
  sys : Bytes := []
  /-- scan numbers of A, B and C in its BEGIN record -/
  scans : List Nat := []
  deriving DecidableEq, Repr

/-- The storage engine. -/
structure Sto where
  blocks : Sparse NBlk := []
  intents : List Intent := []
  /-- PAVSTORE requests, oldest first -/
  reqs : List StoReq := []
  /-- logical blocks held in Pavilion stores, by p × 2³² + block (R394, R395) -/
  held : Sparse Bool := []
  /-- PAVSTORE changes that stand in the journal only, newest first -/
  undo : List Undo := []
  slots : Sparse CkSlot := []
  /-- slot being written, if any (R397) -/
  writing : Option (Nat × CkSlot) := none
  /-- times of the retirements of each die within 24 h; consecutive not-ready operations by die (R386) -/
  retiredAt : Sparse (List Nat) := []
  notReady : Sparse Nat := []
  /-- dies whose rebuild runs or waits; stripe cursor; stripes found unreadable; a rebuild could not complete -/
  rebuild : List Nat := []
  cursor : Nat := 0
  unreadable : Nat := 0
  rebuildFailed : Bool := false
  /-- start of the flush; the journal and its commit record are programmed -/
  pfailAt : Nat := 0
  flushed : Bool := false
  /-- R399: entry to HELD, release of PFAIL#, and EV 1100 raised -/
  stuckAt : Option Nat := none
  releasedAt : Option Nat := none
  stuckRaised : Bool := false
  lostRecords : Nat := 0
  scrubPages : Nat := 0
  scrubMoved : Nat := 0
  /-- 1 + blocks copied of each store whose mirror copy is not complete (R396) -/
  incomplete : Sparse Nat := []
  /-- blocks of such a store written or trimmed since its copy began, by p × 2³² + block -/
  newer : Sparse Bool := []
  /-- page geometry of the first die accepted: data bytes, spare bytes, pages per block (R382) -/
  geometry : Option (Nat × Nat × Nat) := none
  /-- dies that have failed, and stay so over a reset (R386) -/
  failed : Sparse Bool := []
  /-- resize in progress: partition and its old SIZE -/
  resize : Option (Nat × Nat) := none
  /-- times of the latest rebuilt stripe and of the latest page of the patrol scrub -/
  stripeAt : Nat := 0
  scrubAt : Nat := 0
  /-- writes held unanswered during a flush (R398): blocks, as partition, die, block and whether new; and entries -/
  heldBlocks : List (Nat × Nat × Nat × Bool) := []
  heldWrites : List (Path × Nat × Bytes) := []
  /-- DAP frames held unanswered during a flush, by session, oldest first (R398) -/
  heldFrames : List (Nat × Bytes) := []
  deriving DecidableEq, Repr

/-- R404: a record of the recorder, and its offset in the ring. -/
structure RecEnt where
  off : Nat := 0
  ty : Nat := 0
  event : Nat := 0xFFFF
  flags : Nat := 0
  sev : Nat := 0
  time : Nat := 0
  seq : Nat := 0
  payload : Bytes := []
  archived : Bool := false
  /-- the Pavilion it belongs to (R35) -/
  owner : Option Nat := none
  deriving DecidableEq, Repr

/-- The event recorder (R404 to R413). -/
structure RecSt where
  /-- records of the ring, oldest first; PAD records included -/
  ring : List RecEnt := []
  /-- records of EVENTS, oldest first -/
  archive : List RecEnt := []
  side : List RecEnt := []
  lost : List RecEnt := []
  /-- holder and time of the freeze; end of the latest one -/
  holder : Option Path := none
  frozenAt : Nat := 0
  endedAt : Option Nat := none
  /-- sequence mark of R407 -/
  mark : Nat := 0
  /-- the latest result of each session's recorder and historian query, by path (R413, R421) -/
  results : Sparse Bytes := []
  histResults : Sparse Bytes := []
  deriving DecidableEq, Repr

/-- R417: the compressor of one tag. Floats are binary64 patterns. -/
structure TagSt where
  opened : Bool := false
  ta : Nat := 0
  va : Nat := 0
  lo : Nat := 0
  hi : Nat := 0
  tp : Option Nat := none
  xp : Nat := 0
  /-- latest taken sample and stored point, last stored marker state -/
  last : Option Nat := none
  lastVal : Bytes := []
  marker : Nat := 0
  storedAt : Nat := 0
  /-- flags the first point of the next segment carries -/
  nextFlags : Nat := 0
  deriving DecidableEq, Repr

/-- R421: one stored point of a tag. -/
structure Pt where
  tag : Nat
  t : Nat
  val : Bytes
  flags : Nat
  era : Nat
  deriving DecidableEq, Repr

/-- R422 to R424: one totaliser, beside its entries. -/
structure TotSt where
  prev : Option (Bytes × Bool × Int) := none
  started : Bool := false
  closeDue : Bool := false
  stepFwd : Bool := false
  bad : Bool := false
  takeover : Bool := false
  deriving DecidableEq, Repr

/-- The historian. -/
structure HistSt where
  tags : Sparse TagSt := []
  points : List Pt := []
  /-- closed period records, oldest first -/
  periods : List Bytes := []
  tots : Sparse TotSt := []
  buffered : List Pt := []
  /-- R420: since when points find no room; the open segments have ended for it -/
  overflow : Option Nat := none
  overflowing : Bool := false
  discarded : Nat := 0
  deriving DecidableEq, Repr

end Sys2Proof.Machine
end

