-- ==== Sys2Proof/Machine/Parts5.lean ====
section
/-! DEFINITION. The pieces of State that spec/11 and spec/12 give the switch, the time unit and the CAN controllers beside
the dictionary. -/

namespace Sys2Proof.Machine

/-- R334: an entry of the filtering database. -/
structure FdbEnt where
  vid : Nat
  mac : Bytes
  port : Nat
  at_ : Nat
  deriving DecidableEq, Repr

/-- R335, R346: a frame in a queue of an egress port. -/
structure TxFrame where
  cls : Nat := 0
  bytes : Bytes := []
  /-- launch time in ns of its base, TB0's in scan time (R347) -/
  launch : Option Int := none
  base : Nat := 0
  /-- the head of a launch-time queue has reached its launch time -/
  eligible : Bool := false
  stream : Option Nat := none
  /-- the station of a remote output frame; the ring entry of a Pavilion stream -/
  station : Option Nat := none
  entry : Option Nat := none
  /-- bytes already sent, and the egress timestamp of its first fragment, where it was preempted -/
  sent : Nat := 0
  stamp : Option Nat := none
  deriving DecidableEq, Repr

/-- R341, R342: an operational or pending gate list. -/
structure GateList where
  tb : Nat := 0
  /-- base time in units of 2⁻¹⁶ ns, and cycle in ns -/
  base : Nat := 0
  cycle : Nat := 0
  entries : List Nat := []
  /-- pending: the first cycle start at or after BASE, in ns of the list's time -/
  start : Int := 0
  deriving DecidableEq, Repr

/-- One port of the switch. -/
structure SwPort where
  queue : List TxFrame := []
  /-- the frame being transmitted, its start, and its egress timestamp in its base, in units of 2⁻¹⁶ ns -/
  sending : Option TxFrame := none
  startAt : Nat := 0
  stamp : Nat := 0
  oper : Option GateList := none
  pend : Option GateList := none
  /-- R345: credit of each class in kbit/s × ns, and when it was taken -/
  credit : Sparse Int := []
  creditAt : Nat := 0
  deriving DecidableEq, Repr

/-- R337 to R340: one stream. -/
structure Stream where
  /-- the flow meter: eighths of a byte × 10⁶ in the bucket, less BURST, and when; at most 0 -/
  meter : Int := 0
  meterAt : Nat := 0
  /-- sequence number of the next R-TAG -/
  seq : Nat := 0
  /-- recovery: a sequence number has been accepted, the highest one, the 32 history bits, and when -/
  taken : Bool := false
  recv : Nat := 0
  history : Nat := 0
  takenAt : Nat := 0
  /-- next entry of its ring, and suspension (R340) -/
  pos : Nat := 0
  suspended : Bool := false
  deriving DecidableEq, Repr

/-- R348, R349: one redundancy pair. -/
structure RedPair where
  /-- duplicate table: source address, sequence number, port and time of the first copy, newest first -/
  seen : List (Bytes × Nat × Nat × Nat) := []
  /-- node table: address and time -/
  nodes : List (Bytes × Nat) := []
  seq : Nat := 0
  heardA : Nat := 0
  heardB : Nat := 0
  superAt : Nat := 0
  deriving DecidableEq, Repr

/-- R354, R357: one PTP instance. -/
structure Ptp where
  /-- consecutive Sync messages within LOCK_NS; locked; time of the latest Sync -/
  run : Nat := 0
  locked : Bool := false
  lastSync : Nat := 0
  deriving DecidableEq, Repr

/-- R358: one PPS input and output of the same number. -/
structure Pps where
  seen : Bool := false
  edgeAt : Nat := 0
  /-- the output rose at -/
  roseAt : Option Nat := none
  deriving DecidableEq, Repr

/-- The switch and the time unit. -/
structure Net where
  fdb : List FdbEnt := []
  ports : Sparse SwPort := []
  streams : Sparse Stream := []
  red : Sparse RedPair := []
  pollAt : Nat := 0
  ptp : Sparse Ptp := []
  pps : Sparse Pps := []
  /-- R356: captures of the eight bases, 128 bytes: 0 to 2 at the latest boundary of a class, 8 and 9 at a PPS_IN edge -/
  capture : Sparse Bytes := []
  /-- time of the latest step of each base, plus 1 (R358) -/
  stepAt : Sparse Nat := []
  deriving DecidableEq, Repr

/-- R365, R366: one receive object. -/
structure CanObj where
  frame : CanFrame := {}
  /-- TB0 in ns at the last bit of the frame -/
  time : Nat := 0
  new : Bool := false
  lost : Bool := false
  /-- the shadow, a frame and its time, and LOST_P -/
  shadow : Option (CanFrame × Nat) := none
  lostP : Bool := false
  /-- the lock's holder: 0 the Gatehouse, else 1 + 3p + class; and since when -/
  holder : Option Nat := none
  lockAt : Nat := 0
  deriving DecidableEq, Repr

/-- R369, R370: a frame at the head of a queue, in the system queue, or in a transmit buffer. -/
structure TxBuf where
  /-- queue 0 to 15, or 16: the system queue -/
  q : Nat := 16
  entry : Nat := 0
  frame : CanFrame := {}
  single : Bool := false
  attempts : Nat := 0
  /-- the TPDO it carries; its transmission does not start before -/
  tpdo : Option Nat := none
  notBefore : Nat := 0
  deriving DecidableEq, Repr

/-- R378: one RPDO. -/
structure Rpdo where
  /-- the latest complete one, as area bytes; one held for the next SYNC -/
  data : Bytes := []
  held : Option Bytes := none
  fresh : Bool := false
  timeout : Bool := false
  at_ : Nat := 0
  deriving DecidableEq, Repr

/-- R379: one TPDO. -/
structure Tpdo where
  /-- mapped bits at the latest Class B commit; they changed and have not been sent -/
  data : Bytes := []
  changed : Bool := false
  /-- SYNC messages since it was sent, and, with a start value, whether it counts them -/
  syncs : Nat := 0
  counting : Bool := false
  sentAt : Nat := 0
  deriving DecidableEq, Repr

/-- One CAN controller. -/
structure CanSt where
  objs : Sparse CanObj := []
  /-- queue heads the feeder has read, by queue; next ring entry of each queue -/
  heads : Sparse (Option TxBuf) := []
  pos : Sparse Nat := []
  system : List TxBuf := []
  /-- transmit buffers 0 to 2, and the one in transmission -/
  bufs : Sparse (Option TxBuf) := []
  sending : Option Nat := none
  /-- BUFFER order: next buffer to fill, queue last served, buffer last started -/
  fillNext : Nat := 0
  lastQueue : Nat := 15
  lastStart : Nat := 2
  /-- ENABLE is set and the 11 recessive bits are awaited -/
  waiting : Bool := false
  recover : Bool := false
  /-- it has been in FAULT: ENABLE runs the memory test first -/
  faulted : Bool := false
  /-- BUS_STUCK: interval in ms, start of the present interval, and when it was left -/
  retryMs : Nat := 10
  stuckAt : Nat := 0
  leftAt : Nat := 0
  /-- the latest frame received was acknowledged -/
  acked : Bool := false
  /-- heartbeats: when produced; when each consumed node was last heard, and lapses -/
  hbAt : Nat := 0
  heardAt : Sparse Nat := []
  lapsed : Sparse Bool := []
  rpdos : Sparse Rpdo := []
  tpdos : Sparse Tpdo := []
  syncAt : Nat := 0
  syncNo : Nat := 0
  emcyAt : Nat := 0
  deriving DecidableEq, Repr

end Sys2Proof.Machine
end

