-- ==== Sys2Proof/Machine/State.lean ====
section
/-! DEFINITION. The machine's state: plain data, holding every piece of state the spec gives the module, and the queue
of commands that wait. -/

namespace Sys2Proof.Machine

/-- Why the machine stops with a fault. -/
inductive Fault where
  /-- A supply or contact stands outside its absolute maximum ratings: "no behaviour is stated and damage may follow"
  (R515). Raised by the supply commands of spec/16. Safe: no behaviour is claimed. -/
  | outsideRatings (contact : String)
  deriving DecidableEq, Repr

/-- Why the model has no next state for a command. -/
inductive Refusal where
  /-- The command has no meaning yet. Raised by the dispatcher alone. Safe: no behaviour is claimed. -/
  | notModelled (mnemonic : String)
  deriving DecidableEq, Repr

/-- The answer given to the latest requester: a code of R63, and the bytes returned. The model's own field. -/
structure Answer where
  code : Nat := 0
  data : Bytes := []
  deriving DecidableEq, Repr

/-- The module. -/
structure State where
  /-- commands that wait, first in, first out -/
  pending : List Instr := []
  /-- ns since State.reset; TB4 counts from the latest BOOT (R12, R355) -/
  now : Nat := 0
  /-- the eight time bases; TB4 is `now` (R12) -/
  tb : Sparse TBase := []
  /-- free values drawn so far (the model's own counter) -/
  fresh : Nat := 0
  /-- dictionary entries that do not hold their default: scalars, and long values -/
  dict : Sparse Int := []
  blob : Sparse Bytes := []
  /-- DICTSTORE: the persistent copies, and the keys whose journalled write is not yet committed (R48) -/
  store : Sparse Bytes := []
  journal : List Nat := []
  /-- values of Pavilion-defined entries, by p × 2^24 + key (R526) -/
  pavVals : Sparse Bytes := []
  /-- the dictionary is loaded and visible (R49) -/
  dictReady : Bool := false
  answer : Answer := {}
  /-- the latest frame sent on each link, by link number (the model's own field) -/
  wire : Sparse Bytes := []
  /-- memory of every kind, by space × 2^40 + address -/
  mem : List Host.Cell := []
  /-- pages of the checkpoint scope stored to since their latest capture, by PAGE field (R218, R219) -/
  dirty : Sparse Bool := []
  router : Router := {}
  sessions : Sparse Session := []
  sdo : Sparse Sdo := []
  scan : Scan := {}
  lanes : Sparse Lane := []
  /-- register banks, by 3 × logical lane + class -/
  banks : Sparse Bank := []
  pavs : Sparse Pav := []
  trestles : Sparse Trestle := []
  plane : Sparse PLane := []
  rotation : Rotation := {}
  fabric : Fabric := {}
  opt : Opt := {}
  /-- digital I/O, IO-Link, converters, loops and HART (spec/09, spec/10) -/
  fld : Field := {}
  /-- safety island, pair logic, Gatehouse and power unit (spec/08, spec/07, spec/15, spec/16) -/
  isl : Island := {}
  pair : PairSt := {}
  gate : Gate := {}
  pow : Power := {}
  /-- Icehouse and keys, update engine, storage, recorder and historian (spec/13, spec/14, spec/17, spec/18) -/
  sec : Sec := {}
  upd : Upd := {}
  sto : Sto := {}
  recd : RecSt := {}
  hist : HistSt := {}
  /-- switch, time unit and CAN controllers (spec/11, spec/12) -/
  net : Net := {}
  can : Sparse CanSt := []
  deriving DecidableEq, Repr


/-- R434: the module right after a power-on reset: mode BOOT, every dictionary entry at its default, memory wiped,
VLOGIC precharged and good. The values the spec does not give are named in the assumption log. -/
def State.reset : State := { pow := { precharged := true, good := true } }

end Sys2Proof.Machine
end

