-- ==== Sys2Proof/Machine/Ops.lean ====
section
/-! DEFINITION. The named operations every family uses: the dictionary, memory, free values, events, time, the module
mode and the rights of a caller. Every effect is a function of the state. -/

namespace Sys2Proof.Machine

/-! ### Codes of R63 -/

def Err.ok : Nat := 0x0000
def Err.unknownIndex : Nat := 0x0001
def Err.unknownSub : Nat := 0x0002
def Err.readDenied : Nat := 0x0003
def Err.writeDenied : Nat := 0x0004
def Err.roleDenied : Nat := 0x0005
def Err.scopeDenied : Nat := 0x0006
def Err.value : Nat := 0x0007
def Err.length : Nat := 0x0008
def Err.state : Nat := 0x0009
def Err.locked : Nat := 0x000A
def Err.busy : Nat := 0x000B
def Err.rateLimited : Nat := 0x000C
def Err.hardware : Nat := 0x000D
def Err.storeFull : Nat := 0x000E
def Err.sessionLimit : Nat := 0x000F
def Err.protocol : Nat := 0x0010
def Err.notApplied : Nat := 0x0011
def Err.itemErrors : Nat := 0x0020

/-- What a command answers. -/
abbrev Out := Host.Outcome State Fault Refusal

/-! ### Guards -/

/-- Apply `f` where the condition holds; otherwise leave the state as it is. -/
def only (b : Bool) (f : State → State) (s : State) : State := if b then f s else s

/-- Apply `f` to each of a list of instances in turn. -/
def each {α : Type} (l : List α) (f : α → State → State) (s : State) : State := l.foldl (fun t a => f a t) s

/-! ### The dictionary as state -/

/-- Defaults that OTP, the installed set or another entry gives (R58, R391, R527). -/
def configDefault (k : Nat) : Option Int :=
  if k = K.commIdVendor then some Config.vendorId.toNat
  else if k = K.commIdRevision then some Config.hwRevision.toNat
  else if k = K.commIdSerial ∨ k = K.ghSerial then some Config.serial.toNat
  else if k = K.ghGrade then some (b2n Config.railGrade)
  else if k / 256 = 0x2041 ∧ 1 ≤ k % 256 ∧ k % 256 ≤ 23 then some ((Config.factorySet k).toNat + 1)
  else if k = K.ckptSchema ∨ k = K.safetyFwVersion ∨ k = K.ghFwVersion ∨ k = K.updRunningId
      ∨ (k / 256 = 0x2303 ∧ 1 ≤ k % 256 ∧ k % 256 ≤ 9) then some ((Config.factorySet k).toNat + 1)
  else if k / 256 = 0x2208 ∧ 1 ≤ k % 256 ∧ k % 256 ≤ 9 then some (Config.rollback (k % 256)).toNat
  else if k / 256 / 8 = 0x5100 / 8 ∧ k % 256 = 1 then some (([64, 32, 64, 0, 256, 1, 1] : List Int).getD (k / 256 - 0x5100) 0)
  else none

/-- The default of a scalar entry. -/
def dictDefault (k : Nat) : Int :=
  match configDefault k with
  | some v => v
  | none =>
    if 0x2400 ≤ k / 256 ∧ k / 256 ≤ 0x2409 ∧ 1 ≤ k % 256 ∧ k % 256 ≤ 128 then
      (evDefault ((k / 256 - 0x2400) * 128 + k % 256 - 1) : Int)
    else match dictFind (k / 256) (k % 256) with
      | some r => r.dflt.getD (r.instanceOf (k / 256)) (r.dflt.headD 0)
      | none => 0

/-- The text of COMM.DEVICE_NAME (R58), "Zalvos ZX7". -/
def deviceName : Bytes := [0x5A, 0x61, 0x6C, 0x76, 0x6F, 0x73, 0x20, 0x5A, 0x58, 0x37]

/-- R525: the entries of type OCT(n) whose length varies. -/
def varLength (k : Nat) : Bool :=
  (0x2800 ≤ k / 256 && k / 256 ≤ 0x28FF && (k % 256 == 0x1D || k % 256 == 0x2D)) || k == K.updManifest || k / 256 == 0x2302
    || k == K.recqResult || k == K.histqResult

/-- R499: an activation record. -/
def actRecord (seq st att slots prev mid pid : Nat) : Bytes :=
  let b := le 4 0x5A584152 ++ le 4 seq ++ le 1 st ++ le 1 att ++ le 2 slots ++ le 2 prev ++ le 2 0 ++ le 8 mid ++ le 8 pid ++ le 28 0
  b ++ le 4 (crc32c b)

/-- The default of a long entry (STR, OCT). -/
def blobDefault (k : Nat) : Bytes :=
  if k = K.commDeviceName then deviceName
  else if k = K.commHwVersion then Config.hwVersion
  else if k = K.commSwVersion then Config.swVersion
  else if k = K.ghPart then Config.partNumber
  else if k = K.svcethMac then padTo 6 Config.serviceMac
  else if k = K.swBridgeMac then padTo 6 Config.bridgeMac
  else if k = K.updActRecord 0 then
    -- R527: the factory set is committed like any later one
    actRecord 1 0 0 0 0 ((Config.factorySet K.updRunningId).toNat + 1) ((Config.factorySet K.updRunningId).toNat + 1)
  else if k = K.lcDeviceCert then padTo 1024 Config.deviceCert
  else if k = K.swVlanTable then overlay (List.replicate 16384 0) 4 (le 4 0x00FF03FF)
  else if 0x4900 ≤ k / 256 ∧ k / 256 ≤ 0x4907 ∧ k % 256 = 0x0D then List.replicate 32 255
  else if varLength k then []
  else match dictFind (k / 256) (k % 256) with
    | some r => if r.ty = .oct then List.replicate r.size 0 else []
    | none => []

/-- The value of a scalar entry. -/
def State.rd (s : State) (k : Nat) : Int := Tab.get s.dict k (dictDefault k)

/-- The value of a scalar entry that is never negative. -/
def State.rdN (s : State) (k : Nat) : Nat := (s.rd k).toNat

/-- A BOOL entry, or a bit read as one. -/
def State.on (s : State) (k : Nat) : Bool := s.rd k ≠ 0

/-- Write a scalar entry. -/
def wr (k : Nat) (v : Int) (s : State) : State := { s with dict := Tab.put s.dict k v (dictDefault k) }

/-- Write a scalar entry with a natural number. -/
def wrN (k : Nat) (v : Nat) (s : State) : State := wr k (v : Int) s

/-- Write a BOOL entry. -/
def wrB (k : Nat) (b : Bool) (s : State) : State := wrN k (b2n b) s

/-- Increment a counter that saturates at `cap`. -/
def inc (k cap : Nat) (s : State) : State := wrN k (satInc cap (s.rdN k)) s

/-- The value of a long entry. -/
def State.blobOf (s : State) (k : Nat) : Bytes := Tab.get s.blob k (blobDefault k)

/-- Write a long entry. -/
def wrBlob (k : Nat) (b : Bytes) (s : State) : State := { s with blob := Tab.put s.blob k b (blobDefault k) }

def U8.max : Nat := 0xFF
def U16.max : Nat := 0xFFFF
def U32.max : Nat := 0xFFFFFFFF
def U64.max : Nat := 0xFFFFFFFFFFFFFFFF

/-! ### Answers, wires, free values -/

/-- Answer the requester with a code of R63 and data. -/
def reply (c : Nat) (d : Bytes) (s : State) : State := { s with answer := { code := c, data := d } }

/-- Send a frame on a link; the links are numbered by `Wire`. -/
def send (link : Nat) (b : Bytes) (s : State) : State := { s with wire := Tab.put s.wire link b [] }

def Wire.heartbeat : Nat := 1
def Wire.epoch : Nat := 2
def Wire.refLine : Nat := 3
def Wire.refEth : Nat := 4
def Wire.safety : Nat := 5
def Wire.health : Nat := 6
def Wire.handover : Nat := 7
def Wire.bulk : Nat := 8
def Wire.event : Nat := 9
def Wire.control : Nat := 10
def Wire.optical : Nat := 11
def Wire.port (n : Nat) : Nat := 100 + n
def Wire.can (c : Nat) : Nat := 200 + c
def Wire.sdo (c : Nat) : Nat := 220 + c
def Wire.hart (m : Nat) : Nat := 300 + m
def Wire.iol (n : Nat) : Nat := 400 + n
def Wire.dap (n : Nat) : Nat := 1000 + n

/-- The free value the next draw gives. -/
def State.free (s : State) (bits : Nat) : Nat := (Config.freeValue s.fresh).toNat % 2 ^ bits

/-- Advance to the next free value. -/
def drawn (s : State) : State := { s with fresh := s.fresh + 1 }

/-! ### Memory: spaces of bytes -/

/-- Shared SRAM, DRAM, the frozen input copy and the working output copy, at their lane addresses (R23). -/
def Mem.fabric : Nat := 0
/-- Input staging copy, output committed copy, C snapshot (R15, R73): offsets in the image. -/
def Mem.staging : Nat := 1
def Mem.committed : Nat := 2
def Mem.snapshot : Nat := 3
/-- The recorder ring (R405). -/
def Mem.ring : Nat := 4
/-- The words remote output frames carry: previous values stay where no END counted (R18). -/
def Mem.remote : Nat := 5
/-- R394: the store of Pavilion p. -/
def Mem.pavstore (p : Nat) : Nat := 100 + p
/-- I-TCM, D-TCM of logical lane l (R23). -/
def Mem.tcm (l : Nat) : Nat := 16 + l

/-- The key of a byte. -/
def cell (sp a : Nat) : Nat := sp * 2 ^ 40 + a

/-- What a byte that nothing has written reads as: 0. Every reset wipes SRAM and TCM and zero-fills DRAM (R434). -/
def emptyByte : Byte := 0

/-- The canonical form of memory: addresses strictly rising, and no entry equal to what an unlisted address reads as. -/
def Memory.wf (m : List Host.Cell) : Bool := Tab.wf (fun _ => emptyByte) m

/-- One byte of memory. -/
def State.byte (s : State) (sp a : Nat) : Byte := Tab.get s.mem (cell sp a) emptyByte

/-- `n` bytes of memory. -/
def State.bytesAt (s : State) (sp a n : Nat) : Bytes := (List.range n).map (fun i => s.byte sp (a + i))

/-- A little-endian number of `n` bytes (R5, R11). -/
def State.load (s : State) (sp a n : Nat) : Nat := ofLe (s.bytesAt sp a n)

/-- Write one byte in a list of cells. -/
def Mem.put (m : List Host.Cell) (sp a : Nat) (v : Byte) : List Host.Cell := Tab.put m (cell sp a) v emptyByte

/-- Write a run of bytes in a list of cells. -/
def Mem.putAll (m : List Host.Cell) (sp a : Nat) (b : Bytes) : List Host.Cell :=
  match b with
  | [] => m
  | x :: r => Mem.putAll (Mem.put m sp a x) sp (a + 1) r

/-- Input image (frozen) and output image (working) bases (R23). -/
def inBase : Nat := 0x0200000000
def outBase : Nat := 0x0200040000

/-- R217, R219: the PAGE field of the page that holds a byte, for bytes the checkpoint scope may take in. -/
def pageOf (sp a : Nat) : Option Nat :=
  if sp = Mem.fabric ∧ 0x0100000000 ≤ a ∧ a < 0x0108000000 then some ((a - 0x0100000000) / 4096)
  else if sp = Mem.fabric ∧ outBase ≤ a ∧ a < outBase + 0x40000 then some (2 * 2 ^ 28 + (a - outBase) / 4096)
  else if sp = Mem.committed then some (3 * 2 ^ 28 + a / 4096)
  else if sp = Mem.snapshot ∧ 0x8000 ≤ a then some (4 * 2 ^ 28 + (a - 0x8000) / 4096)
  else if 16 ≤ sp ∧ sp < 28 ∧ 0x100000 ≤ a ∧ a < 0x200000 then some (2 ^ 28 + (sp - 16) * 256 + (a - 0x100000) / 4096)
  else none

/-- R218: the pages of bytes a to a + n − 1 are dirty. -/
def markDirty (sp a n : Nat) (s : State) : State :=
  if n = 0 then s
  else { s with dirty := ((List.range ((a + n - 1) / 4096 + 1 - a / 4096)).map (fun i => (a / 4096 + i) * 4096)).foldl (fun d x =>
    match pageOf sp x with
    | some g => Tab.put d g true false
    | none => d) s.dirty }

/-- Write bytes. -/
def store (sp a : Nat) (b : Bytes) (s : State) : State := markDirty sp a b.length { s with mem := Mem.putAll s.mem sp a b }

/-- Write one bit: only that bit changes (R114). -/
def storeBit (sp a i : Nat) (v : Bool) (s : State) : State :=
  store sp a [BitVec.ofNat 8 (setBit (s.byte sp a).toNat i v)] s

/-- One bit of memory. -/
def State.bit (s : State) (sp a i : Nat) : Bool := bitOf (s.byte sp a).toNat i

/-- The cells after bytes `src` to `src + n − 1` are copied over bytes `dst` to `dst + n − 1`, as if through a buffer. -/
def Mem.copy (m : List Host.Cell) (src dst n : Nat) : List Host.Cell :=
  m.filter (fun c => c.1 < dst)
    ++ (m.filter (fun c => src ≤ c.1 && c.1 < src + n)).map (fun c => (c.1 - src + dst, c.2))
    ++ m.filter (fun c => dst + n ≤ c.1)

/-- Copy a range of memory. -/
def copyMem (sp a sp' a' n : Nat) (s : State) : State := markDirty sp' a' n { s with mem := Mem.copy s.mem (cell sp a) (cell sp' a') n }

/-- Clear a range of memory. -/
def clearMem (sp a n : Nat) (s : State) : State := markDirty sp a n
  { s with mem := s.mem.filter (fun c => c.1 < cell sp a || cell sp a + n ≤ c.1) }

/-- Put bytes into the staging input copy (R15). -/
def stage (off : Nat) (b : Bytes) (s : State) : State := store Mem.staging off b s

/-! ### Point words (R282) -/

/-- Bit 31 of a point word: the point or area is used. -/
def ptValid (w : Nat) : Bool := bitOf w 31
/-- Byte offset of a point word. -/
def ptOff (w : Nat) : Nat := bits w 20 3 
/-- Bit number of a point word. -/
def ptBit (w : Nat) : Nat := bits w 2 0

/-- Stage one input bit at a valid point word. -/
def stagePoint (w : Nat) (v : Bool) (s : State) : State := only (ptValid w) (storeBit Mem.staging (ptOff w) (ptBit w) v) s

/-- Stage an input area at a valid point word. -/
def stageArea (w : Nat) (b : Bytes) (s : State) : State := only (ptValid w) (stage (ptOff w) b) s

/-! ### Time -/

/-- R352: a time base in units of 2⁻¹⁶ ns; a base whose SOURCE is TB is the larger of 0 and its source plus OFFSET. -/
def State.tbThrough (s : State) (fuel n : Nat) : Nat :=
  match fuel with
  | 0 => (Tab.get s.tb n {}).val
  | fuel + 1 =>
    if n = 4 then (s.now - s.gate.bootAt) * 65536
    else if s.rdN (K.tbSource n) = 2 then ((s.tbThrough fuel (s.rdN (K.tbSrcArg n)) : Int) + s.rd (K.tbOffset n) * 65536).toNat
    else (Tab.get s.tb n {}).val

def State.tbVal (s : State) (n : Nat) : Nat := s.tbThrough 8 n

/-- A time base in ns. -/
def State.tbNs (s : State) (n : Nat) : Nat := s.tbVal n / 65536

/-- T96 (R5): 48-bit seconds, 32-bit ns, 16-bit fraction. -/
def t96 (v : Nat) : Nat := (v / 65536 / 1000000000 % 2 ^ 48) * 2 ^ 48 + (v / 65536 % 1000000000) * 65536 + v % 65536

/-- The value in units of 2⁻¹⁶ ns of a T96. -/
def ofT96 (t : Nat) : Nat := ((t / 2 ^ 48) * 1000000000 + t / 65536 % 2 ^ 32) * 65536 + t % 65536

/-- A time base as T96. -/
def State.tb96 (s : State) (n : Nat) : Nat := t96 (s.tbVal n)

/-- A time base as the U64 (seconds × 10⁹ + ns) mod 2⁶⁴. -/
def State.tb64 (s : State) (n : Nat) : Nat := s.tbNs n % 2 ^ 64

/-- R13: the time base is synchronised. -/
def State.synced (s : State) (n : Nat) : Bool := s.rdN (K.tbSync n) = 0

/-- R66: scan time in ns. -/
def State.scanTime (s : State) : Int := (s.tbNs 0 : Int) - s.rd K.scanStepSum

/-- `d` ns have passed since the TB4 time `t`. -/
def State.past (s : State) (t d : Nat) : Bool := t + d ≤ s.now

def us : Nat := 1000
def ms : Nat := 1000000
def sec : Nat := 1000000000

/-! ### Module mode (R427) -/

def Mode.icehouse : Nat := 0
def Mode.dormant : Nat := 1
def Mode.boot : Nat := 2
def Mode.provision : Nat := 3
def Mode.standby : Nat := 4
def Mode.takeover : Nat := 5
def Mode.active : Nat := 6
def Mode.handover : Nat := 7
def Mode.service : Nat := 8
def Mode.update : Nat := 9
def Mode.safeHalt : Nat := 10
def Mode.alarm : Nat := 11

/-- R427: the present mode. -/
def State.mode (s : State) : Nat := s.rdN K.modeNow

/-- R428: ACTIVE, with SERVICE counting as ACTIVE. -/
def State.activeLike (s : State) : Bool := s.mode = Mode.active || s.mode = Mode.service

/-- R352, R355: SOURCE in force of base n: a FREE base of a STANDBY module, TB4 aside, runs as PARTNER. -/
def State.runningAs (s : State) (n : Nat) : Nat :=
  if n ≠ 4 && s.rdN (K.tbSource n) = 0 && s.pair.op = 1 && s.rdN K.modeNow = 4 then 3 else s.rdN (K.tbSource n)

/-- R210: PAIR operation, as PAIR.MODE stood at BOOT. -/
def State.pairOp (s : State) : Bool := s.pair.op = 1

/-- R70: the engine state, 0 IDLE, 1 FREEZE_ONLY, 2 RUNNING. -/
def State.engine (s : State) : Nat := s.rdN K.scanEngineState

/-- R474: the life-cycle state is OWNED. -/
def State.owned (s : State) : Bool := s.rdN K.lcState = 2

/-! ### Events (R31, R33) -/

/-- The configuration entry of event n (R10). -/
def State.evCfg (s : State) (n : Nat) : Nat := s.rdN (K.evConfig n)

/-- R31: raise event `n` with a payload, a severity case and an owner. -/
def raiseWith (n : Nat) (payload : Bytes) (sev owner : Option Nat) (s : State) : State :=
  let p := Tab.get s.router.pend n {}
  let queue := bitOf (s.evCfg n) 8 && !(s.router.order.contains n)
  let p' : EvPend := { count := satInc U32.max p.count, payload := payload, sev := sev, owner := owner
                       at_ := if queue then s.now else p.at_ }
  { s with router := { s.router with
      pend := Tab.put s.router.pend n p' {}
      order := if queue then s.router.order ++ [n] else s.router.order } }

/-- Raise an event with its configured severity. -/
def raise (n : Nat) (payload : Bytes) (s : State) : State := raiseWith n payload none none s

/-- Raise an event with the severity of its case (R529). -/
def raiseSev (n : Nat) (payload : Bytes) (sev : Nat) (s : State) : State := raiseWith n payload (some sev) none s

/-- Raise an event owned by a Pavilion (R35). -/
def raiseOwned (n : Nat) (payload : Bytes) (owner : Nat) (s : State) : State :=
  raiseWith n payload none (if owner < 256 then some owner else none) s

/-- Clear a latched status bit. -/
def unlatch (n : Nat) (s : State) : State :=
  { s with router := { s.router with latched := Tab.put s.router.latched n false false } }

/-! ### Pavilion entries kept in two halves -/

/-- `0x2632`, `0x2633`: state of Pavilion p. -/
def kPavState (p : Nat) : Nat := if p < 128 then K.pavState p else K.pavStateHi (p - 128)
/-- `0x2730`, `0x2731`: trap policy of Pavilion p. -/
def kTrapPolicy (p : Nat) : Nat := if p < 128 then K.arbourTrapPolicy p else K.arbourTrapPolicyHi (p - 128)
/-- `0x2732`, `0x2733`: last-trap record of Pavilion p. -/
def kLastTrap (p : Nat) : Nat := if p < 128 then K.arbourLastTrap p else K.arbourLastTrapHi (p - 128)
/-- `0x2046`, `0x2047`: last refused window access of Pavilion p. -/
def kWinErr (p : Nat) : Nat := if p < 128 then K.dictWinLasterr p else K.dictWinLasterrHi (p - 128)

def State.pavState (s : State) (p : Nat) : Nat := s.rdN (kPavState p)
/-- R85: program states. -/
def Prog.stop : Nat := 0
def Prog.run : Nat := 1
def Prog.hold : Nat := 2
/-- Pavilion p is in RUN or HOLD. -/
def State.pavBusy (s : State) (p : Nat) : Bool := s.pavState p ≠ Prog.stop

def State.pav (s : State) (p : Nat) : Pav := Tab.get s.pavs p {}
def updPav (p : Nat) (f : Pav → Pav) (s : State) : State := { s with pavs := Tab.upd s.pavs p {} f }
def State.task (s : State) (p c : Nat) : Task := Tab.get s.scan.tasks (3 * p + c) {}
def updTask (p c : Nat) (f : Task → Task) (s : State) : State :=
  { s with scan := { s.scan with tasks := Tab.upd s.scan.tasks (3 * p + c) {} f } }
def State.lane (s : State) (l : Nat) : Lane := Tab.get s.lanes l {}
def updLane (l : Nat) (f : Lane → Lane) (s : State) : State := { s with lanes := Tab.upd s.lanes l {} f }
def State.bank (s : State) (l c : Nat) : Bank := Tab.get s.banks (3 * l + c) {}
def setBank (l c : Nat) (b : Bank) (s : State) : State := { s with banks := Tab.put s.banks (3 * l + c) b {} }
def updScan (f : Scan → Scan) (s : State) : State := { s with scan := f s.scan }
def State.session (s : State) (n : Nat) : Session := Tab.get s.sessions n {}
def updSession (n : Nat) (f : Session → Session) (s : State) : State := { s with sessions := Tab.upd s.sessions n {} f }
def State.trestle (s : State) (t : Nat) : Trestle := Tab.get s.trestles t {}
def updTrestle (t : Nat) (f : Trestle → Trestle) (s : State) : State := { s with trestles := Tab.upd s.trestles t {} f }
def State.pl (s : State) (n : Nat) : PLane := Tab.get s.plane n {}
def updPl (n : Nat) (f : PLane → PLane) (s : State) : State := { s with plane := Tab.upd s.plane n {} f }
def updRot (f : Rotation → Rotation) (s : State) : State := { s with rotation := f s.rotation }

end Sys2Proof.Machine
end

