-- ==== Sys2Proof/Machine/Image.lean ====
section
/-! DEFINITION. The image spaces: partitions (R71), remote stations (R94), the owner of every image bit (R190), the
protection regions of a Pavilion (R183 to R190). -/

namespace Sys2Proof.Machine

/-! ### Stations (R94) -/

/-- Record `st` of the station table. -/
def State.station (s : State) (st : Nat) : Bytes := slice (s.blobOf (K.rioStationTable (st / 256))) (32 * (st % 256)) 32

def Sta.enabled (r : Bytes) : Bool := bitOf (byteAt r 0) 0
/-- 0 Class A, 1 Class B. -/
def Sta.cls (r : Bytes) : Nat := b2n (bitOf (byteAt r 0) 1)
def Sta.owner (r : Bytes) : Nat := byteAt r 1
def Sta.inOff (r : Bytes) : Nat := fieldAt r 4 4
def Sta.inLen (r : Bytes) : Nat := fieldAt r 8 2
def Sta.outLen (r : Bytes) : Nat := fieldAt r 10 2
def Sta.outOff (r : Bytes) : Nat := fieldAt r 12 4
def Sta.pathOff (r : Bytes) : Nat := fieldAt r 16 4
def Sta.inStream (r : Bytes) : Nat := fieldAt r 20 2
def Sta.outStream (r : Bytes) : Nat := fieldAt r 22 2

/-- The station table lists nothing that is not its default. -/
def State.stationsListed (s : State) : Bool := (List.range 4).any (fun j => s.blobOf (K.rioStationTable j) ≠ blobDefault (K.rioStationTable j))

/-- The stations that are enabled. -/
def State.stations (s : State) : List Nat :=
  if s.stationsListed then (List.range 1024).filter (fun st => Sta.enabled (s.station st)) else []

/-- A field of the status record of a station (R96). -/
def State.staStatus (s : State) (st o n : Nat) : Nat := fieldAt (s.blobOf K.rioStationStatus) (16 * st + o) n

/-- Write a field of the status record of a station. -/
def setStaStatus (st o n v : Nat) (s : State) : State :=
  wrBlob K.rioStationStatus (overlay (s.blobOf K.rioStationStatus) (16 * st + o) (le n v)) s

/-! ### Partitions (R71) -/

/-- Word index `w` belongs to Class C: it falls inside a valid range of `0x2614`. -/
def State.inCRange (s : State) (w : Nat) : Bool :=
  (List.range 64).any (fun j =>
    let r := s.rdN (K.scanOutrange j)
    bitOf r 31 && bits r 30 16 ≤ w && w ≤ bits r 14 0)

/-- The class of an output byte offset: 0 A, 1 B, 2 C. -/
def State.outClass (s : State) (off : Nat) : Nat := if off < 0x8000 then 0 else if s.inCRange (off / 8) then 2 else 1

/-- The class of an input byte offset. -/
def inClass (off : Nat) : Nat := if off < 0x8000 then 0 else 1

/-! ### Owners (R190) -/

/-- An owned run of image bits: output image or not, owner, first bit, number of bits. -/
structure Area where
  out : Bool
  owner : Nat
  first : Nat
  len : Nat
  deriving DecidableEq, Repr

def ptArea (out : Bool) (owner w bytes : Nat) : List Area :=
  if ptValid w && owner < 256 then [{ out := out, owner := owner, first := 8 * ptOff w, len := 8 * bytes }] else []

def ptPoint (out : Bool) (owner w : Nat) : List Area :=
  if ptValid w && owner < 256 then [{ out := out, owner := owner, first := 8 * ptOff w + ptBit w, len := 1 }] else []

def up8 (n : Nat) : Nat := (n + 7) / 8 * 8

/-- Bits the mapping of a PDO gives its area, rounded up to whole 8-byte words (R377). -/
def State.pdoBytes (s : State) (mapIdx : Nat) : Nat :=
  let b := ((List.range 64).map (fun j =>
    let m := s.rdN (256 * mapIdx + 1 + j)
    if bits m 31 16 / 16 = 0x4C0F / 16 ∧ bits m 31 16 % 16 = 15 then bits m 7 0 else 0)).foldl (· + ·) 0
  up8 ((b + 7) / 8)

/-- The areas that one owner entry of the dictionary stands for. Channels with no listed owner own nothing. -/
def State.areasOf (s : State) (k owner : Nat) : List Area :=
  let i := k / 256
  let sub := k % 256
  if 0x4000 ≤ i ∧ i < 0x4080 ∧ sub = 6 then
    ptPoint false owner (s.rdN (K.diPoint (i - 0x4000))) ++ ptArea false owner (s.rdN (K.diExt (i - 0x4000))) 16
  else if 0x4080 ≤ i ∧ i < 0x40E0 ∧ sub = 4 then ptPoint true owner (s.rdN (K.doPoint (i - 0x4080)))
  else if 0x40E0 ≤ i ∧ i < 0x40E8 ∧ sub = 5 then ptArea false owner (s.rdN (K.fsupDiagPoint (i - 0x40E0))) 8
  else if 0x4200 ≤ i ∧ i < 0x4220 ∧ sub = 2 then
    let n := i - 0x4200
    ptArea false owner (s.rdN (K.iolInPoint n)) (up8 (8 + s.rdN (K.iolInLen n)))
      ++ ptArea true owner (s.rdN (K.iolOutPoint n)) (up8 (s.rdN (K.iolOutLen n)))
  else if 0x4310 ≤ i ∧ i < 0x4330 ∧ sub = 2 then ptArea false owner (s.rdN (K.aiPoint (i - 0x4310))) 16
  else if 0x4330 ≤ i ∧ i < 0x4340 ∧ sub = 3 then
    ptArea true owner (s.rdN (K.aoOutPoint (i - 0x4330))) 8 ++ ptArea false owner (s.rdN (K.aoInPoint (i - 0x4330))) 8
  else if 0x4340 ≤ i ∧ i < 0x4370 ∧ sub = 4 then ptArea false owner (s.rdN (K.hartPoint (i - 0x4340))) 32
  else if 0x4C00 ≤ i ∧ i < 0x4C80 ∧ i % 16 = 0 ∧ sub = 0x0A then ptArea false owner (s.rdN (K.canStatusPoint ((i - 0x4C00) / 16))) 32
  else if 0x4C00 ≤ i ∧ i < 0x4C80 ∧ i % 16 = 4 ∧ 1 ≤ sub ∧ sub ≤ 64 then
    let w := s.rdN k
    ptArea false (bits w 47 32) (bits w 31 0) (s.pdoBytes (0x1600 + 64 * ((i - 0x4C00) / 16) + sub - 1))
  else if 0x4C00 ≤ i ∧ i < 0x4C80 ∧ i % 16 = 5 ∧ 1 ≤ sub ∧ sub ≤ 64 then
    let w := s.rdN k
    ptArea true (bits w 47 32) (bits w 31 0) (s.pdoBytes (0x1A00 + 64 * ((i - 0x4C00) / 16) + sub - 1))
  else []

/-- R274: the island's active value of a section-12 entry. -/
def State.active (s : State) (k : Nat) : Int := Tab.get s.isl.active k (dictDefault k)
def State.activeN (s : State) (k : Nat) : Nat := (s.active k).toNat

/-- R273: the status block's area. -/
def State.statusArea (s : State) : List Area :=
  let o := s.activeN K.safetyStatusOffset
  let p := s.activeN K.safetyStatusOwner
  if o < 0x40000 ∧ p < 256 then [{ out := false, owner := p, first := 8 * o, len := 512 }] else []

/-- Every owned area of both images. -/
def State.areas (s : State) : List Area :=
  s.statusArea ++ s.dict.flatMap (fun e => s.areasOf e.1 e.2.toNat)
    ++ s.stations.flatMap (fun st =>
      let r := s.station st
      (if Sta.inLen r > 0 then [{ out := false, owner := Sta.owner r, first := 8 * Sta.inOff r, len := 8 * Sta.inLen r : Area }] else [])
        ++ (if Sta.outLen r > 0 then [{ out := true, owner := Sta.owner r, first := 8 * Sta.outOff r, len := 8 * Sta.outLen r }] else []))

/-- The owner of an image bit (R190). -/
def ownerIn (as : List Area) (out : Bool) (bit : Nat) : Option Nat :=
  (as.find? (fun a => a.out == out && a.first ≤ bit && bit < a.first + a.len)).map (·.owner)

/-! ### Regions (R183) -/

/-- Region r of a Pavilion: permissions, flags and bounds. -/
structure Region where
  r : Bool := false
  w : Bool := false
  x : Bool := false
  image : Bool := false
  exported : Bool := false
  imported : Bool := false
  retain : Bool := false
  lo : Nat := 0
  hi : Nat := 0
  no : Nat := 0
  deriving DecidableEq, Repr

/-- The region that a START and an END word describe. -/
def regionOf (no st en : Nat) : Region :=
  { r := bitOf st 40, w := bitOf st 41, x := bitOf st 42, image := bitOf st 43, exported := bitOf st 44
    imported := bitOf st 45, retain := bitOf st 46, lo := bits st 39 3 * 8, hi := bits en 39 0, no := no }

/-- The used regions of Pavilion p: R, W and X not all 0. -/
def State.regions (s : State) (p : Nat) : List Region :=
  ((List.range 64).map (fun r => regionOf r (s.rdN (K.regionWord p (2 * r))) (s.rdN (K.regionWord p (2 * r + 1))))).filter
    (fun g => g.r || g.w || g.x)

/-- R186: the table is ARMED. -/
def State.armed (s : State) (p : Nat) : Bool := s.rdN (K.pavRegionArm p) = 1

def Region.covers (g : Region) (a : Nat) : Bool := g.lo ≤ a && a ≤ g.hi
def Region.within (g : Region) (lo hi : Nat) : Bool := lo ≤ g.lo && g.hi ≤ hi
def Region.shares (g h : Region) : Bool := g.lo ≤ h.hi && h.lo ≤ g.hi

/-- R189: the import of p is valid. -/
def State.importValid (s : State) (p : Nat) (g : Region) : Bool :=
  (List.range 256).any (fun q => q ≠ p && s.armed q && mapBit (s.blobOf (K.pavShareTo q)) p
    && (s.regions q).any (fun e => e.exported && g.within e.lo e.hi))

/-- R188: p may read the byte at address a. -/
def State.mayRead (s : State) (p a : Nat) : Bool :=
  s.armed p && (s.regions p).any (fun g => g.covers a && g.r && (!g.imported || s.importValid p g))

/-- R188: p may write the byte at address a. -/
def State.mayWrite (s : State) (p a : Nat) : Bool := s.armed p && (s.regions p).any (fun g => g.covers a && g.w)

/-- R188: p may fetch from address a, or read it through the K space. -/
def State.mayExec (s : State) (p a : Nat) : Bool := s.armed p && (s.regions p).any (fun g => g.covers a && g.x)
def State.mayConst (s : State) (p a : Nat) : Bool := s.armed p && (s.regions p).any (fun g => g.covers a && (g.r || g.x))

/-- R190: an image byte as Pavilion p reads it: bits of points of other owners, and bits without an owner, read 0,
unless an import of p covers the byte. -/
def State.maskByte (s : State) (as : List Area) (p : Nat) (out : Bool) (off : Nat) (v : Byte) : Byte :=
  let base := if out then outBase else inBase
  let imp := (s.regions p).any (fun g => g.imported && g.covers (base + off) && s.importValid p g)
  if imp then v
  else BitVec.ofNat 8 ((List.range 8).foldl (fun a i =>
    if ownerIn as out (8 * off + i) = some p && bitOf v.toNat i then a + 2 ^ i else a) 0)

/-- R190: every bit of an output byte run belongs to p. -/
def ownsOut (as : List Area) (p off n : Nat) : Bool :=
  (List.range (8 * n)).all (fun i => ownerIn as true (8 * off + i) = some p)

/-- R203: 64 KiB units of DRAM in the used regions of p, imports excluded. -/
def State.dramUsed (s : State) (p : Nat) : Nat :=
  (((s.regions p).filter (fun g => 0x0400000000 ≤ g.lo && g.hi ≤ 0x07FFFFFFFF && !g.imported)).map
    (fun g => (g.hi + 1 - g.lo + 65535) / 65536)).foldl (· + ·) 0

end Sys2Proof.Machine
end

