-- ==== Sys2Proof/Machine/HistOps.lean ====
section
/-! DEFINITION. The historian: tags, samples, the compressor, lossless tags and totalisers (spec/14, R414 to R424). -/

namespace Sys2Proof.Machine

def updHist (f : HistSt → HistSt) (s : State) : State := { s with hist := f s.hist }
def State.tagSt (s : State) (h : Nat) : TagSt := Tab.get s.hist.tags h {}
def updTag (h : Nat) (f : TagSt → TagSt) (s : State) : State := updHist (fun x => { x with tags := Tab.upd x.tags h {} f }) s
def State.tot (s : State) (u : Nat) : TotSt := Tab.get s.hist.tots u {}
def updTot (u : Nat) (f : TotSt → TotSt) (s : State) : State := updHist (fun x => { x with tots := Tab.upd x.tots u {} f }) s

/-! ### Tag records (R414) -/

/-- Record of tag h. -/
def State.tagRec (s : State) (h : Nat) : Bytes := slice (s.blobOf (K.histTagTable (h / 16384) (h / 256 % 64))) (32 * (h % 256)) 32

def Tg.enabled (r : Bytes) : Bool := bitOf (byteAt r 0) 0
def Tg.cls (r : Bytes) : Nat := bits (byteAt r 0) 2 1
def Tg.out (r : Bytes) : Bool := bitOf (byteAt r 0) 3
/-- 0 BOOL, 1 I32, 2 U32, 3 F32, 4 F64, 5 STRING -/
def Tg.kind (r : Bytes) : Nat := byteAt r 1
def Tg.strlen (r : Bytes) : Nat := byteAt r 2
def Tg.source (r : Bytes) : Nat := fieldAt r 4 4
def Tg.quality (r : Bytes) : Nat := fieldAt r 8 4
def Tg.epsilon (r : Bytes) : Nat := fieldAt r 12 4
def Tg.quantum (r : Bytes) : Nat := fieldAt r 16 4
def Tg.minInterval (r : Bytes) : Nat := fieldAt r 20 4
def Tg.maxInterval (r : Bytes) : Nat := fieldAt r 24 4
def Tg.divider (r : Bytes) : Nat := fieldAt r 28 2
/-- R415: an analog tag: numeric, with ε above 0. -/
def Tg.analog (r : Bytes) : Bool := 1 ≤ Tg.kind r && Tg.kind r ≤ 4 && f32.lt 0 (Tg.epsilon r)

/-- Tag tables that hold any record. -/
def State.tagTables (s : State) : List Nat := (s.blob.map (·.1)).filter (fun k => 0x5510 ≤ k / 256 && k / 256 ≤ 0x5513 && 1 ≤ k % 256 && k % 256 ≤ 64)

/-- Enabled tags. -/
def State.tags (s : State) : List Nat :=
  (s.tagTables.flatMap (fun k => (List.range 256).map (fun i => (k / 256 - 0x5510) * 16384 + (k % 256 - 1) * 256 + i))).filter
    (fun h => Tg.enabled (s.tagRec h))

/-- R415: samples per second of a tag. -/
def State.tagPeriod (s : State) (r : Bytes) : Nat := s.rdN (K.scanPeriod (Tg.cls r)) * Tg.divider r

/-- HIST.LOAD and HIST.TAGS follow the tag table (R415). -/
def histCount (s : State) : State :=
  let l := s.tags
  let load := (l.map (fun h => 1000000 / max 1 (s.tagPeriod (s.tagRec h)))).foldl (· + ·) 0
  wrN K.histTags l.length (wrN K.histLoad load s)

/-! ### Values -/

/-- Bytes of a tag's kind. -/
def kindBytes (r : Bytes) : Nat := ([1, 4, 4, 4, 8, Tg.strlen r] : List Nat).getD (Tg.kind r) 0

/-- R416: the bytes of the sample, from the copy the tag names. -/
def State.tagRaw (s : State) (r : Bytes) : Bytes :=
  let w := Tg.source r
  if !ptValid w then List.replicate (kindBytes r) 0
  else
    let sp := if Tg.out r then Mem.committed else Mem.fabric
    let base := (if Tg.out r then 0 else inBase) + ptOff w
    if Tg.kind r = 0 then le 1 (b2n (s.bit sp base (ptBit w))) else s.bytesAt sp base (kindBytes r)

/-- A raw value as binary64. -/
def rawF64 (r v : Bytes) : Nat :=
  match Tg.kind r with
  | 1 => f64.ofInt (signed 4 (ofLe v))
  | 2 => f64.ofInt (ofLe v)
  | 3 => (f32.conv f64 (ofLe v)).1
  | 4 => ofLe v
  | 0 => f64.ofInt (ofLe v)
  | _ => 0

/-- R421: bytes 8 onward of a stored point: the value. -/
def pointValue (r v : Bytes) : Bytes :=
  match Tg.kind r with
  | 0 => padTo 8 v
  | 5 => le 8 v.length ++ v
  | _ => le 8 (rawF64 r v)

/-- R416: the quality state of a sample: 0 good, 2 BAD, 4 STALE (the bits of R421). -/
def State.tagState (s : State) (r v : Bytes) : Nat :=
  let q := Tg.quality r
  let bad := (ptValid q && (if Tg.out r then s.bit Mem.committed (ptOff q) (ptBit q) else s.bit Mem.fabric (inBase + ptOff q) (ptBit q)))
    || (3 ≤ Tg.kind r && Tg.kind r ≤ 4 && f64.notFinite (rawF64 r v))
  let o := ptOff (Tg.source r)
  let stale := !Tg.out r && s.stations.any (fun st =>
    let x := s.station st
    Sta.inOff x ≤ o && o < Sta.inOff x + Sta.inLen x && bitOf (s.staStatus st 6 1) 0)
  if bad then 2 else if stale then 4 else 0

/-! ### Stored points (R417 to R421) -/

/-- Bytes of a stored point. -/
def Pt.size (p : Pt) : Nat := 16 + up8 p.val.length

/-- R420: points reach HISTORIAN while it takes writes; its oldest are overwritten when it is full. -/
def histDrain (s : State) : State :=
  if (s.rdN K.storState = 2 ∨ s.rdN K.storState = 3) ∧ s.rdN (K.partState 3) ≠ 3 ∧ !s.pow.flushing then
    let cap := s.rdN (K.partSize 3) * 67108864
    let add := (s.hist.buffered.map Pt.size).foldl (· + ·) 0
    let all := s.hist.points ++ s.hist.buffered
    let used := (all.map Pt.size).foldl (· + ·) 0
    let keep := (all.foldl (fun (a : List Pt × Nat) x => if cap < a.2 then (a.1, a.2 - x.size) else (a.1 ++ [x], a.2)) (([] : List Pt), used)).1
    let s := updHist (fun x => { x with points := keep, buffered := [] }) s
    let s := wrN (K.partWritten 3) (s.rdN (K.partWritten 3) + add) (wrN (K.partUsed 3) ((keep.map Pt.size).foldl (· + ·) 0) s)
    wrN K.histBufferUsed 0 s
  else s

def histBufferBytes : Nat := 4194304

/-- R417: `store`: a point is appended to the tag's series, through the buffer of R420. -/
def histStore (h t : Nat) (val : Bytes) (flags : Nat) (s : State) : State :=
  let p : Pt := { tag := h, t := t, val := val, flags := flags + (if s.synced 3 then 0 else 64), era := s.rdN (K.tbEra 3) % 65536 }
  let used := s.rdN K.histBufferUsed + p.size
  let s := updTag h (fun x => { x with storedAt := t }) s
  if histBufferBytes < used ∨ s.hist.overflow.isSome then
    updHist (fun x => { x with overflow := some (x.overflow.getD s.now) }) s
  else
    wrN K.histPoints (s.rdN K.histPoints + 1) (wrN K.histBufferUsed used (updHist (fun x => { x with buffered := x.buffered ++ [p] }) s))

def dadd (x y : Nat) : Nat := (f64.add x y).1
def dsub (x y : Nat) : Nat := (f64.sub x y).1
def dmul (x y : Nat) : Nat := (f64.mul x y).1
def ddiv (x y : Nat) : Nat := (f64.div x y).1
def dmax (x y : Nat) : Nat := if f64.lt x y then y else x
def dmin (x y : Nat) : Nat := if f64.lt y x then y else x

/-- R417: q × (x / q rounded to the nearest integer, ties to even). -/
def rndTo (q x : Nat) : Nat :=
  match f64.read (ddiv x q) with
  | .fin sg m e => dmul q (f64.ofInt (finToInt true sg m e))
  | _ => x

/-- The time from a to b in µs, as binary64. -/
def dtime (a b : Nat) : Nat := f64.ofInt ((b : Int) - a)

/-- R417: `close`: the piece ends at the previous sample. -/
def tagClose (h : Nat) (r : Bytes) (s : State) : State :=
  let x := s.tagSt h
  match x.tp with
  | none => s
  | some tp =>
    let slope := ddiv (dadd x.lo x.hi) (f64.ofInt 2)
    let v := rndTo ((f32.conv f64 (Tg.quantum r)).1) (dadd x.va (dmul slope (dtime x.ta tp)))
    let s := histStore h tp (le 8 v) 0 s
    updTag h (fun x => { x with ta := tp, va := v, lo := f64.inf true, hi := f64.inf false, tp := none }) s

/-- R417: one taken sample of an analog tag; `q`: 0 good, 2 BAD, 4 STALE. -/
def analogSample (h : Nat) (r : Bytes) (t v q : Nat) (s : State) : State :=
  let x := s.tagSt h
  let qu := (f32.conv f64 (Tg.quantum r)).1
  let e := dsub (f32.conv f64 (Tg.epsilon r)).1 (ddiv qu (f64.ofInt 2))
  if q ≠ 0 then
    let s := if x.opened then tagClose h r s else s
    let s := if q ≠ x.marker then histStore h t (le 8 0) q s else s
    updTag h (fun x => { x with opened := false, marker := q }) s
  else if !x.opened then
    let a := rndTo qu v
    let s := histStore h t (le 8 a) (1 + x.nextFlags) s
    updTag h (fun x => { x with opened := true, ta := t, va := a, lo := f64.inf true, hi := f64.inf false, tp := none, marker := 0, nextFlags := 0 }) s
  else
    let bound (x : TagSt) : Nat × Nat :=
      (ddiv (dsub (dsub v e) x.va) (dtime x.ta t), ddiv (dsub (dadd v e) x.va) (dtime x.ta t))
    let b := bound x
    let split := Tg.maxInterval r * 1000 + x.ta < t || f64.lt (dmin x.hi b.2) (dmax x.lo b.1)
    let s := if split then tagClose h r s else s
    let b := bound (s.tagSt h)
    updTag h (fun x => { x with lo := dmax x.lo b.1, hi := dmin x.hi b.2, tp := some t, xp := v }) s

/-- R419: one taken sample of a tag stored without loss. -/
def losslessSample (h : Nat) (r : Bytes) (t : Nat) (v : Bytes) (q : Nat) (s : State) : State :=
  let x := s.tagSt h
  let first := !x.opened && q = 0
  let differs := x.lastVal ≠ v || x.marker ≠ q
  let rep := Tg.maxInterval r ≠ 0 && x.storedAt + Tg.maxInterval r * 1000 ≤ t
  if first ∨ differs ∨ rep then
    let flags := q + (if first then 1 + x.nextFlags else 0) + (if !first && !differs then 128 else 0)
    let s := histStore h t (pointValue r v) flags s
    updTag h (fun x => { x with opened := q = 0, marker := q, lastVal := v, nextFlags := if first then 0 else x.nextFlags }) s
  else updTag h (fun x => { x with opened := q = 0 }) s

/-- R416: the open segment of tag h ends; the next one's first point carries `flag` (16 STEP, 32 BREAK). -/
def endSegment (flag h : Nat) (s : State) : State :=
  let r := s.tagRec h
  if (s.tagSt h).opened then
    let s := if Tg.analog r then tagClose h r s else s
    updTag h (fun x => { x with opened := false, nextFlags := flag, tp := none, last := none }) s
  else s

/-- R416: every open segment ends. -/
def endSegments (flag : Nat) (s : State) : State := each (s.hist.tags.map (·.1)) (endSegment flag) s

/-! ### Totalisers (R422, R423) -/

/-- Owner of a tag's SOURCE point (R415). -/
def State.tagOwner (s : State) (h : Nat) : Option Nat :=
  let r := s.tagRec h
  let w := Tg.source r
  if ptValid w then ownerIn s.areas (Tg.out r) (8 * ptOff w + (if Tg.kind r = 0 then ptBit w else 0)) else none

/-- R423: a period record. Flags: bit 0 STEP, 1 STEPPED_BACK, 2 GAP. -/
def totClose (u era start span acc flags : Nat) (s : State) : State :=
  let x := s.tot u
  let f := flags + (if x.bad then 8 else 0) + (if x.takeover then 16 else 0)
  let rec_ := le 4 era ++ le 2 u ++ le 1 f ++ le 1 0 ++ le 8 start ++ le 4 span ++ le 4 0 ++ le 8 acc ++ le 8 (s.rdN (K.totTotal u)) ++ le 8 (s.tb64 3)
  let s := updTot u (fun x => { x with bad := false, takeover := false }) s
  let s := wrBlob (K.totLastClose u) rec_ (inc (K.totCloses u) U32.max s)
  let s := updHist (fun x => { x with periods := x.periods ++ [rec_] }) s
  if flags = 0 then s
  else raiseWith Ev.totaliserPeriod (le 1 u ++ rec_) none (s.tagOwner (s.rdN (K.totTag u))) s

/-- PERIOD_START holds a T96 of whole seconds. -/
def secT96 (t : Nat) : Nat := t % 2 ^ 48 * 2 ^ 48

/-- R422, R423: totaliser u takes one sample: value `v` (binary64), bad or stale, at scan time `st`. -/
def totSample (u : Nat) (r : Bytes) (v : Nat) (bad : Bool) (st : Int) (s : State) : State :=
  let x := s.tot u
  let scale := s.rdN (K.totScale u)
  let d := match x.prev with
    | none => 0
    | some (pv, pb, pt) =>
      if bad ∨ pb then 0
      else
        let xp := ofLe pv
        let dt := ddiv (f64.ofInt (st - pt)) (f64.ofInt 1000000000)
        match s.rdN (K.totKind u) with
        | 0 => dmul (dmul (dmax 0 xp) dt) scale
        | 1 => match f64.read v, f64.read xp with
          | .fin s1 m1 e1, .fin s2 m2 e2 =>
            if Tg.kind r = 2 then dmul (f64.ofInt ((finToInt false s1 m1 e1 - finToInt false s2 m2 e2) % 4294967296)) scale else 0
          | _, _ => 0
        | _ => if f64.eq xp 0 then 0 else dmul dt scale
  let marked := bad || x.prev.any (fun p => p.2.1)
  let t : Int := s.tbNs 3 / 1000000000
  let per : Int := s.rd (K.totPeriod u)
  let ps : Nat := (t - (t - s.rd (K.totAlign u)) % per).toNat
  let era := s.rdN (K.tbEra 3)
  let curEra := s.rdN (K.totEra u)
  let cur := s.rdN (K.totPeriodStart u) / 2 ^ 48
  let acc := s.rdN (K.totPeriodAcc u)
  let restart (s : State) : State := wrN (K.totEra u) era (wrN (K.totPeriodStart u) (secT96 ps) (wrN (K.totPeriodAcc u) 0 s))
  let s :=
    if !x.started then restart s
    else if x.closeDue then restart (totClose u curEra cur 1 acc 0 s)
    else if era ≠ curEra then restart (totClose u curEra cur 1 acc 2 s)
    else if cur < ps then
      let s := totClose u curEra cur 1 acc 0 s
      let n := (ps - cur) / per.toNat - 1
      let s := if 0 < n then totClose u curEra (cur + per.toNat) n 0 (if x.stepFwd then 1 else 4) s else s
      restart s
    else s
  let s := updTot u (fun x => { x with started := true, closeDue := false, stepFwd := false, bad := x.bad || marked, prev := some (le 8 v, bad, st) }) s
  let s := wrN (K.totPeriodAcc u) (dadd (s.rdN (K.totPeriodAcc u)) d) s
  wrN (K.totTotal u) (dadd (s.rdN (K.totTotal u)) d) s

/-! ### Sampling (R416) -/

/-- One sample of tag h: compression, where one is due, and its totalisers. -/
def sampleTag (h : Nat) (s : State) : State :=
  let r := s.tagRec h
  let v := s.tagRaw r
  let q := s.tagState r v
  let t := s.tbNs 3 / 1000
  let s := wrN K.histSamples (s.rdN K.histSamples + 1) s
  let due := !(s.tagSt h).last.any (fun l => l ≤ t && t < l + Tg.minInterval r)
  let s :=
    if s.hist.overflow.isSome then updHist (fun x => { x with discarded := satInc U32.max x.discarded }) s
    else if due then
      let s := updTag h (fun x => { x with last := some t, xp := x.xp, lastVal := if Tg.analog r then v else x.lastVal }) s
      if Tg.analog r then analogSample h r t (rawF64 r v) q s else losslessSample h r t v q s
    else s
  each ((List.range 128).filter (fun u => s.rdN (K.totTag u) = h)) (fun u s => totSample u r (rawF64 r v) (q ≠ 0) s.scanTime s) s

/-- R416: the samples of a boundary of class x. -/
def histBoundary (x : Nat) (s : State) : State :=
  only (s.on K.histEnable && s.engine = 2) (fun s =>
    let n := s.rdN (K.scanNumber x)
    let due := s.tags.filter (fun h => Tg.cls (s.tagRec h) = x && n % max 1 (Tg.divider (s.tagRec h)) = 0)
    each due sampleTag (only s.hist.overflow.isNone histDrain s)) s

/-- R416, R423: TB3 was stepped: segments end with STEP, and totalisers know of a step forward. -/
def histStep (fwd : Bool) (s : State) : State :=
  let s := endSegments 16 s
  only fwd (each (List.range 128) (fun u s => if (s.tot u).started then updTot u (fun x => { x with stepFwd := true }) s else s)) s

end Sys2Proof.Machine
end

