-- ==== Sys2Proof/Machine/Rights.lean ====
section
/-! DEFINITION. The dictionary server's checks: existence, visibility, access and role, module mode, length, reserved
bits and range, in the order of R45; sections and scope (R37, R39); the caller of each path (R44). -/

namespace Sys2Proof.Machine

/-! ### Sections (R37) -/

/-- R37: the section of an index. -/
def sectionOf (i : Nat) : Option Nat :=
  if 0x1000 ≤ i ∧ i ≤ 0x1FFF then some 0
  else if 0x2000 ≤ i ∧ i ≤ 0x20FF then some 1
  else if 0x2100 ≤ i ∧ i ≤ 0x21FF then some 2
  else if 0x2200 ≤ i ∧ i ≤ 0x22FF then some 3
  else if 0x2300 ≤ i ∧ i ≤ 0x23FF then some 4
  else if 0x2400 ≤ i ∧ i ≤ 0x2409 then some 5
  else if 0x2600 ≤ i ∧ i ≤ 0x26FF then some 6
  else if 0x2700 ≤ i ∧ i ≤ 0x27FF then some 7
  else if 0x2800 ≤ i ∧ i ≤ 0x28FF then some 8
  else if 0x2900 ≤ i ∧ i ≤ 0x29FF then some 9
  else if 0x2A00 ≤ i ∧ i ≤ 0x2AFF then some 10
  else if 0x3000 ≤ i ∧ i ≤ 0x30FF then some 11
  else if 0x3400 ≤ i ∧ i ≤ 0x34FF then some 12
  else if 0x4000 ≤ i ∧ i ≤ 0x40E7 then some 13
  else if 0x4200 ≤ i ∧ i ≤ 0x421F then some 14
  else if 0x4300 ≤ i ∧ i ≤ 0x436F then some 15
  else if 0x4800 ≤ i ∧ i ≤ 0x48FF then some 16
  else if 0x4900 ≤ i ∧ i ≤ 0x49FF then some 17
  else if 0x4C00 ≤ i ∧ i ≤ 0x4C7F then some 18
  else if 0x5000 ≤ i ∧ i ≤ 0x51FF then some 19
  else if 0x5400 ≤ i ∧ i ≤ 0x54FF then some 20
  else if 0x5500 ≤ i ∧ i ≤ 0x55FF then some 21
  else if 0x5F00 ≤ i ∧ i ≤ 0x5FFF then some 22
  else if 0xA000 ≤ i ∧ i ≤ 0xAFFF then some 23
  else none

/-- R37: the entry has MODULE scope. -/
def moduleScope (i : Nat) : Bool :=
  match sectionOf i with
  | some n => n = 1 || n = 2 || n = 3 || n = 4 || n = 11 || n = 16 || n = 19 || n = 22
      || (n = 7 && 0x2710 ≤ i && i ≤ 0x2720)
  | none => true

/-! ### Callers (R44) -/

/-- R6, R44: who asks: ordered role, SAFETY, and the Pavilion the caller is scoped to. -/
structure Caller where
  role : Role := .viewer
  safety : Bool := false
  scope : Option Nat := none
  code : Bool := false
  deriving DecidableEq, Repr

/-- R6: rank of an ordered role. -/
def rank : Role → Nat
  | .viewer => 0
  | .operator => 1
  | .engineer => 2
  | .owner => 3
  | .safety => 4
  | .pavilion => 5

/-- R44: the caller of a path; none where the path has no open session. -/
def State.caller (s : State) (src : Path) : Option Caller :=
  match src with
  | .window p => some { scope := some p, code := true }
  | .sdo c => some { role := if s.rdN (K.dictSdoRole c) = 1 then .operator else .viewer }
  | .dap n =>
    let x := s.session n
    if x.isOpen then some { role := x.role, safety := x.safety, scope := x.scope } else none
  | .optical =>
    if s.opt.isOpen then some { role := s.opt.role } else none

/-! ### Declared entries of section 23 (R526) -/

/-- The declaration of entry (idx, sub) by Pavilion p's loaded program. -/
def State.decl (s : State) (p idx sub : Nat) : Option Decl := (s.pav p).decls.find? (fun d => d.idx = idx && d.sub = sub)
/-- The key of a Pavilion-defined value. -/
def pavKey (p k : Nat) : Nat := p * 2 ^ 24 + k
/-- R59: the types by code. -/
def tyOf (c : Nat) : DType :=
  ([.bool, .bool, .u8, .u16, .u32, .u64, .i8, .i16, .i32, .i64, .f32, .f64, .t96, .str, .oct] : List DType).getD c .oct
def codeOf : DType → Nat
  | .bool => 1 | .u8 => 2 | .u16 => 3 | .u32 => 4 | .u64 => 5 | .i8 => 6 | .i16 => 7 | .i32 => 8 | .i64 => 9
  | .f32 => 10 | .f64 => 11 | .t96 => 12 | .str => 13 | .oct => 14
def DType.size : DType → Nat
  | .bool => 1 | .u8 => 1 | .u16 => 2 | .u32 => 4 | .u64 => 8 | .i8 => 1 | .i16 => 2 | .i32 => 4 | .i64 => 8
  | .f32 => 4 | .f64 => 8 | .t96 => 12 | .str => 0 | .oct => 0
def DType.isSigned : DType → Bool
  | .i8 => true | .i16 => true | .i32 => true | .i64 => true | _ => false
def DType.isLong : DType → Bool
  | .str => true | .oct => true | _ => false

/-- What the server knows of an entry: type, length, access, role, persistence. -/
structure Entry where
  ty : DType := .u8
  size : Nat := 1
  acc : Access := .ro
  role : Role := .viewer
  persistent : Bool := false
  ranges : List (Int × Int) := []
  reserved : Nat := 0
  deriving DecidableEq, Repr

/-- R38: the highest subindex of an index of type REC or ARR. -/
def highestSub (i : Nat) : Nat :=
  (dictRows.filter (fun r => r.holds i r.s0)).foldl (fun a r => max a r.s1) 0

/-- The index is one of a table. -/
def indexListed (i : Nat) : Bool := dictRows.any (fun r => r.holds i r.s0)

/-- The entries whose access code or role differs between instances: read-only SOURCE and RATE of TB4 and INTERFACE of ports
8 and 9; STEP and SET of TB3, which need OWNER. -/
def special (i sub : Nat) (e : Entry) : Entry :=
  if (i = 0x4904 ∧ (sub = 1 ∨ sub = 3)) ∨ ((i = 0x4818 ∨ i = 0x4819) ∧ sub = 2)
  then { e with acc := .ro, role := .viewer }
  else if i = 0x4903 ∧ (sub = 6 ∨ sub = 7) then { e with role := .owner }
  else e

/-- R14, R37, R38: the entry, for the tables' entries. Subindex 0 of a REC or ARR exists whether or not a table lists it. -/
def tableEntry (i sub : Nat) : Option Entry :=
  match dictFind i sub with
  | some r => some (special i sub { ty := r.ty, size := r.size, acc := r.acc, role := r.role, persistent := r.persistent
                                    ranges := r.ranges, reserved := r.reserved })
  | none => if sub = 0 ∧ indexListed i then some {} else none

/-- The entry as Pavilion p's program sees it, for section 23. -/
def State.declEntry (s : State) (p i sub : Nat) : Option Entry :=
  match s.decl p i sub with
  | some d => some { ty := tyOf d.ty, size := d.maxLen
                     acc := ([.ro, .rw, .wo, .w1c] : List Access).getD d.access .ro
                     role := ([.viewer, .operator, .engineer, .owner, .safety, .pavilion] : List Role).getD d.role .viewer
                     persistent := d.persistent }
  | none => if sub = 0 ∧ (s.pav p).decls.any (fun d => d.idx = i && d.sub > 0) then some {} else none

/-- The Pavilion whose section 23 a caller sees: its own scope (R51). -/
def State.entryFor (s : State) (c : Caller) (i sub : Nat) : Option Entry :=
  if 0xA000 ≤ i ∧ i ≤ 0xAFFF then c.scope.bind (fun p => s.declEntry p i sub) else tableEntry i sub

/-! ### Ownership of entries (R41) -/

/-- R41: the Pavilion an entry belongs to. -/
def State.belongsTo (s : State) (i sub : Nat) : Option Nat :=
  let own (k : Nat) : Option Nat := if s.rdN k < 256 then some (s.rdN k) else none
  if 0x2800 ≤ i ∧ i ≤ 0x28FF then some (i - 0x2800)
  else if 0x2900 ≤ i ∧ i ≤ 0x29FF then some (i - 0x2900)
  else if 0x2A00 ≤ i ∧ i ≤ 0x2AFF then some (i - 0x2A00)
  else if i = 0x2046 ∧ 1 ≤ sub then some (sub - 1)
  else if i = 0x2047 ∧ 1 ≤ sub then some (127 + sub)
  else if 0x3410 ≤ i ∧ i < 0x341C then own (K.spairOwner (i - 0x3410))
  else if 0x3420 ≤ i ∧ i < 0x342C then own (K.soutOwner (i - 0x3420))
  else if 0x3440 ≤ i ∧ i < 0x3446 then own (K.sencOwner (i - 0x3440))
  else if 0x4000 ≤ i ∧ i < 0x4080 then own (K.diOwner (i - 0x4000))
  else if 0x4080 ≤ i ∧ i < 0x40E0 then own (K.doOwner (i - 0x4080))
  else if 0x4200 ≤ i ∧ i < 0x4220 then own (K.iolOwner (i - 0x4200))
  else if 0x4310 ≤ i ∧ i < 0x4330 then own (K.aiOwner (i - 0x4310))
  else if 0x4330 ≤ i ∧ i < 0x4340 then own (K.aoOwner (i - 0x4330))
  else if 0x4340 ≤ i ∧ i < 0x4370 then own (K.hartOwner (i - 0x4340))
  else none

/-- R41: an entry of q is visible to q's code, sessions scoped to q, and unscoped sessions of ENGINEER or higher. -/
def visibleTo (c : Caller) (q : Option Nat) : Bool :=
  match q with
  | none => true
  | some q => c.scope = some q || (c.scope = none && 2 ≤ rank c.role)

/-- R49: existence and visibility. The whole index belongs to q except in the two window error arrays. -/
def State.findEntry (s : State) (c : Caller) (i sub : Nat) : Nat :=
  if !s.dictReady then Err.unknownIndex
  else match s.entryFor c i sub with
    | none =>
      if indexListed i || (0xA000 ≤ i && i ≤ 0xAFFF && (c.scope.any (fun p => (s.pav p).decls.any (fun d => d.idx = i))))
      then Err.unknownSub else Err.unknownIndex
    | some _ =>
      if visibleTo c (s.belongsTo i sub) then Err.ok
      else if i = 0x2046 ∨ i = 0x2047 then Err.unknownSub else Err.unknownIndex

/-! ### Reads -/

/-- R42: the entries of section 3 open to every caller. -/
def openSecurity (i sub : Nat) : Bool := i = 0x2200 && (sub = 1 || sub = 2 || sub = 4 || sub = 6 || sub = 7)

/-- R42, R45: whether a read is granted. -/
def State.checkRead (s : State) (c : Caller) (i sub : Nat) : Nat :=
  let e := s.findEntry c i sub
  if e ≠ Err.ok then e
  else match s.entryFor c i sub with
    | none => Err.unknownIndex
    | some x =>
      if x.acc = .wo then Err.readDenied
      else if sectionOf i = some 3 ∧ !openSecurity i sub ∧ rank c.role < 2 then Err.roleDenied
      else Err.ok

/-- The bytes of an entry's present value (R5, R525). -/
def State.entryBytes (s : State) (c : Caller) (i sub : Nat) : Bytes :=
  if 0xA000 ≤ i ∧ i ≤ 0xAFFF then
    match c.scope with
    | some p =>
      match s.decl p i sub with
      | some d => Tab.get s.pavVals (pavKey p (256 * i + sub)) d.dflt
      | none => le 1 (((s.pav p).decls.filter (fun d => d.idx = i)).foldl (fun a d => max a d.sub) 0)
    | none => []
  else match dictFind i sub with
    | some r =>
      if DType.isLong r.ty then s.blobOf (256 * i + sub)
      else le r.size (unsigned r.size (s.rd (256 * i + sub)))
    | none => le 1 (highestSub i)

/-! ### Writes -/

/-- R39: the module accepts PAIR-scope writes: ACTIVE (SERVICE counts as ACTIVE), or running without a partner. A STANDBY
module refuses them, but for a section whose schema differs from the partner's (R504). -/
def State.pairWritable (s : State) (i : Nat) : Bool :=
  moduleScope i || !(s.pairOp && s.mode = Mode.standby)
    || (match sectionOf i with
        | some n => bitOf (s.rdN K.updSchemaDiff) n
        | none => false)

/-- R429, R45 step 4, R486, R501: the module mode permits the write. -/
def State.modeCode (s : State) (c : Caller) (i sub : Nat) : Nat :=
  if s.mode = Mode.update ∨ s.rdN K.updState = 5 then Err.state
  else if s.mode = Mode.provision ∧ !(sectionOf i = some 3 || (i = 0x2002 && sub = 4)) then Err.state
  else if s.mode = Mode.alarm ∧ !((sectionOf i = some 3 && c.role = .owner) || (i = 0x2002 && sub = 4)) then Err.state
  else if sectionOf i = some 3 ∧ s.owned ∧ (s.rdN K.keysStoreState = 0 ∨ s.rdN K.keysStoreState = 2) ∧ !(i = 0x2204 ∧ sub = 6)
    then Err.state
  else if !s.pairWritable i then Err.state
  else Err.ok

/-- R10, R529: the event whose configuration an entry is. -/
def eventOf (i sub : Nat) : Option Nat := if 0x2400 ≤ i ∧ i ≤ 0x2409 ∧ 1 ≤ sub ∧ sub ≤ 128 then some (128 * (i - 0x2400) + sub - 1) else none

/-- R529: the further role that the configuration of some events needs is missing. -/
def eventRoleMissing (c : Caller) (i sub : Nat) : Bool :=
  match eventOf i sub with
  | some n => (512 ≤ n && n ≤ 575 && !c.safety) || (1216 ≤ n && n ≤ 1279 && rank c.role < 3)
  | none => false

/-- R6, R7, R43, R44, R45 step 3, R529: access code, role and scope. -/
def accessCode (c : Caller) (x : Entry) (i sub : Nat) (q : Option Nat) : Nat :=
  if x.acc = .ro then Err.writeDenied
  else if x.role = .pavilion then
    match c.scope with
    | some p => if (q = some p || (0xA000 ≤ i && i ≤ 0xAFFF)) && (c.code || 1 ≤ rank c.role) then Err.ok else Err.scopeDenied
    | none => Err.scopeDenied
  else match c.scope with
    | some _ =>
      if 0xA000 ≤ i ∧ i ≤ 0xAFFF then (if rank x.role ≤ rank c.role then Err.ok else Err.roleDenied) else Err.scopeDenied
    | none =>
      if eventRoleMissing c i sub then Err.roleDenied
      else if x.role = .safety then (if c.safety then Err.ok else Err.roleDenied)
      else if rank x.role ≤ rank c.role then Err.ok else Err.roleDenied

/-- R525: length of a write, and R45 steps 6 and 7: reserved bits and the range its table gives. -/
def valueCode (x : Entry) (k : Nat) (v : Bytes) : Nat :=
  let n := v.length
  if x.ty = .str then (if n ≤ x.size then Err.ok else Err.length)
  else if x.ty = .oct then
    (if varLength k then (if 1 ≤ n ∧ n ≤ x.size then Err.ok else Err.length) else if n = x.size then Err.ok else Err.length)
  else if n ≠ x.size then Err.length
  else
    let u := ofLe v
    let z : Int := if DType.isSigned x.ty then signed n u else u
    if (List.range 64).any (fun b => bitOf x.reserved b && bitOf u b) then Err.value
    else if x.ty = .bool ∧ u > 1 then Err.value
    else if x.ranges ≠ [] ∧ !x.ranges.any (fun r => r.1 ≤ z && z ≤ r.2) then Err.value
    else Err.ok

/-- R45 steps 1 to 4: whether the caller may write the entry now. -/
def State.mayWriteEntry (s : State) (src : Path) (i sub : Nat) : Nat :=
  match s.caller src with
  | none => Err.state
  | some c =>
    let e := s.findEntry c i sub
    if e ≠ Err.ok then e
    else match s.entryFor c i sub with
      | none => Err.unknownIndex
      | some x =>
        let a := accessCode c x i sub (s.belongsTo i sub)
        if a ≠ Err.ok then a else s.modeCode c i sub

/-- R45 steps 1 to 7, but for the entry's own rules. -/
def State.checkWrite (s : State) (src : Path) (i sub : Nat) (v : Bytes) : Nat :=
  let e := s.mayWriteEntry src i sub
  if e ≠ Err.ok then e
  else match s.caller src with
    | none => Err.state
    | some c =>
      match s.entryFor c i sub with
      | none => Err.unknownIndex
      | some x => valueCode x (256 * i + sub) v

/-- The table entry, or section-23 entry, is persistent. Keys of section 23 carry p above bit 24. -/
def State.persistent (s : State) (k : Nat) : Bool :=
  if 0xA00000 ≤ k % 2 ^ 24 then
    match s.decl (k / 2 ^ 24) (k % 2 ^ 24 / 256) (k % 256) with
    | some d => d.persistent
    | none => false
  else match dictFind (k / 256) (k % 256) with
    | some r => r.persistent
    | none => false

/-- R398: a write of a persistent entry is held unanswered while a flush runs. -/
def State.writeHeld (s : State) (k : Nat) : Bool := s.pow.flushing && s.persistent k

/-- R39, R396: the module is in control and has a STANDBY partner. -/
def State.mirrors (s : State) : Bool :=
  s.pairOp && (s.activeLike || s.mode = Mode.handover) && s.pair.pRole = 2 && !bitOf (s.rdN K.pairStatus) 0 && s.rdN K.cwState ≠ 0

/-- R39: an accepted write of an entry is answered: at once, or, of a PAIR-scope entry with a STANDBY partner, once the
partner holds the epoch that carries it. -/
def answerWrite (k : Nat) (v : Bytes) (code : Nat) (s : State) : State :=
  if code = Err.ok ∧ s.mirrors ∧ !moduleScope (k % 2 ^ 24 / 256) then
    { s with pair := { s.pair with writes := s.pair.writes ++ [(k, v)], owed := s.pair.owed ++ [{ epoch := s.pair.epoch + 1, code := code }] } }
  else reply code [] s

/-- A command entry: the checks of R45, then the entry's own rules and effect `f`, which answers with a code. A path
with no open session sends nothing. -/
def command (src : Path) (k : Nat) (v : Bytes) (f : State → Nat × State) (s : State) : State :=
  match s.caller src with
  | none => s
  | some _ =>
    let e := s.checkWrite src (k / 256) (k % 256) v
    if e ≠ Err.ok then reply e [] s
    else if s.writeHeld k then { s with sto := { s.sto with heldWrites := s.sto.heldWrites ++ [(src, k, v)] } }
    else
      let r := f s
      answerWrite k v r.1 r.2

/-- A command entry that admits the value 1 only; another value is refused with VALUE_ERROR. -/
def command1 (src : Path) (k v : Nat) (f : State → Nat × State) (s : State) : State :=
  command src k (le 1 v) (fun s => if v = 1 then f s else (Err.value, s)) s

/-- A refusal that changes nothing. -/
def refuse (c : Nat) (s : State) : Nat × State := (c, s)
/-- An accepted command. -/
def accept (s : State) : Nat × State := (Err.ok, s)

end Sys2Proof.Machine
end

