-- ==== Sys2Proof/Machine/Persist.lean ====
section
/-! DEFINITION. Applying an accepted write: the present value, the journal record and the DICTSTORE record of a
persistent entry, and the room DICTSTORE has (R48, R525, R526). -/

namespace Sys2Proof.Machine

/-- The default of an entry as bytes. -/
def defaultBytes (k : Nat) : Bytes :=
  match dictFind (k / 256) (k % 256) with
  | some r => if DType.isLong r.ty then blobDefault k else le r.size (unsigned r.size (dictDefault k))
  | none => []

/-- The present value of a table entry as bytes. -/
def State.tableBytes (s : State) (k : Nat) : Bytes :=
  match dictFind (k / 256) (k % 256) with
  | some r => if DType.isLong r.ty then s.blobOf k else le r.size (unsigned r.size (s.rd k))
  | none => []

/-- Put a value, given as bytes, into a table entry. -/
def putBytes (k : Nat) (v : Bytes) (s : State) : State :=
  match dictFind (k / 256) (k % 256) with
  | some r =>
    if DType.isLong r.ty then wrBlob k v s
    else wr k (if DType.isSigned r.ty then signed r.size (ofLe v) else ofLe v) s
  | none => s

/-- R48: an entry with access code WO is held wrapped under KEK_DICT, in 32 further bytes. -/
def wrapped (k : Nat) : Bool :=
  match dictFind (k / 256) (k % 256) with
  | some r => r.acc = .wo && r.persistent
  | none => false

/-- R48: bytes of the record of a value: the header, the value and its wrapping, in whole multiples of 8. -/
def recordSize (k : Nat) (v : Bytes) : Nat := up8 (8 + v.length + (if wrapped k then 32 else 0))

/-- The value of a persistent entry, and its default; of REGION_ARM, the value written (R184). -/
def State.persistValue (s : State) (k : Nat) : Bytes × Bytes :=
  if 0xA00000 ≤ k % 2 ^ 24 then
    match s.decl (k / 2 ^ 24) (k % 2 ^ 24 / 256) (k % 256) with
    | some d => (Tab.get s.pavVals k d.dflt, d.dflt)
    | none => ([], [])
  else if 0x2800 ≤ k / 256 ∧ k / 256 ≤ 0x28FF ∧ k % 256 = 0x21 then (le 1 (min 1 (s.rdN k)), le 1 0)
  else (s.tableBytes k, defaultBytes k)

/-- R48: bytes the record of an entry takes; none at its default. -/
def State.recordBytes (s : State) (k : Nat) : Nat :=
  let v := s.persistValue k
  if v.1 = v.2 then 0 else recordSize k v.1

/-- R48: DICT.STORE.USED: the records held, those whose value awaits its commit counted at that value. -/
def State.storeUsed (s : State) : Nat :=
  ((s.store.filter (fun e => !s.journal.contains e.1)).map (fun e => recordSize e.1 e.2)).foldl (· + ·) 0
    + (s.journal.map (fun k => s.recordBytes k)).foldl (· + ·) 0

/-- R48: a journal record of the write, for a persistent entry. -/
def journalKey (k : Nat) (s : State) : State :=
  let s := if s.persistent k && !s.journal.contains k then { s with journal := s.journal ++ [k] } else s
  wrN K.dictStoreUsed s.storeUsed s

/-- R48: the record would not fit into DICTSTORE. -/
def State.storeFull (s : State) (k : Nat) (v : Bytes) : Bool :=
  s.persistent k && (v ≠ (s.persistValue k).2)
    && decide (s.storeUsed - s.recordBytes k + recordSize k v > s.rdN K.dictStoreCapacity)

/-- R353: ERA of base n is copied to DICTSTORE. -/
def copyEra (n : Nat) (s : State) : State :=
  { s with journal := if s.journal.contains (K.tbEra n) then s.journal else s.journal ++ [K.tbEra n] }

/-- R48, R391: a write of entry k is refused because DICTSTORE is full. -/
def dictFull (k : Nat) (s : State) : State :=
  raise Ev.partitionFull (le 1 6) (wrN (K.partState 6) 1 (raise Ev.dictstoreFull (le 4 k) s))

/-- An accepted write of a table entry: refused with STORE_FULL where DICTSTORE has no room (R48). -/
def writeEntry (k : Nat) (v : Bytes) (s : State) : Nat × State :=
  if s.storeFull k v then (Err.storeFull, dictFull k s)
  else (Err.ok, journalKey k (putBytes k v s))

/-- Write a persistent scalar on the module's own account. -/
def setEntry (k : Nat) (v : Int) (s : State) : State := journalKey k (wr k v s)
/-- Write a persistent scalar that is a natural number. -/
def setEntryN (k v : Nat) (s : State) : State := setEntry k (v : Int) s

/-- R40, R50: every persistent entry of section n returns to its default, and its record is removed. -/
def resetSection (n old new : Nat) (s : State) : State :=
  let mine (k : Nat) : Bool := sectionOf (k / 256) = some n && s.persistent k
  let s := { s with
    dict := s.dict.filter (fun e => !mine e.1), blob := s.blob.filter (fun e => !mine e.1)
    store := s.store.filter (fun e => !mine e.1), journal := s.journal.filter (fun k => !mine k)
    -- R529: the case rule of SEVERITY holds again
    router := { s.router with sevSet := if n = 5 then [] else s.router.sevSet } }
  let s := wrN K.dictStoreUsed s.storeUsed s
  raise Ev.dictSectionReset (le 1 n ++ le 1 0xFF ++ le 4 old ++ le 4 new) (inc (K.dictSectionResets n) U16.max s)

/-- A command entry that is itself an entry with a value: after `rule` passes, the value is written, then `f` applied. -/
def writeThen (k : Nat) (v : Bytes) (rule : Bool) (code : Nat) (f : State → State) (s : State) : Nat × State :=
  if !rule then (code, s)
  else
    let r := writeEntry k v s
    if r.1 = Err.ok then (Err.ok, f r.2) else r

/-- R191: an owner field: which values and which changes are admitted. -/
def State.ownerRule (s : State) (k v : Nat) : Nat :=
  let old := s.rdN k
  if v ≠ 0xFFFF ∧ 256 ≤ v then Err.value
  else if v < 256 ∧ old < 256 ∧ v ≠ old then Err.value
  else if (v < 256 && s.pavBusy v) || (old < 256 && s.pavBusy old) then Err.state
  else Err.ok

/-- R206, R437: one write of a key sequence 0x0D1E, 0xE1D0, 0x00FF: its new position, path and start. A wrong value,
another session or the passing of 10 s restarts it, and the write may then be its first. -/
def keyStep (now pos : Nat) (by_ : Option Path) (at_ : Nat) (src : Path) (v : Nat) : Nat × Option Path × Nat :=
  let goes := by_ = some src && now ≤ at_ + 10 * sec && 1 ≤ pos && ([0x0D1E, 0xE1D0, 0x00FF] : List Nat).getD pos 0 = v
  if goes then (pos + 1, by_, at_) else if v = 0x0D1E then (1, some src, now) else (0, none, 0)

end Sys2Proof.Machine
end

