-- ==== Sys2Proof/Machine/RecOps.lean ====
section
/-! DEFINITION. The event recorder's operations: records, the ring, the side buffer, GAP and CLEAR records (spec/14). -/

namespace Sys2Proof.Machine

def updRec (f : RecSt → RecSt) (s : State) : State := { s with recd := f s.recd }

/-- The number of a path, for what belongs to a session. -/
def pathCode : Path → Nat
  | .dap n => n
  | .optical => 2000
  | .sdo c => 3000 + c
  | .window p => 4000 + p

/-- R404: bytes 0 to 15 of a record. -/
def RecEnt.header (e : RecEnt) : Bytes := le 2 e.payload.length ++ le 2 e.ty ++ le 2 e.event ++ le 1 e.flags ++ le 1 e.sev ++ le 8 e.time

/-- R404: the record with its CRC and padding. -/
def RecEnt.bytes (e : RecEnt) : Bytes :=
  let b := e.header ++ le 8 e.seq ++ e.payload
  let b := b ++ le 4 (crc32c b)
  padTo (up8 b.length) b

/-- R404: bytes the record occupies. -/
def RecEnt.size (e : RecEnt) : Nat := up8 (28 + e.payload.length)

def ringBytes : Nat := 0x800000
def sideBytes : Nat := 0x40000
def Ty.pad : Nat := 0
def Ty.event : Nat := 1
def Ty.gap : Nat := 2
def Ty.clear : Nat := 3
def noSeq : Nat := 0xFFFFFFFFFFFFFFFF

/-- R407: the next sequence number is assigned; the mark is advanced by 2^20 before SEQ_NEXT reaches it. -/
def takeSeq (s : State) : Nat × State :=
  let q := s.rdN K.recSeqNext
  let s := wrN K.recSeqNext (q + 1) s
  (q, only (s.recd.mark ≤ q + 1) (updRec (fun r => { r with mark := r.mark + 2 ^ 20 })) s)

/-- R404: a new record with the present TB3 time. -/
def State.newRec (s : State) (ty event sev flags seq : Nat) (payload : Bytes) : RecEnt :=
  { ty := ty, event := event, flags := flags + (if s.synced 3 then 0 else 2), sev := sev, time := s.tb64 3, seq := seq, payload := payload }

/-- TAIL and SEQ_FIRST follow the ring: they name the oldest record that is not PAD, or HEAD and SEQ_NEXT (R407). -/
def ringEdges (s : State) : State :=
  let ring := s.recd.ring.dropWhile (fun e => e.ty = Ty.pad)
  let s := updRec (fun r => { r with ring := ring }) s
  match ring with
  | e :: _ => wrN K.recTail e.off (wrN K.recSeqFirst e.seq s)
  | [] => wrN K.recTail (s.rdN K.recHead) (wrN K.recSeqFirst (s.rdN K.recSeqNext) s)

/-- R407: bytes [a, a + n) of the ring are freed: records there are removed from TAIL on; the ones lost are answered. -/
def makeRoom (fuel a n : Nat) (lost : List RecEnt) (s : State) : List RecEnt × State :=
  match fuel with
  | 0 => (lost, s)
  | fuel + 1 =>
    match s.recd.ring with
    | [] => (lost, s)
    | e :: r =>
      if e.off < a + n ∧ a < e.off + e.size then
        let gone := e.ty ≠ Ty.pad && !e.archived
        makeRoom fuel a n (if gone then lost ++ [e] else lost) (updRec (fun x => { x with ring := r }) s)
      else (lost, s)

/-- R407: a record is written at HEAD, after the PAD or the zeros of a space it does not fit into. -/
def ringPut (e : RecEnt) (s : State) : List RecEnt × State :=
  let n := e.size
  let head := s.rdN K.recHead
  let room := ringBytes - head
  let r :=
    if n ≤ room then ([], s)
    else
      let x := makeRoom (s.recd.ring.length + 1) head room [] s
      let s := x.2
      let s := if 32 ≤ room then
          let pad : RecEnt := { off := head, ty := Ty.pad, seq := noSeq, payload := List.replicate (room - 28) 0 }
          store Mem.ring head pad.bytes (updRec (fun r => { r with ring := r.ring ++ [pad] }) s)
        else clearMem Mem.ring head room s
      (x.1, wrN K.recHead 0 s)
  let s := r.2
  let head := s.rdN K.recHead
  let x := makeRoom (s.recd.ring.length + 1) head n r.1 s
  let s := store Mem.ring head e.bytes x.2
  let s := updRec (fun r => { r with ring := r.ring ++ [{ e with off := head }] }) s
  (x.1, ringEdges (wrN K.recHead ((head + n) % ringBytes) s))

/-- R405: the payload of a GAP record over the records lost. -/
def gapPayload (cause : Nat) (lost : List RecEnt) : Bytes :=
  let f := lost.headD {}
  let l := lost.getLastD {}
  le 1 cause ++ le 7 0 ++ le 8 f.seq ++ le 8 l.seq ++ le 8 lost.length ++ le 8 f.time ++ le 8 l.time

/-- A GAP or CLEAR record; the spec states no SEVERITY for it. -/
def State.markRec (s : State) (ty seq : Nat) (payload : Bytes) : RecEnt := s.newRec ty 0xFFFF (s.free 3) 0 seq payload

/-- EVENTS takes a record; its oldest are overwritten when it is full (R391, R408). -/
def archivePut (e : RecEnt) (s : State) : State :=
  let cap := s.rdN (K.partSize 2) * 67108864
  let l := s.recd.archive ++ [e]
  let used := (l.map RecEnt.size).foldl (· + ·) 0
  let keep := (l.foldl (fun (a : List RecEnt × Nat) x => if cap < a.2 then (a.1, a.2 - x.size) else (a.1 ++ [x], a.2)) (([] : List RecEnt), used)).1
  let s := updRec (fun r => { r with archive := keep }) s
  let s := wrN K.recArchiveFirst (keep.headD {}).seq (wrN K.recArchived e.seq s)
  wrN (K.partWritten 2) (s.rdN (K.partWritten 2) + e.size) (wrN (K.partUsed 2) ((keep.map RecEnt.size).foldl (· + ·) 0) s)

/-- Records reach the ring; those removed unarchived are counted and covered by a GAP record, which the archiver copies
with the others, with EV 1153 (R408). -/
def ringWrite (e : RecEnt) (s : State) : State :=
  let x := ringPut e s
  if x.1 = [] then x.2
  else
    let q := takeSeq x.2
    -- the GAP record's own room may take further records, which it covers as well
    let gap := q.2.markRec Ty.gap q.1 (gapPayload 2 x.1)
    let lost := x.1 ++ (ringPut gap q.2).1
    let s := (ringPut { gap with payload := gapPayload 2 lost } (drawn q.2)).2
    let s := inc K.recGaps U32.max (wrN K.recArchiveLost (s.rdN K.recArchiveLost + lost.length) s)
    raise Ev.recArchiveLost (le 8 (lost.headD {}).seq ++ le 8 (lost.getLastD {}).seq ++ le 4 lost.length) s

/-- R409, R410: a record goes to the ring, or to the side buffer while the ring is frozen. -/
def recPut (e : RecEnt) (s : State) : State :=
  if s.rdN K.recFrozen = 0 then ringWrite e s
  else
    let used := s.rdN K.recSideUsed
    if s.recd.lost = [] ∧ used + e.size ≤ sideBytes then
      wrN K.recSideUsed (used + e.size) (updRec (fun r => { r with side := r.side ++ [e] }) s)
    else updRec (fun r => { r with lost := r.lost ++ [e] }) s

/-- The session number an event carries: a DAP session, or 0xFFFF. -/
def sessionNo : Path → Nat
  | .dap n => n
  | _ => 0xFFFF

/-- R409, R410: the freeze ends and the side buffer is merged. -/
def recMerge (s : State) : State :=
  let side := s.recd.side
  let lost := s.recd.lost
  let who := (s.recd.holder.map sessionNo).getD 0xFFFF
  let s := updRec (fun r => { r with side := [], lost := [], holder := none, endedAt := some s.now }) s
  let s := wrN K.recSideUsed 0 (wrN K.recFrozen 0 s)
  let s := each side (fun e => ringWrite { e with flags := setBit e.flags 2 true }) s
  let s := if lost = [] then s
    else
      let q := takeSeq s
      let gap := q.2.markRec Ty.gap q.1 (gapPayload 1 lost)
      inc K.recGaps U32.max (ringWrite gap (drawn q.2))
  raise Ev.recFreeze (le 2 who ++ le 1 2 ++ le 4 side.length ++ le 4 lost.length) s

/-- R409: the session that holds the freeze has closed. -/
def holderGone (src : Path) (s : State) : State := only (s.rdN K.recFrozen ≠ 0 && s.recd.holder = some src) recMerge s

end Sys2Proof.Machine
end

