-- ==== Sys2Proof/Machine/Buffers.lean ====
section
/-! DEFINITION. Requests that complete later into a buffer of a Pavilion: IO-Link ISDU (R304) and HART (R331). -/

namespace Sys2Proof.Machine

/-- The space and address that hold lane address `a` for a task on logical lane `l` (R23). -/
def laneCell (l a : Nat) : Nat × Nat := if a < 0x200000 then (Mem.tcm l, a) else (Mem.fabric, a)

/-- R188: every byte of the range is writable by p. -/
def State.rangeWritable (s : State) (p a n : Nat) : Bool :=
  let gs := (s.regions p).filter (·.w)
  s.armed p && (List.range n).all (fun i => gs.any (fun g => g.covers (a + i)))

/-- R188: every byte of the range is readable by p. -/
def State.rangeReadable (s : State) (p a n : Nat) : Bool :=
  let gs := (s.regions p).filter (fun g => g.r && (!g.imported || s.importValid p g))
  s.armed p && (List.range n).all (fun i => gs.any (fun g => g.covers (a + i)))

/-- Write bytes at an address as p's lane sees it. -/
def bufPut (p a : Nat) (b : Bytes) (s : State) : State :=
  let c := laneCell (s.rdN (K.pavLane p)) a
  store c.1 c.2 b s

/-- Read bytes at an address as p's lane sees it. -/
def State.bufGet (s : State) (p a n : Nat) : Bytes :=
  let c := laneCell (s.rdN (K.pavLane p)) a
  s.bytesAt c.1 c.2 n

/-- R304, R331: a request completes into its buffer: the header and the data, truncated to the buffer; nothing where
the buffer is no longer writable. -/
def closeBuf (q : BufReq) (st : Nat) (status data : Bytes) (s : State) : State :=
  only (s.rangeWritable q.pav q.buf q.len) (fun s =>
    let d := data.take (q.len - 8)
    bufPut q.pav q.buf (le 2 st ++ padTo 2 status ++ le 2 d.length ++ le 2 0 ++ d) s) s

/-- R304: an ABORTED request writes STATE only. -/
def abortBuf (q : BufReq) (s : State) : State :=
  only (s.rangeWritable q.pav q.buf q.len) (bufPut q.pav q.buf (le 2 3)) s

def State.iol (s : State) (n : Nat) : Iol := Tab.get s.fld.iol n {}
def updIol (n : Nat) (f : Iol → Iol) (s : State) : State := { s with fld := { s.fld with iol := Tab.upd s.fld.iol n {} f } }
def State.hart (s : State) (m : Nat) : Hart := Tab.get s.fld.hart m {}
def updHart (m : Nat) (f : Hart → Hart) (s : State) : State := { s with fld := { s.fld with hart := Tab.upd s.fld.hart m {} f } }

/-- The ISDU request of port n, if any, is ABORTED. -/
def isduAbort (n : Nat) (s : State) : State :=
  match (s.iol n).isdu with
  | some q => abortBuf q (updIol n (fun x => { x with isdu := none }) s)
  | none => s

/-- The SYS 11 request of modem m, if any, is ABORTED. -/
def hartAbort (m : Nat) (s : State) : State :=
  match (s.hart m).req with
  | some q => abortBuf q (updHart m (fun x =>
      { x with req := none, job := if x.job = 3 then 0 else x.job, waiting := x.job ≠ 3 && x.waiting }) s)
  | none => s

/-- R395: the completion record of a PAVSTORE request: code and bytes moved, STATE last; of an ABORTED one STATE only. -/
def closeStore (q : StoReq) (st code n : Nat) (s : State) : State :=
  only (s.rangeWritable q.pav q.rec_ 16)
    (bufPut q.pav q.rec_ (if st = 3 then le 2 3 else le 2 st ++ le 2 code ++ le 4 n ++ le 8 0)) s

/-- R395: the requests of p that have not begun are ABORTED. -/
def abortStore (p : Nat) (s : State) : State :=
  let gone (q : StoReq) : Bool := q.pav = p && !q.begun
  let t := each (s.sto.reqs.filter gone) (fun q => closeStore q 3 0 0) s
  { t with sto := { t.sto with reqs := t.sto.reqs.filter (fun q => !gone q) } }

/-- R304, R331, R395: the requests of a Pavilion that enters STOP are ABORTED. -/
def abortBuffers (p : Nat) (s : State) : State :=
  let s := abortStore p s
  let s := each ((List.range 32).filter (fun n => (s.iol n).isdu.any (·.pav = p))) isduAbort s
  each ((List.range 48).filter (fun m => (s.hart m).req.any (·.pav = p))) hartAbort s

/-- R304, R331: requests whose buffer stopped being writable are ABORTED. -/
def sweepBuffers (s : State) : State :=
  let bad (q : BufReq) : Bool := !s.rangeWritable q.pav q.buf q.len
  let t := each ((List.range 32).filter (fun n => (s.iol n).isdu.any bad)) isduAbort s
  each ((List.range 48).filter (fun m => (s.hart m).req.any bad)) hartAbort t

end Sys2Proof.Machine
end

