-- ==== Sys2Proof/Machine/CanBase.lean ====
section
/-! DEFINITION. CAN controllers: object store, transmit queues, and what the end of a task or a Pavilion's STOP does to
them (R364 to R373). -/

namespace Sys2Proof.Machine

def State.canSt (s : State) (c : Nat) : CanSt := Tab.get s.can c {}
def updCan (c : Nat) (f : CanSt → CanSt) (s : State) : State := { s with can := Tab.upd s.can c {} f }
def State.obj (s : State) (c n : Nat) : CanObj := Tab.get (s.canSt c).objs n {}
def updObj (c n : Nat) (f : CanObj → CanObj) (s : State) : State := updCan c (fun x => { x with objs := Tab.upd x.objs n {} f }) s

/-! ### The object store (R364 to R367) -/

/-- R364: record n of the object table. -/
def State.objRec (s : State) (c n : Nat) : Bytes := slice (s.blobOf (K.canobjTable c (n / 256))) (8 * (n % 256)) 8
def Ob.enabled (r : Bytes) : Bool := bitOf (fieldAt r 0 4) 31
def Ob.ide (r : Bytes) : Bool := bitOf (fieldAt r 0 4) 30
def Ob.id (r : Bytes) : Nat := fieldAt r 0 4 % 2 ^ 29
def Ob.owner (r : Bytes) : Nat := fieldAt r 4 2

/-- The objects that are enabled. -/
def State.objsOn (s : State) (c : Nat) : List Nat :=
  (List.range 8).flatMap (fun j => if s.blobOf (K.canobjTable c j) = blobDefault (K.canobjTable c j) then []
    else ((List.range 256).map (256 * j + ·)).filter (fun n => Ob.enabled (s.objRec c n)))

/-- R364: the object table as it stands keeps every rule. -/
def State.objTableOk (s : State) (c : Nat) : Bool :=
  let on := s.objsOn c
  on.all (fun n =>
      let r := s.objRec c n
      !bitOf (fieldAt r 0 4) 29 && fieldAt r 6 2 = 0 && (Ob.owner r < 256 || Ob.owner r = 0xFFFF) && (Ob.ide r || Ob.id r < 2048))
    && on.all (fun n => on.all (fun m => m ≤ n || !(Ob.id (s.objRec c m) = Ob.id (s.objRec c n) && Ob.ide (s.objRec c m) = Ob.ide (s.objRec c n))))

/-- R367: LOST is set. -/
def objLost (c n : Nat) (s : State) : State :=
  raiseOwned (Ev.canObjectLost c) (le 2 n) (Ob.owner (s.objRec c n)) (inc (K.canstatLost c) U32.max s)

/-- R366: frame f, complete at TB0 time t, reaches object n. -/
def storeFrame (c n : Nat) (f : CanFrame) (t : Nat) (s : State) : State :=
  let o := s.obj c n
  if o.holder.isNone then
    let s := updObj c n (fun o => { o with frame := f, time := t, new := true, lost := o.lost || o.new }) s
    only o.new (objLost c n) s
  else updObj c n (fun o => { o with shadow := some (f, t), lostP := o.lostP || o.shadow.isSome }) s

/-- R366: the lock is released. -/
def releaseObj (c n : Nat) (consumed : Bool) (s : State) : State :=
  let o := s.obj c n
  let lost := if consumed then o.lostP else o.lost || o.lostP
  let new := if consumed then false else o.new
  let o' : CanObj := { o with holder := none, new := new, lost := lost, lostP := false }
  let o' := match o.shadow with
    | some (f, t) => { o' with frame := f, time := t, new := true, shadow := none, lost := lost || new }
    | none => o'
  let s := updObj c n (fun _ => o') s
  only (o.lostP || (o.shadow.isSome && new)) (objLost c n) s

/-- R366: the holder of a lane's locks. -/
def laneHolder (p x : Nat) : Nat := 1 + 3 * p + x

/-- R366: the locks of a task end unconsumed: it executed END, was cut, trapped, or its Pavilion left RUN. -/
def releaseLocks (p x : Nat) (s : State) : State :=
  each s.can (fun e s => each (e.2.objs.filter (fun o => o.2.holder = some (laneHolder p x))) (fun o => releaseObj e.1 o.1 false) s) s

/-- R365: word w of object n. -/
def State.objWord (s : State) (c n w : Nat) (busy : Bool) : Nat :=
  let o := s.obj c n
  let r := s.objRec c n
  let f := o.frame
  let len := f.data.length
  let bit (i : Nat) (b : Bool) : Nat := if b then 2 ^ i else 0
  if w = 0 then bit 31 (Ob.ide r) + bit 30 busy + Ob.id r
  else if w = 1 then bit 31 o.new + bit 30 o.lost + bit 29 o.shadow.isSome + bit 23 f.fdf + bit 22 f.brs + bit 21 f.esi + bit 20 f.rtr
    + f.dlc % 16 * 65536 + len % 128
  else if w = 2 then o.time % 2 ^ 32
  else if w = 3 then o.time / 2 ^ 32 % 2 ^ 32
  else fieldAt (padTo 64 f.data) (4 * (w - 4)) 4

/-- R367: an uncorrectable error of object n. -/
def objError (c n : Nat) (s : State) : State :=
  let s := updObj c n (fun o => { lost := true, holder := o.holder, lockAt := o.lockAt }) s
  raise (Ev.canControllerFault c) (le 2 n ++ le 1 1) (objLost c n s)

/-- R366: a read of word 0 by master m: the lock is taken, or BUSY is answered. The word, and the state after. -/
def readWord0 (c n m : Nat) (s : State) : Nat × State :=
  match (s.obj c n).holder with
  | some h => (s.objWord c n 0 (h ≠ m), s)
  | none => (s.objWord c n 0 false, updObj c n (fun o => { o with holder := some m, lockAt := s.now }) s)

/-- R366: a read of word 19 by master m: the holder's releases the lock, consumed. -/
def readWord19 (c n m : Nat) (s : State) : Nat × State :=
  let w := s.objWord c n 19 false
  if (s.obj c n).holder = some m then (w, releaseObj c n true s) else (w, s)

/-! ### Transmit queues (R368 to R373) -/

def State.queueOwner (s : State) (c q : Nat) : Nat := bits (s.rdN (K.canqRing c q)) 63 48
def State.queueEntries (s : State) (c q : Nat) : Nat := 2 ^ bits (s.rdN (K.canqRing c q)) 47 40
def State.entryAddr (s : State) (c q e : Nat) : Nat := bits (s.rdN (K.canqRing c q)) 39 0 + 128 * (e % s.queueEntries c q)
/-- R368: the ring lies in one W region of the owner. -/
def State.queueOk (s : State) (c q : Nat) : Bool :=
  let w := s.rdN (K.canqRing c q)
  let p := s.queueOwner c q
  p < 256 && bits w 39 0 % 128 = 0 && 2 ≤ bits w 47 40 && bits w 47 40 ≤ 10 && s.armed p
    && (s.regions p).any (fun g => g.w && g.lo ≤ bits w 39 0 && bits w 39 0 + 128 * s.queueEntries c q ≤ g.hi + 1)

def State.entryByte (s : State) (c q e o n : Nat) : Nat := ofLe (s.bufGet (s.queueOwner c q) (s.entryAddr c q e + o) n)

/-- R369: an entry is written: RESULT and ATTEMPTS, TIME at DONE, and STATE last. -/
def putEntry (c q e st result attempts : Nat) (time : Option Nat) (s : State) : State :=
  if !s.queueOk c q then s
  else
    let p := s.queueOwner c q
    let a := s.entryAddr c q e
    let s := match time with
      | some t => bufPut p (a + 8) (le 12 t) s
      | none => s
    bufPut p a (le 2 st) (bufPut p (a + 20) (le 2 result ++ le 2 (min 65535 attempts)) s)

/-- Number of data bytes of a DLC code, and back. -/
def dlcBytes (d : Nat) : Nat := ([0, 1, 2, 3, 4, 5, 6, 7, 8, 12, 16, 20, 24, 32, 48, 64] : List Nat).getD d 64
def dlcOf (n : Nat) : Nat := ((List.range 16).find? (fun d => n ≤ dlcBytes d)).getD 15

/-- R369: the frame an entry holds. -/
def State.entryFrame (s : State) (c q e : Nat) : TxBuf :=
  let fl := s.entryByte c q e 2 1
  let n := s.entryByte c q e 3 1
  { q := q, entry := e, single := bitOf fl 4
    frame := { ide := bitOf fl 0, fdf := bitOf fl 1, brs := bitOf fl 2, rtr := bitOf fl 3, id := s.entryByte c q e 4 4 % 2 ^ 29
               dlc := dlcOf n, data := s.bufGet (s.queueOwner c q) (s.entryAddr c q e + 32) (min 64 n) } }

/-- R369: RESULT of a head that is refused, 0 otherwise: 1 FORMAT, 2 ID_DENIED. -/
def State.headResult (s : State) (c q e : Nat) : Nat :=
  let fl := s.entryByte c q e 2 1
  let n := s.entryByte c q e 3 1
  let id := s.entryByte c q e 4 4
  let f := s.rdN (K.canqIdfilter c q)
  let fd := bitOf fl 1
  if 32 ≤ fl ∨ 2 ^ 29 ≤ id ∨ s.entryByte c q e 24 4 ≠ 0 ∨ s.entryByte c q e 28 4 ≠ 0
      ∨ !(n ≤ 8 || (fd && ([12, 16, 20, 24, 32, 48, 64] : List Nat).contains n))
      ∨ (fd && !s.on (K.canbtFdEnable c)) ∨ (bitOf fl 3 && fd) then 1
  else if bitOf fl 0 ≠ bitOf f 58 ∨ (id &&& bits f 57 29) ≠ (bits f 28 0 &&& bits f 57 29) then 2
  else 0

/-- R369: the feeder reads the queue's next entry, past entries it refuses. -/
def readHead (fuel c q : Nat) (s : State) : State :=
  match fuel with
  | 0 => s
  | fuel + 1 =>
    let e := Tab.get (s.canSt c).pos q 0 % s.queueEntries c q
    if !s.queueOk c q || (Tab.get (s.canSt c).heads q none).isSome || s.pavState (s.queueOwner c q) ≠ Prog.run
        || s.entryByte c q e 0 2 ≠ 1 then s
    else
      let r := s.headResult c q e
      if r = 0 then updCan c (fun x => { x with heads := Tab.put x.heads q (some (s.entryFrame c q e)) none }) s
      else readHead fuel c q (putEntry c q e 5 r 0 none
        (updCan c (fun x => { x with pos := Tab.put x.pos q ((e + 1) % s.queueEntries c q) 0 }) s))

/-- R369: a doorbell of queue q. -/
def doorbell (c q : Nat) (s : State) : State := readHead 1024 c q s

/-- A buffer's content. -/
def State.txb (s : State) (c b : Nat) : Option TxBuf := Tab.get (s.canSt c).bufs b none
def setTxb (c b : Nat) (v : Option TxBuf) (s : State) : State := updCan c (fun x => { x with bufs := Tab.put x.bufs b v none }) s

/-- R373: entries of queue q that are READY or wait in a buffer are CANCELLED with RESULT OWNER_STOP. -/
def stopQueue (c q : Nat) (s : State) : State :=
  let s := each [0, 1, 2] (fun b s =>
    match s.txb c b with
    | some t => if t.q = q ∧ (s.canSt c).sending ≠ some b then putEntry c q t.entry 4 4 t.attempts none (setTxb c b none s) else s
    | none => s) s
  let s := updCan c (fun x => { x with heads := Tab.put x.heads q none none }) s
  only (s.queueOk c q) (fun s => each (List.range (s.queueEntries c q)) (fun e s =>
    if s.entryByte c q e 0 2 = 1 then putEntry c q e 4 4 0 none s else s) s) s

/-- R366, R373: what a Pavilion that enters STOP leaves in the CAN controllers. -/
def canStop (p : Nat) (s : State) : State :=
  let s := each [0, 1, 2] (releaseLocks p) s
  each (List.range 8) (fun c s => each ((List.range 16).filter (fun q => s.queueOwner c q = p)) (stopQueue c) s) s

/-- R372: a cancel of entry e of queue q: the code SYS 13 returns, and the state after. -/
def cancelEntry (c q e : Nat) (s : State) : Nat × State :=
  if s.queueEntries c q ≤ e ∨ !s.queueOk c q then (Err.value, s)
  else
    let st := s.entryByte c q e 0 2
    let done (s : State) : Nat × State := (Err.ok, inc (K.canstatCancels c) U32.max s)
    if st = 1 then
      let head := (Tab.get (s.canSt c).heads q none).any (·.entry = e)
      let s := putEntry c q e 4 5 0 none s
      let s := if head then
          readHead 1024 c q (updCan c (fun x => { x with heads := Tab.put x.heads q none none
                                                         pos := Tab.put x.pos q ((e + 1) % s.queueEntries c q) 0 }) s) else s
      done s
    else if st = 2 then
      match ([0, 1, 2] : List Nat).find? (fun b => (s.txb c b).any (fun t => t.q = q && t.entry = e)) with
      | some b =>
        if (s.canSt c).sending = some b then (Err.state, inc (K.canstatCancelRefused c) U32.max s)
        else
          let n := ((s.txb c b).map (·.attempts)).getD 0
          done (readHead 1024 c q (putEntry c q e 4 5 n none (setTxb c b none s)))
      | none => (Err.value, s)
    else (Err.value, s)

/-- R373: after a takeover every restored entry in IN_BUFFER counts as READY and is sent again. -/
def canRestore (s : State) : State :=
  each (List.range 8) (fun c s => each ((List.range 16).filter (fun q => s.queueOwner c q < 256 && s.queueOk c q)) (fun q s =>
    let n := s.queueEntries c q
    let live (e : Nat) : Bool := s.entryByte c q e 0 2 = 1 || s.entryByte c q e 0 2 = 2
    let first := ((List.range n).find? (fun e => live e && !live ((e + n - 1) % n))).getD 0
    let s := each (List.range n) (fun e s => if s.entryByte c q e 0 2 = 2 then bufPut (s.queueOwner c q) (s.entryAddr c q e) (le 2 1) s else s) s
    updCan c (fun x => { x with pos := Tab.put x.pos q first 0 }) s) s) s

end Sys2Proof.Machine
end

