-- ==== Sys2Proof/Machine/PavOps.lean ====
section
/-! DEFINITION. What every family does to Pavilions: their program states (R85), the checks a RUN request meets
(R89, R200), the region table's checks (R184), their events (R208, spec/03). -/

namespace Sys2Proof.Machine

/-! ### Classes -/

/-- R64: the class is enabled. -/
def State.classOn (s : State) (x : Nat) : Bool := s.on (K.scanEnable x)
/-- R19: the scan number of a class. -/
def State.scanNo (s : State) (x : Nat) : Nat := s.rdN (K.scanNumber x)
/-- The entry point of p's task of class x; 0xFFFF_FFFF: no task. -/
def State.entryOf (s : State) (p x : Nat) : Nat := s.rdN (K.pavEntry p x)
def State.hasTask (s : State) (p x : Nat) : Bool := s.entryOf p x ≠ 0xFFFFFFFF

/-- The Pavilion's fastest enabled class: the fastest it has a task of; where it has none, the fastest enabled one. -/
def State.fastest (s : State) (p : Nat) : Nat :=
  match [0, 1, 2].find? (fun x => s.classOn x && s.hasTask p x) with
  | some x => x
  | none => ([0, 1, 2].find? (fun x => s.classOn x)).getD 1

/-! ### Events of a Pavilion -/

/-- Payload of EV 0192+p from the scan engine (spec/03, Events). -/
def scanPayload (cause cls new scan : Nat) : Bytes := le 1 1 ++ le 1 cause ++ le 1 cls ++ le 1 new ++ le 8 scan

/-- Raise EV 0192+p from the scan engine. -/
def raiseScan (p cause cls new : Nat) (s : State) : State :=
  raiseOwned (Ev.pavilion p) (scanPayload cause cls new (s.scanNo cls)) p s

/-- R208: raise EV 0192+p from the protection unit, loader, DMA engine or watchdog. Causes 0x30, 0x32, 0x33 latch. -/
def raiseProt (p cause cls detail a b : Nat) (s : State) : State :=
  let s := raiseOwned (Ev.pavilion p)
    (le 1 3 ++ le 1 cause ++ le 1 cls ++ le 1 detail ++ le 8 (s.scanNo (s.fastest p)) ++ le 2 a ++ le 2 b) p s
  if cause = 0x30 ∨ cause = 0x32 ∨ cause = 0x33 then
    { s with router := { s.router with latched := Tab.put s.router.latched (Ev.pavilion p) true false } }
  else s

/-- The class of the running task of p, or 0xFF (R208). -/
def State.runningClass (s : State) (p : Nat) : Nat :=
  ([0, 1, 2].find? (fun x => (s.task p x).st = .running)).getD 0xFF

/-! ### Logical lanes (R145) -/

/-- Physical lane at position k of Trestle t; 0xFF none. -/
def State.laneAt (s : State) (t k : Nat) : Nat := bits (s.rdN (K.trestleLaneMap t)) (8 * k + 7) (8 * k)
def setLaneAt (t k n : Nat) (s : State) : State :=
  wrN (K.trestleLaneMap t) (setBits (s.rdN (K.trestleLaneMap t)) (8 * k + 7) (8 * k) n) s
def State.isSplit (s : State) (t : Nat) : Bool := s.rdN (K.trestleConfigNow t) = 1
def State.trState (s : State) (t : Nat) : Nat := s.rdN (K.trestleState t)
/-- States of a Trestle. -/
def Tr.off : Nat := 0
def Tr.tmr : Nat := 1
def Tr.duplex : Nat := 2
def Tr.debugSplit : Nat := 3
def Tr.failed : Nat := 4
def Tr.rebuild : Nat := 5
def Tr.split : Nat := 6

/-- R145: the logical lane exists. -/
def State.laneExists (s : State) (l : Nat) : Bool :=
  l < 12 && (if s.isSplit (l / 3) then s.laneAt (l / 3) (l % 3) ≠ 0xFF else l % 3 = 0)

/-- R89, R177: the logical lane is on a SAFE Trestle that votes. -/
def State.laneSafe (s : State) (l : Nat) : Bool :=
  s.laneExists l && !s.isSplit (l / 3) && (s.trState (l / 3) = Tr.tmr || s.trState (l / 3) = Tr.duplex || s.trState (l / 3) = Tr.off)

def State.laneOf (s : State) (p : Nat) : Nat := s.rdN (K.pavLane p)
/-- Pavilions whose logical lane is l. -/
def State.pavsOn (s : State) (l : Nat) : List Nat := (List.range 256).filter (fun p => s.laneOf p = l)

def pfDebuggable (f : Nat) : Bool := bitOf f 1
def pfSafety (f : Nat) : Bool := bitOf f 2
def pfVoting (f : Nat) : Bool := bitOf f 3
def pfAutostart (f : Nat) : Bool := bitOf f 0
/-- R89: safety-related or voting required. -/
def State.needsSafe (s : State) (p : Nat) : Bool := pfSafety (s.rdN (K.pavFlags p)) || pfVoting (s.rdN (K.pavFlags p))

/-! ### Admission (R200) -/

/-- Frame-build instant of a station, in ns after the boundary of its class (R18). -/
def State.buildAt (s : State) (st : Nat) : Int :=
  (s.rdN (K.scanCommitAt (Sta.cls (s.station st))) : Int) * 1000 - Sta.pathOff (s.station st) - 2000

/-- R200: the result code, and the demand D in ns where it was computed. -/
def State.admission (s : State) (p : Nat) : Nat × Option Nat :=
  let d := s.blobOf (K.pavDeclA p)
  let l := s.laneOf p
  let start := bits (s.rdN (K.pavWindowA p)) 31 16
  let len := bits (s.rdN (K.pavWindowA p)) 15 0
  let dem := (fieldAt d 0 4 * 10 + 11) / 12 + fieldAt d 4 2 * 120 + fieldAt d 6 2 * 450 + fieldAt d 8 2 * 2000
    + fieldAt d 12 4 + 200 + 2500
  if !s.hasTask p 0 then (0, none)
  else if !s.laneExists l || (s.needsSafe p && !s.laneSafe l) then (7, none)
  else if fieldAt d 16 4 > s.rdN (K.pavIbudget p 0) then (6, none)
  else if start < s.rdN (K.scanSampleAt 0) + 2 || start + len + 1 > s.rdN (K.scanCommitAt 0) then (3, none)
  else if s.stations.any (fun st =>
      let r := s.station st
      Sta.cls r = 0 && Sta.owner r = p && Sta.outLen r > 0 && decide (((start + len : Nat) : Int) * 1000 > s.buildAt st)) then (4, none)
  else if (List.range 256).any (fun q =>
      let qs := bits (s.rdN (K.pavWindowA q)) 31 16
      let ql := bits (s.rdN (K.pavWindowA q)) 15 0
      q ≠ p && s.laneOf q = l && s.rdN (K.pavLoadState q) = 1 && s.hasTask q 0 && start < qs + ql && qs < start + len) then (5, none)
  else if dem > len * 1000 then (2, some dem)
  else (1, some dem)

/-- R200: run admission and record its result. -/
def admitProgram (p : Nat) (s : State) : State :=
  let a := s.admission p
  let s := wrN (K.pavAdmit p) a.1 s
  match a.2 with
  | some d => wrN (K.pavAdmitDemand p) d s
  | none => s

/-- R89: the conditions of a RUN request. -/
def State.mayRun (s : State) (p : Nat) : Bool :=
  s.rdN (K.pavLoadState p) = 1 && s.armed p && (s.admission p).1 ≤ 1 && s.laneExists (s.laneOf p)
    && (!s.needsSafe p || s.laneSafe (s.laneOf p)) && s.engine = 2
    && (s.pow.filled || s.dramUsed p = 0)

/-! ### Program states (R85) -/

/-- Take a task off its lane. -/
def offLane (p x : Nat) (s : State) : State :=
  updLane (s.laneOf p) (fun l => { l with run := if l.run = some (3 * p + x) then none else l.run }) s

/-! ### Scan gaps (R79, R159, R460) -/

def updResync (t : Nat) (f : Resync → Resync) (s : State) : State := updTrestle t (fun x => { x with resync := f x.resync }) s

/-- R159: chunks still to copy. -/
def Resync.pending (r : Resync) : Nat := r.dtcm + r.mirror + r.itcm

/-- R159: a gap of `len` ns on the logical lane. -/
def gapCopy (t len : Nat) (s : State) : State :=
  let r := (s.trestle t).resync
  if !r.active || r.regs || len < 1124 then s
  else if r.pending * 1024 + 2000 + 100 ≤ len then
    updResync t (fun r => { r with dtcm := 0, mirror := 0, itcm := 0, regs := true, lastChunk := s.now }) s
  else
    let n := min r.pending ((len - 100) / 1024)
    let d := min n r.dtcm
    let m := min (n - d) r.mirror
    only (0 < n) (updResync t (fun r => { r with dtcm := r.dtcm - d, mirror := r.mirror - m, itcm := r.itcm - (n - d - m), lastChunk := s.now })) s

/-- Scan time of the latest boundary of a class, in ns (R66). -/
def State.boundaryAt (s : State) (x : Nat) : Nat := ofT96 (s.rdN (K.scanTs x)) / 65536
/-- The period of a class in ns. -/
def State.periodNs (s : State) (x : Nat) : Nat := s.rdN (K.scanPeriod x) * us
/-- ns of scan time since `off` µs after the latest boundary of class x; negative before. -/
def State.sinceOff (s : State) (x off : Nat) : Int := s.scanTime - ((s.boundaryAt x + off * us : Nat) : Int)

/-- R76: start and length of p's Class A window, in µs. -/
def State.winStart (s : State) (p : Nat) : Nat := bits (s.rdN (K.pavWindowA p)) 31 16
def State.winLen (s : State) (p : Nat) : Nat := bits (s.rdN (K.pavWindowA p)) 15 0

/-- R77, R73: µs after the boundary at which Class B and Class C tasks become ready. -/
def State.readyAt (s : State) (x : Nat) : Nat := s.rdN (K.scanSampleAt x) + (if x = 1 then 2 else 0)

/-- ns until the next instant that lies `off` µs after a boundary of class x. -/
def State.until_ (s : State) (x off : Nat) : Nat :=
  let d := s.sinceOff x off
  if d < 0 then d.natAbs else s.periodNs x - d.natAbs % max 1 (s.periodNs x)

/-- R79: the length in ns of a gap that starts now on lane l: up to the next Class A window or ready instant. -/
def State.gapLength (s : State) (l : Nat) : Nat :=
  let ps := (s.pavsOn l).filter s.pavBusy
  let a := if s.classOn 0 then (ps.filter (s.hasTask · 0)).map (fun p => s.until_ 0 (s.winStart p)) else []
  let bc := ([1, 2] : List Nat).filterMap (fun x => if s.classOn x && ps.any (s.hasTask · x) then some (s.until_ x (s.readyAt x)) else none)
  let all := a ++ bc
  let l := if all = [] then ([0, 1, 2] : List Nat).filterMap (fun x => if s.classOn x then some (s.until_ x 0) else none) else all
  l.foldl min (2 ^ 32 - 1)

/-- R79, R460: a gap starts on lane l. -/
def gapStart (l : Nat) (s : State) : State :=
  let n := s.gapLength l
  let s := only (!s.isSplit (l / 3)) (gapCopy (l / 3) n) s
  updLane l (fun x => { x with gated := decide (us < n) }) s

/-! ### Dispatch (R75 to R78) -/

/-- The task of p may run: p is in RUN, or in HOLD and this is its halted task, resumed (R87, R88). -/
def State.waits (s : State) (p x : Nat) : Bool := (s.task p x).st = .ready || (s.task p x).st = .preempted

/-- R77: the order number of p's task of class x. -/
def State.orderOf (s : State) (p x : Nat) : Nat := if x = 1 then bits (s.rdN (K.pavOrder p)) 7 0 else bits (s.rdN (K.pavOrder p)) 15 8

/-- R77: the task of class x that runs next on lane l: a preempted one, else by order number and Pavilion number. -/
def State.nextOf (s : State) (l x : Nat) : Option Nat :=
  let ps := (s.pavsOn l).filter (s.waits · x)
  match ps.find? (fun p => (s.task p x).st = .preempted) with
  | some p => some p
  | none => ps.foldl (fun a p => match a with
    | none => some p
    | some q => if s.orderOf p x < s.orderOf q x then some p else some q) none

/-- Class C runs only while no Class A window is open (R77). -/
def State.nextTask (s : State) (l : Nat) : Option (Nat × Nat) :=
  match s.nextOf l 1 with
  | some p => some (p, 1)
  | none => if (s.lane l).window.isSome then none else (s.nextOf l 2).map (fun p => (p, 2))

/-- R108, R110, R142: the register bank and the task at task entry. -/
def taskEntry (p x : Nat) (s : State) : State :=
  let t := s.task p x
  let s := setBank (s.laneOf p) x
    { pc := BitVec.ofNat 20 (s.entryOf p x), csp := BitVec.ofNat 40 (s.rdN (K.pavCstackBase p))
      g := (Vector.replicate 16 (0 : Word)).set 15 (BitVec.ofNat 64 (s.rdN (K.pavDBase p)))
      status := if t.prevTrap then 0x40 else 0, pav := BitVec.ofNat 8 p, ts := BitVec.ofNat 64 (s.boundaryAt x) } s
  updTask p x (fun t => { t with retired := 0, used := 0, sysN := 0, sysG := [], prevTrap := false
                                 policy := s.rdN (kTrapPolicy p) }) s

/-- R78: a task takes its lane: at its entry point, or where it stopped. The time of the switch, at most 200 ns, is free. -/
def runTask (p x : Nat) (s : State) : State :=
  let s := if (s.task p x).st = .ready then taskEntry p x s else s
  let s := wrN K.scanSwitchMax (max (s.rdN K.scanSwitchMax) (s.free 8 % 201)) (drawn s)
  let s := updLane (s.laneOf p) (fun l => { l with run := some (3 * p + x), gated := false }) s
  updTask p x (fun t => { t with st := .running, since := s.now }) s

/-- R76, R77: the task that holds lane l is preempted. -/
def preempt (l : Nat) (s : State) : State :=
  match (s.lane l).run with
  | none => s
  | some r =>
    let s := updTask (r / 3) (r % 3) (fun t => { t with st := .preempted, used := t.used + (s.now - t.since) }) s
    updLane l (fun x => { x with run := none }) s

/-- The logical lane executes: its Trestle stands in TMR, DUPLEX, DEBUG_SPLIT or SPLIT. -/
def State.laneRuns (s : State) (l : Nat) : Bool :=
  s.laneExists l && s.engine = 2
    && ([Tr.tmr, Tr.duplex, Tr.debugSplit, Tr.split] : List Nat).contains (s.trState (l / 3))

/-- R77, R79: a free lane takes its next task, or a gap starts. -/
def laneNext (l : Nat) (s : State) : State :=
  if (s.lane l).run.isSome || !s.laneRuns l then s
  else match s.nextTask l with
    | some (p, x) => runTask p x s
    | none => gapStart l s

/-- `0x2610+x:08`: a task of class x has ended or was cut. -/
def busyMark (x : Nat) (s : State) : State :=
  wrN (K.scanBusyMax x) (min U32.max (max (s.rdN (K.scanBusyMax x)) (s.sinceOff x (s.rdN (K.scanSampleAt x))).toNat)) s

/-- R81: a task ends its scan without END; what a SYS call had not yet applied is discarded (R83). -/
def cutOne (p x : Nat) (s : State) : State :=
  if (s.task p x).st = .idle ∨ (s.task p x).st = .ended ∨ (s.task p x).st = .cut then s
  else busyMark x (releaseLocks p x (updTask p x (fun t => { t with st := .cut, sysN := 0, sysG := [] }) (offLane p x s)))

def cutAll (p : Nat) (s : State) : State := laneNext (s.laneOf p) (each [0, 1, 2] (cutOne p) s)

/-- R194: a transfer that becomes ABORTED or ERROR is reported. -/
def raiseDma (p ticket st : Nat) (s : State) : State :=
  raiseProt p 0x35 0xFF st (ticket % 65536) (ticket / 65536 % 65536)
    (wrN (K.pavDmaLast p) (Err.hardware * 2 ^ 32 + ticket % 2 ^ 32) s)

/-- Transfers not yet completed. -/
def openDma (l : List Dma) : Nat := (l.filter (fun d => d.st < 2)).length

/-- R194: every transfer of p that has not completed is ABORTED. -/
def abortDma (p : Nat) (s : State) : State :=
  let live := (s.pav p).dma.filter (fun d => d.st < 2)
  let s := updPav p (fun v => { v with dma := v.dma.map (fun d => if d.st < 2 then { d with st := 3 } else d) }) s
  let s := each live (fun d => raiseDma p d.ticket 3) s
  wrN (K.quotaDmaOpen p) 0 s

/-- Codes of WDT.STATE (R205). -/
def Wdt.disabled : Nat := 0
def Wdt.idle : Nat := 1
def Wdt.running : Nat := 2
def Wdt.frozen : Nat := 3

/-- R205: the watchdog state follows the program state; disabled, it stays DISABLED. -/
def wdtFollow (p st : Nat) (s : State) : State :=
  wrN (K.pavWdtState p) (if (s.pav p).wdtOn then st else Wdt.disabled) s

/-- R85, R86, R209: Pavilion p enters STOP now. -/
def enterStop (p cause : Nat) (s : State) : State :=
  if s.pavState p = Prog.stop then updPav p (fun v => { v with stopDue := none }) s
  else
    let s := cutAll p s
    let s := canStop p (abortBuffers p (abortDma p s))
    let s := wrN (kPavState p) Prog.stop s
    let s := wrN (K.pavStopCause p) cause s
    let s := wdtFollow p Wdt.idle s
    let s := updPav p (fun v => { v with stopDue := none, stopAt := s.now, first := 0, step := false, go := false }) s
    raiseScan p 0x10 (s.fastest p) Prog.stop s

/-- R85: a fault of p: from RUN, any running task is cut at once and STOP follows at the next boundary; from HOLD, STOP
at once. -/
def pavFault (p cause : Nat) (s : State) : State :=
  if s.pavState p = Prog.hold then enterStop p cause s
  else if s.pavState p = Prog.run then updPav p (fun v => { v with stopDue := some (v.stopDue.getD cause) }) (cutAll p s)
  else s

/-- R85: zero the L space and the M regions not retained. -/
def zeroSpaces (p : Nat) (s : State) : State :=
  let l := s.laneOf p
  let s := each [0, 1, 2] (fun x t =>
    let b := t.rdN (K.pavLBase p x)
    if b = 0 then t else clearMem (laneCell l b).1 (laneCell l b).2 0x40000 t) s
  let m := s.rdN (K.pavMBase p)
  if m = 0 then s
  else each ((s.regions p).filter (fun g => g.w && !g.retain && g.within m (m + 0x3FFFF))) (fun g t =>
    clearMem (laneCell l g.lo).1 (laneCell l g.lo).2 (g.hi + 1 - g.lo) t) s

/-- R85, R92: Pavilion p enters RUN. The change applies to the scans that begin at this boundary: a scan of another class
that began before it has no task of p. -/
def enterRun (p : Nat) (s : State) : State :=
  let b := (([0, 1, 2] : List Nat).map s.boundaryAt).foldl max 0
  let s := zeroSpaces p s
  let s := wrN (kPavState p) Prog.run s
  let s := updPav p (fun v => { v with first := 7, outSafe := false, remoteSafe := false, wdtS := s.now }) s
  let s := wdtFollow p Wdt.running s
  let s := each [0, 1, 2] (fun x => updTask p x (fun t =>
    { t with st := .idle, ended := false, scan := if s.boundaryAt x < b then s.scanNo x + 1 else t.scan })) s
  let s := raiseScan p 0x10 (s.fastest p) Prog.run s
  unlatch (Ev.pavilion p) s

/-- Every Pavilion in RUN or HOLD enters STOP at once, with STOP_CAUSE 8 (R85, R432). -/
def stopAll (s : State) : State :=
  each ((List.range 256).filter (fun p => s.pavBusy p)) (fun p => enterStop p 8) s

/-- R105: every PENDING coordinated change becomes ABORTED with REASON 6, as the engine leaves RUNNING for IDLE. -/
def chgRecord (id out cls reason pav scan : Nat) (lead : Int) : Bytes :=
  le 8 id ++ le 1 out ++ le 1 cls ++ le 1 reason ++ le 1 pav ++ le 4 0 ++ le 8 scan ++ le 8 (unsigned 8 lead)

/-- R104: replace the result record of a request. -/
def chgReplace (id : Nat) (r : Bytes) (s : State) : State :=
  let b := s.blobOf K.chgResults
  match (List.range 8).find? (fun j => fieldAt b (32 * j) 8 = id) with
  | some j => wrBlob K.chgResults (overlay b (32 * j) r) s
  | none => wrBlob K.chgResults (r ++ b.take 224) s

/-- R104: an outcome other than PENDING raises EV 0052; severity 3 for LATE, REFUSED and ABORTED. -/
def chgOutcome (c : Change) (out reason pav scan : Nat) (s : State) : State :=
  let r := chgRecord c.id out c.cls reason pav scan c.lead
  let s := chgReplace c.id r s
  raiseSev Ev.scanChangeOutcome r (if out = 2 ∨ out = 3 ∨ out = 4 then 3 else 2) s

/-- Drop a PENDING change. -/
def chgDrop (id : Nat) (s : State) : State :=
  let s := updScan (fun c => { c with changes := c.changes.filter (fun d => d.id ≠ id) }) s
  wrN K.chgPending s.scan.changes.length s

def chgAbortAll (s : State) : State :=
  each s.scan.changes (fun c t => chgDrop c.id (chgOutcome c 4 6 0xFF 0 t)) s

end Sys2Proof.Machine
end

