-- ==== Sys2Proof/Machine/Drive.lean ====
section
/-! DEFINITION. The output side of the field blocks: which outputs drive, hold blocks and safe states (R296 to R298,
R303, R323), field supplies' DIAG areas (R295), and what a change of module mode does to ports, loops and modems. -/

namespace Sys2Proof.Machine

def State.doCh (s : State) (o : Nat) : DoCh := Tab.get s.fld.dout o {}
def updDo (o : Nat) (f : DoCh → DoCh) (s : State) : State := { s with fld := { s.fld with dout := Tab.upd s.fld.dout o {} f } }
def State.holdBlk (s : State) (b : Nat) : HoldBlk := Tab.get s.fld.hold b {}
def updHold (b : Nat) (f : HoldBlk → HoldBlk) (s : State) : State := { s with fld := { s.fld with hold := Tab.upd s.fld.hold b {} f } }
def State.ao (s : State) (j : Nat) : Ao := Tab.get s.fld.ao j {}
def updAo (j : Nat) (f : Ao → Ao) (s : State) : State := { s with fld := { s.fld with ao := Tab.upd s.fld.ao j {} f } }
def State.ai (s : State) (i : Nat) : Ai := Tab.get s.fld.ai i {}
def updAi (i : Nat) (f : Ai → Ai) (s : State) : State := { s with fld := { s.fld with ai := Tab.upd s.fld.ai i {} f } }
def State.adc (s : State) (a : Nat) : Adc := Tab.get s.fld.adc a {}
def updAdc (a : Nat) (f : Adc → Adc) (s : State) : State := { s with fld := { s.fld with adc := Tab.upd s.fld.adc a {} f } }

/-- R297: a pair member whose role drives outputs: ACTIVE (SERVICE counts as ACTIVE) or HANDOVER. A SOLO module always does. -/
def State.roleDrives (s : State) : Bool :=
  !s.pairOp || s.mode = Mode.active || s.mode = Mode.service || s.mode = Mode.handover

/-- R298, R428: the drivers of spec/09 may be on. -/
def State.fieldOn (s : State) : Bool :=
  s.fld.cfgLoaded && s.fld.mated && s.pow.dormantStep = 0
    && !(s.mode = Mode.icehouse || s.mode = Mode.dormant || s.mode = Mode.provision)

/-- R286: the modes in which FIELDIO is powered. -/
def State.fieldPowered (s : State) : Bool := s.mode ≠ Mode.icehouse && s.mode ≠ Mode.dormant

/-- t_hold of block b in ms: 0–7 DO groups, 8 + n IO-Link port n, 40 + j AO j. -/
def State.tHold (s : State) (b : Nat) : Nat :=
  if b < 8 then s.rdN (K.fsupHold b) else if b < 40 then s.rdN (K.iolHold (b - 8)) else s.rdN (K.aoHold (b - 40))

/-- The block's t_hold has passed since LC; an AO counts as expired before its first commit (R323). -/
def State.blockDue (s : State) (b : Nat) : Bool :=
  (40 ≤ b && !(s.holdBlk b).committed) || s.past (s.holdBlk b).lc (s.tHold b * ms)

/-- R212, R297: the outputs of block b are driven: by role, or until its t_hold has run out. -/
def State.drivesBlock (s : State) (b : Nat) : Bool := s.roleDrives || !(s.blockDue b || (s.holdBlk b).expired)

/-- Supply group of output o. -/
def doGroup (o : Nat) : Nat := o / 12
/-! ### Digital outputs -/

/-- R294: states. -/
def Sup.missing : Nat := 2

/-- The committed bit of output o. -/
def State.doCommitted (s : State) (o : Nat) : Bool :=
  let w := s.rdN (K.doPoint o)
  ptValid w && s.bit Mem.committed (ptOff w) (ptBit w)

/-- R295: the DIAG area of group g into staging. -/
def stageDiag (g : Nat) (s : State) : State :=
  let set (f : Nat → Bool) : Nat := (List.range 12).foldl (fun a j => if f (12 * g + j) then a + 2 ^ j else a) 0
  stageArea (s.rdN (K.fsupDiagPoint g))
    (le 2 (set (fun o => s.rdN (K.doFault o) ≠ 0)) ++ le 2 (set (fun o => bitOf (s.rdN (K.doState o)) 2))
      ++ le 1 (s.rdN (K.fsupState g)) ++ le 1 (b2n (s.holdBlk g).expired) ++ le 2 0) s

/-- Set or clear a bit of DO.o.STATE. -/
def doStateBit (o i : Nat) (b : Bool) (s : State) : State := wrN (K.doState o) (setBit (s.rdN (K.doState o)) i b) s

/-- R289: set a FAULT bit, raising EV 0592+o where it was clear. -/
def doFaultSet (o i : Nat) (s : State) : State :=
  if bitOf (s.rdN (K.doFault o)) i then s
  else
    let s := wrN (K.doFault o) (setBit (s.rdN (K.doFault o)) i true) s
    let s := raiseOwned (Ev.doFault o)
      (le 1 o ++ le 1 (s.rdN (K.doFault o)) ++ le 2 (s.rdN (K.fsupCurrent (doGroup o)))) (s.rdN (K.doOwner o)) s
    stageDiag (doGroup o) s

/-- R289: clear a FAULT bit; bits 0 to 4 stay while SUPPLY is set. -/
def doFaultClear (o i : Nat) (s : State) : State :=
  if i < 5 && bitOf (s.rdN (K.doFault o)) 5 then s
  else
  let s := wrN (K.doFault o) (setBit (s.rdN (K.doFault o)) i false) s
  stageDiag (doGroup o) (updDo o (fun d => { d with latched := setBit d.latched i false }) s)

/-- R288 to R293: output o follows its committed bit, unless a fault, its mode or the module's mode holds it off. -/
def driveDo (o : Nat) (s : State) : State :=
  let cmd := s.doCommitted o
  let was := bitOf (s.rdN (K.doState o)) 0
  let s := if cmd = was then s else updDo o (fun d => { d with cmdAt := s.now }) s
  -- R290: a command OFF ends the retry wait and clears OVERCURRENT; a retry that ran OC_DELAY clears it too
  let d := s.doCh o
  let ran := d.retryAt.any (fun t => s.past t (s.rdN (K.doOcDelay o) * us))
  let s := if (!cmd || ran) && bitOf (s.rdN (K.doFault o)) 0 && !bitOf d.latched 0 && (d.wait = none || !cmd) then
      doFaultClear o 0 (updDo o (fun d => { d with wait := none, retryAt := none }) s)
    else s
  let d := s.doCh o
  let on := cmd && s.rdN (K.doMode o) = 0 && s.fieldOn && s.drivesBlock (doGroup o) && d.latched = 0 && d.wait = none && !d.hot
  let old := s.rdN (K.doState o)
  let s := if on && !bitOf old 1 then inc (K.doSwitches o) U64.max s else s
  wrN (K.doState o) (setBit (setBit (setBit old 0 cmd) 1 on) 2 (bitOf old 2 && on)) s

/-! ### IO-Link outputs -/

/-- R302, R303: what the port sends from its next cycle. -/
def driveIol (n : Nat) (s : State) : State :=
  let w := s.rdN (K.iolOutPoint n)
  let len := s.rdN (K.iolOutLen n)
  let com := s.bytesAt Mem.committed (ptOff w) len
  let x := s.iol n
  only (ptValid w) (updIol n (fun x' => { x' with
    outInvalid := x.safe && s.rdN (K.iolSafe n) = 0
    pdOut := if x.safe && s.rdN (K.iolSafe n) = 1 then (s.blobOf (K.iolReplace n)).take len else com })) s

/-- State codes of IOL.n.STATE. -/
def Iols.deactivated : Nat := 0
def Iols.startup : Nat := 1
def Iols.preoperate : Nat := 2
def Iols.operate : Nat := 3
def Iols.sio : Nat := 4
def Iols.fault : Nat := 5
def Iols.passive : Nat := 6

/-- R300: raise EV 0688+n for a change of state. -/
def iolRaise (n old new : Nat) (s : State) : State :=
  raiseWith (Ev.iolPortState n) (le 1 old ++ le 1 new ++ le 1 (s.rdN (K.iolCause n)))
    (some (if new = Iols.fault then 4 else 2)) (some (s.rdN (K.iolOwner n))) s

/-- R300: a port changes state; an entry to or exit from FAULT, PASSIVE or OPERATE raises EV 0688+n. -/
def iolTo (n new : Nat) (s : State) : State :=
  let old := s.rdN (K.iolState n)
  if old = new then s
  else
    let s := wrN (K.iolState n) new s
    let s := updIol n (fun x => { x with pdValid := x.pdValid && new = Iols.operate, attempts := 0, low := true, follow := true }) s
    if new = Iols.fault ∨ old = Iols.fault ∨ new = Iols.passive ∨ old = Iols.passive ∨ new = Iols.operate ∨ old = Iols.operate
    then iolRaise n old new s else s

/-- R300: a port starts: STARTUP, or SIO in the SIO modes. -/
def iolStart (n : Nat) (s : State) : State :=
  let m := s.rdN (K.iolMode n)
  if m = 0 then s
  else iolTo n (if m ≥ 3 then Iols.sio else Iols.startup) (wrN (K.iolCom n) 0 s)

/-- R300: a port enters FAULT with a cause; one entered again from a retry raises no event and counts in ERRORS. -/
def iolFault (n cause : Nat) (s : State) : State :=
  let s := wrN (K.iolCause n) cause s
  let s := updIol n (fun x => { x with faultAt := s.now }) s
  let s := isduAbort n s
  if (s.iol n).retried then
    let s := inc (K.iolErrors n) U32.max s
    updIol n (fun x => { x with pdValid := false, attempts := 0, low := true, follow := true }) (wrN (K.iolState n) Iols.fault s)
  else iolTo n Iols.fault s

/-- R300: every port that is not DEACTIVATED becomes PASSIVE. -/
def iolPassiveAll (s : State) : State :=
  each ((List.range 32).filter (fun n => s.rdN (K.iolState n) ≠ Iols.deactivated)) (fun n => iolTo n Iols.passive) s

/-- R300: PASSIVE ports start again. -/
def iolResumeAll (s : State) : State :=
  each ((List.range 32).filter (fun n => s.rdN (K.iolState n) = Iols.passive)) iolStart s

/-! ### Hold blocks (R296, R297, R323) -/

/-- What R297 has a point do. -/
inductive PointRule where
  | standby | safe | committed
  deriving DecidableEq, Repr

/-- R297: the rule of a point of block b whose owner is p. -/
def State.pointRule (s : State) (b p : Nat) : PointRule :=
  let t := s.tHold b * ms
  let lcp := Tab.get (s.holdBlk b).lcp p 0
  if s.blockDue b || (s.holdBlk b).expired then (if s.roleDrives then .safe else .standby)
  else if 256 ≤ p || s.rdN (K.pavLoadState p) ≠ 1 then .safe
  else if s.pavState p = Prog.stop && s.past lcp t then .safe
  else if s.pavState p = Prog.hold && s.past (s.pav p).holdAt (s.rdN (K.pavHoldLimit p) * ms) then .safe
  else .committed

/-- R298: a point of p in block b keeps its safe state until a commit, after p's latest STOP, at which p's END counts. -/
def State.keepsSafe (s : State) (b p : Nat) : Bool := Tab.get (s.holdBlk b).lcp p 0 ≤ (s.pav p).stopAt

/-- R297: output o takes SAFE, or follows its committed value. -/
def evalDo (o : Nat) (s : State) : State :=
  let w := s.rdN (K.doPoint o)
  if !ptValid w then driveDo o s
  else match s.pointRule (doGroup o) (s.rdN (K.doOwner o)) with
    | .standby => driveDo o s
    | .committed => driveDo o (only (!s.keepsSafe (doGroup o) (s.rdN (K.doOwner o))) (doStateBit o 3 false) s)
    | .safe =>
      let s := if bitOf (s.rdN (K.doState o)) 3 then s
        else match s.rdN (K.doSafe o) with
          | 0 => storeBit Mem.committed (ptOff w) (ptBit w) false s
          | 1 => storeBit Mem.committed (ptOff w) (ptBit w) true s
          | _ => s
      driveDo o (doStateBit o 3 true s)

/-- R297, R303: port n takes SAFE, or follows its committed data. -/
def evalIol (n : Nat) (s : State) : State :=
  let w := s.rdN (K.iolOutPoint n)
  if !ptValid w then s
  else match s.pointRule (8 + n) (s.rdN (K.iolOwner n)) with
    | .standby => s
    | .committed => driveIol n (only (!s.keepsSafe (8 + n) (s.rdN (K.iolOwner n))) (updIol n (fun x => { x with safe := false })) s)
    | .safe =>
      let s := if (s.iol n).safe || s.rdN (K.iolSafe n) ≠ 1 then s
        else store Mem.committed (ptOff w) ((s.blobOf (K.iolReplace n)).take (s.rdN (K.iolOutLen n))) s
      driveIol n (updIol n (fun x => { x with safe := true }) s)

/-- R323: AO j takes SAFE and keeps it until a commit at which its owner's END counts. -/
def evalAo (j : Nat) (s : State) : State :=
  match s.pointRule (40 + j) (s.rdN (K.aoOwner j)) with
  | .safe => updAo j (fun x => { x with safe := true }) s
  | _ => s

/-- R297: every point of block b is evaluated. -/
def evalBlock (b : Nat) (s : State) : State :=
  if b < 8 then stageDiag b (each ((List.range 12).map (12 * b + ·)) evalDo s)
  else if b < 40 then evalIol (b - 8) s
  else evalAo (b - 40) s

/-- The blocks. -/
def blocks : List Nat := List.range 56

/-- Blocks in which p owns an output point. -/
def State.blocksOf (s : State) (p : Nat) : List Nat :=
  (List.range 8).filter (fun g => (List.range 12).any (fun j =>
      s.rdN (K.doOwner (12 * g + j)) = p && ptValid (s.rdN (K.doPoint (12 * g + j)))))
    ++ ((List.range 32).filter (fun n => s.rdN (K.iolOwner n) = p && ptValid (s.rdN (K.iolOutPoint n)))).map (8 + ·)
    ++ ((List.range 16).filter (fun j => s.rdN (K.aoOwner j) = p && ptValid (s.rdN (K.aoOutPoint j)))).map (40 + ·)

/-- Every local output point of p stands in its safe state. -/
def State.allSafe (s : State) (p : Nat) : Bool :=
  (List.range 96).all (fun o => s.rdN (K.doOwner o) ≠ p || !ptValid (s.rdN (K.doPoint o)) || bitOf (s.rdN (K.doState o)) 3)
    && (List.range 32).all (fun n => s.rdN (K.iolOwner n) ≠ p || !ptValid (s.rdN (K.iolOutPoint n)) || (s.iol n).safe)
    && (List.range 16).all (fun j => s.rdN (K.aoOwner j) ≠ p || !ptValid (s.rdN (K.aoOutPoint j)) || (s.ao j).safe)

/-- R297: the last output point of p has taken its safe state: OUT_SAFE and its event, once. -/
def outSafeIf (p : Nat) (s : State) : State :=
  only (!(s.pav p).outSafe && s.blocksOf p ≠ [] && s.allSafe p) (fun s =>
    raiseScan p 0x11 (s.fastest p) 0 (updPav p (fun v => { v with outSafe := true }) s)) s

/-- Pavilions that own a point of block b. -/
def State.ownersIn (s : State) (b : Nat) : List Nat :=
  let l :=
    if b < 8 then (List.range 12).map (fun j => s.rdN (K.doOwner (12 * b + j)))
    else if b < 40 then [s.rdN (K.iolOwner (b - 8))] else [s.rdN (K.aoOwner (b - 40))]
  (l.filter (· < 256)).eraseDups

/-- R297: block b expires: HOLD_STATE, HOLD_EXPIRIES and EV 0585, and its points take their values. -/
def expireBlock (b : Nat) (s : State) : State :=
  if (s.holdBlk b).expired then s
  else
    let s := updHold b (fun h => { h with expired := true }) s
    let s := only (b < 8) (fun s => inc (K.fsupHoldExpiries b) U32.max (wrN (K.fsupHoldState b) 1 s)) s
    let s := raise Ev.outputHoldExpired (le 1 b ++ le 1 (s.rdN K.pairRole)) s
    each (s.ownersIn b) outSafeIf (evalBlock b s)

/-- R432: every hold block is treated as expired. -/
def expireAll (s : State) : State := each blocks expireBlock s

/-- Every output of the field blocks is evaluated again: a change of mode or role. -/
def driveAll (s : State) : State := each (List.range 96) driveDo s

/-! ### HART and mode -/

/-- HART.m.STATE. -/
def Hst.disabled : Nat := 0
def Hst.acquiring : Nat := 1
def Hst.inService : Nat := 2
def Hst.noDevice : Nat := 3
def Hst.listenOnly : Nat := 4

/-- Owner of modem m. -/
def State.hartOwner (s : State) (m : Nat) : Nat := s.rdN (K.hartOwner m)

/-- R329: the input area of modem m. `now` decides DATA_VALID. -/
def stageHart (m : Nat) (s : State) : State :=
  let x := s.hart m
  let valid := x.frameAt.any (fun t => s.now ≤ t + 3 * s.rdN (K.hartAutoPeriod m) * ms)
  let d := x.data.take 24
  stageArea (s.rdN (K.hartPoint m))
    (le 1 (s.rdN (K.hartState m)) ++ le 1 (b2n valid + 2 * b2n x.fresh + 4 * (s.rdN (K.hartFlags m) % 2) + 8 * b2n x.burst)
      ++ le 1 x.cmd ++ le 1 d.length ++ padTo 2 x.status ++ le 2 0 ++ padTo 24 d) s

/-- R329: the freeze of class x takes the areas of its modems as they stand; FRESH ends with it. -/
def hartFreeze (x : Nat) (s : State) : State :=
  each ((List.range 48).filter (fun m => ptValid (s.rdN (K.hartPoint m)) && inClass (ptOff (s.rdN (K.hartPoint m))) = x))
    (fun m s => updHart m (fun h => { h with fresh := false }) (stageHart m s)) s

/-- R328: a modem changes state: requests are dropped as it leaves IN_SERVICE; EV 0825 where `ev`, or on every change
into or out of IN_SERVICE. -/
def hartTo (m new : Nat) (ev : Bool) (s : State) : State :=
  let old := s.rdN (K.hartState m)
  if old = new then s
  else
    let s := if old = Hst.inService then hartAbort m s else s
    let s := wrN (K.hartState m) new s
    let s := updHart m (fun x => { x with
      job := if new = Hst.acquiring then 1 else 0, waiting := false, tries := 0, frameError := false, exhausted := 0
      autoDue := false, autoAt := s.now, stateAt := s.now }) s
    stageHart m (only (ev || old = Hst.inService || new = Hst.inService)
      (raiseOwned Ev.hartLink (le 1 m ++ le 1 old ++ le 1 new) (s.hartOwner m)) s)

/-- R328: modems listen only, in STANDBY and in modes with an IDLE engine of a pair. -/
def hartListenAll (s : State) : State :=
  each ((List.range 48).filter (fun m => s.rdN (K.hartState m) ≠ Hst.disabled)) (fun m => hartTo m Hst.listenOnly false) s

/-- R328: modems acquire again as the module enters ACTIVE; enabled ones start. -/
def hartResumeAll (s : State) : State :=
  each ((List.range 48).filter (fun m =>
    s.rdN (K.hartState m) = Hst.listenOnly || (s.rdN (K.hartState m) = Hst.disabled && s.on (K.hartEnable m))))
    (fun m => hartTo m Hst.acquiring false) s

/-! ### Commits (R17, R296, R298) -/

/-- A commit of the scan engine reaches every block: LC restarts, LC_p of the Pavilions whose END counted, EXPIRED is
left, and the drivers follow. -/
def commitBlocks (ends : List Nat) (s : State) : State :=
  let s := each blocks (fun b t =>
    let h := t.holdBlk b
    let t := updHold b (fun h => { h with lc := t.now, committed := true, expired := false
                                          lcp := ends.foldl (fun m p => Tab.put m p t.now 0) h.lcp }) t
    if h.expired && b < 8 then wrN (K.fsupHoldState b) 0 t else t) s
  let s := each ((List.range 16).filter (fun j => ends.contains (s.rdN (K.aoOwner j)))) (fun j => updAo j (fun x => { x with safe := false })) s
  each blocks evalBlock s

end Sys2Proof.Machine
end

