-- ==== Sys2Proof/Machine/SafetyOps.lean ====
section
/-! DEFINITION. The safety island's operations: requests, removal of torque, latches, island faults and configuration
(spec/08). -/

namespace Sys2Proof.Machine

def updIsl (f : Island → Island) (s : State) : State := { s with isl := f s.isl }
def State.grp (s : State) (g : Nat) : Group := Tab.get s.isl.groups g {}
def updGrp (g : Nat) (f : Group → Group) (s : State) : State := updIsl (fun x => { x with groups := Tab.upd x.groups g {} f }) s
def State.pairIn (s : State) (i : Nat) : PairIn := Tab.get s.isl.pairs i {}
def updPairIn (i : Nat) (f : PairIn → PairIn) (s : State) : State := updIsl (fun x => { x with pairs := Tab.upd x.pairs i {} f }) s
def State.outTest (s : State) (o : Nat) : OutTest := Tab.get s.isl.tests o {}
def updTest (o : Nat) (f : OutTest → OutTest) (s : State) : State := updIsl (fun x => { x with tests := Tab.upd x.tests o {} f }) s

/-- SAFETY.STATE. -/
def Isl.off : Nat := 0
def Isl.startup : Nat := 1
def Isl.operational : Nat := 2
def Isl.split : Nat := 3
def Isl.fault : Nat := 4

/-- SGROUP.g.STATE. -/
def Grp.sto : Nat := 0
def Grp.enabling : Nat := 1
def Grp.run : Nat := 2
def Grp.ss1 : Nat := 3

/-- Outputs assigned to group g by the active configuration. -/
def State.outsOf (s : State) (g : Nat) : List Nat := (List.range 12).filter (fun o => s.activeN (K.soutGroup o) = g)
def State.grpEnabled (s : State) (g : Nat) : Bool := s.activeN (K.sgroupEnable g) = 1
/-- Group g uses its encoder. -/
def State.encUsed (s : State) (g : Nat) : Bool := s.activeN (K.sgroupEncoderUsed g) = 1
def State.grpOwner (s : State) (g : Nat) : Nat := s.activeN (K.sgroupOwner g)

/-- R260, R263: the module's mode holds every group in STO. -/
def State.islandHeld (s : State) : Bool :=
  s.mode = Mode.provision || s.mode = Mode.safeHalt || s.mode = Mode.alarm

/-- R250 to R277: faults that put the island in FAULT. -/
def islandBad (faults : Nat) : Bool := faults % 128 ≠ 0

/-- R261: raise EV 0544+g for a change of state. -/
def grpTo (g new : Nat) (s : State) : State :=
  let old := s.rdN (K.sgroupState g)
  if old = new then s
  else
    let s := wrN (K.sgroupState g) new s
    raiseOwned (Ev.safeGroupState g) (le 1 old ++ le 1 new ++ le 1 (byteAt (s.blobOf (K.sgroupLastStop g)) 0)) (s.grpOwner g) s

/-- Set a LATCH bit of group g; EV 0550+g where it was clear. -/
def grpLatch (g b : Nat) (s : State) : State :=
  let l := s.rdN (K.sgroupLatch g)
  if bitOf l b then s
  else
    let s := wrN (K.sgroupLatch g) (setBit l b true) s
    raiseOwned (Ev.safeGroupFault g) (le 2 (setBit l b true) ++ s.blobOf (K.sgroupLastStop g)) (s.grpOwner g) s

/-- Open switches of an output: `sp` switch S, `pp` switch P; both, where a test is running, which ends with no verdict
(R269). -/
def openSwitch (sp pp : Bool) (o : Nat) (s : State) : State :=
  let test : Bool := (s.outTest o).phase ≠ 0
  let sp := sp || test
  let pp := pp || test
  let s := updIsl (fun x => { x with swS := if sp then setBit x.swS o false else x.swS, swP := if pp then setBit x.swP o false else x.swP }) s
  updTest o (fun _ => {}) s

/-- Speed of group g's encoder as channel `ch` measures it: 1 the safety processor, 2 Parapet. -/
def State.speed (s : State) (ch g : Nat) : Int := if ch = 1 then s.rd (K.sencSpeedSp g) else s.rd (K.sencSpeedPp g)

/-- R248, R261: channel `ch` removes torque in group g: its own switch of every output opens, the other channel's
follows over the cross-link; `both`: the switches of both channels open at once. -/
def removeTorque (ch g cause : Nat) (both : Bool) (s : State) : State :=
  let old := s.rdN (K.sgroupState g)
  let x := s.grp g
  let had := old = Grp.run || old = Grp.ss1
  let dur := if old = Grp.ss1 then (s.now - x.ss1At) / ms else 0
  let v := (s.speed ch g).natAbs
  let v0 := if old = Grp.ss1 then (if ch = 1 then x.v0Sp else x.v0Pp) else 0
  let s := only had (fun s => inc (K.sgroupStops g) U32.max (wrBlob (K.sgroupLastStop g)
    (le 1 cause ++ le 1 ch ++ le 2 0 ++ le 4 (unsigned 4 v0) ++ le 4 dur ++ le 4 v) s)) s
  let sp := ch = 1 || both
  let pp := ch = 2 || both
  let s := each (s.outsOf g) (openSwitch sp pp) s
  let s := each (s.outsOf g) (fun o t => if t.rdN (K.soutState o) = 3 then t else wrN (K.soutState o) 0 t) s
  let s := updIsl (fun i => { i with torqueS := if sp then setBit i.torqueS g false else i.torqueS
                                     torqueP := if pp then setBit i.torqueP g false else i.torqueP }) s
  let since := if bitOf s.isl.torqueS g = bitOf s.isl.torqueP g then none else some s.now
  let s := updGrp g (fun x => { x with phase := 0, differSince := since }) s
  grpTo g Grp.sto s

/-- R264: raise a FAULTS bit of the island: EV 0514; a bit other than TEST_PULSE and CONFIG_MISMATCH puts the island in
FAULT, sets ISLAND in every enabled group and removes torque in every group. -/
def islandFault (b ch : Nat) (s : State) : State :=
  let f := s.rdN K.safetyFaults
  if bitOf f b then s
  else
    let s := wrN K.safetyFaults (setBit f b true) s
    let s := raise Ev.safetyIslandFault (le 4 (setBit f b true)) s
    if b < 7 then
      let s := wrN K.safetyState Isl.fault s
      let s := each (List.range 6) (fun g t => removeTorque ch g 9 true t) s
      each ((List.range 6).filter s.grpEnabled) (fun g t => grpLatch g 4 t) s
    else s

/-- R266, R269, R270: output o enters FAULT with a cause: both switches open, OUTPUT latched, torque of its group removed. -/
def outFault (o cause : Nat) (s : State) : State :=
  if s.rdN (K.soutState o) = 3 then s
  else
    let g := s.activeN (K.soutGroup o)
    let s := openSwitch true true o s
    let s := wrN (K.soutCause o) cause (wrN (K.soutState o) 3 s)
    let s := raiseOwned (Ev.safeOutputFault o) (le 1 o ++ le 1 cause ++ le 2 (s.rdN (K.soutReadback o))) (s.activeN (K.soutOwner o)) s
    if g < 6 then grpLatch g 2 (removeTorque 1 g 7 true s) else s

/-- R256: pair i enters FAULT with a cause; `c` is the channel, 0 A, 1 B. -/
def pairFault (i cause c : Nat) (s : State) : State :=
  if s.rdN (K.spairState i) = 3 then s
  else
    let s := wrN (K.spairCause i) cause (wrN (K.spairState i) 3 s)
    raiseOwned (Ev.safeInputFault i) (le 1 i ++ le 1 cause ++ le 1 c) (s.activeN (K.spairOwner i)) s

/-- R432, R252: every group is forced to STO by the module's mode. -/
def islandForce (s : State) : State :=
  each (List.range 6) (fun g t => if t.rdN (K.sgroupState g) = Grp.sto then t else removeTorque 1 g 9 true t) s

/-- R253: a module reset opens both switches of every safe output; `power`: the island restarts, or is unpowered. -/
def islandReset (st : Nat) (s : State) : State :=
  let s := each (List.range 6) (fun g t => wrN (K.sgroupLatch g) 0 (wrN (K.sgroupState g) 0 t)) s
  let s := each (List.range 12) (fun o t => wrN (K.soutCause o) 0 (wrN (K.soutState o) 0 t)) s
  let s := each (List.range 12) (fun i t => wrN (K.spairCause i) 0 (wrN (K.spairState i) 0 t)) s
  let s := updIsl (fun x => { x with swS := 0, swP := 0, torqueS := 0, torqueP := 0, groups := [], pairs := [], tests := []
                                     encBad := [], encCross := [], supplyBad := false, startupOk := false, crcBad := false, hbAt := s.now
                                     partnerAt := none }) s
  wrN K.safetyFaults 0 (wrN K.safetyCpuModeNow (s.activeN K.safetyCpuMode) (wrN K.safetyState st s))

/-! ### Configuration (R274, R275) -/

/-- The RW/S+ entries of section 12, in ascending order of (index, sub). -/
def safetyKeys : List Nat :=
  [1, 6, 7, 8].map (0x340000 + ·)
    ++ (List.range 12).flatMap (fun i => (List.range 5).map (fun j => 0x341000 + 256 * i + 1 + j))
    ++ (List.range 12).flatMap (fun o => (List.range 3).map (fun j => 0x342000 + 256 * o + 1 + j))
    ++ (List.range 6).flatMap (fun g => (List.range 14).map (fun j => 0x343000 + 256 * g + 1 + j))
    ++ (List.range 6).flatMap (fun e => (List.range 5).map (fun j => 0x344000 + 256 * e + 1 + j))

/-- R275: the constants of which Parapet keeps its own copy. -/
def parapetKey (k : Nat) : Bool :=
  let i := k / 256
  let j := k % 256
  k = 0x340006 || (0x3410 ≤ i && i < 0x341C && j ≤ 4) || (0x3420 ≤ i && i < 0x342C && j ≤ 2)
    || (0x3430 ≤ i && i < 0x3436 && (j ≤ 4 || (7 ≤ j && j ≤ 13))) || (0x3440 ≤ i && i < 0x3446 && j ≤ 4)

/-- Bytes of the type of an entry of section 12. -/
def keySize (k : Nat) : Nat :=
  match dictFind (k / 256) (k % 256) with
  | some r => r.size
  | none => 1

/-- R275: CRC-32C over entries: index, subindex and value, little-endian. -/
def configCrc (val : Nat → Int) (keys : List Nat) : Nat :=
  crc32c (keys.flatMap (fun k => le 2 (k / 256) ++ le 1 (k % 256) ++ le (keySize k) (unsigned (keySize k) (val k))))

def State.stagedCrc (s : State) : Nat := configCrc s.rd safetyKeys
def State.parapetCrc (s : State) : Nat := configCrc s.rd (safetyKeys.filter parapetKey)
def State.activeCrc (s : State) : Nat := configCrc s.active safetyKeys

/-- R274: the staged configuration equals the active one. -/
def State.stagedClean (s : State) : Bool := safetyKeys.all (fun k => s.rd k = s.active k)

/-- R274: VERIFY_STATE after a change of the staged configuration. -/
def stagedChanged (s : State) : State := wrN K.safeverState (if s.stagedClean then 0 else 1) s

/-- R265: fields of a point. -/
def spValid (w : Nat) : Bool := bitOf w 31
def spKind (w : Nat) : Nat := b2n (bitOf w 30)

/-- R275: the staged configuration breaks a rule. -/
def State.stagedRule (s : State) : Bool :=
  let ty i := s.rdN (K.spairType i)
  let src i := s.rdN (K.spairSource i)
  let masks g := s.rdN (K.sgroupStoMask g) ||| s.rdN (K.sgroupSs1Mask g)
  let outs g := (List.range 12).filter (fun o => s.rdN (K.soutGroup o) = g)
  let on g := s.on (K.sgroupEnable g)
  let pts g := [s.rdN (K.sgroupReqPoint g), s.rdN (K.sgroupResetPoint g)].filter spValid
  let areas := s.areas
  (List.range 6).any (fun g => (List.range 12).any (fun i => bitOf (masks g) i && ty i = 3))
    || (List.range 6).any (fun g => s.rdN (K.sgroupResetPair g) ≠ 0xFF && ty (s.rdN (K.sgroupResetPair g)) ≠ 3)
    || (List.range 12).any (fun i => bits (src i) 7 4 ≠ 0 && bits (src i) 7 4 = bits (src i) 3 0)
    || (List.range 6).any (fun g => on g && (outs g = [] || (s.rdN (K.sgroupResetPair g) = 0xFF && !spValid (s.rdN (K.sgroupResetPoint g)))))
    || (List.range 6).any (fun g => !on g && outs g ≠ [])
    || (List.range 6).any (fun g => on g && s.on (K.sgroupEncoderUsed g) && s.rdN (K.sencType g) = 0)
    || (List.range 6).any (fun g => (pts g).any (fun w =>
        0x40000 ≤ ptOff w || s.outClass (ptOff w) = 2 || ownerIn areas true (8 * ptOff w + ptBit w) ≠ some (s.rdN (K.sgroupOwner g))))
    || (List.range 6).any (fun g => (List.range 6).any (fun h =>
        g ≠ h && spValid (s.rdN (K.sgroupReqPoint g)) && spValid (s.rdN (K.sgroupResetPoint h))
          && s.rdN (K.sgroupReqPoint g) % 2 ^ 21 = s.rdN (K.sgroupResetPoint h) % 2 ^ 21))

/-! ### Requests (R260) -/

/-- Pair i counts as DEMAND. -/
def State.pairDemand (s : State) (i : Nat) : Bool := s.rdN (K.spairState i) ≠ 1

/-- R276: the group is held in STO by a configuration mismatch. -/
def State.mismatchHeld (s : State) (g : Nat) : Bool := bitOf (s.rdN K.safetyFaults) 7 && bitOf (s.rdN K.safecmpEnable) g

/-- R260: the cause (LAST_STOP code) of the STO request of group g that channel `ch` sees, if any, in the order of the
table. -/
def State.stoRequest (s : State) (ch g : Nat) : Option Nat :=
  let sto := s.activeN (K.sgroupStoMask g)
  let w := s.activeN (K.sgroupReqPoint g)
  if (List.range 12).any (fun i => bitOf sto i && s.pairDemand i) then some 1
  else if ch = 1 && spValid w && spKind w = 1 && (s.grp g).req then some 10
  else if (s.outsOf g).any (fun o => s.rdN (K.soutState o) = 3) then some 7
  else if s.encUsed g && s.rdN (K.sencFault g) ≠ 0 then some 6
  else if bitOf (s.rdN K.safecmpLatched) g then some 8
  else if s.rdN K.safetyState ≠ Isl.operational || s.islandHeld || s.mismatchHeld g || bitOf (s.rdN (K.sgroupLatch g)) 4 then some 9
  else none

/-- R260: an SS1 request. -/
def State.ss1Request (s : State) (ch g : Nat) : Bool :=
  let w := s.activeN (K.sgroupReqPoint g)
  (List.range 12).any (fun i => bitOf (s.activeN (K.sgroupSs1Mask g)) i && s.pairDemand i)
    || (ch = 1 && spValid w && spKind w = 0 && (s.grp g).req)

/-- R265: a module whose island reads its own committed copy. -/
def State.ownPoints (s : State) : Bool := !s.pairOp || s.activeLike || s.mode = Mode.handover

/-- R265: the value of a point, own or the partner's. -/
def State.spPoint (s : State) (w partner g : Nat) : Bool :=
  spValid w && (if s.ownPoints then s.bit Mem.committed (ptOff w) (ptBit w) else bitOf partner g)

/-- R235: the decision word. -/
def State.decisionWord (s : State) : Nat :=
  let set (n : Nat) (f : Nat → Bool) : Nat := (List.range n).foldl (fun a i => if f i then a + 2 ^ i else a) 0
  set 12 (fun o => s.rdN (K.soutState o) = 2)
    + set 6 (fun g => s.rdN (K.sgroupState g) = Grp.run || s.rdN (K.sgroupState g) = Grp.ss1) * 4096
    + set 6 (fun g => s.rdN (K.sgroupState g) = Grp.ss1) * 2 ^ 18

/-- R235: the bits of group g of a decision word. -/
def State.wordOf (s : State) (g w : Nat) : List Bool :=
  bitOf w (18 + g) :: bitOf w (12 + g) :: (s.outsOf g).map (bitOf w)

/-- R239: the SAFETY field of the health word. -/
def State.healthSafety (s : State) : Nat :=
  (List.range 6).foldl (fun a g => if (s.outsOf g).any (fun o =>
      s.rdN (K.soutState o) = 3 && 1 ≤ s.rdN (K.soutCause o) && s.rdN (K.soutCause o) ≤ 3) then a + 2 ^ g else a) 0
    + (if s.isl.startupOk then 0x8000 else 0)

end Sys2Proof.Machine
end

