-- ==== Sys2Proof/Machine/TrestleOps.lean ====
section
/-! DEFINITION. Lanes and Trestles: roles, assignment, power, fencing, failure and retirement (spec/05). -/

namespace Sys2Proof.Machine

/-- The lane roles of spec/05. -/
def Rl.spare : Nat := 0
def Rl.service : Nat := 1
def Rl.joining : Nat := 2
def Rl.fenced : Nat := 3
def Rl.test : Nat := 4
def Rl.retired : Nat := 5
def Rl.split : Nat := 6
def Rl.paused : Nat := 7
def Rl.down : Nat := 8

/-- Role of physical lane n. -/
def State.role (s : State) (n : Nat) : Nat := s.rdN (K.laneRole n)

/-- Lanes of a role, in ascending number. -/
def State.lanesIn (s : State) (r : Nat) : List Nat := (List.range 15).filter (fun n => s.role n = r)

/-- Lanes at the positions of Trestle t. -/
def State.lanesOf (s : State) (t : Nat) : List Nat := ((List.range 3).map (s.laneAt t)).filter (· < 15)

/-- SPARE.SPARES, SPARE.RETIRED and the wear ledger follow the roles (R172, R444). -/
def countLanes (s : State) : State :=
  let sp := (s.lanesIn Rl.spare).length
  let rt := (s.lanesIn Rl.retired).length
  wrN K.wearSpares sp (wrN K.wearLanesRetired rt (wrN K.spareSpares sp (wrN K.spareRetired rt s)))

/-- R172, R444: the spare count fell: EV 0086 at or below the limit, and EV 0015. -/
def spareFell (before : Nat) (s : State) : State :=
  let sp := s.rdN K.spareSpares
  only (sp < before && sp ≤ s.rdN K.spareLowLimit) (fun s =>
    raise Ev.wearLedger (le 1 6 ++ le 4 sp) (raise Ev.spareLow (le 4 sp ++ le 4 (s.rdN K.spareRetired)) s)) s

/-- R148, R150: TRESTLE.t.STATUS follows the state of the Trestle. -/
def trStatus (t i : Nat) (b : Bool) (s : State) : State := wrN (K.trestleStatus t) (setBit (s.rdN (K.trestleStatus t)) i b) s

/-- Seconds since the latest passed BIST of lane n. -/
def State.bistAge (s : State) (n : Nat) : Nat := (s.now - (s.pl n).lastBistTb4) / 1000000000
/-- R171: the largest BIST age among the rotating lanes. -/
def State.oldestTest (s : State) : Nat :=
  (((List.range 15).filter (fun n => s.role n = Rl.spare || s.role n = Rl.service || s.role n = Rl.joining || s.role n = Rl.test)).map s.bistAge).foldl max 0

/-- R171, R174: COVERAGE_REDUCED follows the spare pool: set on every SAFE Trestle while it is empty, with EV 0080+t. -/
def coverage (s : State) : State :=
  let none := decide (s.lanesIn Rl.spare = [])
  each ((List.range 4).filter (fun t => !s.isSplit t)) (fun t s =>
    let had := bitOf (s.rdN (K.trestleStatus t)) 6
    let s := trStatus t 6 none s
    only (none && !had) (raise (Ev.trestleCoverageReduced t) (le 4 0 ++ le 4 s.oldestTest)) s) s

/-- A lane takes a role; the counts and COVERAGE_REDUCED follow. -/
def setRole (n r : Nat) (s : State) : State :=
  let before := s.rdN K.spareSpares
  let s := countLanes (wrN (K.laneRole n) r s)
  let s := spareFell before s
  if s.engine = 2 then coverage s else s

/-- Place lane n at position k of Trestle t. -/
def placeLane (n t k : Nat) (s : State) : State :=
  wrN (K.laneTrestle n) t (wrN (K.lanePosition n) k (setLaneAt t k n s))

/-- Lane n holds no position. -/
def unplaceLane (n : Nat) (s : State) : State :=
  wrN (K.laneTrestle n) 0xFF (wrN (K.lanePosition n) 0xFF s)

/-- A Trestle takes a state: NON_SAFE follows; leaving DUPLEX clears RESYNC_STARVED (R161) and keeps DUPLEX_MAX. -/
def trTo (t st : Nat) (s : State) : State :=
  let old := s.trState t
  let s := wrN (K.trestleState t) st s
  let s := trStatus t 3 (st ≠ Tr.tmr && st ≠ Tr.duplex) s
  let s := if old = Tr.duplex ∧ st ≠ Tr.duplex then
      let d := min U32.max (s.now - (s.trestle t).duplexSince)
      trStatus t 7 false (only (s.rdN (K.trestleDuplexMax t) < d) (wrN (K.trestleDuplexMax t) d) s)
    else s
  if st = Tr.duplex ∧ old ≠ Tr.duplex then updTrestle t (fun x => { x with duplexSince := s.now }) s
  else s

/-- R166 to R168: a rotation in progress is abandoned; its spare returns to SPARE. -/
def abandonRotation (s : State) : State :=
  if !s.rotation.active then s
  else
    let s := trStatus s.rotation.trestle 5 false s
    let n := s.rotation.spare
    let s := updTrestle s.rotation.trestle (fun x => { x with resync := {} }) s
    let s := updRot (fun r => { r with active := false, retireVictim := false }) s
    if s.role n = Rl.joining then setRole n Rl.spare (unplaceLane n s) else s

/-- The engine becomes IDLE, or the module enters STANDBY: every Trestle is OFF and its lanes are DOWN. -/
def lanesDown (s : State) : State :=
  let s := abandonRotation s
  let s := each (List.range 15) (fun n s =>
    let r := s.role n
    if r = Rl.service ∨ r = Rl.split ∨ r = Rl.paused ∨ r = Rl.fenced ∨ r = Rl.joining then wrN (K.laneRole n) Rl.down s else s) s
  let s := each (List.range 4) (fun t s =>
    let s := trStatus t 4 false (wrN (K.trestleStatus t) (s.rdN (K.trestleStatus t) / 8 * 8) s)
    updTrestle t (fun x => { x with resync := {}, voter := {} }) (trTo t Tr.off s)) s
  { s with lanes := [] }

/-- The engine becomes RUNNING (or starts FREEZE_ONLY after lane power-up): assigned lanes take up their positions. -/
def lanesUp (s : State) : State :=
  let s := each (List.range 4) (fun t s =>
    if s.trState t ≠ Tr.off then s
    else
      let ls := s.lanesOf t
      let split := s.isSplit t
      if ls.length < 3 ∧ !split then wrN (K.trestleFailCause t) 4 (trTo t Tr.failed s)
      else
        let s := each ls (fun n s => if s.role n = Rl.down then wrN (K.laneRole n) (if split then Rl.split else Rl.service) s else s) s
        trTo t (if split then Tr.split else Tr.tmr) s) s
  coverage (countLanes s)

/-- R144, R146: lanes that are not RETIRED and passed BIST are assigned in ascending number; the rest are spares. -/
def formTrestles (s : State) : State :=
  let ok := (List.range 15).filter (fun n => s.role n ≠ Rl.retired && !(s.pl n).bistFailed)
  let need := (List.range 4).flatMap (fun t => (List.range 3).map (fun k => (t, k)))
  let s := each (List.range 15) (fun n s => unplaceLane n s) s
  let s := each (List.range 4) (fun t s => wrN (K.trestleLaneMap t) 0x00FFFFFF (wrN (K.trestleConfigNow t) (s.rdN (K.trestleConfig t)) s)) s
  let whole := ok.length / 3
  let s := each ((need.zip ok).filter (fun e => e.1.1 < whole)) (fun e s => wrN (K.laneRole e.2) Rl.down (placeLane e.2 e.1.1 e.1.2 s)) s
  let used := 3 * min whole 4
  let s := each (ok.drop used) (fun n s => wrN (K.laneRole n) Rl.spare s) s
  let s := each ((List.range 4).filter (fun t => whole ≤ t)) (fun t s => wrN (K.trestleFailCause t) 4 (trTo t Tr.failed s)) s
  countLanes s

/-- R172: lane n is retired for good. -/
def retireLane (n cause : Nat) (s : State) : State :=
  let s := wrN (K.laneRetireCause n) cause (setRole n Rl.retired s)
  let s := raise (Ev.laneRetired n) (le 1 n ++ le 1 cause) s
  raise Ev.wearLedger (le 1 5 ++ le 4 (s.rdN K.wearLanesRetired)) s

/-- The bit map of the Pavilions of a list (R528). -/
def pavMap (ps : List Nat) : Bytes := bitMap 32 ps

/-- Pavilions loaded on a logical lane of Trestle t. -/
def State.trestlePavs (s : State) (t : Nat) : List Nat :=
  (List.range 256).filter (fun p => s.laneOf p / 3 = t && s.laneOf p < 12)

end Sys2Proof.Machine
end

