-- ==== Sys2Proof/Machine/Modes.lean ====
section
/-! DEFINITION. Module modes and what each change of mode does: the engine, lanes, outputs, island and role
(R70, R211, R212, R252, R427 to R434); faults that change the mode (R433); resets (R434). -/

namespace Sys2Proof.Machine

def updGate (f : Gate → Gate) (s : State) : State := { s with gate := f s.gate }
def updPow (f : Power → Power) (s : State) : State := { s with pow := f s.pow }
def updPair (f : PairSt → PairSt) (s : State) : State := { s with pair := f s.pair }
def updSec (f : Sec → Sec) (s : State) : State := { s with sec := f s.sec }
def updUpd (f : Upd → Upd) (s : State) : State := { s with upd := f s.upd }
def updSto (f : Sto → Sto) (s : State) : State := { s with sto := f s.sto }

/-- R241: ROLE_ACTIVE is released. -/
def State.roleActive (s : State) : Bool := (s.activeLike || s.mode = Mode.handover) && !s.pow.heldReset

/-- R70: the engine state a mode has; ACTIVE entered from TAKEOVER is RUNNING. -/
def engineFor (m : Nat) : Nat :=
  if m = Mode.standby ∨ m = Mode.takeover then 1 else if m = Mode.active ∨ m = Mode.service ∨ m = Mode.handover then 2 else 0

/-- PAIR.ROLE in a mode; a mode of a pair member that is none of the roles reads BOOT. -/
def State.roleFor (s : State) (m : Nat) : Nat :=
  if m = Mode.boot then 5
  else if !s.pairOp then 0
  else if m = Mode.active ∨ m = Mode.service then 1
  else if m = Mode.standby then 2
  else if m = Mode.takeover then 3
  else if m = Mode.handover then 4
  else 5

/-- R69, R70, R105, R416: the engine changes state. -/
def engineTo (e : Nat) (s : State) : State :=
  let old := s.engine
  if old = e then s
  else
    let s := if old = 2 then endSegments 32 s else s
    let s := if old = 2 ∧ e = 0 then chgAbortAll s else s
    let s := if old = 0 ∧ s.mode ≠ Mode.takeover then wr K.scanStepSum 0 s else s
    wrN K.scanEngineState e s

/-- R427: MODE.NOW, SINCE and PREVIOUS, EV 0000 with a cause, and PAIR.ROLE with EV 0448. `cause`: the row of the
table of R428, or 17 plus the row of the table of R213. -/
def setMode (m cause : Nat) (s : State) : State :=
  let old := s.mode
  if old = m then s
  else
    let s := wrN K.modePrevious old (wrN K.modeSince (s.tb96 3) (wrN K.modeNow m s))
    let s := raise Ev.modeChanged (le 1 old ++ le 1 m ++ le 1 cause) s
    let r := s.rdN K.pairRole
    let r' := s.roleFor m
    if r = r' then s
    else raise Ev.pairRoleChanged (le 1 r ++ le 1 r' ++ le 4 s.pair.held) (wrN K.pairRole r' s)

/-- R211, R252, R303, R328: the field blocks and the island follow the mode. -/
def fieldFollow (s : State) : State :=
  let s :=
    if s.mode = Mode.icehouse ∨ s.mode = Mode.dormant then islandReset Isl.off s
    else if s.mode = Mode.provision ∨ s.mode = Mode.safeHalt ∨ s.mode = Mode.alarm then islandForce s else s
  let s :=
    if s.roleDrives then (if s.activeLike then hartResumeAll (iolResumeAll s) else s)
    else if s.mode = Mode.standby then hartListenAll (iolPassiveAll s)
    else s
  driveAll s

/-- R70, R85: a mode in which the engine does not run control: Pavilions stop, the engine and the lanes follow. -/
def quiet (m cause : Nat) (s : State) : State :=
  let s := stopAll s
  let s := setMode m cause s
  lanesDown (engineTo (engineFor m) s)

/-- R432: entry to SAFE-HALT or ALARM. -/
def lockout (m cause : Nat) (s : State) : State := fieldFollow (expireAll (quiet m cause s))

/-- R432: SAFE-HALT with its HALT_CAUSE. -/
def safeHalt (halt : Nat) (s : State) : State :=
  if s.mode = Mode.icehouse ∨ s.mode = Mode.alarm ∨ s.mode = Mode.safeHalt then s
  else
    let s := updPair (fun p => { p with reqAt := none, takeoverReq := false, thenReset := false }) s
    let s := lockout Mode.safeHalt 15 s
    raise Ev.safeHalt (le 1 halt) (wrN K.modeHaltCause halt s)

/-- R490: the debug session ends. -/
def debugEnd (s : State) : State :=
  if s.rdN K.dbgState = 0 then s
  else
    let sc := s.rdN K.dbgScope
    let s := wrN K.dbgScope 0 (wrN K.dbgState 0 s)
    let s := wrN (K.clkState 26) 0 s
    raise Ev.debugSession (le 1 2 ++ le 2 sc) s

/-- R432, R486: entry to ALARM. -/
def enterAlarm (s : State) : State :=
  if s.mode = Mode.icehouse ∨ s.mode = Mode.alarm then s
  else lockout Mode.alarm 16 (debugEnd s)

/-! ### Resets (R434) -/

/-- R355: the Icehouse RTC, in units of 2⁻¹⁶ ns: the value last written plus its own count. -/
def State.rtcNow (s : State) : Nat := s.sec.rtc + (s.now - s.sec.rtcAt) * 65536

/-- Entries whose present value survives a reset: life cycle and Icehouse, storage, field update, the field blocks,
records since manufacture, and what the spec says survives. -/
def resetKeep (k : Nat) : Bool :=
  let i := k / 256
  (0x2200 ≤ i && i ≤ 0x2205) || i = 0x2208 || k = K.rngHealthFails || k = K.rngLastFail
    || (0x2300 ≤ i && i ≤ 0x2306) || (0x5000 ≤ i && i ≤ 0x51FF)
    || k = K.ghFwVersion || k = K.safetyFwVersion || k = K.ckptSchema || k = K.commSwVersion
    || k = K.modeLastReset || k = K.modeResets || k = K.wdtExpiries || k = K.tempPlateMax
    || k = K.vibShocks || k = K.vibPeak || k = K.vibShockLog || i = 0x2009
    || k = K.pwrPfailCount || k = K.pwrInternalPfail || k = K.pwrSeatedOpens || k = K.pwrSeated
    || k = K.wakeLastCause || k = K.wakeLastArg || k = K.wakeWakes || k = K.vbatIcehouseHours
    || k = K.safecmpTrips || k = K.recClears || k = K.recClearLog || k = K.timeOscSwitches || k = K.timeRtcValid
    || (0x2700 ≤ i && i ≤ 0x2703 && (k % 256 = 6 || k % 256 = 8))
    || (0x2710 ≤ i && i ≤ 0x271E && !(k % 256 = 13))
    || (0x4900 ≤ i && i ≤ 0x4907 && k % 256 = 0x0A)
    || (0x4C00 ≤ i && i < 0x4C80 && i % 16 = 6 && (k % 256 = 6 || k % 256 = 7))
    || (0x5580 ≤ i && i ≤ 0x55FF && k % 256 = 0x0B)
    || (0x2008 = i && 0x11 ≤ k % 256 && k % 256 ≤ 0x20)
    || (0x2041 ≤ i && i ≤ 0x2042) || (0x2800 ≤ i && i ≤ 0x28FF && k % 256 = 0x2B)

/-- Entries of the field blocks, which keep running through a reset under power (R234, R459). -/
def fieldKey (k : Nat) : Bool := 0x4000 ≤ k / 256 && k / 256 ≤ 0x436F && !(0x4300 ≤ k / 256 && k / 256 ≤ 0x4305 && k % 256 = 0x0C)

/-- R48: the value of an entry is committed to DICTSTORE: a record where it is not at its default, none otherwise. -/
def commitKey (k : Nat) (s : State) : State :=
  let v := s.persistValue k
  wrN (K.partWritten 6) ((s.rdN (K.partWritten 6) + s.recordBytes k) % 2 ^ 64)
    { s with store := Tab.put s.store k (if v.1 = v.2 then [] else le 1 1 ++ v.1) [], journal := s.journal.filter (· ≠ k) }

/-- Every journalled write is committed. -/
def commitAll (s : State) : State := each s.journal commitKey s

/-- Memory that survives a reset: the values the field blocks hold (R234) and the Pavilion stores. -/
def keptCell (c : Host.Cell) : Bool :=
  let sp := c.1 / 2 ^ 40
  sp = Mem.committed || (100 ≤ sp && sp < 356)

/-- What a reset ends in the storage engine. -/
def stoReset (x : Sto) : Sto :=
  { x with
    reqs := [], writing := none, undo := [], pfailAt := 0, flushed := false, stuckAt := none, releasedAt := none
    stuckRaised := false, heldBlocks := [], heldWrites := [], heldFrames := [] }

/-- R434: every session and program ends; SRAM, TCM and DRAM are wiped; BOOT begins. Journalled writes stand. -/
def moduleReset (cause : Nat) (s : State) : State :=
  let s := stopAll s
  let debug := s.rdN K.dbgState = 1
  let s := islandReset Isl.startup (commitAll s)
  let old := s.mode
  let lock := s.rdN K.wdtLock
  let resets := satInc U32.max (s.rdN K.modeResets)
  let power := cause = 1 || cause = 6 || cause = 9
  let keep (k : Nat) : Bool := resetKeep k || (!power && fieldKey k) || (cause ≠ 1 && (k = K.pwrVlogicMv || k = K.pwrVlogicState))
  let s : State := { pending := s.pending, now := s.now, fresh := s.fresh
                     tb := (List.range 8).filterMap (fun n => if n = 4 ∨ s.rtcNow = 0 then none else some (n, { val := s.rtcNow }))
                     dict := s.dict.filter (fun e => keep e.1), blob := s.blob.filter (fun e => keep e.1)
                     store := s.store, journal := [], pavVals := [], dictReady := false, answer := s.answer, wire := s.wire
                     mem := s.mem.filter keptCell
                     -- R529: a changed SEVERITY stands until R40 or R50
                     router := { sevSet := s.router.sevSet }
                     pavs := s.pavs.filterMap (fun e =>
                       let v : Pav := { image := e.2.image, declList := e.2.declList, schema := e.2.schema, wdtOn := e.2.wdtOn }
                       if v = {} then none else some (e.1, v))
                     fld := if power then { cfgLoaded := false, mated := s.fld.mated } else s.fld
                     isl := s.isl
                     pair := { bootCount := s.pair.bootCount + 1 }
                     gate := { bootAt := s.now, wdtS := s.now, rebaseAt := s.gate.rebaseAt, contFirst := s.gate.contFirst }
                     pow := { precharged := s.pow.precharged, good := s.pow.good, bootZero := s.now, carrier := s.pow.carrier
                              slot := s.pow.slot, pfail := s.pow.pfail, heldReset := s.pow.heldReset
                              seat1At := s.pow.seat1At, seat2At := s.pow.seat2At }
                     sec := { s.sec with indicated := 0, reseedAt := s.now, drbgReqs := 0, authFails := [] }
                     upd := { s.upd with trial := false, activating := none }
                     sto := stoReset s.sto
                     recd := { archive := s.recd.archive, mark := s.recd.mark }
                     hist := { points := s.hist.points, periods := s.hist.periods } }
  let s := wrN K.recSeqNext s.recd.mark (wrN K.recSeqFirst s.recd.mark s)
  let s := if s.recd.archive = [] then s else
    wrN K.recArchived (s.recd.archive.getLastD {}).seq (wrN K.recArchiveFirst (s.recd.archive.headD {}).seq s)
  let s := only (cause ≠ 1) (wrN K.wdtLock lock) s
  let s := wrN K.storState 1 (wrN K.storPfailState 0 s)
  let s := wrN K.pwrSeated (setBit (s.rdN K.pwrSeated) 2 (s.fld.mated && s.fld.cfgLoaded)) s
  let s := only s.pow.pfail (wrN K.pwrPfail 1) s
  -- R484: the sources of AUTH and BATTERY are happenings
  let s := wrN K.alarmPresent (s.rdN K.alarmPresent % 32) s
  let s := each (List.range 15) (fun n s => if s.role n = Rl.retired then s else wrN (K.laneRole n) Rl.down (unplaceLane n s)) s
  let s := countLanes s
  let s := each (s.pavs.map (·.1)) (fun p s => wdtFollow p Wdt.idle s) s
  let s := wrN K.modePrevious old (wrN K.modeLastReset cause (wrN K.modeResets resets s))
  let row := if old = Mode.icehouse then 2 else if old = Mode.dormant then 12 else if old = Mode.update then 14
    else if old = Mode.provision ∧ cause = 4 then 7 else 17
  let s := raise Ev.modeChanged (le 1 old ++ le 1 Mode.boot ++ le 1 row) s
  let s := raiseSev Ev.resetCause (le 1 cause ++ le 4 resets) (if cause = 2 ∨ cause = 3 ∨ cause = 5 then 5 else 3) s
  let s := only debug (raise Ev.debugSession (le 1 2 ++ le 2 0)) s
  driveAll s

/-! ### The pair's requests and demotion (R212, R230) -/

/-- The partner is READY, as its health words show it. -/
def State.partnerReady (s : State) : Bool := s.pairOp && s.pair.pReady && s.rdN K.cwState ≠ 0

/-- R230: takeover is requested of the partner; `halt`: the HALT_CAUSE should it not come within 50 ms (R164, R433). -/
def requestTakeover (halt : Nat) (thenReset : Bool) (s : State) : State :=
  let s := updPair (fun p => { p with takeoverReq := true, noEpochs := true, thenReset := p.thenReset || thenReset
                                      reqAt := if halt = 0 then p.reqAt else some (p.reqAt.getD (s.now, halt)) }) s
  send Wire.control (le 1 1) s

/-- R433: a fault is settled by mode. `halt`: its HALT_CAUSE; `sram`: the row of an SRAM error. -/
def settleFault (halt : Nat) (sram : Bool) (s : State) : State :=
  if s.activeLike && s.partnerReady then requestTakeover halt sram s
  else if s.activeLike then safeHalt halt s
  else if sram && s.mode ≠ Mode.icehouse then moduleReset 5 s
  else safeHalt halt s

/-- R212: the module leaves ACTIVE or HANDOVER for STANDBY. -/
def demote (cause : Nat) (s : State) : State :=
  let s := quiet Mode.standby cause s
  let s := updPair (fun p => { p with takeoverReq := false, reqAt := none, noEpochs := false, requesting := false }) s
  fieldFollow s

end Sys2Proof.Machine
end

