-- ==== Sys2Proof/Machine/CanOps.lean ====
section
/-! DEFINITION. CAN controllers: states, transmit order and the CiA 301 engine (R359 to R363, R370 to R380). -/

namespace Sys2Proof.Machine

def Can.disabled : Nat := 0
def Can.active : Nat := 1
def Can.passive : Nat := 2
def Can.busOff : Nat := 3
def Can.stuck : Nat := 4
def Can.fault : Nat := 5

def Nmt.init : Nat := 0
def Nmt.stopped : Nat := 4
def Nmt.operational : Nat := 5
def Nmt.preop : Nat := 127

/-- The CAN domain runs, out of reset. -/
def State.canRuns (s : State) : Bool := s.mode ≠ Mode.icehouse && s.mode ≠ Mode.dormant && !s.pow.heldReset

/-- R363: restricted operation. -/
def State.restricted (s : State) : Bool := s.pairOp && !(s.activeLike || s.mode = Mode.handover)

def State.canSt8 (s : State) (c : Nat) : Nat := s.rdN (K.canState c)
/-- Frames reach the controller. -/
def State.canHears (s : State) (c : Nat) : Bool := s.canRuns && (s.canSt8 c = Can.active || s.canSt8 c = Can.passive)

/-! ### States (R361) -/

/-- R380: the status area is written into staging. -/
def canStatus (c : Nat) (s : State) : State :=
  let rs := (s.canSt c).rpdos
  let m (f : Rpdo → Bool) : Bytes := bitMap 8 ((rs.filter (fun e => f e.2)).map (·.1))
  stageArea (s.rdN (K.canStatusPoint c)) (m (·.fresh) ++ m (·.timeout) ++ le 1 (s.canSt8 c) ++ le 1 (s.rdN (K.canNmtState c)) ++ le 1 (b2n s.restricted)
    ++ le 1 (s.rdN (K.canLastError c)) ++ le 2 (s.rdN (K.canTec c)) ++ le 2 (s.rdN (K.canRec c)) ++ le 8 0) s

/-- R361: the controller takes a state, with EV 0992+c. -/
def canTo (c st : Nat) (s : State) : State :=
  let old := s.canSt8 c
  if old = st then s
  else
    let s := wrN (K.canState c) st s
    let s := if st = Can.active ∧ old ≠ Can.passive then wrN (K.canTec c) 0 (wrN (K.canRec c) 0 s) else s
    -- R362: when BUS_STUCK was left
    let s := only (old = Can.stuck) (updCan c (fun x => { x with leftAt := s.now })) s
    let s := only (st = Can.busOff) (inc (K.canstatBusOff c) U32.max) s
    let s := only (st ≠ Can.active && st ≠ Can.passive) (updCan c (fun x => { x with sending := none })) s
    canStatus c (raiseSev (Ev.canState c) (le 1 old ++ le 1 st ++ le 2 (s.rdN (K.canTec c)) ++ le 2 (s.rdN (K.canRec c)) ++ le 1 (s.rdN (K.canLastError c)))
      (if 3 ≤ st then 4 else if st = Can.passive then 3 else 2) s)

/-- R361: ERROR_ACTIVE, ERROR_PASSIVE or BUS_OFF by the counters. -/
def canByCounters (c : Nat) (s : State) : State :=
  if !(s.canSt8 c = Can.active || s.canSt8 c = Can.passive) then s
  else if 255 < s.rdN (K.canTec c) then canTo c Can.busOff s
  else if 127 < s.rdN (K.canTec c) ∨ 127 < s.rdN (K.canRec c) then canTo c Can.passive s
  else canTo c Can.active s

/-! ### Transmission (R370, R371) -/

/-- R370: the arbitration key. -/
def canKey (f : CanFrame) : Nat :=
  let base := if f.ide then f.id / 2 ^ 18 % 2048 else f.id % 2048
  let ext := if f.ide then f.id % 2 ^ 18 else 0
  base * 2 ^ 21 + (if f.ide then 1 else b2n f.rtr) * 2 ^ 20 + b2n f.ide * 2 ^ 19 + ext * 2 + (if f.ide then b2n f.rtr else 0)

/-- The head of the system queue, once it may start. -/
def State.sysHead (s : State) (c : Nat) : Option TxBuf := (s.canSt c).system.find? (fun t => t.notBefore ≤ s.now)
/-- The head of queue q, the system queue being 16. -/
def State.headAt (s : State) (c q : Nat) : Option TxBuf := if q = 16 then s.sysHead c else Tab.get (s.canSt c).heads q none

/-- The queue of the least key; earlier ones win ties. -/
def leastKey (l : List (Nat × TxBuf)) : Option (Nat × TxBuf) :=
  l.foldl (fun a e => match a with
    | none => some e
    | some b => if canKey e.2.frame < canKey b.2.frame then some e else some b) none

/-- R370: which free buffer is filled, and from which queue. -/
def State.fillChoice (s : State) (c : Nat) : Option (Nat × Nat × TxBuf) :=
  let x := s.canSt c
  let heads := ([16, 0, 1, 2, 3, 4, 5, 6, 7, 8, 9, 10, 11, 12, 13, 14, 15] : List Nat).filterMap (fun q => (s.headAt c q).map (fun t => (q, t)))
  if s.rdN (K.canOrder c) = 0 then
    match ([0, 1, 2] : List Nat).find? (fun b => (s.txb c b).isNone), leastKey heads with
    | some b, some (q, t) => some (b, q, t)
    | _, _ => none
  else
    -- 0 the system queue, then q0 to q15, from the one after the queue last served
    let rank (q : Nat) : Nat := ((if q = 16 then 0 else q + 1) + 17 - (if x.lastQueue = 16 then 0 else x.lastQueue + 1) + 16) % 17
    let best := heads.foldl (fun a e => match a with
      | none => some e
      | some b => if rank e.1 < rank b.1 then some e else some b) none
    match (s.txb c (x.fillNext % 3)).isNone, best with
    | true, some (q, t) => some (x.fillNext % 3, q, t)
    | _, _ => none

/-- R370: a buffer is filled; the entry is IN_BUFFER. -/
def fill (c b q : Nat) (t : TxBuf) (s : State) : State :=
  let s := setTxb c b (some t) (updCan c (fun x => { x with fillNext := (b + 1) % 3, lastQueue := q }) s)
  if q = 16 then updCan c (fun x => { x with system := x.system.erase t }) s
  else
    let n := s.queueEntries c q
    let s := updCan c (fun x => { x with heads := Tab.put x.heads q none none, pos := Tab.put x.pos q ((t.entry + 1) % n) 0 }) s
    only (s.queueOk c q) (bufPut (s.queueOwner c q) (s.entryAddr c q t.entry) (le 2 2)) s

/-- R370: the pending buffer that starts. -/
def State.startChoice (s : State) (c : Nat) : Option (Nat × TxBuf) :=
  let x := s.canSt c
  let l := ([0, 1, 2] : List Nat).filterMap (fun b => (s.txb c b).map (fun t => (b, t)))
  if s.rdN (K.canOrder c) = 0 then leastKey l
  else ([1, 2, 3] : List Nat).findSome? (fun d => l.find? (fun e => e.1 = (x.lastStart + d) % 3))

/-- A frame as it stands on the bus: format bits, identifier, DLC and data. -/
def canWire (f : CanFrame) : Bytes :=
  le 1 (b2n f.ide + 2 * b2n f.fdf + 4 * b2n f.brs + 8 * b2n f.rtr + 16 * b2n f.esi) ++ le 4 f.id ++ le 1 f.dlc ++ f.data

/-- R371: a buffer ends: its entry takes STATE and RESULT, and the feeder reads the queue's next one. -/
def endBuffer (c b st result : Nat) (s : State) : State :=
  match s.txb c b with
  | none => s
  | some t =>
    let s := setTxb c b none (updCan c (fun x => { x with sending := none }) s)
    if t.q = 16 then s
    else
      let s := putEntry c t.q t.entry st result t.attempts (if st = 3 then some (s.tb96 0) else none) s
      let s := only (result = 3) (raiseOwned (Ev.canTxFailed c) (le 1 t.q ++ le 2 t.entry ++ le 4 t.attempts) (s.queueOwner c t.q)) s
      readHead 1024 c t.q s

/-- R371: the frame in transmission did not get through: a single-shot one ends, any other is pending again. -/
def sendingFailed (c : Nat) (s : State) : State :=
  match (s.canSt c).sending with
  | none => s
  | some b =>
    if (s.txb c b).any (·.single) then endBuffer c b 5 3 s
    else updCan c (fun x => { x with sending := none }) s

/-! ### The CiA 301 engine (R374 to R379) -/

/-- A frame for the system queue; in restricted operation the engine transmits nothing. -/
def sysSend (c id : Nat) (data : Bytes) (tpdo : Option Nat) (notBefore : Nat) (s : State) : State :=
  if s.restricted ∨ s.rdN (K.canNodeId c) = 0 ∨ s.canSt8 c = Can.disabled ∨ s.canSt8 c = Can.fault then s
  else
    let d := dlcOf data.length
    let fd := decide (8 < data.length)
    let t : TxBuf := { tpdo := tpdo, notBefore := notBefore
                       frame := { ide := bitOf id 29, fdf := fd, brs := fd, id := id % 2 ^ 29, dlc := d, data := padTo (dlcBytes d) data } }
    -- R379: a newer instance of a TPDO replaces one that has not started
    match tpdo with
    | none => updCan c (fun x => { x with system := x.system ++ [t] }) s
    | some _ =>
      match ([0, 1, 2] : List Nat).find? (fun b => (s.txb c b).any (fun u => u.q = 16 && u.tpdo = tpdo) && (s.canSt c).sending ≠ some b) with
      | some b => setTxb c b (some t) s
      | none => updCan c (fun x => { x with
          system := if x.system.any (·.tpdo = tpdo) then x.system.map (fun u => if u.tpdo = tpdo then t else u) else x.system ++ [t] }) s

/-- R375: the controller's NMT state changes. -/
def nmtTo (c st : Nat) (s : State) : State :=
  if s.rdN (K.canNmtState c) = st then s
  else
    let s := wrN (K.canNmtState c) st s
    let s := if st = Nmt.operational then updCan c (fun x => { x with
        rpdos := (List.range 64).foldl (fun t n => Tab.upd t n {} (fun r => { r with at_ := s.now })) x.rpdos }) s else s
    raiseSev (Ev.canNmt c) (le 1 st) 2 s

/-- R374: the engine leaves INITIALISATION. -/
def nmtStart (c : Nat) (s : State) : State :=
  if s.rdN (K.canNodeId c) = 0 then s
  else
    let s := nmtTo c Nmt.preop (sysSend c (0x700 + s.rdN (K.canNodeId c)) [0] none 0 s)
    let s := updCan c (fun x => { x with
      hbAt := s.now, heardAt := (List.range 8).map (fun j => (j, s.now)), lapsed := [] }) s
    only (s.on (K.canNmtAuto c)) (nmtTo c Nmt.operational) s

/-- R361: 11 recessive bits have been seen: the controller is ERROR_ACTIVE, and its engine starts. -/
def canStart (c : Nat) (s : State) : State :=
  nmtStart c (canTo c Can.active (updCan c (fun x => { x with waiting := false }) s))

/-- The mapping entries of a PDO: image bits or not, and the number of bits. -/
def State.pdoMap (s : State) (k : Nat → Nat) : List (Bool × Nat) :=
  (List.range 64).filterMap (fun j =>
    let m := s.rdN (k j)
    if m = 0 then none else some (decide (8 ≤ bits m 31 16), bits m 7 0))

/-- Bits lo to lo + n − 1 of a byte string, as a list. -/
def bitsOfBytes (b : Bytes) (lo n : Nat) : List Bool := (List.range n).map (fun i => mapBit b (lo + i))
/-- A list of bits packed into bytes, least significant first. -/
def packBits (l : List Bool) : Bytes :=
  (List.range ((l.length + 7) / 8)).map (fun i => BitVec.ofNat 8 ((List.range 8).foldl (fun a j => if l.getD (8 * i + j) false then a + 2 ^ j else a) 0))

/-- R377: the image bits an RPDO frame gives its area. -/
def rpdoArea (m : List (Bool × Nat)) (data : Bytes) : Bytes :=
  packBits (m.foldl (fun (a : List Bool × Nat) e => (if e.1 then a.1 ++ bitsOfBytes data a.2 e.2 else a.1, a.2 + e.2)) ([], 0)).1
/-- R377: bytes a mapping takes of a frame. -/
def mapBytes (m : List (Bool × Nat)) : Nat := ((m.map (·.2)).foldl (· + ·) 0 + 7) / 8

def State.rpdo (s : State) (c n : Nat) : Rpdo := Tab.get (s.canSt c).rpdos n {}
def updRpdo (c n : Nat) (f : Rpdo → Rpdo) (s : State) : State := updCan c (fun x => { x with rpdos := Tab.upd x.rpdos n {} f }) s
def State.tpdo (s : State) (c n : Nat) : Tpdo := Tab.get (s.canSt c).tpdos n {}
def updTpdo (c n : Nat) (f : Tpdo → Tpdo) (s : State) : State := updCan c (fun x => { x with tpdos := Tab.upd x.tpdos n {} f }) s

/-- The PDO's COB-ID is valid. -/
def cobValid (v : Nat) : Bool := !bitOf v 31

/-- R379: TPDOs are sent. -/
def State.tpdoSends (s : State) (c : Nat) : Bool := s.rdN (K.canNmtState c) = Nmt.operational && (s.activeLike || !s.pairOp)

/-- R379: TPDO n is sent with the data of the latest commit. -/
def sendTpdo (c n : Nat) (s : State) : State :=
  let k := 64 * c + n
  if !s.tpdoSends c || !cobValid (s.rdN (K.commTpdoCobid k)) then s
  else
    let s := sysSend c (s.rdN (K.commTpdoCobid k) % 2 ^ 30) (s.tpdo c n).data (some n) 0 s
    updTpdo c n (fun x => { x with changed := false, syncs := 0, sentAt := s.now }) s

/-- R379: the inhibit time of TPDO n has passed. -/
def State.inhibitOver (s : State) (c n : Nat) : Bool := s.past (s.tpdo c n).sentAt (s.rdN (K.commTpdoInhibit (64 * c + n)) * 100 * us)

/-- R100, R379: a Class B commit builds the TPDOs of controller c. -/
def tpdoCommit (c : Nat) (s : State) : State :=
  each ((List.range 64).filter (fun n => cobValid (s.rdN (K.commTpdoCobid (64 * c + n))))) (fun n s =>
    let k := 64 * c + n
    let w := s.rdN (K.cantpdoArea c n) % 2 ^ 32
    let m := s.pdoMap (K.commTpdoMap k)
    let bitsN := (m.map (·.2)).foldl (· + ·) 0
    let data := if ptValid w then packBits (bitsOfBytes (s.bytesAt Mem.committed (ptOff w) ((bitsN + 7) / 8)) 0 bitsN)
      else List.replicate ((bitsN + 7) / 8) 0
    let ch := decide (data ≠ (s.tpdo c n).data)
    let s := updTpdo c n (fun x => { x with data := data, changed := x.changed || ch }) s
    let ty := s.rdN (K.commTpdoType k)
    only (254 ≤ ty && (s.tpdo c n).changed && s.inhibitOver c n) (sendTpdo c n) s) s

/-- R378, R379: what a SYNC does; `cnt`: its counter, 0 where it carries none. -/
def onSync (c cnt : Nat) (s : State) : State :=
  if s.rdN (K.canNmtState c) ≠ Nmt.operational then s
  else
    let s := updCan c (fun x => { x with rpdos := x.rpdos.map (fun e =>
      (e.1, match e.2.held with
        | some d => { e.2 with data := d, held := none, fresh := true }
        | none => e.2)) }) s
    each ((List.range 64).filter (fun n => cobValid (s.rdN (K.commTpdoCobid (64 * c + n))))) (fun n s =>
      let k := 64 * c + n
      let ty := s.rdN (K.commTpdoType k)
      if ty = 0 then only (s.tpdo c n).changed (sendTpdo c n) s
      else if ty ≤ 240 then
        let start := s.rdN (K.commTpdoSyncStart k)
        let x := s.tpdo c n
        let begin_ := decide (start ≠ 0 ∧ s.rdN (K.commSyncOverflow c) ≠ 0) && !x.counting
        if begin_ && cnt ≠ start then s
        else if begin_ then sendTpdo c n (updTpdo c n (fun x => { x with counting := true }) s)
        else
          let s := updTpdo c n (fun x => { x with syncs := x.syncs + 1 }) s
          only (ty ≤ (s.tpdo c n).syncs) (sendTpdo c n) s
      else s) s

/-- R100: at a Class B freeze the latest complete RPDOs enter staging, and the status area with their FRESH bits. -/
def rpdoFreeze (c : Nat) (s : State) : State :=
  let s := each (s.canSt c).rpdos (fun e s =>
    let w := s.rdN (K.canrpdoArea c e.1) % 2 ^ 32
    stageArea w (padTo (s.pdoBytes (0x1600 + 64 * c + e.1)) e.2.data) s) s
  let s := canStatus c s
  updCan c (fun x => { x with rpdos := x.rpdos.map (fun e => (e.1, { e.2 with fresh := false })) }) s

/-! ### EMCY (R58) -/

/-- R58: the EMCY COB-ID; its default is 0x80 plus the node-ID. -/
def State.emcyCob (s : State) (c : Nat) : Nat :=
  if s.rdN (K.commEmcyCobid c) = 0 then 0x80 + s.rdN (K.canNodeId c) else s.rdN (K.commEmcyCobid c)

/-- R58: an EMCY frame on every controller whose EMCY is enabled, no sooner than the inhibit time after the latest. -/
def emcySend (body : Nat → Bytes) (s : State) : State :=
  each ((List.range 8).filter (fun c => s.rdN (K.canNodeId c) ≠ 0 && !bitOf (s.emcyCob c) 31)) (fun c s =>
    let t := max s.now ((s.canSt c).emcyAt + (if (s.canSt c).emcyAt = 0 then 0 else s.rdN (K.commEmcyInhibit c) * 100 * us))
    updCan c (fun x => { x with emcyAt := t }) (sysSend c (s.emcyCob c % 2 ^ 30) (body c) none t s)) s

/-- R58: the error register. Latched events count until they are acknowledged; bit 4 is the controller's own. -/
def State.latchedSev (s : State) (n : Nat) : Nat := bits (s.evCfg n) 18 16
def powerEvent (n : Nat) : Bool := n = 6 || (16 ≤ n && n ≤ 24)
def State.errorReg (s : State) (c : Nat) : Nat :=
  let l := (s.router.latched.filter (·.2)).map (·.1)
  let bit (i : Nat) (b : Bool) : Nat := if b then 2 ^ i else 0
  bit 0 (l.any (fun n => 4 ≤ s.latchedSev n)) + bit 2 (l.any powerEvent) + bit 3 (l.contains Ev.temperature)
    + bit 4 (s.canSt8 c = Can.passive || s.canSt8 c = Can.stuck)
    + bit 7 (l.any (fun n => s.latchedSev n < 4 && !powerEvent n && n ≠ Ev.temperature))

/-- R38, R58: a code enters the error field of controller c, the most recent first, 16 at most. -/
def errorField (c code : Nat) (s : State) : State :=
  let n := s.rdN (K.commErrorField c 0)
  let s := each ((List.range 15).map (15 - ·)) (fun j s => if j ≤ n then wr (K.commErrorField c (j + 1)) (s.rd (K.commErrorField c j)) s else s) s
  wrN (K.commErrorField c 1) code (wrN (K.commErrorField c 0) (min 16 (n + 1)) s)

/-- R58: when bit 0 and bit 7 both return to 0, an EMCY frame with code 0x0000 is sent. -/
def emcyFollow (s : State) : State :=
  let v := s.errorReg 0
  let up := bitOf v 0 || bitOf v 7
  let was := s.router.emcyUp
  let s := { s with router := { s.router with emcyUp := up } }
  only (was && !up) (emcySend (fun c => le 2 0 ++ le 1 (s.errorReg c) ++ le 5 0)) s

end Sys2Proof.Machine
end

