-- ==== Sys2Proof/Machine/Dio.lean ====
section
/-! DEFINITION. The commands of spec/09's digital inputs, digital outputs and field supplies, and of the output hold. -/

namespace Sys2Proof.Machine

def State.di (s : State) (i : Nat) : Di := Tab.get s.fld.di i {}
def updDi (i : Nat) (f : Di → Di) (s : State) : State := { s with fld := { s.fld with di := Tab.upd s.fld.di i {} f } }

/-- R286: the EXT area of input i. -/
def stageDi (i : Nat) (s : State) : State :=
  let st := s.rdN (K.diState i)
  let s := stagePoint (s.rdN (K.diPoint i)) (bitOf st 0) s
  stageArea (s.rdN (K.diExt i))
    (le 4 (s.rdN (K.diEdges i)) ++ le 4 (b2n (bitOf st 1)) ++ le 8 (s.rdN (K.diLastEdge i))) s

/-- R285: the candidate level has been held for D. `held` is the time since the new level reached the debouncer, in ns. -/
def execDebounceComplete (i : Nat) (level : Bool) (held : Nat) (s : State) : Out :=
  .next (only (i < 128 && s.fieldPowered && level ≠ bitOf (s.rdN (K.diState i)) 0 && s.rdN (K.diDebounce i) * us ≤ held) (fun s =>
    let sel := s.rdN (K.diEdge i)
    let counts := if level then bitOf sel 0 else bitOf sel 1
    let s := wrN (K.diState i) (if level then 3 else 0) s
    let s := wrN (K.diLastEdge i) ((s.tbNs 0 - held) % 2 ^ 64) s
    let s := only counts (fun s => wrN (K.diEdges i) ((s.rdN (K.diEdges i) + 1) % 2 ^ 32) s) s
    stageDi i s) s)

/-- R286: a write of DI.i.EDGES sets the counter. -/
def execDiEdgesWrite (src : Path) (i v : Nat) (s : State) : Out :=
  .next (only (i < 128) (command src (K.diEdges i) (le 4 v) (fun s => accept (stageDi i (wrN (K.diEdges i) (v % 2 ^ 32) s)))) s)

/-- R287: one 1 ms sample of a wake input in DORMANT; two in a row that differ from the level at entry wake the module
(R469). -/
def wakeDi (i : Nat) (level : Bool) (wake : State → State) (s : State) : State :=
  only (i < 8 && (s.mode = Mode.dormant || s.pow.dormantStep ≠ 0) && s.on (K.diWake i)) (fun s =>
    let differs := level ≠ (s.di i).wakeRef
    let s := updDi i (fun d => { d with wakeRun := if differs then d.wakeRun + 1 else 0 }) s
    only (2 ≤ (s.di i).wakeRun) (fun s => raise Ev.diWake (le 1 i) (wake s)) s) s

/-- R290: current limiting has lasted `held` µs: OC_DELAY trips the output; less leaves it on, limiting (R289). -/
def execDoOcTrip (o held : Nat) (s : State) : Out :=
  .next (only (o < 96 && bitOf (s.rdN (K.doState o)) 1 && !bitOf (s.rdN (K.doFault o)) 5) (fun s =>
    if held < s.rdN (K.doOcDelay o) then stageDiag (doGroup o) (doStateBit o 2 (decide (0 < held)) s) else
    let latch := s.rdN (K.doRetry o) = 0
    let s := inc (K.doTrips o) U32.max s
    let s := updDo o (fun d => { d with wait := some s.now, retryAt := none
                                        latched := if latch then setBit d.latched 0 true else d.latched }) s
    stageDiag (doGroup o) (driveDo o (doFaultSet o 0 s))) s)

/-- R290: the RETRY wait ends. -/
def execDoRetryExpiry (o : Nat) (s : State) : Out :=
  .next (only (o < 96 && s.rdN (K.doRetry o) ≠ 0 && (s.doCh o).wait.any (fun t => s.past t (s.rdN (K.doRetry o) * ms))) (fun s =>
    driveDo o (updDo o (fun d => { d with wait := none, retryAt := some s.now }) s)) s)

/-- R289, R292: the driver junction stands at `temp` (0.1 °C). -/
def execDoOvertemp (o : Nat) (temp : Int) (s : State) : Out :=
  .next (only (o < 96 && s.rdN (K.doMode o) = 0 && !bitOf (s.rdN (K.doFault o)) 5) (fun s =>
    let d := s.doCh o
    if temp ≥ 1500 && !d.hot then
      let times := pushFront 3 s.now d.hotTimes
      let third := times.length = 3 && times.all (fun t => s.now < t + 10 * sec)
      let s := updDo o (fun d => { d with hot := true, hotTimes := times, latched := if third then setBit d.latched 1 true else d.latched }) s
      driveDo o (doFaultSet o 1 s)
    else if temp < 1350 && d.hot then
      let s := updDo o (fun d => { d with hot := false }) s
      driveDo o (if bitOf (s.doCh o).latched 1 then s else doFaultClear o 1 s)
    else s) s)

/-- R289: commanded ON, not limiting, and below L+ − 3 V 200 µs after the command. `mv` is the terminal voltage. -/
def execDoNoDrive (o mv : Nat) (s : State) : Out :=
  .next (only (o < 96 && bitOf (s.rdN (K.doState o)) 1 && !bitOf (s.rdN (K.doState o)) 2
      && bitOf (s.rdN (K.doDiagEnable o)) 2 && s.past (s.doCh o).cmdAt (200 * us)
      && decide (mv + 3000 < s.rdN (K.fsupVoltage (doGroup o))) && !bitOf (s.rdN (K.doFault o)) 5) (fun s =>
    driveDo o (doFaultSet o 4 (updDo o (fun d => { d with latched := setBit d.latched 4 true }) s))) s)

/-- R291: one diagnosis of the off-state test: three suspected results in a row declare it, three good ones clear it. -/
def offTest (o i susp good : Nat) (bad : Bool) (s : State) : State :=
  if bad then only (3 ≤ susp) (doFaultSet o i) s
  else only (3 ≤ good && bitOf (s.rdN (K.doFault o)) i) (doFaultClear o i) s

/-- R291: the 100 ms off-state test of output o; `high`: at or above 12 V with the current; `stays`: for 1 ms after it. -/
def execDoOffStateTest (o : Nat) (high stays : Bool) (s : State) : Out :=
  let d := s.doCh o
  let en := s.rdN (K.doDiagEnable o)
  .next (only (o < 96 && s.rdN (K.doMode o) = 0 && !bitOf (s.rdN (K.doState o)) 1 && s.roleDrives && s.fieldOn
      && (bitOf en 0 || bitOf en 1) && s.past d.testAt (100 * ms) && s.past d.cmdAt (3 * ms)
      && s.past (Tab.get s.fld.supAt (doGroup o) 0) (3 * ms) && !bitOf (s.rdN (K.doFault o)) 5) (fun s =>
    let s := updDo o (fun d => { d with
      testAt := s.now
      suspOpen := if high && bitOf en 0 then d.suspOpen + 1 else 0
      goodOpen := if high then 0 else d.goodOpen + 1
      suspShort := if stays && bitOf en 1 then d.suspShort + 1 else 0
      goodShort := if stays then 0 else d.goodShort + 1 }) s
    let d := s.doCh o
    offTest o 3 d.suspShort d.goodShort stays (offTest o 2 d.suspOpen d.goodOpen high s)) s)

/-- R289: ACK clears every latched bit whose cause is absent. -/
def doAckEffect (o : Nat) (s : State) : Nat × State :=
  let d := s.doCh o
  let clear (i : Nat) (s : State) : State := if bitOf d.latched i && !(i = 1 && d.hot) then doFaultClear o i s else s
  let s := clear 4 (clear 1 (clear 0 s))
  let s := if bitOf d.latched 0 then updDo o (fun d => { d with wait := none }) s else s
  accept (driveDo o s)

/-- R289: ACK clears every latched bit whose cause is absent. -/
def execDoAck (src : Path) (o v : Nat) (s : State) : Out :=
  .next (only (o < 96) (command1 src (K.doAck o) v (doAckEffect o)) s)

/-! ### Field supplies (R294) -/

def kSupState (g : Nat) : Nat := if g = 8 then K.vsensState else K.fsupState g
def kSupVoltage (g : Nat) : Nat := if g = 8 then K.vsensVoltage else K.fsupVoltage g

/-- R294: the state a supply of `mv` stands in, coming from `old`. -/
def supplyState (old mv : Nat) : Nat :=
  if mv < 9000 ∨ (old = 2 ∧ mv < 9500) then 2
  else if mv < 19200 ∨ (old = 1 ∧ mv < 19700) then 1
  else if mv > 30000 ∨ (old = 3 ∧ mv > 29500) then 3
  else 0

/-- R294: the condition is declared after 1 ms, and left after its leaving threshold has held for 10 ms. -/
def supplyHold (old new : Nat) : Nat := if new = 2 ∨ old = 0 then 1000 else 10000

/-- R320, R324: SUPPLY of AO j follows VSENS. -/
def aoSupply (missing : Bool) (j : Nat) (s : State) : State :=
  let f := s.rdN (K.aoFault j)
  if missing && !bitOf f 3 then
    let s := wrN (K.aoFault j) (setBit f 3 true) s
    let s := updAo j (fun x => { x with fromOpen := true }) s
    raiseOwned (Ev.aoFault j) (le 1 j ++ le 1 (setBit f 3 true) ++ le 4 (s.rdN (K.aoOutMa j)) ++ le 4 (s.rdN (K.aoReadbackMa j)))
      (s.rdN (K.aoOwner j)) s
  else if !missing then wrN (K.aoFault j) (setBit f 3 false) s
  else s

/-- R294, R289, R299, R324: a supply changes state. `g` = 8 is VSENS; `held` is how long the condition has held, in µs. -/
def execFieldSupplyChange (g mv held : Nat) (s : State) : Out :=
  let old := s.rdN (kSupState g)
  let new := supplyState old mv
  if 36000 < mv then .fault (.outsideRatings "VFIELD")
  else .next (only (g < 9 && new ≠ old && supplyHold old new ≤ held && !bitOf (s.rdN (K.adcStatus 4)) 3) (fun s =>
    let s := wrN (kSupVoltage g) (mv % 65536) (wrN (kSupState g) new s)
    let s := { s with fld := { s.fld with supAt := Tab.put s.fld.supAt g s.now 0 } }
    let sev := if new = 2 ∨ new = 3 then 4 else if new = 1 then 3 else 2
    if g = 8 then
      let s := raiseSev Ev.vsensSupply (le 1 new ++ le 2 mv) sev s
      let s := each (List.range 16) (aoSupply (new = 2)) s
      only (new = 2) (each ((List.range 32).filter (fun n => s.rdN (K.iolState n) ≠ Iols.deactivated && s.rdN (K.iolState n) ≠ Iols.fault))
        (fun n => iolFault n 5)) s
    else
      let s := inc (K.fsupChanges g) U32.max s
      let s := raiseSev (Ev.fieldSupply g) (le 1 new ++ le 2 mv) sev s
      let s := each ((List.range 12).map (12 * g + ·)) (fun o t =>
        if t.rdN (K.doMode o) ≠ 0 then t
        else if new = 2 then doFaultSet o 5 t
        else if bitOf (t.rdN (K.doFault o)) 5 then doFaultClear o 5 t else t) s
      stageDiag g s) s)

/-! ### Output hold (R86, R87, R297) -/

/-- R297: t_hold of block b has passed since its latest commit. -/
def execBlockHoldExpiry (b : Nat) (s : State) : Out :=
  .next (only (b < 56 && s.blockDue b) (expireBlock b) s)

/-- R86: the hold of a stopped Pavilion's outputs runs out. -/
def execPavStopHoldExpiry (p : Nat) (s : State) : Out :=
  .next (only (p < 256 && s.pavState p = Prog.stop) (fun s => outSafeIf p (each (s.blocksOf p) evalBlock s)) s)

/-- R87: the HOLD output limit of Pavilion p runs out. -/
def execPavHoldLimitExpiry (p : Nat) (s : State) : Out :=
  .next (only (p < 256 && s.pavState p = Prog.hold && s.past (s.pav p).holdAt (s.rdN (K.pavHoldLimit p) * ms)) (fun s =>
    outSafeIf p (each (s.blocksOf p) evalBlock (updPav p (fun v => { v with remoteSafe := true }) s))) s)

end Sys2Proof.Machine
end

