-- ==== Sys2Proof/Machine/IoLink.lean ====
section
/-! DEFINITION. The commands of spec/09's IO-Link ports. -/

namespace Sys2Proof.Machine

/-- R302: the input area of port n into staging, taken at a Class B freeze; FRESH and bit 2 end with it (R302, R305). -/
def stageIol (n : Nat) (s : State) : State :=
  let x := s.iol n
  let st := s.rdN (K.iolState n)
  let len := s.rdN (K.iolInLen n)
  let flags := b2n (x.pdValid && st = Iols.operate) + 2 * b2n x.fresh + 4 * b2n x.devEvent
  let s := stageArea (s.rdN (K.iolInPoint n))
    (padTo (up8 (8 + len)) (le 1 st ++ le 1 flags ++ le 2 0 ++ le 4 x.cycles ++ padTo len x.pdIn)) s
  updIol n (fun x => { x with fresh := false, devEvent := false }) s

/-- Every port with an input area, at a Class B freeze (R100). -/
def stageIolAll (s : State) : State :=
  each ((List.range 32).filter (fun n => ptValid (s.rdN (K.iolInPoint n)))) stageIol s

/-- The owner of a channel is in RUN or HOLD (R283, R314). -/
def State.ownerBusy (s : State) (k : Nat) : Bool := s.rdN k < 256 && s.pavBusy (s.rdN k)

/-- R300: the effect of a write of IOL.n.MODE. -/
def iolModeEffect (n v : Nat) (s : State) : Nat × State :=
  writeThen (K.iolMode n) (le 1 v) (!s.ownerBusy (K.iolOwner n)) Err.state (fun s =>
    let s := updIol n (fun x => { x with retried := false }) s
    if v = 0 then iolTo n Iols.deactivated (isduAbort n s)
    else if s.rdN (K.iolState n) = Iols.passive then s
    else if !s.roleDrives then iolTo n Iols.passive s
    else iolStart n s) s

/-- R300: a write of IOL.n.MODE. -/
def execIolModeWrite (src : Path) (n v : Nat) (s : State) : Out :=
  .next (only (n < 32) (command src (K.iolMode n) (le 1 v) (iolModeEffect n v)) s)

/-- R301: one attempt of the wake-up sequence. `com`: 0 not answered, else 1 to 3; `low`: C/Q read low whenever the port
did not drive it; `follow`: the line followed the request. -/
def execIolWakeupAttempt (n com : Nat) (low follow : Bool) (s : State) : Out :=
  let x := s.iol n
  .next (only (n < 32 && s.rdN (K.iolState n) = Iols.startup && s.rdN (K.iolCom n) = 0 && x.attempts < 3
      && (x.attempts = 0 || s.past x.lastAttempt (50 * ms))) (fun s =>
    let s := updIol n (fun x => { x with attempts := x.attempts + 1, lastAttempt := s.now, low := x.low && low, follow := x.follow && follow }) s
    if 1 ≤ com ∧ com ≤ 3 then wrN (K.iolCom n) com s
    else
      let x := s.iol n
      if x.attempts < 3 then s
      else iolFault n (if x.low then 1 else if !x.follow then 7 else 2) s) s)

/-- R300: the device answers with its identity, process data lengths and minimum cycle time (100 µs). -/
def execIolDeviceAnswer (n vendor dev inl outl minc : Nat) (s : State) : Out :=
  .next (only (n < 32 && s.rdN (K.iolState n) = Iols.startup && s.rdN (K.iolCom n) ≠ 0) (fun s =>
    let s := wrN (K.iolDevVendor n) (vendor % 65536) (wrN (K.iolDevId n) (dev % 2 ^ 24) s)
    let cyc := s.rdN (K.iolCycle n)
    if s.rdN (K.iolMode n) = 2 ∧ ¬(vendor = s.rdN (K.iolVendorId n) ∧ dev = s.rdN (K.iolDeviceId n)) then iolFault n 3 s
    else if inl ≠ s.rdN (K.iolInLen n) ∨ outl ≠ s.rdN (K.iolOutLen n) then iolFault n 4 s
    else if cyc ≠ 0 ∧ cyc < minc then iolFault n 8 s
    else iolTo n Iols.preoperate (wrN (K.iolActCycle n) (if cyc = 0 then minc % 65536 else cyc) s)) s)

/-- R300: the device confirms the operate command. -/
def execIolOperateConfirm (n : Nat) (s : State) : Out :=
  .next (only (n < 32 && s.rdN (K.iolState n) = Iols.preoperate) (fun s =>
    iolTo n Iols.operate (updIol n (fun x => { x with fails := 0, retried := false }) s)) s)

/-- R302, R304: an ISDU request completes. -/
def isduClose (n st : Nat) (status data : Bytes) (s : State) : State :=
  match (s.iol n).isdu with
  | some q => closeBuf q st status data (updIol n (fun x => { x with isdu := none }) s)
  | none => s

/-- R302, R300: a cycle completes, with the input process data, or fails after retries. In SIO_DI `pd` holds the level. -/
def execIolCycleComplete (n : Nat) (ok invalid : Bool) (pd : Bytes) (s : State) : Out :=
  let st := s.rdN (K.iolState n)
  .next (
    if n < 32 ∧ st = Iols.operate then
      if ok then
        updIol n (fun x => { x with cycles := (x.cycles + 1) % 2 ^ 32, fresh := true, fails := 0, pdValid := !invalid
                                    pdIn := padTo (s.rdN (K.iolInLen n)) pd }) s
      else
        let s := inc (K.iolErrors n) U32.max (updIol n (fun x => { x with fails := x.fails + 1 }) s)
        if (s.iol n).fails < 3 then s
        else
          let s := inc (K.iolErrors n) U32.max (isduClose n 2 (le 2 0xFF02) [] s)
          iolTo n Iols.startup (wrN (K.iolCom n) 0 s)
    else if n < 32 ∧ st = Iols.sio ∧ s.rdN (K.iolMode n) = 3 then
      updIol n (fun x => { x with pdIn := le 1 (byteAt pd 0 % 2) }) s
    else s)

/-- R299, R300: an L+ overload lasted 10 ms. `held` is its duration in µs, `ma` the current. -/
def execIolLplusOverload (n ma held : Nat) (s : State) : Out :=
  .next (only (n < 32 && s.rdN (K.iolState n) ≠ Iols.deactivated && s.rdN (K.iolState n) ≠ Iols.fault && 10000 ≤ held) (fun s =>
    iolFault n 5 (wrN (K.iolLplusMa n) (ma % 65536) s)) s)

/-- R300: 1 s in FAULT elapsed. While VSENS is MISSING the port falls back into FAULT at once. -/
def execIolFaultRetry (n : Nat) (s : State) : Out :=
  .next (only (n < 32 && s.rdN (K.iolState n) = Iols.fault && s.past (s.iol n).faultAt sec) (fun s =>
    let s := updIol n (fun x => { x with retried := true }) s
    if s.rdN K.vsensState = 2 then iolFault n 5 s else iolStart n s) s)

/-- R304: the ISDU request of the port completes: data, or the device's error, or the 5 s timeout (0xFF01). -/
def execIolIsduComplete (n : Nat) (ok : Bool) (err : Nat) (data : Bytes) (s : State) : Out :=
  .next (only (n < 32) (fun s =>
    if ok then isduClose n 1 [] data s
    else isduClose n 2 (if (s.iol n).isdu.any (fun q => s.past q.at_ (5 * sec)) then le 2 0xFF01 else le 2 err) [] s) s)

/-- R305: a device event with its qualifier and code; appearing and single-shot ones are reported. -/
def execIolDeviceEvent (n qual code : Nat) (appears : Bool) (s : State) : Out :=
  .next (only (n < 32 && (s.rdN (K.iolState n) = Iols.operate || s.rdN (K.iolState n) = Iols.preoperate) && appears) (fun s =>
    let s := updIol n (fun x => { x with devEvent := true }) s
    raiseOwned (Ev.iolDeviceEvent n) (le 1 n ++ le 1 qual ++ le 2 code) (s.rdN (K.iolOwner n)) s) s)

end Sys2Proof.Machine
end

