-- ==== Sys2Proof/Machine/Analog.lean ====
section
/-! DEFINITION. The commands of spec/10's converters and current loops. -/

namespace Sys2Proof.Machine

/-! ### Converters (R307 to R313) -/

def adcSettled (st : Nat) : Bool := bitOf st 0
/-- Set or clear a bit of ADC.a.STATUS. -/
def adcBit (a i : Nat) (b : Bool) (s : State) : State := wrN (K.adcStatus a) (setBit (s.rdN (K.adcStatus a)) i b) s

/-- Payload of EV 0768+a. -/
def raiseAdc (a ch code : Nat) (s : State) : State :=
  raise (Ev.adcFault a) (le 1 a ++ le 2 (s.rdN (K.adcStatus a)) ++ le 1 ch ++ le 2 code) s

/-- R309: REF_SETTLED is cleared, at power-up and at an accepted write of REF or AREF_MV. -/
def adcRestart (a : Nat) (s : State) : State :=
  adcBit a 0 false (updAdc a (fun x => { x with clearedAt := s.now, refTestAt := s.now, settling := [] }) s)

/-- R311: a trigger: in SCAN every channel of MASK; one that arrives while a scan runs is counted and discarded. -/
def adcTrigger (a : Nat) (s : State) : State :=
  let s := updAdc a (fun x => { x with lastTrig := s.now }) s
  if s.rdN (K.adcMode a) = 0 then
    if (s.adc a).left ≠ [] then inc (K.adcMissed a) U32.max s
    else adcBit a 1 true (updAdc a (fun x => { x with left := (List.range 13).filter (fun c => bitOf (s.rdN (K.adcMask a)) c) }) s)
  else adcBit a 1 true (updAdc a (fun x => { x with left := [s.rdN (K.adcChsel a)] }) s)

/-- R311: the converter's own timer. -/
def execAdcTriggerTimer (a : Nat) (s : State) : Out :=
  .next (only (a < 4 && s.rdN (K.adcTrigger a) = 1 && s.past (s.adc a).lastTrig (s.rdN (K.adcPeriod a) * us)) (adcTrigger a) s)

/-- R311: the effect of a write of 1 to START, which triggers under TRIGGER SOFTWARE. -/
def adcStartEffect (a : Nat) (s : State) : Nat × State := accept (only (s.rdN (K.adcTrigger a) = 2) (adcTrigger a) s)

/-- R311: a write of 1 to START. -/
def execAdcStart (src : Path) (a v : Nat) (s : State) : Out :=
  .next (only (a < 4) (command1 src (K.adcStart a) v (adcStartEffect a)) s)

/-- R315: V_ref of converter a, binary32. -/
def State.vref (s : State) (a : Nat) : Nat :=
  match s.rdN (K.adcRef a) with
  | 0 => frat 5 2
  | 1 => fdiv (f32.ofInt (s.rd (K.adcArefMv a))) (f32.ofInt 1000)
  | _ => fdiv (f32.ofInt 81920) (f32.ofInt (s.adc a).railCode)

/-- R315: the raw current of a code. -/
def State.iRaw (s : State) (a code : Nat) : Nat :=
  fmul (fdiv (fmul (f32.ofInt code) (s.vref a)) (f32.ofInt 6553600)) (f32.ofInt 1000)

/-- R318: the input area of AI i. -/
def stageAi (i : Nat) (s : State) : State :=
  only (s.rdN (K.aiMode i) ≠ 0) (stageArea (s.rdN (K.aiPoint i))
    (le 4 (s.rdN (K.aiValue i)) ++ le 4 (s.rdN (K.aiRawMa i)) ++ le 1 (s.rdN (K.aiNe43 i)) ++ le 1 (s.rdN (K.aiFlags i))
      ++ le 2 0 ++ le 4 (s.ai i).count)) s

/-- Set or clear a bit of AI.i.FLAGS. -/
def aiFlag (i b : Nat) (v : Bool) (s : State) : State := wrN (K.aiFlags i) (setBit (s.rdN (K.aiFlags i)) b v) s

/-- Raise EV 0776+i. -/
def raiseAi (i sev : Nat) (s : State) : State :=
  raiseWith (Ev.aiState i) (le 1 i ++ le 1 (s.rdN (K.aiNe43 i)) ++ le 1 (s.rdN (K.aiFlags i)) ++ le 4 (s.rdN (K.aiRawMa i)))
    (some sev) (some (s.rdN (K.aiOwner i))) s

/-- R308: whether a self-test code lies within tolerance of its expected code (R312). -/
def State.selftestOk (s : State) (a ch code : Nat) : Bool :=
  let ref := s.rdN (K.adcRef a)
  let mv := if ref = 0 then 2500 else if ref = 1 then s.rdN (K.adcArefMv a) else 3300
  let expect : Nat :=
    if ch = 8 then (if ref = 0 then 32768 else if ref = 2 then 24824 else 1250 * 65536 / mv)
    else if ch = 9 then (if ref = 0 then 43254 else if ref = 2 then 32768 else 1650 * 65536 / mv)
    else if ch = 11 then 0 else 32768
  if ch = 10 then 790 * 65536 ≤ code * mv && code * mv ≤ 1140 * 65536
  else decide (((code : Int) - expect).natAbs * 200 ≤ 65536)

/-- R312: the result of a self-test of one channel. -/
def selftest (a ch code : Nat) (s : State) : State :=
  let ok := s.selftestOk a ch code
  let s := updAdc a (fun x => { x with
    stPending := false
    stNext := if ch ≥ 12 then 8 else ch + 1
    fails := Tab.put x.fails ch (if ok then 0 else Tab.get x.fails ch 0 + 1) 0
    passes := Tab.put x.passes ch (if ok then Tab.get x.passes ch 0 + 1 else 0) 0
    railCode := if ch = 8 then code else x.railCode }) s
  let x := s.adc a
  if !ok then
    if Tab.get x.fails ch 0 < 3 then s
    else
      let s := updAdc a (fun x => { x with fails := Tab.put x.fails ch 0 0 }) s
      let s := inc (K.adcSelftestFails a) U32.max (adcBit a 3 true s)
      let s := raiseAdc a ch code s
      each ((List.range 8).map (8 * a + ·)) (fun i t => stageAi i (aiFlag i 2 true t)) s
  else if bitOf (s.rdN (K.adcStatus a)) 3 && [8, 9, 10, 11, 12].all (fun c => 10 ≤ Tab.get x.passes c 0) then
    each ((List.range 8).map (8 * a + ·)) (fun i t => stageAi i (aiFlag i 2 false t)) (adcBit a 3 false s)
  else s

/-- R310: a conversion of 2 µs that ends now started before REF_SETTLED. -/
def State.unsettled (s : State) (a : Nat) : Bool := !adcSettled (s.rdN (K.adcStatus a)) || !s.past (s.adc a).settledAt (2 * us)

/-- R310: the result word of a conversion, user's or self-test's. -/
def adcWord (a ch code : Nat) (s : State) : State :=
  wrN (K.adcResult a ch) (b2n (s.unsettled a) * 2 ^ 31 + b2n (code = 0 || code = 65535) * 2 ^ 30 + ch * 65536 + code) s

/-- R310: a conversion completes; a conversion takes 2 µs, and carries UNSETTLED where it started before REF_SETTLED. -/
def execAdcConversionComplete (a ch code : Nat) (selftest? : Bool) (s : State) : Out :=
  .next (only (a < 4 && ch ≤ 12 && code < 65536) (fun s =>
    let x := s.adc a
    if selftest? then
      only (x.stPending && ch = x.stNext && adcSettled (s.rdN (K.adcStatus a))) (fun s => selftest a ch code (adcWord a ch code s)) s
    else
      only (x.left.head? = some ch) (fun s =>
        let unsettled := s.unsettled a
        let s := updAdc a (fun x => { x with left := x.left.tail }) s
        let s := adcBit a 1 ((s.adc a).left ≠ []) s
        let s := adcWord a ch code s
        let s := wrN (K.adcConversions a) ((s.rdN (K.adcConversions a) + 1) % 2 ^ 64) s
        let i := 8 * a + ch
        if ch < 8 ∧ s.rdN (K.aiMode i) ≠ 0 then
          let s := wrN (K.aiRawMa i) (s.iRaw a code) s
          let s := updAi i (fun v => { v with count := (v.count + 1) % 2 ^ 32, lastConv := s.now }) s
          stageAi i (aiFlag i 1 false (aiFlag i 0 unsettled s))
        else s) s) s)

/-- R312: the interval elapses; while REF_SETTLED is clear the slot runs EXTERNAL's settling conversions instead (R309). -/
def execAdcSelftestDue (a : Nat) (s : State) : Out :=
  .next (only (a < 4 && s.past (s.adc a).lastSt (s.rdN (K.adcSelftestInterval a) * ms)) (fun s =>
    updAdc a (fun x => { x with lastSt := s.now, stPending := x.stPending || adcSettled (s.rdN (K.adcStatus a)) }) s) s)

/-- R309: the settling criterion of EXTERNAL over 16 consecutive conversions of channel 8. -/
def State.extSettled (s : State) (a : Nat) (codes : List Nat) : Bool :=
  let l := codes.take 16
  let mx := l.foldl max 0
  let mn := l.foldl min 65536
  let e := s.rdN (K.adcArefMv a)
  l.length = 16 && decide (mx - mn ≤ 8)
    && l.all (fun c => 98 * 1250 * 65536 ≤ 100 * c * e && 100 * c * e ≤ 102 * 1250 * 65536)

/-- R309: the reference meets its criterion. `codes` are the latest settling conversions of channel 8. -/
def execAdcRefSettled (a : Nat) (codes : List Nat) (s : State) : Out :=
  .next (only (a < 4 && !adcSettled (s.rdN (K.adcStatus a)) && s.past (s.adc a).clearedAt (200 * us)
      && (s.rdN (K.adcRef a) ≠ 1 || s.extSettled a codes)) (fun s =>
    let s := updAdc a (fun x => { x with settledAt := s.now, settling := codes.take 16 }) s
    let s := wrN (K.adcSettleUs a) (min U32.max ((s.now - (s.adc a).clearedAt) / 1000)) s
    adcBit a 2 false (adcBit a 0 true s)) s)

/-- R309: EXTERNAL has not settled within 100 ms; tested again every 100 ms. -/
def execAdcRefFault (a : Nat) (s : State) : Out :=
  .next (only (a < 4 && !adcSettled (s.rdN (K.adcStatus a)) && s.rdN (K.adcRef a) = 1 && s.past (s.adc a).refTestAt (100 * ms)) (fun s =>
    let s := updAdc a (fun x => { x with refTestAt := s.now }) s
    if bitOf (s.rdN (K.adcStatus a)) 2 then s
    else
      let s := adcBit a 2 true s
      raiseAdc a 8 (((s.adc a).settling.headD 0) % 65536) s) s)

/-! ### Current-loop inputs (R315 to R319) -/

/-- R317: the band of a current. -/
def ne43Band (i : Nat) : Nat :=
  if f32.le i (frat 18 5) then 3
  else if f32.lt i (frat 19 5) then 1
  else if f32.le i (frat 41 2) then 0
  else if f32.lt i (frat 21 1) then 2
  else 4

/-- R316, R317: one 1 ms tick of AI i. -/
def aiTick (i : Nat) (s : State) : State :=
  let x := s.rdN (K.aiRawMa i)
  let tau := s.rdN (K.aiDamping i) * 10
  let a := s.ai i
  let one := f32.ofInt 1
  let y := if tau = 0 ∨ !a.started then x
    else fadd a.y (fmul (fsub x a.y) (fdiv one (fadd (f32.ofInt tau) one)))
  let lo := s.rdN (K.aiScaleLo i)
  let hi := s.rdN (K.aiScaleHi i)
  let v := fadd lo (fmul (fsub y (f32.ofInt 4)) (fdiv (fsub hi lo) (f32.ofInt 16)))
  let band := ne43Band x
  let run := if band = s.rdN (K.aiNe43 i) then 0 else if band = a.cand then a.run + 1 else 1
  let s := wrN (K.aiValue i) v s
  let s := updAi i (fun t => { t with y := y, started := true, cand := band, run := run }) s
  let s :=
    if s.rdN (K.aiNe43Qual i) ≤ run then
      let s := inc (K.aiStateChanges i) U32.max (wrN (K.aiNe43 i) band s)
      raiseAi i (if band ≥ 3 then 4 else if band = 0 then 2 else 3) (updAi i (fun t => { t with run := 0 }) s)
    else s
  stageAi i s

/-- R316, R315: the 1 ms tick. `limited`: the AIs whose loop supply has limited for more than 10 ms. -/
def execAiTick (limited : List Nat) (s : State) : Out :=
  .next (each ((List.range 32).filter (fun i => s.rdN (K.aiMode i) ≠ 0)) (fun i s =>
    let lim := limited.contains i && s.rdN (K.aiMode i) = 2
    let was := bitOf (s.rdN (K.aiFlags i)) 3
    let s := aiFlag i 3 lim s
    let s := only (lim && !was) (raiseAi i 3) s
    if bitOf (s.rdN (K.aiFlags i)) 1 then stageAi i s else aiTick i s) s)

/-- R319: an AI has had no conversion for 100 ms. -/
def execAiStale (i : Nat) (s : State) : Out :=
  .next (only (i < 32 && s.rdN (K.aiMode i) ≠ 0 && !bitOf (s.rdN (K.aiFlags i)) 1 && s.past (s.ai i).lastConv (100 * ms)) (fun s =>
    let s := aiFlag i 1 true s
    stageAi i (raiseAi i 3 s)) s)

/-! ### Current-loop outputs (R320 to R325) -/

/-- R320: the source of AO j is OPEN. -/
def State.aoOpen (s : State) (j : Nat) : Bool :=
  let f := s.rdN (K.aoFault j)
  !s.fieldOn || s.mode = Mode.boot || !s.drivesBlock (40 + j) || bitOf f 2 || bitOf f 3 || !ptValid (s.rdN (K.aoOutPoint j))

/-- R321: the alarm current of FAULT_ALARM. -/
def State.aoAlarmMa (s : State) (j : Nat) : Nat := if s.rdN (K.aoFaultAlarm j) = 2 then s.rdN (K.aoFailHighMa j) else s.rdN (K.aoFailLowMa j)

/-- R321: target, alarm, SETPOINT_CLAMPED and SETPOINT_INVALID of a committed area. -/
def State.aoTarget (s : State) (j : Nat) : Nat × Bool × Bool × Bool :=
  let o := ptOff (s.rdN (K.aoOutPoint j))
  let sp := s.load Mem.committed o 4
  let b := (s.byte Mem.committed (o + 4)).toNat
  if bitOf b 0 then (s.rdN (K.aoFailLowMa j), true, false, false)
  else if bitOf b 1 then (s.rdN (K.aoFailHighMa j), true, false, false)
  else if f32.notFinite sp then (s.aoAlarmMa j, true, false, true)
  else
    let c := fadd (f32.ofInt 4) (fmul (fsub sp (s.rdN (K.aoScaleLo j))) (fdiv (f32.ofInt 16) (fsub (s.rdN (K.aoScaleHi j)) (s.rdN (K.aoScaleLo j)))))
    let t := fmin (fmax c (s.rdN (K.aoLimitLo j))) (s.rdN (K.aoLimitHi j))
    (t, false, !f32.eq t c, false)

/-- R325: the optional input area of AO j. -/
def stageAo (j : Nat) (s : State) : State :=
  let x := s.ao j
  stageArea (s.rdN (K.aoInPoint j)) (le 4 (s.rdN (K.aoReadbackMa j)) ++ le 1 (s.rdN (K.aoState j))
    ++ le 1 (b2n x.rateLimited + 2 * b2n x.clamped + 4 * b2n x.invalid) ++ le 1 (s.rdN (K.aoFault j)) ++ le 1 0) s

/-- R322: one ramp tick of AO j. -/
def aoTick (j : Nat) (s : State) : State :=
  if s.aoOpen j then
    stageAo j (updAo j (fun x => { x with fromOpen := true, rateLimited := false })
      (wrN (K.aoState j) 0 (wrN (K.aoOutMa j) 0 s)))
  else
    let x := s.ao j
    let f := s.rdN (K.aoFault j)
    let faulted := bitOf f 1 || bitOf f 4 || bitOf (s.rdN (K.adcStatus 4)) 3
    let t : Nat × Bool × Bool × Bool :=
      if faulted then (s.aoAlarmMa j, true, false, false)
      else if x.safe then
        match s.rdN (K.aoSafe j) with
        | 0 => (s.rdN (K.aoSafeMa j), false, false, false)
        | 1 => (s.rdN (K.aoFailLowMa j), true, false, false)
        | 2 => (s.rdN (K.aoFailHighMa j), true, false, false)
        | _ => (x.target, x.alarm, x.clamped, x.invalid)
      else s.aoTarget j
    let out := s.rdN (K.aoOutMa j)
    let step := fmul (s.rdN (K.aoRate j)) (frat 1 10000)
    let d := fsub t.1 out
    let new :=
      if x.fromOpen || t.2.1 || f32.eq (s.rdN (K.aoRate j)) 0 then t.1
      else if f32.le (fabs d) step then t.1
      else if f32.lt d 0 then fsub out step else fadd out step
    let s := updAo j (fun x => { x with
      target := t.1, alarm := t.2.1, clamped := t.2.2.1, invalid := t.2.2.2, rateLimited := !f32.eq new t.1
      fromOpen := false, leftOpen := if x.fromOpen then s.now else x.leftOpen
      changedAt := if new = out then x.changedAt else s.now }) s
    let s := wrN (K.aoOutMa j) new s
    let s := wrN (K.aoState j) (if faulted then 4 else if x.safe then 2 else if t.2.1 then 3 else 1) s
    stageAo j s

/-- R322: the 100 µs ramp tick of every AO. -/
def execAoRampTick (s : State) : Out := .next (each (List.range 16) aoTick s)

/-- R324: set a FAULT bit of AO j and raise EV 0808+j. -/
def aoFaultSet (j i : Nat) (s : State) : State :=
  if bitOf (s.rdN (K.aoFault j)) i then s
  else
    let s := wrN (K.aoFault j) (setBit (s.rdN (K.aoFault j)) i true) s
    stageAo j (raiseOwned (Ev.aoFault j)
      (le 1 j ++ le 1 (s.rdN (K.aoFault j)) ++ le 4 (s.rdN (K.aoOutMa j)) ++ le 4 (s.rdN (K.aoReadbackMa j))) (s.rdN (K.aoOwner j)) s)

def aoFaultClear (j i : Nat) (s : State) : State := stageAo j (wrN (K.aoFault j) (setBit (s.rdN (K.aoFault j)) i false) s)

/-- The readback differs from out by more than `n / d` mA. -/
def State.aoOff (s : State) (j : Nat) (n d : Nat) : Bool :=
  f32.lt (frat n d) (fabs (fsub (s.rdN (K.aoReadbackMa j)) (s.rdN (K.aoOutMa j))))

/-- R324: the source has been at its voltage limit with a low readback for 10 ms, or the readback has lain within 0.2 mA
of out for 100 ms. `held` is the duration in µs. -/
def execAoOpenLoop (j held : Nat) (s : State) : Out :=
  .next (only (j < 16 && !s.aoOpen j && !bitOf (s.rdN (K.adcStatus 4)) 3) (fun s =>
    let low := f32.lt (frat 1 2) (fsub (s.rdN (K.aoOutMa j)) (s.rdN (K.aoReadbackMa j)))
    if low then only (10000 ≤ held) (aoFaultSet j 0) s
    else only (!s.aoOff j 1 5 && 100000 ≤ held && bitOf (s.rdN (K.aoFault j)) 0) (aoFaultClear j 0) s) s)

/-- R324: the readback has differed by more than 0.2 mA for 100 ms, out unchanged for 100 ms and OPEN_LOOP clear. -/
def execAoReadbackFault (j : Nat) (s : State) : Out :=
  .next (only (j < 16 && !s.aoOpen j && !bitOf (s.rdN (K.adcStatus 4)) 3 && !bitOf (s.rdN (K.aoFault j)) 0
      && s.past (s.ao j).changedAt (100 * ms) && s.past (s.ao j).leftOpen (100 * ms) && s.aoOff j 1 5) (aoFaultSet j 1) s)

/-- R324: the readback is below 1 mA 50 ms after leaving OPEN with a target of at least 3.5 mA. -/
def execAoNoSource (j : Nat) (s : State) : Out :=
  .next (only (j < 16 && !s.aoOpen j && !(s.ao j).fromOpen && s.past (s.ao j).leftOpen (50 * ms)
      && f32.le (frat 7 2) (s.ao j).target && f32.lt (s.rdN (K.aoReadbackMa j)) (f32.ofInt 1)) (aoFaultSet j 4) s)

/-- R324: the source junction stands at `temp` (0.1 °C). -/
def execAoOvertemp (j : Nat) (temp : Int) (s : State) : Out :=
  .next (only (j < 16) (fun s =>
    if temp ≥ 1500 then aoTick j (aoFaultSet j 2 s)
    else if temp < 1350 && bitOf (s.rdN (K.aoFault j)) 2 then aoFaultClear j 2 s else s) s)

/-- R324: ACK clears latched faults whose cause is absent. -/
def aoAckEffect (j : Nat) (s : State) : Nat × State :=
  let s := if s.aoOff j 1 5 then s else aoFaultClear j 1 s
  let s := if f32.lt (s.rdN (K.aoReadbackMa j)) (f32.ofInt 1) then s else aoFaultClear j 4 s
  accept (emcyFollow (unlatch (Ev.aoFault j) s))

/-- R324: ACK clears latched faults whose cause is absent. -/
def execAoAck (src : Path) (j v : Nat) (s : State) : Out :=
  .next (only (j < 16) (command1 src (K.aoAck j) v (aoAckEffect j)) s)

/-- R313: one run of ADC4's 32-slot sequence, `pass` being the verdict of its self-test. The spec does not state the
scale of a readback or supply code: the values are the model's free values. -/
def execAdc4Sequence (codes : List Nat) (pass : Bool) (s : State) : Out :=
  .next (only (codes.length = 32 && codes.all (· < 4096)) (fun s =>
    let s := adcBit 4 0 true s
    let s :=
      if pass then adcBit 4 3 false s
      else if bitOf (s.rdN (K.adcStatus 4)) 3 then s
      else inc (K.adcSelftestFails 4) U32.max (raiseAdc 4 11 0 (adcBit 4 3 true s))
    let s := each (List.range 32) (fun j t => wrN (0x430410 + j) (j * 65536 + codes.getD j 0) t) s
    let s := wrN (K.adcConversions 4) ((s.rdN (K.adcConversions 4) + 32) % 2 ^ 64) s
    only (!bitOf (s.rdN (K.adcStatus 4)) 3) (fun s =>
      let s := each (List.range 16) (fun j t => stageAo j (wrN (K.aoReadbackMa j) (Config.readbackMa (codes.getD j 0)).toNat t)) s
      each (List.range 9) (fun g t => wrN (kSupVoltage g) (Config.supplyMv (codes.getD (16 + g) 0)).toNat t) s) s) s)

end Sys2Proof.Machine
end

