-- ==== Sys2Proof/Machine/Can.lean ====
section
/-! DEFINITION. The commands of the CAN FD controllers (R359 to R380). -/

namespace Sys2Proof.Machine

/-! ### Controller states (R361 to R363) -/

/-- R361: ENABLE is set. A controller in FAULT passes its memory test first, or returns to FAULT. -/
def canEnableEffect (c : Nat) (idle memok : Bool) (s : State) : State :=
  if s.canSt8 c ≠ Can.disabled then s
  else if (s.canSt c).faulted && !memok then canTo c Can.fault s
  else
    let s := updCan c (fun x => { x with waiting := true, faulted := false }) s
    only (idle && s.canRuns) (canStart c) s

/-- R361: ENABLE is cleared: the buffers are emptied, and the engine is back in INITIALISATION. -/
def canDisableEffect (c : Nat) (s : State) : State :=
  let s := each [0, 1, 2] (fun b s =>
    match s.txb c b with
    | some t =>
      let s := setTxb c b none s
      if t.q = 16 then s else putEntry c t.q t.entry 4 5 t.attempts none s
    | none => s) s
  let s := updCan c (fun x => { x with heads := [], system := [], sending := none, waiting := false, recover := false }) s
  canTo c Can.disabled (wrN (K.canNmtState c) Nmt.init s)

/-- R361: the 11 recessive bits that a started controller awaits have passed. -/
def canAwake (c : Nat) (s : State) : State := only ((s.canSt c).waiting && s.canRuns) (canStart c) s

/-- R361: a write of 1 to ENABLE; `idle`: 11 recessive bits follow, `memok`: the memory test after FAULT passes. -/
def execCanEnable (src : Path) (c v : Nat) (idle memok : Bool) (s : State) : Out :=
  .next (command src (K.canEnable c) (le 1 v) (fun s =>
    writeThen (K.canEnable c) (le 1 v) (v = 1) Err.value (canEnableEffect c idle memok) s) s)

/-- R361: a write of 0 to ENABLE. -/
def execCanDisable (src : Path) (c v : Nat) (s : State) : Out :=
  .next (command src (K.canEnable c) (le 1 v) (fun s =>
    writeThen (K.canEnable c) (le 1 v) (v = 0) Err.value (canDisableEffect c) s) s)

/-- R376: the engine takes frames with this identifier. -/
def State.engineKeeps (s : State) (c : Nat) (f : CanFrame) : Bool :=
  let node := s.rdN (K.canNodeId c)
  let cob (v : Nat) : Bool := v % 2 ^ 29 = f.id && bitOf v 29 = f.ide
  node ≠ 0 &&
    ((!f.ide && f.id = 0) || cob (s.rdN (K.commSyncCobid c)) || (!f.ide && f.id = 0x600 + node)
      || (List.range 8).any (fun j => s.rdN (K.commHbConsumer c j) ≠ 0 && !f.ide && f.id = 0x700 + bits (s.rdN (K.commHbConsumer c j)) 22 16)
      || (List.range 64).any (fun n => cobValid (s.rdN (K.commRpdoCobid (64 * c + n))) && cob (s.rdN (K.commRpdoCobid (64 * c + n)))))

/-- R375: a heartbeat of a consumed node. -/
def canHeard (c : Nat) (f : CanFrame) (s : State) : State :=
  each ((List.range 8).filter (fun j => s.rdN (K.commHbConsumer c j) ≠ 0 && !f.ide && f.id = 0x700 + bits (s.rdN (K.commHbConsumer c j)) 22 16))
    (fun j s => updCan c (fun x => { x with heardAt := Tab.put x.heardAt j s.now 0, lapsed := Tab.put x.lapsed j false false }) s) s

/-- R364: a frame received without error reaches the store and the engine; `err`: its object has an uncorrectable error
(R367). What NMT commands, SYNCs, RPDOs and SDO requests do besides is the effect of their own commands. -/
def execCanFrameReceived (c : Nat) (f : CanFrame) (err : Bool) (s : State) : Out :=
  let s := updCan c (fun x => { x with acked := false }) (canAwake c s)
  .next (only (s.canHears c && !(f.fdf && !s.on (K.canbtFdEnable c))) (fun s =>
    -- R363: in restricted operation STANDBY_MODE decides on the acknowledgement
    let s := updCan c (fun x => { x with acked := !s.restricted || s.rdN (K.canStandbyMode c) = 0 }) s
    let s := wrN (K.canstatRxFrames c) ((s.rdN (K.canstatRxFrames c) + 1) % 2 ^ 64) s
    let s := only (!s.restricted) (fun s => canByCounters c (wrN (K.canRec c) (s.rdN (K.canRec c) - 1) s)) s
    let obj := (s.objsOn c).find? (fun n => Ob.ide (s.objRec c n) = f.ide && Ob.id (s.objRec c n) = f.id)
    let s := match obj with
      | some n => storeFrame c n f (s.tb64 0) (only err (objError c n) s)
      | none => only (!s.engineKeeps c f) (inc (K.canstatUnmatched c) U32.max) s
    only (s.rdN (K.canNodeId c) ≠ 0) (canHeard c f) s) s)

/-- R361: a protocol error of ISO type `kind` (R380); the increments of TEC and REC are ISO 11898-1's. -/
def execCanErrorDetected (c kind : Nat) (transmitter heavy : Bool) (s : State) : Out :=
  .next (only (s.canHears c && 1 ≤ kind && kind ≤ 5) (fun s =>
    let s := wrN (K.canLastError c) kind (inc (K.canstatErrorFrames c) U32.max s)
    let s := if s.restricted then s
      else if transmitter then
        -- ISO 11898-1: an error-passive transmitter that misses an acknowledgement does not count it
        only (!(kind = 5 && s.canSt8 c = Can.passive)) (wrN (K.canTec c) (min 65535 (s.rdN (K.canTec c) + 8))) s
      else wrN (K.canRec c) (min 65535 (s.rdN (K.canRec c) + (if heavy then 8 else 1))) s
    let s := only transmitter (sendingFailed c) s
    canStatus c (canByCounters c s)) s)

/-- R361, R362: the bus is dominant for 2,048 nominal bit times. -/
def execCanBusStuck (c : Nat) (s : State) : Out :=
  .next (only (s.canRuns && 1 ≤ s.canSt8 c && s.canSt8 c ≤ 3) (fun s =>
    let s := inc (K.canstatStuck c) U32.max (sendingFailed c s)
    let s := updCan c (fun x => { x with retryMs := if s.past x.leftAt (10000 * ms) then 10 else x.retryMs, stuckAt := s.now }) s
    canTo c Can.stuck s) s)

/-- R362: a recovery attempt; `ok`: it sees 11 consecutive recessive bits. -/
def execCanStuckRecoveryAttempt (c : Nat) (ok : Bool) (s : State) : Out :=
  .next (only (s.canRuns && s.canSt8 c = Can.stuck && s.past (s.canSt c).stuckAt ((s.canSt c).retryMs * ms)) (fun s =>
    if ok then canTo c Can.active s
    else updCan c (fun x => { x with retryMs := min 10000 (2 * x.retryMs), stuckAt := s.now }) s) s)

/-- R361: 128 occurrences of 11 recessive bits have been counted. -/
def execCanBusoffRecovered (c : Nat) (s : State) : Out :=
  .next (only (s.canRuns && s.canSt8 c = Can.busOff && (s.on (K.canAutoRecover c) || (s.canSt c).recover)) (fun s =>
    canTo c Can.active (updCan c (fun x => { x with recover := false }) s)) s)

/-- R361: RECOVER is written with 1. -/
def canRecoverEffect (c : Nat) (s : State) : State :=
  only (s.canSt8 c = Can.busOff) (updCan c (fun x => { x with recover := true })) s

/-- R361: a write to RECOVER. -/
def execCanRecover (src : Path) (c v : Nat) (s : State) : Out :=
  .next (command1 src (K.canRecover c) v (fun s => accept (canRecoverEffect c s)) s)

/-- R361: an uncorrectable error in the controller's buffers or protocol state. -/
def execCanControllerFault (c fault : Nat) (s : State) : Out :=
  .next (only (s.canRuns && s.canSt8 c ≠ Can.disabled && s.canSt8 c ≠ Can.fault) (fun s =>
    raise (Ev.canControllerFault c) (le 2 0xFFFF ++ le 1 fault) (canTo c Can.fault (updCan c (fun x => { x with faulted := true }) s))) s)

/-! ### The object store (R365 to R367) -/

/-- R365, R366: a read of a word of object o by a lane of Pavilion p, class x, or by the Gatehouse; `err`: the object has
an uncorrectable error (R367). A lane's read of another Pavilion's object is no read of the store (R365). -/
def objRead (c o p x : Nat) (gate err : Bool) (rd : Nat → State → Nat × State) (s : State) : State :=
  only (s.canRuns && (gate || Ob.owner (s.objRec c o) = p)) (fun s =>
    let r := rd (if gate then 0 else laneHolder p x) (only err (objError c o) s)
    reply Err.ok (le 4 r.1) r.2) s

/-- R366: a read of word 0. -/
def execCanObjectReadWord0 (c o p x : Nat) (gate err : Bool) (s : State) : Out :=
  .next (objRead c o p x gate err (readWord0 c o) s)

/-- R366: a read of word 19. -/
def execCanObjectReadWord19 (c o p x : Nat) (gate err : Bool) (s : State) : Out :=
  .next (objRead c o p x gate err (readWord19 c o) s)

/-- R366: a Gatehouse lock has been held for 100 µs. -/
def execCanGatehouseLockTimeout (c o : Nat) (s : State) : Out :=
  .next (only ((s.obj c o).holder = some 0 && s.past (s.obj c o).lockAt (100 * us)) (releaseObj c o false) s)

/-! ### The transmit path (R370, R371) -/

/-- R363, R370: the feeder works. -/
def State.canFeeds (s : State) (c : Nat) : Bool :=
  s.canRuns && !s.restricted && s.canSt8 c ≠ Can.disabled && s.canSt8 c ≠ Can.fault

/-- R370: a free buffer is filled. -/
def execTxBufferFill (c : Nat) (s : State) : Out :=
  let s := canAwake c s
  .next (only (s.canFeeds c) (fun s =>
    match s.fillChoice c with
    | some (b, q, t) => fill c b q t s
    | none => s) s)

/-- R370: a pending buffer starts transmission. -/
def execTxStart (c : Nat) (s : State) : Out :=
  let s := canAwake c s
  .next (only (s.canHears c && !s.restricted && (s.canSt c).sending.isNone) (fun s =>
    match s.startChoice c with
    | some (b, t) =>
      let t := { t with attempts := t.attempts + 1 }
      send (Wire.can c) (canWire t.frame) (setTxb c b (some t) (updCan c (fun x => { x with sending := some b, lastStart := b }) s))
    | none => s) s)

/-- R371: the frame in transmission succeeds; where it does not, a single-shot one ends and any other is pending again. -/
def execTxComplete (c : Nat) (ok : Bool) (s : State) : Out :=
  .next (only (s.canHears c) (fun s =>
    match (s.canSt c).sending with
    | none => s
    | some b =>
      if ok then
        let s := wrN (K.canTec c) (s.rdN (K.canTec c) - 1) (wrN (K.canstatTxFrames c) ((s.rdN (K.canstatTxFrames c) + 1) % 2 ^ 64) s)
        endBuffer c b 3 0 (canByCounters c s)
      else sendingFailed c s) s)

/-- R371: the frame in transmission loses arbitration. -/
def execTxArbitrationLost (c : Nat) (s : State) : Out :=
  .next (only (s.canHears c && (s.canSt c).sending.isSome) (fun s => sendingFailed c (inc (K.canstatArbLost c) U32.max s)) s)

/-! ### The CiA 301 engine (R374 to R379) -/

/-- R374: an NMT command: 1 start, 2 stop, 128 enter pre-operational, 129 reset node, 130 reset communication. -/
def execNmtCommand (c cs node : Nat) (s : State) : Out :=
  let s := canAwake c s
  .next (only (s.canHears c && s.rdN (K.canNodeId c) ≠ 0 && s.rdN (K.canNmtState c) ≠ Nmt.init && (node = 0 || node = s.rdN (K.canNodeId c))) (fun s =>
    if cs = 1 then nmtTo c Nmt.operational s
    else if cs = 2 then nmtTo c Nmt.stopped s
    else if cs = 128 then nmtTo c Nmt.preop s
    else if cs = 129 ∨ cs = 130 then nmtStart c (nmtTo c Nmt.init s)
    else s) s)

/-- R58: the producer heartbeat time has passed. -/
def execCanHbProduce (c : Nat) (s : State) : Out :=
  let t := s.rdN (K.commHbProducer c)
  .next (only (s.canRuns && s.rdN (K.canNodeId c) ≠ 0 && s.rdN (K.canNmtState c) ≠ Nmt.init && t ≠ 0 && s.past (s.canSt c).hbAt (t * ms)) (fun s =>
    sysSend c (0x700 + s.rdN (K.canNodeId c)) (le 1 (s.rdN (K.canNmtState c))) none 0 (updCan c (fun x => { x with hbAt := s.now }) s)) s)

/-- R375: consumed node j has sent nothing within its time. -/
def execCanHbConsumerTimeout (c j : Nat) (s : State) : Out :=
  let w := s.rdN (K.commHbConsumer c j)
  .next (only (s.canRuns && j < 8 && s.rdN (K.canNodeId c) ≠ 0 && s.rdN (K.canNmtState c) ≠ Nmt.init && bits w 15 0 ≠ 0
      && !Tab.get (s.canSt c).lapsed j false && s.past (Tab.get (s.canSt c).heardAt j 0) (bits w 15 0 * ms)) (fun s =>
    raiseSev (Ev.canNmt c) (le 1 (bits w 23 16)) 3 (updCan c (fun x => { x with lapsed := Tab.put x.lapsed j true false }) s)) s)

/-- R378, R379: a SYNC is received; `cnt`: its counter, 0 where it carries none. -/
def execSyncReceive (c cnt : Nat) (s : State) : Out :=
  let s := canAwake c s
  .next (only (s.canHears c && s.rdN (K.canNodeId c) ≠ 0) (onSync c cnt) s)

/-- R379: the cycle period of a SYNC producer has passed. -/
def execSyncProduce (c : Nat) (s : State) : Out :=
  let t := s.rdN (K.commCycle c)
  .next (only (s.canHears c && !s.restricted && s.rdN (K.canNodeId c) ≠ 0 && bitOf (s.rdN (K.commSyncCobid c)) 30 && t ≠ 0
      && (s.rdN (K.canNmtState c) = Nmt.preop || s.rdN (K.canNmtState c) = Nmt.operational) && s.past (s.canSt c).syncAt (t * us)) (fun s =>
    let o := s.rdN (K.commSyncOverflow c)
    let n := if 2 ≤ o then (s.canSt c).syncNo % o + 1 else 0
    let s := updCan c (fun x => { x with syncAt := s.now, syncNo := n }) s
    onSync c n (sysSend c (s.rdN (K.commSyncCobid c) % 2 ^ 30) (if 2 ≤ o then le 1 n else []) none 0 s)) s)

/-- R378: an RPDO raises EV 1024+c: cause 1 LENGTH, 2 TIMEOUT. -/
def rpdoEvent (c n cause : Nat) (s : State) : State :=
  raiseOwned (Ev.canPdo c) (le 1 n ++ le 1 cause) (bits (s.rdN (K.canrpdoArea c n)) 47 32) s

/-- R378: RPDO n arrives with its data; `fd`: as an FD frame. -/
def execRpdoReceive (c n : Nat) (data : Bytes) (fd : Bool) (s : State) : Out :=
  let k := 64 * c + n
  let m := s.pdoMap (K.commRpdoMap k)
  .next (only (s.canHears c && s.rdN (K.canNodeId c) ≠ 0 && s.rdN (K.canNmtState c) = Nmt.operational && cobValid (s.rdN (K.commRpdoCobid k))
      && (fd || data.length ≤ 8) && !(fd && !s.on (K.canbtFdEnable c))) (fun s =>
    if data.length < mapBytes m then rpdoEvent c n 1 (inc (K.canstatRpdoErrors c) U32.max s)
    else
      let a := rpdoArea m data
      let s := if s.rdN (K.commRpdoType k) ≤ 240 then updRpdo c n (fun r => { r with held := some a, at_ := s.now, timeout := false }) s
        else updRpdo c n (fun r => { r with data := a, fresh := true, at_ := s.now, timeout := false }) s
      canStatus c s) s)

/-- R378: no valid RPDO n within its event timer. -/
def execRpdoEventTimeout (c n : Nat) (s : State) : Out :=
  let k := 64 * c + n
  let t := s.rdN (K.commRpdoEvent k)
  .next (only (s.canRuns && s.rdN (K.canNodeId c) ≠ 0 && s.rdN (K.canNmtState c) = Nmt.operational && cobValid (s.rdN (K.commRpdoCobid k)) && t ≠ 0
      && !(s.rpdo c n).timeout && s.past (s.rpdo c n).at_ (t * ms)) (fun s =>
    rpdoEvent c n 2 (canStatus c (updRpdo c n (fun r => { r with timeout := true }) s))) s)

/-- R379: the event timer of an asynchronous TPDO elapses. -/
def execTpdoEventTimer (c n : Nat) (s : State) : Out :=
  let k := 64 * c + n
  let t := s.rdN (K.commTpdoEvent k)
  .next (only (s.canRuns && 254 ≤ s.rdN (K.commTpdoType k) && t ≠ 0 && s.past (s.tpdo c n).sentAt (t * ms)) (sendTpdo c n) s)

/-- R379: the inhibit time runs out, and a change that it held back is sent. -/
def execTpdoInhibitExpiry (c n : Nat) (s : State) : Out :=
  .next (only (s.canRuns && 254 ≤ s.rdN (K.commTpdoType (64 * c + n)) && (s.tpdo c n).changed && s.inhibitOver c n) (sendTpdo c n) s)

end Sys2Proof.Machine
end

