-- ==== Sys2Proof/Machine/Loader.lean ====
section
/-! DEFINITION. The Gatehouse loader: the trace of a program's reachable code (R180), its declaration list (R526), the
load itself, and the region table's checks, arming and faults (R184 to R189). -/

namespace Sys2Proof.Machine

/-! ### The trace (R117, R119, R180) -/

/-- Opcode of a word. -/
def Aw.op (w : Nat) : Nat := bits w 31 24
/-- Byte offset that a J or L format word names. -/
def Aw.target (w : Nat) : Nat := bits w 17 0 * 4
/-- The instruction has an extension word: MOVGA, LOOP, and an immediate form with X set. -/
def Aw.ext (w : Nat) : Bool :=
  Aw.op w = 0xA3 || Aw.op w = 0xE5 || (0x88 ≤ Aw.op w && Aw.op w ≤ 0x9F && bitOf w 20)

/-- R129 to R131: the target of the word at offset `o` is admitted in a segment of `size` bytes. -/
def Aw.targetOk (w o size : Nat) : Bool :=
  let t := Aw.target w
  if 0xE0 ≤ Aw.op w ∧ Aw.op w ≤ 0xE2 then o < t && t < size
  else if Aw.op w = 0xE3 then t < size
  else if Aw.op w = 0xE5 then t < o
  else true

/-- R180: offsets that follow the word at `o`. -/
def Aw.next (w o : Nat) : List Nat :=
  let n := o + (if Aw.ext w then 8 else 4)
  if Aw.op w = 0xE0 then [Aw.target w]
  else if Aw.op w = 0xE4 ∨ Aw.op w = 0xE6 then []
  else if Aw.op w = 0xE1 ∨ Aw.op w = 0xE2 ∨ Aw.op w = 0xE3 ∨ Aw.op w = 0xE5 then [n, Aw.target w]
  else [n]

/-- R180: every reached word of the image has an admitted target. -/
def traceOk (img : Bytes) (fuel : Nat) (work seen : List Nat) : Bool :=
  match fuel, work with
  | 0, _ => true
  | _, [] => true
  | f + 1, o :: r =>
    if seen.contains o || img.length ≤ o then traceOk img f r seen
    else
      let w := fieldAt img o 4
      Aw.targetOk w o img.length && traceOk img f (Aw.next w o ++ r) (o :: seen)

/-- R180: entry points and every reachable target are admitted. -/
def codeOk (img : Bytes) (entries : List Nat) : Bool :=
  let es := entries.filter (· ≠ 0xFFFFFFFF)
  es.all (fun e => e % 4 = 0 && e < img.length) && traceOk img (3 * img.length + 3) es []

/-! ### Declaration lists (R526) -/

/-- One record at the front of a list, and what follows it. -/
def declHead (b : Bytes) : Option (Decl × Bytes) :=
  let ty := byteAt b 3
  let acc := byteAt b 4
  let maxLen := fieldAt b 6 2
  let defLen := fieldAt b 8 2
  let size := DType.size (tyOf ty)
  let role := bits acc 4 2
  let long := DType.isLong (tyOf ty)
  let dflt := (b.drop 12).take defLen
  let pad := (b.drop (12 + defLen)).take ((4 - defLen % 4) % 4)
  if b.length < 12 ∨ fieldAt b 0 2 < 0xA000 ∨ 0xAFFF < fieldAt b 0 2 ∨ ty < 1 ∨ 14 < ty then none
  else if bits acc 6 5 ≠ 0 ∨ role = 4 ∨ 5 < role ∨ byteAt b 5 ≠ 0 ∨ fieldAt b 10 2 ≠ 0 then none
  else if (if long then maxLen < 1 || 4096 < maxLen else maxLen ≠ size) then none
  else if (if tyOf ty = .str then maxLen < defLen else defLen ≠ maxLen) then none
  else if b.length < 12 + defLen + pad.length ∨ pad.length ≠ (4 - defLen % 4) % 4 ∨ pad.any (· ≠ 0) then none
  else if tyOf ty = .bool ∧ 1 < ofLe dflt then none
  else some ({ idx := fieldAt b 0 2, sub := byteAt b 2, ty := ty, access := bits acc 1 0, role := role
               persistent := bitOf acc 7, maxLen := maxLen, dflt := dflt }, b.drop (12 + defLen + pad.length))

/-- Every record of a list. -/
def declRecords (fuel : Nat) (b : Bytes) : Option (List Decl) :=
  match fuel with
  | 0 => if b = [] then some [] else none
  | f + 1 =>
    if b = [] then some []
    else match declHead b with
      | some (d, r) => (declRecords f r).map (d :: ·)
      | none => none

/-- R526: no entry twice, and no subindex 0 beside a higher one. -/
def declsDistinct : List Decl → Bool
  | [] => true
  | d :: r => r.all (fun e => e.idx ≠ d.idx || (e.sub ≠ d.sub && (d.sub ≠ 0 && e.sub ≠ 0))) && declsDistinct r

/-- R526: the entries of a declaration list; none where the loader refuses it. -/
def parseDecls (b : Bytes) : Option (List Decl) :=
  if 65536 < b.length then none
  else match declRecords (b.length / 12 + 1) b with
    | some l => if declsDistinct l then some l else none
    | none => none

/-! ### Loading (R180) -/

/-- The lane address range of shared SRAM. -/
def sramLo : Nat := 0x0100000000
def sramHi : Nat := 0x010BFFFFFF
def dramLo : Nat := 0x0400000000
def dramHi : Nat := 0x07FFFFFFFF

/-- R180 step 5: the code segment's place exists. -/
def State.codePlace (s : State) (p n : Nat) : Bool :=
  let b := s.rdN (K.pavCodeBase p)
  (b + n ≤ 0x100000 && s.laneExists (s.laneOf p)) || (sramLo ≤ b && b + n ≤ sramHi + 1)

/-- Copy an image to p's code segment. -/
def placeCode (p : Nat) (img : Bytes) (s : State) : State :=
  let c := if s.rdN (K.pavCodeBase p) < 0x200000 then Mem.tcm (s.laneOf p) else Mem.fabric
  store c (s.rdN (K.pavCodeBase p)) img s

/-- R40, R526: values that a load does not keep return to their defaults: all of them with a changed schema, and those
not persistent. -/
def dropValues (p : Nat) (all : Bool) (ds : List Decl) (s : State) : State :=
  let keep (k : Nat) : Bool := k / 2 ^ 24 ≠ p
    || (!all && ds.any (fun d => d.persistent && 256 * d.idx + d.sub = k % 2 ^ 24))
  { s with pavVals := s.pavVals.filter (fun e => keep e.1), store := s.store.filter (fun e => e.1 < 2 ^ 24 || keep e.1)
           journal := s.journal.filter (fun k => k < 2 ^ 24 || keep k) }

/-- R180: the loader's steps on an image and a declaration list. -/
def loadProgram (p : Nat) (img lst : Bytes) (s : State) : State :=
  let size := s.rdN (K.pavCodeSize p)
  let fail (s : State) : State :=
    raiseProt p 0x36 0xFF 0 0 0 (wrN (K.pavLoadState p) 2 (updPav p (fun v => { v with image := [], declList := [], decls := [] }) s))
  if s.pavBusy p ∨ size ≠ img.length ∨ img = [] ∨ !codeOk img ([0, 1, 2].map (s.entryOf p)) then fail s
  else match parseDecls lst with
    | none => fail s
    | some ds =>
      if !s.codePlace p img.length then fail s
      else
        let sch := s.rdN (K.pavSchema p)
        let old := (s.pav p).schema
        let s := placeCode p img s
        let s := dropValues p (old ≠ sch) ds s
        let s := only (old ≠ sch && (s.pav p).image ≠ []) (fun s =>
          inc (K.dictSectionResets 23) U32.max (raise Ev.dictSectionReset (le 1 23 ++ le 1 p ++ le 4 old ++ le 4 sch) s)) s
        let s := updPav p (fun v => { v with image := img, declList := lst, decls := ds, schema := sch }) s
        admitProgram p (wrN (K.pavLoadState p) 1 s)

/-- R180: the program is unloaded. -/
def unloadProgram (p : Nat) (s : State) : State :=
  wrN (K.pavLoadState p) 0 (updPav p (fun v => { v with image := [], declList := [], decls := [] }) s)

/-! ### Region checks (R184, R185) -/

/-- Pairs of a list, each in its order. -/
def pairsOf {α : Type} : List α → List (α × α)
  | [] => []
  | x :: r => r.map (fun y => (x, y)) ++ pairsOf r

/-- The ranges of R23 that a region may lie in. -/
def regionRanges : List (Nat × Nat) :=
  [(0, 0x0FFFFF), (0x100000, 0x1FFFFF), (sramLo, sramHi), (inBase, inBase + 0x3FFFF), (outBase, outBase + 0x3FFFF), (dramLo, dramHi)]

def Region.inImage (g : Region) : Bool := g.within inBase (outBase + 0x3FFFF)
def Region.inTcm (g : Region) : Bool := g.hi ≤ 0x1FFFFF

/-- R185: regions g of p and h of q break the rule. -/
def State.crossed (s : State) (p q : Nat) (g h : Region) : Bool :=
  g.shares h && !g.inImage && !h.inImage
    && (!g.inTcm || (s.laneOf p = s.laneOf q && s.laneOf p ≠ 0xFF))
    && !(g.imported && h.exported && g.within h.lo h.hi) && !(h.imported && g.exported && h.within g.lo g.hi)

/-- R94: an image region over an area of a station that another Pavilion owns. -/
def State.stationCross (s : State) (p : Nat) (g : Region) : Option Nat :=
  (s.stations.find? (fun st =>
    let r := s.station st
    let hit (base off len : Nat) : Bool := decide (0 < len) && g.lo < base + off + len && base + off ≤ g.hi
    Sta.owner r ≠ p && g.image && (hit inBase (Sta.inOff r) (Sta.inLen r) || hit outBase (Sta.outOff r) (Sta.outLen r)))).map
    (fun st => Sta.owner (s.station st))

/-- R184: the first check that fails: code, the regions concerned and the other Pavilion, 0xFF where none. -/
def State.regionCheck (s : State) (p : Nat) : Option (Nat × Nat × Nat × Nat) :=
  let gs := s.regions p
  let m := s.rdN (K.pavMBase p)
  let others := (List.range 256).filter (fun q => q ≠ p && s.armed q)
  let one (code : Nat) (bad : Region → Bool) : Option (Nat × Nat × Nat × Nat) := (gs.find? bad).map (fun g => (code, g.no, 0xFF, 0xFF))
  let size := s.rdN (K.pavCodeSize p)
  let cb := s.rdN (K.pavCodeBase p)
  let cs := s.rdN (K.pavCstackBase p)
  let inside (a : Nat) : Bool := gs.any (·.covers a)
  let bases := m :: s.rdN (K.pavTBase p) :: s.rdN (K.pavCBase p) :: s.rdN (K.pavDBase p) :: [0, 1, 2].map (fun x => s.rdN (K.pavLBase p x))
  ((pairsOf gs).find? (fun e => e.1.shares e.2)).map (fun e => (1, e.1.no, e.2.no, 0xFF))
  <|> one 2 (fun g => decide (g.hi < g.lo))
  <|> one 3 (fun g => !regionRanges.any (fun r => g.within r.1 r.2))
  <|> one 4 (fun g => (g.image != g.inImage) || (g.w && g.within inBase (inBase + 0x3FFFF)))
  <|> one 5 (fun g => (g.w && g.x) || (g.x && !(g.within 0 0x0FFFFF || g.within sramLo sramHi))
      || (g.imported && (g.w || g.x || g.exported)) || (g.retain && !(m ≠ 0 && g.within m (m + 0x3FFFF))))
  <|> gs.findSome? (fun g =>
      (others.find? (fun q => (s.regions q).any (s.crossed p q g))).map (fun q => (6, g.no, 0xFF, q))
      <|> (s.stationCross p g).map (fun q => (6, g.no, 0xFF, q)))
  <|> gs.findSome? (fun g =>
      if !g.imported then none
      else
        let holds (q : Nat) : Bool := q ≠ p && (s.regions q).any (fun e => e.exported && g.within e.lo e.hi)
        let ex := (List.range 256).filter holds
        if ex.any (fun q => mapBit (s.blobOf (K.pavShareTo q)) p) then none else some (7, g.no, 0xFF, ex.headD 0xFF))
  <|> (if s.rdN (K.quotaDram p) < s.dramUsed p then some (8, 0xFF, 0xFF, 0xFF) else none)
  <|> (if (0 < size && !(gs.any (fun g => g.x && g.lo ≤ cb && cb + size ≤ g.hi + 1) && inside (s.rdN (K.pavKBase p))
          && gs.any (fun g => g.w && g.within 0x100000 0x1FFFFF && g.lo ≤ cs && cs + 511 ≤ g.hi)))
        || bases.any (fun b => b ≠ 0 && !inside b) then some (9, 0xFF, 0xFF, 0xFF) else none)

/-- Numbers of p's import regions that are not valid now (R189). -/
def State.badImports (s : State) (p : Nat) : List Nat :=
  ((s.regions p).filter (fun g => g.imported && !s.importValid p g)).map (·.no)

/-- R189: imports of other Pavilions that a change of q's table or SHARE_TO made invalid are suspended; those valid
again resume silently. -/
def importSweep (q : Nat) (s : State) : State :=
  each ((List.range 256).filter (fun p => p ≠ q && s.armed p)) (fun p s =>
    let bad := s.badImports p
    let new := bad.filter (fun r => !(s.pav p).suspended.contains r)
    let s := updPav p (fun v => { v with suspended := bad }) s
    each new (fun r s => raiseProt p 0x31 (s.runningClass p) 0 r q s) s) s

/-- R187: the table of p enters FAULT. -/
def regionFault (p : Nat) (f : Nat × Nat × Nat × Nat) (s : State) : State :=
  let cls := s.runningClass p
  let (code, r1, r2, q) := f
  let wide (n : Nat) : Nat := if n = 0xFF then 0xFFFF else n
  let s := wrBlob (K.pavRegionFault p) (le 1 code ++ le 1 r1 ++ le 1 r2 ++ le 1 q ++ le 4 0) s
  let s := wrN (K.pavRegionArm p) 2 s
  let s := abortDma p (pavFault p 5 s)
  let s := raiseProt p 0x30 cls code (wide r1) (if code = 1 then wide r2 else if code = 6 ∨ code = 7 then wide q else 0xFFFF) s
  sweepBuffers (importSweep p s)

/-- R184: run the checks; the table is ARMED or enters FAULT. -/
def armTable (p : Nat) (s : State) : State :=
  let s := wrN (K.quotaDramUsed p) (s.dramUsed p) s
  match s.regionCheck p with
  | some f => regionFault p f s
  | none =>
    let s := wrN (K.pavRegionArm p) 1 s
    importSweep p (updPav p (fun v => { v with suspended := s.badImports p }) s)

/-- R184: the table is disarmed. -/
def disarmTable (p : Nat) (s : State) : State :=
  sweepBuffers (importSweep p (wrN (K.pavRegionArm p) 0 (updPav p (fun v => { v with suspended := [] }) s)))

/-- R184, R194: after an accepted write to the table of p, or to an entry its checks depend on; `table`: the table itself. -/
def tableWritten (p : Nat) (table : Bool) (s : State) : State :=
  let s := wrN (K.quotaDramUsed p) (s.dramUsed p) s
  let s := only table (abortDma p) s
  if !s.armed p then s
  else match s.regionCheck p with
    | some f => regionFault p f s
    | none => sweepBuffers (only table (importSweep p) s)

end Sys2Proof.Machine
end

