-- ==== Sys2Proof/Machine/TimeOps.lean ====
section
/-! DEFINITION. The time unit's operations: sources, steps, quality and captures (R351 to R358). -/

namespace Sys2Proof.Machine

def State.base (s : State) (n : Nat) : TBase := Tab.get s.tb n {}
def updBase (n : Nat) (f : TBase → TBase) (s : State) : State := { s with tb := Tab.upd s.tb n {} f }
def updNet (f : Net → Net) (s : State) : State := { s with net := f s.net }
def State.ptp (s : State) (k : Nat) : Ptp := Tab.get s.net.ptp k {}
def updPtp (k : Nat) (f : Ptp → Ptp) (s : State) : State := updNet (fun x => { x with ptp := Tab.upd x.ptp k {} f }) s
def State.pps (s : State) (k : Nat) : Pps := Tab.get s.net.pps k {}
def updPps (k : Nat) (f : Pps → Pps) (s : State) : State := updNet (fun x => { x with pps := Tab.upd x.pps k {} f }) s

/-- R459: the TIME domain runs. -/
def State.timeRuns (s : State) : Bool := s.mode ≠ Mode.icehouse && s.mode ≠ Mode.dormant && !s.pow.heldReset

/-! ### Sources (R352) -/

/-- R352: base m takes its value from base n, through sources TB. -/
def State.derives (s : State) (fuel m n : Nat) : Bool :=
  match fuel with
  | 0 => false
  | fuel + 1 => m ≠ 4 && s.rdN (K.tbSource m) = 2 && (s.rdN (K.tbSrcArg m) = n || s.derives fuel (s.rdN (K.tbSrcArg m)) n)

/-- The base that PTP instance k steers. -/
def State.ptpBase (s : State) (k : Nat) : Option Nat :=
  (List.range 8).find? (fun n => n ≠ 4 && s.rdN (K.tbSource n) = 1 && s.rdN (K.tbSrcArg n) = k)

/-! ### Steps (R353) -/

/-- R355: the RTC takes TB3. -/
def rtcWrite (s : State) : State := wrB K.timeRtcValid true (updSec (fun x => { x with rtc := s.tbVal 3, rtcAt := s.now }) s)

/-- R353: what a step by `d` units of base n records. `cause`: 1 write, 2 servo, 3 source change, 4 derived, 5 partner. -/
def recordStep (n cause : Nat) (d : Int) (s : State) : State :=
  let ns := d.tdiv 65536
  let s := if d < 0 then copyEra n (wrN (K.tbEra n) ((s.rdN (K.tbEra n) + 1) % 2 ^ 32) s) else s
  let s := inc (K.tbSteps n) U32.max (wr (K.tbLastStep n) ns s)
  let s := updNet (fun x => { x with stepAt := Tab.put x.stepAt n (s.now + 1) 0 }) s
  let s := raiseSev (Ev.tbStep n) (le 8 (unsigned 8 ns) ++ le 4 (s.rdN (K.tbEra n)) ++ le 1 cause) (if d < 0 then 4 else 3) s
  -- R67
  let s := if n = 0 then
      let s := wr K.scanStepSum (s.rd K.scanStepSum + ns) s
      only (s.engine ≠ 0) (raise Ev.scanTb0Step (le 8 (unsigned 8 ns) ++ le 8 (unsigned 8 (s.rd K.scanStepSum)))) s
    else s
  -- R355, R416
  if n = 3 then histStep (0 < d) (rtcWrite s) else s

/-- R353: `f` changes base n; the step and those of the bases derived from it are recorded. -/
def stepWith (n cause : Nat) (f : State → State) (s : State) : State :=
  let before := (List.range 8).map s.tbVal
  let t := f s
  let ds := (List.range 8).filter (fun m => m = n || t.derives 8 m n)
  each ds (fun m u => recordStep m (if m = n then cause else 4) ((t.tbVal m : Int) - (before.getD m 0 : Nat)) u) t

/-- R353: base n takes a value; none goes below 0. -/
def setBase (n : Nat) (v : Int) (s : State) : State := updBase n (fun b => { b with val := v.toNat }) s

/-! ### Quality (R354) -/

/-- R354: the base is synchronised. -/
def State.syncThrough (s : State) (fuel n : Nat) : Bool :=
  match fuel with
  | 0 => false
  | fuel + 1 =>
    let src := s.runningAs n
    if src = 0 then (s.base n).declared
    else if src = 1 then
      let k := s.rdN (K.tbSrcArg n)
      if s.rdN (K.ptpState k) = 7 then (s.base n).declared else s.rdN (K.ptpState k) = 3 && (s.ptp k).locked
    else if src = 2 then s.syncThrough fuel (s.rdN (K.tbSrcArg n))
    else
      let e := s.rd K.timeCwTimeErr
      bitOf s.pair.pSync n && decide (-20 ≤ e ∧ e ≤ 20) && (s.rdN K.cwState ≠ 0 || !s.past s.pair.downAt (1000 * ms))

/-- R354: SYNC follows, with EV 0888+n at each change. -/
def syncFollow (s : State) : State :=
  each (List.range 8) (fun n s =>
    let new := if s.syncThrough 9 n then 0 else 1
    if s.rdN (K.tbSync n) = new then s
    else raiseSev (Ev.tbSync n) (le 1 n ++ le 1 new ++ le 1 (s.runningAs n)) (if new = 1 then 3 else 2) (wrN (K.tbSync n) new s)) s

/-- A rate within ±1,000 ppm, in 2⁻³² ppb: the control law of the servo and of the slew is not stated. -/
def State.freeRate (s : State) : Int := (s.free 64 % 8589934592000001 : Nat) - 4294967296000000

/-! ### Captures (R356) -/

/-- R356: the eight records of a capture. -/
def State.captureNow (s : State) : Bytes :=
  (List.range 8).flatMap (fun n =>
    le 12 (s.tb96 n) ++ le 1 (1 + 2 * b2n (!s.synced n)) ++ le 1 0 ++ le 2 (s.rdN (K.tbEra n)))

def capture (slot : Nat) (s : State) : State := updNet (fun x => { x with capture := Tab.put x.capture slot s.captureNow [] }) s

/-- R356: byte `off` of the time capture page of Pavilion p. -/
def State.capturePage (s : State) (p off : Nat) : Nat :=
  let may (n : Nat) : Bool := mapBit (s.blobOf (K.tbPavRead n)) p
  if off < 4 then byteAt (le 4 ((List.range 8).foldl (fun a n => if may n then a + 2 ^ n else a) 0)) off
  else
    let slot := if off < 0x90 then s.fastest p else if off < 0x110 then 8 else 9
    let i := if off < 0x90 then off - 0x10 else if off < 0x110 then off - 0x90 else off - 0x110
    if off < 0x10 ∨ 0x190 ≤ off ∨ !may (i / 16) then 0 else byteAt (Tab.get s.net.capture slot []) i

/-! ### Writes of the time entries -/

/-- R353: a write to STEP of base n. -/
def tbStepEffect (n : Nat) (d : Int) (s : State) : Nat × State :=
  if s.runningAs n ≠ 0 ∨ n = 4 then (Err.state, s)
  else
    let v : Int := (s.tbVal n : Int) + d * 65536
    if v < 0 then (Err.value, s) else (Err.ok, syncFollow (stepWith n 1 (setBase n v) s))

/-- R353: a write to SET of base n. -/
def tbSetEffect (n t : Nat) (s : State) : Nat × State :=
  if s.runningAs n ≠ 0 ∨ n = 4 then (Err.state, s)
  else if 1000000000 ≤ t / 65536 % 2 ^ 32 then (Err.value, s)
  else (Err.ok, syncFollow (stepWith n 1 (setBase n (ofT96 t)) s))

/-- R352, R353: whether the sources and offsets of the eight bases are admitted. -/
def State.sourcesOk (s : State) : Bool :=
  (List.range 8).all (fun n => !s.derives 8 n n)
    && (List.range 8).all (fun n => n = 4 || s.rdN (K.tbSource n) ≠ 1
      || (s.rdN (K.tbSrcArg n) < 4 && s.ptpBase (s.rdN (K.tbSrcArg n)) = some n))

/-- R352: a write to SOURCE (1), SRC_ARG (2) or OFFSET (4) of base n. -/
def tbSourceEffect (n sub : Nat) (v : Bytes) (s : State) : Nat × State :=
  let k := 256 * (0x4900 + n) + sub
  if s.tableBytes k = v then (Err.ok, s)
  else
    let t := putBytes k v s
    let below := t.rdN (K.tbSource n) = 2 && decide ((t.tbVal (t.rdN (K.tbSrcArg n)) : Int) + t.rd (K.tbOffset n) * 65536 < 0)
    if !t.sourcesOk || below then (Err.value, s)
    else if s.storeFull k v then (Err.storeFull, dictFull k s)
    else
      let go (s : State) : State := journalKey k (putBytes k v (setBase n (s.tbVal n) s))
      (Err.ok, if n = 4 then journalKey k (putBytes k v s) else syncFollow (stepWith n 3 go s))

/-- R354: a write to DECLARE of base n. -/
def tbDeclareEffect (n v : Nat) (s : State) : Nat × State :=
  let gm := s.runningAs n = 1 && s.rdN (K.ptpState (s.rdN (K.tbSrcArg n))) = 7
  if s.runningAs n ≠ 0 ∧ !gm then (Err.state, s)
  else (Err.ok, syncFollow (updBase n (fun b => { b with declared := v = 1 }) s))

/-! ### The partner's time (R355) -/

/-- R355: base n, running as PARTNER, follows the partner's value `v` (units) and ERA: its rate is adjusted, or it is
stepped where they differ by more than 100 ns. -/
def partnerBase (n v era : Nat) (s : State) : State :=
  let d : Int := (v : Int) - s.tbVal n
  let s := if 100 * 65536 < d.natAbs then wr K.timeCwTimeErr 0 (stepWith n 5 (setBase n v) s)
    else drawn (wr (K.tbRate n) s.freeRate (wr K.timeCwTimeErr (d.tdiv 65536) s))
  only (s.rdN (K.tbEra n) ≠ era % 2 ^ 32) (fun s => copyEra n (wrN (K.tbEra n) (era % 2 ^ 32) s)) s

/-- R355: a base that ran as PARTNER is FREE again, with its quality. -/
def partnerFree (s : State) : State :=
  each ((List.range 8).filter (fun n => s.runningAs n = 3)) (fun n s => updBase n (fun b => { b with declared := s.synced n }) s) s

end Sys2Proof.Machine
end

