-- ==== Sys2Proof/Machine/NetOps.lean ====
section
/-! DEFINITION. The switch's operations: frames, streams, gates, queues, redundancy and rings (R332 to R350). -/

namespace Sys2Proof.Machine

def State.swPort (s : State) (n : Nat) : SwPort := Tab.get s.net.ports n {}
def updPort (n : Nat) (f : SwPort → SwPort) (s : State) : State := updNet (fun x => { x with ports := Tab.upd x.ports n {} f }) s
def State.strm (s : State) (h : Nat) : Stream := Tab.get s.net.streams h {}
def updStrm (h : Nat) (f : Stream → Stream) (s : State) : State := updNet (fun x => { x with streams := Tab.upd x.streams h {} f }) s
def State.red (s : State) (r : Nat) : RedPair := Tab.get s.net.red r {}
def updRed (r : Nat) (f : RedPair → RedPair) (s : State) : State := updNet (fun x => { x with red := Tab.upd x.red r {} f }) s

/-- The SWITCH domain runs, out of reset. -/
def State.swRuns (s : State) : Bool := s.timeRuns

/-! ### Frames -/

/-- Big-endian 16 bits. -/
def be2 (b : Bytes) (i : Nat) : Nat := 256 * byteAt b i + byteAt b (i + 1)
def beBytes (v : Nat) : Bytes := (le 2 v).reverse

/-- A frame without FCS: addresses, VLAN, and the rest from the EtherType onward. -/
structure Eth where
  dst : Bytes
  src : Bytes
  vid : Nat
  pcp : Nat
  tagged : Bool
  rest : Bytes

/-- R334: a frame as received on a port of PVID `pvid`. -/
def parseEth (pvid : Nat) (f : Bytes) : Eth :=
  let tagged := decide (be2 f 12 = 0x8100)
  { dst := slice f 0 6, src := slice f 6 6, tagged := tagged
    vid := if tagged ∧ be2 f 14 % 4096 ≠ 0 then be2 f 14 % 4096 else pvid
    pcp := if tagged then be2 f 14 / 8192 else 0
    rest := f.drop (if tagged then 16 else 12) }

def Eth.type (e : Eth) : Nat := be2 e.rest 0
/-- The frame with or without its VLAN tag. -/
def Eth.bytes (tag : Bool) (e : Eth) : Bytes :=
  e.dst ++ e.src ++ (if tag then beBytes 0x8100 ++ beBytes (e.pcp * 8192 + e.vid) else []) ++ e.rest

def multicast (mac : Bytes) : Bool := bitOf (byteAt mac 0) 0

/-! ### Ports -/

/-- Mbit/s of a SPEED code. -/
def State.mbps (s : State) (n : Nat) : Nat :=
  if n = 8 then 10000 else if n = 9 then 1000 else ([0, 10, 100, 1000, 2500, 5000, 10000] : List Nat).getD (s.rdN (K.portSpeed n)) 0
/-- The port is in use and its link is up. -/
def State.portUp (s : State) (n : Nat) : Bool := s.on (K.portEnable n) && s.rdN (K.portState n) ≠ 2 && 0 < s.mbps n
/-- ns that `b` bytes take on port n. -/
def State.wireNs (s : State) (n b : Nat) : Nat := b * 8000 / max 1 (s.mbps n)
/-- Preamble, the bytes left and FCS. -/
def TxFrame.len (f : TxFrame) : Nat := 12 + (f.bytes.length - f.sent)

/-! ### Streams (R336) -/

/-- Record h of the stream table. -/
def State.streamRec (s : State) (h : Nat) : Bytes := slice (s.blobOf (K.streamTable (h / 256))) (32 * (h % 256)) 32
def St.enabled (r : Bytes) : Bool := bitOf (byteAt r 0) 0
def St.out (r : Bytes) : Bool := bitOf (byteAt r 0) 1
def St.frer (r : Bytes) : Bool := bitOf (byteAt r 0) 2
def St.police (r : Bytes) : Bool := bitOf (byteAt r 0) 3
/-- 0 TRANSIT, 1 REMOTE_IO, 2 PAVILION. -/
def St.endpoint (r : Bytes) : Nat := bits (byteAt r 0) 5 4
def St.prio (r : Bytes) : Nat := byteAt r 1 % 8
def St.owner (r : Bytes) : Nat := fieldAt r 2 2
def St.vid (r : Bytes) : Nat := fieldAt r 4 2
def St.dmac (r : Bytes) : Bytes := slice r 6 6
def St.ports (r : Bytes) : List Nat := (List.range 8).filter (bitOf (byteAt r 12))
def St.maxSdu (r : Bytes) : Nat := fieldAt r 14 2
def St.rate (r : Bytes) : Nat := fieldAt r 16 4
def St.burst (r : Bytes) : Nat := fieldAt r 20 4
def St.ring (r : Bytes) : Nat := fieldAt r 24 5
def St.entries (r : Bytes) : Nat := 2 ^ byteAt r 29

/-- The streams that are enabled. -/
def State.streamsOn (s : State) : List Nat :=
  (List.range 16).flatMap (fun j => if s.blobOf (K.streamTable j) = blobDefault (K.streamTable j) then []
    else ((List.range 256).map (256 * j + ·)).filter (fun h => St.enabled (s.streamRec h)))

/-- R340: the ring lies wholly in one W region of the owner. -/
def State.ringOk (s : State) (r : Bytes) : Bool :=
  St.owner r < 256 && s.armed (St.owner r)
    && (s.regions (St.owner r)).any (fun g => g.w && g.lo ≤ St.ring r && St.ring r + 2048 * St.entries r ≤ g.hi + 1)

/-- R336: one enabled record keeps the rules that concern it alone. -/
def State.streamRecOk (s : State) (r : Bytes) : Bool :=
  byteAt r 0 < 64 && byteAt r 1 < 8 && (St.owner r < 256 || St.owner r = 0xFFFF) && 1 ≤ St.vid r && St.vid r ≤ 4094 && byteAt r 13 = 0
    && 64 ≤ St.maxSdu r && St.maxSdu r ≤ 1522 && 1522 ≤ St.burst r && St.burst r ≤ 1048576 && St.endpoint r ≤ 2
    && (!St.out r || (St.ports r ≠ [] && (!St.frer r || (St.ports r).length = 2)))
    && (if St.endpoint r = 2 then St.owner r ≠ 0xFFFF && St.ring r % 2048 = 0 && 4 ≤ byteAt r 29 && byteAt r 29 ≤ 10
          && fieldAt r 30 2 = 0 && s.ringOk r
        else fieldAt r 24 8 = 0)

/-- R336: a station's streams exist, with matching directions and a launch-time class on every port. -/
def State.stationStreamsOk (s : State) (st : Nat) : Bool :=
  let a := s.station st
  let i := s.streamRec (Sta.inStream a)
  let o := s.streamRec (Sta.outStream a)
  let own (r : Bytes) : Bool := St.owner r = 0xFFFF || St.owner r = Sta.owner a
  (Sta.inLen a = 0 || (Sta.inStream a < 4096 && St.enabled i && St.endpoint i = 1 && !St.out i && own i))
    && (Sta.outLen a = 0 || (Sta.outStream a < 4096 && St.enabled o && St.endpoint o = 1 && St.out o && own o
      && (St.ports o).all (fun n => bitOf (s.rdN (K.portLaunchMask n)) (St.prio o))))

/-- R336: the stream table as it stands keeps every rule. -/
def State.streamsOk (s : State) : Bool :=
  let on := s.streamsOn
  on.all (fun h => s.streamRecOk (s.streamRec h))
    && on.all (fun h => on.all (fun g => g ≤ h || !(St.vid (s.streamRec g) = St.vid (s.streamRec h)
      && St.dmac (s.streamRec g) = St.dmac (s.streamRec h) && St.out (s.streamRec g) = St.out (s.streamRec h))))
    && s.stations.all s.stationStreamsOk

/-- R338: ports that FRER streams use. -/
def State.frerPorts (s : State) : List Nat := (s.streamsOn.filter (fun h => St.frer (s.streamRec h))).flatMap (fun h => St.ports (s.streamRec h))
/-- R348: ports of the redundancy pairs that are not OFF. -/
def State.redPorts (s : State) : List Nat :=
  ([0, 1] : List Nat).flatMap (fun r => if s.rdN (K.redMode r) = 0 then [] else [s.rdN (K.redPortA r), s.rdN (K.redPortB r)])
/-- R338, R348: the redundancy pairs join distinct ports of equal kind that no FRER stream uses. -/
def State.redOk (s : State) : Bool :=
  let ps := s.redPorts
  ps.Nodup && ps.all (fun n => !s.frerPorts.contains n)
    && ([0, 1] : List Nat).all (fun r => s.rdN (K.redMode r) = 0 || s.rdN (K.redPortA r) / 4 = s.rdN (K.redPortB r) / 4)

/-- A counter of the status record of stream h. -/
def incStream (h o : Nat) (s : State) : State :=
  let b := s.blobOf K.streamStatus
  wrBlob K.streamStatus (overlay b (16 * h + o) (le 4 (satInc U32.max (fieldAt b (16 * h + o) 4)))) s

/-! ### Gates (R341 to R344) -/

/-- R343: the time of a list on base `tb`, in ns; scan time where it is TB0. -/
def State.listTime (s : State) (tb : Nat) : Int := if tb = 0 then s.scanTime else s.tbNs tb

/-- R341: ns for which class c stays open from `pos` into the cycle on; none where it is closed. -/
def openRun (fuel c : Nat) (l : List Nat) (pos : Nat) : Option Nat :=
  match fuel, l with
  | fuel + 1, e :: r =>
    let n := e % 2 ^ 32
    if n ≤ pos then openRun fuel c r (pos - n)
    else if !bitOf (e / 2 ^ 32) c then none
    else some (n - pos + (openRun fuel c r 0).getD 0)
  | _, _ => none

/-- R335, R341: how long the gate of class c on port n stays open, in ns; a port without a list has every gate open. -/
def State.gateOpen (s : State) (n c : Nat) : Option Nat :=
  match (s.swPort n).oper with
  | some g =>
    if !s.on (K.gateEnable n) ∨ 8 ≤ n then some (2 ^ 40)
    else
      let t := s.listTime g.tb + s.rd (K.portEgressLat n) - (g.base / 65536 : Nat)
      openRun 256 c (g.entries ++ g.entries) (t % (max 1 g.cycle : Nat)).toNat
  | none => some (2 ^ 40)

/-- R342: the administrative list of port n. -/
def State.adminList (s : State) (n : Nat) : GateList :=
  let tb := s.rdN (K.gateTimeBase n)
  let cyc := s.rdN (K.gateCycle n)
  let base := ofT96 (s.rdN (K.gateBase n))
  let now_ := s.listTime tb
  let b : Int := (base / 65536 : Nat)
  let k := ((now_ - b) + (cyc : Int) - 1) / (max 1 cyc : Nat)
  { tb := tb, base := base, cycle := cyc, entries := (List.range (s.rdN (K.gateLength n))).map (fun j => s.rdN (K.gateEntry n j))
    start := if now_ ≤ b then b else b + k * cyc }

/-- R342: whether APPLY admits it. -/
def GateList.ok (g : GateList) : Bool :=
  (g.entries.map (· % 2 ^ 32)).foldl (· + ·) 0 = g.cycle && 1000 ≤ g.cycle && g.cycle ≤ 1000000000 && g.entries.all (fun e => 100 ≤ e % 2 ^ 32)

/-- R344: stream h, of a station of class x with output path offset `off`, has a reserved gate window on port n. -/
def State.windowReserved (s : State) (h x off n : Nat) : Bool :=
  let r := s.streamRec h
  let c := St.prio r
  let t : Int := s.rd K.scanPhase + (s.rdN (K.scanCommitAt x) * 1000 : Nat) - off
  let len := s.wireNs n (min 1522 (St.maxSdu r) + 8)
  match (s.swPort n).oper with
  | some g =>
    let lone := g.entries.filter (fun e => e / 2 ^ 32 % 256 = 2 ^ c)
    let pos := ((t - (g.base / 65536 : Nat)) % (max 1 g.cycle : Nat)).toNat
    g.tb = 0 && s.on (K.gateEnable n) && 0 < g.cycle && s.rdN (K.scanPeriod x) * 1000 % g.cycle = 0 && lone.length = 1
      && g.entries.all (fun e => !bitOf (e / 2 ^ 32) c || e / 2 ^ 32 % 256 = 2 ^ c)
      && (openRun 256 c (g.entries ++ g.entries) pos).any (fun left => len + 200 ≤ left)
      && s.stations.all (fun q =>
        let b := s.station q
        let o := s.streamRec (Sta.outStream b)
        Sta.outStream b = h || St.prio o ≠ c || !(St.ports o).contains n
          || (openRun 256 c (g.entries ++ g.entries)
            (((s.rd K.scanPhase + (s.rdN (K.scanCommitAt (Sta.cls b)) * 1000 : Nat) - (Sta.pathOff b : Nat)) - (g.base / 65536 : Nat)) % (max 1 g.cycle : Nat)).toNat).isNone)
  | none => false

/-! ### Transmission (R335, R345 to R347) -/

/-- R345: the credits are brought up to the present. -/
def settleCredit (n : Nat) (s : State) : State :=
  let p := s.swPort n
  let dt : Int := (s.now - p.creditAt : Nat)
  updPort n (fun q => { q with
    creditAt := s.now
    credit := (List.range 8).foldl (fun t c =>
      let slope : Int := s.rdN (K.portCbsSlope n c)
      let old := Tab.get t c 0
      let new := if slope = 0 then 0
        else if p.sending.any (·.cls = c) then old + dt * (slope - (1000 * s.mbps n : Nat))
        else if p.queue.any (·.cls = c) then old + dt * slope
        else min 0 (old + dt * slope)
      Tab.put t c new 0) q.credit }) s

/-- R345: frames of class c are preempted on port n. -/
def State.preempts (s : State) (n c : Nat) : Bool := bitOf (s.rdN (K.portPreempt n)) c && s.rdN (K.portPreemptState n) = 2

/-- R346, R347: the launch time of a frame has come; a backward step of its base delays it again. -/
def State.launchDue (s : State) (n : Nat) (f : TxFrame) : Bool :=
  f.launch.any (fun t => t ≤ s.listTime f.base + s.rd (K.portEgressLat n))

/-- R335: the frame may start. -/
def State.mayStart (s : State) (n : Nat) (f : TxFrame) : Bool :=
  let need := s.wireNs n (if s.preempts n f.cls then min 72 f.len else f.len)
  (f.launch.isNone || (f.eligible && s.launchDue n f)) && 0 ≤ Tab.get (s.swPort n).credit f.cls 0 && (s.gateOpen n f.cls).any (fun left => need ≤ left)

/-- The first frame of class c in a queue. -/
def headOf (c : Nat) (q : List TxFrame) : Option TxFrame := q.find? (·.cls = c)
/-- A queue without the first frame of class c. -/
def dropHead (c : Nat) : List TxFrame → List TxFrame
  | [] => []
  | f :: r => if f.cls = c then r else f :: dropHead c r

/-- R335, R345: the frame being sent is preempted, where both parts keep the minimum fragment of 64 bytes, each with its
check field. -/
def cutSending (n : Nat) (s : State) : State :=
  let p := s.swPort n
  match p.sending with
  | none => s
  | some f =>
    let done := (s.now - p.startAt) * s.mbps n / 8000 - 8
    if s.preempts n f.cls ∧ 60 ≤ done ∧ f.sent + done + 60 ≤ f.bytes.length then
      updPort n (fun q => { q with sending := none, queue := { f with sent := f.sent + done, stamp := some p.stamp } :: q.queue }) s
    else s

/-- R335: an express class is eligible: the frame being sent is preempted. -/
def expressFirst (n : Nat) (s : State) : State :=
  let q := (s.swPort n).queue
  only ((List.range 8).any (fun c => !s.preempts n c && (headOf c q).any (s.mayStart n))) (cutSending n) s

/-- R335: the highest eligible class starts. -/
def startNext (n : Nat) (s : State) : State :=
  let s := expressFirst n (settleCredit n s)
  let p := s.swPort n
  if !s.portUp n ∨ p.sending.isSome then s
  else match ([7, 6, 5, 4, 3, 2, 1, 0] : List Nat).find? (fun c => (headOf c p.queue).any (s.mayStart n)) with
    | none => s
    | some c =>
      match headOf c p.queue with
      | none => s
      | some f =>
        let stamp := (s.tbVal f.base : Int) + (s.rd (K.portEgressLat n) + s.wireNs n 8) * 65536
        let s := match f.station with
          | some st => setStaStatus st 6 1 (setBit (s.staStatus st 6 1) 2 false) s
          | none => s
        send (Wire.port n) f.bytes
          (updPort n (fun q => { q with queue := dropHead c q.queue, sending := some f, startAt := s.now, stamp := f.stamp.getD stamp.toNat }) s)

/-! ### Rings (R339, R340) -/

def ringAddr (r : Bytes) (pos : Nat) : Nat := St.ring r + 2048 * (pos % St.entries r)
def State.ringState (s : State) (r : Bytes) (pos : Nat) : Nat := ofLe (s.bufGet (St.owner r) (ringAddr r pos) 2)
def setRingState (r : Bytes) (pos v : Nat) (s : State) : State := bufPut (St.owner r) (ringAddr r pos) (le 2 v) s

/-- R340: the stream is suspended or resumes as its ring stands. -/
def ringFollow (h : Nat) (s : State) : State :=
  let r := s.streamRec h
  let bad := !s.ringOk r
  if bad = (s.strm h).suspended then s
  else
    let s := updStrm h (fun x => { x with suspended := bad }) s
    only bad (raiseOwned Ev.streamRing (le 2 h ++ le 1 2) (St.owner r)) s

/-- A copy of the frame of ring entry `e` of stream h still waits or is being sent. -/
def State.ringOutstanding (s : State) (h e : Nat) : Bool :=
  (List.range 8).any (fun n =>
    let mine (f : TxFrame) : Bool := f.stream = some h && f.entry = some e
    (s.swPort n).queue.any mine || (s.swPort n).sending.any mine)

/-- R340: a ring entry ends: `stamp` is written at DONE. -/
def ringEnd (f : TxFrame) (v stamp : Nat) (s : State) : State :=
  match f.stream, f.entry with
  | some h, some e =>
    let r := s.streamRec h
    if !s.ringOk r || s.ringState r e ≠ 1 || (v = 3 && s.ringOutstanding h e) then s
    else
      let a := ringAddr r e
      let s := only (v = 2) (fun s => bufPut (St.owner r) (a + 8) (le 12 (t96 stamp))
        (bufPut (St.owner r) (a + 4) (le 1 (setBit (ofLe (s.bufGet (St.owner r) (a + 4) 1)) 1 true)) s)) s
      setRingState r e v s
  | _, _ => s

/-- R346: the owner of a launch-time frame (R35). -/
def State.frameOwner (s : State) (f : TxFrame) : Nat :=
  match f.station, f.stream with
  | some st, _ => Sta.owner (s.station st)
  | none, some h => St.owner (s.streamRec h)
  | none, none => 0xFFFF

/-- R346: a frame is dropped as late, by `late` ns. -/
def dropLate (n : Nat) (late : Int) (f : TxFrame) (s : State) : State :=
  let s := inc (K.portLaunchDrops n) U32.max s
  let s := match f.station with
    | some st => setStaStatus st 6 1 (setBit (s.staStatus st 6 1) 2 true) s
    | none => ringEnd f 3 0 s
  raiseOwned Ev.launchDropped (le 1 n ++ le 2 (f.stream.getD 0xFFFF) ++ le 2 (f.station.getD 0xFFFF) ++ le 8 (unsigned 8 late)) (s.frameOwner f) s

/-- ns by which the launch time has passed. -/
def State.lateness (s : State) (f : TxFrame) : Int := s.listTime f.base - f.launch.getD 0

/-- A queue with the frame put in: a launch-time queue in order of launch time. -/
def State.putFrame (s : State) (f : TxFrame) : List TxFrame → List TxFrame
  | [] => [f]
  | g :: r => if f.launch.isSome ∧ g.cls = f.cls ∧ g.launch.isSome ∧ s.lateness g < s.lateness f then f :: g :: r else g :: s.putFrame f r

/-- A frame reaches the queue of port n. -/
def enqueueOne (n : Nat) (f : TxFrame) (s : State) : State :=
  if !s.portUp n then
    let s := inc (K.portTxDiscards n) U32.max s
    only f.launch.isSome (dropLate n (s.lateness f) f) s
  else if f.launch.isSome ∧ (64 ≤ ((s.swPort n).queue.filter (·.cls = f.cls)).length ∨ (s.rdN (K.portLateTol n) : Int) < s.lateness f) then
    dropLate n (s.lateness f) f s
  else
    let f := { f with eligible := s.launchDue n f }
    startNext n (updPort n (fun p => { p with queue := s.putFrame f p.queue }) s)

/-! ### PRP and HSR (R348) -/

/-- The redundancy pair port n belongs to, and its side. -/
def State.redOf (s : State) (n : Nat) : Option (Nat × Nat) :=
  ([0, 1] : List Nat).findSome? (fun r =>
    if s.rdN (K.redMode r) = 0 then none
    else if s.rdN (K.redPortA r) = n then some (r, 0) else if s.rdN (K.redPortB r) = n then some (r, 1) else none)

/-- R348: the frame as it leaves side `side` of pair r with sequence number q: PRP trailer or HSR tag. -/
def State.redForm (s : State) (r side q : Nat) (tag : Bool) (e : Eth) : Bytes :=
  if s.rdN (K.redMode r) = 1 then
    let b := e.bytes tag
    b ++ beBytes q ++ beBytes ((10 + side) * 4096 + (e.rest.length - 2 + 6) % 4096) ++ beBytes 0x88FB
  else ({ e with rest := beBytes 0x892F ++ beBytes (side * 4096 + (e.rest.length + 4) % 4096) ++ beBytes q ++ e.rest } : Eth).bytes tag

/-- A frame leaves by port n, on both ports where n belongs to a redundancy pair. -/
def egress (n : Nat) (tag : Bool) (e : Eth) (f : TxFrame) (s : State) : State :=
  match s.redOf n with
  | none => enqueueOne n { f with bytes := e.bytes tag } s
  | some (r, _) =>
    let q := (s.red r).seq
    let s := updRed r (fun x => { x with seq := (q + 1) % 65536 }) s
    let s := enqueueOne (s.rdN (K.redPortA r)) { f with bytes := s.redForm r 0 q tag e } s
    enqueueOne (s.rdN (K.redPortB r)) { f with bytes := s.redForm r 1 q tag e } s

/-- R338: an OUT stream's frame leaves on its ports, with an R-TAG where FRER is set. -/
def sendStream (h : Nat) (e : Eth) (f : TxFrame) (s : State) : State :=
  let r := s.streamRec h
  let q := (s.strm h).seq
  let e := if St.frer r then { e with rest := beBytes 0xF1C1 ++ beBytes 0 ++ beBytes q ++ e.rest } else e
  let s := only (St.frer r) (updStrm h (fun x => { x with seq := (q + 1) % 65536 })) s
  let s := incStream h 0 s
  -- one pass for each port, a redundancy pair once
  let ps := (St.ports r).foldl (fun l n =>
    match s.redOf n with
    | some (k, _) => if l.any (fun m => (s.redOf m).map (·.1) = some k) then l else l ++ [n]
    | none => l ++ [n]) []
  each ps (fun n => egress n true e { f with cls := St.prio r, stream := some h }) s

/-! ### Forwarding (R334) -/

/-- Members of a VLAN, and the external ports that send it untagged. -/
def State.vlanHas (s : State) (vid n : Nat) : Bool := bitOf (fieldAt (s.blobOf K.swVlanTable) (4 * vid) 4) n
def State.vlanPlain (s : State) (vid n : Nat) : Bool := n < 8 && bitOf (fieldAt (s.blobOf K.swVlanTable) (4 * vid) 4) (16 + n)

/-- R334: the source address is learnt. -/
def learn (n vid : Nat) (mac : Bytes) (s : State) : State :=
  if multicast mac then s
  else
    let rest := s.net.fdb.filter (fun e => !(e.vid = vid && e.mac = mac))
    let new := decide (rest.length = s.net.fdb.length)
    if new && decide (16384 ≤ rest.length) then raise Ev.fdbFull (le 4 16384) s
    else
      let s := updNet (fun x => { x with fdb := rest ++ [{ vid := vid, mac := mac, port := n, at_ := s.now }] }) s
      wrN K.swFdbUsed s.net.fdb.length s

/-- R334: frames a BLOCKING port passes: those addressed to port 9, and PTP. -/
def State.forPort9 (s : State) (e : Eth) : Bool := e.dst = s.blobOf K.swBridgeMac || e.type = 0x88F7

/-- R334: the frame is forwarded from port n: to the port its address was learnt on, or to every member of its VLAN. -/
def forward (n : Nat) (e : Eth) (s : State) : State :=
  let same (m : Nat) : Bool := m = n || (s.redOf n).isSome && (s.redOf m).map (·.1) = (s.redOf n).map (·.1)
  let known := if multicast e.dst then none else (s.net.fdb.find? (fun x => x.vid = e.vid && x.mac = e.dst)).map (·.port)
  let out := match known with
    | some m => if same m then [] else [m]
    | none => (List.range 10).filter (fun m => s.vlanHas e.vid m && !same m)
  let out := out.filter (fun m => s.on (K.portEnable m) && (s.rdN (K.portState m) = 0 || (s.rdN (K.portState m) = 1 && s.forPort9 e)))
  let out := out.foldl (fun l m =>
    match s.redOf m with
    | some (k, _) => if l.any (fun j => (s.redOf j).map (·.1) = some k) then l else l ++ [m]
    | none => l ++ [m]) []
  each out (fun m => egress m (!s.vlanPlain e.vid m) e { cls := e.pcp }) s

/-- Deliver to an internal port. -/
def toInternal (n : Nat) (e : Eth) (s : State) : State := enqueueOne n { cls := e.pcp, bytes := e.bytes true } s

end Sys2Proof.Machine
end

