-- ==== Sys2Proof/Machine/SecOps.lean ====
section
/-! DEFINITION. The Icehouse: life-cycle states, keys, entropy and the security alarm (R474 to R488). -/

namespace Sys2Proof.Machine

/-- R474: life-cycle states. -/
def Lc.manufacture : Nat := 0
def Lc.unclaimed : Nat := 1
def Lc.owned : Nat := 2
def Lc.returned : Nat := 3
def Lc.scrapped : Nat := 4

def State.lc (s : State) : Nat := s.rdN K.lcState

/-- `n` bytes nothing fixes: a nonce or key material. -/
def State.freeBytes (s : State) (n : Nat) : Bytes := le n (s.free (8 * n))

/-- A nonce entry is drawn anew. -/
def newNonce (k : Nat) (s : State) : State := drawn (wrBlob k (s.freeBytes 16) s)

/-! ### Entropy (R488) -/

/-- RNG.STATE. -/
def Rng.notReady : Nat := 0
def Rng.ready : Nat := 1
def Rng.degraded : Nat := 2
def Rng.fault : Nat := 3

/-- R488: a reseed from the TRNG falls due every 1 s and after 65,536 requests. -/
def State.reseedDue (s : State) : Bool := s.past s.sec.reseedAt (1000 * ms) || 65536 ≤ s.sec.drbgReqs

/-- R488: whether a request is served; `pr`: it asks for prediction resistance. -/
def State.rngServes (s : State) (pr : Bool) : Bool :=
  let st := s.rdN K.rngState
  st = Rng.ready || ((st = Rng.degraded || st = Rng.fault) && !pr && !s.reseedDue)

/-- A reseed from the TRNG. -/
def reseed (s : State) : State :=
  wrN K.rngReseeds (s.rdN K.rngReseeds + 1) (updSec (fun x => { x with drbgReqs := 0, reseedAt := s.now }) s)

/-- `n` requests; each with prediction resistance reseeds first. -/
def rngUse (pr : Bool) (n : Nat) (s : State) : State :=
  each (List.range n) (fun _ s =>
    let s := if pr || (65536 ≤ s.sec.drbgReqs && s.rdN K.rngState = Rng.ready) then reseed s else s
    updSec (fun x => { x with drbgReqs := x.drbgReqs + 1 }) s) s

/-! ### Keys (R479 to R481) -/

/-- R480: the key store written at a claim. -/
def claimStore (gen claims : Nat) (root service kek dict ecdh mac : Bytes) : Bytes :=
  le 4 gen ++ le 1 claims ++ le 11 0 ++ padTo 32 kek ++ padTo 32 dict ++ padTo 48 ecdh ++ padTo 104 root ++ padTo 104 service
    ++ le 144 0 ++ padTo 32 mac

/-- R480, R481: the store is written: a new generation and a sealed copy. -/
def writeStore (b : Bytes) (s : State) : State :=
  wrN K.keysStoreState 1 (wrN K.keysGeneration (fieldAt b 0 4)
    (updSec (fun x => { x with store := b, storeOk := true, sealedCopy := b, sealedOk := true }) s))

/-- R477: a claim creates the owner's keys, each after a fresh reseed. -/
def createKeys (root service : Bytes) (s : State) : State :=
  let s := rngUse true 3 s
  let kek := s.freeBytes 32
  let s := drawn s
  let kd := s.freeBytes 32
  let s := drawn s
  let ec := s.freeBytes 48
  let s := drawn s
  let x := s.freeBytes 48
  let s := drawn s
  let y := s.freeBytes 48
  let s := drawn s
  let mac := s.freeBytes 32
  let s := drawn s
  let s := writeStore (claimStore (s.rdN K.keysGeneration + 1) (s.rdN K.lcClaims + 1) root service kek kd ec mac) s
  wrBlob K.keysOwnerEcdhPub ([4] ++ x ++ y) (wrBlob K.keysServicePub service (wrBlob K.keysOwnerRootPub root s))

/-- R392: with KEK_STORE gone, or back, every partition reads as LOCKED, or does not. -/
def lockParts (locked : Bool) (s : State) : State :=
  each (List.range 7) (fun k s =>
    if locked then wrN (K.partState k) 3 s else if s.rdN (K.partState k) = 3 then wrN (K.partState k) 0 s else s) s

/-- R480: the key store is zeroised. -/
def zeroise (s : State) : State :=
  lockParts true <| wrN K.keysStoreState 0 (updSec (fun x => { x with store := [], storeOk := false }) s)

/-- R481: the sealed copy is destroyed, with the public slots. -/
def destroySealed (s : State) : State :=
  let s := updSec (fun x => { x with sealedCopy := [], sealedOk := false }) s
  wrN K.keysGeneration 0 (wrBlob K.keysOwnerEcdhPub (List.replicate 97 0)
    (wrBlob K.keysServicePub (List.replicate 97 0) (wrBlob K.keysOwnerRootPub (List.replicate 97 0) s)))

/-- R392, R475: what NAND held under partition keys cannot be read any more, or has been formatted. -/
def cryptoErase (s : State) : State :=
  let s := each (List.range 5) (fun k => wrN (K.partUsed k) 0) (each (s.pavs.map (·.1)) (fun p => wrN (K.quotaStoreUsed p) 0) s)
  { s with
    store := [], journal := [], mem := s.mem.filter (fun c => c.1 / 2 ^ 40 < 100 || 356 ≤ c.1 / 2 ^ 40)
    pavs := s.pavs.filterMap (fun e =>
      let v : Pav := { e.2 with image := [], declList := [], schema := 0 }
      if v = {} then none else some (e.1, v))
    recd := { s.recd with archive := [] }
    hist := { s.hist with points := [], periods := [] }
    sto := { s.sto with slots := [], held := [], undo := [], reqs := [], incomplete := [], newer := [] }
    upd := { s.upd with image := [] } }

/-! ### Transitions (R475, R476) -/

/-- R476 steps 3 and 4: the OTP state is blown and the record cleared; EV 1216. -/
def lcTo (new : Nat) (s : State) : State :=
  let old := s.lc
  let s := updSec (fun x => { x with pendingLc := none }) s
  if old = new then s
  else
    let s := if new = Lc.owned then wrN K.lcClaims (s.rdN K.lcClaims + 1) s else s
    let s := if new = Lc.scrapped then updSec (fun x => { x with fusesBlown := true }) s else s
    let s := wrN K.lcState new s
    raise Ev.lifeCycle (le 1 old ++ le 1 new ++ le 4 (s.rdN K.lcClaims)) s

/-- R476 step 2 for a target that leaves OWNED. -/
def dropKeys (s : State) : State := cryptoErase (destroySealed (zeroise s))

/-- A reset follows `d` ns from now. -/
def resetIn (d cause : Nat) (s : State) : State := updGate (fun g => { g with resetAt := some (s.now + d), resetCause := cause }) s

/-! ### The alarm (R483 to R487) -/

/-- R484: the sources. -/
def Src.mesh : Nat := 0
def Src.lidLight : Nat := 1
def Src.temperature : Nat := 4
def Src.auth : Nat := 5
def Src.battery : Nat := 6

/-- R484: the response of a source: 0 LOG, 1 ALARM, 2 ERASE. -/
def State.response (s : State) (src : Nat) : Nat :=
  if src ≤ Src.lidLight then 2 else bits (s.rdN K.alarmResponse) (2 * src + 1) (2 * src)

/-- R485: the alarm log record. -/
def State.alarmRecord (s : State) (src : Nat) (vbat : Bool) (reading : Nat) : Bytes :=
  le 1 src ++ le 1 (s.response src) ++ le 1 (if vbat then 0 else s.mode) ++ le 1 (b2n vbat) ++ le 4 reading
    ++ le 12 (t96 s.rtcNow) ++ le 12 0

/-- Records in the log that are not acknowledged. -/
def State.unacked (s : State) : List Nat :=
  (List.range (min 16 (s.rdN K.alarmTotal))).filter (fun j => !bitOf (byteAt (s.blobOf K.alarmLog) (32 * j + 3)) 1)

/-- R487: a record with response ALARM remains unacknowledged. -/
def State.alarmStands (s : State) : Bool := s.unacked.any (fun j => byteAt (s.blobOf K.alarmLog) (32 * j + 1) = 1)

/-- R485: the newest record of source `src` was written on VBAT. -/
def State.newestOnVbat (s : State) (src : Nat) : Bool :=
  ((List.range (min 16 (s.rdN K.alarmTotal))).find? (fun j => byteAt (s.blobOf K.alarmLog) (32 * j) = src)).any
    (fun j => bitOf (byteAt (s.blobOf K.alarmLog) (32 * j + 3)) 0)

/-- R485, R487: a source that a reading shows is still present at BOOT and calls for ALARM: one whose response is ALARM, or
ERASE unless that was carried out for a breach on VBAT. -/
def State.sourceStands (s : State) : Bool :=
  (List.range 5).any (fun i => bitOf (s.rdN K.alarmPresent) i && (s.response i = 1 || (s.response i = 2 && !s.newestOnVbat i)))

/-- R485: the record enters the log. -/
def logAlarm (r : Bytes) (s : State) : State :=
  let s := inc K.alarmTotal U32.max (wrBlob K.alarmLog (r ++ (s.blobOf K.alarmLog).take 480) s)
  wrN K.alarmUnacked s.unacked.length s

/-- R485, R486: the ERASE response. -/
def eraseResponse (src : Nat) (vbat : Bool) (s : State) : State :=
  let s := wrN K.iceEraseLatch 1 (zeroise s)
  let s := if s.sec.pendingLc = some Lc.owned then updGate (fun g => { g with resetAt := none }) s else s
  let s := updSec (fun x => { x with eraseBy := some (src, vbat), pendingLc := if x.pendingLc = some Lc.owned then none else x.pendingLc }) s
  if vbat then s
  else
    let s := raise Ev.keystoreErased (le 1 src ++ le 1 0) s
    let s := if s.rdN K.updState = 1 ∨ s.rdN K.updState = 2 then wrN K.updState 3 s else s
    enterAlarm (debugEnd s)

/-- R485: a confirmed source. -/
def raiseSource (src reading : Nat) (s : State) : State :=
  let vbat := decide (s.mode = Mode.icehouse)
  let r := s.alarmRecord src vbat reading
  let resp := s.response src
  let s := logAlarm r (wrN K.alarmPresent (setBit (s.rdN K.alarmPresent) src true) s)
  let s := if vbat then updSec (fun x => { x with owed := x.owed ++ [r] }) s else raise Ev.securityAlarm r s
  if resp = 2 then eraseResponse src vbat s
  else if resp = 1 ∧ !vbat then enterAlarm s
  else s

/-- R484: an authentication failure counts towards the AUTH source; the count starts again once the source is raised. -/
def authFailure (s : State) : State :=
  let l := s.now :: s.sec.authFails.filter (fun t => s.now < t + s.rdN K.alarmAuthWindow * sec)
  if s.rdN K.alarmAuthLimit ≤ l.length then raiseSource Src.auth l.length (updSec (fun x => { x with authFails := [] }) s)
  else updSec (fun x => { x with authFails := l }) s

/-- R481, R487: the store is restored from the sealed copy; with none, it cannot be. -/
def restoreStore (s : State) : State :=
  if !s.sec.sealedOk then s
  else
    let s := updSec (fun x => { x with store := x.sealedCopy, storeOk := true }) s
    raise Ev.keystoreRestored (le 4 (s.rdN K.keysGeneration)) (wrN K.keysStoreState 1 (lockParts false s))

/-- R481: the ROM checks the key store at BOOT in OWNED. -/
def keystoreCheck (s : State) : State :=
  if s.lc ≠ Lc.owned then s
  else if s.sec.storeOk then wrN K.keysStoreState 1 s
  else if s.on K.icePowerLost then
    match s.response Src.battery with
    | 0 => if s.sec.sealedOk then restoreStore s else wrN K.keysStoreState 0 s
    | 1 => wrN K.keysStoreState 2 s
    | _ => lcTo Lc.unclaimed (dropKeys s)
  else
    let s := raiseSource Src.mesh 0 s
    lcTo Lc.unclaimed (dropKeys s)

/-- R476: the ROM settles a PENDING_LC record at BOOT. -/
def pendingSettle (s : State) : State :=
  match s.sec.pendingLc with
  | none => s
  | some t =>
    if t = Lc.owned then
      if s.lc ≠ Lc.owned then updSec (fun x => { x with pendingLc := none }) (destroySealed (zeroise s))
      else if s.sec.storeOk then updSec (fun x => { x with pendingLc := none }) s
      else if s.sec.sealedOk then updSec (fun x => { x with pendingLc := none }) (restoreStore s)
      else raise Ev.keystoreErased (le 1 Src.mesh ++ le 1 0) (lcTo Lc.unclaimed (dropKeys s))
    else if s.lc = Lc.owned then lcTo t (dropKeys s)
    else lcTo t s

/-- R485: at BOOT the ROM raises what the Icehouse logged on VBAT, and carries out an ERASE it finds latched. -/
def latchSettle (s : State) : State :=
  let s := each s.sec.owed (fun r s => raise Ev.securityAlarm r s) s
  let s := updSec (fun x => { x with owed := [] }) s
  if !s.on K.iceEraseLatch then s
  else
    let by_ := s.sec.eraseBy.getD (Src.mesh, false)
    let s := if by_.2 then raise Ev.keystoreErased (le 1 by_.1 ++ le 1 1) s else s
    let s := if s.lc = Lc.owned then lcTo Lc.unclaimed (dropKeys s) else destroySealed (zeroise s)
    wrN K.iceEraseLatch 0 (updSec (fun x => { x with eraseBy := none, destroyedAt := none }) s)

end Sys2Proof.Machine
end

