-- ==== Sys2Proof/Machine/VoteOps.lean ====
section
/-! DEFINITION. What the Trestles do: mismatches, fencing, resynchronisation, failure, rebuild, rotation and the test
slot (R152 to R174). -/

namespace Sys2Proof.Machine

def updVoter (t : Nat) (f : Voter → Voter) (s : State) : State := updTrestle t (fun x => { x with voter := f x.voter }) s

/-- The Trestle runs in SAFE configuration with a voter. -/
def State.voting (s : State) (t : Nat) : Bool := s.trState t = Tr.tmr || s.trState t = Tr.duplex
/-- Position k is fenced, or its lane is retired pending a spare. -/
def State.fenced (s : State) (t k : Nat) : Bool := bitOf (s.rdN (K.trestleStatus t)) k
def State.healthy (s : State) (t : Nat) : List Nat := [0, 1, 2].filter (fun k => !s.fenced t k)
/-- R150: the lead position. -/
def State.leadPos (s : State) (t : Nat) : Nat := if s.fenced t 0 then 1 else 0

/-! ### Mismatches (R156, R172) -/

/-- What a mismatch record says of the egress. -/
structure Egress where
  kind : Nat := 0
  pav : Nat := 0
  cls : Nat := 0
  addr : Nat := 0
  deriving DecidableEq, Repr

/-- The mismatch record. Kinds: 1 DIFFERS, 2 LAGGING, 3 LANE_FAULT, 4 STARVED. -/
def State.mismatchRecord (s : State) (kind k lane : Nat) (e : Egress) : Bytes :=
  le 1 kind ++ le 1 k ++ le 1 lane ++ le 1 e.kind ++ le 1 e.pav ++ le 1 e.cls ++ le 2 0
    ++ le 8 (if e.kind = 0 then 0 else s.scanNo e.cls) ++ le 8 e.addr ++ le 8 (s.tb64 3)

/-- R156, R172: a transient mismatch of lane n. -/
def countMismatch (n : Nat) (s : State) : State :=
  let w := s.rdN K.spareMismatchWindow * sec
  let s := inc (K.laneMismatchTotal n) U32.max s
  let s := updPl n (fun x => { x with mismatchTimes := s.now :: x.mismatchTimes.filter (fun t => s.now < t + w) }) s
  wrN (K.laneMismatchWindow n) (min 255 (s.pl n).mismatchTimes.length) s

/-- R172: the lane's mismatches within the window reach the limit. -/
def State.overLimit (s : State) (n : Nat) : Bool := s.rdN K.spareMismatchLimit ≤ (s.pl n).mismatchTimes.length

/-- R166: of a list, the lane whose latest BIST is oldest; ties go to the lowest number. -/
def State.oldestTested (s : State) (ls : List Nat) : Option Nat :=
  ls.foldl (fun a n => match a with
    | none => some n
    | some m => if s.rdN (K.laneLastBist n) < s.rdN (K.laneLastBist m) then some n else some m) none

/-! ### Resynchronisation (R158 to R162) -/

/-- R158: a copy begins into lane n for position k; `itcm`, `mirror`: those items are copied too. -/
def startCopy (t k n : Nat) (itcm mirror : Bool) (s : State) : State :=
  updResync t (fun _ => { active := true, target := n, pos := k, dtcm := 16, mirror := if mirror then 4 else 0
                          itcm := if itcm then 16 else 0, lastChunk := s.now }) s

/-- R158: a spare is powered for position k of Trestle t; the copy waits for its lock. -/
def joinSpare (t k n : Nat) (s : State) : State :=
  let s := setRole n Rl.joining s
  updResync t (fun _ => { target := n, pos := k, lastChunk := s.now }) s

/-- R158, R174: resynchronise position k: its own lane, or a spare where that lane is retired; with no spare it waits. -/
def resyncPos (t k : Nat) (itcm mirror : Bool) (s : State) : State :=
  let n := s.laneAt t k
  if n < 15 then startCopy t k n itcm mirror s
  else match s.oldestTested (s.lanesIn Rl.spare) with
    | some m => joinSpare t k m s
    | none => updResync t (fun _ => {}) s

/-! ### The test slot (R165, R167, R170) -/

/-- SPARE.TEST_LANE: the lane in the test slot. -/
def testSlot (s : State) : State := wrN K.spareTestLane (s.rotation.testQueue.headD 0xFF) s

/-- A lane goes to the test slot, after those that wait. -/
def toTest (n : Nat) (s : State) : State :=
  let s := setRole n Rl.test s
  testSlot (updRot (fun r => { r with testQueue := r.testQueue ++ [n] }) s)

/-- A lane leaves the test slot. -/
def fromTest (n : Nat) (s : State) : State := testSlot (updRot (fun r => { r with testQueue := r.testQueue.filter (· ≠ n) }) s)

/-! ### Failure and rebuild (R163 to R165) -/

/-- R165: free positions of a Trestle in REBUILD take spares, in ascending lane number; where no three lanes can be
found among the spares and the lanes under test, it stays FAILED with NO_LANES. -/
def fillRebuild (t : Nat) (s : State) : State :=
  if s.trState t ≠ Tr.rebuild then s
  else
    let free := [0, 1, 2].filter (fun k => 15 ≤ s.laneAt t k)
    let spares := s.lanesIn Rl.spare
    let s := each (free.zip spares) (fun e s => placeLane e.2 t e.1 (setRole e.2 Rl.joining s)) s
    let short := free.length - spares.length
    only ((s.lanesIn Rl.test).length < short) (fun s => wrN (K.trestleFailCause t) 4 (trTo t Tr.failed s)) s

/-- R164 step 3. -/
def startRebuild (t : Nat) (s : State) : State := fillRebuild t (trTo t Tr.rebuild s)

/-- R164 step 2 and 3. -/
def trSettle (t : Nat) (s : State) : State :=
  if (s.trestlePavs t).any (fun p => pfSafety (s.rdN (K.pavFlags p))) then safeHalt 1 s else startRebuild t s

/-- The spare being joined to Trestle t, if any, returns to SPARE. -/
def dropTarget (t : Nat) (s : State) : State :=
  let n := (s.trestle t).resync.target
  let s := updResync t (fun _ => {}) s
  only (n < 15 && s.role n = Rl.joining) (fun s => setRole n Rl.spare (unplaceLane n s)) s

/-- R163, R164: Trestle t fails; `ks`: the positions concerned. -/
def trFail (t cause : Nat) (ks : List Nat) (s : State) : State :=
  if s.trState t = Tr.failed then s
  else
    let s := if s.rotation.active && s.rotation.trestle = t then abandonRotation s else s
    let s := dropTarget t s
    let ps := (s.trestlePavs t).filter s.pavBusy
    let s := wrN (K.trestleFailCause t) cause s
    let s := raise (Ev.trestleFailed t) (le 1 cause ++ bitMap 1 ks ++ pavMap ps) s
    let s := each ps (fun p => pavFault p 7) s
    let ls := (s.lanesOf t).filter (fun n => s.role n = Rl.service || s.role n = Rl.fenced || s.role n = Rl.paused)
    let s := each ls (fun n s => toTest n (unplaceLane n s)) s
    let s := wrN (K.trestleLaneMap t) 0x00FFFFFF s
    let s := trStatus t 4 false (wrN (K.trestleStatus t) (s.rdN (K.trestleStatus t) / 8 * 8) s)
    let s := updVoter t (fun v => { v with queue := [], released := none }) (trTo t Tr.failed s)
    if s.activeLike && s.pairOp && s.pair.pRole = 2 then
      requestTakeover 0 false (updTrestle t (fun x => { x with takeoverAt := some s.now }) s)
    else trSettle t s

/-! ### Oddness (R153 to R157) -/

/-- R156: position k of a Trestle in TMR is fenced; the copy toward it, or toward a spare, begins. -/
def fence (t k kind : Nat) (e : Egress) (itcm mirror : Bool) (s : State) : State :=
  let n := s.laneAt t k
  let r := s.mismatchRecord kind k n e
  let s := countMismatch n (inc (K.trestleMismatches t) U32.max (wrBlob (K.trestleLastMismatch t) r s))
  let retire := s.overLimit n
  let s := trTo t Tr.duplex (trStatus t k true s)
  let s := updVoter t (fun v => { v with queue := v.queue.filter (fun q => q.1 ≠ k) }) s
  let s := raise (Ev.trestleMismatch t) r s
  let s := if retire then retireLane n 2 (setLaneAt t k 0xFF (unplaceLane n s)) else setRole n Rl.fenced s
  let rot := s.rotation.active && s.rotation.trestle = t
  if rot && (s.trestle t).resync.pos = k then s
  else resyncPos t k itcm mirror (if rot then abandonRotation s else s)

/-- R153 to R157: position k is odd at lane cycle `cyc`. -/
def posOdd (t k kind cyc : Nat) (e : Egress) (itcm mirror : Bool) (s : State) : State :=
  let v := (s.trestle t).voter
  let same := v.oddAt.any (fun o => o.1 = cyc && o.2 ≠ k)
  let s := updVoter t (fun v => { v with oddAt := some (cyc, k) }) s
  if s.trState t = Tr.tmr then fence t k kind e itcm mirror s
  else if s.trState t = Tr.duplex then
    trFail t (if same then 1 else if kind = 3 then 3 else 2) [k] s
  else s

/-! ### The voter (R152, R153, R157) -/

/-- The record position k presents for the present slot, with its cycle. -/
def Voter.front (v : Voter) (k : Nat) : Option (Nat × Bytes) := (v.queue.find? (fun q => q.1 = k)).map (·.2)

/-- The first record of each position is consumed, and the next slot begins. -/
def Voter.pop (v : Voter) (ks : List Nat) : Voter :=
  { v with queue := ks.foldl (fun q k => q.eraseP (fun x => x.1 = k)) v.queue, slot := v.slot + 1, released := none }

/-- The fields of a record as presented: kind, Pavilion, class, address, data. -/
def egressOf (b : Bytes) : Egress := { kind := byteAt b 0, pav := byteAt b 1, cls := byteAt b 2, addr := fieldAt b 3 8 }

/-- R153: slots are settled in ascending order as far as the records presented allow. -/
def vote (t cyc fuel : Nat) (s : State) : State :=
  match fuel with
  | 0 => s
  | fuel + 1 =>
    let v := (s.trestle t).voter
    let ks := s.healthy t
    let here := ks.filterMap (fun k => (v.front k).map (fun f => (k, f.2)))
    let pair := here.find? (fun e => here.any (fun f => f.1 ≠ e.1 && f.2 = e.2))
    let rel := v.released <|> pair.map (·.2)
    let s := updVoter t (fun v => { v with released := rel, out := (rel.getD v.out) }) s
    let odd := here.find? (fun e => rel.any (fun r => e.2 ≠ r))
    if !s.voting t ∨ here = [] then s
    else match rel, odd with
      | some _, some e => vote t cyc fuel (posOdd t e.1 1 cyc (egressOf e.2) false false s)
      | some _, none => if here.length = ks.length then vote t cyc fuel (updVoter t (fun v => v.pop ks) s) else s
      | none, _ =>
        if here.length < ks.length then s
        else trFail t (if s.trState t = Tr.tmr then 1 else 2) ks s

/-! ### Rotation (R166 to R169, R173) -/

/-- R166: lanes that a rotation may displace. -/
def State.rotatable (s : State) : List Nat :=
  ((List.range 4).filter (fun t => s.trState t = Tr.tmr)).flatMap (fun t => (s.lanesOf t).filter (fun n => s.role n = Rl.service))

/-- R166: the lane of an extra rotation that is due. -/
def State.extraLane (s : State) : Option Nat :=
  (s.rotatable.mergeSort (· ≤ ·)).find? (fun n => (s.pl n).extraDue || (s.pl n).retireDue)

/-- R166, R167: a rotation of the victim begins; without a spare, coverage is reduced instead. -/
def rotate (victim : Nat) (extra : Bool) (s : State) : State :=
  match s.oldestTested (s.lanesIn Rl.spare) with
  | none => coverage s
  | some n =>
    let t := s.rdN (K.laneTrestle victim)
    let k := s.rdN (K.lanePosition victim)
    let s := updRot (fun r => { r with active := true, victim := victim, spare := n, trestle := t, extra := extra
                                       retireVictim := (s.pl victim).retireDue, deferred := false }) s
    joinSpare t k n (trStatus t 5 true s)

/-- R166: start a rotation or defer it. `extra`: for a lane with an extra rotation or a manual retirement due. -/
def tryRotate (extra : Bool) (s : State) : State :=
  if s.rotation.active then s
  else
    let why := if !s.on K.spareRotateEnable then 1 else if !s.activeLike then 2 else if s.rotatable = [] then 3 else 0
    if why ≠ 0 then
      if s.rotation.deferred then s
      else raise Ev.rotationDeferred (le 1 why) (inc K.spareDeferred U32.max (updRot (fun r => { r with deferred := true, extra := extra }) s))
    else
      match (if extra then s.extraLane else s.oldestTested (s.rotatable.mergeSort (· ≤ ·))) with
      | some v => rotate v extra s
      | none => updRot (fun r => { r with deferred := false }) s

/-- R165, R170, R174: a lane has become a spare: a Trestle that waits for one takes it. -/
def serveSpares (s : State) : State :=
  let waits (t : Nat) (s : State) : Option Nat :=
    if s.trState t = Tr.duplex && !(s.trestle t).resync.active && 15 ≤ (s.trestle t).resync.target then
      [0, 1, 2].find? (fun k => s.fenced t k && 15 ≤ s.laneAt t k)
    else none
  let s := each (List.range 4) (fun t s => match waits t s with
    | some k => if s.lanesIn Rl.spare = [] then s else resyncPos t k false false s
    | none => s) s
  each (List.range 4) fillRebuild s

end Sys2Proof.Machine
end

