-- ==== Sys2Proof/Machine/GateOps.lean ====
section
/-! DEFINITION. The Gatehouse's operations: resets it orders, the module watchdog, DEBUG_SPLIT's end, power-fail flush,
start-up milestones, wakes and the optical port's frames (R177, R398, R434 to R449, R468 to R471). -/

namespace Sys2Proof.Machine

/-- The Gatehouse runs: logic power is good and no open SEATED# contact holds the module in reset. -/
def State.ghRuns (s : State) : Bool := s.mode ≠ Mode.icehouse && !s.pow.heldReset

/-- R501: a trial runs; any failure of it ends in a reset of cause 8. -/
def trialOr (cause : Nat) (s : State) : Nat := if s.upd.trial then 8 else cause

/-- R435: the module watchdog fails: a module reset with the cause, and two counts since manufacture (R438, R444). -/
def moduleWdtFail (cause : Nat) (s : State) : State :=
  let s := inc K.wearWdtExpiries U32.max (inc K.wdtExpiries U32.max s)
  raise Ev.wearLedger (le 1 8 ++ le 4 (s.rdN K.wearWdtExpiries)) (moduleReset (trialOr cause s) s)

/-- R436, R437: WDT.STATE codes. -/
def Mwdt.disabled : Nat := 0
def Mwdt.running : Nat := 1
def Mwdt.paused : Nat := 2

def raiseWdt (s : State) : State := raise Ev.wdtState (le 1 (s.rdN K.wdtState) ++ le 1 (s.rdN K.wdtLock)) s

/-- R437: LOCK is set. -/
def wdtLock (s : State) : State := raiseWdt (wrN K.wdtLock 1 s)

/-- R178: a Trestle in DEBUG_SPLIT with no Pavilion in HOLD starts the copies to positions 1 and 2. -/
def splitEnd (t : Nat) (s : State) : State :=
  if s.trState t ≠ Tr.debugSplit || (s.trestlePavs t).any (fun p => s.pavState p = Prog.hold) || (s.trestle t).resync.active then s
  else
    let s := each [1, 2] (fun k s => only (s.laneAt t k < 15) (setRole (s.laneAt t k) Rl.joining) s) s
    updResync t (fun r => { r with both := true }) (startCopy t 1 (s.laneAt t 1) false false s)

def splitEndAll (s : State) : State := each (List.range 4) splitEnd s

/-- R430: SERVICE ends. -/
def leaveService (s : State) : State :=
  if s.mode ≠ Mode.service then s
  else
    let s := setMode Mode.active 9 s
    let held := (List.range 256).filter (fun p => s.pavState p = Prog.hold && s.laneOf p < 12 && !s.isSplit (s.laneOf p / 3)
      && (s.trestlePavs (s.laneOf p / 3)).any s.needsSafe)
    splitEndAll (each held (fun p => enterStop p 8) s)

/-- R456, R298: PWR.SEATED bit 2 reports that field outputs are enabled. -/
def seatFollow (s : State) : State :=
  driveAll (wrN K.pwrSeated (setBit (s.rdN K.pwrSeated) 2 (s.fld.mated && s.fld.cfgLoaded)) s)

/-! ### Power fail (R398, R453) -/

/-- R398: a warning starts a flush, unless one runs that has not completed. -/
def flushStart (s : State) : State :=
  if s.pow.flushing && !s.sto.flushed then s
  else wrN K.storPfailState 1 (updSto (fun x => { x with pfailAt := s.now, flushed := false }) (updPow (fun p => { p with flushing := true }) s))

/-- R453: a power-fail warning, 1 PFAIL# or 2 internal, is asserted or released. -/
def powerWarning (src : Nat) (asserted : Bool) (s : State) : State :=
  raise Ev.powerWarning (le 1 src ++ le 1 (if asserted then 1 else 2)) (wrN K.pwrPfail (if asserted then src else 0) s)

/-! ### Start-up (R471) -/

/-- R471: the bound of milestone k in µs, if it has one. -/
def State.milestoneBound (s : State) (k : Nat) : Option Nat :=
  match k with
  | 1 => some 200
  | 2 => some 2000
  | 3 => some 3500
  | 4 => some 8000
  | 5 => some (if s.rdN K.modeLastReset = 9 then 12000 else 50000)
  | 6 => some 240000
  | 7 => some 640000
  | 8 => some 500000
  | 9 => some 700000
  | 10 => some 750000
  | 11 => some (if s.pairOp then 1500000 else 2000000)
  | _ => none

/-- R471: milestone k is reached. -/
def milestone (k : Nat) (s : State) : State :=
  if s.rdN (K.startupMilestone (k - 1)) ≠ U32.max then s
  else
    let t := min (U32.max - 1) ((s.now - s.pow.bootZero) / us)
    let s := wrN (K.startupMilestone (k - 1)) t s
    if (s.milestoneBound k).any (fun b => b < t) then
      raise Ev.startupLate (le 1 k ++ le 4 t) (wrN K.startupLate (setBit (s.rdN K.startupLate) (k - 1) true) s)
    else s

/-- Start-up is in progress: in BOOT, or in a lockout that a failed milestone has caused. -/
def State.starting (s : State) : Bool :=
  !s.pow.heldReset && (s.mode = Mode.boot || s.mode = Mode.safeHalt || s.mode = Mode.alarm) && s.lc ≠ Lc.scrapped

/-- R501: a check of part `part` fails, and the trial ends. -/
def trialFail (part : Nat) (s : State) : State := moduleReset 8 (updUpd (fun u => { u with failedPart := part }) s)

/-- R473, R501: a failed milestone; during a trial it ends the trial. -/
def startupFail (halt part : Nat) (s : State) : State := if s.upd.trial then trialFail part s else safeHalt halt s

/-- R437, R48: a persistent scalar as DICTSTORE holds it, before the dictionary is loaded. -/
def State.stored (s : State) (k : Nat) : Nat :=
  match Tab.get s.store k [] with
  | [] => (dictDefault k).toNat
  | _ :: v => ofLe v

/-! ### Wakes (R469) -/

/-- R468, R469: the wake sources are armed. -/
def State.wakeArmed (s : State) (src : Nat) : Bool :=
  (s.mode = Mode.dormant || s.pow.dormantStep ≠ 0) && bitOf (s.rdN K.wakeSources) src

/-- R469: the first wake recognised resets the module with cause 9. -/
def wakeUp (src arg : Nat) (s : State) : State :=
  let s := inc K.wakeWakes U32.max (wrN K.wakeLastArg arg (wrN K.wakeLastCause (src + 1) s))
  moduleReset 9 s

/-! ### The optical port (R446 to R449) -/

def updOpt (f : Opt → Opt) (s : State) : State := { s with opt := f s.opt }

/-- R446: the bytes between 0xC0 and 0xC1 with escapes undone; none where the framing is wrong. -/
def optUnescape : Bytes → Option Bytes
  | [] => none
  | [x] => if x = 0xC1 then some [] else none
  | x :: y :: r =>
    if x = 0xC0 ∨ x = 0xC1 then none
    else if x = 0x7D then (optUnescape r).map ((y ^^^ 0x20) :: ·)
    else (optUnescape (y :: r)).map (x :: ·)

/-- R446: the bytes of a frame's content as sent. -/
def optEscape (b : Bytes) : Bytes :=
  [0xC0] ++ b.flatMap (fun x => if x = 0xC0 ∨ x = 0xC1 ∨ x = 0x7D then [0x7D, x ^^^ 0x20] else [x]) ++ [0xC1]

/-- R446: the content of a request frame: SEQ, OP and BODY; none where it fails framing or FCS. -/
def optParse (f : Bytes) : Option (Nat × Nat × Bytes) :=
  match f with
  | x :: r =>
    if x ≠ 0xC0 then none
    else match optUnescape r with
      | none => none
      | some c =>
        let n := fieldAt c 4 2
        if c.length = n + 8 ∧ n ≤ 1024 ∧ crc16 0xFFFF (c.take (6 + n)) = fieldAt c (6 + n) 2 then
          some (byteAt c 0, byteAt c 1, slice c 6 n)
        else none
  | [] => none

/-- R446: a response frame. -/
def optResponse (seq op st : Nat) (body : Bytes) : Bytes :=
  let c := le 1 seq ++ le 1 (op + 0x80) ++ le 2 st ++ le 2 body.length ++ body
  optEscape (c ++ le 2 (crc16 0xFFFF c))

/-- R447: a result in segments of at most 1,024 bytes, one frame each. -/
def optSegments (seq op st : Nat) (fuel : Nat) (b : Bytes) : Bytes :=
  match fuel with
  | 0 => []
  | fuel + 1 => optResponse seq op st (b.take 1024) ++ (if b.length ≤ 1024 then [] else optSegments seq op st fuel (b.drop 1024))

/-- R446 to R449: a frame of operation `op` arrives. A discarded frame changes the counts alone; a repeated SEQ gets
the stored response; otherwise `run` answers with a code and a body. -/
def optFrame (op : Nat) (f : Bytes) (run : Bytes → State → Nat × Bytes × State) (s : State) : State :=
  only (s.ghRuns && s.mode ≠ Mode.dormant && (s.lc ≠ Lc.scrapped || op = 1)) (fun s =>
    if s.rdN K.optState = 2 then inc K.optDiscarded U32.max s
    else match optParse f with
      | none => inc K.optDiscarded U32.max s
      | some (seq, o, body) =>
        only (o = op && (s.on K.optEnable || s.lc = Lc.scrapped)) (fun s =>
          let s := inc K.optFramesOk U32.max (updOpt (fun x => { x with lastFrame := s.now }) s)
          if s.opt.lastSeq = some seq then only (s.opt.lastAnswer ≠ []) (send Wire.optical s.opt.lastAnswer) s
          else
            let r := run body s
            let a := optSegments seq op r.1 65 r.2.1
            send Wire.optical a (updOpt (fun x => { x with lastSeq := some seq, lastAnswer := a }) r.2.2)) s) s

/-- The optical session ends. -/
def optEnd (s : State) : State :=
  only s.opt.isOpen (fun s => holderGone .optical <| (if s.rdN K.optState = 1 then wrN K.optState 0 else id) (updOpt (fun x => { x with isOpen := false, role := .viewer }) s)) s

/-- R446: raise EV 0012, which counts as an authentication failure. -/
def optRefused (reason : Nat) (s : State) : State := authFailure (raise Ev.opticalAuthFailed (le 1 reason) s)

end Sys2Proof.Machine
end

