-- ==== Sys2Proof/Machine/StoOps.lean ====
section
/-! DEFINITION. The storage engine's operations: states, spare margin, dies, blocks, intents and partitions (R381 to
R403). -/

namespace Sys2Proof.Machine

/-- R383: STOR.STATE. -/
def Sto.noMedia : Nat := 0
def Sto.mounting : Nat := 1
def Sto.ready : Nat := 2
def Sto.degraded : Nat := 3
def Sto.readOnly : Nat := 4
def Sto.fault : Nat := 5
def Sto.held_ : Nat := 6

def State.stor (s : State) : Nat := s.rdN K.storState

/-- R383: reads and writes are served. -/
def State.stoReads (s : State) : Bool := s.stor = Sto.ready || s.stor = Sto.degraded || s.stor = Sto.readOnly
def State.stoWrites (s : State) : Bool := s.stor = Sto.ready || s.stor = Sto.degraded

/-- R383, R392: the code with which a read of partition k fails, or OK. -/
def State.readCode (s : State) (k : Nat) : Nat :=
  if !s.stoReads then Err.hardware else if s.rdN (K.partState k) = 3 then Err.state else Err.ok
/-- R383, R392: the code with which a write of partition k fails, or OK. -/
def State.writeCode (s : State) (k : Nat) : Nat :=
  if s.stor = Sto.readOnly then Err.storeFull
  else if !s.stoWrites then Err.hardware else if s.rdN (K.partState k) = 3 then Err.state else Err.ok

/-! ### Intents (R401) -/

def storjCount (s : State) : State := wrN K.storjOpen (min 255 s.sto.intents.length) s
/-- An intent record is programmed. -/
def openIntent (op arg : Nat) (s : State) : State :=
  if s.sto.intents.any (fun i => i.op = op && i.arg = arg) then s
  else storjCount (updSto (fun x => { x with intents := x.intents ++ [{ op := op, arg := arg, done := false }] }) s)
/-- A completion record is programmed. -/
def closeIntent (op arg : Nat) (s : State) : State :=
  storjCount (updSto (fun x => { x with intents := x.intents.filter (fun i => !(i.op = op && i.arg = arg)) }) s)
/-- The map commit, or the last move, is recorded. -/
def markIntent (op arg : Nat) (s : State) : State :=
  updSto (fun x => { x with intents := x.intents.map (fun i => if i.op = op ∧ i.arg = arg then { i with done := true } else i) }) s

/-! ### States (R383) -/

/-- R496, R497: staging stops with the first part that is not VERIFIED as FAILED. -/
def stagingFail (s : State) : State :=
  if s.rdN K.updState ≠ 1 then s
  else
    let k := ((List.range 9).find? (fun k => 2 ≤ s.rdN (K.updPartState k) && s.rdN (K.updPartState k) ≤ 4)).getD 0
    raiseSev Ev.updateStaged (le 1 (k + 1) ++ le 1 6) 4 (wrN K.updState 3 (wrN (K.updPartState k) 6 s))

/-- R383: the engine changes state. -/
def storTo (new : Nat) (s : State) : State :=
  let old := s.stor
  if old = new then s
  else
    let bad := new = Sto.degraded || new = Sto.readOnly || new = Sto.fault || new = Sto.noMedia
    let s := raiseSev Ev.storageState (le 1 old ++ le 1 new) (if bad then 4 else 2) (wrN K.storState new s)
    if new = Sto.readOnly ∨ new = Sto.fault then stagingFail s else s

/-- R383: the state the engine's condition calls for, once it has mounted. -/
def State.storWanted (s : State) : Nat :=
  let chans := (List.range 4).filter (fun c => s.rdN (K.nchState c) ≠ 0)
  if chans ≠ [] ∧ chans.all (fun c => s.rdN (K.nchState c) = 2) then Sto.fault
  else if s.rdN K.storMargin = 0 ∨ s.rdN K.storDiesGood < 8 then Sto.readOnly
  else if s.sto.rebuild ≠ [] ∨ s.sto.rebuildFailed then Sto.degraded
  else Sto.ready

/-- The state follows; an engine in NO_MEDIA, MOUNTING, HELD or FAULT stays. -/
def storFollow (s : State) : State :=
  if s.stoReads then storTo s.storWanted s else s

/-! ### Spares, blocks and dies (R386 to R390) -/

/-- R388: the margin follows the spare blocks left; each downward crossing is reported, and the wear ledger. -/
def marginFollow (s : State) : State :=
  let init := s.rdN K.storSpareInitial
  let old := s.rdN K.storMargin
  let new := if init = 0 then old else s.rdN K.storSpareLeft * 1000 / init
  let s := wrN K.wearStorageMargin new (wrN K.storMargin new s)
  let cross (lim sev : Nat) (s : State) : State :=
    only (new ≤ lim && lim < old) (fun s =>
      raise Ev.wearLedger (le 1 7 ++ le 2 new) (raiseSev Ev.spareMargin (le 2 new ++ le 2 lim) sev s)) s
  storFollow (cross 250 5 (cross 500 4 s))

/-- `n` spare blocks are gone. -/
def spareLess (n : Nat) (s : State) : State := marginFollow (wrN K.storSpareLeft (s.rdN K.storSpareLeft - n) s)

def blkKey (die b : Nat) : Nat := die * 2 ^ 24 + b
def State.nblk (s : State) (die b : Nat) : NBlk := Tab.get s.sto.blocks (blkKey die b) {}
def updBlk (die b : Nat) (f : NBlk → NBlk) (s : State) : State :=
  updSto (fun x => { x with blocks := Tab.upd x.blocks (blkKey die b) {} f }) s

/-- Usable blocks of a die (R384). -/
def State.usable (s : State) (d : Nat) : Nat := s.rdN (K.dieBlocks d) - s.rdN (K.dieBadBlocks d)

/-- R384: R is the sum of the usable blocks of the good dies. -/
def rawFollow (s : State) : State :=
  let pages := (s.sto.geometry.map (·.2.2)).getD 0
  let good := (List.range 64).filter (fun d => s.rdN (K.dieState d) = 1)
  wrN K.storDiesGood good.length (wrN K.storRawBytes ((good.map (fun d => s.usable d * pages * s.rdN (K.diePageBytes d))).foldl (· + ·) 0) s)

/-- R386, R387: die d fails, for cause 1 not ready or 2 retirements. -/
def dieFailed (d cause : Nat) (s : State) : State :=
  if s.rdN (K.dieState d) ≠ 1 then s
  else
    let blocks := s.usable d
    let s := rawFollow (wrN (K.dieState d) 2 s)
    let s := raise Ev.dieFailed (le 1 d ++ le 1 cause) s
    let s := openIntent 1 d (updSto (fun x => { x with rebuild := x.rebuild ++ [d] }) s)
    let s := wrN K.storRebuildProgress 0 (spareLess blocks s)
    storFollow s

/-- R389: a block is retired: cause 1 factory marker, 2 status failure, 3 verification. -/
def retireBlock (d b cause : Nat) (s : State) : State :=
  if (s.nblk d b).retired then s
  else
    let s := updBlk d b (fun x => { x with retired := true, valid := false, due := false }) s
    let s := rawFollow (inc K.storBlocksRetired U32.max (inc (K.dieBadBlocks d) U32.max s))
    let s := raise Ev.blockRetired (le 1 d ++ le 2 b ++ le 1 cause) s
    let l := s.now :: (Tab.get s.sto.retiredAt d []).filter (fun t => s.now < t + 86400 * sec)
    let s := spareLess 1 (updSto (fun x => { x with retiredAt := Tab.put x.retiredAt d l [] }) s)
    if 16 ≤ l.length then dieFailed d 2 s else s

/-- PE_MEAN and PE_MAX of a die follow its blocks. -/
def peFollow (d : Nat) (s : State) : State :=
  let es := (s.sto.blocks.filter (fun e => e.1 / 2 ^ 24 = d)).map (fun e => e.2.erases)
  let n := s.rdN (K.dieBlocks d)
  wrN (K.diePeMax d) (es.foldl max 0) (wrN (K.diePeMean d) (if n = 0 then 0 else es.foldl (· + ·) 0 / n) s)

/-- A block is erased. -/
def eraseBlock (d b : Nat) (s : State) : State :=
  peFollow d (updBlk d b (fun x => { x with erases := x.erases + 1, reads := 0, valid := false, due := false }) s)

/-- R390, R401: a relocation of block `b` of die `d` to block `to_`: phase 0 its intent is recorded, 1 the map is
committed, 2 the source block is erased. -/
def relocate (d b to_ phase : Nat) (s : State) : State :=
  if s.sto.intents.any (fun i => i.op = 0 && i.arg = blkKey d b && i.done) then
    only (phase = 2) (fun s => closeIntent 0 (blkKey d b) (eraseBlock d b s)) s
  else
    let s := openIntent 0 (blkKey d b) s
    let commit (s : State) : State :=
      markIntent 0 (blkKey d b) (updBlk d to_ (fun x => { x with valid := true, programmedAt := s.now })
        (updBlk d b (fun x => { x with valid := false }) s))
    if phase = 0 then s
    else if phase = 1 then commit s
    else closeIntent 0 (blkKey d b) (eraseBlock d b (commit s))

/-- R398: no new erase or relocation starts during a flush. -/
def State.mayMove (s : State) : Bool := s.stoWrites && !s.pow.flushing

/-! ### Pavilion stores (R394 to R396) -/

/-- The blocks an extent covers. -/
def extentBlocks (off len : Nat) : List Nat := (List.range (len / 4096)).map (off / 4096 + ·)
def State.blockHeld (s : State) (p b : Nat) : Bool := Tab.get s.sto.held (p * 2 ^ 32 + b) false
def setHeld (p b : Nat) (v : Bool) (s : State) : State :=
  updSto (fun x => { x with held := Tab.put x.held (p * 2 ^ 32 + b) v false }) s

/-- STORE_USED of Pavilion p, and USED of PAVSTORE with the program images. -/
def storeUsage (p : Nat) (s : State) : State :=
  let mine := (s.sto.held.filter (fun e => e.1 / 2 ^ 32 = p)).length * 4096
  let images := (s.pavs.map (fun e => e.2.image.length + e.2.declList.length)).foldl (· + ·) 0
  wrN (K.partUsed 4) (s.sto.held.length * 4096 + images) (wrN (K.quotaStoreUsed p) mine s)

/-- A WRITE, or with no data a TRIM, of an extent takes effect in the journal; what it replaced is kept until it is
programmed in its final place. -/
def storePut (p off len : Nat) (data : Option Bytes) (s : State) : State :=
  let bs := extentBlocks off len
  let undo : Undo := { pav := p, off := off, old := s.bytesAt (Mem.pavstore p) off len
                       added := if data.isSome then bs.filter (fun b => !s.blockHeld p b) else []
                       freed := if data.isSome then [] else bs.filter (s.blockHeld p) }
  let s := updSto (fun x => { x with undo := undo :: x.undo }) s
  let s := match data with
    | some d => store (Mem.pavstore p) off (padTo len d) s
    | none => clearMem (Mem.pavstore p) off len s
  let s := each bs (fun b => setHeld p b data.isSome) s
  let s := only (Tab.get s.sto.incomplete p 0 ≠ 0) (updSto (fun x => { x with newer := bs.foldl (fun t b => Tab.put t (p * 2 ^ 32 + b) true false) x.newer })) s
  let s := wrN K.storJournalUsed (min (s.rdN K.storJournalLimit) (s.rdN K.storJournalUsed + len)) s
  storeUsage p (wrN (K.partWritten 4) (s.rdN (K.partWritten 4) + len) s)

/-- Every change of p's store that stood in the journal is programmed in its final place. -/
def storePlace (p : Nat) (s : State) : State :=
  let s := updSto (fun x => { x with undo := x.undo.filter (·.pav ≠ p) }) s
  if s.sto.undo = [] then wrN K.storJournalUsed 0 s else s

/-- R400: a journal without its commit record is discarded: the stores and persistent values it held are as before. -/
def journalLost (s : State) : State :=
  let n := s.journal.length + s.sto.undo.length
  let s := each s.sto.undo (fun u s =>
    let s := each u.freed (fun b => setHeld u.pav b true) (each u.added (fun b => setHeld u.pav b false) s)
    storeUsage u.pav (store (Mem.pavstore u.pav) u.off u.old s)) s
  updSto (fun x => { x with undo := [], lostRecords := x.lostRecords + n }) { s with journal := [] }

end Sys2Proof.Machine
end

