-- ==== Sys2Proof/Machine/FabricOps.lean ====
section
/-! DEFINITION. Shared SRAM: banks (R25), corrected and uncorrectable errors, row sparing (R29, R30), and what each
master other than a lane may reach (R23, R24). -/

namespace Sys2Proof.Machine

def updFab (f : Fabric → Fabric) (s : State) : State := { s with fabric := f s.fabric }

def sramBase : Nat := 0x0100000000
def inSram (a : Nat) : Bool := sramBase ≤ a && a ≤ 0x010BFFFFFF
def inDram (a : Nat) : Bool := 0x0400000000 ≤ a && a ≤ 0x07FFFFFFFF
/-- R25: bank, and address within the bank. -/
def bankOf (a : Nat) : Nat := (a - sramBase) / 4096 % 64
def bankAddr (a : Nat) : Nat := (a - sramBase) / 262144 * 4096 + (a - sramBase) % 4096
/-- R29: row of a bank-local address. -/
def rowOf (a : Nat) : Nat := bankAddr a / 512

/-- R29: the row is replaced by a spare row of its bank, where one remains. -/
def spareRow (bank row : Nat) (s : State) : State :=
  let used := Tab.get s.fabric.spares bank 0
  if 16 ≤ used then s
  else
    let s := updFab (fun f => { f with spares := Tab.put f.spares bank (used + 1) 0, rowHit := Tab.put f.rowHit (bank * 6144 + row) 0 0 }) s
    raise Ev.sramRowSpared (le 1 bank ++ le 2 row ++ le 4 (15 - used)) s

/-- R29: a single-bit error is corrected, counted and raised; a second one of the row within 24 h spares the row. -/
def sramCorrect (a syn : Nat) (s : State) : State :=
  let bank := bankOf a
  let k := bank * 6144 + rowOf a
  let hit := Tab.get s.fabric.rowHit k 0
  let s := updFab (fun f => { f with corrected := Tab.upd f.corrected bank 0 (satInc U32.max) }) s
  let s := raise Ev.sramCorrected (le 1 bank ++ le 8 (bankAddr a) ++ le 1 syn) s
  if hit ≠ 0 ∧ s.now < hit + 86400 * sec then spareRow bank (rowOf a) s
  else updFab (fun f => { f with rowHit := Tab.put f.rowHit k (s.now + 1) 0 }) s

/-- R30: the word is poisoned. -/
def State.poisoned (s : State) (a : Nat) : Bool := Tab.get s.fabric.poison (a / 8) false

/-- R30: an uncorrectable error at address a, met by account `tag` (256: SYSTEM) in class `cls`. -/
def sramLost (a tag cls : Nat) (s : State) : State :=
  let s := raise Ev.sramUncorrectable (le 1 (bankOf a) ++ le 8 (bankAddr a) ++ le 2 (if tag < 256 then tag else 0xFFFF) ++ le 1 cls) s
  let s := spareRow (bankOf a) (rowOf a) (updFab (fun f => { f with poison := Tab.put f.poison (a / 8) true false }) s)
  if tag < 256 then pavFault tag 6 s else settleFault 4 true s

/-- R30: a store of a whole word clears the mark. -/
def unpoison (a : Nat) (s : State) : State := updFab (fun f => { f with poison := Tab.put f.poison (a / 8) false false }) s

/-- R23, R26: what a master other than a lane may do: rows of R28 from 2 (scan engine) to 11 (wipe engine). -/
def otherMay (master a : Nat) (write : Bool) : Bool :=
  if a ≤ 0x0FFFFF then master = 2 || master = 10
  else if a ≤ 0x1FFFFF then master = 6
  else if inSram a then true
  else if inBase ≤ a && a < outBase then (if write then master = 2 else master = 9)
  else if outBase ≤ a && a < outBase + 0x40000 then !write && master = 2
  else if inDram a then true
  else if 0x1000000000 ≤ a && a ≤ 0x1007FFFFFF then master = 10
  else if 0x1100000000 ≤ a && a ≤ 0x11001FFFFF then decide ((a - 0x1100000000) % 0x40000 < 0x28000) && (master = 5 || master = 10)
  else if 0x1200000000 ≤ a && a ≤ 0x12002FFFFF then master = 10
  else if 0x1300000000 ≤ a && a ≤ 0x13007FFFFF then !write && master = 10
  else 0xFFF0000000 ≤ a && a ≤ 0xFFFFFFFFFF && master = 10

end Sys2Proof.Machine
end

