-- ==== Sys2Proof/Machine/Trestles.lean ====
section
/-! DEFINITION. The commands of spec/05: the voter, lane faults, resynchronisation, rebuild, rotation and tests. -/

namespace Sys2Proof.Machine

/-- R152: lane at position k presents a record at lane cycle `cyc`. A fenced position is ignored; in DEBUG_SPLIT
position 0 is released without a vote (R177). -/
def execVoterRecordArrival (t k kind pav cls addr : Nat) (data : Bytes) (cyc : Nat) (s : State) : Out :=
  let rec_ := le 1 kind ++ le 1 pav ++ le 1 cls ++ le 8 addr ++ data
  .next (only (t < 4 && k < 3 && 1 ≤ kind && kind ≤ 7) (fun s =>
    if s.voting t && !s.fenced t k then
      let s := updVoter t (fun v => { v with queue := v.queue ++ [(k, cyc, rec_)] }) s
      vote t cyc (2 * (s.trestle t).voter.queue.length + 2) s
    else only (s.trState t = Tr.debugSplit && k = 0) (updVoter t (fun v => { v with slot := v.slot + 1, out := rec_ })) s) s)

/-- R153: position k has not presented its record 64 cycles after its expected arrival. -/
def execVoterLagExpiry (t k cyc : Nat) (s : State) : Out :=
  .next (only (t < 4 && k < 3 && s.voting t && !s.fenced t k) (fun s =>
    let v := (s.trestle t).voter
    let first : Option (Nat × Nat × Bytes) := ((s.healthy t).filterMap (fun m => (v.front m).map (fun f => (m, f)))).foldl (fun a e =>
      match a with
      | none => some e
      | some b => if e.2.1 < b.2.1 then some e else some b) none
    match v.front k, first with
    | none, some (m, (c, r)) =>
      -- expected: the first arrival plus 2 × (k − k_first)
      if c + 2 * k + 64 < cyc + 2 * m then
        let s := posOdd t k 2 cyc (egressOf r) false false s
        vote t cyc (2 * v.queue.length + 2) s
      else s
    | _, _ => s) s)

/-- R154: a lane-local fault: part 0 I-TCM, 1 D-TCM, 2 input mirror, 3 register bank, 4 pipeline, 5 clock lock;
6: a corrected error. -/
def laneLocalFault (n part cyc : Nat) (s : State) : State :=
  only (n < 15 && part < 7) (fun s =>
    let t := s.rdN (K.laneTrestle n)
    let k := s.rdN (K.lanePosition n)
    let r := (s.trestle t).resync
    let role := s.role n
    let source := (r.active || r.target < 15) && k = s.leadPos t && part < 4
    if part = 6 then inc (K.laneCorrected n) U32.max s
    else if role = Rl.split then
      -- a SPLIT lane stops at once; its position is kept for its return
      let ps := (s.pavsOn (3 * t + k)).filter s.pavBusy
      let s := raise (Ev.trestleFailed t) (le 1 3 ++ bitMap 1 [k] ++ pavMap ps) s
      let s := each ps (fun p => pavFault p 7) s
      toTest n (setLaneAt t k 0xFF (updPl n (fun x => { x with splitHome := true }) s))
    else if role = Rl.service && s.trState t = Tr.debugSplit then trFail t (if source then 5 else 3) [k] s
    else if role = Rl.service && s.trState t = Tr.duplex && source && !((s.trestle t).voter.oddAt.any (fun o => o.1 = cyc && o.2 ≠ k)) then
      trFail t 5 [k] s
    else if role = Rl.service then posOdd t k 3 cyc {} (part = 0) (part = 2) s
    else if role = Rl.fenced ∧ (s.trestle t).voter.oddAt = some (cyc, k) then
      -- R155: the same position in the same cycle: one mismatch, of kind LANE_FAULT
      let m := s.blobOf (K.trestleLastMismatch t)
      let m := overlay (overlay m 0 (le 1 3)) 3 (le 3 0)
      wrBlob (K.trestleLastMismatch t) (overlay m 8 (le 16 0)) s
    else if (role = Rl.fenced ∨ role = Rl.joining) ∧ (List.range 4).any (fun u => (s.trestle u).resync.target = n) then
      -- R162: a fault of the target
      let u := ((List.range 4).find? (fun u => (s.trestle u).resync.target = n)).getD 0
      let q := (s.trestle u).resync
      let s := countMismatch n s
      if s.overLimit n then
        let was := role = Rl.fenced
        let s := retireLane n 2 (if was then setLaneAt u q.pos 0xFF (unplaceLane n s) else s)
        if s.rotation.active && s.rotation.spare = n then abandonRotation s else resyncPos u q.pos false false s
      else only q.active (startCopy u q.pos n (q.itcm ≠ 0 || part = 0 || role = Rl.joining) (q.mirror ≠ 0 || part = 2 || role = Rl.joining)) s
    else s) s

/-- R154: a lane-local fault. -/
def execLaneLocalFault (n part cyc : Nat) (s : State) : Out := .next (laneLocalFault n part cyc s)

/-- R160: the swap of a rotation, or the end of a resynchronisation. -/
def copyDone (t : Nat) (s : State) : State :=
  let r := (s.trestle t).resync
  let n := r.target
  let k := r.pos
  let old := s.laneAt t k
  let dur := if r.both then s.now - (s.trestle t).splitSince else if s.trState t = Tr.duplex then s.now - (s.trestle t).duplexSince else 0
  let rot := s.rotation.active && s.rotation.trestle = t && s.rotation.spare = n
  let s := inc (K.trestleResyncs t) U32.max (updVoter t (fun v => { v with queue := [], released := none }) (updResync t (fun _ => {}) s))
  let s :=
    if r.both then each ([1, 2].map (s.laneAt t)) (fun m s => only (m < 15) (setRole m Rl.service) s) s
    else setRole n Rl.service (placeLane n t k s)
  let s := if r.both then trStatus t 4 false s else trStatus t k false s
  let s := trTo t Tr.tmr s
  let s := raise (Ev.trestleResynced t) (le 1 k ++ le 1 (if r.both then s.laneAt t 1 else n) ++ le 8 dur) s
  if rot then
    let vict := s.rotation.victim
    let retire := s.rotation.retireVictim
    let s := trStatus t 5 false (inc K.spareRotations U32.max (updRot (fun x => { x with active := false, retireVictim := false }) s))
    let s := raise Ev.laneRotated (le 1 t ++ le 1 k ++ le 1 n ++ le 1 vict) s
    let s := updPl vict (fun x => { x with extraDue := false, retireDue := false }) s
    if s.role vict = Rl.retired then s
    else
      let s := unplaceLane vict s
      if retire then retireLane vict 4 s else toTest vict s
  else if !r.both ∧ old = n then updPl n (fun x => { x with extraDue := true }) s
  else s

/-- R160, R167, R178: at the end of the gap in which the register state was copied. -/
def execResyncComplete (t : Nat) (s : State) : Out :=
  .next (only (t < 4 && (s.trestle t).resync.active && (s.trestle t).resync.regs
      && !((s.trestle t).resync.both && (s.trestlePavs t).any (fun p => s.pavState p = Prog.hold))) (copyDone t) s)

/-- R161: 1,000 ms without a chunk copied. -/
def execResyncStarved (t : Nat) (s : State) : Out :=
  .next (only (t < 4 && s.trState t = Tr.duplex && !bitOf (s.rdN (K.trestleStatus t)) 7
      && s.past (s.trestle t).resync.lastChunk (1000 * ms)) (fun s =>
    let r := (s.trestle t).resync
    let k := (([0, 1, 2].find? (s.fenced t)).getD r.pos)
    raise (Ev.trestleMismatch t) (s.mismatchRecord 4 k (s.laneAt t k) {}) (trStatus t 7 true s)) s)

/-- R164, R433: a takeover requested 50 ms ago has not begun. -/
def execTakeoverWaitExpiry (t : Nat) (s : State) : Out :=
  .next (only (t < 4 && s.activeLike) (fun s =>
    let due := (s.trestle t).takeoverAt.any (fun a => s.past a (50 * ms))
    let s := only due (fun s => trSettle t (updTrestle t (fun x => { x with takeoverAt := none }) s)) s
    match s.pair.reqAt with
    | some (a, halt) => only (s.past a (50 * ms)) (safeHalt halt) s
    | none => s) s)

/-- R165: the TCMs of Trestle t hold each of its programs as at program load; what they held is lost. -/
def reloadTcm (t : Nat) (s : State) : State :=
  let ls := [3 * t, 3 * t + 1, 3 * t + 2]
  let s := each ls (fun l s => clearMem (Mem.tcm l) 0 0x200000 s) s
  each ((s.trestlePavs t).filter (fun p => s.rdN (K.pavLoadState p) = 1 && s.rdN (K.pavCodeBase p) < 0x100000))
    (fun p s => placeCode p (s.pav p).image s) s

/-- R165: three lanes are in place and loaded. -/
def execTrestleRebuildComplete (t : Nat) (s : State) : Out :=
  .next (only (t < 4 && s.trState t = Tr.rebuild && [0, 1, 2].all (fun k => s.laneAt t k < 15)) (fun s =>
    let s := each (s.lanesOf t) (fun n => setRole n Rl.service) (reloadTcm t s)
    let s := updVoter t (fun v => { v with queue := [], released := none, oddAt := none }) (trTo t Tr.tmr s)
    coverage (raise (Ev.trestleRebuilt t) ([0, 1, 2].flatMap (fun k => le 1 (s.laneAt t k))) s)) s)

/-- R166: the interval has elapsed, an extra rotation is due, or a deferred one may start. -/
def execRotationStart (s : State) : Out :=
  let periodic := s.past s.rotation.last (s.rdN K.spareInterval * sec)
  .next (if periodic then tryRotate false (updRot (fun r => { r with last := s.now, deferred := false }) s)
    else if s.rotation.deferred then tryRotate s.rotation.extra s
    else only s.extraLane.isSome (tryRotate true) s)

/-- R166: a write of 1 to SPARE.ROTATE_NOW starts a periodic rotation at once and restarts the interval. -/
def execRotateNow (src : Path) (v : Nat) (s : State) : Out :=
  .next (command1 src K.spareRotateNow v (fun s =>
    accept (tryRotate false (updRot (fun r => { r with last := s.now, deferred := false }) s))) s)

/-- R158, R167: the powered spare has locked; the copy toward it begins, mirror and I-TCM included. -/
def execSpareLaneLocked (n : Nat) (s : State) : Out :=
  .next (only (n < 15 && s.role n = Rl.joining) (fun s =>
    match (List.range 4).find? (fun t => (s.trestle t).resync.target = n && !(s.trestle t).resync.active) with
    | some t => startCopy t (s.trestle t).resync.pos n true true s
    | none => s) s)

/-- R170: the BIST of the lane in the test slot completes. -/
def execLaneBistComplete (n : Nat) (pass : Bool) (part addr : Nat) (s : State) : Out :=
  .next (only (n < 15 && s.rdN K.spareTestLane = n) (fun s =>
    if pass then
      let s := wrN (K.laneLastBist n) (s.tb96 3) (inc (K.laneBistCount n) U32.max s)
      let s := updPl n (fun x => { x with consecFails := 0, lastBistTb4 := s.now }) (fromTest n s)
      if (s.pl n).splitHome then
        let t := s.rdN (K.laneTrestle n)
        let k := s.rdN (K.lanePosition n)
        let l := 3 * t + k
        let s := updPl n (fun x => { x with splitHome := false }) (setLaneAt t k n (setRole n Rl.split s))
        let s := clearMem (Mem.tcm l) 0 0x200000 s
        each ((s.pavsOn l).filter (fun p => s.rdN (K.pavLoadState p) = 1 && s.rdN (K.pavCodeBase p) < 0x100000))
          (fun p s => placeCode p (s.pav p).image s) s
      else serveSpares (setRole n Rl.spare s)
    else
      let s := updPl n (fun x => { x with consecFails := x.consecFails + 1 }) (inc (K.laneBistFails n) U16.max s)
      let s := raise (Ev.laneBistFailed n) (le 1 n ++ le 1 part ++ le 8 addr) s
      if s.rdN K.spareBistLimit ≤ (s.pl n).consecFails then
        serveSpares (retireLane n 1 (unplaceLane n (fromTest n (updPl n (fun x => { x with splitHome := false }) s))))
      else s) s)

/-- R173: OWNER retires a lane. A lane in SERVICE is retired by a rotation with it as victim. -/
def execLaneRetireWrite (src : Path) (n v : Nat) (s : State) : Out :=
  .next (only (n < 15) (command1 src (K.laneRetire n) v (fun s =>
    let r := s.role n
    if r = Rl.service then
      if s.lanesIn Rl.spare = [] then refuse Err.state s
      else
        let s := updPl n (fun x => { x with retireDue := true }) s
        accept (if s.activeLike && s.extraLane = some n then tryRotate true s else s)
    else if r = Rl.spare then accept (retireLane n 4 s)
    else if r = Rl.test then accept (serveSpares (retireLane n 4 (unplaceLane n (fromTest n s))))
    else if r = Rl.retired then accept s
    else refuse Err.state s)) s)

end Sys2Proof.Machine
end

