-- ==== Sys2Proof/Machine/PairOps.lean ====
section
/-! DEFINITION. The pair's operations: checkpoint scope, epochs and their coding, readiness and health, referee frames,
role logic, takeover and the entry to ACTIVE (spec/07). -/

namespace Sys2Proof.Machine

/-- The fastest enabled class of the module, and its period T_f in µs. -/
def State.fastestOn (s : State) : Nat := ([0, 1, 2].find? s.classOn).getD 1
def State.tf (s : State) : Nat := s.rdN (K.scanPeriod s.fastestOn)

/-- R211: pair logic runs: PAIR operation, powered and out of DORMANT. -/
def State.pairRuns (s : State) : Bool := s.pairOp && s.ghRuns && s.mode ≠ Mode.dormant

/-- The partner is heard on the Causeway, in a role. -/
def State.partnerHeard (s : State) : Bool := s.pair.hbAt.isSome && !bitOf (s.rdN K.pairStatus) 0 && s.rdN K.cwState ≠ 0
def State.partnerIs (s : State) (role : Nat) : Bool := s.partnerHeard && s.pair.pRole = role

/-! ### The checkpoint scope (R217) -/

def storeLo : Nat := 0x0108000000
def storeHi : Nat := 0x010BFFFFFF

/-- W regions of every ARMED table. -/
def State.armedW (s : State) : List Region := ((List.range 256).filter s.armed).flatMap (fun p => (s.regions p).filter (·.w))

/-- R217: a region of an ARMED table covers a byte of the store. -/
def State.storeConflict (s : State) : Bool :=
  ((List.range 256).filter s.armed).any (fun p => (s.regions p).any (fun g => g.lo ≤ storeHi && storeLo ≤ g.hi))

/-- R217: the pages of the scope, by their PAGE field. -/
def State.scope (s : State) : List Nat :=
  let w := s.armedW
  let sram := if w = [] then [] else (List.range 32768).filter (fun n =>
    w.any (fun g => g.lo ≤ sramBase + 4096 * n + 4095 && sramBase + 4096 * n ≤ g.hi))
  let lanes := (List.range 12).filter (fun l => (s.pavsOn l).any (fun p => s.rdN (K.pavLoadState p) = 1))
  sram ++ lanes.flatMap (fun l => (List.range 256).map (fun i => 2 ^ 28 + 256 * l + i))
    ++ (List.range 64).map (2 * 2 ^ 28 + ·) ++ (List.range 64).map (3 * 2 ^ 28 + ·) ++ (List.range 56).map (4 * 2 ^ 28 + ·)

/-- Pages of the scope, the 16 of the system record among them. -/
def State.scopePages (s : State) : Nat := s.scope.length + 16
def State.scopeOver (s : State) : Bool := 7680 < s.scopePages

/-- The home of a page: space and address. -/
def pageHome (g : Nat) : Nat × Nat :=
  let n := g % 2 ^ 28
  match g / 2 ^ 28 with
  | 0 => (Mem.fabric, sramBase + 4096 * n)
  | 1 => (Mem.tcm (n / 256), 0x100000 + 4096 * (n % 256))
  | 2 => (Mem.fabric, outBase + 4096 * n)
  | 3 => (Mem.committed, 4096 * n)
  | _ => (Mem.snapshot, 0x8000 + 4096 * n)

def State.pageBytes (s : State) (g : Nat) : Bytes := s.bytesAt (pageHome g).1 (pageHome g).2 4096

/-- R232: a page is copied to its home. -/
def putPage (g : Nat) (b : Bytes) (s : State) : State := store (pageHome g).1 (pageHome g).2 (padTo 4096 b) s

/-! ### Records (R219) -/

def zeroPage : Bytes := List.replicate 4096 0
/-- R219: one record. -/
def epochRecord (ty flags page epoch : Nat) (body : Bytes) : Bytes :=
  let b := le 1 ty ++ le 1 flags ++ le 2 body.length ++ le 4 page ++ le 8 epoch ++ body
  b ++ le 4 (crc32c b)

def recordCrc (r : Bytes) : Bytes := r.drop (r.length - 4)

/-- R219: the body of BEGIN: scan numbers, STEP_SUM, boundaries covered and schema. -/
def beginBody (f : Flight) (schema : Nat) : Bytes :=
  ([0, 1, 2].flatMap (fun x => le 8 (f.scans.getD x 0))) ++ le 8 (unsigned 8 f.stepSum) ++ le 2 f.covered ++ le 4 schema

/-- R237: the 128 debounced DI states and the 32 raw AI values. -/
def State.inputBody (s : State) : Bytes :=
  bitMap 16 ((List.range 128).filter (fun i => s.on (K.diState i))) ++ (List.range 32).flatMap (fun i => le 4 (s.rdN (K.aiRawMa i)))

/-! ### The system record -/

/-- Key, length and bytes of a list of values. -/
def packValues (l : List (Nat × Bytes)) : Bytes := l.flatMap (fun e => le 4 e.1 ++ le 4 e.2.length ++ e.2)
def unpackValues (fuel : Nat) (b : Bytes) : List (Nat × Bytes) :=
  match fuel with
  | 0 => []
  | fuel + 1 =>
    if b.length < 8 then []
    else (fieldAt b 0 4, slice b 8 (fieldAt b 4 4)) :: unpackValues fuel (b.drop (8 + fieldAt b 4 4))

/-- Keys of the counts and totals that travel (R217, R424). -/
def State.travelKeys (s : State) : List Nat :=
  [K.scanOverruns 0, K.scanOverruns 1, K.scanOverruns 2, K.chgResults, K.chgAppliedTotal, K.chgLateTotal]
    ++ ((List.range 128).filter (fun u => s.rdN (K.totTag u) ≠ 0xFFFF)).flatMap
        (fun u => [K.totTotal u, K.totPeriodAcc u, K.totPeriodStart u, K.totEra u])

/-- Overrun and trap counts of a task, and the previous sample of a totaliser, under keys of their own. -/
def State.travelCounts (s : State) : List (Nat × Bytes) :=
  s.scan.tasks.filterMap (fun e => if e.2.overruns = 0 ∧ e.2.trapped = 0 then none
      else some (0xFD000000 + e.1, le 4 e.2.overruns ++ le 4 e.2.trapped ++ le 1 (b2n e.2.prevTrap)))
    ++ s.hist.tots.map (fun e =>
      let p := e.2.prev.getD ([], false, 0)
      (0xFE000000 + e.1, le 1 (b2n e.2.started + 2 * b2n e.2.prev.isSome + 4 * b2n p.2.1) ++ padTo 8 p.1 ++ le 8 (unsigned 8 p.2.2)))

def packChange (c : Change) : Bytes :=
  le 8 c.id ++ le 1 c.tb ++ le 1 (b2n c.imm) ++ le 1 c.cls ++ le 13 c.act ++ padTo 32 c.run ++ padTo 32 c.stop ++ le 8 (unsigned 8 c.lead)
def unpackChange (b : Bytes) : Change :=
  { id := fieldAt b 0 8, tb := byteAt b 8, imm := byteAt b 9 = 1, cls := byteAt b 10, act := fieldAt b 11 13
    run := slice b 24 32, stop := slice b 56 32, lead := signed 8 (fieldAt b 88 8) }

/-- R217: the system record; `final` marks the last epoch of a handover. Its layout is the model's. -/
def State.sysBody (s : State) (final : Bool) : Bytes :=
  let pavs := (List.range 256).flatMap (fun p => le 1 (s.pavState p + 4 * (s.pav p).first))
  let a := packValues (s.travelKeys.map (fun k => (k, s.tableBytes k)) ++ s.travelCounts)
  pavs ++ le 1 (b2n final) ++ le 2 s.scan.changes.length ++ s.scan.changes.flatMap packChange ++ le 4 a.length ++ a ++ packValues s.pair.writes

def sysPav (b : Bytes) (p : Nat) : Nat := byteAt b p
def sysFinal (b : Bytes) : Bool := byteAt b 256 = 1
def sysChanges (b : Bytes) : List Change := (List.range (fieldAt b 257 2)).map (fun i => unpackChange (slice b (259 + 96 * i) 96))
def sysValuesAt (b : Bytes) : Nat := 259 + 96 * fieldAt b 257 2
def sysValues (b : Bytes) : List (Nat × Bytes) := unpackValues b.length (slice b (sysValuesAt b + 4) (fieldAt b (sysValuesAt b) 4))
def sysWrites (b : Bytes) : List (Nat × Bytes) := unpackValues b.length (b.drop (sysValuesAt b + 4 + fieldAt b (sysValuesAt b) 4))

/-! ### Protection, readiness and health (R217, R222, R234, R238, R239) -/

/-- R222: EPOCH_LAG follows; on a STANDBY module by the partner's scan numbers. -/
def lagFollow (s : State) : State :=
  let x := s.fastestOn
  let now_ := if s.mode = Mode.standby then s.pair.pScans.getD x 0 else s.scanNo x
  wrN K.ckptLag (min U16.max (now_ - s.pair.cur.scans.getD x now_)) s

/-- R238: boundaries of the fastest class in 100 ms. -/
def State.lagLimit (s : State) : Nat := 100000 / max 1 s.tf

/-- R238, R239: a logical lane that hosts a loaded Pavilion cannot be formed. -/
def State.lanesShort (s : State) : Bool :=
  (List.range 256).any (fun p => s.rdN (K.pavLoadState p) = 1 && s.trState (s.laneOf p / 3) = Tr.failed && s.laneOf p < 12)

/-- FLAGS of the partner's latest health word. -/
def State.partnerFlags (s : State) : Nat := fieldAt (s.blobOf K.healthPartner) 0 4

/-- R238: the module is READY. -/
def State.ready (s : State) : Bool :=
  s.mode = Mode.standby && s.pairOp && s.pair.joined && !bitOf s.partnerFlags 1 && !bitOf s.partnerFlags 2
    && s.rdN K.ckptLag < s.lagLimit && s.rdN K.ckptTranslation ≠ 3 && !s.lanesShort && s.pair.bistBad = []

/-- R239: FLAGS. -/
def State.healthFlags (s : State) : Nat :=
  let f (i : Nat) (b : Bool) : Nat := if b then 2 ^ i else 0
  f 0 s.ready + f 1 s.scopeOver + f 2 s.storeConflict + f 3 s.lanesShort + f 4 (s.rdN K.cwState ≠ 2)
    + f 5 (s.pair.bistBad ≠ [] || s.healthSafety % 64 ≠ 0) + f 6 (s.rdN K.ckptTranslation = 3) + f 7 (s.rdN K.refState = 1)

/-- R239: the health word. -/
def State.healthWord (s : State) : Bytes :=
  let tested := ((List.range 15).filter (fun n => s.role n ≠ Rl.retired)).map (fun n => (s.pl n).lastBistTb4)
  let old := (s.now - tested.foldl min s.now) / (1000 * ms)
  le 4 s.healthFlags ++ le 4 (min U32.max old) ++ le 1 (s.lanesIn Rl.spare).length ++ le 1 (min 255 (s.rdN K.ckptLag)) ++ le 2 s.healthSafety
    ++ le 4 (min U32.max (s.rdN K.cwBlockErrors + s.rdN K.cwCrcErrors)) ++ le 4 (s.rdN K.healthAgreeFails)
    ++ le 2 (s.rdN K.storMargin) ++ le 2 0 ++ le 8 (s.rdN K.ckptEpoch)

/-- PAIR.STATE, by what the module knows: 1 PROTECTED, 2 UNPROTECTED, 3 PARTNER_ABSENT. -/
def State.protection (s : State) : Nat :=
  if !s.pairOp then 0
  else if !s.partnerHeard then 3
  else if s.mode = Mode.standby then (if s.ready then 1 else 2)
  else if s.scopeOver || s.storeConflict then 2
  else if s.pair.pReady then 1 else 2

/-- R234: blocks whose hold time does not exceed the output gap, in µs, that they must outlast. -/
def State.gapUs (s : State) : Nat := 6000 + 3 * s.tf
def State.shortHolds (s : State) : Nat :=
  ((List.range 56).filter (fun b => s.tHold b ≤ s.gapUs * us)).length + b2n (s.rdN K.rioHold * 1000 ≤ s.gapUs)

/-- PAIR.STATE, scope and HOLD_SHORT follow. -/
def pairFollow (s : State) : State :=
  let s := lagFollow (wrN K.ckptScopePages s.scopePages s)
  let old := s.rdN K.pairState
  let new := s.protection
  let p := le 1 new ++ le 4 s.healthFlags
  let s := if new = old then s
    else (if new = 2 then raiseSev Ev.pairProtection p 4 else if new = 1 then raiseSev Ev.pairProtection p 2 else raise Ev.pairProtection p)
      (wrN K.pairState new s)
  let n := if s.pairOp then s.shortHolds else 0
  let before := s.rdN K.pairHoldShort
  let s := wrN K.pairHoldShort n s
  only (before = 0 && 0 < n) (raise Ev.holdTimerShort (le 4 n ++ le 4 s.gapUs)) s

/-! ### Sending epochs (R221, R222) -/

/-- R244: a page as the receiver's schema has it, where this module translates as `sender` or as receiver. -/
def State.translated (s : State) (sender : Bool) (g : Nat) (b : Bytes) : Bytes :=
  let own := s.rdN K.ckptSchema
  let other := s.rdN K.ckptPartnerSchema
  if sender then (if s.rdN K.ckptTranslation = 2 ∧ other < own then Config.translate own other g b else b)
  else (if s.rdN K.ckptTranslation = 1 ∧ other < own then Config.translate other own g b else b)

/-- The writes of an epoch that will not be current are carried again. -/
def keepWrites (f : Flight) (s : State) : State := updPair (fun p => { p with writes := f.writes ++ p.writes }) s

/-- R221: the open epoch closes: its dirty pages are captured and sent. -/
def closeNow (final : Bool) (s : State) : State :=
  let join := s.pair.joinDue
  let e := s.pair.epoch + 1
  let gs := s.scope.filter (fun g => join || Tab.get s.dirty g false || s.translated true g (s.pageBytes g) ≠ Tab.get s.pair.ref g zeroPage)
  let pages : Sparse Bytes := gs.map (fun g => (g, s.translated true g (s.pageBytes g)))
  let f : Flight := { epoch := e, join := join, sentAt := s.now, pages := pages, covered := s.pair.covered + 1
                      scans := [s.scanNo 0, s.scanNo 1, s.scanNo 2], stepSum := s.rd K.scanStepSum, sys := s.sysBody final
                      writes := s.pair.writes }
  let rs := [epochRecord 1 (b2n join) 0 e (beginBody f (s.rdN K.ckptSchema))]
    ++ pages.map (fun x => epochRecord 2 0 x.1 e (encodePage x.2 (if join then zeroPage else Tab.get s.pair.ref x.1 zeroPage)))
    ++ [epochRecord 3 0 0 e f.sys, epochRecord 6 0 0 e s.pair.frozen]
  let last := epochRecord 4 0 0 e (le 4 pages.length ++ le 4 (crc32c (rs.flatMap recordCrc)))
  let all := rs.flatten ++ last
  let s := { s with dirty := s.dirty.filter (fun d => !gs.contains d.1) }
  let s := updPair (fun p => { p with flight := some { f with bytes := all.length }, epoch := e, covered := 0, writes := [] }) s
  let s := wrN K.ckptLastBytes all.length (wrN K.cwTxBytes (s.rdN K.cwTxBytes + all.length) s)
  send Wire.epoch all s

/-- R221: what a boundary does to epochs: the open one closes, or it covers this boundary as well. -/
def epochClose (s : State) : State :=
  if !s.mirrors || s.pair.noEpochs || s.scopeOver || s.storeConflict then s
  else if s.pair.swapAt.isSome then
    only (s.pair.finalDue && s.pair.flight.isNone) (fun s => closeNow true (updPair (fun p => { p with finalDue := false }) s)) s
  else match s.pair.flight with
    | some f =>
      let s := inc K.ckptCoalesced U32.max (updPair (fun p => { p with covered := p.covered + 1 }) s)
      raise Ev.epochCoalesced (le 4 s.pair.covered ++ le 4 f.bytes) s
    | none => closeNow false s

/-- R243: the swap boundary B_s of a handover is due. -/
def State.swapDue (s : State) (x : Nat) : Bool :=
  s.pairRuns && s.mode = Mode.handover && s.pair.swapAt.isNone && x = s.fastestOn && s.past s.pair.hoAt (5 * ms)

/-- R243: at B_s the final epoch closes, dispatch stops and STATUS shows HANDOVER. -/
def swapNow (s : State) : State :=
  let s := wrN K.paircmdHandoverState 2 (updPair (fun p => { p with swapAt := some s.now, finalDue := true }) s)
  epochClose s

/-- R221: the capture buffer overflows: the epoch in flight is aborted, and the next one covers both. -/
def captureOverflow (s : State) : State :=
  match s.pair.flight with
  | none => s
  | some f =>
    let s := send Wire.epoch (epochRecord 5 0 0 f.epoch []) s
    let s := { s with dirty := f.pages.foldl (fun d x => Tab.put d x.1 true false) s.dirty }
    let s := keepWrites f (updPair (fun p => { p with
      flight := none, finalDue := p.swapAt.isSome, epoch := p.epoch - 1, covered := p.covered + f.covered, owed := p.owed.map (fun o => { o with epoch := min o.epoch f.epoch }) }) s)
    raise Ev.epochAbandoned (le 8 f.epoch ++ le 1 1) (inc K.ckptAbandoned U32.max s)

/-- R222: an epoch is not made current: the next one is a JOIN epoch. -/
def epochLost (f : Flight) (s : State) : State :=
  keepWrites f (updPair (fun p => { p with flight := none, finalDue := p.swapAt.isSome, joinDue := true, covered := p.covered + f.covered }) s)

/-- R39: one answer that waited is given: a command's, a DAP response (R61), an optical response (R448, R449) or an SDO
response (R56). -/
def payOne (o : Owed) (s : State) : State :=
  if o.link = 0 then reply o.code [] s
  else if o.link = Wire.optical then
    let s := if s.opt.lastAnswer = [] then { s with opt := { s.opt with lastAnswer := o.frame } } else s
    if s.rdN K.optState = 2 then s else send Wire.optical o.frame s
  else if 220 ≤ o.link ∧ o.link < 228 then
    let c := o.link - 220
    sysSend c (0x580 + s.rdN (K.canNodeId c)) o.frame none 0 s
  else
    let n := o.link - 1000
    if !(s.session n).isOpen then s
    else send o.link o.frame (updSession n (fun x => { x with
      unanswered := x.unanswered - 1
      stored := x.stored.map (fun e => if e.1 = fieldAt o.frame 4 4 then (e.1, o.frame) else e) }) s)

/-- R39: the answers that waited for epoch `e` are given. -/
def payOwed (e : Nat) (s : State) : State :=
  let due := s.pair.owed.filter (fun o => o.epoch ≤ e)
  let s := updPair (fun p => { p with owed := p.owed.filter (fun o => e < o.epoch) }) s
  each due payOne s

/-- R39: what the answers of one frame have waited for since `n0` waits as one response on a link, or the response is given
at once. -/
def oweFrame (n0 link : Nat) (frame : Bytes) (s : State) : State :=
  match s.pair.owed.drop n0 with
  | [] => s
  | l => updPair (fun p => { p with
      owed := p.owed.take n0 ++ [{ epoch := (l.map (·.epoch)).foldl max 0, code := 0, link := link, frame := frame }] }) s

/-- R39: without a STANDBY partner nothing waits. -/
def dropPartner (s : State) : State :=
  let s := payOwed U64.max s
  updPair (fun p => { p with flight := none, joinDue := true, writes := [], pReady := false }) s

/-! ### Receiving epochs (R222, R39) -/

/-- R504: the schema of the section of entry k differs across the pair. -/
def State.schemaDiffers (s : State) (k : Nat) : Bool :=
  match sectionOf (k % 2 ^ 24 / 256) with
  | some n => bitOf (s.rdN K.updSchemaDiff) n
  | none => false

/-- R39, R504: a carried write of a plain entry, or of LOAD or REGION_ARM of a Pavilion, is applied, unless its section's
schema differs. -/
def applyCarried (k : Nat) (v : Bytes) (s : State) : State :=
  let i := k % 2 ^ 24 / 256
  if s.schemaDiffers k then s
  else if 0xA00000 ≤ k % 2 ^ 24 then
    journalKey k { s with pavVals := Tab.put s.pavVals k v ((s.decl (k / 2 ^ 24) i (k % 256)).map (·.dflt) |>.getD []) }
  else
    let p := i - 0x2800
    let isPav := decide (0x2800 ≤ i ∧ i ≤ 0x28FF)
    if isPav ∧ k = K.pavLoad p then
      let pick (k : Nat) (kept : Bytes) : Bytes := if s.blobOf k = [] then kept else s.blobOf k
      if v = le 1 1 then loadProgram p (pick (K.pavProgram p) (s.pav p).image) (pick (K.pavDeclare p) (s.pav p).declList) s
      else unloadProgram p s
    else if isPav ∧ k = K.pavRegionArm p then
      let s := journalKey k (putBytes k v s)
      if v = le 1 1 then armTable p s else disarmTable p s
    else match dictFind i (k % 256) with
      | some r => if r.acc = .wo ∧ !r.persistent ∧ !DType.isLong r.ty then s else journalKey k (putBytes k v s)
      | none => s

/-! ### Referee frames (R225, R226) -/

/-- R225: a frame on every selected path. -/
def refSend (ty : Nat) (body : Bytes) (s : State) : State :=
  let seq := s.pair.bootCount * 2 ^ 32 + s.pair.txSeq
  let b := le 1 0xA5 ++ le 1 ty ++ le 2 body.length ++ le 8 seq ++ body
  let m := b ++ le 16 (Config.mac (s.blobOf K.refKey) b).toNat
  let paths := s.rdN K.refPaths
  let s := updPair (fun p => { p with
    txSeq := p.txSeq + 1, sent := if ty = 0x12 then p.sent else (seq, s.now) :: p.sent.filter (fun e => s.now ≤ e.2 + 12 * ms) }) s
  let s := only (bitOf paths 0) (send Wire.refLine (m ++ le 4 (crc32c m))) s
  only (bitOf paths 1) (send Wire.refEth (b ++ le 4 (crc32c b))) s

/-- R225: BOOT_READY: start-up is complete but for a grant. -/
def State.bootReady (s : State) : Bool :=
  s.mode = Mode.boot && s.dictReady && s.pow.verified && s.pow.formed && s.pow.wiped && s.pow.seeded && s.rdN K.safetyState ≠ Isl.startup
    && s.stor ≠ Sto.mounting && s.stor ≠ Sto.held_ && !s.upd.trial && !s.pow.heldReset

/-- R225: the body of STATUS and REQUEST. -/
def State.statusBody (s : State) : Bytes :=
  let f (i : Nat) (b : Bool) : Nat := if b then 2 ^ i else 0
  le 4 (s.rdN K.commIdSerial) ++ le 4 (s.rdN K.pairPartnerSerial) ++ le 4 s.pair.held ++ le 1 (s.rdN K.pairRole)
    ++ le 1 (f 0 s.ready + f 1 s.pair.takeoverReq + f 2 s.pair.swapAt.isSome + f 3 (bitOf (s.rdN K.pairStatus) 0) + f 4 s.bootReady
      + f 5 (bitOf (s.rdN K.pairStatus) 2)) ++ le 2 0

def pairStatusBit (i : Nat) (b : Bool) (s : State) : State := wrN K.pairStatus (setBit (s.rdN K.pairStatus) i b) s

/-- A REQUEST becomes due, and is sent at once. -/
def startRequest (cause : Nat) (s : State) : State :=
  refSend 0x11 s.statusBody (updPair (fun p => { p with requesting := true, reqSentAt := s.now, t0 := if p.requesting then p.t0 else s.now, cause := cause }) s)

/-! ### Grants and the role logic (R227) -/

/-- A grant epoch seen from any source; `holder`: who holds it, where the source says so. -/
def seeEpoch (g : Nat) (holder : Option Nat) (s : State) : State :=
  let m := s.rdN K.refGrantEpoch
  if m < g then
    let s := wrN K.refGrantEpoch g s
    match holder with
    | some h => wrN K.refHolder h s
    | none => wrN K.refHolder 0 s
  else if m = g then (match holder with | some h => wrN K.refHolder h s | none => s)
  else s

/-- R227: the module's grant is fresh. -/
def State.grantFresh (s : State) : Bool :=
  s.rdN K.refState = 0 && s.pair.grHolder = s.rdN K.commIdSerial && s.pair.grEpoch = s.rdN K.refGrantEpoch && 0 < s.pair.grEpoch
    && s.pair.grEcho.any (fun t => s.now ≤ t + 12 * ms)

/-- R231: entry to TAKEOVER. -/
def enterTakeover (s : State) : State :=
  let g := s.pair.grEpoch
  -- R355: a base that ran as PARTNER reverts to FREE at its current value, rate and quality
  let s := partnerFree (pairStatusBit 2 false s)
  let s := setMode Mode.takeover 20 (updPair (fun p => { p with held := g, step := 1, requesting := false, cause := if p.cause = 0 then 1 else p.cause }) s)
  let s := updPair (fun p => { p with entryTb := s.tb64 3, swapAt := none, rx := {} }) s
  raise Ev.takeoverStarted (le 1 s.pair.cause ++ le 4 g) (fieldFollow s)

/-- R213: TAKEOVER fails, in step 1 lane power-up or 2 restore. -/
def takeoverFail (step fault : Nat) (s : State) : State :=
  safeHalt 2 (raise Ev.takeoverFailed (le 1 step ++ le 1 fault) (updPair (fun p => { p with step := 0 }) s))

/-- A value of the restored system record takes its place. -/
def restoreValue (k : Nat) (v : Bytes) (s : State) : State :=
  if 0xFE000000 ≤ k then
    let f := byteAt v 0
    updTot (k - 0xFE000000) (fun x => { x with
      started := bitOf f 0, takeover := true, stepFwd := false
      prev := if bitOf f 1 then some (slice v 1 8, bitOf f 2, signed 8 (fieldAt v 9 8)) else none }) s
  else if 0xFD000000 ≤ k then
    let key := k - 0xFD000000
    updTask (key / 3) (key % 3) (fun t => { t with overruns := fieldAt v 0 4, trapped := fieldAt v 4 4, prevTrap := byteAt v 8 = 1 }) s
  else putBytes k v s

/-- R224: the scope is restored from the newest valid checkpoint, or starts zeroed. -/
def warmRestart (s : State) : State :=
  let ok (j : Nat) : Bool :=
    let c := Tab.get s.sto.slots j {}
    c.valid && fieldAt c.head 4 4 = s.rdN K.ckptSchema
  let epoch (j : Nat) : Nat := fieldAt (Tab.get s.sto.slots j {}).head 8 8
  if !s.on K.ckptWarmRestart || s.readCode 1 ≠ Err.ok then s
  else
    let best := if ok 0 ∧ (!ok 1 ∨ epoch 1 ≤ epoch 0) then some 0 else if ok 1 then some 1 else none
    match best with
    | none => s
    | some j =>
      let c := Tab.get s.sto.slots j {}
      let s := each c.pages (fun x => putPage x.1 x.2) s
      let s := each [0, 1, 2] (fun x => wrN (K.scanNumber x) (c.scans.getD x 0)) s
      -- R424: a totaliser resumes from a sample only by takeover
      each ((sysValues c.sys).filter (fun e => e.1 < 0xFE000000)) (fun e => restoreValue e.1 e.2) s

/-- R213, R224: ACTIVE is entered from BOOT. -/
def enterActive (cause : Nat) (s : State) : State :=
  let s := setMode Mode.active cause (warmRestart s)
  -- R397: a later checkpoint has the higher EPOCH
  let s := updPair (fun p => { p with epoch := max p.epoch (max (fieldAt (Tab.get s.sto.slots 0 {}).head 8 8) (fieldAt (Tab.get s.sto.slots 1 {}).head 8 8)) }) s
  let s := lanesUp (engineTo 2 s)
  let s := updScan (fun x => { x with autostart := true, firstOut := true }) s
  milestone 11 (fieldFollow (updPair (fun p => { p with held := if s.pairOp then p.grEpoch else p.held, requesting := false }) s))

/-- R246: the join starts: the partner's dictionary is asked for. -/
def joinStart (s : State) : State :=
  send Wire.control (le 1 5) (updPair (fun p => { p with joined := false, dictReceived := false, joinAt := s.now, rx := {} }) s)

/-- R213, R246: STANDBY is entered from BOOT. -/
def enterStandby (s : State) : State :=
  let s := engineTo 1 (setMode Mode.standby 19 s)
  milestone 11 (pairFollow (joinStart (fieldFollow s)))

/-- R428, R471: the first operating mode. -/
def firstMode (s : State) : State :=
  if !s.bootReady then s
  else if s.alarmStands ∨ s.sourceStands ∨ s.rdN K.keysStoreState = 2 then enterAlarm s
  else if !s.owned then milestone 11 (fieldFollow (setMode Mode.provision 3 s))
  else if !s.pairOp then enterActive 4 s
  else if s.partnerIs 1 then enterStandby s
  else if s.grantFresh then enterActive 18 s
  else s

/-- R213: the module gives up control to the partner's newer epoch. -/
def giveUp (s : State) : State :=
  let ho := decide (s.mode = Mode.handover)
  let reset := s.pair.thenReset
  let s := raise Ev.demoted (le 4 s.pair.held ++ le 4 (s.rdN K.refGrantEpoch)) s
  let s := demote (if ho then 26 else 24) s
  let s := updPair (fun p => { p with joined := ho, dictReceived := ho, swapAt := none, finalDue := false, thenReset := false, owed := [], flight := none, joinDue := true }) s
  let s := syncFollow (if ho then wrN K.paircmdHandoverState 3 s else joinStart s)
  pairFollow (if reset then moduleReset 5 s else s)

/-- R227: the role logic. -/
def roleLogic (s : State) : State :=
  let fresh := s.grantFresh
  let s := only fresh (updPair (fun p => { p with freshAt := some s.now })) s
  if s.mode = Mode.standby then
    if fresh ∧ s.pair.pEpoch < s.pair.grEpoch then
      if s.ready then enterTakeover s
      else if bitOf (s.rdN K.pairStatus) 2 then s
      else raise Ev.grantRefused (le 4 s.healthFlags) (pairStatusBit 2 true s)
    else pairStatusBit 2 false s
  else if s.activeLike ∨ s.mode = Mode.handover then
    if s.pair.held < s.rdN K.refGrantEpoch ∧ s.rdN K.refHolder = s.rdN K.pairPartnerSerial ∧ s.rdN K.pairPartnerSerial ≠ 0 then giveUp s
    else if fresh then pairStatusBit 1 false (updPair (fun p => { p with held := p.grEpoch }) s)
    else pairStatusBit 1 true s
  else if s.mode = Mode.boot ∧ s.pairOp then firstMode s
  else s

/-! ### The end of a takeover (R212, R231, R232, R424) -/

/-- R232: pages, TCMs, register banks, scan numbers and counts are restored. -/
def restoreEpoch (s : State) : State :=
  let c := s.pair.cur
  let s := each (List.range 4) reloadTcm (lanesUp s)
  let s := clearMem Mem.snapshot 0x8000 0x38000 (clearMem Mem.committed 0 0x40000 (clearMem Mem.fabric outBase 0x40000 s))
  let s := clearMem Mem.fabric sramBase 0x8000000 s
  let s := each s.pair.ref (fun x s => putPage x.1 (s.translated false x.1 x.2) s) s
  let s := { s with banks := [], lanes := [] }
  let s := each s.scan.tasks (fun e => updTask (e.1 / 3) (e.1 % 3) (fun t => { ({} : Task) with ends := t.ends })) s
  let s := each [0, 1, 2] (fun x s => wrN (K.scanNumber x) (c.scans.getD x 0 + (s.scanNo x - c.own.getD x (s.scanNo x))) s) s
  let s := wr K.scanStepSum c.stepSum s
  let s := each (sysValues c.sys) (fun e => restoreValue e.1 e.2) s
  let s := wrN K.chgPending (sysChanges c.sys).length (updScan (fun x => { x with changes := sysChanges c.sys }) s)
  canRestore (each (s.pavs.map (·.1)) abortDma s)

/-- R89, but for the engine's state. -/
def State.mayResume (s : State) (p : Nat) : Bool :=
  s.rdN (K.pavLoadState p) = 1 && s.armed p && (s.admission p).1 ≤ 1 && s.laneExists (s.laneOf p)
    && (!s.needsSafe p || s.laneSafe (s.laneOf p))

/-- R85, R212: Pavilion p takes the state recorded in the restored epoch. -/
def resumePav (p rec_ : Nat) (s : State) : State :=
  let st := rec_ % 4
  if st = Prog.stop then s
  else if st = Prog.hold then
    raiseScan p 0x10 (s.fastest p) Prog.stop (wrN (K.pavStopCause p) 9 (updPav p (fun v => { v with stopAt := s.now }) s))
  else if !s.mayResume p then
    raiseScan p 0x10 (s.fastest p) Prog.stop (wrN (K.pavStopCause p) 8 (updPav p (fun v => { v with stopAt := s.now }) s))
  else
    let s := updPav p (fun v => { v with first := rec_ / 4 % 8, wdtS := s.now, lastCommit := s.now, outSafe := false, remoteSafe := false }) s
    wdtFollow p Wdt.running (wrN (kPavState p) Prog.run s)

/-- R231, R243: the first boundary after the restore: the module is ACTIVE. -/
def takeoverDone (s : State) : State :=
  let c := s.pair.cur
  let x := s.fastestOn
  let cause := s.pair.cause
  let s := engineTo 2 (setMode Mode.active 22 s)
  let s := each (List.range 256) (fun p => resumePav p (sysPav c.sys p)) s
  -- R373
  let s := each (List.range 8) (fun c s => each ((List.range 16).filter (fun q => s.queueOwner c q < 256)) (doorbell c) s) s
  let rec_ := le 8 s.pair.entryTb ++ le 4 (min U32.max ((s.now - s.pair.t0) / us)) ++ le 4 s.pair.held ++ le 8 c.epoch
    ++ le 2 (min U16.max (s.scanNo x - c.scans.getD x 0)) ++ le 1 cause ++ le 5 0
  let s := inc K.pairTakeovers U32.max (wrBlob K.pairLastTakeover rec_ s)
  let s := raise Ev.takeoverDone rec_ s
  let s := only (cause = 3) (raise Ev.handoverDone (le 4 (s.rdN K.commIdSerial) ++ le 4 s.pair.held)) s
  let s := updPair (fun p => { p with step := 0, cause := 0, joinDue := cause ≠ 3, flight := none, prepared := false, epoch := c.epoch, noEpochs := false
                                      requesting := false }) s
  let s := updScan (fun x => { x with firstOut := true }) s
  fieldFollow (pairFollow s)

/-! ### NAND checkpoints (R223, R397) -/

/-- R397: the slot that does not hold the newer valid checkpoint. -/
def State.freeSlot (s : State) : Nat :=
  let a := Tab.get s.sto.slots 0 {}
  let b := Tab.get s.sto.slots 1 {}
  if !a.valid then 0 else if !b.valid then 1 else if fieldAt a.head 8 8 < fieldAt b.head 8 8 then 0 else 1

/-- R397: the header of a checkpoint. -/
def ckHeader (schema epoch tb len : Nat) : Bytes :=
  let b := le 4 0x434B5054 ++ le 4 schema ++ le 8 epoch ++ le 12 tb ++ le 4 len ++ le 28 0
  b ++ le 4 (crc32c b)

end Sys2Proof.Machine
end

