-- ==== Sys2Proof/Machine/RouterOps.lean ====
section
/-! DEFINITION. The event router: taking a pending event, and its delivery to every destination (R31 to R36). -/

namespace Sys2Proof.Machine

def updRouter (f : Router → Router) (s : State) : State := { s with router := f s.router }

/-- R32: the FABRIC cycle (1.25 ns) of a time. -/
def fabCycle (t : Nat) : Nat := t * 4 / 5

/-- R32: the event taken next: the earliest arrival, the lowest number among those of one FABRIC cycle. -/
def State.nextEvent (s : State) : Option Nat :=
  s.router.order.foldl (fun best n =>
    let c := fabCycle (Tab.get s.router.pend n {}).at_
    match best with
    | none => some n
    | some m =>
      let d := fabCycle (Tab.get s.router.pend m {}).at_
      if c < d ∨ (c = d ∧ n < m) then some n else best) none

/-- R405: the payload of an EVENT record, cut to 4,076 bytes, with the occurrence count. -/
def eventPayload (b : Bytes) (count : Nat) : Bytes := b.take 4076 ++ le 4 (min U32.max count)
def eventFlags (b : Bytes) : Nat := if 4076 < b.length then 8 else 0

/-- R33: the record goes to the ring unless RATE_CAP of the window is used up; then its occurrences are held. -/
def toRing (n sev seq : Nat) (b : Bytes) (count : Nat) (s : State) : State :=
  let cap := bits (s.evCfg n) 31 24
  let w := Tab.get s.router.window n 0
  let held := Tab.get s.router.held n 0
  if cap ≠ 0 ∧ cap ≤ w then updRouter (fun r => { r with held := Tab.put r.held n (min U32.max (held + count)) 0 }) s
  else
    let s := updRouter (fun r => { r with window := Tab.put r.window n (w + 1) 0, held := Tab.put r.held n 0 0 }) s
    recPut (s.newRec Ty.event n sev (eventFlags b) seq (eventPayload b (held + count))) s

/-- R36: an entry arrives at the channel of Pavilion p; at a full channel it is discarded and OVERFLOW is set. -/
def toChannel (p : Nat) (e : RecEnt) (s : State) : State :=
  updRouter (fun r => { r with chan := Tab.upd r.chan p {} (fun c =>
    if 63 ≤ c.entries.length then { c with overflow := true }
    else { c with entries := c.entries ++ [{ header := e.header, payload := padTo 40 e.payload, seq := e.seq }] }) }) s

/-- R35, R62: session x may read an event of this owner. -/
def mayPush (x : Session) (owner : Option Nat) : Bool :=
  match owner with
  | none => true
  | some p => x.scope = some p || (x.scope = none && 2 ≤ rank x.role)

/-- R62: the event is queued for every session that subscribes to it and may read it. -/
def toSessions (n : Nat) (owner : Option Nat) (e : RecEnt) (s : State) : State :=
  { s with sessions := s.sessions.map (fun x =>
      if x.2.isOpen && x.2.ranges.any (fun r => r.1 ≤ n && n ≤ r.2) && mayPush x.2 owner then
        let q := x.2.pushes ++ [e.header ++ e.payload.take 1024]
        (x.1, if 64 < q.length then { x.2 with pushes := q.drop 1, dropped := x.2.dropped + 1 } else { x.2 with pushes := q })
      else x) }

/-- R58: the event is sent as an EMCY frame on each enabled controller. -/
def toEmcy (n sev seq : Nat) (s : State) : State :=
  let s := emcySend (fun c => le 2 (0xFF00 + sev) ++ le 1 (s.errorReg c) ++ le 2 n ++ le 3 seq) s
  each ((List.range 8).filter (fun c => s.rdN (K.canNodeId c) ≠ 0 && !bitOf (s.emcyCob c) 31)) (fun c => errorField c (0xFF00 + sev)) s

/-- R31 to R33, R529: event n is taken and delivered to each destination its configuration names. -/
def takeEvent (n : Nat) (s : State) : State :=
  let x := Tab.get s.router.pend n {}
  let s := updRouter (fun r => { r with order := r.order.filter (· ≠ n) }) s
  let cfg := s.evCfg n
  if !bitOf cfg 8 then s
  else
    let s := updRouter (fun r => { r with pend := Tab.put r.pend n {} {} }) s
    let sev := if Tab.get s.router.sevSet n false then bits cfg 18 16 else x.sev.getD (bits cfg 18 16)
    let q := takeSeq s
    let s := q.2
    let e := s.newRec Ty.event n sev (eventFlags x.payload) q.1 (eventPayload x.payload x.count)
    let s := only (bitOf cfg 7) (updRouter (fun r => { r with latched := Tab.put r.latched n true false })) s
    let s := only (bitOf cfg 0) (toRing n sev q.1 x.payload x.count) s
    let s := match x.owner with
      | some p => only (bitOf cfg 2) (toChannel p e) s
      | none => s
    let s := only (bitOf cfg 3) (toEmcy n sev q.1) s
    let s := only (bitOf cfg 4) (toSessions n x.owner e) s
    let s := only (bitOf cfg 5 && s.pairOp && s.partnerHeard) (send Wire.event e.bytes) s
    emcyFollow s

/-- R33: the present second of TB4. -/
def State.tb4Sec (s : State) : Nat := s.tbNs 4 / 1000000000

/-- R33: a new RATE_CAP window begins at each whole second of TB4. -/
def newWindow (s : State) : State := updRouter (fun r => { r with window := [], winAt := s.tb4Sec }) s

/-- R529, R34: what a write to the configuration of event n is refused with. -/
def eventCfgRule (n v : Nat) : Nat :=
  if ((512 ≤ n && n ≤ 575) || (1216 ≤ n && n ≤ 1279)) && !(bitOf v 0 && bitOf v 1 && bitOf v 8) then Err.value else Err.ok

/-- R33, R529: the configuration is written; a change of SEVERITY ends the case rule. A pending event whose ENABLE
becomes 0 waits, counted (R31). -/
def eventCfgEffect (n v : Nat) (s : State) : Nat × State :=
  let e := eventCfgRule n v
  if e ≠ Err.ok then (e, s)
  else
    let old := s.evCfg n
    let r := writeEntry (K.evConfig n) (le 4 v) s
    if r.1 ≠ Err.ok then r
    else (Err.ok, updRouter (fun x => { x with
      sevSet := if bits old 18 16 ≠ bits v 18 16 then Tab.put x.sevSet n true false else x.sevSet
      order := if bitOf v 8 then x.order else x.order.filter (· ≠ n) }) r.2)

/-- R406: an event that the partner forwarded is recorded with FROM_PARTNER, with the partner's TIME, SEVERITY and payload,
and a SEQ of this module. -/
def fromPartner (f : Bytes) (s : State) : State :=
  let len := fieldAt f 0 2
  let ok := fieldAt f 2 2 = Ty.event && decide (28 + len ≤ f.length) && fieldAt f (24 + len) 4 = crc32c (f.take (24 + len))
  only (ok && s.pairOp) (fun s =>
    let q := takeSeq s
    recPut { ty := Ty.event, event := fieldAt f 4 2, flags := setBit (byteAt f 6) 0 true, sev := byteAt f 7, time := fieldAt f 8 8
             seq := q.1, payload := slice f 24 len } q.2) s

end Sys2Proof.Machine
end

