-- ==== Sys2Proof/Machine/DictRules.lean ====
section
/-! DEFINITION. R45 step 7: the entries' own rules. A rule looks at the set of values that the write would leave, so that
the items of one WRITE_ATOMIC are judged together. -/

namespace Sys2Proof.Machine

/-! ### Points and areas (R282) -/

/-- A point word names an area, 0 for a single point, of this many bytes; input or output image; and the class rule that
binds it: 0 none (one class, R314), 1 the Class B partition outside every Class C range (R100, R302), 2 no class rule. -/
structure Place where
  word : Nat
  bytes : Nat
  out : Bool
  rule : Nat
  deriving DecidableEq, Repr

/-- The point or area that a point-word entry places. -/
def State.placeOf (s : State) (k : Nat) : Option Place :=
  let i := k / 256
  let j := k % 256
  let pl (bytes : Nat) (out : Bool) (rule : Nat) : Option Place := some { word := s.rdN k, bytes := bytes, out := out, rule := rule }
  if 0x4000 ≤ i ∧ i < 0x4080 ∧ j = 1 then pl 0 false 2
  else if 0x4000 ≤ i ∧ i < 0x4080 ∧ j = 5 then pl 16 false 2
  else if 0x4080 ≤ i ∧ i < 0x40E0 ∧ j = 1 then pl 0 true 2
  else if 0x40E0 ≤ i ∧ i < 0x40E8 ∧ j = 4 then pl 8 false 2
  else if 0x4200 ≤ i ∧ i < 0x4220 ∧ j = 6 then pl (up8 (8 + s.rdN (K.iolInLen (i - 0x4200)))) false 1
  else if 0x4200 ≤ i ∧ i < 0x4220 ∧ j = 7 then pl (up8 (s.rdN (K.iolOutLen (i - 0x4200)))) true 1
  else if 0x4310 ≤ i ∧ i < 0x4330 ∧ j = 1 then pl 16 false 0
  else if 0x4330 ≤ i ∧ i < 0x4340 ∧ j = 1 then pl 8 true 0
  else if 0x4330 ≤ i ∧ i < 0x4340 ∧ j = 2 then pl 8 false 0
  else if 0x4340 ≤ i ∧ i < 0x4370 ∧ j = 5 then pl 32 false 0
  else if 0x4C00 ≤ i ∧ i < 0x4C80 ∧ i % 16 = 0 ∧ j = 9 then pl 32 false 2
  else if 0x4C00 ≤ i ∧ i < 0x4C80 ∧ (i % 16 = 4 ∨ i % 16 = 5) ∧ 1 ≤ j ∧ j ≤ 64 then
    some { word := bits (s.rdN k) 31 0
           bytes := s.pdoBytes ((if i % 16 = 4 then 0x1600 else 0x1A00) + 64 * ((i - 0x4C00) / 16) + j - 1)
           out := i % 16 = 5, rule := 1 }
  else none

/-- The bits a valid place takes: its first bit and their number. -/
def Place.span (p : Place) : Nat × Nat := if p.bytes = 0 then (8 * ptOff p.word + ptBit p.word, 1) else (8 * ptOff p.word, 8 * p.bytes)
/-- R282: the reserved bits, and the form of an area's word. -/
def Place.formed (p : Place) : Bool :=
  bits p.word 30 21 = 0 && (p.bytes = 0 || (ptBit p.word = 0 && ptOff p.word % 8 = 0))
    && (!ptValid p.word || p.span.1 + p.span.2 ≤ 8 * 0x40000)
def spansMeet (a b : Nat × Nat) : Bool := a.1 < b.1 + b.2 && b.1 < a.1 + a.2

/-- R100, R302, R314: the class rule of a valid place. -/
def State.placeClass (s : State) (p : Place) : Bool :=
  let lo := ptOff p.word
  let hi := lo + p.bytes - 1
  let cls (off : Nat) : Nat := if p.out then s.outClass off else inClass off
  if !ptValid p.word || p.rule = 2 || p.bytes = 0 then true
  else if p.rule = 1 then (List.range ((p.bytes + 7) / 8)).all (fun w => cls (lo + 8 * w) = 1)
  else cls lo = cls hi && (List.range ((p.bytes + 7) / 8)).all (fun w => cls (lo + 8 * w) = cls lo)

/-- Every place that is in use, by its entry; keys whose value is a default are no places. -/
def State.places (s : State) : List (Nat × Place) :=
  s.dict.filterMap (fun e => (s.placeOf e.1).bind (fun p => if ptValid p.word then some (e.1, p) else none))

/-- The areas of the stations and of the island's status block. -/
def State.fixedSpans (s : State) (out : Bool) : List (Nat × Nat) :=
  (s.statusArea.filter (fun a => a.out == out)).map (fun a => (a.first, a.len))
    ++ s.stations.flatMap (fun st =>
      let r := s.station st
      let n := if out then Sta.outLen r else Sta.inLen r
      if n = 0 then [] else [(8 * (if out then Sta.outOff r else Sta.inOff r), 8 * n)])

/-- R282: the place of entry k keeps every rule in the set `s`. -/
def State.placeOk (s : State) (k : Nat) : Bool :=
  match s.placeOf k with
  | none => true
  | some p =>
    p.formed && (!ptValid p.word || (s.placeClass p
      && s.places.all (fun e => e.1 = k || !(e.2.out == p.out) || !spansMeet e.2.span p.span)
      && (s.fixedSpans p.out).all (fun a => !spansMeet a p.span)))

/-! ### Sets -/

/-- R64: the class set. -/
def State.classSetOk (s : State) : Bool :=
  let t (x : Nat) : Nat := s.rdN (K.scanPeriod x)
  250 ≤ t 0 && t 0 ≤ 2000 && 2000 ≤ t 1 && t 1 ≤ 1000000 && 100000 ≤ t 2 && t 2 ≤ 60000000
    && (!s.classOn 0 || t 1 % t 0 = 0) && t 2 % t 1 = 0 && (!s.classOn 2 || s.classOn 1)
    && ([0, 1, 2] : List Nat).all (fun x => s.rdN (K.scanSampleAt x) < s.rdN (K.scanCommitAt x) && s.rdN (K.scanCommitAt x) + 1 ≤ t x)

/-- R71: the Class C ranges. -/
def State.outrangesOk (s : State) : Bool :=
  let r (j : Nat) : Nat := s.rdN (K.scanOutrange j)
  let on (j : Nat) : Bool := bitOf (r j) 31
  (List.range 64).all (fun j => !bitOf (r j) 15
    && (!on j || (4096 ≤ bits (r j) 30 16 && bits (r j) 30 16 ≤ bits (r j) 14 0)))
    && (List.range 64).all (fun j => (List.range j).all (fun i => !(on i && on j)
      || bits (r i) 14 0 < bits (r j) 30 16 || bits (r j) 14 0 < bits (r i) 30 16))

/-- R94: the station table. -/
def State.stationsOk (s : State) : Bool :=
  let l := s.stations
  l.all (fun st =>
    let r := s.station st
    let lo := if Sta.cls r = 0 then 0 else 0x8000
    let hi := if Sta.cls r = 0 then 0x8000 else 0x40000
    let x := Sta.cls r
    bits (byteAt r 0) 7 2 = 0 && fieldAt r 2 2 = 0 && fieldAt r 24 8 = 0
      && Sta.inOff r % 8 = 0 && Sta.outOff r % 8 = 0 && Sta.inLen r % 8 = 0 && Sta.outLen r % 8 = 0
      && Sta.inLen r ≤ 1400 && Sta.outLen r ≤ 1400
      && (Sta.inLen r = 0 || (lo ≤ Sta.inOff r && Sta.inOff r + Sta.inLen r ≤ hi))
      && (Sta.outLen r = 0 || (lo ≤ Sta.outOff r && Sta.outOff r + Sta.outLen r ≤ hi))
      && (x = 0 || (List.range (Sta.outLen r / 8)).all (fun w => !s.inCRange (Sta.outOff r / 8 + w)))
      && decide (((s.rdN (K.scanSampleAt x) : Int) + 2) * 1000 < s.buildAt st)
      && s.stationStreamsOk st)
    && l.all (fun a => l.all (fun b => b ≤ a
      || (!spansMeet (Sta.inOff (s.station a), Sta.inLen (s.station a)) (Sta.inOff (s.station b), Sta.inLen (s.station b))
        && !spansMeet (Sta.outOff (s.station a), Sta.outLen (s.station a)) (Sta.outOff (s.station b), Sta.outLen (s.station b)))))

/-- R359: the bit timing of controller c. -/
def State.timingOk (s : State) (c : Nat) : Bool :=
  let g (k : Nat → Nat) : Nat := s.rdN (k c)
  let nom := g K.canbtNBrp * (1 + g K.canbtNTseg1 + g K.canbtNTseg2)
  let dat := g K.canbtDBrp * (1 + g K.canbtDTseg1 + g K.canbtDTseg2)
  80000000 ≤ 1000000 * nom && dat ≤ nom && 80000000 ≤ 8000000 * dat
    && g K.canbtNSjw ≤ g K.canbtNTseg2 && g K.canbtDSjw ≤ g K.canbtDTseg2
    && (!s.on (K.canbtTriple c) || (80000000 ≤ 125000 * nom && !s.on (K.canbtFdEnable c)))

/-- Bits of a CiA 301 dummy entry: BOOLEAN, INTEGER8, 16, 32, UNSIGNED8, 16, 32. -/
def dummyBits (i : Nat) : Nat := ([0, 1, 8, 16, 32, 8, 16, 32] : List Nat).getD i 0

/-- R377: the mapping of PDO m (64 c + n), received or transmitted, and the place of its area. -/
def State.pdoOk (s : State) (rx : Bool) (m : Nat) : Bool :=
  let c := m / 64
  let es := ((List.range 64).map (fun j => s.rdN (if rx then K.commRpdoMap m j else K.commTpdoMap m j))).filter (· ≠ 0)
  es.all (fun e =>
      (bits e 31 16 = 0x4C0F + 16 * c && bits e 15 8 = 0 && 1 ≤ bits e 7 0 && bits e 7 0 ≤ 64)
        || (rx && 1 ≤ bits e 31 16 && bits e 31 16 ≤ 7 && bits e 7 0 = dummyBits (bits e 31 16)))
    && (es.map (fun e => bits e 7 0)).foldl (· + ·) 0 ≤ (if s.on (K.canPdoFd c) then 512 else 64)
    && s.placeOk (if rx then K.canrpdoArea c (m % 64) else K.cantpdoArea c (m % 64))

/-- R394: the quotas and images fit into PAVSTORE. -/
def State.quotasOk (s : State) : Bool :=
  ((List.range 256).map (fun p => s.rdN (K.quotaStore p) + (s.pav p).image.length)).foldl (· + ·) 0 ≤ s.rdN (K.partSize 4) * 67108864

/-- R306, R309: the trigger and scan settings of converter a. -/
def State.adcOk (s : State) (a : Nat) : Bool :=
  let ch (i : Nat) : Bool := bitOf (s.rdN (K.adcMask a)) i
  let n := if s.rdN (K.adcMode a) = 0 then 1 else ((List.range 13).filter ch).length
  (s.rdN (K.adcMode a) = 0 || s.rdN (K.adcMask a) ≠ 0)
    && (s.rdN (K.adcTrigger a) ≠ 1 || 2 * (n + 1) ≤ s.rdN (K.adcPeriod a))

/-! ### Owners (R191) -/

/-- R191: an owner field moves from `old` to `new`. -/
def State.ownerMove (s : State) (old new : Nat) : Nat :=
  if new ≠ 0xFFFF ∧ 256 ≤ new then Err.value
  else if old = new then Err.ok
  else if new < 256 ∧ old < 256 then Err.value
  else if (new < 256 && s.pavBusy new) || (old < 256 && s.pavBusy old) then Err.state
  else Err.ok

/-- The owner a record of a table names; a record that is not enabled names none. -/
def recOwner (on : Bool) (o : Nat) : Nat := if on then o else 0xFFFF

/-- The first refusal of a list of codes. -/
def firstBad : List Nat → Nat
  | [] => Err.ok
  | c :: r => if c = Err.ok then firstBad r else c

/-- R191, R364, R368, R377: the owners that a write of entry k moves; `s` before it, `t` after it. -/
def State.ownersCode (s t : State) (k : Nat) : Nat :=
  let i := k / 256
  let j := k % 256
  let c := (i - 0x4C00) / 16
  let can := decide (0x4C00 ≤ i ∧ i < 0x4C80)
  if (0x4000 ≤ i ∧ i < 0x4080 ∧ j = 6) ∨ (0x4080 ≤ i ∧ i < 0x40E0 ∧ j = 4) ∨ (0x40E0 ≤ i ∧ i < 0x40E8 ∧ j = 5)
      ∨ (0x4200 ≤ i ∧ i < 0x4220 ∧ j = 2) ∨ (0x4310 ≤ i ∧ i < 0x4330 ∧ j = 2) ∨ (0x4330 ≤ i ∧ i < 0x4340 ∧ j = 3)
      ∨ (0x4340 ≤ i ∧ i < 0x4370 ∧ j = 4) ∨ (can ∧ i % 16 = 0 ∧ j = 0x0A) then s.ownerRule k (t.rdN k)
  else if can ∧ (i % 16 = 4 ∨ i % 16 = 5) then s.ownerMove (bits (s.rdN k) 47 32) (bits (t.rdN k) 47 32)
  else if can ∧ i % 16 = 3 ∧ 1 ≤ j ∧ j ≤ 16 then s.ownerMove (bits (s.rdN k) 63 48) (bits (t.rdN k) 63 48)
  else if can ∧ i % 16 = 2 then
    firstBad ((List.range 256).map (fun n =>
      let a := s.objRec c (256 * (j - 1) + n)
      let b := t.objRec c (256 * (j - 1) + n)
      let x := recOwner (Ob.enabled a) (Ob.owner a)
      let y := recOwner (Ob.enabled b) (Ob.owner b)
      let moved := s.ownerMove x y
      if moved ≠ Err.ok then moved
      else if fieldAt a 0 4 ≠ fieldAt b 0 4 && ((x < 256 && s.pavBusy x) || (y < 256 && s.pavBusy y)) then Err.state
      else Err.ok))
  else if i = 0x4840 then
    firstBad ((List.range 256).map (fun n =>
      let a := s.streamRec (256 * (j - 1) + n)
      let b := t.streamRec (256 * (j - 1) + n)
      s.ownerMove (recOwner (St.enabled a) (St.owner a)) (recOwner (St.enabled b) (St.owner b))))
  else Err.ok

/-! ### States in which an entry cannot be written -/

/-- Some Pavilion is in RUN or HOLD. -/
def State.anyBusy (s : State) : Bool := (List.range 256).any s.pavBusy

/-- The entry's own rule refuses the write with STATE_ERROR. -/
def State.stateBars (s : State) (k : Nat) : Bool :=
  let i := k / 256
  let j := k % 256
  let c := (i - 0x4C00) / 16
  if k = K.scanPhase ∨ (0x2610 ≤ i ∧ i ≤ 0x2612) ∨ i = 0x2614 then s.anyBusy
  else if 0x2800 ≤ i ∧ i ≤ 0x28FF then ((1 ≤ j && j ≤ 0x1A) || j = 0x20 || j = 0x2D) && s.pavBusy (i - 0x2800)
  else if 0x4000 ≤ i ∧ i < 0x4080 then (j = 1 || j = 5) && s.ownerBusy (K.diOwner (i - 0x4000))
  else if 0x4080 ≤ i ∧ i < 0x40E0 then (j = 1 || j = 2 || j = 3) && s.ownerBusy (K.doOwner (i - 0x4080))
  else if 0x40E0 ≤ i ∧ i < 0x40E8 then j = 4 && s.ownerBusy (K.fsupDiagOwner (i - 0x40E0))
  else if 0x4200 ≤ i ∧ i < 0x4220 then (j = 6 || j = 7 || j = 8 || j = 9 || j = 0x0B) && s.ownerBusy (K.iolOwner (i - 0x4200))
  else if 0x4310 ≤ i ∧ i < 0x4330 then (j = 1 || j = 3) && s.ownerBusy (K.aiOwner (i - 0x4310))
  else if 0x4330 ≤ i ∧ i < 0x4340 then (j = 1 || j = 2) && s.ownerBusy (K.aoOwner (i - 0x4330))
  else if 0x4340 ≤ i ∧ i < 0x4370 then j = 5 && s.ownerBusy (K.hartOwner (i - 0x4340))
  else if 0x4900 ≤ i ∧ i < 0x4908 ∧ j = 3 then s.rdN (K.tbSource (i - 0x4900)) = 1 || s.runningAs (i - 0x4900) = 3
  else if 0x4910 ≤ i ∧ i < 0x4914 ∧ j = 1 then (s.ptpBase (i - 0x4910)).isNone && !s.on k
  else if 0x4C00 ≤ i ∧ i < 0x4C80 ∧ i % 16 = 1 then s.on (K.canEnable c)
  else if 0x4C00 ≤ i ∧ i < 0x4C80 ∧ i % 16 = 3 then
    let o := s.queueOwner c (if j ≤ 16 then j - 1 else j - 17)
    o < 256 && s.pavBusy o
  else if 0x2300 ≤ i ∧ i ≤ 0x23FF then !s.owned
  else false

/-! ### Values -/

/-- binary32: lo ≤ x ≤ hi; a NaN is not. -/
def f32In (x lo hi : Nat) : Bool := f32.le lo x && f32.le x hi

/-- R45 step 7: the value of entry k keeps the entry's own rules in the set `t`. -/
def State.valueOk (t : State) (k : Nat) : Bool :=
  let i := k / 256
  let j := k % 256
  let v := t.rdN k
  let b := t.blobOf k
  let c := (i - 0x4C00) / 16
  if 0x1400 ≤ i ∧ i ≤ 0x15FF ∨ 0x1800 ≤ i ∧ i ≤ 0x19FF then j ≠ 2 || v ≤ 240 || 254 ≤ v
  else if 0x1600 ≤ i ∧ i ≤ 0x17FF then t.pdoOk true (i - 0x1600)
  else if 0x1A00 ≤ i ∧ i ≤ 0x1BFF then t.pdoOk false (i - 0x1A00)
  else if 0x1E00 ≤ i ∧ i ≤ 0x1E7F ∧ i % 16 = 1 then j = 0 && v = 0
  else if i = 0x2046 ∨ i = 0x2047 then v < 2 ^ 40
  else if 0x2610 ≤ i ∧ i ≤ 0x2612 then t.classSetOk
  else if i = 0x2614 then t.outrangesOk && t.places.all (fun e => t.placeClass e.2)
  else if i = 0x2621 then t.stationsOk && (List.range 256).all (fun p => t.pavState p ≠ Prog.run || (t.admission p).1 ≠ 4)
  else if (i = 0x2730 ∨ i = 0x2731) ∧ 1 ≤ j then bits v 7 3 = 0
  else if 0x2800 ≤ i ∧ i ≤ 0x28FF then
    let p := i - 0x2800
    if j = 1 then v < 16
    else if j = 3 then v % 64 = 0 && v < 2 ^ 40
    else if j = 4 then v % 4 = 0
    else if j = 5 then v % 8 = 0 && v < 2 ^ 40
    else if 6 ≤ j ∧ j ≤ 0x0D then v < 2 ^ 40
    else if j = 0x26 ∨ j = 0x27 then t.rdN (K.pavWdtOpen p) < t.rdN (K.pavWdtTimeout p)
    else true
  else if 0x2900 ≤ i ∧ i ≤ 0x29FF ∧ 1 ≤ j ∧ j ≤ 128 then
    if j % 2 = 1 then v / 2 ^ 47 = 0 && v % 8 = 0 && (bits v 42 40 ≠ 0 || v = 0) else v < 2 ^ 40 && (v = 0 || v % 8 = 7)
  else if 0x2A00 ≤ i ∧ i ≤ 0x2AFF then
    let p := i - 0x2A00
    if j = 2 then !t.armed p || t.dramUsed p ≤ v
    else if j = 4 then t.quotasOk && t.rdN (K.quotaStoreUsed p) ≤ v
    else true
  else if 0x4000 ≤ i ∧ i < 0x4370 ∨ (0x4C00 ≤ i ∧ i < 0x4C80 ∧ (i % 16 = 0 ∨ i % 16 = 4 ∨ i % 16 = 5)) then
    if 0x4000 ≤ i ∧ i < 0x4080 ∧ j = 0x0A then v = 0 || i < 0x4008
    else if 0x4200 ≤ i ∧ i < 0x4220 ∧ (j = 8 ∨ j = 9) then t.placeOk (if j = 8 then K.iolInPoint (i - 0x4200) else K.iolOutPoint (i - 0x4200))
    else if 0x4300 ≤ i ∧ i ≤ 0x4303 then t.adcOk (i - 0x4300)
    else if 0x4310 ≤ i ∧ i < 0x4330 ∧ (j = 5 ∨ j = 6) then
      t.rdN (K.aiScaleLo (i - 0x4310)) ≠ t.rdN (K.aiScaleHi (i - 0x4310))
    else if 0x4330 ≤ i ∧ i < 0x4340 then
      let a := i - 0x4330
      if j = 4 ∨ j = 5 then t.rdN (K.aoScaleLo a) ≠ t.rdN (K.aoScaleHi a)
      else if j = 6 then f32In v 0 0x461C4000
      else if j = 7 ∨ j = 8 then f32In v 0x40733333 0x41A40000 && f32.le (t.rdN (K.aoLimitLo a)) (t.rdN (K.aoLimitHi a))
      else if j = 0x0A then f32In v 0x40733333 0x41A40000
      else if j = 0x0B then f32In v 0x40400000 0x40666666
      else if j = 0x0C then f32In v 0x41A80000 0x41B80000
      else t.placeOk k
    else if 0x4C00 ≤ i ∧ i % 16 = 0 ∧ j = 8 then
      (v = 0 || t.on (K.canbtFdEnable c)) && (List.range 64).all (fun n => t.pdoOk true (64 * c + n) && t.pdoOk false (64 * c + n))
    else if 0x4C00 ≤ i ∧ (i % 16 = 4 ∨ i % 16 = 5) then v < 2 ^ 48 && t.placeOk k
    else t.placeOk k
  else if i = 0x4801 then
    fieldAt b 0 4 = 0 && fieldAt b 16380 4 = 0
      && (List.range 4096).all (fun d => bits (fieldAt (b.drop (4 * d)) 0 4) 15 10 = 0 && bits (fieldAt (b.drop (4 * d)) 0 4) 31 24 = 0)
  else if (i = 0x4818 ∨ i = 0x4819) ∧ (j = 9 ∨ j = 0x0B) then v = 0
  else if 0x4820 ≤ i ∧ i ≤ 0x4827 ∧ 0x10 ≤ j then v < 2 ^ 40 && 100 ≤ v % 2 ^ 32
  else if 0x4820 ≤ i ∧ i ≤ 0x4827 ∧ j = 3 then v / 65536 % 2 ^ 32 < 1000000000
  else if i = 0x4840 then t.streamsOk && t.redOk
  else if i = 0x4850 ∨ i = 0x4851 then t.redOk
  else if 0x4900 ≤ i ∧ i < 0x4908 ∧ j = 3 then t.rdN (K.tbSource (i - 0x4900)) ≠ 2
  else if 0x4910 ≤ i ∧ i < 0x4914 ∧ (j = 9 ∨ j = 0x0A) then t.rdN (K.ptpLockNs (i - 0x4910)) < t.rdN (K.ptpUnlockNs (i - 0x4910))
  else if 0x4C00 ≤ i ∧ i < 0x4C80 ∧ i % 16 = 1 then t.timingOk c
  else if 0x4C00 ≤ i ∧ i < 0x4C80 ∧ i % 16 = 2 then t.objTableOk c
  else if 0x4C00 ≤ i ∧ i < 0x4C80 ∧ i % 16 = 3 then
    if j ≤ 16 then bits v 63 48 = 0xFFFF || (2 ≤ bits v 47 40 && bits v 47 40 ≤ 10 && t.queueOk c (j - 1)) else v < 2 ^ 59
  else if 0x5580 ≤ i ∧ i < 0x5600 then
    if j = 3 then !f64.notFinite v && f64.lt 0 v else j ≠ 4 || 86400 % v = 0
  else if k = K.wdtOpen ∨ k = K.wdtTimeout then t.rdN K.wdtOpen + 1 ≤ t.rdN K.wdtTimeout
  else if k = K.tempWarn ∨ k = K.tempCrit then decide (t.rd K.tempWarn ≤ t.rd K.tempCrit)
  else if k = K.contWarn ∨ k = K.contCrit then t.rdN K.contWarn < t.rdN K.contCrit
  else if k = K.wakeAlarm then v / 65536 % 2 ^ 32 < 1000000000
  else if k = K.alarmResponse then bits v 15 14 = 0 && ([2, 3, 4, 5, 6] : List Nat).all (fun f => bits v (2 * f + 1) (2 * f) ≠ 3)
  else if k = K.svcethIpv6 then byteAt b 16 ≤ 128
  else if k = K.svcethIpv4 then byteAt b 4 ≤ 32
  else true

/-- R182: SAFETY_RELATED falls, and the caller does not hold SAFETY. -/
def State.lacksSafety (s : State) (src : Path) (t : State) (k : Nat) : Bool :=
  0x2800 ≤ k / 256 && k / 256 ≤ 0x28FF && k % 256 = 1 && pfSafety (s.rdN k) && !pfSafety (t.rdN k) && !((s.caller src).any (·.safety))

/-- R45 step 7: the entry's own rules; `t`: the set that the write, or the WRITE_ATOMIC it is an item of, would leave. -/
def State.ownRule (s t : State) (src : Path) (k : Nat) : Nat :=
  if s.lacksSafety src t k then Err.roleDenied
  else if s.stateBars k then Err.state
  else
    let o := s.ownersCode t k
    if o ≠ Err.ok then o else if t.valueOk k then Err.ok else Err.value

end Sys2Proof.Machine
end

