-- ==== Sys2Proof/Machine/HartOps.lean ====
section
/-! DEFINITION. The commands of spec/10's HART modems. The delimiter's bits and the fields of command 0 are those of
the HART protocol (PRESUMED): the spec names them without their layout. -/

namespace Sys2Proof.Machine

/-- R327: durations of `n` character times, in ns (9.167 ms each; 28, 33, 41 and 8 as the table gives them). -/
def hartTime (n : Nat) : Nat :=
  if n = 28 then 256700000 else if n = 33 then 302500000 else if n = 41 then 375800000 else if n = 8 then 73300000 else n * 9167000

/-- R327: quiet time before transmitting after another master's traffic. -/
def State.hartQuiet (s : State) (m : Nat) : Nat := hartTime (if s.rdN (K.hartMaster m) = 0 then 33 else 41)

/-- R328, R300: a request of the modem has used every attempt. `code` goes into the buffer of a SYS 11 request. -/
def hartExhaust (m : Nat) (s : State) : State :=
  let x := s.hart m
  if x.job = 1 then hartTo m Hst.noDevice true s
  else
    let s := match x.req with
      | some q => if x.job = 3 then closeBuf q 2 (le 2 (if x.frameError then 0xFF03 else 0xFF01)) [] (updHart m (fun h => { h with req := none }) s) else s
      | none => s
    let s := updHart m (fun h => { h with job := 0, waiting := false, tries := 0, exhausted := h.exhausted + 1 }) s
    if 3 ≤ (s.hart m).exhausted then hartTo m Hst.acquiring true s else s

/-- R327: an attempt fails. -/
def hartFail (m : Nat) (frameError : Bool) (s : State) : State :=
  let s := updHart m (fun h => { h with waiting := false, tries := h.tries + 1, frameError := frameError }) s
  if s.rdN (K.hartRetries m) < (s.hart m).tries then hartExhaust m s else s

/-- R328: the effect of a write of HART.m.ENABLE. -/
def hartEnableEffect (m v : Nat) (s : State) : Nat × State :=
  writeThen (K.hartEnable m) (le 1 v) true Err.ok (fun s =>
    if v = 0 then hartTo m Hst.disabled false s
    else if s.rdN (K.hartState m) ≠ Hst.disabled then s
    else if s.activeLike then hartTo m Hst.acquiring false s else s) s

/-- R328: a write of HART.m.ENABLE. -/
def execHartEnableWrite (src : Path) (m v : Nat) (s : State) : Out :=
  .next (only (m < 48) (command src (K.hartEnable m) (le 1 v) (hartEnableEffect m v)) s)

/-- R327: the exclusive or of the bytes from the delimiter onward. -/
def hartSum (b : Bytes) : Byte := b.foldl (· ^^^ ·) 0

/-- R327: a request frame: preamble, delimiter, address, command, byte count, data and checksum. -/
def State.hartFrame (s : State) (m cmd : Nat) (long : Bool) (data : Bytes) : Bytes :=
  let prim : Nat := if s.rdN (K.hartMaster m) = 0 then 0x80 else 0
  let u := s.blobOf (K.hartUniqueId m)
  let addr : Bytes := if long then le 1 (byteAt u 0 % 64 + prim) ++ slice u 1 4 else le 1 (s.rdN (K.hartPollAddr m) % 64 + prim)
  let b := le 1 (if long then 0x82 else 0x02) ++ addr ++ le 1 cmd ++ le 1 data.length ++ data
  List.replicate (s.rdN (K.hartPreamble m)) 0xFF ++ b ++ [hartSum b]

/-- R327 to R330: the modem sends the request in hand, or takes the next one: acquisition, SYS 11, then automatic. -/
def execHartRequestSend (m : Nat) (s : State) : Out :=
  let x := s.hart m
  let st := s.rdN (K.hartState m)
  let job : Nat := if x.job ≠ 0 then x.job else if st = Hst.acquiring then 1 else if x.req ≠ none then 3 else if x.autoDue then 2 else 0
  .next (only (m < 48 && (st = Hst.acquiring || st = Hst.inService) && !x.waiting && job ≠ 0
      && s.rdN (K.hartFlags m) % 2 = 0 && x.quietUntil ≤ s.now && s.activeLike) (fun s =>
    let f : Bytes :=
      if job = 1 then s.hartFrame m 0 false []
      else if job = 2 then s.hartFrame m (bits (s.rdN (K.hartAutoCmd m)) 7 0) true []
      else match x.req with
        | some q => s.hartFrame m q.code true q.data
        | none => []
    let s := send (Wire.hart m) f s
    updHart m (fun h => { h with job := job, waiting := true, sentAt := s.now, autoDue := h.autoDue && job ≠ 2 }) s) s)

/-- R327, R329: a frame has been received: `f` runs from the delimiter to the checksum; `err`: parity or framing. -/
def execHartFrameReceive (m preamble : Nat) (f : Bytes) (err : Bool) (s : State) : Out :=
  let st := s.rdN (K.hartState m)
  .next (only (m < 48 && st ≠ Hst.disabled && 2 ≤ preamble && s.rdN (K.hartFlags m) % 2 = 0) (fun s =>
    let x := s.hart m
    let n := f.length
    let delim := byteAt f 0
    let al := if bitOf delim 7 then 5 else 1
    let cmd := byteAt f (1 + al)
    let body := (f.drop (3 + al)).take (n - 4 - al)
    let sumOk := n ≥ 4 + al && byteAt f (2 + al) = body.length && hartSum (f.take (n - 1)) = f.getD (n - 1) 0
    if err || !sumOk then
      let s := if err then inc (K.hartParityErrors m) U32.max s else inc (K.hartChecksumErrors m) U32.max s
      only x.waiting (hartFail m true) s
    else
      let s := inc (K.hartFramesOk m) U32.max s
      let kind := delim % 8
      if kind = 6 ∧ x.waiting then
        let s := updHart m (fun h => { h with waiting := false, tries := 0, exhausted := 0, job := 0
                                              quietUntil := s.now + hartTime 8 }) s
        let data := body.drop 2
        if x.job = 1 then
          let id := le 1 (byteAt data 1 % 64) ++ slice data 2 1 ++ slice data 9 3
          hartTo m Hst.inService true (wrBlob (K.hartUniqueId m) id s)
        else if x.job = 2 then
          stageHart m (updHart m (fun h => { h with frameAt := some s.now, fresh := true, burst := false, cmd := cmd, status := body.take 2, data := data }) s)
        else match x.req with
          | some q => closeBuf q 1 (body.take 2) data (updHart m (fun h => { h with req := none }) s)
          | none => s
      else if kind = 1 then
        let s := updHart m (fun h => { h with quietUntil := max h.quietUntil (s.now + s.hartQuiet m) }) s
        only (s.on (K.hartBurstListen m) && cmd = bits (s.rdN (K.hartAutoCmd m)) 7 0) (fun s =>
          stageHart m (updHart m (fun h => { h with frameAt := some s.now, fresh := true, burst := true, cmd := cmd, status := body.take 2, data := body.drop 2 }) s)) s
      else updHart m (fun h => { h with quietUntil := max h.quietUntil (s.now + s.hartQuiet m) }) s) s)

/-- R327: no valid response within the response wait of 256.7 ms. -/
def execHartResponseTimeout (m : Nat) (s : State) : Out :=
  .next (only (m < 48 && (s.hart m).waiting && s.past (s.hart m).sentAt (hartTime 28)) (fun s =>
    hartFail m false (inc (K.hartTimeouts m) U32.max s)) s)

/-- R329: AUTO_PERIOD elapses. -/
def execHartAutoCmdDue (m : Nat) (s : State) : Out :=
  .next (only (m < 48 && s.rdN (K.hartState m) = Hst.inService && bitOf (s.rdN (K.hartAutoCmd m)) 15
      && s.past (s.hart m).autoAt (s.rdN (K.hartAutoPeriod m) * ms)) (fun s =>
    stageHart m (updHart m (fun h => { h with autoDue := true, autoAt := s.now }) s)) s)

/-- R330: a flood condition aborts the frame in progress: 1 out-of-band energy, 2 crossings. -/
def execHartNoiseAbort (m cause : Nat) (s : State) : Out :=
  .next (only (m < 48 && s.rdN (K.hartState m) ≠ Hst.disabled && (cause = 1 || cause = 2)) (fun s =>
    let was := s.rdN (K.hartFlags m) % 2 = 1
    let s := inc (K.hartNoiseAborts m) U32.max s
    let s := wrN (K.hartFlags m) (setBit (s.rdN (K.hartFlags m)) 0 true) s
    let s := updHart m (fun h => { h with noisyAt := s.now, noisySince := if was then h.noisySince else s.now }) s
    let s := raiseOwned Ev.hartNoisy (le 1 m ++ le 1 cause) (s.hartOwner m) s
    stageHart m (only (s.hart m).waiting (hartFail m true) s)) s)

/-- R330: 50 ms without a flood condition. -/
def execHartNoiseClear (m : Nat) (s : State) : Out :=
  .next (only (m < 48 && s.rdN (K.hartFlags m) % 2 = 1 && s.past (s.hart m).noisyAt (50 * ms)) (fun s =>
    let s := wrN (K.hartNoisyMs m) (satAdd U32.max (s.rdN (K.hartNoisyMs m)) ((s.now - (s.hart m).noisySince) / ms)) s
    let s := wrN (K.hartFlags m) (setBit (s.rdN (K.hartFlags m)) 0 false) s
    stageHart m (updHart m (fun h => { h with quietUntil := s.now + s.hartQuiet m }) s)) s)

/-- R330: a request not sent within 5 s of being queued completes with 0xFF02. -/
def execHartQueueTimeout (m : Nat) (s : State) : Out :=
  .next (only (m < 48 && !(s.hart m).waiting) (fun s =>
    match (s.hart m).req with
    | some q =>
      only (s.past q.at_ (5 * sec)) (fun s =>
        closeBuf q 2 (le 2 0xFF02) [] (updHart m (fun h => { h with req := none, job := if h.job = 3 then 0 else h.job, tries := 0 }) s)) s
    | none => s) s)

/-- R328: 10 s in NO_DEVICE. -/
def execHartNoDeviceRetry (m : Nat) (s : State) : Out :=
  .next (only (m < 48 && s.rdN (K.hartState m) = Hst.noDevice && s.past (s.hart m).stateAt (10 * sec)) (hartTo m Hst.acquiring false) s)

end Sys2Proof.Machine
end

