-- ==== Sys2Proof/Machine/Tick.lean ====
section
/-! DEFINITION. The passage of time: what an idle step does. One nanosecond passes, and every time base that runs of
itself advances at its rate (R352). -/

namespace Sys2Proof.Machine

/-- R352: what one ns adds to a base's part of a unit, in 2⁻³² ppb of a unit: RATE, per unit of 2⁻¹⁶ ns. -/
def rateUnit : Int := 4294967296 * 1000000000

/-- One base over one ns. -/
def baseTick (rate : Int) (b : TBase) : TBase :=
  let a := b.acc + 65536 * rate
  { b with
    val := ((b.val : Int) + 65536 + a / rateUnit).toNat, acc := a % rateUnit }

/-- Bases that run of themselves; the TIME domain stops in ICEHOUSE and DORMANT (R459); TB4 is the time since BOOT, and a base with SOURCE TB is derived (R352). -/
def State.runs (s : State) (n : Nat) : Bool := s.mode ≠ Mode.icehouse && s.mode ≠ Mode.dormant && n ≠ 4 && s.rdN (K.tbSource n) ≠ 2

/-- One ns passes. -/
def tick (s : State) : State :=
  let tb := ((List.range 8).filter s.runs).foldl
    (fun t n => Tab.put t n (baseTick (s.rd (K.tbRate n)) (Tab.get t n {})) {}) s.tb
  { s with now := s.now + 1, tb := tb }

end Sys2Proof.Machine
end

