-- ==== Sys2Proof/Machine/Time.lean ====
section
/-! DEFINITION. The commands of the time unit (R351 to R358). -/

namespace Sys2Proof.Machine

/-- R353: a write to TB.n.STEP, in ns. -/
def execTbStepWrite (src : Path) (n : Nat) (d : Int) (s : State) : Out :=
  .next (only (n < 8) (command src (K.tbStep n) (le 8 (unsigned 8 d)) (tbStepEffect n (signed 8 (unsigned 8 d)))) s)

/-- R353: a write to TB.n.SET, a T96. -/
def execTbSetWrite (src : Path) (n t : Nat) (s : State) : Out :=
  .next (only (n < 8) (command src (K.tbSet n) (le 12 t) (tbSetEffect n (t % 2 ^ 96))) s)

/-- R352: a write to SOURCE (1), SRC_ARG (2) or OFFSET (4) of base n. -/
def execTbSourceChange (src : Path) (n sub : Nat) (v : Bytes) (s : State) : Out :=
  .next (only (n < 8 && (sub = 1 || sub = 2 || sub = 4)) (command src (256 * (0x4900 + n) + sub) v (tbSourceEffect n sub v)) s)

/-- R354: a write to TB.n.DECLARE. -/
def execTbDeclare (src : Path) (n v : Nat) (s : State) : Out :=
  .next (only (n < 8) (command src (K.tbDeclare n) (le 1 v) (tbDeclareEffect n v)) s)

/-- R357: PTP instance k takes a state. -/
def ptpTo (k st : Nat) (s : State) : State :=
  let old := s.rdN (K.ptpState k)
  if old = st then s
  else
    let s := wrN (K.ptpState k) st s
    let s := only (st ≠ 3) (updPtp k (fun x => { x with run := 0, locked := false })) s
    raise (Ev.ptpState k) (le 1 old ++ le 1 st ++ padTo 8 (s.blobOf (K.ptpGmId k))) s

/-- R354, R357: a Sync message reaches instance k on a port: its offset and mean path delay in ns, the grandmaster, and
the state the port state machine gives the instance. -/
def execPtpSyncReceive (k port : Nat) (offset delay : Int) (gm : Bytes) (st : Nat) (s : State) : Out :=
  .next (only (k < 4 && s.timeRuns && s.on (K.ptpEnable k) && bitOf (s.rdN (K.ptpPorts k)) port && 1 ≤ st && st ≤ 7) (fun s =>
    let s := wrBlob (K.ptpGmId k) (padTo 8 gm) (wrN (K.ptpRxPort k) port (wr (K.ptpMeanDelayNs k) delay (wr (K.ptpOffsetNs k) offset s)))
    let s := ptpTo k st (updPtp k (fun x => { x with lastSync := s.now }) s)
    if st ≠ 3 then syncFollow s
    else
      let near := decide (offset.natAbs ≤ s.rdN (K.ptpLockNs k))
      let run := if near then min 255 ((s.ptp k).run + 1) else 0
      let locked := !decide (s.rdN (K.ptpUnlockNs k) < offset.natAbs) && ((s.ptp k).locked || s.rdN (K.ptpLockCount k) ≤ run)
      let s := updPtp k (fun x => { x with run := run, locked := locked }) s
      let s := match s.ptpBase k with
        | none => s
        | some n =>
          if s.rdN (K.ptpStepNs k) < offset.natAbs then stepWith n 2 (setBase n ((s.tbVal n : Int) - offset * 65536)) s
          else drawn (wr (K.tbRate n) s.freeRate s)
      syncFollow s) s)

/-- R354: HOLDOVER passes without a Sync. -/
def execPtpHoldoverExpiry (k : Nat) (s : State) : Out :=
  .next (only (k < 4 && s.timeRuns && s.rdN (K.ptpState k) = 3 && (s.ptp k).locked && s.past (s.ptp k).lastSync (s.rdN (K.ptpHoldover k) * ms))
    (fun s => syncFollow (updPtp k (fun x => { x with run := 0, locked := false }) s)) s)

/-- R351: the REF25 oscillator in use fails; each base takes an error of at most 50 ns. -/
def execOscFailover (s : State) : Out :=
  .next (only s.timeRuns (fun s =>
    let e : Int := (s.free 7 % 101 : Nat) - 50
    let s := each ((List.range 8).filter s.runs) (fun n => setBase n ((s.tbVal n : Int) + e * 65536)) (drawn s)
    let s := inc K.timeOscSwitches U32.max (wrN K.timeOsc (1 - min 1 (s.rdN K.timeOsc)) s)
    raise Ev.oscSwitched (le 1 (s.rdN K.timeOsc)) s) s)

/-- R355: once per second the RTC takes TB3. -/
def execRtcUpdate (s : State) : Out := .next (only (s.timeRuns && s.past s.sec.rtcAt (1000 * ms)) rtcWrite s)

/-- R358: a rising edge on PPS_IN k, high for `width` ns. -/
def execPpsInEdge (k width : Nat) (s : State) : Out :=
  .next (only (k < 2 && s.timeRuns && 100 ≤ width) (fun s =>
    let s := wrN (K.ppsinEdges k) ((s.rdN (K.ppsinEdges k) + 1) % 2 ^ 32) (capture (8 + k) s)
    updPps k (fun x => { x with seen := true, edgeAt := s.now }) (wrN (K.ppsinLast k) (s.tb96 3) s)) s)

/-- R358: 1.5 s without an edge. -/
def execPpsInLost (k : Nat) (s : State) : Out :=
  .next (only (k < 2 && s.timeRuns && (s.pps k).seen && s.past (s.pps k).edgeAt (1500 * ms)) (fun s =>
    raise (Ev.ppsInLost k) (le 1 k) (updPps k (fun x => { x with seen := false }) s)) s)

/-- R358: the base of PPS_OUT k reaches OFFSET_NS, and not by a step. -/
def execPpsOutEdge (k : Nat) (s : State) : Out :=
  let n := s.rdN (K.ppsoutTimeBase k)
  .next (only (k < 2 && s.timeRuns && s.mode ≠ Mode.boot && s.on (K.ppsoutEnable k) && s.tbNs n % 1000000000 = s.rdN (K.ppsoutOffsetNs k)
      && Tab.get s.net.stepAt n 0 ≠ s.now + 1 && (!s.on (K.ppsoutGateUnsync k) || s.synced n))
    (fun s => updPps k (fun x => { x with roseAt := some s.now }) s) s)

/-- R358: PPS_OUT k is high. -/
def State.ppsHigh (s : State) (k : Nat) : Bool := (s.pps k).roseAt.any (fun t => !s.past t (s.rdN (K.ppsoutWidth k) * us))

/-- R354: 1 s after the Causeway went DOWN. -/
def execPartnerSyncHoldExpiry (s : State) : Out :=
  .next (only (s.timeRuns && s.pairOp && s.rdN K.cwState = 0 && s.past s.pair.downAt (1000 * ms)) syncFollow s)

/-- R355: the UTC day ends, and the leap second announced in LEAP is applied. -/
def execLeapSecond (s : State) : Out :=
  let leap := s.rdN K.timeLeap
  let utc : Int := (s.tbNs 3 / 1000000000 : Nat) - s.rd K.timeUtcOffset
  .next (only (s.timeRuns && leap ≠ 0 && utc % 86400 = (if leap = 2 then 86399 else 0)) (fun s =>
    let d : Int := (if bitOf leap 0 then 1 else 0) - (if bitOf leap 1 then 1 else 0)
    wrN K.timeLeap 0 (setEntry K.timeUtcOffset (s.rd K.timeUtcOffset + d) s)) s)

end Sys2Proof.Machine
end

