-- ==== Sys2Proof/Machine/DictOps.lean ====
section
/-! DEFINITION. What an accepted write of an entry without a row of its own does (R45 to R48): the value, its journal
record, and the effect the entry's chapter gives it. -/

namespace Sys2Proof.Machine

/-- The value as it is stored: the read-only fields of ALARM.RESPONSE keep their value (R484). -/
def settle (k : Nat) (v : Bytes) : Bytes := if k = K.alarmResponse then le 2 (setBits (ofLe v) 3 0 10) else v

/-- R182 to R203: effects of the entries of Pavilion p at 0x2800 + p, the region check aside. -/
def pavWritten (p j : Nat) (s : State) : State :=
  let s := only (j = 2 || j = 0x0E || j = 0x11 || j = 0x14 || j = 0x1A) (admitProgram p) s
  only (j = 0x23) (fun s => sweepBuffers (importSweep p s)) s

/-- The entries whose write runs the checks of p's region table again (R184). -/
def tableTouched (k : Nat) : Option (Nat × Bool) :=
  let i := k / 256
  let j := k % 256
  if 0x2900 ≤ i ∧ i ≤ 0x29FF then some (i - 0x2900, true)
  else if 0x2800 ≤ i ∧ i ≤ 0x28FF ∧ 2 ≤ j ∧ j ≤ 0x0D then some (i - 0x2800, false)
  else none

/-- R374: the node-ID of controller c has changed: its engine starts anew, or stays in INITIALISATION. -/
def nodeWritten (c : Nat) (s : State) : State :=
  let s := wrN (K.canNmtState c) Nmt.init (updCan c (fun x => { x with system := [] }) s)
  only (s.on (K.canEnable c) && (s.canSt8 c = Can.active || s.canSt8 c = Can.passive)) (nmtStart c) s

/-- The effect of a written entry k; `old`: the state before. The region check comes after. -/
def writeEffect (old : State) (k : Nat) (s : State) : State :=
  let i := k / 256
  let j := k % 256
  let c := (i - 0x4C00) / 16
  if 0x2800 ≤ i ∧ i ≤ 0x28FF then pavWritten (i - 0x2800) j s
  else if 0x4000 ≤ i ∧ i < 0x4080 then
    let n := i - 0x4000
    -- R284: the type of the whole group
    let s := if j = 2 then each ((List.range 16).map (fun m => K.diType (16 * (n / 16) + m))) (fun q s =>
      if q = k then s else setEntryN q (s.rdN k) s) s else s
    only (j = 1 || j = 5) (stageDi n) s
  else if 0x4080 ≤ i ∧ i < 0x40E0 then only (1 ≤ j && j ≤ 4) (evalDo (i - 0x4080)) s
  else if 0x40E0 ≤ i ∧ i < 0x40E8 then stageDiag (i - 0x40E0) s
  else if 0x4200 ≤ i ∧ i < 0x4220 then
    let n := i - 0x4200
    only (j = 7 || j = 9 || j = 2 || j = 0x0B) (evalIol n) (only (j = 6 || j = 8) (stageIol n) s)
  else if 0x4300 ≤ i ∧ i < 0x4304 then only (j = 1 || j = 2) (adcRestart (i - 0x4300)) s
  else if 0x4310 ≤ i ∧ i < 0x4330 then only (j = 1) (stageAi (i - 0x4310)) s
  else if 0x4330 ≤ i ∧ i < 0x4340 then stageAo (i - 0x4330) (only (j = 1 || j = 3 || j = 9) (evalAo (i - 0x4330)) s)
  else if 0x4340 ≤ i ∧ i < 0x4370 then only (j = 5) (stageHart (i - 0x4340)) s
  else if 0x4810 ≤ i ∧ i < 0x4818 ∧ j = 9 then
    -- R345: a port that now marks classes preemptable verifies with its link partner
    wrN (K.portPreemptState (i - 0x4810)) (if s.rdN k = 0 then 0 else if old.rdN k = 0 then 1 else s.rdN (K.portPreemptState (i - 0x4810))) s
  else if 0x4820 ≤ i ∧ i < 0x4828 ∧ j = 1 then
    let n := i - 0x4820
    wrN (K.gateState n) (if !s.on k then 0 else if (s.swPort n).pend.isSome then 1 else if (s.swPort n).oper.isSome then 2 else 0) s
  else if i = 0x4840 then each s.streamsOn (fun h s => only (St.endpoint (s.streamRec h) = 2) (ringFollow h) s) s
  else if 0x4910 ≤ i ∧ i < 0x4914 ∧ j = 1 then
    syncFollow (ptpTo (i - 0x4910) (if s.on k then (if old.on k then s.rdN (K.ptpState (i - 0x4910)) else 1) else 0) s)
  else if 0x4C00 ≤ i ∧ i < 0x4C80 ∧ i % 16 = 0 then
    if j = 6 then (if old.rdN k = s.rdN k then s else nodeWritten c s) else only (j = 9) (canStatus c) s
  else if k = K.histEnable then
    let s := histCount s
    only (old.on k && !s.on k) (endSegments 32) s
  else if 0x5580 ≤ i ∧ i < 0x5600 then
    -- a totaliser of another tag has no previous sample
    only (j = 1 && old.rdN k ≠ s.rdN k) (updTot (i - 0x5580) (fun x => { x with prev := none }))
      (only (j = 2 || j = 4 || j = 5) (updTot (i - 0x5580) (fun x => { x with closeDue := x.started })) s)
  else if k = K.optEnable then only (!s.on k) optEnd s
  else if k = K.certCrl then
    wrN K.certCrlCount ((List.range 256).filter (fun n => fieldAt (s.blobOf k) (16 * n) 16 ≠ 0)).length s
  else s

/-- R39, R184, R218: what follows every accepted write: the region checks it calls for, once for each table, and the
pair's figures. -/
def afterWrites (ks : List Nat) (s : State) : State :=
  let ts := ks.filterMap tableTouched
  let ps := (ts.map (·.1)).eraseDups
  let s := each ps (fun p => tableWritten p (ts.any (fun t => t.1 = p && t.2))) s
  only (ks.any (fun k => let i := k / 256; (0x2900 ≤ i && i ≤ 0x29FF) || (0x3000 ≤ i && i ≤ 0x30FF) || k % 256 = 0x0E || k % 256 = 0x0A
    || (0x4000 ≤ i && i < 0x4370) || i = 0x2620 || (0x2610 ≤ i && i ≤ 0x2612))) pairFollow s

/-! ### Values of section 23 (R526) -/

/-- The key under which a write of entry k by this caller is journalled. -/
def ownKey (c : Caller) (k : Nat) : Nat := if 0xA00000 ≤ k then pavKey (c.scope.getD 0) k else k

/-- R526: a declared entry is written. -/
def writeDeclared (k : Nat) (v : Bytes) (s : State) : Nat × State :=
  if s.storeFull k v then (Err.storeFull, dictFull (k % 2 ^ 24) s)
  else
    let d := ((s.decl (k / 2 ^ 24) (k % 2 ^ 24 / 256) (k % 256)).map (·.dflt)).getD []
    (Err.ok, journalKey k { s with pavVals := Tab.put s.pavVals k v d })

/-- A value put into the set, for the rules to look at. -/
def putValue (k : Nat) (v : Bytes) (s : State) : State := if 0xA00000 ≤ k then s else putBytes k v s

/-- A value written to an entry without a row of its own, once every check has passed. -/
def writeValue (k : Nat) (v : Bytes) (s : State) : Nat × State :=
  if 0xA00000 ≤ k then writeDeclared k v s else writeEntry k (settle k v) s

/-- A write of an entry without a row of its own: its own rules, the value and its effect. `t`: the set that the rules
look at. -/
def plainEffect (src : Path) (c : Caller) (k : Nat) (v : Bytes) (s : State) : Nat × State :=
  let key := ownKey c k
  if 0xA00000 ≤ k then writeDeclared key v s
  else
    let e := s.ownRule (putValue k v s) src k
    if e ≠ Err.ok then (e, s)
    else
      let r := writeValue k v s
      if r.1 ≠ Err.ok then r else (Err.ok, afterWrites [k] (writeEffect s k r.2))

/-- R45: a write of an entry without a row of its own. -/
def plainWrite (src : Path) (k : Nat) (v : Bytes) (s : State) : State :=
  match s.caller src with
  | none => s
  | some c =>
    let e := s.checkWrite src (k / 256) (k % 256) v
    if e ≠ Err.ok then reply e [] s
    else if s.writeHeld (ownKey c k) then { s with sto := { s.sto with heldWrites := s.sto.heldWrites ++ [(src, k, v)] } }
    else
      let r := plainEffect src c k v s
      answerWrite (ownKey c k) v r.1 r.2

end Sys2Proof.Machine
end

