-- ==== Sys2Proof/Machine/Gatehouse.lean ====
section
/-! DEFINITION. The commands of spec/15, but for the optical operations that read the dictionary and the recorder. -/

namespace Sys2Proof.Machine

/-- R426: kind 0 a corrected SRAM error, 1 an uncorrectable one, 2 a lockup, 3 a failed self-check. -/
def execGatehouseFault (kind : Nat) (s : State) : Out :=
  .next (only (s.ghRuns && kind < 4) (fun s =>
    if kind = 0 then inc K.ghSramCorrected U32.max s else moduleReset (if kind = 3 then trialOr 5 s else 5) s) s)

/-! ### Modes (R428 to R434) -/

/-- R430: a write of 1 to MODECMD.SERVICE. -/
def execServiceEnter (src : Path) (s : State) : Out :=
  .next (command src K.modecmdService (le 1 1) (fun s =>
    if s.mode ≠ Mode.active then refuse Err.state s
    else accept (setMode Mode.service 8 (updGate (fun g => { g with serviceAt := s.now }) s))) s)

/-- R430: a write of 0 to MODECMD.SERVICE. -/
def execServiceLeave (src : Path) (s : State) : Out :=
  .next (command src K.modecmdService (le 1 0) (fun s => accept (leaveService s)) s)

/-- R430: SERVICE_LIMIT has passed. -/
def execServiceLimitExpiry (s : State) : Out :=
  .next (only (s.mode = Mode.service && s.past s.gate.serviceAt (s.rdN K.modecmdServiceLimit * 60 * sec)) leaveService s)

/-- R431: the cases in which a DORMANT request is accepted. -/
def State.dormantAllowed (s : State) : Bool :=
  let stopped := (List.range 256).all (fun p => !s.pavBusy p)
  s.pow.dormantStep = 0
    && ((!s.pairOp && s.activeLike && stopped)
      || (s.pairOp && s.mode = Mode.standby)
      || (s.pairOp && s.mode = Mode.active && stopped && s.pair.pDormant && s.rdN K.cwState = 0))

/-- R431, R468: a write to MODECMD.DORMANT; an accepted request stops the engine and the field outputs at once. -/
def execDormantRequest (src : Path) (v : Nat) (s : State) : Out :=
  .next (command1 src K.modecmdDormant v (fun s =>
    if !s.dormantAllowed then refuse Err.state s
    else
      let s := updPow (fun p => { p with dormantStep := 1, modeBefore := s.mode }) s
      let s := lanesDown (engineTo 0 s)
      let s := hartListenAll (iolPassiveAll s)
      let s := each (List.range 16) (fun j => updAo j (fun x => { x with fromOpen := true })) s
      let s := each (List.range 8) (fun i => updDi i (fun d => { d with wakeRef := bitOf (s.rdN (K.diState i)) 0, wakeRun := 0 })) s
      accept (driveAll s)) s)

/-- R468: the storage engine has programmed the journal and its commit record. -/
def execDormantFlushComplete (s : State) : Out :=
  .next (only (s.pow.dormantStep = 1) (fun s => commitAll (updPow (fun p => { p with dormantStep := 2 }) s)) s)

/-- R467, R468: the module is DORMANT. -/
def execDormantReached (s : State) : Out :=
  .next (only (s.pow.dormantStep = 2) (fun s =>
    let before := s.pow.modeBefore
    let s := setMode Mode.dormant (if before = Mode.standby then 11 else 10) (updPow (fun p => { p with dormantStep := 0 }) s)
    let s := only (s.rdN K.wdtState = Mwdt.running) (wrN K.wdtState Mwdt.paused) s
    let s := fieldFollow s
    let s := optEnd { s with sessions := [], sdo := [], dictReady := false }
    raise Ev.dormant (le 1 before ++ le 1 (s.rdN K.wakeSources)) s) s)

/-- R434: a write to MODECMD.RESET. -/
def execModuleResetCommand (src : Path) (v : Nat) (s : State) : Out :=
  .next (command src K.modecmdReset (le 1 v) (fun s =>
    if v ≠ 0x5A then refuse Err.value s else accept (resetIn (10 * ms) 4 s)) s)

/-- R434, R476: a reset that is due; a life-cycle transition whose keys are settled completes with it. -/
def execModuleReset (s : State) : Out :=
  .next (only (s.mode ≠ Mode.icehouse && s.gate.resetAt.any (fun t => t ≤ s.now)) (fun s =>
    let p := s.sec.pendingLc
    let s := moduleReset s.gate.resetCause s
    match p with
    | some t => lcTo t s
    | none => s) s)

/-! ### The module watchdog (R435 to R437) -/

/-- R435: a write of KEY_A by the Gatehouse. -/
def execWdtServiceKeyA (s : State) : Out :=
  let g := s.gate
  .next (only (s.ghRuns && s.rdN K.wdtState = Mwdt.running) (fun s =>
    if s.now < g.wdtS + g.wOpen * ms ∨ g.expectB then moduleWdtFail 3 s
    else updGate (fun g => { g with expectB := true, keyAAt := s.now }) s) s)

/-- R435: a write of KEY_B by the Gatehouse. -/
def execWdtServiceKeyB (s : State) : Out :=
  let g := s.gate
  .next (only (s.ghRuns && s.rdN K.wdtState = Mwdt.running) (fun s =>
    if s.now < g.wdtS + g.wOpen * ms ∨ !g.expectB ∨ g.keyAAt + ms < s.now then moduleWdtFail 3 s
    else
      let left := (g.wdtS + g.wTimeout * ms - s.now) / us
      let s := wrN K.wdtMarginMin (min left (s.rdN K.wdtMarginMin)) s
      updGate (fun g => { g with wdtS := s.now, expectB := false, wOpen := s.rdN K.wdtOpen, wTimeout := s.rdN K.wdtTimeout }) s) s)

/-- R435: a write to WDT.SERVICE on a dictionary path, or to the SERVICE register by another master. -/
def execWdtForeignService (dict : Bool) (src : Path) (master : Nat) (s : State) : Out :=
  .next (only s.ghRuns (fun s =>
    if dict then
      match s.caller src with
      | none => s
      | some c =>
        let e := s.findEntry c 0x2003 4
        if e ≠ Err.ok then reply e [] s
        else raise Ev.wdtForeignService (le 1 (pathCode src)) (reply Err.writeDenied [] s)
    else raise Ev.wdtForeignService (le 1 master) s) s)

/-- R435: s + TIMEOUT has passed. -/
def execWdtTimeout (s : State) : Out :=
  .next (only (s.ghRuns && s.rdN K.wdtState = Mwdt.running && s.gate.wdtS + s.gate.wTimeout * ms < s.now) (moduleWdtFail 2) s)

/-- R435: KEY_B has not followed KEY_A within 1 ms. -/
def execWdtKeyBTimeout (s : State) : Out :=
  .next (only (s.ghRuns && s.rdN K.wdtState = Mwdt.running && s.gate.expectB && s.gate.keyAAt + ms < s.now) (moduleWdtFail 3) s)

/-- R437: a write to WDT.KEY. -/
def execWdtKeyWrite (src : Path) (v : Nat) (s : State) : Out :=
  .next (command src K.wdtKey (le 2 v) (fun s =>
    if s.on K.wdtLock then refuse Err.locked s
    else
      let g := s.gate
      let k := keyStep s.now g.keyPos g.keyBy g.keyAt src v
      if k.1 = 3 then
        accept (only (s.rdN K.wdtState = Mwdt.running) (fun s => raiseWdt (wrN K.wdtState Mwdt.disabled s))
          (updGate (fun g => { g with keyPos := 0, keyBy := none, expectB := false }) s))
      else accept (updGate (fun g => { g with keyPos := k.1, keyBy := k.2.1, keyAt := k.2.2 }) s)) s)

/-- R437: a write to WDT.LOCK. -/
def execWdtLockWrite (src : Path) (v : Nat) (s : State) : Out :=
  .next (command src K.wdtLock (le 1 v) (fun s => if v = 1 then accept (wdtLock s) else refuse Err.locked s) s)

/-- R436: a write of 1 to WDT.ENABLE. -/
def execWdtEnableWrite (src : Path) (v : Nat) (s : State) : Out :=
  .next (command1 src K.wdtEnable v (fun s =>
    accept (only (s.rdN K.wdtState = Mwdt.disabled) (fun s =>
      wrN K.wdtState Mwdt.running (updGate (fun g => { g with wdtS := s.now, expectB := false }) s)) s)) s)

/-! ### Sensors (R439 to R443) -/

/-- R439: state of a sensor after a reading: 0 normal, 1 WARN, 2 CRIT; it is left 3 °C below its limit. -/
def tempState (warn crit old v : Int) : Int :=
  if crit < v ∨ (old = 2 ∧ crit - 30 < v) then 2 else if warn < v ∨ (1 ≤ old ∧ warn - 30 < v) then 1 else 0

/-- R439: one reading of sensor k. -/
def readTemp (k : Nat) (v : Int) (s : State) : State :=
  let warn := if k < 4 then 850 else s.rd K.tempWarn
  let crit := if k < 4 then 950 else s.rd K.tempCrit
  let old := Tab.get s.gate.temp k 0
  let new := (tempState warn crit old v).toNat
  let s := wr (K.tempValue k) v s
  let s := only (k < 4 && s.rd K.tempPlateMax < v) (wr K.tempPlateMax v) s
  if old = new then s
  else
    let s := updGate (fun g => { g with temp := Tab.put g.temp k new 0, critAt := Tab.put g.critAt k (if new = 2 then s.now + 1 else 0) 0 }) s
    let s := wrN K.tempWarnMap (setBit (s.rdN K.tempWarnMap) k (1 ≤ new)) (wrN K.tempCritMap (setBit (s.rdN K.tempCritMap) k (new = 2)) s)
    raiseSev Ev.temperature (le 1 k ++ le 1 new ++ le 2 (unsigned 2 v)) (if new = 2 then 5 else if new = 1 then 3 else 2) s

/-- R439: the 32 sensors are read, in 0.1 °C. -/
def execTemperatureSample (vals : List Int) (s : State) : Out :=
  .next (only s.ghRuns (each (List.range 32) (fun k => readTemp k (signed 2 (unsigned 2 (vals.getD k 0))))) s)

/-- R433, R439: sensor k has been CRIT for 1 s. -/
def execTemperatureCritExpiry (k : Nat) (s : State) : Out :=
  let t := Tab.get s.gate.critAt k 0
  .next (only (k < 32 && s.ghRuns && t ≠ 0 && t - 1 + sec ≤ s.now) (fun s =>
    settleFault 5 false (updGate (fun g => { g with critAt := Tab.put g.critAt k 0 0 }) s)) s)

/-- R466: nominal voltage of rail k in mV. -/
def railNominal (k : Nat) : Nat := ([750, 750, 750, 750, 750, 750, 850, 1100, 600, 900, 1800, 3300, 3300, 5000, 800, 1000, 1200, 900] : List Nat).getD k 0

/-- R440: state of a rail at a voltage: 0 normal, 1 WARN, 2 FAULT. -/
def railState (k mv : Nat) : Nat :=
  let n := railNominal k
  let d := if mv < n then n - mv else mv - n
  if n * 10 < d * 100 then 2 else if n * 5 < d * 100 then 1 else 0

/-- R440, R433: rail k has stood at `mv` for `held` µs. -/
def execRailStateChange (k mv held : Nat) (s : State) : Out :=
  let old := Tab.get s.gate.rail k 0
  let new := railState k mv
  .next (only (k < 18 && s.ghRuns) (fun s =>
    let s := wrN (K.railMv k) (min mv 65535) s
    only (new ≠ old && (new < old || 1000 ≤ held)) (fun s =>
      let s := updGate (fun g => { g with rail := Tab.put g.rail k new 0 }) s
      let s := wrN K.railWarnMap (setBit (s.rdN K.railWarnMap) k (1 ≤ new)) (wrN K.railFaultMap (setBit (s.rdN K.railFaultMap) k (new = 2)) s)
      let s := raiseSev Ev.rail (le 1 k ++ le 1 new ++ le 2 mv) (if new = 2 then 5 else if new = 1 then 3 else 2) s
      only (new = 2) (settleFault 6 false) s) s) s)

/-- R441: the level cell of a band RMS in g. -/
def vibLevel (v : Nat) : Nat :=
  ([frat 1 100, frat 3 100, frat 1 10, frat 3 10, frat 1 1, frat 3 1, frat 10 1].filter (fun t => f32.le t v)).length

/-- R441: the 96 band RMS values of one second, by axis then band, and the RMS of each axis, as F32. -/
def execVibrationSpectrum (rms : List Nat) (total : List Nat) (s : State) : Out :=
  .next (only s.ghRuns (fun s =>
    let h := (List.range 96).foldl (fun h i =>
      let o := 4 * (8 * i + vibLevel (rms.getD i 0))
      overlay h o (le 4 (satInc U32.max (fieldAt h o 4)))) (s.blobOf K.vibHistogram)
    let s := wrBlob K.vibRms ((List.range 3).flatMap (fun a => le 4 (total.getD a 0))) (wrBlob K.vibHistogram h s)
    each ((List.range 96).filter (fun i => f32.lt (s.rdN K.vibAlert) (rms.getD i 0)))
      (fun i => raise Ev.vibration (le 1 (i / 32) ++ le 1 (i % 32) ++ le 4 (rms.getD i 0))) s) s)

/-- R441: a sample of magnitude `mag` (F32, in g) starts a shock record. -/
def execShockStart (x y z mag : Nat) (s : State) : Out :=
  .next (only (s.ghRuns && s.gate.shock.isNone && f32.le (frat (s.rdN K.vibShockLevel) 10) mag)
    (updGate (fun g => { g with shock := some (s.tb64 3, s.now, [x, y, z]) })) s)

/-- R441: the magnitude has stayed below the level for 10 ms; the peaks of the shock as F32, and the time above the
level in µs. -/
def execShockEnd (x y z above : Nat) (s : State) : Out :=
  .next (only s.ghRuns (fun s =>
    match s.gate.shock with
    | none => s
    | some (t, _, p) =>
      let pk := [fmax (fabs (p.getD 0 0)) (fabs x), fmax (fabs (p.getD 1 0)) (fabs y), fmax (fabs (p.getD 2 0)) (fabs z)]
      let r := le 8 t ++ pk.flatMap (le 4) ++ le 4 above ++ le 8 0
      let s := updGate (fun g => { g with shock := none }) s
      let s := wrBlob K.vibShockLog (r ++ (s.blobOf K.vibShockLog).take 2016) (inc K.vibShocks U32.max s)
      let old := s.blobOf K.vibPeak
      let s := wrBlob K.vibPeak ((List.range 3).flatMap (fun a => le 4 (fmax (fieldAt old (4 * a) 4) (pk.getD a 0)))) s
      raise Ev.shock r s) s)

/-- R442: humidity in 0.1 %, and the lid light sensor in counts. -/
def execHumiditySample (rh lid : Nat) (s : State) : Out :=
  .next (only s.ghRuns (fun s =>
    let s := wrN K.envLidLight (min lid 65535) (wrN K.envRh (min rh 65535) s)
    if rh ≤ s.rdN K.envRhWarn then updGate (fun g => { g with rhSince := none, rhRaised := false }) s
    else
      let t := s.gate.rhSince.getD s.now
      let s := updGate (fun g => { g with rhSince := some t }) s
      only (!s.gate.rhRaised && s.past t (60 * sec)) (fun s =>
        raise Ev.humidity (le 2 rh) (updGate (fun g => { g with rhRaised := true }) s)) s) s)

/-- Insertion into a rising list. -/
def insertNat (x : Nat) : List Nat → List Nat
  | [] => [x]
  | y :: r => if x ≤ y then x :: y :: r else y :: insertNat x r

/-- R443: the median; of an even number of readings, the mean of the two middle ones, truncated. -/
def median (l : List Nat) : Nat :=
  let t := l.foldl (fun a x => insertNat x a) []
  let n := t.length
  if n = 0 then 0 else if n % 2 = 1 then t.getD (n / 2) 0 else (t.getD (n / 2 - 1) 0 + t.getD (n / 2) 0) / 2

/-- R443: pair j against one threshold; `b` is its bit of CONT.STATE. -/
def contCheck (j b limit code : Nat) (s : State) : State :=
  let v := s.rdN (K.contMohm j)
  let base := s.rdN (K.contBaseline j)
  let rise := v - base
  let st := s.rdN K.contState
  if limit < rise ∧ !bitOf st b then
    raiseSev Ev.contactResistance (le 1 j ++ le 2 v ++ le 2 base ++ le 1 code) (if code = 2 then 4 else 3) (wrN K.contState (setBit st b true) s)
  else if rise * 10 ≤ limit * 8 then wrN K.contState (setBit st b false) s
  else s

/-- R443: every contact-sense loop is measured, in mΩ. -/
def execContactSenseMeasure (mohm : List Nat) (s : State) : Out :=
  .next (only s.ghRuns (fun s =>
    let s := each (List.range 16) (fun j s =>
      let l := pushFront 6 (min 65535 (mohm.getD j 0)) (Tab.get s.gate.cont j [])
      wrN (K.contMohm j) (median l) (updGate (fun g => { g with cont := Tab.put g.cont j l [] }) s)) s
    match s.gate.rebaseAt with
    | some t =>
      let s := each (List.range 16) (fun j =>
        updGate (fun g => { g with contFirst := Tab.put g.contFirst j (min 65535 (mohm.getD j 0) :: Tab.get g.contFirst j []) [] })) s
      only (s.past t (3600 * sec)) (fun s =>
        let s := each (List.range 16) (fun j s => wrN (K.contBaseline j) (median (Tab.get s.gate.contFirst j [])) s) s
        updGate (fun g => { g with rebaseAt := none, contFirst := [] }) s) s
    | none =>
      each (List.range 16) (fun j s => contCheck j (16 + j) (s.rdN K.contCrit) 2 (contCheck j j (s.rdN K.contWarn) 1 s)) s) s)

/-- R443: the first hour of a new baseline begins. -/
def rebase (s : State) : State := updGate (fun g => { g with rebaseAt := some s.now, contFirst := [] }) s

/-- R443: a write of 1 to CONT.REBASE. -/
def execContactRebase (src : Path) (v : Nat) (s : State) : Out :=
  .next (command1 src K.contRebase v (fun s => accept (rebase s)) s)

/-! ### Wear ledger (R444) -/

/-- R444: the band of a cold-plate temperature. -/
def plateBand (v : Int) : Nat := if v < -300 then 0 else if 900 < v then 13 else min 12 (((v + 300) / 100).toNat + 1)

/-- R460: a lane in this role is powered. -/
def lanePowered (r : Nat) : Bool := r = Rl.service || r = Rl.split || r = Rl.joining || r = Rl.fenced || r = Rl.paused || r = Rl.test

/-- R444: the wear ledger, every 60 s: powered hours, hours by band of the hottest cold-plate sensor, hours of each lane,
and the figures it copies. -/
def execWearLedgerUpdate (s : State) : Out :=
  .next (only (s.ghRuns && s.past s.gate.wearAt (60 * sec)) (fun s =>
    let s := updGate (fun g => { g with wearAt := s.now }) s
    let m := s.sec.wearMin + 1
    let s := updSec (fun x => { x with wearMin := m % 60 }) s
    let s := only (m = 60) (inc K.wearHours U32.max) s
    let hot := ([1, 2, 3] : List Nat).foldl (fun a k => max a (s.rd (K.tempValue k))) (s.rd (K.tempValue 0))
    let b := plateBand hot
    let pm := Tab.get s.sec.plateMin b 0 + 1
    let s := updSec (fun x => { x with plateMin := Tab.put x.plateMin b (pm % 60) 0 }) s
    let s := only (pm = 60) (fun s =>
      let h := s.blobOf K.wearPlateHours
      wrBlob K.wearPlateHours (overlay h (4 * b) (le 4 (satInc U32.max (fieldAt h (4 * b) 4)))) s) s
    let s := each ((List.range 15).filter (fun n => lanePowered (s.role n))) (fun n s =>
      let lm := Tab.get s.sec.laneMin n 0 + 1
      let s := updSec (fun x => { x with laneMin := Tab.put x.laneMin n (lm % 60) 0 }) s
      only (lm = 60) (inc (K.laneHours n) U32.max) s) s
    wrN K.wearStorageMargin (s.rdN K.storMargin) (wrN K.wearWdtExpiries (s.rdN K.wdtExpiries) s)) s)

/-! ### Service Ethernet (R445) -/

/-- R445: a frame of the service port: kind 0 IPv6 neighbour discovery or ICMPv6, 1 ARP or ICMP, 2 DAP, 3 an update
download, 4 anything else. What an accepted DAP or download frame does is its own command. -/
def execServiceEthFrame (kind : Nat) (s : State) : Out :=
  .next (only (s.ghRuns && s.mode ≠ Mode.dormant && s.on K.svcethEnable && s.rdN K.svcethLink ≠ 0) (fun s =>
    let s := if s.past s.gate.svcAt sec then updGate (fun g => { g with svcAt := s.now, svcN := 0 }) s else s
    let s := updGate (fun g => { g with svcN := g.svcN + 1 }) s
    let ok := s.gate.svcN ≤ 10000
      && (kind = 0 || (kind = 1 && s.blobOf K.svcethIpv4 ≠ blobDefault K.svcethIpv4) || (kind = 2 && s.on K.dictDapEnable) || kind = 3)
    if ok then wrN K.svcethFrames (s.rdN K.svcethFrames + 1) s else inc K.svcethDiscards U32.max s) s)

/-- R445: the link of the service port: 0 down, 1 10 Mbit/s, 2 100 Mbit/s. -/
def execServiceLinkChange (link : Nat) (s : State) : Out :=
  .next (only (s.ghRuns && link < 3 && link ≠ s.rdN K.svcethLink) (fun s =>
    raise Ev.serviceLink (le 1 link) (wrN K.svcethLink link s)) s)

/-! ### The optical port (R446 to R449) -/

/-- R447: STATUS: mode, serial, grade, latched event count and HALT_CAUSE, in 16 bytes. -/
def execOptStatus (f : Bytes) (s : State) : Out :=
  .next (optFrame 1 f (fun _ s => (Err.ok,
    padTo 16 (le 1 s.mode ++ le 4 (s.rdN K.ghSerial) ++ le 1 (s.rdN K.ghGrade)
      ++ le 4 (s.router.latched.filter (·.2)).length ++ le 1 (s.rdN K.modeHaltCause)), s)) s)

/-- R447: CHALLENGE: a fresh 16-byte nonce from the TRNG. -/
def execOptChallenge (f : Bytes) (s : State) : Out :=
  .next (optFrame 3 f (fun _ s =>
    if !s.rngServes false then (Err.hardware, [], s)
    else
      let n := s.freeBytes 16
      (Err.ok, n, rngUse false 1 (drawn (updOpt (fun x => { x with nonce := n }) s)))) s)

/-- R447: AUTH: a service token; `sig`: the owner service key verifies its signature. -/
def execOptAuth (f : Bytes) (sig : Bool) (s : State) : Out :=
  .next (optFrame 4 f (fun b s =>
    if b.length ≠ 128 then (Err.length, [], s)
    else
      let role := byteAt b 28
      let reason := if fieldAt b 0 4 ≠ s.rdN K.commIdSerial then 1
        else if s.opt.nonce = [] ∨ slice b 4 16 ≠ s.opt.nonce then 2
        else if !sig ∨ s.blobOf K.keysServicePub = List.replicate 97 0 then 3
        else if fieldAt b 20 8 * 1000000000 ≤ s.tbNs 3 then 4 else 0
      if reason ≠ 0 then (Err.value, [], optRefused reason s)
      else if 2 < role then (Err.value, [], s)
      else
        let r : Role := if role = 2 then .engineer else if role = 1 then .operator else .viewer
        (Err.ok, [], wrN K.optState 1 (updOpt (fun x => { x with isOpen := true, role := r, nonce := [] }) s))) s)

/-- R447: CLOSE. -/
def execOptClose (f : Bytes) (s : State) : Out := .next (optFrame 7 f (fun _ s => (Err.ok, [], optEnd s)) s)

/-- R447: OPT.IDLE seconds without a valid frame. -/
def execOptIdleTimeout (s : State) : Out :=
  .next (only (s.opt.isOpen && s.rdN K.optState ≠ 2 && s.past s.opt.lastFrame (s.rdN K.optIdle * sec)) optEnd s)

/-- R449: a 100 ms interval of the port's clock ends: the ambient channel saturated in it; frames that failed framing
or FCS; ambient counts. -/
def execOptFloodInterval (sat : Bool) (bad ambient : Nat) (s : State) : Out :=
  .next (only (s.ghRuns && s.mode ≠ Mode.dormant && s.on K.optEnable) (fun s =>
    let flood := sat || 3 ≤ bad
    let s := wrN K.optAmbient (min ambient 65535) s
    if s.rdN K.optState = 2 then
      let s := wrN K.optFloodMs (satAdd U32.max (s.rdN K.optFloodMs) 100) s
      let n := if flood then 0 else s.opt.clearRun + 1
      let s := updOpt (fun x => { x with clearRun := n }) s
      only (10 ≤ n) (fun s =>
        let new := b2n s.opt.isOpen
        let s := updOpt (fun x => { x with clearRun := 0, floodRun := 0, lastFrame := x.lastFrame + (s.now - x.highAt) }) s
        raise Ev.opticalAmbient (le 1 new ++ le 2 ambient) (wrN K.optState new s)) s
    else
      let n := if flood then s.opt.floodRun + 1 else 0
      let s := updOpt (fun x => { x with floodRun := n }) s
      only (20 ≤ n) (fun s =>
        let s := updOpt (fun x => { x with floodRun := 0, clearRun := 0, highAt := s.now }) s
        raise Ev.opticalAmbient (le 1 2 ++ le 2 ambient) (wrN K.optState 2 s)) s) s)

end Sys2Proof.Machine
end

