-- ==== Sys2Proof/Machine/Net.lean ====
section
/-! DEFINITION. The commands of the switch (R332 to R349). -/

namespace Sys2Proof.Machine

/-- R333: the link of port n changes to SPEED code `speed`; on link down its queues are discarded. -/
def execPortLinkChange (n speed : Nat) (s : State) : Out :=
  .next (only (n < 8 && s.swRuns && speed ≤ 6 && speed ≠ s.rdN (K.portSpeed n)) (fun s =>
    let p := s.swPort n
    let lost := p.queue ++ p.sending.toList
    let s := wrN (K.portSpeed n) speed s
    let s := if speed ≠ 0 then s else
      let s := updPort n (fun q => { q with queue := [], sending := none }) s
      let s := wrN (K.portTxDiscards n) (satAdd U32.max (s.rdN (K.portTxDiscards n)) lost.length) s
      let s := wrN (K.portPreemptState n) 0 s
      each (lost.filter (·.launch.isSome)) (fun f s => dropLate n (s.lateness f) f s) s
    let up := (speed ≠ 0)
    -- R345: verification with the new link partner
    let s := only (up && s.rdN (K.portPreempt n) ≠ 0) (wrN (K.portPreemptState n) 1) s
    startNext n (raiseSev (Ev.portLink n) (le 1 n ++ le 1 speed) (if up then 2 else 3) s)) s)

/-! ### Reception -/

/-- R338: vector recovery: whether the copy with sequence number q is accepted, and the stream after it. -/
def recover (now q : Nat) (x : Stream) : Bool × Stream :=
  let d : Int := signed 2 ((q + 65536 - x.recv) % 65536)
  if !x.taken then (true, { x with taken := true, recv := q, history := 1, takenAt := now })
  else if d ≥ 32 ∨ d ≤ -32 then (false, x)
  else if d ≤ 0 then
    if bitOf x.history d.natAbs then (false, x) else (true, { x with history := setBit x.history d.natAbs true, takenAt := now })
  else (true, { x with recv := q, history := (x.history * 2 ^ d.natAbs + 1) % 2 ^ 32, takenAt := now })

/-- R337: the flow meter of a stream admits `n` bytes, and the stream after it. -/
def meter (r : Bytes) (now n : Nat) (x : Stream) : Bool × Stream :=
  let level := min 0 (x.meter + (St.rate r * (now - x.meterAt) : Nat))
  let need : Int := (n * 8000000 : Nat)
  if need ≤ level + (St.burst r * 8000000 : Nat) then (true, { x with meter := level - need, meterAt := now })
  else (false, { x with meter := level, meterAt := now })

/-- R340: a matched frame of a PAVILION stream, with its ingress capture on port n. -/
def ringReceive (h n : Nat) (f : Bytes) (s : State) : State :=
  let s := ringFollow h s
  let r := s.streamRec h
  let e := (s.strm h).pos
  let a := ringAddr r e
  if (s.strm h).suspended || !s.pavBusy (St.owner r) then s
  else if s.ringState r e ≠ 0 then
    raiseOwned Ev.streamRing (le 2 h ++ le 1 1) (St.owner r) (incStream h 12 s)
  else
    let p := St.owner r
    let tb := ofLe (s.bufGet p (a + 5) 1) % 8
    let t := ((s.tbVal tb : Int) - s.rd (K.portIngressLat n) * 65536).toNat
    let s := bufPut p (a + 32) f s
    let s := bufPut p (a + 8) (le 12 (t96 t)) s
    let s := bufPut p (a + 4) (le 1 (setBit (ofLe (s.bufGet p (a + 4) 1)) 1 true)) s
    let s := bufPut p (a + 2) (le 2 f.length) s
    setRingState r e 2 (updStrm h (fun x => { x with pos := (e + 1) % St.entries r }) s)

/-- R337: the stream a frame belongs to. -/
def State.matchStream (s : State) (e : Eth) : Option Nat :=
  s.streamsOn.find? (fun h =>
    let r := s.streamRec h
    (!St.out r || St.endpoint r = 0) && St.vid r = e.vid && St.dmac r = e.dst)

/-- R337: a matched frame is dropped for a reason: 1 port, 2 size, 3 meter. -/
def streamDrop (h n reason : Nat) (s : State) : State :=
  raiseOwned Ev.streamDrop (le 2 h ++ le 1 n ++ le 1 reason) (St.owner (s.streamRec h)) (incStream h 4 s)

/-- R337, R338: a frame in stream h. -/
def inStream (h n : Nat) (f : Bytes) (e : Eth) (s : State) : State :=
  let r := s.streamRec h
  if !(St.ports r).contains n then streamDrop h n 1 s
  else if St.police r ∧ St.maxSdu r < f.length + 4 then streamDrop h n 2 s
  else
    let m := meter r s.now (f.length + 4) (s.strm h)
    let s := if St.police r then updStrm h (fun _ => m.2) s else s
    if St.police r && !m.1 then streamDrop h n 3 s
    else
      let tagged := St.frer r && e.type = 0xF1C1
      let v := recover s.now (be2 e.rest 4) (s.strm h)
      let s := if tagged then updStrm h (fun _ => v.2) s else s
      if tagged && !v.1 then incStream h 8 s
      else
        let e := if tagged then { e with rest := e.rest.drop 6 } else e
        let s := incStream h 0 s
        if St.endpoint r = 0 then forward n e s
        else if St.endpoint r = 1 then toInternal 8 e s
        else ringReceive h n (e.bytes e.tagged) s

/-- R349: a side of a redundancy pair is heard, or DOWN. -/
def redTo (r side st n : Nat) (s : State) : State :=
  let k := if side = 0 then K.redStateA r else K.redStateB r
  if s.rdN k = st then s
  else raiseSev (Ev.redLan r) (le 1 r ++ le 1 n ++ le 1 st) (if st = 1 then 4 else 2) (wrN k st s)

/-- R348: what a redundancy pair makes of a frame received on side `side`: the frame, or none where it ends here. -/
def redReceive (r side n : Nat) (e : Eth) (s : State) : Option Eth × State :=
  let s := updRed r (fun x => if side = 0 then { x with heardA := s.now } else { x with heardB := s.now }) s
  let s := redTo r side 0 n s
  let hsr := decide (s.rdN (K.redMode r) = 2)
  let len := e.rest.length
  let own := decide (e.src = s.blobOf K.swBridgeMac)
  let tagged := if hsr then e.type = 0x892F else 8 ≤ len && be2 e.rest (len - 2) = 0x88FB
  let q := if hsr then be2 e.rest 4 else be2 e.rest (len - 6)
  let lan := be2 e.rest (len - 4) / 4096
  if !tagged then (some e, s)
  else
    let s := only (!hsr && lan ≠ 10 + side) (inc (K.redWrongLan r) U32.max) s
    let inner := if hsr then { e with rest := e.rest.drop 6 } else { e with rest := e.rest.take (len - 6) }
    let live := (s.red r).seen.filter (fun x => s.now < x.2.2.2 + s.rdN (K.redEntryForget r) * ms)
    let dup := live.any (fun x => x.1 = e.src && x.2.1 = q)
    let s := updRed r (fun x => { x with seen := (if dup then live else (e.src, q, n, s.now) :: live).take 2048 }) s
    let s := if inner.type = 0x88FB then
        updRed r (fun x => { x with nodes := ((e.src, s.now) :: x.nodes.filter (fun y => y.1 ≠ e.src)).take 1024 }) s else s
    let s := wrN (K.redNodes r) (s.red r).nodes.length s
    if own then (none, s)
    else if dup then (none, wrN (K.redDuplicates r) (s.rdN (K.redDuplicates r) + 1) s)
    else
      -- R348: ring frames of other nodes pass on in hardware
      let other := if side = 0 then s.rdN (K.redPortB r) else s.rdN (K.redPortA r)
      let s := only (hsr && e.dst ≠ s.blobOf K.swBridgeMac) (enqueueOne other { cls := e.pcp, bytes := e.bytes e.tagged }) s
      (some inner, s)

/-- R334, R337: a frame `f`, without FCS, received on port n; `good`: its FCS holds. -/
def execFrameReceive (n : Nat) (f : Bytes) (good : Bool) (s : State) : Out :=
  .next (only (n < 10 && s.swRuns && s.portUp n) (fun s =>
    let e := parseEth (s.rdN (K.portPvid n)) f
    if !good ∨ f.length < 60 ∨ (if e.tagged then 1522 else 1518) < f.length + 4 then inc (K.portRxErrors n) U32.max s
    else
      let s := wrN (K.portRxFrames n) (s.rdN (K.portRxFrames n) + 1) s
      if s.rdN (K.portState n) = 1 ∧ !s.forPort9 e then s
      else
        let a := match s.redOf n with
          | some (r, side) => redReceive r side n e s
          | none => (some e, s)
        match a.1 with
        | none => a.2
        | some e =>
          let s := a.2
          match (if n < 8 then s.matchStream e else none) with
          | some h => inStream h n f e s
          | none =>
            let s := if n < 8 then learn n e.vid e.src s else s
            if e.dst = s.blobOf K.swBridgeMac then toInternal 9 e s else forward n e s) s)

/-- R334: entries of the filtering database older than FDB_AGE are removed. -/
def execFdbAgeing (s : State) : Out :=
  .next (only s.swRuns (fun s =>
    let s := updNet (fun x => { x with fdb := x.fdb.filter (fun e => s.now < e.at_ + s.rdN K.swFdbAge * 1000 * ms) }) s
    wrN K.swFdbUsed s.net.fdb.length s) s)

/-- R334: learnt entries are removed. -/
def execFdbFlush (src : Path) (v : Nat) (s : State) : Out :=
  .next (command1 src K.swFdbFlush v (fun s => accept (wrN K.swFdbUsed 0 (updNet (fun x => { x with fdb := [] }) s))) s)

/-- R338: no copy has been accepted for 100 ms. -/
def execFrerResetTimeout (h : Nat) (s : State) : Out :=
  .next (only (h < 4096 && s.swRuns && (s.strm h).taken && s.past (s.strm h).takenAt (100 * ms))
    (updStrm h (fun x => { x with taken := false, recv := 0, history := 0 })) s)

/-! ### Rings and gates -/

/-- R340: the next entry of OUT ring h is read. -/
def pollRing (h : Nat) (s : State) : State :=
  let s := ringFollow h s
  let r := s.streamRec h
  let p := St.owner r
  let e := (s.strm h).pos
  let a := ringAddr r e
  if (s.strm h).suspended || !St.out r || s.pavState p ≠ Prog.run || s.ringState r e ≠ 1 then s
  else
    let len := ofLe (s.bufGet p (a + 2) 2)
    let launch := bitOf (ofLe (s.bufGet p (a + 4) 1)) 0
    let tb := ofLe (s.bufGet p (a + 5) 1)
    let s := updStrm h (fun x => { x with pos := (e + 1) % St.entries r }) s
    if len < 48 ∨ 1500 < len ∨ 8 ≤ tb ∨ (launch && !(St.ports r).all (fun n => bitOf (s.rdN (K.portLaunchMask n)) (St.prio r))) then
      setRingState r e 4 s
    else
      let t := (ofT96 (ofLe (s.bufGet p (a + 8) 12)) / 65536 : Nat)
      let frame : Eth := { dst := St.dmac r, src := s.blobOf K.swBridgeMac, vid := St.vid r, pcp := St.prio r, tagged := true
                           rest := s.bufGet p (a + 32) len }
      -- R347: TB0's launch times are held in scan time
      let at_ : Int := if tb = 0 then (t : Int) - s.rd K.scanStepSum else t
      sendStream h frame { launch := if launch then some at_ else none, base := tb, entry := some e } s

/-- R340: every 10 µs each ring is looked at. -/
def execRingTxPoll (s : State) : Out :=
  .next (only (s.swRuns && s.past s.net.pollAt (10 * us)) (fun s =>
    each (s.streamsOn.filter (fun h => St.endpoint (s.streamRec h) = 2)) pollRing (updNet (fun x => { x with pollAt := s.now }) s)) s)

/-- R342: APPLY checks the administrative list of port n. -/
def execGateApply (src : Path) (n v : Nat) (s : State) : Out :=
  .next (only (n < 8) (command1 src (K.gateApply n) v (fun s =>
    let g := s.adminList n
    if !g.ok then (Err.value, s)
    else accept (wrN (K.gateState n) (if s.on (K.gateEnable n) then 1 else 0) (updPort n (fun p => { p with pend := some g }) s)))) s)

/-- R342: the new list becomes operational at its cycle start. -/
def execGateListSwitch (n : Nat) (s : State) : Out :=
  .next (only (n < 8 && s.swRuns) (fun s =>
    match (s.swPort n).pend with
    | some g =>
      only (g.start ≤ s.listTime g.tb) (fun s =>
        let s := updPort n (fun p => { p with oper := some g, pend := none }) s
        let s := wrN (K.gateOperBase n) (t96 g.base) (wrN (K.gateState n) (if s.on (K.gateEnable n) then 2 else 0) s)
        startNext n (raise Ev.gateListApplied (le 1 n ++ le 12 (t96 g.base)) s)) s
    | none => s) s)

/-- R335, R341: an interval ends: a preemptable frame whose gate has closed is preempted, and what may start starts. -/
def execGateIntervalEnd (n : Nat) (s : State) : Out :=
  .next (only (n < 8 && s.swRuns) (fun s =>
    let p := s.swPort n
    match p.sending with
    | some f =>
      if s.preempts n f.cls && (s.gateOpen n f.cls).isNone then startNext n (cutSending n (settleCredit n s))
      else if s.rdN (K.portPreemptState n) = 2 then startNext n s
      else s
    | none => startNext n s) s)

/-- R345: IEEE 802.3br verification with the link partner ends. -/
def execPreemptVerify (n : Nat) (ok : Bool) (s : State) : Out :=
  .next (only (n < 8 && s.swRuns && s.rdN (K.portPreempt n) ≠ 0) (fun s =>
    if ok then startNext n (wrN (K.portPreemptState n) 2 s)
    else raise Ev.preemptVerifyFailed (le 1 n) (wrN (K.portPreemptState n) 3 s)) s)

/-! ### Redundancy supervision -/

/-- R348: a supervision frame every LIFE_CHECK. -/
def execRedSupervisionSend (r : Nat) (s : State) : Out :=
  .next (only (r < 2 && s.swRuns && s.rdN (K.redMode r) ≠ 0 && s.past (s.red r).superAt (s.rdN (K.redLifeCheck r) * ms)) (fun s =>
    let mac := s.blobOf K.swBridgeMac
    let tlv := if s.rdN (K.redMode r) = 1 then 20 else 23
    let body := beBytes 0x88FB ++ beBytes 1 ++ beBytes (s.red r).seq ++ le 1 tlv ++ le 1 6 ++ mac ++ le 2 0
    let e : Eth := { dst := [0x01, 0x15, 0x4E, 0x00, 0x01, 0x00], src := mac, vid := s.rdN (K.portPvid (s.rdN (K.redPortA r))), pcp := 0
                     tagged := false, rest := padTo 46 body }
    egress (s.rdN (K.redPortA r)) false e {} (updRed r (fun x => { x with superAt := s.now }) s)) s)

/-- R349: nothing has arrived from a side of pair r for 3 × LIFE_CHECK. -/
def execRedLanDown (r side : Nat) (s : State) : Out :=
  let at_ := if side = 0 then (s.red r).heardA else (s.red r).heardB
  .next (only (r < 2 && side < 2 && s.swRuns && s.rdN (K.redMode r) ≠ 0 && s.past at_ (3 * s.rdN (K.redLifeCheck r) * ms))
    (redTo r side 1 (if side = 0 then s.rdN (K.redPortA r) else s.rdN (K.redPortB r))) s)

/-! ### Transmission -/

/-- R340: the frame being sent on port n ends. -/
def execFrameTransmitComplete (n : Nat) (s : State) : Out :=
  .next (only (n < 10 && s.swRuns) (fun s =>
    let p := s.swPort n
    match p.sending with
    | some f =>
      only (s.past p.startAt (s.wireNs n f.len)) (fun s =>
        let s := updPort n (fun q => { q with sending := none }) (settleCredit n s)
        let s := wrN (K.portTxFrames n) (s.rdN (K.portTxFrames n) + 1) s
        startNext n (ringEnd f 2 p.stamp s)) s
    | none => s) s)

/-- R346: frames whose launch time has come are eligible. -/
def execLaunchTimeReached (n : Nat) (s : State) : Out :=
  .next (only (n < 8 && s.swRuns) (fun s =>
    startNext n (updPort n (fun p => { p with queue := p.queue.map (fun f => { f with eligible := s.launchDue n f }) }) s)) s)

/-- R346: frames that have not begun by launch time plus LATE_TOL are dropped. -/
def execLaunchLateDrop (n : Nat) (s : State) : Out :=
  .next (only (n < 8 && s.swRuns) (fun s =>
    let late (f : TxFrame) : Bool := f.launch.isSome && f.sent = 0 && decide ((s.rdN (K.portLateTol n) : Int) < s.lateness f)
    let gone := (s.swPort n).queue.filter late
    let s := updPort n (fun p => { p with queue := p.queue.filter (fun f => !late f) }) s
    each gone (fun f s => dropLate n (s.lateness f) f s) s) s)

end Sys2Proof.Machine
end

