-- ==== Sys2Proof/Machine/PairCmd.lean ====
section
/-! DEFINITION. The commands of PAIRCMD (R230, R242, R246). -/

namespace Sys2Proof.Machine

/-- R230: a write of 1 to PAIRCMD.TAKEOVER_REQ. The request the partner receives says that it is manual. -/
def execTakeoverReqWrite (src : Path) (v : Nat) (s : State) : Out :=
  .next (command1 src K.paircmdTakeoverReq v (fun s =>
    if !s.pairOp ∨ !s.activeLike then refuse Err.state s
    else accept (send Wire.control (le 1 1 ++ le 1 1) (requestTakeover 0 false s))) s)

/-- R242, R504: whether a HANDOVER is admitted. -/
def State.mayHandover (s : State) : Bool :=
  s.pairOp && s.mode = Mode.active && s.partnerReady && s.rdN K.refState = 0 && s.rdN K.ckptTranslation ≠ 3
    && (List.range 4).all (fun t => s.trState t ≠ Tr.debugSplit)
    && (List.range 32).all (fun b => !bitOf (s.rdN K.updSchemaDiff) b || bitOf (s.rdN K.updPrepared) b)

/-- R242, R243: a write of 1 to PAIRCMD.HANDOVER: the module enters HANDOVER and sends PREPARE. -/
def execHandoverRequest (src : Path) (v : Nat) (s : State) : Out :=
  .next (command1 src K.paircmdHandover v (fun s =>
    if !s.mayHandover then refuse Err.state s
    else
      let s := setMode Mode.handover 25 (wrN K.paircmdHandoverState 1 s)
      let s := updPair (fun p => { p with hoAt := s.now, swapAt := none }) s
      accept (fieldFollow (send Wire.handover (le 1 4) s))) s)

/-- R246: a write of 1 to PAIRCMD.REJOIN. -/
def execPairRejoin (src : Path) (v : Nat) (s : State) : Out :=
  .next (command1 src K.paircmdRejoin v (fun s =>
    if !s.pairOp ∨ s.mode ≠ Mode.standby then refuse Err.state s else accept (pairFollow (joinStart s))) s)

end Sys2Proof.Machine
end

