-- ==== Sys2Proof/Machine/Pavilions.lean ====
section
/-! DEFINITION. The commands of spec/06: program load, region tables, DMA and Pavilion watchdogs. -/

namespace Sys2Proof.Machine

/-- R180: a write of 1 to PAV.p.LOAD. The image and the list last written are loaded, or, where none has been written
since the reset, those of the latest load. -/
def execPavLoad (src : Path) (p : Nat) (s : State) : Out :=
  .next (only (p < 256) (command src (K.pavLoad p) (le 1 1) (fun s =>
    if s.pavBusy p then refuse Err.state s
    else
      let pick (k : Nat) (kept : Bytes) : Bytes := if s.blobOf k = [] then kept else s.blobOf k
      accept (loadProgram p (pick (K.pavProgram p) (s.pav p).image) (pick (K.pavDeclare p) (s.pav p).declList) s))) s)

/-- R180: a write of 2 to PAV.p.LOAD. -/
def execPavUnload (src : Path) (p : Nat) (s : State) : Out :=
  .next (only (p < 256) (command src (K.pavLoad p) (le 1 2) (fun s =>
    if s.pavBusy p then refuse Err.state s else accept (unloadProgram p s))) s)

/-- R184: a write of 1 to REGION_ARM. -/
def execRegionArm (src : Path) (p : Nat) (s : State) : Out :=
  .next (only (p < 256) (command src (K.pavRegionArm p) (le 1 1) (fun s =>
    writeThen (K.pavRegionArm p) (le 1 1) (!s.pavBusy p) Err.state (armTable p) s)) s)

/-- R184: a write of 0 to REGION_ARM. -/
def execRegionDisarm (src : Path) (p : Nat) (s : State) : Out :=
  .next (only (p < 256) (command src (K.pavRegionArm p) (le 1 0) (fun s =>
    writeThen (K.pavRegionArm p) (le 1 0) (!s.pavBusy p) Err.state (disarmTable p) s)) s)

/-! ### DMA -/

/-- R190: bytes as p reads them: bits of other owners' points read 0. -/
def State.readMasked (s : State) (p a n : Nat) : Bytes :=
  let as := s.areas
  (List.range n).map (fun i =>
    let x := a + i
    let v := s.byte Mem.fabric x
    if inBase ≤ x ∧ x < outBase then s.maskByte as p false (x - inBase) v
    else if outBase ≤ x ∧ x < outBase + 0x40000 then s.maskByte as p true (x - outBase) v
    else v)

/-- A transfer of p takes a state. -/
def dmaTo (p ticket st : Nat) (s : State) : State :=
  let s := updPav p (fun v => { v with dma := v.dma.map (fun d => if d.ticket = ticket then { d with st := st } else d) }) s
  wrN (K.quotaDmaOpen p) (openDma (s.pav p).dma) s

/-- R194: a transfer ends; where it is not `ok` it has met an uncorrectable error at `addr` (R30). -/
def execDmaTransferComplete (p ticket : Nat) (ok : Bool) (addr : Nat) (s : State) : Out :=
  .next (match (s.pav p).dma.find? (fun d => d.ticket = ticket && d.st < 2) with
    | none => s
    | some d =>
      if ok then
        let data := if d.zero then List.replicate d.len 0 else s.readMasked p d.src d.len
        dmaTo p ticket 2 (store Mem.fabric d.dst data s)
      else
        let s := raiseDma p ticket 4 (dmaTo p ticket 4 s)
        if inSram addr then sramLost addr p d.cls s else pavFault p 6 s)

/-! ### Watchdogs (R204 to R207) -/

/-- R204: the watchdog of p fails: cause 0x32 an expiry, 0x33 an early service. -/
def wdtFail (p cause : Nat) (s : State) : State :=
  let cls := s.runningClass p
  let s := inc (K.pavWdtExpiries p) U32.max s
  raiseProt p cause cls 0 0 0 (pavFault p 4 s)

/-- R204: no service was accepted by s + TIMEOUT. -/
def execPavWdtExpiry (p : Nat) (s : State) : Out :=
  .next (only (p < 256 && s.rdN (K.pavWdtState p) = Wdt.running && (s.pav p).wdtS + s.rdN (K.pavWdtTimeout p) * us < s.now)
    (wdtFail p 0x32) s)


/-- R206: the watchdog of Pavilion p is disabled by its keys. -/
def pavWdtStop (p : Nat) (s : State) : State :=
  let s := updPav p (fun x => { x with wdtOn := false }) s
  raiseProt p 0x34 (s.runningClass p) 0 0 0 (wdtFollow p Wdt.disabled s)

/-- R206: a write to PAV.p.WDT.KEY. When the third key is accepted the partner is told of it by a write of one byte. -/
def execPavWdtKey (src : Path) (p v : Nat) (s : State) : Out :=
  .next (only (p < 256) (command src (K.pavWdtKey p) (le 2 v) (fun s =>
    if s.on (K.pavWdtLock p) then refuse Err.locked s
    else
      let x := s.pav p
      let k := keyStep s.now x.keyPos x.keyBy x.keyAt src v
      if k.1 = 3 then
        let s := pavWdtStop p (updPav p (fun x => { x with keyPos := 0, keyBy := none }) s)
        accept (only s.mirrors (fun s => { s with pair := { s.pair with writes := s.pair.writes ++ [(K.pavWdtKey p, [1])] } }) s)
      else accept (updPav p (fun x => { x with keyPos := k.1, keyBy := k.2.1, keyAt := k.2.2 }) s))) s)

/-- R206: the effect of a write of 1 to PAV.p.WDT.ENABLE; on an enabled watchdog it has no effect. -/
def pavWdtEnableEffect (p : Nat) (s : State) : Nat × State :=
  if (s.pav p).wdtOn then accept s
  else
    let s := updPav p (fun x => { x with wdtOn := true, wdtS := s.now, wdtRan := 0 }) s
    let st := s.pavState p
    accept (wdtFollow p (if st = Prog.run then Wdt.running else if st = Prog.hold then Wdt.frozen else Wdt.idle) s)

/-- R206: a write of 1 to PAV.p.WDT.ENABLE; on an enabled watchdog it has no effect. -/
def execPavWdtEnable (src : Path) (p v : Nat) (s : State) : Out :=
  .next (only (p < 256) (command1 src (K.pavWdtEnable p) v (pavWdtEnableEffect p)) s)

/-- R207: a write to PAV.p.WDT.LOCK. -/
def execPavWdtLock (src : Path) (p v : Nat) (s : State) : Out :=
  .next (only (p < 256) (command src (K.pavWdtLock p) (le 1 v) (fun s =>
    if v = 1 then writeThen (K.pavWdtLock p) (le 1 1) true Err.ok id s
    else if !((s.caller src).any (fun c => 3 ≤ rank c.role)) then refuse Err.roleDenied s
    else writeThen (K.pavWdtLock p) (le 1 0) (!s.pavBusy p) Err.state id s)) s)

end Sys2Proof.Machine
end

