-- ==== Sys2Proof/Machine/Records.lean ====
section
/-! DEFINITION. The commands of spec/14: the archiver, freezes, clears and queries of the event recorder, and the
historian's queries, tag table and buffer (R407 to R421). -/

namespace Sys2Proof.Machine

/-! ### Archive and freeze (R408 to R410) -/

/-- R408: the archiver copies the next record of the ring. -/
def execArchiveCopy (s : State) : Out :=
  .next (only (s.writeCode 2 = Err.ok && !s.pow.flushing) (fun s =>
    match s.recd.ring.find? (fun e => e.ty ≠ Ty.pad && !e.archived) with
    | none => s
    | some e =>
      let s := updRec (fun r => { r with ring := r.ring.map (fun x => if x.ty ≠ Ty.pad ∧ x.seq = e.seq then { x with archived := true } else x) }) s
      archivePut { e with archived := true } s) s)

/-- R409: a write of 1 to REC.FREEZE. -/
def execRecFreeze (src : Path) (s : State) : Out :=
  .next (command src K.recFreeze (le 1 1) (fun s =>
    if s.rdN K.recFrozen ≠ 0 then (Err.locked, s)
    else if s.recd.endedAt.any (fun t => !s.past t (1000 * ms)) then (Err.busy, s)
    else
      let s := wrN K.recFrozen 1 (updRec (fun r => { r with holder := some src, frozenAt := s.now }) s)
      accept (raise Ev.recFreeze (le 2 (sessionNo src) ++ le 1 1 ++ le 4 0 ++ le 4 0) s)) s)

/-- R409: a write of 0, by the holder or by an ENGINEER session or higher. With the ring live it has no effect. -/
def execRecUnfreeze (src : Path) (s : State) : Out :=
  .next (command src K.recFreeze (le 1 0) (fun s =>
    if s.rdN K.recFrozen = 0 then accept s
    else if s.recd.holder = some src ∨ (s.caller src).any (fun c => 2 ≤ rank c.role) then accept (recMerge s)
    else (Err.locked, s)) s)

/-- R409: the freeze began 10 s ago. -/
def execRecFreezeTimeout (s : State) : Out :=
  .next (only (s.rdN K.recFrozen = 1 && s.past s.recd.frozenAt (10000 * ms)) recMerge s)

/-! ### Clears (R411, R412) -/

/-- R411: no clear removes a CLEAR record; `all` takes the security and safety records as well. -/
def cleared (last : Nat) (all : Bool) (e : RecEnt) : Bool :=
  e.ty ≠ Ty.pad && e.ty ≠ Ty.clear && decide (e.seq ≤ last)
    && (all || !((512 ≤ e.event && e.event ≤ 575) || (1216 ≤ e.event && e.event ≤ 1279)))

/-- R411: records leave the ring. One that stands between others leaves a PAD record of its length. -/
def ringClear (f : RecEnt → Bool) (s : State) : State :=
  let pad (e : RecEnt) : RecEnt := { off := e.off, ty := Ty.pad, seq := noSeq, payload := List.replicate (e.size - 28) 0 }
  let s := each (s.recd.ring.filter f) (fun e => store Mem.ring e.off (pad e).bytes) s
  ringEdges (updRec (fun r => { r with ring := r.ring.map (fun e => if f e then pad e else e) }) s)

/-- R411, R412: an accepted clear and its CLEAR record, in one step. -/
def doClear (path last scope role : Nat) (cert : Bytes) (s : State) : State :=
  let f := cleared last (scope = 1)
  let held := s.recd.archive ++ s.recd.ring.filter (fun e => e.ty ≠ Ty.pad)
  let oldest := held.foldl (fun a e => min a e.seq) (s.rdN K.recSeqNext)
  let n := ((held.filter f).map (·.seq)).eraseDups.length
  let s := ringClear f s
  let keep := s.recd.archive.filter (fun e => !f e)
  let s := wrN K.recArchived (keep.getLastD {}).seq (wrN K.recArchiveFirst (keep.headD {}).seq (updRec (fun r => { r with archive := keep }) s))
  let s := wrN (K.partUsed 2) ((keep.map RecEnt.size).foldl (· + ·) 0) s
  let q := takeSeq s
  let e := q.2.markRec Ty.clear q.1 (le 8 oldest ++ le 8 last ++ le 8 n ++ le 1 path ++ le 1 role ++ le 1 scope ++ le 5 0 ++ padTo 48 cert)
  let s := ringWrite e (drawn q.2)
  inc K.recClears U32.max (wrBlob K.recClearLog (padTo 112 e.bytes ++ (s.blobOf K.recClearLog).take 1680) s)

/-- R411: a clear attempt on path 1 or 2: refused with EV 1154, or carried out. The nonce is drawn anew. -/
def clearAttempt (path : Nat) (src : Path) (k : Nat) (v : Bytes) (check : State → Nat) (last scope : Nat) (s : State) : State :=
  match s.caller src with
  | none => s
  | some c =>
    let e := s.checkWrite src (k / 256) (k % 256) v
    let code := if e ≠ Err.ok then e else check s
    let x := match src with
      | .dap n => s.session n
      | _ => {}
    if code = Err.ok then reply Err.ok [] (newNonce K.recClearNonce (doClear path last scope (rank c.role) x.cert s))
    else if code = Err.value ∨ code = Err.roleDenied ∨ code = Err.state then
      let s := raise Ev.recClearRefused (le 1 path ++ le 2 code ++ padTo 18 x.peer) (inc K.recClearRefused U32.max s)
      reply code [] (newNonce K.recClearNonce s)
    else reply code [] s

/-- R411: the STATE_ERROR conditions of both paths. -/
def State.clearable (s : State) : Bool := s.rdN K.recFrozen = 0 && (s.stor = Sto.ready || s.stor = Sto.degraded)

/-- R411: a clear token; `sig`: its signature holds under the session's certificate. -/
def execRecClearToken (src : Path) (v : Bytes) (sig : Bool) (s : State) : Out :=
  let last := fieldAt v 20 8
  let scope := byteAt v 28
  let isDap := match src with
    | .dap _ => true
    | _ => false
  .next (clearAttempt 1 src K.recClearToken v (fun s =>
    if fieldAt v 0 4 ≠ s.rdN K.commIdSerial ∨ slice v 4 16 ≠ s.blobOf K.recClearNonce ∨ !sig ∨ !isDap ∨ 1 < scope
        ∨ fieldAt v 29 3 ≠ 0 ∨ s.rdN K.recSeqNext ≤ last then Err.value
    else if scope = 1 ∧ !(s.caller src).any (fun c => 3 ≤ rank c.role) then Err.roleDenied
    else if !s.clearable then Err.state
    else Err.ok) last scope s)

/-- R411: a clear by key-switch; `asserted`: the input reads asserted. -/
def execRecClearKeyswitch (src : Path) (v : Nat) (asserted : Bool) (s : State) : Out :=
  let s := wrB K.recKeyswitch asserted s
  .next (clearAttempt 2 src K.recClearKeyswitch (le 8 v) (fun s =>
    if s.rdN K.recSeqNext ≤ v then Err.value else if !s.clearable || !asserted then Err.state else Err.ok) v 0 s)

/-! ### Queries (R413, R421) -/

/-- A record in its place by SEQ, once. -/
def insertSeq (e : RecEnt) : List RecEnt → List RecEnt
  | [] => [e]
  | x :: r => if e.seq < x.seq then e :: x :: r else if e.seq = x.seq then x :: r else x :: insertSeq e r

/-- R413: the records held, in ascending SEQ: from the ring where held, otherwise from the archive while it reads. -/
def State.heldRecords (s : State) : List RecEnt :=
  let ring := s.recd.ring.filter (fun e => e.ty ≠ Ty.pad)
  (ring ++ (if s.readCode 2 = Err.ok then s.recd.archive else [])).foldl (fun l e => insertSeq e l) []

/-- What a query has returned so far. -/
structure QueryAcc where
  recs : Bytes := []
  count : Nat := 0
  omitted : Nat := 0
  next : Nat := 0
  done : Bool := false

/-- R413: the result of a recorder query. -/
def State.recQuery (s : State) (c : Caller) (first max lo hi : Nat) : Bytes :=
  let a := (s.heldRecords.filter (fun e => first ≤ e.seq)).foldl (fun (a : QueryAcc) e =>
    if a.done ∨ max ≤ a.count then { a with done := true }
    else if e.event < lo ∨ hi < e.event then { a with next := e.seq + 1 }
    else if !visibleTo c e.owner then { a with omitted := a.omitted + 1, next := e.seq + 1 }
    else if 65520 < a.recs.length + e.size then { a with done := true }
    else { a with recs := a.recs ++ e.bytes, count := a.count + 1, next := e.seq + 1 }) { next := first }
  le 8 (if a.done then a.next else s.rdN K.recSeqNext) ++ le 2 a.count ++ le 2 (min 65535 a.omitted) ++ le 4 a.recs.length ++ a.recs

/-- R413: a recorder query. -/
def execRecqQuery (src : Path) (v : Bytes) (s : State) : Out :=
  .next (command src K.recqQuery v (fun s =>
    let max := fieldAt v 8 2
    match s.caller src with
    | none => (Err.state, s)
    | some c =>
      if max < 1 ∨ 1000 < max ∨ fieldAt v 14 2 ≠ 0 then (Err.value, s)
      else
        let b := s.recQuery c (fieldAt v 0 8) max (fieldAt v 10 2) (fieldAt v 12 2)
        accept (updRec (fun r => { r with results := Tab.put r.results (pathCode src) b [] }) s)) s)

/-- R421: a stored point as a result gives it. -/
def Pt.entry (p : Pt) : Bytes :=
  let rest := p.val.drop 8
  le 8 p.t ++ padTo 8 p.val ++ le 2 p.flags ++ le 2 p.era ++ le 4 0 ++ padTo (up8 rest.length) rest

/-- R421: a result: as many of the entries as MAX and its length admit, and whether there are more. -/
def histResult (max : Nat) (l : List Bytes) : Bytes :=
  let a := l.foldl (fun (a : Bytes × Nat × Bool) e =>
    if a.2.2 ∨ max ≤ a.2.1 ∨ 65520 < a.1.length + e.length then (a.1, a.2.1, true) else (a.1 ++ e, a.2.1 + 1, false)) ([], 0, false)
  le 2 a.2.1 ++ le 1 (b2n a.2.2) ++ le 13 0 ++ a.1

/-- R421: the latest taken sample of an open segment. -/
def State.provisional (s : State) (h : Nat) : List Pt :=
  let x := s.tagSt h
  match x.last with
  | some t =>
    if x.opened then
      [{ tag := h, t := t, val := pointValue (s.tagRec h) x.lastVal, flags := 8 + (if s.synced 3 then 0 else 64), era := s.rdN (K.tbEra 3) % 65536 }]
    else []
  | none => []

/-- R421: a historian query. -/
def execHistqQuery (src : Path) (v : Bytes) (s : State) : Out :=
  .next (command src K.histqQuery v (fun s =>
    let n := fieldAt v 0 2
    let tot := bitOf (byteAt v 2) 0
    let era := fieldAt v 4 2
    let max := fieldAt v 6 2
    let from_ := ofT96 (fieldAt v 8 12)
    let to_ := ofT96 (fieldAt v 20 12)
    let tag := if tot then s.rdN (K.totTag n) else n
    match s.caller src with
    | none => (Err.state, s)
    | some c =>
      if max < 1 ∨ 2000 < max ∨ 1 < byteAt v 2 ∨ byteAt v 3 ≠ 0 ∨ (tot ∧ 128 ≤ n) then (Err.value, s)
      else if !visibleTo c (s.tagOwner tag) then (Err.unknownSub, s)
      else if s.readCode 3 ≠ Err.ok then (s.readCode 3, s)
      else
        let fits (ns e : Nat) : Bool := from_ ≤ ns * 65536 && ns * 65536 ≤ to_ && (era = 0xFFFF || era = e % 65536)
        let l :=
          if tot then s.hist.periods.filter (fun b => fieldAt b 4 2 = n && fits (fieldAt b 8 8 * 1000000000) (fieldAt b 0 4))
          else
            let ps := (s.hist.points ++ s.hist.buffered).filter (fun p => p.tag = n && fits (p.t * 1000) p.era)
            let prov := if s.tbVal 3 ≤ to_ then (s.provisional n).filter (fun p => fits (p.t * 1000) p.era) else []
            (ps ++ prov).map Pt.entry
        accept (updRec (fun r => { r with histResults := Tab.put r.histResults (pathCode src) (histResult max l) [] }) s)) s)

/-! ### The historian's configuration and buffer (R415, R420) -/

/-- R414: reserved bits of a tag record. -/
def tagReserved (r : Bytes) : Bool := byteAt r 0 < 16 && byteAt r 3 = 0 && fieldAt r 30 2 = 0

/-- R282: a point word of `n` bytes, or of one bit, inside the image. -/
def pointWord (w n : Nat) (bit : Bool) : Bool :=
  bits w 30 21 = 0 && (!ptValid w || (ptOff w + n ≤ 0x40000 && (bit || (ptBit w = 0 && ptOff w % 8 = 0))))

/-- R414, R415: an enabled record keeps its rules. -/
def State.tagRule (s : State) (r : Bytes) : Bool :=
  let t := s.tagPeriod r
  let k := Tg.kind r
  let eps := Tg.epsilon r
  let mx := Tg.maxInterval r * 1000
  Tg.cls r < 3 && k < 6 && (if k = 5 then 1 ≤ Tg.strlen r && Tg.strlen r ≤ 64 else Tg.strlen r = 0) && 1 ≤ Tg.divider r
    && Tg.minInterval r ≤ 3600000000 && Tg.maxInterval r ≤ 2592000000
    && pointWord (Tg.source r) (kindBytes r) (k = 0) && pointWord (Tg.quality r) 1 true
    && (if Tg.analog r then
          f32.lt 0 (Tg.quantum r) && !f32.notFinite eps
            && f64.le (dmul (f64.ofInt 4) (f32.conv f64 (Tg.quantum r)).1) (f32.conv f64 eps).1 && Tg.minInterval r + t ≤ mx
        else (k = 0 || k = 5 || f32.eq eps 0) && Tg.minInterval r = 0 && (Tg.maxInterval r = 0 || t ≤ mx))

/-- R415: the samples per second of every enabled tag, in units of 10⁻¹⁸. -/
def State.tagLoad (s : State) : Nat :=
  (s.tags.map (fun h => 1000000 * 10 ^ 18 / max 1 (s.tagPeriod (s.tagRec h)))).foldl (· + ·) 0

/-- R415, R416: the effect of a write of one subindex of the tag table. -/
def histTagTableEffect (g j : Nat) (v : Bytes) (s : State) : Nat × State :=
  let k := K.histTagTable g j
  let rs := (List.range 256).map (fun i => slice v (32 * i) 32)
  let t := wrBlob k v s
  if !(rs.all tagReserved && rs.all (fun r => !Tg.enabled r || s.tagRule r) && t.tagLoad ≤ 2000000 * 10 ^ 18) then (Err.value, s)
  else
    let first := g * 16384 + j * 256
    let s := each ((s.hist.tags.map (·.1)).filter (fun h => first ≤ h && h < first + 256)) (endSegment 32) s
    writeThen k v true 0 histCount s

/-- R415, R416: a write of one subindex of the tag table. -/
def execHistTagTableWrite (src : Path) (g j : Nat) (v : Bytes) (s : State) : Out :=
  .next (only (g < 4 && j < 64) (command src (K.histTagTable g j) v (histTagTableEffect g j v)) s)

/-- R420: the buffer has filled: samples are discarded, and every open segment ends. -/
def execHistBufferOverflow (s : State) : Out :=
  .next (only (s.hist.overflow.isSome && !s.hist.overflowing) (fun s =>
    endSegments 32 (inc K.histOverflows U32.max (updHist (fun x => { x with overflowing := true }) s))) s)

/-- R420: the buffer drains below 2 MiB, and sampling resumes. -/
def execHistBufferDrained (s : State) : Out :=
  .next (only s.hist.overflowing (fun s =>
    let s := histDrain s
    only (s.rdN K.histBufferUsed < histBufferBytes / 2) (fun s =>
      let ms_ := (s.now - s.hist.overflow.getD s.now) / ms
      let s := raise Ev.histOverflow (le 4 s.hist.discarded ++ le 4 ms_) s
      updHist (fun x => { x with overflow := none, overflowing := false, discarded := 0 }) s) s) s)

end Sys2Proof.Machine
end

