-- ==== Sys2Proof/Machine/Router.lean ====
section
/-! DEFINITION. The commands of the event router (spec/01). -/

namespace Sys2Proof.Machine

/-- R32: the router takes the next pending event. During a merge it would hold it; the merge takes no time here (R410). -/
def execRouterTakeEvent (s : State) : Out :=
  .next (match s.nextEvent with
    | some n => takeEvent n s
    | none => s)

/-- R33: a whole second of TB4 has begun. -/
def execEventRateWindow (s : State) : Out := .next (only (s.tb4Sec ≠ s.router.winAt) newWindow s)

/-- R529: a write to the configuration of event n. -/
def execEventConfigWrite (src : Path) (n v : Nat) (s : State) : Out :=
  .next (only (n < 1280) (command src (K.evConfig n) (le 4 v) (eventCfgEffect n v)) s)

/-- R36: POP removes the oldest entry; on an empty channel it has no effect. -/
def execEventChannelPop (p : Nat) (s : State) : Out :=
  .next (only (p < 256) (updRouter (fun r => { r with chan := Tab.upd r.chan p {} (fun c => { c with entries := c.entries.drop 1 }) })) s)

/-- R36: a 4-byte store to OVERFLOW; bit 0 clears the flag. -/
def execEventOverflowClear (p v : Nat) (s : State) : Out :=
  .next (only (p < 256 && bitOf v 0) (updRouter (fun r => { r with chan := Tab.upd r.chan p {} (fun c => { c with overflow := false }) })) s)

/-- R406: an event forwarded by the partner arrives. -/
def execPartnerEventReceive (f : Bytes) (s : State) : Out := .next (fromPartner f s)

end Sys2Proof.Machine
end

