-- ==== Sys2Proof/Machine/Safety.lean ====
section
/-! DEFINITION. The commands of spec/08, and SAFETY_WORD_SEND of spec/07. A channel is 1 the safety processor or
2 Parapet. -/

namespace Sys2Proof.Machine

/-- R249: the safety processor's heartbeat; `valid`: it keeps its sequence. -/
def execSpHeartbeat (valid : Bool) (s : State) : Out :=
  .next (only (s.rdN K.safetyState ≠ Isl.off && s.rdN K.safetyState ≠ Isl.startup) (fun s =>
    if valid then updIsl (fun x => { x with hbAt := s.now }) s else islandFault 0 2 s) s)

/-- R249: Parapet has seen no valid heartbeat for 2 ms. -/
def execParapetWatchdogExpiry (s : State) : Out :=
  .next (only (s.rdN K.safetyState ≠ Isl.off && s.rdN K.safetyState ≠ Isl.startup && s.past s.isl.hbAt (2 * ms)) (islandFault 0 2) s)

/-- R250: rails within ±10 %, and VSENS in mV with how long it has stood low, in ms. -/
def execIslandSupplyCheck (railsOk : Bool) (vsens lowFor : Nat) (s : State) : Out :=
  .next (only (s.rdN K.safetyState ≠ Isl.off) (fun s =>
    let bad := !railsOk || (vsens < 18000 && 10 < lowFor)
    let s := updIsl (fun x => { x with supplyBad := bad }) s
    only bad (islandFault 4 1) s) s)

/-- R264: the two cores disagree. -/
def execLockstepFault (s : State) : Out :=
  .next (only (s.rdN K.safetyState ≠ Isl.off && s.rdN K.safetyCpuModeNow = 0) (islandFault 1 1) s)

/-- R255: test-pulse output x; `follows`: its level follows its pattern; `cross`: channels with a cross fault. -/
def execTestPulse (x : Nat) (follows : Bool) (cross : List Nat) (s : State) : Out :=
  .next (only (x < 4 && s.rdN K.safetyState ≠ Isl.off) (fun s =>
    let fed (i c : Nat) : Bool := bits (s.activeN (K.spairSource i)) (4 * c + 3) (4 * c) = x + 1
    let s := if follows then wrN K.safetyFaults (setBit (s.rdN K.safetyFaults) (8 + x) false) s else islandFault (8 + x) 1 s
    each (List.range 12) (fun i s =>
      let tested c := bits (s.activeN (K.spairSource i)) (4 * c + 3) (4 * c) ≠ 0
      let bad c := tested c && cross.contains (2 * i + c)
      let mine := fed i 0 || fed i 1
      let s := updPairIn i (fun p => { p with cross := bad 0 || bad 1, srcFault := if mine then !follows else p.srcFault }) s
      if s.activeN (K.spairType i) = 0 then s
      else if bad 0 ∨ bad 1 then pairFault i 2 (if bad 0 then 0 else 1) s
      else if mine && !follows then pairFault i 3 (if fed i 0 then 0 else 1) s
      else s) s) s)

/-- R254: whether a channel of a pair shows enable, and whether it shows demand; levels: 0 low, 1 high, 2 between. -/
def chanEnable (ty c level : Nat) : Bool := if ty = 1 then level = 1 else if c = 0 then level = 1 else level = 0
def chanDemand (ty c level : Nat) : Bool := if ty = 1 then level = 0 else if c = 0 then level = 0 else level = 1
def pairConsistent (ty a b : Nat) : Bool := a < 2 && b < 2 && (if ty = 1 then a = b else a ≠ b)

/-- R256, R263: entry into DEMAND, from the level of a pressed RESET pair the press duration. -/
def toDemand (i : Nat) (s : State) : State :=
  let was := s.rdN (K.spairState i)
  let s := wrN (K.spairCause i) 0 (wrN (K.spairState i) 0 s)
  let s := if was = 1 then inc (K.spairDemands i) U32.max s else s
  if was = 1 ∧ s.activeN (K.spairType i) = 3 then
    each ((List.range 6).filter (fun g => s.activeN (K.sgroupResetPair g) = i))
      (fun g => updGrp g (fun x => { x with press := some (s.now - (s.pairIn i).pressAt) })) s
  else s

def toEnable (i : Nat) (s : State) : State :=
  wrN (K.spairState i) 1 (updPairIn i (fun p => { p with pressAt := s.now }) s)

/-- R254, R256: the channels of pair i have stood at levels `a` and `b` for `held` µs. -/
def execSafeInputFilterExpiry (i a b held : Nat) (s : State) : Out :=
  let ty := s.activeN (K.spairType i)
  .next (only (i < 12 && ty ≠ 0 && s.activeN (K.spairFilter i) ≤ held && s.rdN K.safetyState ≠ Isl.off) (fun s =>
    let en := chanEnable ty 0 a && chanEnable ty 1 b
    let dem := chanDemand ty 0 a || chanDemand ty 1 b
    let cons := pairConsistent ty a b
    let disc (s : State) : State := updPairIn i (fun p => { p with since := s.now }) (wrN (K.spairState i) 2 s)
    match s.rdN (K.spairState i) with
    | 1 => if dem then (let s := toDemand i s; if cons then s else disc s) else s
    | 0 => if en && cons then toEnable i s else if !cons then disc s else s
    | 2 => if cons then (if en then toEnable i s else toDemand i s) else s
    | _ =>
      if cons && chanDemand ty 0 a && chanDemand ty 1 b && !(s.pairIn i).cross && !(s.pairIn i).srcFault then toDemand i s else s) s)

/-- R256: a pair inconsistent for its discrepancy time. -/
def execSafeInputDiscrepancyExpiry (i : Nat) (s : State) : Out :=
  .next (only (i < 12 && s.rdN (K.spairState i) = 2 && s.past (s.pairIn i).since (s.activeN (K.spairDiscrepancy i) * ms)) (pairFault i 1 0) s)

/-- R256: the channels disagree on the pair for 10 ms; `held` in ms. -/
def execSafeInputChannelDisagree (i held : Nat) (s : State) : Out :=
  .next (only (i < 12 && s.activeN (K.spairType i) ≠ 0 && 10 ≤ held) (pairFault i 4 0) s)

/-! ### Encoders (R257, R258) -/

/-- R258: set a fault bit of encoder e: EV 0556+e, and in a group that uses it torque is removed and ENCODER latched. -/
def encFault (ch e b : Nat) (s : State) : State :=
  let f := s.rdN (K.sencFault e)
  let s := updIsl (fun x => { x with encBad := Tab.put x.encBad (8 * e + b) s.now 0 }) s
  if bitOf f b then s
  else
    let s := wrN (K.sencFault e) (setBit f b true) s
    let s := raiseOwned (Ev.encoderFault e) (le 1 (setBit f b true) ++ le 4 (unsigned 4 (s.rd (K.sencSpeedSp e))) ++ le 4 (unsigned 4 (s.rd (K.sencSpeedPp e))))
      (s.activeN (K.sencOwner e)) s
    only (s.encUsed e && (s.rdN (K.sgroupState e) = Grp.run || s.rdN (K.sgroupState e) = Grp.ss1)) (fun s =>
      grpLatch e 1 (removeTorque ch e 6 false s)) s

/-- R257, R258: a 1 ms gate closes with `edges`, the safety processor's speed, and the conditions of bits 0 and 1. -/
def execEncoderGate (e : Nat) (edges speedSp : Int) (loss invalid : Bool) (s : State) : Out :=
  .next (only (e < 6 && s.activeN (K.sencType e) ≠ 0 && s.rdN K.safetyState ≠ Isl.off && s.rdN K.safetyState ≠ Isl.startup) (fun s =>
    let sg : Int := if s.activeN (K.sencInvert e) = 1 then -1 else 1
    let pp := sg * edges * 1000
    let sp := sg * speedSp
    let s := wr (K.sencPosition e) (signed 8 (unsigned 8 (s.rd (K.sencPosition e) + sg * edges))) s
    let s := wr (K.sencSpeedPp e) pp (wr (K.sencSpeedSp e) sp s)
    let s := only loss (encFault 2 e 0) s
    let s := only invalid (encFault 2 e 1) s
    let mx := s.activeN (K.sencMaxRate e)
    let s := only (mx < pp.natAbs || mx < sp.natAbs) (encFault (if mx < pp.natAbs then 2 else 1) e 2) s
    let differ := decide (20 * (sp - pp).natAbs > 20 * s.activeN (K.sencCrossTol e) + max sp.natAbs pp.natAbs)
    let since := if differ then some ((Tab.get s.isl.encCross e none).getD s.now) else none
    let s := updIsl (fun x => { x with encCross := Tab.put x.encCross e since none }) s
    only (since.any (fun t => s.past t (20 * ms))) (encFault 1 e 3) s) s)

/-- R258: a fault condition has been absent for 100 ms. -/
def execEncoderFaultClear (e b : Nat) (s : State) : Out :=
  .next (only (e < 6 && b < 4 && bitOf (s.rdN (K.sencFault e)) b && s.past (Tab.get s.isl.encBad (8 * e + b) 0) (100 * ms))
    (wrN (K.sencFault e) (setBit (s.rdN (K.sencFault e)) b false)) s)

/-! ### Groups (R259 to R267) -/

/-- R261: entry into SS1, each channel with its own speed. -/
def enterSs1 (g : Nat) (s : State) : State :=
  let vs := s.speed 1 g
  let vp := s.speed 2 g
  let tol : Int := s.active (K.sgroupVTol g)
  grpTo g Grp.ss1 (updGrp g (fun x => { x with
    ss1At := s.now, v0Sp := vs, v0Pp := vp, envSp := (vs.natAbs + tol) * 1000000000, envPp := (vp.natAbs + tol) * 1000000000
    lowSp := none, lowPp := none }) s)

/-- R262: one evaluation of the envelope of group g by channel `ch`. -/
def ss1Check (ch g : Nat) (s : State) : State :=
  let x := s.grp g
  let t := s.now - x.ss1At
  let done := s.activeN (K.sgroupTMax g) * ms ≤ t
  if !s.encUsed g then only done (removeTorque ch g 4 false) s
  else
    let v := s.speed ch g
    let v0 := if ch = 1 then x.v0Sp else x.v0Pp
    let env := if ch = 1 then x.envSp else x.envPp
    let vss := s.active (K.sgroupVSs g)
    let td := s.activeN (K.sgroupTD g) * ms
    let fall : Int := (v0.natAbs + s.active (K.sgroupVTol g)) * 1000000000 - s.active (K.sgroupAMin g) * ((t - td : Nat) : Int)
    let env := min env (max (vss * 1000000000) fall)
    let s := updGrp g (fun x => if ch = 1 then { x with envSp := env } else { x with envPp := env }) s
    if (v.natAbs : Int) * 1000000000 > env then grpLatch g 0 (removeTorque ch g 5 false s)
    else if v ≠ 0 ∧ v0 ≠ 0 ∧ (decide (v < 0) ≠ decide (v0 < 0)) then removeTorque ch g 3 false s
    else
      let low := (v.natAbs : Int) ≤ vss
      let since := if low then some ((if ch = 1 then x.lowSp else x.lowPp).getD t) else none
      let s := updGrp g (fun x => if ch = 1 then { x with lowSp := since } else { x with lowPp := since }) s
      if since.any (fun u => s.activeN (K.sgroupTSs g) * ms + u ≤ t) then removeTorque ch g 2 false s
      else only done (removeTorque ch g 4 false) s

/-- R261: one evaluation of group g by channel `ch`. -/
def evalGroup (ch g : Nat) (s : State) : State :=
  let st := s.rdN (K.sgroupState g)
  let s := if ch = 1 then
      let req := s.spPoint (s.activeN (K.sgroupReqPoint g)) s.isl.partnerReq g
      let rst := s.spPoint (s.activeN (K.sgroupResetPoint g)) s.isl.partnerRst g
      updGrp g (fun x => { x with req := req, rst := rst, pointRose := x.pointRose || (rst && !x.rst) }) s
    else s
  if st = Grp.sto then s
  else if !s.grpEnabled g then removeTorque ch g 9 true s
  else
    match s.stoRequest ch g with
    | some c => removeTorque ch g c (st = Grp.enabling) s
    | none =>
      if st = Grp.enabling then only (s.ss1Request ch g) (removeTorque ch g 1 true) s
      else if st = Grp.run then only (s.ss1Request ch g) (enterSs1 g) s
      else ss1Check ch g s

/-- R261: channel `ch` evaluates every group. -/
def execGroupEvaluation (ch : Nat) (s : State) : Out :=
  .next (only ((ch = 1 || ch = 2) && s.rdN K.safetyState ≠ Isl.off && s.rdN K.safetyState ≠ Isl.startup) (each (List.range 6) (evalGroup ch)) s)

/-- R263: the conditions of a reset. -/
def State.resetAllowed (s : State) (g : Nat) : Bool :=
  let masks := s.activeN (K.sgroupStoMask g) ||| s.activeN (K.sgroupSs1Mask g)
  s.grpEnabled g && s.rdN (K.sgroupState g) = Grp.sto
    && (s.rdN (K.sgroupLatch g) = 0 || s.rdN (K.sgroupLatch g) = 8)
    && (List.range 12).all (fun i => !bitOf masks i || s.rdN (K.spairState i) = 1)
    && !(spValid (s.activeN (K.sgroupReqPoint g)) && (s.grp g).req)
    && !(s.encUsed g && s.rdN (K.sencFault g) ≠ 0)
    && s.rdN K.safetyState = Isl.operational && s.rdN K.safetyCpuModeNow = 0 && s.isl.activated
    && !s.islandHeld && !s.mismatchHeld g

/-- R263: a reset event of group g, from RESET_PAIR, or from RESET_POINT where `point`; it is used up either way. -/
def execStoReset (g : Nat) (point : Bool) (s : State) : Out :=
  let x := s.grp g
  let ev := if point then x.pointRose else x.press.any (fun d => 100 * ms ≤ d && d ≤ 5 * sec)
  .next (only (g < 6) (fun s =>
    let ok := ev && s.resetAllowed g
    let s := updGrp g (fun x => if point then { x with pointRose := false } else { x with press := none }) s
    if !ok then s
    else
      let s := wrN (K.sgroupLatch g) 0 s
      let s := wrN K.safecmpLatched (setBit (s.rdN K.safecmpLatched) g false) s
      let s := each (s.outsOf g) (fun o t =>
        wrN (K.soutState o) 1 (updIsl (fun i => { i with swP := setBit i.swP o true, swS := setBit i.swS o false }) t)) s
      grpTo g Grp.enabling (updGrp g (fun x => { x with phase := 1, seqAt := s.now, cmpSince := none }) s)) s)

/-- R267: a timed step of the enabling sequence of group g; `rb` are the readbacks in mV, by output. -/
def execEnableSequenceStep (g : Nat) (rb : List Nat) (s : State) : Out :=
  .next (only (g < 6 && s.rdN (K.sgroupState g) = Grp.enabling) (fun s =>
    let x := s.grp g
    let outs := s.outsOf g
    let s := each outs (fun o t => wrN (K.soutReadback o) (rb.getD o 0 % 65536) t) s
    let high := outs.filter (fun o => 5000 ≤ rb.getD o 0)
    let short := outs.filter (fun o => rb.getD o 0 ≤ 15000)
    let failAll (l : List Nat) (s : State) : State := removeTorque 1 g 7 true (each l (fun o => outFault o 6) s)
    if x.phase = 1 ∨ x.phase = 2 then
      if high ≠ [] then failAll high s
      else if x.phase = 1 then
        only (s.past x.seqAt (2 * ms)) (fun s =>
          each outs (fun o => updIsl (fun i => { i with swP := setBit i.swP o false, swS := setBit i.swS o true }))
            (updGrp g (fun x => { x with phase := 2 }) s)) s
      else
        only (s.past x.seqAt (4 * ms)) (fun s =>
          each outs (fun o => updIsl (fun i => { i with swP := setBit i.swP o true }))
            (updGrp g (fun x => { x with phase := 3 }) s)) s
    else if short = [] then
      let s := each outs (fun o => wrN (K.soutState o) 2) s
      let s := updIsl (fun i => { i with torqueS := setBit i.torqueS g true, torqueP := setBit i.torqueP g true }) s
      grpTo g Grp.run (updGrp g (fun x => { x with phase := 0, differSince := none }) s)
    else only (s.past x.seqAt (6 * ms)) (failAll short) s) s)

/-- R248: channel `ch` learns that the other channel removed torque in group g, and opens its own switches. -/
def execCrossLinkRemoval (ch g : Nat) (s : State) : Out :=
  let other := if ch = 1 then bitOf s.isl.torqueP g else bitOf s.isl.torqueS g
  let own := if ch = 1 then bitOf s.isl.torqueS g else bitOf s.isl.torqueP g
  .next (only (g < 6 && (ch = 1 || ch = 2) && own && !other) (fun s =>
    let s := each (s.outsOf g) (openSwitch (ch = 1) (ch = 2)) s
    let s := updIsl (fun i => if ch = 1 then { i with torqueS := setBit i.torqueS g false } else { i with torqueP := setBit i.torqueP g false }) s
    updGrp g (fun x => { x with differSince := none }) s) s)

/-- R248: the channels have differed in torque state for more than 10 ms. -/
def execChannelDiscrepancy (g : Nat) (s : State) : Out :=
  .next (only (g < 6 && bitOf s.isl.torqueS g ≠ bitOf s.isl.torqueP g && (s.grp g).differSince.any (fun t => t + 10 * ms < s.now))
    (islandFault 3 1) s)

/-! ### Outputs (R266 to R270) -/

/-- R268: a test slot of switch S, or P where `swP`: that switch of every ON output opens. -/
def execOffPulseSlotStart (swP : Bool) (s : State) : Out :=
  .next (only (s.rdN K.safetyState = Isl.operational && swP ≠ s.isl.slotP
      && s.past s.isl.slotAt (s.activeN K.safetyPulsePeriod * ms / 2)) (fun s =>
    let s := updIsl (fun i => { i with slotAt := s.now, slotP := swP }) s
    each ((List.range 12).filter (fun o => s.rdN (K.soutState o) = 2)) (fun o s =>
      let s := updIsl (fun i => if swP then { i with swP := setBit i.swP o false } else { i with swS := setBit i.swS o false }) s
      updTest o (fun _ => { phase := 1, swP := swP, t0 := s.now }) s) s) s)

/-- R269: at t0 + T_p the switch closes again. -/
def execOffPulseClose (o : Nat) (s : State) : Out :=
  let x := s.outTest o
  .next (only (o < 12 && x.phase = 1 && s.past x.t0 (s.activeN (K.soutPulseWidth o) * us)) (fun s =>
    let s := updIsl (fun i => if x.swP then { i with swP := setBit i.swP o true } else { i with swS := setBit i.swS o true }) s
    updTest o (fun x => { x with phase := 2, t1 := s.now }) s) s)

/-- R269: the recovery window ends. `fell`, `rose`: the readback's verdicts; `fall`: the fall time in µs; `mv`: readback. -/
def execOffPulseVerdict (o : Nat) (fell rose : Bool) (fall mv : Nat) (s : State) : Out :=
  let x := s.outTest o
  .next (only (o < 12 && x.phase = 2 && s.past x.t1 (200 * us)) (fun s =>
    let s := updTest o (fun _ => {}) s
    let s := wrN (K.soutReadback o) (mv % 65536) (wrN (K.soutLastFall o) (if fell then min fall 254 else 255) s)
    if !fell then outFault o (if x.swP then 2 else 1) s
    else if !rose then outFault o 3 s
    else inc (K.soutTests o) U32.max s) s)

/-- R270: an output that is off has read `mv` for `held` µs. -/
def execExternalVoltage (o mv held : Nat) (s : State) : Out :=
  .next (only (o < 12 && s.rdN (K.soutState o) = 0 && 5000 ≤ mv && 2000 ≤ held && s.rdN K.safetyState ≠ Isl.off) (fun s =>
    outFault o 4 (wrN (K.soutReadback o) (mv % 65536) s)) s)

/-- R266: an overload lasting more than 5 ms; `held` in µs. -/
def execSafeOutputOverload (o held : Nat) (s : State) : Out :=
  .next (only (o < 12 && s.rdN (K.soutState o) = 2 && 5000 < held) (outFault o 5) s)

/-! ### Status, configuration, acknowledgements -/

/-- R277: channel `ch` recomputes the CRC of its active configuration; `upset`: its copy has changed in the hardware. -/
def execConfigCrcCheck (ch : Nat) (upset : Bool) (s : State) : Out :=
  .next (only ((ch = 1 || ch = 2) && s.rdN K.safetyState ≠ Isl.off && s.isl.activated) (fun s =>
    let bad := upset || s.activeCrc ≠ s.isl.crcRecord
    let s := updIsl (fun x => { x with crcBad := bad }) s
    only bad (islandFault 5 ch) s) s)

/-- R273: the status block. -/
def State.statusBlock (s : State) : Bytes :=
  let set (n : Nat) (f : Nat → Bool) : Nat := (List.range n).foldl (fun a i => if f i then a + 2 ^ i else a) 0
  let w := s.decisionWord
  le 2 (set 12 (fun i => s.rdN (K.spairState i) = 1)) ++ le 2 (set 12 (fun i => s.rdN (K.spairState i) = 3))
    ++ le 1 (bits w 17 12) ++ le 1 (bits w 23 18) ++ le 1 (set 6 (fun g => s.rdN (K.sgroupLatch g) ≠ 0))
    ++ le 1 (s.rdN K.safetyState % 8 + (if s.stagedClean then 0 else 128))
    ++ le 2 (bits w 11 0) ++ le 2 (set 12 (fun o => s.rdN (K.soutState o) = 3)) ++ le 1 (set 6 (fun e => s.rdN (K.sencFault e) ≠ 0)) ++ le 3 0
    ++ (List.range 6).flatMap (fun e => le 4 (unsigned 4 (s.rd (K.sencSpeedSp e)))) ++ le 24 0

/-- R273: the block is published every 1 ms. -/
def execStatusBlockPublish (s : State) : Out :=
  let o := s.activeN K.safetyStatusOffset
  .next (only (o < 0x40000 && s.rdN K.safetyState ≠ Isl.off) (stage o s.statusBlock) s)

/-- R274: the staged value of an RW/S+ entry of section 12 is written. -/
def safetyStagedEffect (k : Nat) (v : Bytes) (s : State) : Nat × State :=
  let idx := k / 256
  let sub := k % 256
  let own := (0x3410 ≤ idx && idx < 0x341C && sub = 5) || (0x3420 ≤ idx && idx < 0x342C && sub = 3)
    || (0x3430 ≤ idx && idx < 0x3436 && sub = 14) || (0x3440 ≤ idx && idx < 0x3446 && sub = 5) || k = K.safetyStatusOwner
  let rule := if own then s.ownerRule k (ofLe v)
    else if k = K.safetyStatusOffset ∧ ofLe v ≠ 0xFFFFFFFF ∧ (ofLe v % 8 ≠ 0 ∨ 0x40000 < ofLe v + 64 ∨ (ofLe v < 0x8000 ∧ 0x8000 < ofLe v + 64)) then Err.value
    else Err.ok
  writeThen k v (rule = Err.ok) rule stagedChanged s

/-- R274: a write of an RW/S+ entry of section 12. -/
def execSafetyStagedWrite (src : Path) (idx sub : Nat) (v : Bytes) (s : State) : Out :=
  let k := 256 * idx + sub
  .next (only (safetyKeys.contains k && sub < 256) (command src k v (safetyStagedEffect k v)) s)

/-- R274: the effect of a write of 1 to DISCARD. -/
def safetyDiscardEffect (s : State) : Nat × State :=
  accept (stagedChanged (each safetyKeys (fun k t => if t.rd k = t.active k then t else setEntry k (t.active k) t) s))

/-- R274: a write of 1 to DISCARD. -/
def execSafetyDiscard (src : Path) (v : Nat) (s : State) : Out :=
  .next (command1 src K.safeverDiscard v safetyDiscardEffect s)

/-- R275: the effect of a write of CONFIRM. -/
def safetyConfirmEffect (v : Nat) (s : State) : Nat × State :=
  let r := if bits v 31 0 ≠ s.stagedCrc then 1
    else if bits v 63 32 ≠ s.parapetCrc then 2
    else if s.stagedRule then 3
    else if s.rdN K.safetyState ≠ Isl.operational then 5
    else 0
  let s := wrN K.safeverResult r (wrN K.safeverState (if r = 0 then 2 else 3) s)
  accept (if r = 0 then s else raise Ev.safetyConfig (le 1 r ++ le 4 s.activeCrc) s)

/-- R275: a write of CONFIRM. -/
def execSafetyConfirm (src : Path) (v : Nat) (s : State) : Out :=
  .next (command src K.safeverConfirm (le 8 v) (safetyConfirmEffect v) s)

/-- R275: the effect of a write of 1 to ACTIVATE. A group not in STO refuses it with the result GROUPS_NOT_STO. -/
def safetyActivateEffect (s : State) : Nat × State :=
  if s.rdN K.safeverState ≠ 2 then refuse Err.state s
  else if (List.range 6).any (fun g => s.rdN (K.sgroupState g) ≠ Grp.sto) then refuse Err.state (wrN K.safeverResult 4 s)
  else
    let act := s.dict.filter (fun e => safetyKeys.contains e.1)
    let s := updIsl (fun x => { x with active := act, activated := true }) s
    let s := updIsl (fun x => { x with crcRecord := s.activeCrc, crcBad := false }) s
    let s := wrN K.safeverState 0 s
    let s := wrN K.safeverActivatedAt (s.tb96 3) (wrN K.safeverResult 0 s)
    accept (raise Ev.safetyConfig (le 1 0 ++ le 4 s.isl.crcRecord) s)

/-- R275: a write of 1 to ACTIVATE. A group not in STO refuses it with the result GROUPS_NOT_STO. -/
def execSafetyActivate (src : Path) (v : Nat) (s : State) : Out :=
  .next (command1 src K.safeverActivate v safetyActivateEffect s)

/-- R264: the effect of a write of 1 to FAULT_ACK clears the island faults whose causes are absent. -/
def safetyFaultAckEffect (s : State) : Nat × State :=
  let f := s.rdN K.safetyFaults
  let f := if s.past s.isl.hbAt (2 * ms) then f else setBit f 0 false
  let f := if s.isl.torqueS = s.isl.torqueP then setBit f 3 false else f
  let f := if s.isl.supplyBad then f else setBit f 4 false
  let f := if s.isl.crcBad then f else setBit f 5 false
  let s := wrN K.safetyFaults f s
  let s := emcyFollow (unlatch Ev.safetyIslandFault s)
  accept (only (!islandBad f && s.rdN K.safetyState = Isl.fault) (fun s =>
    let s := wrN K.safetyState (if s.rdN K.safetyCpuModeNow = 1 then Isl.split else Isl.operational) s
    each (List.range 6) (fun g t => wrN (K.sgroupLatch g) (setBit (t.rdN (K.sgroupLatch g)) 4 false) t) s) s)

/-- R264: a write of 1 to FAULT_ACK clears the island faults whose causes are absent. -/
def execSafetyFaultAck (src : Path) (v : Nat) (s : State) : Out :=
  .next (command1 src K.safetyFaultAck v safetyFaultAckEffect s)

/-- R264: the effect of a write of 1 to a group's ACK. -/
def sgroupAckEffect (g : Nat) (s : State) : Nat × State :=
  let l := s.rdN (K.sgroupLatch g)
  let l := if s.rdN (K.sgroupState g) = Grp.sto then setBit l 0 false else l
  let l := if s.rdN (K.sencFault g) = 0 then setBit l 1 false else l
  let l := if (s.outsOf g).any (fun o => s.rdN (K.soutState o) = 3) then l else setBit l 2 false
  accept (emcyFollow (unlatch (Ev.safeGroupFault g) (wrN (K.sgroupLatch g) l s)))

/-- R264: a write of 1 to a group's ACK. -/
def execSgroupAck (src : Path) (g v : Nat) (s : State) : Out :=
  .next (only (g < 6) (command1 src (K.sgroupAck g) v (sgroupAckEffect g)) s)

/-- R264: the effect of a write of 1 to an output's ACK. -/
def soutAckEffect (o : Nat) (s : State) : Nat × State :=
  let present := s.rdN (K.soutCause o) = 4 && 5000 ≤ s.rdN (K.soutReadback o)
  accept (if s.rdN (K.soutState o) = 3 && !present then
      emcyFollow (unlatch (Ev.safeOutputFault o) (wrN (K.soutCause o) 0 (wrN (K.soutState o) 0 s))) else s)

/-- R264: a write of 1 to an output's ACK. -/
def execSoutAck (src : Path) (o v : Nat) (s : State) : Out :=
  .next (only (o < 12) (command1 src (K.soutAck o) v (soutAckEffect o)) s)

/-- R253, R251: the start-up tests end; `test` is the failing test, 1 to 5 in R253's order, `dur` the duration in ms. -/
def islandStarted (pass : Bool) (test dur : Nat) (s : State) : State :=
  only (s.rdN K.safetyState = Isl.startup) (fun s =>
    let s := wrN K.safetyStartupMs (dur % 65536) s
    let s := raiseSev Ev.safetyStartup (le 1 (if pass then 1 else 2) ++ le 1 test ++ le 4 dur) (if pass then 2 else 6) s
    let split := s.rdN K.safetyCpuModeNow = 1
    let s := if split then raise Ev.safetySplit [] s else s
    let s := updIsl (fun x => { x with startupOk := pass, hbAt := s.now, slotAt := s.now }) s
    if pass then wrN K.safetyState (if split then Isl.split else Isl.operational) s
    else islandFault 6 1 (only (test = 4) (islandFault 2 2) (only (test = 3) (islandFault 1 1) s))) s

/-! ### The pair (R235, R236, R276) -/

/-- R236: removal by the pair comparison. -/
def compareTrip (g own partner : Nat) (s : State) : State :=
  if bitOf (s.rdN K.safecmpLatched) g then s
  else
    let s := wrN K.safecmpLatched (setBit (s.rdN K.safecmpLatched) g true) s
    let s := inc K.safecmpTrips U32.max s
    let s := raise Ev.safeCompareTrip (le 1 g ++ le 4 own ++ le 4 partner) s
    grpLatch g 3 (removeTorque 1 g 8 true s)

/-- R235, R236: the island publishes its word and compares it with the partner's. -/
def execSafetyWordSend (s : State) : Out :=
  .next (only (s.pairOp && s.rdN K.safetyState ≠ Isl.off && s.rdN K.safetyState ≠ Isl.startup) (fun s =>
    let own := s.decisionWord
    let pts (f : Group → Bool) : Nat := (List.range 6).foldl (fun a g => if f (s.grp g) then a + 2 ^ g else a) 0
    let s := wrN K.safecmpOwn own s
    let s := send Wire.safety (le 4 own ++ le 4 s.activeCrc ++ le 1 (pts (·.req)) ++ le 1 (pts (·.rst))) s
    let partner := s.rdN K.safecmpPartner
    let old := !s.isl.partnerAt.any (fun t => s.now ≤ t + 2 * ms)
    let s := each ((List.range 6).filter (fun g => !bitOf (s.rdN K.safecmpEnable) g && bitOf (s.rdN K.safecmpDiffer) g))
      (fun g s => wrN K.safecmpDiffer (setBit (s.rdN K.safecmpDiffer) g false) (updGrp g (fun x => { x with cmpSince := none }) s)) s
    each ((List.range 6).filter (fun g => bitOf (s.rdN K.safecmpEnable) g)) (fun g s =>
      let differ := old || s.wordOf g own ≠ s.wordOf g partner
      let since := if differ then some ((s.grp g).cmpSince.getD s.now) else none
      let s := updGrp g (fun x => { x with cmpSince := since }) s
      let s := wrN K.safecmpDiffer (setBit (s.rdN K.safecmpDiffer) g differ) s
      only (since.any (fun t => s.past t (s.rdN K.safecmpLimit * ms))) (compareTrip g own partner) s) s) s)

/-- R265, R276: the partner's decision word with its ACTIVE_CRC and point values. -/
def execSafetyWordReceive (w crc req rst : Nat) (s : State) : Out :=
  .next (only (s.pairOp && s.rdN K.cwState ≠ 0 && s.rdN K.safetyState ≠ Isl.off) (fun s =>
    let s := updIsl (fun x => { x with partnerAt := some s.now, partnerReq := req % 64, partnerRst := rst % 64 }) s
    let s := wrN K.safecmpPartner (w % 2 ^ 32) s
    if crc = s.activeCrc then wrN K.safetyFaults (setBit (s.rdN K.safetyFaults) 7 false) s
    else
      let s := if bitOf (s.rdN K.safetyFaults) 7 then s else wrN K.safeverResult 6 s
      let s := islandFault 7 1 s
      each ((List.range 6).filter (fun g => s.mismatchHeld g && s.rdN (K.sgroupState g) ≠ Grp.sto)) (fun g => removeTorque 1 g 9 true) s) s)

end Sys2Proof.Machine
end

