-- ==== Sys2Proof/Machine/ScanOps.lean ====
section
/-! DEFINITION. The scan engine's operations: overruns and ENDs, boundaries, coordinated changes, freezes, commits, remote
frames and the debugger's holds (spec/01, spec/03). -/

namespace Sys2Proof.Machine

def State.phase (s : State) (x : Nat) : Nat := Tab.get s.scan.phase x 0
def setPhase (x v : Nat) (s : State) : State := updScan (fun c => { c with phase := Tab.put c.phase x v 0 }) s

/-- No dispatch and no commit any more: the swap boundary of a handover has passed (R242). -/
def State.dispatches (s : State) : Bool := s.engine = 2 && s.pair.swapAt.isNone

/-! ### Ends and overruns (R80 to R82) -/

/-- R88: the halted task of a Pavilion in HOLD stops where it is, until its next window or dispatch. -/
def park (p x : Nat) (s : State) : State :=
  let s := updTask p x (fun t => { t with st := .halted, used := t.used + (if t.st = .running then s.now - t.since else 0) }) (offLane p x s)
  laneNext (s.laneOf p) (updPav p (fun v => { v with step := false }) s)

/-- R81, R82: an overrun of p's task of class x. -/
def overrun (p x code : Nat) (s : State) : State :=
  if s.pavState p = Prog.hold then park p x s
  else
    let s := raiseScan p code x 0 (inc (K.scanOverruns x) U32.max (cutOne p x s))
    let s := updTask p x (fun t => { t with st := .cut, scan := s.scanNo x + 1, overruns := satInc U8.max t.overruns }) s
    let s := updPav p (fun v => { v with lastCause := code }) s
    let s := only (s.rdN (K.pavOverrunLimit p) ≤ (s.task p x).overruns) (pavFault p 2) s
    laneNext (s.laneOf p) s

/-- R88, R85: the halted task has ended: p returns to RUN. -/
def holdEnd (p : Nat) (s : State) : State :=
  let s := wrN (kPavState p) Prog.run (updPav p (fun v => { v with step := false, go := false, wdtS := s.now - v.wdtRan, outSafe := false, remoteSafe := false }) s)
  splitEndAll (raiseScan p 0x10 (s.fastest p) Prog.run (wdtFollow p Wdt.running s))

/-- R80, R82, R92, R141: p's task of class x executes END. -/
def endTask (p x : Nat) (s : State) : State :=
  let s := releaseLocks p x (busyMark x (offLane p x s))
  let s := updTask p x (fun t => { t with st := .ended, ended := true, ends := t.ends + 1, overruns := 0, trapped := 0, prevTrap := false
                                          used := t.used + (s.now - t.since) }) s
  let s := updPav p (fun v => { v with first := setBit v.first x false }) s
  let s := only (s.pavState p = Prog.hold) (holdEnd p) s
  laneNext (s.laneOf p) s

/-! ### Boundaries (R19, R66, R73, R85, R102 to R104) -/

/-- R66: the latest boundary of class x in scan time, in ns; nothing before the first. -/
def State.lastBoundary (s : State) (x : Nat) : Option Nat :=
  let t := s.scanTime - s.rd K.scanPhase
  if t < 0 then none else some (t.toNat / max 1 (s.periodNs x) * s.periodNs x + s.rdN K.scanPhase)

/-- R66: a boundary of class x has come since the latest. -/
def State.boundaryDue (s : State) (x : Nat) : Bool :=
  s.engine ≠ 0 && x < 3 && s.classOn x && (s.lastBoundary x).any (· ≠ s.boundaryAt x)

/-- R73: the C snapshot, at the last Class B boundary at or before the Class C dispatch instant. -/
def cSnapshot (s : State) : State :=
  match s.lastBoundary 1 with
  | none => s
  | some b =>
    let tc := max 1 (s.periodNs 2)
    let d : Int := ((s.rdN (K.scanSampleAt 2) * us : Nat) : Int) - ((b - s.rdN K.scanPhase : Nat) : Int)
    only (s.classOn 2 && decide (d % tc < s.periodNs 1)) (copyMem Mem.fabric (inBase + 0x8000) Mem.snapshot 0x8000 0x38000) s

/-- R85, R82: Pavilions whose fault-caused STOP takes effect at this boundary of class x. -/
def State.stopsDue (s : State) (x : Nat) : List Nat :=
  (s.pavs.filter (fun e => e.2.stopDue.isSome)).map (·.1) |>.filter (fun p => s.fastest p = x)

/-- Members of a set of R102. -/
def State.members (b : Bytes) : List Nat := (List.range 256).filter (mapBit b)

/-- R103: the change is due. -/
def State.changeDue (s : State) (c : Change) : Bool := c.imm || ofT96 c.act ≤ s.tbVal c.tb

/-- R89, R90: a RUN member that fails. -/
def State.runFails (s : State) (faulted : List Nat) (c : Change) : Option Nat :=
  (State.members c.run).find? (fun p => faulted.contains p || (s.pavState p = Prog.stop && !s.mayRun p))

/-- R103, R104: a change is applied to all of its members. -/
def chgApply (c : Change) (s : State) : State :=
  let same (p new : Nat) (s : State) : State := raiseScan p 0x10 c.cls new s
  let s := each (State.members c.run) (fun p s => if s.pavState p = Prog.stop then enterRun p s else same p (s.pavState p) s) s
  let s := each (State.members c.stop) (fun p s => if s.pavBusy p then enterStop p 1 s else same p Prog.stop s) s
  let s := splitEndAll s
  let n := s.scanNo c.cls
  let s := each (State.members c.run ++ State.members c.stop) (fun p => updPav p (fun v => { v with changeId := c.id, changeScan := n })) s
  chgOutcome c 1 0 0xFF n (inc K.chgAppliedTotal U32.max s)

/-- R103: the PENDING changes of class x that are due. -/
def chgBoundary (x : Nat) (faulted : List Nat) (s : State) : State :=
  each (s.scan.changes.filter (fun c => c.cls = x && s.changeDue c)) (fun c s =>
    let s := chgDrop c.id s
    match s.runFails faulted c with
    | some p => chgOutcome c 3 3 p 0 s
    | none => chgApply c s) s

/-- R85: the module has entered ACTIVE: Pavilions with AUTOSTART enter RUN. -/
def autostart (s : State) : State :=
  if !s.scan.autostart then s
  else
    let s := updScan (fun c => { c with autostart := false }) s
    each ((List.range 256).filter (fun p => pfAutostart (s.rdN (K.pavFlags p)))) (fun p s =>
      only (s.pavState p = Prog.stop && s.mayRun p) (enterRun p) s) s

/-- R19, R20: the steps of a boundary of class x. -/
def boundary (x : Nat) (s : State) : State :=
  let s := only (x = 1) cSnapshot s
  let b := (s.lastBoundary x).getD 0
  let s := wrN (K.scanNumber x) ((s.scanNo x + 1) % 2 ^ 64) s
  let s := setPhase x 0 (wrN (K.scanTs x) (t96 (b * 65536)) s)
  let s := capture x s
  let s := only (x < 2) (fun s => each (s.scan.tasks.filter (fun e => e.1 % 3 = x)) (fun e => updTask (e.1 / 3) x (fun t => { t with ended := false })) s) s
  let s := updPair (fun p => { p with latched := p.frozen, ownScans := [s.scanNo 0, s.scanNo 1, s.scanNo 2] }) s
  let s := if s.swapDue x then swapNow s else epochClose s
  let s := histBoundary x s
  let s := only (s.pair.step = 3 && s.mode = Mode.takeover) takeoverDone s
  let due := s.stopsDue x
  let s := each due (fun p s => match (s.pav p).stopDue with
    | some c => enterStop p c s
    | none => s) s
  let s := splitEndAll s
  let s := only s.dispatches (fun s => autostart (chgBoundary x due s)) s
  only s.activeLike (milestone 12) s

/-! ### Remote stations (R94 to R98) -/

/-- R96, R97: the stations of class x at a freeze. -/
def stationsFreeze (x : Nat) (s : State) : State :=
  if !s.on K.rioEnable then wrN (K.scanStale x) 0 s
  else
    let l := s.stations.filter (fun st => Sta.cls (s.station st) = x && 0 < Sta.inLen (s.station st))
    let stale := l.filter (fun st => !Tab.get s.scan.arrived st false)
    let s := each l (fun st s =>
      let owner := Sta.owner (s.station st)
      let fl := s.staStatus st 6 1
      if Tab.get s.scan.arrived st false then setStaStatus st 4 2 0 (setStaStatus st 6 1 (setBit fl 0 false) s)
      else
        let n := satInc U16.max (s.staStatus st 4 2)
        let s := setStaStatus st 4 2 n (setStaStatus st 6 1 (setBit fl 0 true) (inc K.rioStaleTotal U32.max s))
        let s := only (!bitOf fl 0) (raiseOwned Ev.rioStationStale (le 2 st ++ le 1 owner ++ le 1 x ++ le 8 (s.scanNo x)) owner) s
        only (s.rdN K.rioLostLimit ≤ n && !bitOf fl 1) (fun s =>
          raiseWith Ev.rioStationLost (le 2 st ++ le 1 owner ++ le 1 1) (some 4) (some owner)
            (setStaStatus st 6 1 (setBit (s.staStatus st 6 1) 1 true) s)) s) s
    let s := updScan (fun c => { c with arrived := l.foldl (fun t st => Tab.put t st false false) c.arrived }) s
    wrN (K.scanStale x) stale.length s

/-- R96: an input frame is discarded. -/
def rioBad (st : Option Nat) (reason : Nat) (s : State) : State :=
  match st with
  | some st =>
    raiseOwned Ev.rioFrameError (le 2 st ++ le 1 reason) (Sta.owner (s.station st)) (setStaStatus st 7 1 (min 255 (s.staStatus st 7 1 + 1)) s)
  | none => raise Ev.rioFrameError (le 2 0xFFFF ++ le 1 reason) s

/-- R96: a frame of remote I/O is received. -/
def rioInput (f : Bytes) (s : State) : State :=
  let st := fieldAt f 2 2
  let known := decide (st < 1024) && Sta.enabled (s.station st) && 0 < Sta.inLen (s.station st)
  if byteAt f 0 ≠ 1 ∨ byteAt f 1 ≠ 2 ∨ !known then rioBad (if known then some st else none) 1 s
  else
    let r := s.station st
    let n := fieldAt f 6 2
    if n ≠ Sta.inLen r ∨ f.length < 52 + n then rioBad (some st) 2 s
    else if crc32c (f.take (48 + n)) ≠ fieldAt f (48 + n) 4 then rioBad (some st) 3 s
    else
      let s := stage (Sta.inOff r) (slice f 48 n) s
      let s := updScan (fun c => { c with arrived := Tab.put c.arrived st true false }) s
      let fl := s.staStatus st 6 1
      let s := setStaStatus st 0 4 (satInc U32.max (s.staStatus st 0 4)) s
      let s := setStaStatus st 8 8 (fieldAt f 16 8) (setStaStatus st 6 1 (setBit (setBit fl 1 false) 3 (bitOf (fieldAt f 4 2) 2)) s)
      only (bitOf fl 1) (raiseWith Ev.rioStationLost (le 2 st ++ le 1 (Sta.owner r) ++ le 1 2) (some 2) (some (Sta.owner r))) s

/-- R18, R98: an output frame of station st is built and placed in its launch-time queue. -/
def frameBuild (st : Nat) (s : State) : State :=
  let r := s.station st
  let x := Sta.cls r
  let p := Sta.owner r
  let n := Sta.outLen r
  let s := if (s.task p x).ended && s.pavState p = Prog.run then copyMem Mem.fabric (outBase + Sta.outOff r) Mem.remote (Sta.outOff r) n s else s
  let live := s.rdN (K.pavLoadState p) = 1 && !(s.pavState p ≠ Prog.run && (s.pav p).remoteSafe)
    && !(s.pavState p = Prog.stop && s.past (s.pav p).lastCommit (s.rdN K.rioHold * ms))
    && !(s.pavState p = Prog.hold && s.past (s.pav p).holdAt (s.rdN (K.pavHoldLimit p) * ms))
  let at_ : Int := ((s.boundaryAt x + s.rdN (K.scanCommitAt x) * us : Nat) : Int) - Sta.pathOff r
  let first := s.scan.firstOut || !Tab.get s.scan.sent st false
  let s := updScan (fun c => { c with sent := Tab.put (if c.firstOut then [] else c.sent) st true false, firstOut := false
                                      built := Tab.put c.built st (s.scanNo x + 1) 0 }) s
  let body := le 1 1 ++ le 1 1 ++ le 2 st ++ le 2 (1 + 2 * b2n first) ++ le 2 n ++ le 8 (s.scanNo x)
    ++ le 8 ((at_ + s.rd K.scanStepSum) % 2 ^ 64).toNat ++ le 24 (if live then 2 ^ (n / 8) - 1 else 0) ++ s.bytesAt Mem.remote (Sta.outOff r) n
  let h := Sta.outStream r
  let sr := s.streamRec h
  let eth : Eth := { dst := St.dmac sr, src := s.blobOf K.swBridgeMac, vid := St.vid sr, pcp := St.prio sr, tagged := true
                     rest := beBytes (s.rdN K.rioEthertype) ++ body ++ le 4 (crc32c body) }
  sendStream h eth { cls := St.prio sr, bytes := [], launch := some at_, base := 0, station := some st } s

/-! ### Freeze and commit (R16, R17, R21, R73) -/

/-- The bits of area `a` that lie in output words of class `c` are copied from the working to the committed copy. -/
def commitArea (c : Nat) (a : Area) (s : State) : State :=
  each ((List.range (a.len / 8 + 2)).map (fun i => a.first / 8 + i)) (fun o s =>
    if a.first + a.len ≤ 8 * o || s.outClass o ≠ c then s
    else
      let v := (List.range 8).foldl (fun v i =>
        if a.first ≤ 8 * o + i && 8 * o + i < a.first + a.len then setBit v i (s.bit Mem.fabric (outBase + o) i) else v) (s.byte Mem.committed o).toNat
      store Mem.committed o [BitVec.ofNat 8 v] s) s

/-- R17: the output points of p in words of class c are committed. -/
def commitPav (p c : Nat) (s : State) : State :=
  each (s.areas.filter (fun a => a.out && a.owner = p)) (commitArea c) s

/-- Pavilions in RUN whose task of class x has ended and is not yet committed: in STOP and in HOLD the points keep their
committed values (R86, R87, R298). -/
def State.endedOf (s : State) (x : Nat) : List Nat :=
  ((s.scan.tasks.filter (fun e => e.1 % 3 = x && e.2.ended)).map (·.1 / 3)).filter (fun p => s.pavState p = Prog.run)

/-- R16, R74: the freeze of a partition. -/
def freeze (x : Nat) (s : State) : State :=
  let s := only (x = 1) (fun s => stageIolAll (each (List.range 8) rpdoFreeze s)) s
  let s := stationsFreeze x (hartFreeze x s)
  let s := if x = 0 then copyMem Mem.staging 0 Mem.fabric inBase 0x8000 s else copyMem Mem.staging 0x8000 Mem.fabric (inBase + 0x8000) 0x38000 s
  setPhase x 1 (updPair (fun p => { p with frozen := s.inputBody }) s)

/-- R17, R21: the commit of class x; a Class B commit carries the words of Class C tasks that have ended. -/
def commit (x : Nat) (s : State) : State :=
  let own := s.endedOf x
  let c := if x = 1 then s.endedOf 2 else []
  let s := each c (fun p => commitPav p 2) (each own (fun p => commitPav p x) s)
  let done (x : Nat) (p : Nat) (s : State) : State := updTask p x (fun t => { t with ended := false }) (updPav p (fun v => { v with lastCommit := s.now }) s)
  let s := each c (done 2) (each own (done x) s)
  let s := commitBlocks (own ++ c) s
  let s := only (x = 1) (each (List.range 8) tpdoCommit) s
  setPhase x 2 s

/-! ### Coordinated changes (R102 to R105) -/

/-- R102: the request is well formed. -/
def chgWellFormed (v : Bytes) : Bool :=
  v.length = 96 && fieldAt v 0 8 ≠ 0 && byteAt v 8 < 8 && byteAt v 9 < 2 && byteAt v 10 < 3 && fieldAt v 11 5 = 0 && fieldAt v 28 4 = 0
    && (fieldAt v 32 32 ≠ 0 || fieldAt v 64 32 ≠ 0) && (List.range 256).all (fun p => !(mapBit (slice v 32 32) p && mapBit (slice v 64 32) p))

/-- R102, R103: a request is evaluated and recorded. -/
def chgRequestEffect (v : Bytes) (s : State) : Nat × State :=
  if !chgWellFormed v then (Err.value, s)
  else if (List.range 8).any (fun j => fieldAt (s.blobOf K.chgResults) (32 * j) 8 = fieldAt v 0 8) then (Err.ok, s)
  else
    let tb := byteAt v 8
    let imm := bitOf (byteAt v 9) 0
    let act := fieldAt v 16 12
    let lead : Int := if imm then 0 else (ofT96 act : Int) / 65536 - (s.tbNs tb : Int)
    let c : Change := { id := fieldAt v 0 8, tb := tb, imm := imm, cls := byteAt v 10, act := act, run := slice v 32 32, stop := slice v 64 32, lead := lead }
    let names (d : Change) : List Nat := State.members d.run ++ State.members d.stop
    let clash := (names c).find? (fun p => s.scan.changes.any (fun d => (names d).contains p))
    let refused (reason pav : Nat) : Nat × State := (Err.ok, chgOutcome c 3 reason pav 0 s)
    if 8 ≤ s.scan.changes.length then refused 7 0xFF
    else if !s.classOn c.cls then refused 2 0xFF
    else if !imm && tb ≠ 0 && tb ≠ 4 && !s.synced tb then refused 1 0xFF
    else match clash with
      | some p => refused 5 p
      | none =>
        if !imm && decide (ofT96 act ≤ s.tbVal tb) then
          (Err.ok, chgOutcome c 2 0 0xFF 0 (inc K.chgLateTotal U32.max s))
        else if !imm && decide (s.tbVal tb + 86400 * sec * 65536 < ofT96 act) then refused 8 0xFF
        else match s.runFails [] c with
          | some p => refused 3 p
          | none =>
            let s := updScan (fun x => { x with changes := x.changes ++ [c] }) s
            (Err.ok, wrN K.chgPending s.scan.changes.length (chgReplace c.id (chgRecord c.id 0 c.cls 0 0xFF 0 lead) s))

/-- R105: a request is cancelled, unless the instant of its application has come. -/
def chgCancelEffect (id : Nat) (s : State) : Nat × State :=
  match s.scan.changes.find? (fun c => c.id = id) with
  | some c => if s.changeDue c && s.boundaryDue c.cls then (Err.state, s) else (Err.ok, chgDrop id (chgOutcome c 5 0 0xFF 0 s))
  | none => (Err.state, s)

/-- R69: STEP_SUM becomes 0. -/
def realignEffect (s : State) : Nat × State :=
  if (List.range 256).any s.pavBusy then (Err.state, s) else (Err.ok, wr K.scanStepSum 0 s)

/-! ### The debugger (R85, R87, R88, R175 to R178) -/

/-- R490: the open debug session covers Pavilion holds. -/
def State.mayDebug (s : State) : Bool := (s.rdN K.dbgState = 1 && bitOf (s.rdN K.dbgScope) 0) || s.lc = Lc.manufacture

/-- R175: the reason for which a HOLD of p is refused. -/
def State.holdRefused (s : State) (p : Nat) : Option Nat :=
  let t := s.laneOf p / 3
  if !pfDebuggable (s.rdN (K.pavFlags p)) then some 1
  else if s.isSplit t then none
  else if s.trState t ≠ Tr.tmr ∧ s.trState t ≠ Tr.debugSplit then some 2
  else if s.mode ≠ Mode.service && (s.trestlePavs t).any s.needsSafe then some 3
  else none

/-- R177: a Trestle enters DEBUG_SPLIT for p. -/
def debugSplit (t p : Nat) (s : State) : State :=
  if s.isSplit t ∨ s.trState t ≠ Tr.tmr then s
  else
    let s := if s.rotation.active && s.rotation.trestle = t then abandonRotation s else s
    let s := trStatus t 4 true (trTo t Tr.debugSplit s)
    let s := each [1, 2] (fun k s => only (s.laneAt t k < 15) (setRole (s.laneAt t k) Rl.paused) s) s
    raise (Ev.trestleDebugSplit t) (le 1 p ++ le 2 s.sec.dbgBy) (updTrestle t (fun x => { x with splitSince := s.now }) s)

/-- The task of p that a halt keeps: the running one, one in progress, or the one dispatched next. -/
def State.haltTask (s : State) (p : Nat) : Option Nat :=
  match ([0, 1, 2] : List Nat).find? (fun x => (s.task p x).st = .running) with
  | some x => some x
  | none => match ([0, 1, 2] : List Nat).find? (fun x => (s.task p x).st = .preempted) with
    | some x => some x
    | none => ([0, 1, 2] : List Nat).find? (fun x => s.classOn x && s.hasTask p x)

/-- R85, R176: p enters HOLD. -/
def enterHold (p : Nat) (s : State) : State :=
  let k := s.haltTask p
  let s := debugSplit (s.laneOf p / 3) p s
  let s := match k with
    | none => s
    | some x =>
      let live := (s.task p x).st = .running ∨ (s.task p x).st = .preempted
      let s := if live then s else taskEntry p x s
      updTask p x (fun t => { t with st := .halted, used := t.used + (if t.st = .running then s.now - t.since else 0) }) (offLane p x s)
  let s := each ([0, 1, 2].filter (fun x => some x ≠ k)) (fun x => cutOne p x) s
  let s := wrN (kPavState p) Prog.hold s
  let s := updPav p (fun v => { v with holdAt := s.now, wdtRan := s.now - v.wdtS, step := false, go := false }) s
  laneNext (s.laneOf p) (raiseScan p 0x10 (s.fastest p) Prog.hold (wdtFollow p Wdt.frozen s))

/-- R88: a halted task that was resumed or is to be stepped continues at its window or dispatch, with its budgets anew. -/
def unpark (p x : Nat) (s : State) : State :=
  only (s.pavState p = Prog.hold && (s.task p x).st = .halted && ((s.pav p).go || (s.pav p).step))
    (updTask p x (fun t => { t with st := .preempted, used := 0, retired := 0 })) s

/-- Class x of p takes part in a dispatch of the present scan: it is in RUN, and has not been made ready in it. -/
def State.fresh_ (s : State) (p x : Nat) : Bool :=
  s.pavState p = Prog.run && (s.pav p).stopDue.isNone && s.hasTask p x && (s.task p x).scan ≠ s.scanNo x + 1

def makeReady (p x : Nat) (s : State) : State :=
  let s := unpark p x s
  only (s.fresh_ p x) (updTask p x (fun t => { t with st := .ready, scan := s.scanNo x + 1, ended := if x = 2 then t.ended else false })) s

end Sys2Proof.Machine
end

