-- ==== Sys2Proof/Machine/Scan.lean ====
section
/-! DEFINITION. The commands of the scan engine (spec/01, spec/03). -/

namespace Sys2Proof.Machine

/-! ### Boundaries, freezes, commits (R16 to R21, R66) -/

/-- R19: TB0 reaches a boundary of class x. -/
def execClassBoundary (x : Nat) (s : State) : Out := .next (only (s.boundaryDue x) (boundary x) s)

/-- R16: t_s of Class A or B. Class C has its snapshot in place of a freeze (R73). -/
def execInputFreeze (x : Nat) (s : State) : Out :=
  .next (only (s.engine ≠ 0 && x < 2 && s.classOn x && s.phase x = 0 && 0 ≤ s.sinceOff x (s.rdN (K.scanSampleAt x))) (freeze x) s)

/-- R17: t_c of Class A or B. Class C words are committed with Class B (R21). -/
def execOutputCommit (x : Nat) (s : State) : Out :=
  .next (only (s.dispatches && x < 2 && s.classOn x && s.phase x = 1 && 0 ≤ s.sinceOff x (s.rdN (K.scanCommitAt x))) (commit x) s)

/-- R98: the frame-build instant of station st. -/
def execFrameBuild (st : Nat) (s : State) : Out :=
  let r := s.station st
  let x := Sta.cls r
  .next (only (s.dispatches && st < 1024 && s.on K.rioEnable && Sta.enabled r && 0 < Sta.outLen r && s.classOn x
      && Tab.get s.scan.built st 0 ≠ s.scanNo x + 1
      && decide (s.buildAt st ≤ s.scanTime - (s.boundaryAt x : Int))) (frameBuild st) s)

/-! ### Windows and readiness (R76, R77) -/

/-- R76: the start of p's Class A window. -/
def execClassAWindowStart (p : Nat) (s : State) : Out :=
  let l := s.laneOf p
  let d := s.sinceOff 0 (s.winStart p)
  .next (only (p < 256 && s.dispatches && s.classOn 0 && s.laneRuns l && 0 ≤ d && d < s.winLen p * us) (fun s =>
    let s := makeReady p 0 s
    only (s.waits p 0) (fun s =>
      let s := preempt l s
      runTask p 0 (updLane l (fun x => { x with window := some (3 * p) }) s)) s) s)

/-- R76, R81: the end of p's Class A window. -/
def execClassAWindowEnd (p : Nat) (s : State) : Out :=
  let l := s.laneOf p
  .next (only (p < 256 && s.dispatches && (s.lane l).window = some (3 * p) && 0 ≤ s.sinceOff 0 (s.winStart p + s.winLen p)) (fun s =>
    let s := updLane l (fun x => { x with window := none }) s
    let s := only ((s.task p 0).st = .running) (overrun p 0 2) s
    laneNext l s) s)

/-- R77: Class B tasks of lane l become ready; they preempt a Class C task. -/
def execClassBReady (l : Nat) (s : State) : Out :=
  .next (only (l < 12 && s.dispatches && s.classOn 1 && s.laneRuns l && 0 ≤ s.sinceOff 1 (s.readyAt 1)) (fun s =>
    let s := each (s.pavsOn l) (fun p => makeReady p 1) s
    let s := only ((s.lane l).run.any (fun r => r % 3 = 2) && (s.nextOf l 1).isSome) (preempt l) s
    laneNext l s) s)

/-- R77, R73: Class C tasks of lane l become ready. -/
def execClassCDispatch (l : Nat) (s : State) : Out :=
  .next (only (l < 12 && s.dispatches && s.classOn 2 && s.laneRuns l && 0 ≤ s.sinceOff 2 (s.readyAt 2)) (fun s =>
    laneNext l (each (s.pavsOn l) (fun p => makeReady p 2) s)) s)

/-- R81: a Class B or C task has held the lane for its time budget. -/
def execTaskTimeBudgetExpiry (p x : Nat) (s : State) : Out :=
  let t := s.task p x
  let b := s.rdN (if x = 1 then K.pavTbudgetB p else K.pavTbudgetC p) * us
  .next (only (p < 256 && (x = 1 || x = 2) && t.st = .running && b ≤ t.used + (s.now - t.since)) (overrun p x 3) s)

/-- R81: a Class B or C task has not executed END by the t_c of its class. -/
def execTaskDeadline (p x : Nat) (s : State) : Out :=
  let t := s.task p x
  let isOver := t.scan = s.scanNo x + 1 ∧ (t.st = .ended ∨ t.st = .cut ∨ t.st = .idle ∨ t.st = .halted)
  .next (only (p < 256 && (x = 1 || x = 2) && s.dispatches && s.classOn x && s.pavBusy p && s.hasTask p x && !decide isOver
      && 0 ≤ s.sinceOff x (s.rdN (K.scanCommitAt x))) (fun s =>
    if s.pavState p = Prog.hold then only (t.st = .running || t.st = .preempted) (park p x) s else overrun p x 4 s) s)

/-- R460: 100 ns before the end of the gap it reported, the scan engine ungates the lane. -/
def execLaneUngate (l : Nat) (s : State) : Out :=
  .next (only (l < 12 && (s.lane l).gated) (updLane l (fun x => { x with gated := false })) s)

/-- R69: a write of REALIGN. -/
def execScanRealign (src : Path) (v : Nat) (s : State) : Out := .next (command1 src K.scanRealign v realignEffect s)

/-! ### Coordinated changes -/

/-- R103: a write of CHG.REQUEST. -/
def execChgRequest (src : Path) (v : Bytes) (s : State) : Out := .next (command src K.chgRequest v (chgRequestEffect v) s)

/-- R105: a write of CHG.CANCEL. -/
def execChgCancel (src : Path) (v : Nat) (s : State) : Out := .next (command src K.chgCancel (le 8 v) (chgCancelEffect v) s)

/-! ### Remote I/O -/

/-- R96: a remote input frame completes reception; `f`: the body of R95. -/
def execRioInputFrame (f : Bytes) (s : State) : Out := .next (only (s.engine ≠ 0 && s.on K.rioEnable) (rioInput f) s)

/-- R86: RIO.HOLD of a stopped Pavilion runs out. -/
def execRemoteHoldExpiry (p : Nat) (s : State) : Out :=
  .next (only (p < 256 && s.pavState p = Prog.stop && !(s.pav p).remoteSafe && s.past (s.pav p).lastCommit (s.rdN K.rioHold * ms))
    (updPav p (fun v => { v with remoteSafe := true })) s)

/-! ### The debugger -/

/-- R85, R175: a breakpoint or halt request for p. -/
def execDebugHalt (p : Nat) (s : State) : Out :=
  .next (only (p < 256) (fun s =>
    if !s.mayDebug then reply Err.state [] s
    else match s.holdRefused p with
      | some r => reply Err.state [] (only (!s.isSplit (s.laneOf p / 3)) (raise Ev.debugRefused (le 1 p ++ le 1 r)) s)
      | none => if s.pavState p ≠ Prog.run then reply Err.state [] s else reply Err.ok [] (enterHold p s)) s)

/-- R88: the debugger resumes the halted task of p. -/
def execDebugResume (p : Nat) (s : State) : Out :=
  .next (only (p < 256) (fun s =>
    if !s.mayDebug ∨ s.pavState p ≠ Prog.hold then reply Err.state [] s
    else reply Err.ok [] (updPav p (fun v => { v with go := true, step := false }) s)) s)

/-- R88: one instruction of the halted task of p, within its next window or dispatch. -/
def execDebugSingleStep (p : Nat) (s : State) : Out :=
  .next (only (p < 256) (fun s =>
    if !s.mayDebug ∨ s.pavState p ≠ Prog.hold then reply Err.state [] s
    else reply Err.ok [] (updPav p (fun v => { v with step := true, go := false }) s)) s)

/-- R85: the debug session of a Pavilion in HOLD is lost. -/
def execDebugSessionLoss (p : Nat) (s : State) : Out :=
  .next (only (p < 256 && s.pavState p = Prog.hold) (fun s =>
    splitEndAll (enterStop p 9 (raiseScan p 0x12 (s.fastest p) 0 (debugEnd s)))) s)

end Sys2Proof.Machine
end

