-- ==== Sys2Proof/Machine/Security.lean ====
section
/-! DEFINITION. The commands of spec/17: life cycle, keys, the Icehouse's monitors, entropy and debug sessions. `sig`:
the signature of a voucher or token verifies under the key its rule names. -/

namespace Sys2Proof.Machine

/-! ### Claim and tokens (R477, R478) -/

/-- R477: the result code of a voucher. -/
def State.voucherCode (s : State) (v : Bytes) (sig : Bool) : Nat :=
  if fieldAt v 0 4 ≠ s.rdN K.commIdSerial then 2
  else if fieldAt v 4 4 ≠ s.rdN K.lcClaims then 3
  else if s.synced 3 ∧ fieldAt v 8 8 < s.tbNs 3 / 1000000000 then 4
  else if !sig then 5
  else if 15 ≤ s.rdN K.lcClaims then 6
  else if !s.rngServes true then 7
  else if s.lc ≠ Lc.unclaimed ∨ s.mode ≠ Mode.provision ∨ s.sec.pendingLc.isSome then 8
  else 1

/-- R477: a voucher is checked, and a claim begun. -/
def voucher (v : Bytes) (sig : Bool) (s : State) : Nat × State :=
  let c := s.voucherCode v sig
  let s := wrN K.lcClaimResult c s
  if c ≠ 1 then (Err.value, authFailure (raise Ev.claimRefused (le 1 c) s))
  else
    let s := createKeys (slice v 16 97) (slice v 116 97) (cryptoErase s)
    (Err.ok, resetIn 0 4 (updSec (fun x => { x with pendingLc := some Lc.owned }) s))

/-- R477: a write to LC.VOUCHER. In PROVISION no service key exists, so the optical port needs no session for it. -/
def execClaimVoucher (src : Path) (v : Bytes) (sig : Bool) (s : State) : Out :=
  .next (if src = .optical ∧ !s.opt.isOpen then
      only (s.dictReady && s.mode = Mode.provision) (fun s =>
        if v.length ≠ 312 then reply Err.length [] s
        else
          let r := voucher v sig s
          reply r.1 [] r.2) s
    else command src K.lcVoucher v (voucher v sig) s)

/-- R475: the state a TARGET leads to from the present one, if the table allows it. -/
def lcTarget (lc target : Nat) : Option Nat :=
  match target with
  | 1 => if lc = Lc.owned then some Lc.unclaimed else none
  | 2 => if lc = Lc.owned then some Lc.returned else none
  | 3 => if lc ≠ Lc.scrapped then some Lc.scrapped else none
  | 4 => if lc = Lc.returned then some Lc.unclaimed else none
  | 5 => if lc = Lc.manufacture then some Lc.unclaimed else none
  | _ => none

/-- R478: a refused token counts towards AUTH; the nonce is drawn anew after every attempt. -/
def lcRefuse (c : Nat) (s : State) : Nat × State := (c, authFailure (newNonce K.lcNonce s))

/-- R475, R476, R478: a write of a token with TARGET `target` to LC.TOKEN. -/
def lcToken (target : Nat) (src : Path) (v : Bytes) (sig : Bool) (s : State) : State :=
  only (byteAt v 20 = target) (command src K.lcToken v (fun s =>
    match lcTarget s.lc target with
    | none => lcRefuse Err.state s
    | some new =>
      if s.lc = Lc.owned ∧ !((s.caller src).any (fun c => c.role = .owner)) then lcRefuse Err.roleDenied s
      else if s.sec.pendingLc.isSome then lcRefuse Err.state s
      else if fieldAt v 0 4 ≠ s.rdN K.commIdSerial ∨ slice v 4 16 ≠ s.blobOf K.lcNonce ∨ !sig then lcRefuse Err.value s
      else
        let s := newNonce K.lcNonce s
        let s := updSec (fun x => { x with pendingLc := some new }) s
        let s := if s.lc = Lc.owned then dropKeys s else s
        (Err.ok, resetIn 0 4 s))) s

/-- R475: TARGET RELEASE. -/
def execLcTokenRelease (src : Path) (v : Bytes) (sig : Bool) (s : State) : Out := .next (lcToken 1 src v sig s)
/-- R475: TARGET RETURN. -/
def execLcTokenReturn (src : Path) (v : Bytes) (sig : Bool) (s : State) : Out := .next (lcToken 2 src v sig s)
/-- R475: TARGET SCRAP. -/
def execLcTokenScrap (src : Path) (v : Bytes) (sig : Bool) (s : State) : Out := .next (lcToken 3 src v sig s)
/-- R475: TARGET REFURBISH. -/
def execLcTokenRefurbish (src : Path) (v : Bytes) (sig : Bool) (s : State) : Out := .next (lcToken 4 src v sig s)
/-- R475: TARGET FINALISE. -/
def execLcTokenFinalise (src : Path) (v : Bytes) (sig : Bool) (s : State) : Out := .next (lcToken 5 src v sig s)

/-! ### The monitors (R483 to R487) -/

/-- R484: sources 0 to 4 that a reading indicates. -/
def State.indicates (s : State) (mesh : Bool) (lid : Nat) (temp : Int) (volt clock : Bool) : Nat :=
  b2n mesh + 2 * b2n (s.rdN K.alarmLidThreshold < lid) + 4 * b2n volt + 8 * b2n clock + 16 * b2n (temp < -550 || 1150 < temp)

/-- R483: a reading of the monitors: the mesh returned another pattern, lid counts, die temperature in 0.1 °C, and a
voltage or clock glitch. A source that it no longer indicates is no longer present. -/
def execIcehouseMonitorSample (mesh : Bool) (lid : Nat) (temp : Int) (volt clock : Bool) (s : State) : Out :=
  let ind := s.indicates mesh lid temp volt clock
  let s := wr K.iceTemp (signed 2 (unsigned 2 temp)) (wrN K.envLidLight (min lid 65535) s)
  let s := wrN K.alarmPresent ((List.range 5).foldl (fun a i => if bitOf ind i then a else setBit a i false) (s.rdN K.alarmPresent)) s
  let s := if mesh then s else wrN K.iceMesh 0 s
  .next (updSec (fun x => { x with indicated := ind }) s)

/-- R483, R485: the second reading; `mv` is the voltage of a glitch. A source both readings indicate is raised, unless
it was present already. -/
def execTamperConfirm (mesh : Bool) (lid : Nat) (temp : Int) (volt clock : Bool) (mv : Nat) (s : State) : Out :=
  let both := s.indicates mesh lid temp volt clock &&& s.sec.indicated
  let reading := [0, lid, mv, 0, unsigned 4 temp]
  let s := updSec (fun x => { x with indicated := 0 }) (if bitOf both 0 then wrN K.iceMesh 1 s else s)
  .next (each ((List.range 5).filter (fun i => bitOf both i && !bitOf (s.rdN K.alarmPresent) i)) (fun i => raiseSource i (reading.getD i 0)) s)

/-- R485: the sealed copy is destroyed, and the transition to UNCLAIMED completed. -/
def execSealedCopyDestroyed (s : State) : Out :=
  .next (only (s.ghRuns && s.sec.eraseBy.isSome && s.sec.destroyedAt.isNone) (fun s =>
    let s := if s.lc = Lc.owned then lcTo Lc.unclaimed (dropKeys s) else destroySealed s
    updSec (fun x => { x with destroyedAt := some s.now }) s) s)

/-- R485: 1 s after the sealed copy was destroyed, the module resets with cause 7. -/
def execEraseResetExpiry (s : State) : Out :=
  .next (only (s.mode ≠ Mode.icehouse && s.sec.destroyedAt.any (fun t => s.past t sec)) (fun s =>
    moduleReset 7 (updSec (fun x => { x with eraseBy := none, destroyedAt := none }) s)) s)

/-- R487: a write of 1 to ALARM.ACK. -/
def execAlarmAck (src : Path) (v : Nat) (s : State) : Out :=
  .next (command1 src K.alarmAck v (fun s =>
    let n := min 16 (s.rdN K.alarmTotal)
    let log := (List.range n).foldl (fun b j => overlay b (32 * j + 3) (le 1 (setBit (byteAt b (32 * j + 3)) 1 true))) (s.blobOf K.alarmLog)
    let s := wrN K.alarmUnacked 0 (wrBlob K.alarmLog log s)
    let s := emcyFollow (unlatch Ev.securityAlarm (unlatch Ev.keystoreErased s))
    accept (if s.rdN K.keysStoreState = 2 then restoreStore s else s)) s)

/-- R480: a write of KEYS.SERVICE_PUB replaces OWNER_SERVICE in the key store. -/
def execServicePubWrite (src : Path) (v : Bytes) (s : State) : Out :=
  .next (command src K.keysServicePub v (fun s =>
    if s.rdN K.keysStoreState ≠ 1 then refuse Err.state s
    else
      let s := writeStore (overlay (overlay s.sec.store 232 v) 0 (le 4 (s.rdN K.keysGeneration + 1))) s
      accept (wrBlob K.keysServicePub v s)) s)

/-! ### Entropy (R488) -/

/-- R488: a continuous test fails: 1 repetition count, 2 adaptive proportion. -/
def execTrngHealthFail (test : Nat) (s : State) : Out :=
  .next (only (s.ghRuns && (test = 1 || test = 2)) (fun s =>
    let l := s.now :: s.sec.trngFails.filter (fun t => s.now < t + 3600 * sec)
    let s := updSec (fun x => { x with trngFails := l }) s
    let s := wrN K.rngLastFail test (inc K.rngHealthFails U32.max s)
    let st := s.rdN K.rngState
    let new := if st = Rng.notReady then st else if 3 ≤ l.length ∨ st = Rng.fault then Rng.fault else Rng.degraded
    raise Ev.trngHealth (le 1 test ++ le 1 new) (wrN K.rngState new s)) s)

/-- R488: a reseed falls due. -/
def execDrbgReseed (s : State) : Out :=
  .next (only (s.ghRuns && s.rdN K.rngState = Rng.ready && s.reseedDue) reseed s)

/-! ### Authenticated debug (R490) -/

/-- R490: why a debug token is refused, in the order of the rule, or 0. -/
def State.debugReason (s : State) (v : Bytes) (sig : Bool) : Nat :=
  let t := s.tbNs 3 / 1000000000
  let e := fieldAt v 20 8
  let sc := fieldAt v 28 2
  if fieldAt v 0 4 ≠ s.rdN K.commIdSerial then 1
  else if slice v 4 16 ≠ s.blobOf K.dbgNonce then 2
  else if e ≤ t ∨ t + 28800 < e then 3
  else if 16 ≤ sc then 4
  else if !sig then 5
  else if s.rdN K.dbgState = 1 then 6
  else if s.lc = Lc.unclaimed ∨ s.lc = Lc.scrapped then 7
  else if bitOf sc 3 ∧ s.mode ≠ Mode.provision ∧ s.mode ≠ Mode.safeHalt then 8
  else 0

/-- R490: a debug token. -/
def debugToken (by_ : Nat) (v : Bytes) (sig : Bool) (s : State) : Nat × State :=
  let r := s.debugReason v sig
  let s := newNonce K.dbgNonce s
  if r ≠ 0 then (if r ≤ 5 then Err.value else Err.state, authFailure (raise Ev.debugRefused1222 (le 1 r) s))
  else
    let sc := fieldAt v 28 2
    let s := updSec (fun x => { x with dbgExpiry := fieldAt v 20 8, dbgBy := by_ }) s
    (Err.ok, raise Ev.debugSession (le 1 1 ++ le 2 sc) (wrN K.dbgScope sc (wrN K.dbgState 1 s)))

/-- R490: a token is written to DBG.TOKEN, or presented at the IEEE 1149.1 port where `jtag`. -/
def execDebugToken (src : Path) (v : Bytes) (sig jtag : Bool) (s : State) : Out :=
  .next (if jtag then only (s.ghRuns && v.length = 128) (fun s => (debugToken 0xFFFF v sig s).2) s
    else command src K.dbgToken v (debugToken (sessionNo src) v sig) s)

/-- R490: a write of 1 to DBG.CLOSE. -/
def execDebugClose (src : Path) (v : Nat) (s : State) : Out := .next (command1 src K.dbgClose v (fun s => accept (debugEnd s)) s)

/-- R490: EXPIRY has passed. -/
def execDebugExpiry (s : State) : Out :=
  .next (only (s.rdN K.dbgState = 1 && s.sec.dbgExpiry ≤ s.tbNs 3 / 1000000000) debugEnd s)

end Sys2Proof.Machine
end

