-- ==== Sys2Proof/Machine/Storage.lean ====
section
/-! DEFINITION. The commands of spec/13, but for those a power-fail release resumes: NAND reads and writes, dies,
wear, the patrol scrub, mounting, partitions and Pavilion stores. -/

namespace Sys2Proof.Machine

/-! ### NAND operations (R384 to R390) -/

/-- Bytes of partition k. -/
def State.partBytes (s : State) (k : Nat) : Nat := s.rdN (K.partSize k) * 67108864

/-- R382: an operation may address the block: its die is good and has it. -/
def State.onDie (s : State) (die blk : Nat) : Bool := s.rdN (K.dieState die) = 1 && blk < s.rdN (K.dieBlocks die)

/-- R390: the patrol scrub or a read finds the block in need by its age. -/
def State.aged (s : State) (die blk : Nat) : Bool :=
  let b := s.nblk die blk
  b.valid && b.programmedAt + s.rdN K.storRetentionAge * (86400 * 1000 * ms) < s.now

/-- R385: block `b` of partition k, on block `blk` of a die, is read: `step` 1 succeeds at once, 2 at a retry level, 3
by soft decode, 4 by reconstruction, 5 not at all; `level`: retry levels read; `crc`: its codeword decodes at step 1
but its CRC fails. -/
def execNandBlockRead (k b die blk step level : Nat) (crc : Bool) (s : State) : Out :=
  .next (only (k < 7 && die < 64 && 1 ≤ step && step ≤ 5) (fun s =>
    let code := s.readCode k
    if code ≠ Err.ok then reply code [] s
    else
      let alive := s.onDie die blk
      only ((alive || (4 ≤ step && s.rdN (K.dieState die) = 2)) && !(crc && step < 4)) (fun s =>
        let s := if !alive then s else
          let s := updSto (fun x => { x with notReady := Tab.put x.notReady die 0 0 }) s
          let s := updBlk die blk (fun x => { x with reads := x.reads + 1 }) s
          let s := only (2 ≤ step && !crc) (fun s => wrN (K.dieRetries die) (s.rdN (K.dieRetries die) + level) s) s
          let due := (step = 2 && 2 < level) || step = 3 || s.rdN K.storReadDisturbLimit ≤ (s.nblk die blk).reads
          only due (updBlk die blk (fun x => { x with due := true })) s
        let s := only crc (fun s => raise Ev.storageCrc (le 1 k ++ le 8 b) (inc K.storCrcErrors U32.max s)) s
        let s := only (step = 2 || step = 3) (fun s => wrN K.storRecovered (s.rdN K.storRecovered + 1) s) s
        if step = 4 then
          let s := raise Ev.readReconstructed (le 1 k ++ le 8 b ++ le 1 die) (wrN K.storReconstructed (s.rdN K.storReconstructed + 1) s)
          reply Err.ok [] s
        else if step = 5 then
          reply Err.hardware [] (raise Ev.readUnrecoverable (le 1 k ++ le 8 b) (inc K.storUnrecoverable U32.max s))
        else reply Err.ok [] s) s) s)

/-- R391: partition k refuses a write because it is full. -/
def partFull (k : Nat) (s : State) : State := raise Ev.partitionFull (le 1 k) (wrN (K.partState k) 1 s)

/-- R391: the partition has room for `n` more bytes, or overwrites its oldest. -/
def State.partRoom (s : State) (k n : Nat) : Bool :=
  k = 1 || k = 2 || k = 3 || k = 5 || s.rdN (K.partUsed k) + n ≤ s.partBytes k

/-- USED grows by `n`, to the partition's size at most. -/
def partGrow (k n : Nat) (s : State) : State := wrN (K.partUsed k) (min (s.partBytes k) (s.rdN (K.partUsed k) + n)) s

/-- R384: a logical block of partition k is programmed on a block of a die; `new`: the logical block held no data. -/
def writeBlock (k die blk : Nat) (new : Bool) (s : State) : State :=
  let code := s.writeCode k
  if code ≠ Err.ok then reply code [] s
  else if new && !s.partRoom k 4096 then reply Err.storeFull [] (partFull k s)
  else
    let s := only new (partGrow k 4096) s
    let s := wrN (K.partWritten k) (s.rdN (K.partWritten k) + 4096) s
    let s := updBlk die blk (fun x => { x with valid := true, programmedAt := if x.valid then x.programmedAt else s.now }) s
    reply Err.ok [] (updSto (fun x => { x with notReady := Tab.put x.notReady die 0 0 }) s)

/-- R384, R389, R398: a write of a block; during a flush it is held unanswered. -/
def execNandBlockWrite (k die blk : Nat) (new : Bool) (s : State) : Out :=
  .next (only (k < 7 && (s.writeCode k ≠ Err.ok || (s.onDie die blk && !(s.nblk die blk).retired))) (fun s =>
    if s.pow.flushing then updSto (fun x => { x with heldBlocks := x.heldBlocks ++ [(k, die, blk, new)] }) s
    else writeBlock k die blk new s) s)

/-- R389: a program or erase of a block reports a status failure. -/
def execNandProgramFail (die blk : Nat) (s : State) : Out :=
  .next (only (s.onDie die blk && (s.stoReads || s.stor = Sto.mounting)) (retireBlock die blk 2) s)

/-- R386, R387: an operation finds a die not ready 10 ms after its last bus cycle; `chan`: its whole channel has
stopped answering. -/
def execDieNotReadyTimeout (die : Nat) (chan : Bool) (s : State) : Out :=
  .next (only (die < 64 && s.rdN (K.dieState die) = 1 && s.stoReads) (fun s =>
    let ch := die / 16
    let n := Tab.get s.sto.notReady die 0 + 1
    let s := inc (K.nchErrors ch) U32.max (updSto (fun x => { x with notReady := Tab.put x.notReady die n 0 }) s)
    if chan then
      let s := raise Ev.channelFault (le 1 ch) (wrN (K.nchState ch) 2 s)
      storFollow (each ((List.range 16).map (16 * ch + ·)) (fun d => dieFailed d 1) s)
    else only (3 ≤ n) (dieFailed die 1) s) s)

/-- R386, R387: the rebuild has rewritten its next stripe of `total`, paced at REBUILD_RATE; `lost`: the stripe is
unreadable. -/
def execRebuildStripe (lost : Bool) (total : Nat) (s : State) : Out :=
  match s.sto.rebuild with
  | [] => .next s
  | d :: rest => .next (only (s.mayMove && s.past s.sto.stripeAt (s.rdN (K.diePageBytes d) * 1000 / max 1 (s.rdN K.storRebuildRate))) (fun s =>
      let n := s.sto.cursor + 1
      let u := s.sto.unreadable + b2n lost
      let s := updSto (fun x => { x with stripeAt := s.now, cursor := n, unreadable := u }) s
      if n < total then wrN K.storRebuildProgress (n * 1000 / total) s
      else
        let s := raise Ev.rebuildDone (le 1 d ++ le 4 n ++ le 4 u) (wrN K.storRebuildProgress 1000 s)
        let s := closeIntent 1 d s
        storFollow (updSto (fun x => { x with rebuild := rest, cursor := 0, unreadable := 0, rebuildFailed := x.rebuildFailed || 0 < u }) s)) s)

/-- A relocation that is open, or for which `cond` holds, goes on to `phase`. -/
def moveBlock (die blk to_ phase : Nat) (cond : Bool) (s : State) : State :=
  only (s.mayMove && s.onDie die blk && to_ < s.rdN (K.dieBlocks die) && to_ ≠ blk && !(s.nblk die to_).retired
    && (cond || s.sto.intents.any (fun i => i.op = 0 && i.arg = blkKey die blk))) (relocate die blk to_ phase) s

/-- R389: the erase counts of two blocks of one die differ by more than 10 % of its endurance. -/
def execStaticLevelling (die least most to_ phase : Nat) (s : State) : Out :=
  .next (moveBlock die least to_ phase
    ((s.nblk die least).valid && s.rdN (K.diePeLimit die) < 10 * ((s.nblk die most).erases - (s.nblk die least).erases)) s)

/-- R390: a block whose age, reads or retries call for it is relocated and erased. -/
def execBlockRefresh (die blk to_ phase : Nat) (s : State) : Out :=
  .next (moveBlock die blk to_ phase
    ((s.nblk die blk).due || s.aged die blk || s.rdN K.storReadDisturbLimit ≤ (s.nblk die blk).reads) s)

/-- R401: garbage collection relocates the valid data of a block. -/
def execGarbageCollection (die blk to_ phase : Nat) (s : State) : Out := .next (moveBlock die blk to_ phase true s)

/-- R390: the patrol scrub reads its next valid page of `total`; `need`: the read needed a retry level above 2, or soft
decode. -/
def execPatrolScrubStep (die blk : Nat) (need : Bool) (total : Nat) (s : State) : Out :=
  .next (only (s.stoReads && !s.pow.flushing && s.onDie die blk && s.past s.sto.scrubAt (s.rdN K.storScrubInterval * 3600 * sec / max 1 total)) (fun s =>
    let move := need || s.aged die blk
    let n := s.sto.scrubPages + 1
    let s := updBlk die blk (fun x => { x with reads := x.reads + 1, due := x.due || move }) s
    let s := updSto (fun x => { x with scrubAt := s.now, scrubPages := n, scrubMoved := x.scrubMoved + b2n move }) s
    if n < total then wrN K.storScrubProgress (n * 1000 / total) s
    else
      let s := raise Ev.scrubPass (le 4 n ++ le 4 s.sto.scrubMoved) (wrN K.storScrubLast (s.tb96 3) (wrN K.storScrubProgress 0 s))
      updSto (fun x => { x with scrubPages := 0, scrubMoved := 0 }) s) s)

/-- R402, R403: a suspect block is erased and verified; `ok`: every page reads erased. -/
def execSuspectBlockVerify (die blk : Nat) (ok : Bool) (s : State) : Out :=
  .next (only (s.onDie die blk && s.stoWrites && !s.pow.flushing && !(s.nblk die blk).retired) (fun s =>
    let s := eraseBlock die blk (inc K.storSuspectBlocks U32.max s)
    let s := only (!ok) (retireBlock die blk 3) s
    raise Ev.suspectBlock (le 1 die ++ le 2 blk ++ le 1 (if ok then 2 else 1)) s) s)

/-! ### Power fail at start-up (R399) -/

/-- R399: PFAIL# has stood since the engine started for 100 ms. -/
def execPfailStuck (s : State) : Out :=
  .next (only (s.stor = Sto.held_ && s.pow.pfail && !s.sto.stuckRaised && s.sto.stuckAt.any (fun t => s.past t (100 * ms))) (fun s =>
    raise Ev.pfailStuck [] (updSto (fun x => { x with stuckRaised := true }) s)) s)

/-! ### Mounting (R382, R383, R391, R400, R401) -/

/-- R382: what discovery reads of a die: its number, whether it answers with the ONFI signature and an intact parameter
page, page data and spare bytes, LUNs of its chip enable, pages per block, blocks, endurance, factory bad blocks and
the interface its channel runs. -/
structure DieInfo where
  d : Nat
  sig : Bool
  page : Nat
  spare : Nat
  luns : Nat
  ppb : Nat
  blocks : Nat
  limit : Nat
  bad : Nat
  iface : Nat

/-- The dies as the operand lists them, ten numbers each. -/
def dieInfos (l : List Nat) : List DieInfo :=
  (List.range (l.length / 10)).map (fun i =>
    let f (j : Nat) := l.getD (10 * i + j) 0
    { d := f 0, sig := f 1 = 1, page := f 2, spare := f 3, luns := f 4, ppb := f 5, blocks := f 6, limit := f 7, bad := f 8, iface := f 9 })

/-- R382: why a die is not used: the row of the table of R382, or 0. -/
def State.dieReason (s : State) (x : DieInfo) : Nat :=
  if x.page < 4096 ∨ 32768 < x.page ∨ x.page % 4096 ≠ 0 then 1
  else if x.spare < 448 * (x.page / 4096) then 2
  else if x.luns < 1 ∨ 4 < x.luns then 3
  else if s.sto.geometry.any (fun g => g ≠ (x.page, x.spare, x.ppb)) then 4
  else if 17592186044416 < s.rdN K.storRawBytes + (x.blocks - x.bad) * x.ppb * x.page then 5
  else 0

/-- R382: one die is discovered. -/
def discover (x : DieInfo) (model : Bytes) (s : State) : State :=
  let ch := x.d / 16
  if !x.sig || 64 ≤ x.d || s.stored (K.nchEnable ch) = 0 then s
  else
    let s := wrN (K.nchState ch) 1 (wrN (K.nchCePresent ch) (setBit (s.rdN (K.nchCePresent ch)) (x.d / 4 % 4) true) s)
    let s := wrN (K.nchInterface ch) x.iface s
    let r := s.dieReason x
    if r ≠ 0 then raise Ev.nandUnsupported (le 1 x.d ++ le 1 r) s
    else
      let first := s.sto.geometry = none
      let s := only first (updSto (fun y => { y with geometry := some (x.page, x.spare, x.ppb) })) s
      let s := wrBlob (K.dieModel x.d) model (wrN (K.diePageBytes x.d) x.page (wrN (K.diePeLimit x.d) x.limit s))
      let grown := s.rdN (K.dieBadBlocks x.d)
      let s := wrN (K.dieBlocks x.d) x.blocks (wrN (K.dieBadBlocks x.d) (max grown x.bad) s)
      let s := wrN (K.dieState x.d) (if Tab.get s.sto.failed x.d false then 2 else 1) s
      rawFollow s

/-- R384, R388, R391: what the first mount fixes: the initial spare, the user capacity and HISTORIAN's remainder. -/
def firstMount (s : State) : State :=
  if s.rdN K.storSpareInitial ≠ 0 then s
  else
    let good := (List.range 64).filter (fun d => s.rdN (K.dieState d) = 1)
    let n := (good.map s.usable).foldl (· + ·) 0 * 12 / 100
    wrN K.storUserBytes (s.rdN K.storRawBytes * 77 / 100) (wrN K.storSpareLeft n (wrN K.storSpareInitial n s))

/-- R391: HISTORIAN takes what remains. -/
def historianSize (s : State) : State :=
  let others := (([0, 1, 2, 4, 5, 6] : List Nat).map (fun k => s.rdN (K.partSize k))).foldl (· + ·) 0
  wrN (K.partSize 3) (s.rdN K.storUserBytes / 67108864 - others) s

/-- R401: each open intent is settled; how many are completed and rolled back. -/
def settleIntents (s : State) : Nat × Nat × State :=
  s.sto.intents.foldl (fun a i =>
    let (c, r, s) := a
    if i.op = 0 then
      let s := closeIntent 0 i.arg s
      if i.done then (c + 1, r, eraseBlock (i.arg / 2 ^ 24) (i.arg % 2 ^ 24) s) else (c, r + 1, s)
    else if i.op = 2 then
      let s := closeIntent 2 i.arg s
      let k := i.arg
      let old := (s.sto.resize.getD (k, s.rdN (K.partSize k))).2
      let s := updSto (fun x => { x with resize := none }) s
      if i.done then (c + 1, r, s) else (c, r + 1, commitKey (K.partSize k) (setEntryN (K.partSize k) old s))
    else if i.op = 4 then (c, r + 1, closeIntent 4 i.arg s)
    else (c, r, s)) (0, 0, s)

/-- R383, R391, R400, R401: discovery and recovery end. `dies` lists what discovery reads, in ascending d; `models`
their names, 32 bytes each. -/
def execStorageMount (dies : List Nat) (models : Bytes) (s : State) : Out :=
  let ready := (s.stor = Sto.mounting && s.pow.verified && !s.pow.pfail)
    || (s.stor = Sto.held_ && !s.pow.pfail && s.sto.releasedAt.any (fun t => s.past t (100 * ms)))
  .next (only ready (fun s =>
    let s := if s.stor = Sto.held_ then
        let d := s.now - s.sto.stuckAt.getD s.now
        storTo Sto.mounting (updUpd (fun u => { u with heldNs := u.heldNs + d }) s)
      else s
    let s := updSto (fun x => { x with geometry := none, stuckAt := none, releasedAt := none }) s
    let s := each (List.range 4) (fun c s => wrN (K.nchState c) 0 (wrN (K.nchCePresent c) 0 s)) s
    let s := each (List.range 64) (fun d s =>
      let s := only (s.rdN (K.dieState d) = 2) (updSto (fun x => { x with failed := Tab.put x.failed d true false })) s
      wrN (K.dieState d) 0 s) s
    let s := rawFollow s
    let infos := dieInfos dies
    let s := each (infos.zip (List.range infos.length)) (fun e => discover e.1 (slice models (32 * e.2) 32)) s
    let found := ((List.range 64).filter (fun d => s.rdN (K.dieState d) ≠ 0)).length
    if found < 8 then milestone 9 (storTo Sto.noMedia s)
    else
      let s := firstMount s
      let s := lockParts (!s.owned || s.rdN K.keysStoreState ≠ 1) s
      let r := settleIntents s
      let s := historianSize r.2.2
      let lost := s.sto.lostRecords
      let s := updSto (fun x => { x with lostRecords := 0 }) s
      let rec_ := le 8 (s.tb64 3) ++ le 2 r.1 ++ le 2 r.2.1 ++ le 4 lost
      let s := only (0 < r.1 + r.2.1 + lost) (fun s =>
        raiseSev Ev.journalRecovery rec_ (if 0 < lost then 5 else 3) (wrBlob K.storjLastRecovery rec_ s)) s
      -- R497: the part being received is staged again
      let s := only (s.rdN K.updState = 1) (fun s => each (List.range 9) (fun k s =>
        only (s.rdN (K.updPartState k) = 3 || s.rdN (K.updPartState k) = 4) (wrN (K.updPartState k) 2) s) s) s
      let s := storTo s.storWanted s
      let s := milestone 9 s
      only (s.upd.trial && !(s.stor = Sto.ready || s.stor = Sto.degraded)) (trialFail 5) s) s)

/-! ### Partitions (R391) -/

/-- R391: a write of PART.k.SIZE. -/
def execPartSizeWrite (src : Path) (k v : Nat) (s : State) : Out :=
  .next (only (k < 7) (command src (K.partSize k) (le 4 v) (fun s =>
    let others := ((([0, 1, 2, 4, 5, 6] : List Nat).filter (· ≠ k)).map (fun j => s.rdN (K.partSize j))).foldl (· + ·) 0
    let units := s.rdN K.storUserBytes / 67108864
    if units < others + v + 16 ∨ v * 67108864 < s.rdN (K.partUsed k) then (Err.value, s)
    else if s.writeCode k ≠ Err.ok then (s.writeCode k, s)
    else if s.sto.resize.isSome then (Err.busy, s)
    else if v = s.rdN (K.partSize k) then accept s
    else
      let old := s.rdN (K.partSize k)
      writeThen (K.partSize k) (le 4 v) true 0 (fun s =>
        let s := openIntent 2 k (updSto (fun x => { x with resize := some (k, old) }) s)
        wrN (K.partState 3) 2 (wrN (K.partState k) 2 s)) s)) s)

/-- R401: the last move of the resize is recorded, and the partition has its new bounds. -/
def execPartitionResizeComplete (s : State) : Out :=
  match s.sto.resize with
  | none => .next s
  | some (k, _) => .next (only s.mayMove (fun s =>
      let s := closeIntent 2 k (markIntent 2 k s)
      let s := wrN (K.partState 3) 0 (wrN (K.partState k) 0 s)
      historianSize (updSto (fun x => { x with resize := none }) s)) s)

/-! ### Pavilion stores (R395, R396) -/

/-- R396: the extent has blocks of an INCOMPLETE store that are not copied yet. -/
def State.notCopied (s : State) (p off len : Nat) : Bool :=
  match Tab.get s.sto.incomplete p 0 with
  | 0 => false
  | n + 1 => (extentBlocks off len).any (fun b => n ≤ b && !Tab.get s.sto.newer (p * 2 ^ 32 + b) false)

/-- The oldest request of p leaves the queue with its completion record. -/
def storeDone (q : StoReq) (code n : Nat) (s : State) : State :=
  let s := updSto (fun x => { x with reqs := x.reqs.erase q }) s
  closeStore q (if code = Err.ok then 1 else 2) code n s

/-- R395, R396: the oldest request of p goes on: a READ, TRIM or WRITE completes; a WRITE or TRIM that goes to the
partner begins, and completes once the partner holds it (`mirrored`). -/
def execPavstoreRequestComplete (p : Nat) (mirrored : Bool) (s : State) : Out :=
  match s.sto.reqs.find? (fun q => q.pav = p) with
  | none => .next s
  | some q => .next (
    if q.op = 0 then
      let code := s.readCode 4
      if code ≠ Err.ok then storeDone q code 0 s
      else if s.notCopied p q.off q.len then
        raiseOwned Ev.pavstore (le 1 p ++ le 1 2) p (storeDone q Err.hardware 0 s)
      else
        let d := s.bytesAt (Mem.pavstore p) q.off q.len
        if s.rangeWritable p q.buf q.len then storeDone q Err.ok q.len (bufPut p q.buf d s)
        else closeStore q 3 0 0 (updSto (fun x => { x with reqs := x.reqs.erase q }) s)
    else only (!s.pow.flushing) (fun s =>
      let code := s.writeCode 4
      if code ≠ Err.ok then storeDone q code 0 s
      else if q.op = 3 then storeDone q Err.ok 0 (storePlace p s)
      else
        let data := if q.op = 1 then some (s.bufGet p q.buf q.len) else none
        let s := if q.begun then s else storePut p q.off q.len data s
        if s.mirrors && !mirrored then
          if q.begun then s
          else
            let s := updSto (fun x => { x with reqs := x.reqs.map (fun y => if y = q then { y with begun := true } else y) }) s
            send Wire.bulk (le 1 p ++ le 1 q.op ++ le 8 q.off ++ le 4 q.len ++ data.getD []) s
        else storeDone q Err.ok q.len s) s)

/-- R396: a joining module copies the next block of p's store; no data: the block is not held. -/
def execPavstoreMirrorCopy (p : Nat) (data : Bytes) (s : State) : Out :=
  match Tab.get s.sto.incomplete p 0 with
  | 0 => .next s
  | n + 1 => .next (only (s.pairOp && s.mode = Mode.standby && s.stoWrites && !s.pow.flushing) (fun s =>
      let s := if data = [] then setHeld p n false (clearMem (Mem.pavstore p) (4096 * n) 4096 s)
        else setHeld p n true (store (Mem.pavstore p) (4096 * n) (padTo 4096 data) s)
      let s := storeUsage p (wrN (K.partWritten 4) (s.rdN (K.partWritten 4) + data.length) s)
      if 4096 * (n + 1) < s.rdN (K.quotaStore p) then
        updSto (fun x => { x with incomplete := Tab.put x.incomplete p (n + 2) 0 }) s
      else
        let s := closeIntent 5 p (updSto (fun x => { x with incomplete := Tab.put x.incomplete p 0 0 }) s)
        only (s.sto.incomplete = []) (fun s => wrN (K.partStoreMirror 4) 0 (updSto (fun x => { x with newer := [] }) s)) s) s)

/-- R396: a WRITE or TRIM of the ACTIVE module arrives over BULK, and is placed in the journal. -/
def execPavstorePartnerWrite (p : Nat) (trim : Bool) (off len : Nat) (data : Bytes) (s : State) : Out :=
  .next (only (s.pairOp && s.mode = Mode.standby && s.stoWrites && !s.pow.flushing && p < 256 && off % 4096 = 0 && len % 4096 = 0) (fun s =>
    send Wire.bulk (le 1 p ++ le 1 4 ++ le 8 off ++ le 4 len) (storePut p off len (if trim then none else some data) s)) s)

end Sys2Proof.Machine
end

