-- ==== Sys2Proof/Machine/Power.lean ====
section
/-! DEFINITION. The commands of spec/16, but for those that begin operation: supplies, insertion, clocks, droop, wakes
and the milestones of start-up. -/

namespace Sys2Proof.Machine

/-! ### VLOGIC (R450 to R454) -/

/-- R515: VLOGIC within its absolute maximum ratings, in mV. -/
def vlogicRated (mv : Int) : Bool := -20000 ≤ mv && mv ≤ 36000

/-- VLOGIC_MV. -/
def readVlogic (mv : Int) (s : State) : State := wrN K.pwrVlogicMv mv.toNat s

/-- R452, R428: VLOGIC at `mv` for `held` µs with the precharge complete. `carrier`, `slot`: the identity read (R514);
`powerLost`: the Icehouse reports that both supplies were absent (R484). -/
def execVlogicGood (mv : Int) (held : Nat) (carrier : Bytes) (slot : Nat) (powerLost : Bool) (s : State) : Out :=
  if !vlogicRated mv then .fault (.outsideRatings "VLOGIC")
  else .next (only (s.mode = Mode.icehouse && s.pow.precharged && 8700 ≤ mv && mv < 18000 && ms ≤ held * us) (fun s =>
    let ns := s.sec.iceNs + (s.now - s.sec.iceAt)
    let s := wrN K.vbatIcehouseHours (satAdd U32.max (s.rdN K.vbatIcehouseHours) (ns / (3600 * sec))) s
    let lost := powerLost || s.sec.vbatLost
    let s := updSec (fun x => { x with iceNs := ns % (3600 * sec), vbatLost := false }) s
    -- R353: a lost ERA resumes at its DICTSTORE copy plus 1
    let s := only lost (each ((List.range 8).filter (· ≠ 4)) (fun n s => wrN (K.tbEra n) ((s.stored (K.tbEra n) + 1) % 2 ^ 32) s)) s
    let s := if lost then
        drawn (wrN K.timeRtcValid 0 (updSec (fun x => { x with store := [], storeOk := false, rtc := s.free 64, rtcAt := s.now }) s)) else s
    let s := wrB K.icePowerLost lost (inc K.wearPowerUps U32.max s)
    let id := padTo 64 carrier
    let new := id ≠ s.pow.carrier || slot % 256 ≠ s.pow.slot
    let s := updPow (fun p => { p with good := true, carrier := id, slot := slot % 256 }) s
    let s := only lost (each ((List.range 8).filter (· ≠ 4)) copyEra) (readVlogic mv (moduleReset 1 s))
    only new rebase s) s)

/-- R428, R453: logic power is gone: the module falls back on the Icehouse. A journal whose commit record was not
programmed is lost (R400). -/
def powerDown (vbat : Bool) (s : State) : State :=
  let s := if s.sto.flushed then commitAll s else journalLost s
  let s := fieldFollow (quiet Mode.icehouse 1 (debugEnd s))
  let s := updSec (fun x => { x with iceAt := s.now, vbatLost := !vbat }) s
  let s := updPow (fun p => { p with good := false, precharged := false, heldReset := false, dormantStep := 0, flushing := false }) s
  optEnd { s with sessions := [], sdo := [], dictReady := false }

/-- R452: VLOGIC below 8.2 V for 10 µs, or at 18.0 V and above; `vbat`: VBAT is present. -/
def execVlogicLost (mv : Int) (held : Nat) (vbat : Bool) (s : State) : Out :=
  if !vlogicRated mv then .fault (.outsideRatings "VLOGIC")
  else .next (only (s.mode ≠ Mode.icehouse && ((mv < 8200 && 10 ≤ held) || 18000 ≤ mv)) (fun s => powerDown vbat (readVlogic mv s)) s)

/-- R452: VLOGIC has stood at `mv` for `held` µs. -/
def execVlogicStateChange (mv : Int) (held : Nat) (s : State) : Out :=
  if !vlogicRated mv then .fault (.outsideRatings "VLOGIC")
  else .next (only s.ghRuns (fun s =>
    let old := s.rdN K.pwrVlogicState
    let new := if old ≠ 1 ∧ mv < 9000 ∧ 10 ≤ held then 1
      else if old ≠ 2 ∧ 16000 < mv ∧ 10 ≤ held then 2
      else if old = 1 ∧ 9200 ≤ mv ∧ 1000 ≤ held then 0
      else if old = 2 ∧ mv ≤ 15800 ∧ 1000 ≤ held then 0 else old
    let s := readVlogic mv s
    only (new ≠ old) (fun s =>
      raiseSev Ev.vlogicState (le 1 new ++ le 2 mv.toNat) (if new = 0 then 2 else 4) (wrN K.pwrVlogicState new s)) s) s)

/-! ### Insertion and withdrawal (R455 to R458) -/

/-- R455: the input stands `diff` mV from VLOGIC_PRE. -/
def execPrechargeComplete (diff : Nat) (s : State) : Out :=
  .next (only (s.mode = Mode.icehouse && diff ≤ 1000) (updPow (fun p => { p with precharged := true })) s)

/-- R457: contact c is open: field outputs may no longer be driven. -/
def seatLift (c : Nat) (s : State) : State :=
  let s := wrN K.pwrSeated (setBit (s.rdN K.pwrSeated) c false) { s with fld := { s.fld with mated := false } }
  updPow (fun p => if c = 0 then { p with seat1At := none } else { p with seat2At := none }) s

/-- R456, R457: SEATED# contact c has read high for `held` µs. Without logic power, only the contact is followed. -/
def execSeatedOpen (c held : Nat) (s : State) : Out :=
  .next (only (c < 2 && 20 ≤ held && bitOf (s.rdN K.pwrSeated) c) (fun s =>
    let power := s.mode ≠ Mode.icehouse
    let s := seatLift c s
    if !power then s else
    let s := raiseSev Ev.seated (le 1 (c + 1) ++ le 1 1) 4 (inc K.pwrSeatedOpens U32.max s)
    let s := updPow (fun p => { p with heldReset := true }) s
    let s := hartListenAll (iolPassiveAll (islandForce s))
    let s := each (List.range 16) (fun j => updAo j (fun x => { x with fromOpen := true })) s
    flushStart (seatFollow s)) s)

/-- R456, R457: contact c has been mated for `held` ms; with both mated for 100 ms, field outputs may be enabled and
a module held in reset begins BOOT. -/
def execSeatedMated (c held : Nat) (s : State) : Out :=
  .next (only (c < 2) (fun s =>
    let was := bitOf (s.rdN K.pwrSeated) c
    let s := wrN K.pwrSeated (setBit (s.rdN K.pwrSeated) c true) s
    let s := if was || s.mode = Mode.icehouse then s else raiseSev Ev.seated (le 1 (c + 1) ++ le 1 2) 2 s
    let at_ := some (s.now - held * ms)
    let s := updPow (fun p => if c = 0 then { p with seat1At := at_ } else { p with seat2At := at_ }) s
    let both := s.pow.seat1At.any (fun t => s.past t (100 * ms)) && s.pow.seat2At.any (fun t => s.past t (100 * ms))
    only (both && !s.fld.mated) (fun s =>
      let s := if s.pow.heldReset && s.pow.flushing then moduleReset 6 s else s
      let s := inc K.wearMatings U32.max { s with fld := { s.fld with mated := true } }
      let s := if s.pow.heldReset then
          updGate (fun g => { g with bootAt := s.now, wdtS := s.now }) (updPow (fun p => { p with heldReset := false, bootZero := s.now }) s) else s
      seatFollow s) s) s)

/-! ### Clocks (R459 to R461) -/

/-- Domains whose clock comes from a PLL of their own, the lanes' apart (R459). -/
def pllDomain (d : Nat) : Bool := d = 11 || (13 ≤ d && d ≤ 23) || (25 ≤ d && d ≤ 27)

/-- R461: domain d loses lock; of a lane's PLL, lane `n` at lane cycle `cyc`. -/
def execPllLockLoss (d n cyc : Nat) (s : State) : Out :=
  if 4 ≤ d ∧ d ≤ 10 then .next (laneLocalFault n 5 cyc s)
  else .next (only (pllDomain d && s.ghRuns && s.rdN (K.clkState (d - 1)) ≠ 4) (fun s =>
    let l := s.now :: (Tab.get s.pow.lockLost d []).filter (fun t => s.now < t + sec)
    let s := updPow (fun p => { p with lockLost := Tab.put p.lockLost d l [] }) s
    if 3 ≤ l.length then
      settleFault 6 false (raise Ev.clockFault (le 1 d) (wrN (K.clkState (d - 1)) 4 s))
    else updPow (fun p => { p with stopped := d :: p.stopped.filter (· ≠ d) }) s) s)

/-- R461: domain d has relocked. -/
def execPllRelock (d : Nat) (s : State) : Out :=
  .next (only (s.pow.stopped.contains d && s.ghRuns) (fun s =>
    let s := updPow (fun p => { p with stopped := p.stopped.filter (· ≠ d) }) s
    raise Ev.pllRelock (le 1 d) (inc K.clkRelocks U32.max s)) s)

/-! ### Droop (R462 to R465) -/

/-- R464: DROOP.LAST: kind 1 throttle, 2 stretch, 3 critical. -/
def droopLast (rail sag kind dur : Nat) (s : State) : State :=
  wrBlob K.droopLast (le 8 (s.tb64 3) ++ le 1 rail ++ le 1 sag ++ le 1 kind ++ le 1 0 ++ le 4 dur) s

/-- R464: the sag of the worst core rail, in 0.1 %, reaches 3.0 %. -/
def execDroopThrottleOn (rail sag : Nat) (s : State) : Out :=
  .next (only (s.ghRuns && s.mode ≠ Mode.dormant && rail < 6 && 30 ≤ sag && !s.pow.throttle) (fun s =>
    let s := updPow (fun p => { p with throttle := true, throttleAt := s.now }) s
    let s := wrN K.droopThrottles (s.rdN K.droopThrottles + 1) s
    raise Ev.droopThrottle (le 1 rail ++ le 2 sag) (droopLast rail sag 1 0 s)) s)

/-- R464: the sag has stood below 2.0 % for `held` ns. -/
def execDroopThrottleOff (sag held : Nat) (s : State) : Out :=
  .next (only (s.pow.throttle && sag < 20 && 100 ≤ held) (fun s =>
    let d := s.now - s.pow.throttleAt
    let s := wrN K.droopThrottleNs (s.rdN K.droopThrottleNs + d) s
    let b := s.blobOf K.droopLast
    let s := only (byteAt b 10 = 1) (wrBlob K.droopLast (b.take 12 ++ le 4 d)) s
    updPow (fun p => { p with throttle := false }) s) s)

/-- R465: what a stretch does to resynchronisations: the register copy is abandoned, and the chunk in progress of
Trestle `chunk` is copied again. -/
def stretchCopies (chunk : Nat) (s : State) : State :=
  let s := each ((List.range 4).filter (fun t => (s.trestle t).resync.regs)) (fun t => updResync t (fun r => { r with regs := false })) s
  only (chunk < 4 && (s.trestle chunk).resync.active) (updResync chunk (fun r => { r with dtcm := r.dtcm + 1 })) s

/-- A stretch begins. -/
def stretchOn (kind rail sag chunk : Nat) (s : State) : State :=
  let s := updPow (fun p => { p with stretch := true, stretchAt := s.now, stretchFrom := s.now, stretchKind := kind, stretchSag := sag, stretchRail := rail }) s
  stretchCopies chunk (wrN K.droopStretches (s.rdN K.droopStretches + 1) s)

/-- R464: the sag calls for a stretch; `copying`: an image freeze, commit or C snapshot copy is running; `chunk`: the
Trestle that copies a chunk, or 4. -/
def execStretchStart (rail sag : Nat) (copying : Bool) (chunk : Nat) (s : State) : Out :=
  .next (only (s.ghRuns && s.mode ≠ Mode.dormant && rail < 6 && !s.pow.stretch) (fun s =>
    if 70 ≤ sag then
      let s := inc K.droopCritical U32.max (stretchOn 3 rail sag chunk s)
      raise Ev.stretchBudget (le 1 3 ++ le 1 rail ++ le 2 sag ++ le 8 (s.scanNo 0)) s
    else if 45 ≤ sag ∧ s.pow.usedNs < 5000 then
      if copying then inc K.droopDeferred U32.max s
      else raise Ev.droopStretch (le 1 rail ++ le 2 sag ++ le 8 s.pow.usedNs) (stretchOn 2 rail sag chunk s)
    else s) s)

/-- The time stretched so far in this budget period counts. -/
def stretchCount (s : State) : State :=
  let d := s.now - s.pow.stretchAt
  let used := s.pow.usedNs + d
  let s := wrN K.droopStretchNs (s.rdN K.droopStretchNs + d) s
  let s := wrN K.droopPeriodMax (max (s.rdN K.droopPeriodMax) used) s
  updPow (fun p => { p with usedNs := used, stretchAt := s.now }) s

/-- R464: a stretch ends: the sag has stood below 3.5 % for `held` ns, or the budget is used up. -/
def execStretchEnd (rail sag held : Nat) (s : State) : Out :=
  .next (only s.pow.stretch (fun s =>
    let used := s.pow.usedNs + (s.now - s.pow.stretchAt)
    let low := sag < 35 && 100 ≤ held
    let out := 5000 ≤ used && sag < 70
    only (low || out) (fun s =>
      let dur := s.now - s.pow.stretchFrom
      let s := stretchCount s
      let s := droopLast s.pow.stretchRail (max sag s.pow.stretchSag) s.pow.stretchKind dur s
      let s := updPow (fun p => { p with stretch := false }) s
      only (!low) (fun s => raise Ev.stretchBudget (le 1 2 ++ le 1 rail ++ le 2 sag ++ le 8 (s.scanNo 0)) (inc K.droopBudgetHits U32.max s)) s) s) s)

/-- R464: a budget boundary: a Class A boundary, or each 1 ms of TB4 while Class A is disabled. -/
def execStretchBudgetReset (s : State) : Out :=
  .next (only (s.ghRuns && (s.classOn 0 || s.past s.pow.budgetAt ms)) (fun s =>
    let s := if s.pow.stretch then stretchCount s else s
    updPow (fun p => { p with usedNs := 0, budgetAt := s.now }) s) s)

/-! ### Wakes (R469) -/

/-- R469: the Icehouse RTC reaches WAKE.ALARM. -/
def execWakeRtc (s : State) : Out :=
  let a := s.rdN K.wakeAlarm
  .next (only (s.wakeArmed 0 && a ≠ 0 && ofT96 a ≤ s.rtcNow) (wakeUp 0 0) s)

/-- R469: the wake pattern of an address: six bytes of 0xFF and the address 16 times. -/
def wakePattern (mac : Bytes) : Bytes := List.replicate 6 0xFF ++ (List.range 16).flatMap (fun _ => mac)

/-- R469: a frame with the wake pattern, to the wake address, with EtherType 0x0842. -/
def wakeFrame (mac f : Bytes) : Bool :=
  slice f 0 6 = mac && slice f 12 2 = [0x08, 0x42] && (List.range f.length).any (fun i => 14 ≤ i && i + 102 ≤ f.length && slice f i 102 = wakePattern mac)

/-- R469: a frame arrives on wake port 4 to 7, or on the service port, 8. -/
def execWakeNetwork (port : Nat) (f : Bytes) (s : State) : Out :=
  let mac := if port = 8 then s.blobOf K.svcethMac else s.blobOf K.swBridgeMac
  .next (only (s.wakeArmed 1 && 4 ≤ port && port ≤ 8 && bitOf (s.rdN K.wakeNetPorts) (port - 4) && wakeFrame mac f) (wakeUp 1 port) s)

/-- R469: the CAN_WAKE input of controller c has read low for `held` µs. -/
def execWakeCan (c held : Nat) (s : State) : Out :=
  .next (only (s.wakeArmed 2 && c < 8 && bitOf (s.rdN K.wakeCanMask) c && 10 ≤ held) (wakeUp 2 c) s)

/-- R287, R469: a wake sample of input i. -/
def execDiWakeSample (i : Nat) (level : Bool) (s : State) : Out :=
  .next (only (s.wakeArmed 3) (wakeDi i level (wakeUp 3 i)) s)

/-! ### The Icehouse supply (R470) -/

/-- R470: VBAT under load, in mV. -/
def execVbatMeasure (mv : Int) (s : State) : Out :=
  if mv < -300 ∨ 4500 < mv then .fault (.outsideRatings "VBAT")
  else .next (only (s.mode ≠ Mode.icehouse) (fun s =>
    let new := if 2800 ≤ mv then 0 else if 2600 ≤ mv then 1 else if 1800 ≤ mv then 2 else 3
    let old := s.rdN K.vbatState
    let s := wrN K.vbatLast (s.tb96 3) (wrN K.vbatMv mv.toNat s)
    only (new ≠ old) (fun s =>
      raiseSev Ev.vbatState (le 1 new ++ le 2 mv.toNat) (if new = 0 then 2 else if new = 1 then 3 else 4) (wrN K.vbatState new s)) s) s)

/-! ### Start-up (R471 to R473) -/

/-- R471: core rails good; the wipe starts. -/
def execStartupRailsGood (s : State) : Out :=
  .next (only (s.mode = Mode.boot && s.pow.good && !s.pow.heldReset && !s.pow.rails) (fun s =>
    milestone 1 (updPow (fun p => { p with rails := true }) s)) s)

/-- R499: the copies of the activation record that have MAGIC and CRC correct. -/
def actValid (r : Bytes) : Bool := fieldAt r 0 4 = 0x5A584152 && fieldAt r 60 4 = crc32c (r.take 60)

/-- R499: the copy with the highest valid SEQ. -/
def State.actBest (s : State) : Option Nat :=
  let a := s.blobOf (K.updActRecord 0)
  let b := s.blobOf (K.updActRecord 1)
  if actValid a ∧ (!actValid b ∨ fieldAt b 4 4 ≤ fieldAt a 4 4) then some 0 else if actValid b then some 1 else none

/-- R499: a record goes into the copy that does not hold the highest valid SEQ. -/
def writeAct (f : Nat → Bytes) (s : State) : State :=
  match s.actBest with
  | some j => wrBlob (K.updActRecord (1 - j)) (f (fieldAt (s.blobOf (K.updActRecord j)) 4 4 + 1)) s
  | none => wrBlob (K.updActRecord 0) (f 1) s

/-- R500: the ROM selects the set to boot. -/
def bootSelect (s : State) : State :=
  match s.actBest with
  | none => raise Ev.actRecordLost [] (updUpd (fun u => { u with trial := false }) s)
  | some j =>
    let r := s.blobOf (K.updActRecord j)
    let slots := fieldAt r 10 2
    let prev := fieldAt r 12 2
    let mid := fieldAt r 16 8
    let pid := fieldAt r 24 8
    if byteAt r 8 = 1 ∧ byteAt r 9 = 0 then
      let s := writeAct (fun q => actRecord q 1 1 slots prev mid pid) s
      wrN K.updState 5 (updUpd (fun u => { u with trial := true, trialAt := s.now, heldNs := 0, failedPart := 0 }) s)
    else if byteAt r 8 = 1 then
      let s := writeAct (fun q => actRecord q 2 0 prev prev pid pid) s
      let s := raise Ev.trialReverted (le 8 mid ++ le 1 s.upd.failedPart) s
      let s := each (List.range 9) (fun k => wrN (K.updPartState k) 0) s
      wrN K.updProgress 0 <| wrN (K.partUsed 0) 0 <| wrN K.updStagedId 0 (wrN K.updState 0 (updUpd (fun u => { u with trial := false, failedPart := 0, image := [], slot := [], manifest := [] }) s))
    else only (s.rdN K.updState = 4) (wrN K.updState 2) s

/-- R471, R437, R476, R481, R484, R485, R500: the Gatehouse reset is released and its ROM runs. In SCRAPPED it halts. -/
def execGatehouseResetRelease (s : State) : Out :=
  .next (only (s.mode = Mode.boot && s.pow.rails && !s.pow.released && !s.pow.heldReset) (fun s =>
    let s := updPow (fun p => { p with released := true }) s
    let s := updGate (fun g => { g with wdtS := s.now }) s
    let s := only (s.stored K.wdtLockAtBoot = 1) wdtLock s
    let s := latchSettle (pendingSettle (bootSelect s))
    let s := only (s.on K.icePowerLost && s.rdN K.modeLastReset = 1) (raiseSource Src.battery 0) s
    milestone 2 (keystoreCheck s)) s)

/-- R471, R473: the wipe is verified, or is not. -/
def execWipeComplete (ok : Bool) (s : State) : Out :=
  .next (only (s.starting && s.pow.released && !s.pow.wiped) (fun s =>
    if ok then milestone 3 (updPow (fun p => { p with wiped := true }) s) else startupFail 3 0 s) s)

/-- R471, R473, R488: the TRNG start-up tests end: at BOOT, or as a rerun in DEGRADED. -/
def execTrngSeeded (ok : Bool) (s : State) : Out :=
  .next (if s.pow.seeded then
      only (ok && s.rdN K.rngState = Rng.degraded) (fun s => reseed (wrN K.rngState Rng.ready s)) s
    else only (s.starting && s.pow.released) (fun s =>
      if ok then
        let s := updPow (fun p => { p with seeded := true }) s
        let s := updSec (fun x => { x with reseedAt := s.now, drbgReqs := 0 }) (wrN K.rngState Rng.ready s)
        milestone 4 (newNonce K.lcNonce (newNonce K.dbgNonce (newNonce K.recClearNonce s)))
      else
        let s := updPow (fun p => { p with trngTries := p.trngTries + 1 }) s
        only (3 ≤ s.pow.trngTries) (startupFail 3 0) s) s)

/-- R471, R473: DRAM training. -/
def execDramTrained (ok : Bool) (s : State) : Out :=
  .next (only (s.starting && s.pow.seeded && !s.pow.trained) (fun s =>
    if ok then milestone 5 (updPow (fun p => { p with trained := true }) s)
    else
      let s := updPow (fun p => { p with dramTries := p.dramTries + 1 }) s
      only (3 ≤ s.pow.dramTries) (startupFail 3 0) s) s)

/-- R434: the zero fill completes. -/
def execDramZeroFillComplete (s : State) : Out :=
  .next (only (s.pow.trained && !s.pow.filled && s.ghRuns) (updPow (fun p => { p with filled := true })) s)

/-- R471, R489: image signatures: code 0, or the LAST_VERIFY code with which part `part` fails. -/
def execImagesVerified (part code : Nat) (s : State) : Out :=
  .next (only (s.starting && s.pow.released && !s.pow.verified && code ≤ 4) (fun s =>
    let s := wrN K.bootsecLastVerify code s
    if code = 0 then
      let s := milestone 6 (updPow (fun p => { p with verified := true }) s)
      -- R399: the storage engine starts
      only s.pow.pfail (fun s => storTo Sto.held_ (updSto (fun x => { x with stuckAt := some s.now }) s)) s
    else startupFail 7 part (raise Ev.bootVerify (le 1 part ++ le 1 code) s)) s)

/-- R170, R172: lane n fails its BIST at BOOT, in `part` at `addr`. -/
def bootBistFail (n part addr : Nat) (s : State) : State :=
  let s := updPl n (fun x => { x with bistFailed := true }) (inc (K.laneBistFails n) U32.max s)
  retireLane n 3 (raise (Ev.laneBistFailed n) (le 1 n ++ le 1 part ++ le 8 addr) s)

/-- R471, R144, R473: the lane BIST of every lane not RETIRED; `fails` lists lane, BIST part and address of each that
fails. -/
def execBootLaneBistComplete (fails : List Nat) (s : State) : Out :=
  .next (only (s.starting && s.pow.released && !s.pow.formed) (fun s =>
    let f := (List.range (fails.length / 3)).map (fun i => (fails.getD (3 * i) 15, fails.getD (3 * i + 1) 0, fails.getD (3 * i + 2) 0))
    let tested := (List.range 15).filter (fun n => s.role n ≠ Rl.retired)
    let s := each tested (fun n s =>
      let s := inc (K.laneBistCount n) U32.max s
      match f.find? (fun e => e.1 = n) with
      | some e => bootBistFail n e.2.1 e.2.2 s
      | none => updPl n (fun x => { x with lastBistTb4 := s.now }) (wrN (K.laneLastBist n) (s.tb96 3) s)) s
    let s := each (List.range 4) (fun t s => wrN (K.trestleConfig t) (s.stored (K.trestleConfig t)) s) s
    let s := milestone 7 (formTrestles (updPow (fun p => { p with formed := true }) s))
    let safe := (List.range 4).filter (fun t => !s.isSplit t)
    let have_ := safe.filter (fun t => s.trState t ≠ Tr.failed)
    only ((safe ≠ [] && have_ = []) || (s.upd.trial && have_.length < s.upd.safeHad)) (startupFail 3 2) s) s)

/-- R253, R471: the island's start-up tests end; `test` is the failing test, `dur` the duration in ms. -/
def execIslandStartupComplete (pass : Bool) (test dur : Nat) (s : State) : Out :=
  .next (only (s.ghRuns && s.rdN K.safetyState = Isl.startup) (fun s =>
    let s := milestone 8 (islandStarted pass test dur s)
    only (s.upd.trial && !pass) (trialFail 3) s) s)

end Sys2Proof.Machine
end

