-- ==== Sys2Proof/Machine/Update.lean ====
section
/-! DEFINITION. The commands of spec/18: staging a manifest, activation, the trial and its commit (R491 to R504). -/

namespace Sys2Proof.Machine

/-! ### Manifests (R491 to R494) -/

/-- R492: the part records of a manifest. -/
def mfParts (m : Bytes) : List Bytes := (List.range (byteAt m 6)).map (fun i => slice m (128 + 256 * i) 256)
/-- R493: the prerequisite entries. -/
def mfPrereqs (m : Bytes) : List Bytes := (List.range (byteAt m 7)).map (fun i => slice m (128 + 256 * byteAt m 6 + 8 * i) 8)
/-- R491: the schema version of section n. -/
def mfSection (m : Bytes) (n : Nat) : Nat := fieldAt m (32 + 4 * n) 4
def mfId (m : Bytes) : Nat := fieldAt m 16 8
def recPart (r : Bytes) : Nat := byteAt r 0
def recSvn (r : Bytes) : Nat := fieldAt r 2 2
def recVersion (r : Bytes) : Nat := fieldAt r 4 4
def recBytes (r : Bytes) : Nat := fieldAt r 8 4
def recSchema (r : Bytes) : Nat := fieldAt r 12 4
def recHash (r : Bytes) : Bytes := slice r 16 48
/-- The record of part k. -/
def mfPart (m : Bytes) (k : Nat) : Option Bytes := (mfParts m).find? (fun r => recPart r = k)

def allZero (b : Bytes) : Bool := b.all (· = 0)
def ascending : List Nat → Bool
  | a :: b :: r => decide (a < b) && ascending (b :: r)
  | _ => true

/-- R495, code 2: MAGIC, FORMAT, LENGTH, order of records, reserved fields and sizes. -/
def mfFormat (m : Bytes) : Bool :=
  let n := byteAt m 6
  let q := byteAt m 7
  let len := 128 + 256 * n + 8 * q
  let ps := mfParts m
  let chain := fieldAt m (len + 2) 2
  let has3 := ps.any (fun r => recPart r = 3)
  decide (128 ≤ m.length) && fieldAt m 0 4 = 0x5A584D46 && fieldAt m 4 2 = 1 && 1 ≤ n && n ≤ 9 && q ≤ 64 && fieldAt m 24 4 = len
    && m.length = len + 196 + chain + (if has3 then 96 else 0) && (has3 || chain = 0)
    && allZero (slice m 13 3) && allZero (slice m 28 4) && allZero (slice m 124 4) && byteAt m (len + 1) = 0
    && ps.all (fun r => 1 ≤ recPart r && recPart r ≤ 9 && byteAt r 1 < 4 && 1 ≤ recBytes r && recBytes r ≤ 67108864
        && allZero (slice r 161 3) && allZero (slice r 232 24))
    && ascending (ps.map recPart) && (mfPrereqs m).all (fun e => allZero (slice e 2 2))

/-- R489: the hash of the running image of part k. -/
def State.runningHash (s : State) (k : Nat) : Bytes := Tab.get s.upd.hash k (le 48 (Config.factoryHash k).toNat)

/-- R495: the record equals the running image. -/
def State.recSame (s : State) (r : Bytes) : Bool :=
  recVersion r = s.rdN (K.updPartVersion (recPart r - 1)) && recHash r = s.runningHash (recPart r)

/-- R493: every prerequisite is met in the set that activation would produce. -/
def State.prereqsMet (s : State) (m : Bytes) : Bool :=
  (mfPrereqs m).all (fun e =>
    let k := byteAt e 1
    let v := match mfPart m k with
      | some r => recVersion r
      | none => if 1 ≤ k ∧ k ≤ 9 then s.rdN (K.updPartVersion (k - 1)) else 0
    decide (fieldAt e 4 4 ≤ v))

/-- R495: the result of checking a manifest. `safety`, `vendor`, `owner`: the signatures hold. -/
def State.checkManifest (s : State) (m : Bytes) (safety vendor owner : Bool) : Nat :=
  let ps := mfParts m
  let sig := 128 + 256 * byteAt m 6 + 8 * byteAt m 7
  let key := byteAt m sig
  let need := ((ps.filter (fun r => !s.recSame r)).map recBytes).foldl (· + ·) 0
  if !mfFormat m then 2
  else if fieldAt m 8 4 ≠ s.rdN K.commIdSerial ∨ bitOf (byteAt m 12) (s.rdN K.ghGrade) = false then 3
  else if !vendor ∨ 4 ≤ key ∨ bitOf (s.rdN K.bootsecVendorRevoked) key then 4
  else if !owner then 5
  else if ps.any (fun r => recPart r = 3) ∧ !safety then 6
  else if ps.any (fun r => recSvn r < s.rdN (K.bootsecRollback (recPart r - 1))) then 7
  else if !s.prereqsMet m then 8
  else if s.rdN (K.partSize 0) * 67108864 < s.rdN (K.partUsed 0) + need then 9
  else if s.rdN K.updState = 1 ∨ s.rdN K.updState = 2 ∨ s.mode = Mode.update ∨ s.upd.trial then 10
  else 1

/-! ### Staging (R495 to R497) -/

/-- Parts, numbered from 0, whose state is one of `l`. -/
def State.partsIn (s : State) (l : List Nat) : List Nat := (List.range 9).filter (fun k => l.contains (s.rdN (K.updPartState k)))

/-- R496: the set is STAGED once every part is VERIFIED, SAME or NONE. -/
def stagedCheck (s : State) : State :=
  if s.rdN K.updState = 1 ∧ s.partsIn [2, 3, 4, 6] = [] then
    raise Ev.updateStaged (le 1 0 ++ le 1 2) (closeIntent 3 0 (wrN K.updState 2 s))
  else s

/-- UPD.PROGRESS: per mille of the bytes to stage. -/
def stagingProgress (s : State) : State :=
  let size (k : Nat) : Nat := ((mfPart s.upd.manifest (k + 1)).map recBytes).getD 0
  let total := ((s.partsIn [2, 3, 4, 5, 6]).map size).foldl (· + ·) 0
  let done := ((s.partsIn [4, 5]).map size).foldl (· + ·) 0
  wrN K.updProgress (if total = 0 then 1000 else done * 1000 / total) s

/-- R495: a write of 1 to UPD.START checks the manifest and starts staging, or resumes it after a failed part. -/
def execUpdStart (src : Path) (safety vendor owner : Bool) (s : State) : Out :=
  .next (command src K.updStart (le 1 1) (fun s =>
    if !s.owned then (Err.state, s)
    else if s.rdN K.updState = 3 ∧ s.upd.manifest ≠ [] then
      accept (stagedCheck (each (s.partsIn [6]) (fun k => wrN (K.updPartState k) 2) (openIntent 3 0 (wrN K.updState 1 s))))
    else
      let m := s.blobOf K.updManifest
      let r := s.checkManifest m safety vendor owner
      let s := raiseSev Ev.updateManifest (le 1 r ++ le 8 (mfId m)) (if r = 1 then 3 else 4) (wrN K.updResult r s)
      if r ≠ 1 then (if r = 10 then Err.state else Err.value, s)
      else
        let s := updUpd (fun u => { u with manifest := m, image := [], slot := [] }) s
        let s := wrN K.updStagedId (mfId m) (wrN K.updState 1 s)
        let s := each (List.range 9) (fun k s =>
          wrN (K.updPartState k) (match mfPart m (k + 1) with
            | none => 0
            | some r => if s.recSame r then 1 else 2) s) s
        accept (stagedCheck (stagingProgress (openIntent 3 0 s)))) s)

/-- IMAGES and the inactive slots written so far are released. -/
def releaseImages (s : State) : State :=
  let s := updUpd (fun u => { u with image := [], slot := [], manifest := [] }) s
  wrN K.updProgress 0 (wrN (K.partUsed 0) 0 (wrN K.updStagedId 0 (each (List.range 9) (fun k => wrN (K.updPartState k) 0) s)))

/-- R496: a write of 2 to UPD.START cancels staging. -/
def execUpdCancel (src : Path) (s : State) : Out :=
  .next (command src K.updStart (le 1 2) (fun s =>
    if !s.owned then (Err.state, s)
    else if 1 ≤ s.rdN K.updState ∧ s.rdN K.updState ≤ 3 then accept (wrN K.updState 0 (closeIntent 3 0 (releaseImages s)))
    else accept s) s)

/-- R496: the ciphertext of part k + 1 is complete in IMAGES; `ok`: its tag and hash hold. A part that is not of its
SIZE fails. -/
def partReceived (k : Nat) (data : Bytes) (ok : Bool) (s : State) : State :=
  let size := ((mfPart s.upd.manifest (k + 1)).map recBytes).getD 0
  let s := wrN (K.partWritten 0) (s.rdN (K.partWritten 0) + data.length) s
  if ok && data.length = size then
    let s := updUpd (fun u => { u with image := Tab.put u.image k data [] }) s
    stagingProgress (wrN (K.updPartState k) 4 (wrN (K.partUsed 0) (s.rdN (K.partUsed 0) + size) s))
  else raiseSev Ev.updateStaged (le 1 (k + 1) ++ le 1 6) 4 (wrN K.updState 3 (wrN (K.updPartState k) 6 s))

/-- The part whose turn it is: the lowest not yet received. -/
def State.partTurn (s : State) (k : Nat) : Bool := s.rdN K.updState = 1 && (s.partsIn [2, 3]).headD 9 = k

/-- R496: host software pushes the ciphertext of part k + 1. -/
def execUpdPartImageWrite (src : Path) (k : Nat) (v : Bytes) (ok : Bool) (s : State) : Out :=
  .next (only (k < 9) (command src (K.updPartImage k) v (fun s =>
    if s.owned && s.partTurn k && s.blobOf K.updSource = [] then accept (partReceived k v ok s) else (Err.state, s))) s)

/-- R496: the update engine completes the download of part k + 1. -/
def execUpdPartDownloadComplete (k : Nat) (data : Bytes) (ok : Bool) (s : State) : Out :=
  .next (only (k < 9 && s.partTurn k && s.blobOf K.updSource ≠ [] && s.stoWrites) (partReceived k data ok) s)

/-- R496: part k + 1, written to its inactive NOR slot, is read back: its tag and hash hold, or it has FAILED. -/
def execUpdPartVerified (k : Nat) (ok : Bool) (s : State) : Out :=
  .next (only (k < 9 && s.rdN K.updState = 1 && s.rdN (K.updPartState k) = 4) (fun s =>
    if ok then
      let b := Tab.get s.upd.image k []
      stagedCheck (wrN (K.updPartState k) 5 (updUpd (fun u => { u with slot := Tab.put u.slot k b [] }) s))
    else raiseSev Ev.updateStaged (le 1 (k + 1) ++ le 1 6) 4 (wrN K.updState 3 (wrN (K.updPartState k) 6 s))) s)

/-! ### Activation (R498, R499) -/

/-- R498: a STAGED set is activated: control stops, the module enters UPDATE and the journal is flushed. -/
def activate (v : Nat) (s : State) : State :=
  let s := raise Ev.activation (le 8 (s.rdN K.updStagedId) ++ le 1 v) (wrN K.updState 4 s)
  let safe := ((List.range 4).filter (fun t => !s.isSplit t && s.trState t ≠ Tr.failed)).length
  let s := updUpd (fun u => { u with activating := some v, safeHad := safe }) s
  flushStart (fieldFollow (quiet Mode.update 13 s))

/-- R498: a write of 1 to UPD.ACTIVATE, accepted in STANDBY only. -/
def execUpdActivateStandby (src : Path) (s : State) : Out :=
  .next (command src K.updActivate (le 1 1) (fun s =>
    if s.owned && s.rdN K.updState = 2 && s.mode = Mode.standby then accept (activate 1 s) else (Err.state, s)) s)

/-- R498: a write of 2, accepted in ACTIVE or SERVICE without a READY partner. -/
def execUpdActivateStop (src : Path) (s : State) : Out :=
  .next (command src K.updActivate (le 1 2) (fun s =>
    if s.owned && s.rdN K.updState = 2 && s.activeLike && !s.partnerReady then accept (activate 2 s) else (Err.state, s)) s)

/-- R498, R499: the journal is flushed, the TRIAL record is written, and the module resets. -/
def execActivationRecordWritten (s : State) : Out :=
  .next (only (s.mode = Mode.update && s.upd.activating.isSome) (fun s =>
    let r := (s.actBest.map (fun j => s.blobOf (K.updActRecord j))).getD []
    let prev := fieldAt r 10 2
    let slots := (s.partsIn [5]).foldl (fun a k => setBit a k (!bitOf prev k)) prev
    let s := writeAct (fun q => actRecord q 1 0 slots prev (s.rdN K.updStagedId) (fieldAt r 16 8)) (commitAll s)
    moduleReset 8 s) s)

/-! ### The trial (R501, R502) -/

/-- UPD.TRIAL_LIMIT, in ns from the release of reset, the time in HELD apart. -/
def State.trialEnd (s : State) : Nat :=
  let limit := if s.dictReady then s.rdN K.updTrialLimit else s.stored K.updTrialLimit
  s.upd.trialAt + s.upd.heldNs + (if s.stor = Sto.held_ then s.now - s.sto.stuckAt.getD s.now else 0) + limit * (1000 * ms)

/-- R501: every milestone the checks name has been reached. -/
def State.trialPassed (s : State) : Bool :=
  ([6, 7, 8, 9, 10] : List Nat).all (fun k => s.rdN (K.startupMilestone (k - 1)) ≠ U32.max)
    && s.isl.startupOk && (s.stor = Sto.ready || s.stor = Sto.degraded) && s.dictReady

/-- R502 steps 1 to 4. -/
def commitSet (s : State) : State :=
  let r := (s.actBest.map (fun j => s.blobOf (K.updActRecord j))).getD []
  let slots := fieldAt r 10 2
  let id := fieldAt r 16 8
  let m := s.upd.manifest
  let ps := mfParts m
  let s := writeAct (fun q => actRecord q 0 0 slots slots id id) s
  let s := each ps (fun r s =>
    let k := K.bootsecRollback (recPart r - 1)
    only (s.rdN k < recSvn r) (fun s => raise Ev.rollbackRaised (le 1 (recPart r) ++ le 2 (recSvn r)) (wrN k (recSvn r) s)) s) s
  let s := each (List.range 23) (fun n s =>
    let old := s.rdN (K.dictSectionSchema n)
    let new := mfSection m n
    only (old ≠ new) (fun s => only (n = 12) stagedChanged (resetSection n old new (wrN (K.dictSectionSchema n) new s))) s) s
  let s := each ps (fun r s =>
    let s := wrN (K.updPartVersion (recPart r - 1)) (recVersion r) (updUpd (fun u => { u with hash := Tab.put u.hash (recPart r) (recHash r) [] }) s)
    if recPart r = 1 then wrBlob K.commSwVersion (Config.swVersionOf id) (wrN K.ghFwVersion (recVersion r) s)
    else if recPart r = 3 then wrN K.safetyFwVersion (recVersion r) s
    else if recPart r = 9 then wrN K.ckptSchema (recSchema r) (updUpd (fun u => { u with ckptFlags := byteAt r 1 + 1 }) s)
    else s) s
  let set := ps.foldl (fun a r => setBit a (recPart r) true) 0
  let s := raise Ev.trialCommitted (le 8 id ++ le 2 set) (wrN K.updRunningId id s)
  wrN K.updState 0 (releaseImages (updUpd (fun u => { u with trial := false, failedPart := 0 }) s))

/-- R501, R502: the trial's checks end: every one has passed, or the check of part `part` has not. -/
def execTrialCommit (ok : Bool) (part : Nat) (s : State) : Out :=
  .next (only (s.upd.trial && s.ghRuns) (fun s =>
    if !ok then trialFail (part % 256) s
    else only (s.trialPassed && s.now ≤ s.trialEnd) commitSet s) s)

/-- R501: the trial limit passes. -/
def execTrialLimitExpiry (s : State) : Out :=
  .next (only (s.upd.trial && s.ghRuns && s.trialEnd ≤ s.now) (trialFail 0) s)

/-- R504: a write of UPD.PREPARED; a change of bit 12 needs SAFETY as well. -/
def execUpdPreparedWrite (src : Path) (v : Nat) (s : State) : Out :=
  .next (command src K.updPrepared (le 4 v) (fun s =>
    if !s.owned then (Err.state, s)
    else if bitOf v 12 ≠ bitOf (s.rdN K.updPrepared) 12 ∧ !(s.caller src).any (·.safety) then (Err.roleDenied, s)
    else accept (wrN K.updPrepared v s)) s)

end Sys2Proof.Machine
end

