-- ==== Sys2Proof/Machine/DictApply.lean ====
section
/-! DEFINITION. One write on any path (R45): entries with a command of their own take that command's effect, every other
entry the effect of DictOps. Section restore (R50), the EMCY field (R38) and DAP.ENABLE (R60) stand here too. -/

namespace Sys2Proof.Machine

/-! ### Section restore (R50) -/

/-- R50: the further roles a restore of section n needs: OWNER, and SAFETY. -/
def restoreRoles (n : Nat) : Bool × Bool :=
  (([5, 8, 11, 1, 3, 4, 10, 19] : List Nat).contains n, ([12, 5, 8, 11] : List Nat).contains n)

/-- R50: what the return of entry k to its default does where a write of it has a command of its own. -/
def restoredRow (old : State) (k : Nat) (s : State) : State :=
  let i := k / 256
  let j := k % 256
  if 0x4C00 ≤ i ∧ i < 0x4C80 ∧ i % 16 = 0 ∧ j = 1 then only (old.on k) (canDisableEffect ((i - 0x4C00) / 16)) s
  else if 0x4200 ≤ i ∧ i < 0x4220 ∧ j = 1 then iolTo (i - 0x4200) Iols.deactivated (isduAbort (i - 0x4200) s)
  else if 0x4340 ≤ i ∧ i < 0x4370 ∧ j = 1 then only (old.on k) (fun s => hartTo (i - 0x4340) Hst.disabled false s) s
  else if 0x4900 ≤ i ∧ i < 0x4908 ∧ (j = 1 ∨ j = 2 ∨ j = 4) then
    -- R352: the base keeps the value it had, or takes its source's
    syncFollow (only (old.tableBytes k ≠ s.tableBytes k) (stepWith (i - 0x4900) 3 (setBase (i - 0x4900) (old.tbVal (i - 0x4900)))) s)
  else if 0x5510 ≤ i ∧ i < 0x5514 then histCount (endSegments 32 s)
  else s

/-- R50: every persistent entry of section n returns to its default, with the effects such writes have. -/
def restoreSection (c : Caller) (n : Nat) (s : State) : Nat × State :=
  let need := restoreRoles n
  if n = 22 then (Err.value, s)
  else if (need.1 && rank c.role < 3) || (need.2 && !c.safety) then (Err.roleDenied, s)
  else
    let changed := ((s.dict.map (·.1)) ++ (s.blob.map (·.1))).filter (fun k => sectionOf (k / 256) = some n && s.persistent k)
    let sch := s.rdN (K.dictSectionSchema n)
    let old := s
    let s := { s with pavVals := if n = 23 then s.pavVals.filter (fun e => !s.persistent e.1) else s.pavVals }
    let s := resetSection n sch sch s
    let s := if n = 9 ∨ n = 8 then each (List.range 256) (fun p s =>
      if old.armed p && (n = 9 || s.rdN (K.pavRegionArm p) = 0) then (if n = 8 then disarmTable p s else tableWritten p true s) else s) s else s
    let s := if n = 12 then stagedChanged s else s
    (Err.ok, afterWrites changed (each changed (fun k s => restoredRow old k (writeEffect old k s)) s))

/-- R50: a write of a section number to DICT.SECTION.DEFAULTS. -/
def execDictSectionRestore (src : Path) (v : Nat) (s : State) : Out :=
  .next (command src K.dictSectionDefaults (le 1 v) (fun s =>
    match s.caller src with
    | some c => restoreSection c (v % 256) s
    | none => (Err.state, s)) s)

/-- R38: the stored EMCY codes of controller c are cleared. -/
def commClear (c : Nat) (s : State) : State := each (List.range 17) (fun j => wrN (K.commErrorField c j) 0) s

/-- R38: a write to subindex 0 of COMM.C.ERROR_FIELD; 0 clears the stored codes, another value is refused. -/
def execCommErrorFieldClear (src : Path) (c v : Nat) (s : State) : Out :=
  .next (only (c < 8) (command src (K.commErrorField c 0) (le 4 v) (fun s =>
    if v ≠ 0 then (Err.value, s)
    else accept (commClear c s))) s)

/-! ### Sessions (R60) -/

/-- The number of open sessions, in DICT.DAP.OPEN. -/
def countSessions (s : State) : State := wrN K.dictDapOpen ((s.sessions.filter (fun e => e.2.isOpen)).length) s

/-- R60: session n ends. -/
def closeSession (n : Nat) (s : State) : State :=
  let s := { s with sessions := Tab.put s.sessions n {} {}
                    pair := { s.pair with owed := s.pair.owed.filter (fun o => o.link ≠ Wire.dap n) }
                    sto := { s.sto with heldFrames := s.sto.heldFrames.filter (fun e => e.1 ≠ n) } }
  holderGone (.dap n) (countSessions s)

/-- R60: a write of 0 to DICT.DAP.ENABLE: the write is answered, and every session is closed. -/
def execDapDisable (src : Path) (v : Nat) (s : State) : Out :=
  .next (command src K.dictDapEnable (le 1 v) (fun s =>
    writeThen K.dictDapEnable (le 1 v) (v = 0) Err.value (fun s => each (s.sessions.map (·.1)) closeSession s) s) s)

/-! ### One write -/

/-- What a command left: its next state. -/
def took (o : Out) (s : State) : State :=
  match o with
  | .next t => t
  | _ => s

/-- The command of an entry that has one of its own. A signature carried in the value verifies, or does not, freely. -/
def State.rowOf (s : State) (src : Path) (k : Nat) (v : Bytes) : Option Out :=
  let i := k / 256
  let j := k % 256
  let n := ofLe v
  let c := (i - 0x4C00) / 16
  let sig : Bool := s.free 1 = 1
  let t := drawn s
  if i = 0x1E01 + 16 * ((i - 0x1E00) / 16) ∧ 0x1E00 ≤ i ∧ i < 0x1E80 ∧ j = 0 then some (execCommErrorFieldClear src ((i - 0x1E00) / 16) n s)
  else if k = K.modecmdService then some (if n = 1 then execServiceEnter src s else execServiceLeave src s)
  else if k = K.modecmdDormant then some (execDormantRequest src n s)
  else if k = K.modecmdReset then some (execModuleResetCommand src n s)
  else if k = K.wdtKey then some (execWdtKeyWrite src n s)
  else if k = K.wdtLock then some (execWdtLockWrite src n s)
  else if k = K.wdtEnable then some (execWdtEnableWrite src n s)
  else if k = K.contRebase then some (execContactRebase src n s)
  else if k = K.dictSectionDefaults then some (execDictSectionRestore src n s)
  else if k = K.dictDapEnable ∧ n = 0 then some (execDapDisable src n s)
  else if k = K.recqQuery then some (execRecqQuery src v s)
  else if k = K.histqQuery then some (execHistqQuery src v s)
  else if k = K.recFreeze then some (if n = 1 then execRecFreeze src s else execRecUnfreeze src s)
  else if k = K.recClearToken then some (execRecClearToken src v sig t)
  else if k = K.recClearKeyswitch then some (execRecClearKeyswitch src n (s.on K.recKeyswitch) s)
  else if k = K.lcVoucher then some (execClaimVoucher src v sig t)
  else if k = K.lcToken then
    some (match byteAt v 20 with
      | 1 => execLcTokenRelease src v sig t
      | 2 => execLcTokenReturn src v sig t
      | 3 => execLcTokenScrap src v sig t
      | 4 => execLcTokenRefurbish src v sig t
      | 5 => execLcTokenFinalise src v sig t
      | _ => .next (command src k v (lcRefuse Err.state) s))
  else if k = K.keysServicePub then some (execServicePubWrite src v s)
  else if k = K.alarmAck then some (execAlarmAck src n s)
  else if k = K.dbgToken then some (execDebugToken src v sig false t)
  else if k = K.dbgClose then some (execDebugClose src n s)
  else if k = K.updStart then some (if n = 1 then execUpdStart src sig (t.free 1 = 1) ((drawn t).free 1 = 1) (drawn (drawn t)) else execUpdCancel src s)
  else if k = K.updActivate then some (if n = 1 then execUpdActivateStandby src s else execUpdActivateStop src s)
  else if i = 0x2302 ∧ 1 ≤ j ∧ j ≤ 9 then some (execUpdPartImageWrite src (j - 1) v sig t)
  else if k = K.updPrepared then some (execUpdPreparedWrite src n s)
  else if 0x2400 ≤ i ∧ i ≤ 0x2409 ∧ 1 ≤ j ∧ j ≤ 128 then some (execEventConfigWrite src (128 * (i - 0x2400) + j - 1) n s)
  else if k = K.scanRealign then some (execScanRealign src n s)
  else if k = K.chgRequest then some (execChgRequest src v s)
  else if k = K.chgCancel then some (execChgCancel src n s)
  else if 0x2710 ≤ i ∧ i < 0x271F ∧ j = 0x0C then some (execLaneRetireWrite src (i - 0x2710) n s)
  else if k = K.spareRotateNow then some (execRotateNow src n s)
  else if 0x2800 ≤ i ∧ i ≤ 0x28FF ∧ j = 0x1E then some (if n = 1 then execPavLoad src (i - 0x2800) s else execPavUnload src (i - 0x2800) s)
  else if 0x2800 ≤ i ∧ i ≤ 0x28FF ∧ j = 0x21 then some (if n = 1 then execRegionArm src (i - 0x2800) s else execRegionDisarm src (i - 0x2800) s)
  else if 0x2800 ≤ i ∧ i ≤ 0x28FF ∧ j = 0x28 then some (execPavWdtKey src (i - 0x2800) n s)
  else if 0x2800 ≤ i ∧ i ≤ 0x28FF ∧ j = 0x29 then some (execPavWdtEnable src (i - 0x2800) n s)
  else if 0x2800 ≤ i ∧ i ≤ 0x28FF ∧ j = 0x2A then some (execPavWdtLock src (i - 0x2800) n s)
  else if k = K.paircmdHandover then some (execHandoverRequest src n s)
  else if k = K.paircmdTakeoverReq then some (execTakeoverReqWrite src n s)
  else if k = K.paircmdRejoin then some (execPairRejoin src n s)
  else if safetyKeys.contains k then some (execSafetyStagedWrite src i j v s)
  else if k = K.safetyFaultAck then some (execSafetyFaultAck src n s)
  else if k = K.safeverConfirm then some (execSafetyConfirm src n s)
  else if k = K.safeverActivate then some (execSafetyActivate src n s)
  else if k = K.safeverDiscard then some (execSafetyDiscard src n s)
  else if 0x3420 ≤ i ∧ i < 0x342C ∧ j = 8 then some (execSoutAck src (i - 0x3420) n s)
  else if 0x3430 ≤ i ∧ i < 0x3436 ∧ j = 0x11 then some (execSgroupAck src (i - 0x3430) n s)
  else if 0x4000 ≤ i ∧ i < 0x4080 ∧ j = 8 then some (execDiEdgesWrite src (i - 0x4000) n s)
  else if 0x4080 ≤ i ∧ i < 0x40E0 ∧ j = 0x0A then some (execDoAck src (i - 0x4080) n s)
  else if 0x4200 ≤ i ∧ i < 0x4220 ∧ j = 1 then some (execIolModeWrite src (i - 0x4200) n s)
  else if 0x4300 ≤ i ∧ i < 0x4304 ∧ j = 8 then some (execAdcStart src (i - 0x4300) n s)
  else if 0x4330 ≤ i ∧ i < 0x4340 ∧ j = 0x13 then some (execAoAck src (i - 0x4330) n s)
  else if 0x4340 ≤ i ∧ i < 0x4370 ∧ j = 1 then some (execHartEnableWrite src (i - 0x4340) n s)
  else if k = K.swFdbFlush then some (execFdbFlush src n s)
  else if 0x4820 ≤ i ∧ i < 0x4828 ∧ j = 6 then some (execGateApply src (i - 0x4820) n s)
  else if 0x4900 ≤ i ∧ i < 0x4908 ∧ j = 6 then some (execTbStepWrite src (i - 0x4900) (signed 8 n) s)
  else if 0x4900 ≤ i ∧ i < 0x4908 ∧ j = 7 then some (execTbSetWrite src (i - 0x4900) n s)
  else if 0x4900 ≤ i ∧ i < 0x4908 ∧ (j = 1 ∨ j = 2 ∨ j = 4) then some (execTbSourceChange src (i - 0x4900) j v s)
  else if 0x4900 ≤ i ∧ i < 0x4908 ∧ j = 9 then some (execTbDeclare src (i - 0x4900) n s)
  else if 0x4C00 ≤ i ∧ i < 0x4C80 ∧ i % 16 = 0 ∧ j = 1 then some (if n = 1 then execCanEnable src c n false sig t else execCanDisable src c n s)
  else if 0x4C00 ≤ i ∧ i < 0x4C80 ∧ i % 16 = 0 ∧ j = 5 then some (execCanRecover src c n s)
  else if 0x5100 ≤ i ∧ i < 0x5107 ∧ j = 1 then some (execPartSizeWrite src (i - 0x5100) n s)
  else if 0x5510 ≤ i ∧ i < 0x5514 ∧ 1 ≤ j ∧ j ≤ 64 then some (execHistTagTableWrite src (i - 0x5510) (j - 1) v s)
  else none

/-- R45: one write on a path, whatever the entry. -/
def applyWrite (src : Path) (i j : Nat) (v : Bytes) (s : State) : State :=
  let k := 256 * i + j
  match s.caller src with
  | none => s
  | some _ =>
    if k = 0x200304 then took (execWdtForeignService true src 0 s) s
    else
      let e := s.checkWrite src i j v
      if e ≠ Err.ok then reply e [] s
      else match s.rowOf src k v with
        | some o => took o s
        | none => plainWrite src k v s

end Sys2Proof.Machine
end

