-- ==== Sys2Proof/Machine/Live.lean ====
section
/-! DEFINITION. Entries whose value is formed at the read: ages, present times, counts of what is configured, states of
clock domains (R459), and the result of the caller's latest query (R413, R421). -/

namespace Sys2Proof.Machine

/-- R459: domain d (1 to 28) runs in the present condition of the module. -/
def State.domainRuns (s : State) (d : Nat) : Bool :=
  let up := s.mode ≠ Mode.icehouse
  let full := up && s.mode ≠ Mode.dormant
  let busy (n : Nat) : Bool := s.role n = Rl.joining || s.role n = Rl.test
  if d = 1 then true
  else if d = 2 ∨ d = 3 ∨ d = 25 ∨ d = 26 ∨ d = 28 then up
  else if 4 ≤ d ∧ d ≤ 7 then full && s.engine ≠ 0 && s.rdN (K.trestleState (d - 4)) ≠ 0
  else if 8 ≤ d ∧ d ≤ 10 then full && decide (d - 8 < ((List.range 15).filter busy).length)
  else if d = 11 ∨ d = 12 then up && s.rdN K.safetyState ≠ Isl.off
  else if d = 14 then full && s.pow.trained
  else if d = 15 then full && s.stor ≠ Sto.noMedia
  else if d = 17 then full && (List.range 4).any (fun n => s.on (K.portEnable n))
  else if d = 18 then
    if s.mode = Mode.dormant then s.rdN K.wakeNetPorts % 16 ≠ 0 else full && (List.range 4).any (fun n => s.on (K.portEnable (n + 4)))
  else if d = 19 then full && s.pairOp
  else if d = 21 then full && (List.range 8).any (fun c => s.on (K.canEnable c))
  else if d = 27 then full && s.rdN K.dbgState = 1
  else full

/-- R460: every logical lane of Trestle t is gated. -/
def State.trestleGated (s : State) (t : Nat) : Bool :=
  (s.lane (3 * t)).gated && (s.rdN (K.trestleConfigNow t) = 0 || (s.lane (3 * t + 1)).gated && (s.lane (3 * t + 2)).gated)

/-- CLK.STATE of domain d: 0 OFF, 1 GATED, 2 RUNNING, 3 STRETCHED, 4 FAULT. -/
def State.clockState (s : State) (d : Nat) : Nat :=
  if s.rdN (K.clkState (d - 1)) = 4 ∨ s.pow.stopped.contains d then 4
  else if !s.domainRuns d then 0
  else if 4 ≤ d ∧ d ≤ 7 ∧ s.trestleGated (d - 4) then 1
  else if s.pow.stretch ∧ ((4 ≤ d ∧ d ≤ 10) ∨ d = 13) then 3
  else 2

/-- Addressable instances of the present configuration: every entry of the tables, and those that programs declare. -/
def State.instances (s : State) : Nat :=
  (dictRows.map (fun r => r.n * (r.s1 + 1 - r.s0))).foldl (· + ·) 0 + (s.pavs.map (fun e => e.2.decls.length)).foldl (· + ·) 0

/-- R98: the earliest frame-build instant of class x, in ns after the boundary. -/
def State.firstBuild (s : State) (x : Nat) : Nat :=
  ((s.stations.filter (fun st => Sta.cls (s.station st) = x && Sta.outLen (s.station st) ≠ 0)).map (fun st => (s.buildAt st).toNat)).foldl min U32.max

/-- 0x2100:05: LOGIC_MW after `n` periods of 100 ms since the module began to run, 0 before the first. -/
def State.logicMwAt (s : State) (n : Nat) : Nat := if n = 0 then 0 else (Config.logicMw (s.gate.bootAt + n * (100 * ms))).toNat
/-- 0x2100:06: the highest LOGIC_MW since the module began to run. -/
def State.logicMwMax (s : State) : Nat :=
  (List.range ((s.now - s.gate.bootAt) / (100 * ms) + 1)).foldl (fun a n => max a (s.logicMwAt n)) 0

/-- The value of a scalar entry formed at the read. -/
def State.live (s : State) (k : Nat) : Option Int :=
  let i := k / 256
  let j := k % 256
  let n := i % 16
  let c := (i - 0x1E00) / 16
  let cc := (i - 0x4C00) / 16
  let some' (v : Nat) : Option Int := some (v : Int)
  if k = K.ghUptime then some' ((s.now - s.gate.bootAt) / 1000000000)
  else if k = K.dictInfoInstances then some' s.instances
  else if k = K.safeverStagedCrc then some' s.stagedCrc
  else if k = K.safeverParapetStagedCrc then some' s.parapetCrc
  else if k = K.safeverActiveCrc then some' s.activeCrc
  else if k = K.partUsed 6 then some' s.storeUsed
  -- R391: a partition that has room again is not FULL
  else if (k = K.partState 0 ∨ k = K.partState 6) ∧ s.rdN k = 1
      ∧ (if k = K.partState 6 then s.storeUsed + 8 ≤ s.rdN K.dictStoreCapacity else s.rdN (K.partUsed 0) + 4096 ≤ s.rdN (K.partSize 0) * 67108864) then some' 0
  else if k = K.pwrLogicMw then some' (s.logicMwAt ((s.now - s.gate.bootAt) / (100 * ms)))
  else if k = K.pwrLogicMwMax then some' s.logicMwMax
  else if k = K.rioStations then some' s.stations.length
  else if k = K.spareOldestTest then some' s.oldestTest
  else if k = K.spareNext then some' (s.rdN K.spareInterval - (s.now - s.rotation.last) / 1000000000)
  else if k = K.pairBound then some' (6000 + s.tf)
  else if k = K.refGrantAge then some' (match s.pair.freshAt with
    | some t => min U32.max ((s.now - t) / 1000)
    | none => U32.max)
  else if k = K.timeRtc then some' (t96 (s.sec.rtc + (s.now - s.sec.rtcAt) * 65536))
  else if 0x2610 ≤ i ∧ i ≤ 0x2612 ∧ j = 0x0A then some' (s.firstBuild (i - 0x2610))
  else if 0x2710 ≤ i ∧ i ≤ 0x271E ∧ j = 5 then some' (s.bistAge (i - 0x2710))
  else if i = 0x2102 ∧ 1 ≤ j ∧ j ≤ 28 then some' (s.clockState j)
  else if 0x4900 ≤ i ∧ i ≤ 0x4907 ∧ j = 5 then some' (s.tb96 (i - 0x4900))
  else if 0x4900 ≤ i ∧ i ≤ 0x4907 ∧ j = 0x0E then some' (s.runningAs (i - 0x4900))
  else if 0x1E00 ≤ i ∧ i < 0x1E80 ∧ n = 0 ∧ j = 0 then some' (s.errorReg c)
  else if 0x1E00 ≤ i ∧ i < 0x1E80 ∧ n = 4 ∧ j = 0 then some' (s.emcyCob c)
  else if 0x1E00 ≤ i ∧ i < 0x1E80 ∧ n = 9 ∧ j = 1 then some' (0x600 + s.rdN (K.canNodeId c))
  else if 0x1E00 ≤ i ∧ i < 0x1E80 ∧ n = 9 ∧ j = 2 then some' (0x580 + s.rdN (K.canNodeId c))
  else if 0x4C00 ≤ i ∧ i < 0x4C80 ∧ n = 0 ∧ j = 0x0C then some' (b2n s.restricted)
  else if 0x4C00 ≤ i ∧ i < 0x4C80 ∧ n = 0 ∧ j = 0x10 then
    some' (if s.canSt8 cc = Can.stuck then ((s.canSt cc).stuckAt + (s.canSt cc).retryMs * 1000000 - s.now) / 1000000 else 0)
  else none

/-- The present value of an entry as the caller of a path reads it, as bytes (R5, R525). -/
def State.readBytes (s : State) (src : Path) (c : Caller) (i sub : Nat) : Bytes :=
  let k := 256 * i + sub
  if k = K.recqResult then Tab.get s.recd.results (pathCode src) []
  else if k = K.histqResult then Tab.get s.recd.histResults (pathCode src) []
  else match s.live k, dictFind i sub with
    | some v, some r => le r.size (unsigned r.size v)
    | _, _ => s.entryBytes c i sub

end Sys2Proof.Machine
end

