-- ==== Sys2Proof/Machine/Dict.lean ====
section
/-! DEFINITION. The dictionary server's commands: a write (R45), the commit to DICTSTORE (R48), the load at BOOT (R49),
the items of DAP and of the optical port (R447, R530), and STATUS3 (R508). -/

namespace Sys2Proof.Machine

/-- R45: a write on a path to an entry without a row of its own; an entry with one takes that row's effect. -/
def execDictWrite (src : Path) (i j : Nat) (v : Bytes) (s : State) : Out := .next (applyWrite src i j v s)

/-- R48: a journalled value is committed to DICTSTORE. -/
def execDictstoreCommit (k : Nat) (s : State) : Out :=
  .next (only (s.ghRuns && s.journal.contains k && !s.pow.flushing && s.writeCode 6 = Err.ok) (commitKey k) s)

/-- R508: the STATUS3 output toggles every 500 ms while Gatehouse firmware runs. -/
def execStatus3Toggle (s : State) : Out :=
  .next (only (s.ghRuns && s.pow.verified && s.past s.pow.status3At (500 * ms))
    (updPow (fun p => { p with status3 := !p.status3, status3At := s.now })) s)

/-! ### Items (R59, R530) -/

/-- One item of a DAP body. -/
structure Item where
  idx : Nat
  sub : Nat
  ty : Nat
  value : Bytes
  deriving DecidableEq, Repr

def Item.key (i : Item) : Nat := 256 * i.idx + i.sub

/-- A value padded with zeros to a multiple of 4 bytes. -/
def pad4 (b : Bytes) : Bytes := padTo ((b.length + 3) / 4 * 4) b

/-- An item as it stands in a frame. -/
def itemBytes (i j ty code : Nat) (v : Bytes) : Bytes := le 2 i ++ le 1 j ++ le 1 ty ++ le 2 v.length ++ le 2 code ++ pad4 v

/-- The items that fill a body exactly; none where they do not. -/
def parseItems (fuel : Nat) (b : Bytes) : Option (List Item) :=
  match fuel with
  | 0 => if b = [] then some [] else none
  | fuel + 1 =>
    if b = [] then some []
    else
      let n := fieldAt b 4 2
      let w := 8 + (n + 3) / 4 * 4
      if b.length < w then none
      else (parseItems fuel (b.drop w)).map ({ idx := fieldAt b 0 2, sub := byteAt b 2, ty := byteAt b 3, value := slice b 8 n } :: ·)

/-- R59: the type code of an entry as a caller sees it. -/
def State.typeOf (s : State) (c : Caller) (i j : Nat) : Nat := ((s.entryFor c i j).map (fun x => codeOf x.ty)).getD 0

/-- One item is read: its code, type and value. -/
def State.readItem (s : State) (src : Path) (c : Caller) (i j ty : Nat) : Nat × Nat × Bytes :=
  let e := s.checkRead c i j
  if e ≠ Err.ok then (e, ty, [])
  else if ty ≠ 0 ∧ ty ≠ s.typeOf c i j then (Err.length, ty, [])
  else (Err.ok, s.typeOf c i j, s.readBytes src c i j)

/-- R59: the item would reach the length test, and its TYPE is not the entry's. -/
def State.typeBad (s : State) (src : Path) (i j ty : Nat) : Bool :=
  match s.caller src with
  | none => false
  | some c => ty ≠ 0 && s.mayWriteEntry src i j = Err.ok && ty ≠ s.typeOf c i j

/-- One write, and the code it is answered with: OK also where the answer waits for an epoch (R39). -/
def writeOutcome (src : Path) (i j : Nat) (v : Bytes) (s : State) : Nat × State :=
  let t := applyWrite src i j v { s with answer := { code := 0xFFFF } }
  if t.answer.code = 0xFFFF then (Err.ok, { t with answer := s.answer }) else (t.answer.code, t)

/-- One item is written. -/
def writeItem (src : Path) (x : Item) (s : State) : Nat × State :=
  if s.typeBad src x.idx x.sub x.ty then (Err.length, s) else writeOutcome src x.idx x.sub x.value s

/-- R398: a write of one of these entries is held while a flush runs. -/
def State.holds (s : State) (src : Path) (ks : List Nat) : Bool :=
  match s.caller src with
  | none => false
  | some c => ks.any (fun k => s.writeHeld (ownKey c k))

/-- A frame is held unanswered until the flush is over (R398). -/
def holdFrame (who : Nat) (f : Bytes) (s : State) : State :=
  updSto (fun x => { x with heldFrames := x.heldFrames ++ [(who, f)] }) s

/-! ### The optical port (R447) -/

/-- R447: EVENTS: the query of R413, and its result. -/
def execOptEvents (f : Bytes) (s : State) : Out :=
  .next (optFrame 2 f (fun b s =>
    if !s.opt.isOpen then (Err.state, [], s)
    else
      let t := took (execRecqQuery .optical b { s with answer := { code := 0xFFFF } }) s
      if t.answer.code = Err.ok then (Err.ok, Tab.get t.recd.results (pathCode .optical) [], t) else (t.answer.code, [], t)) s)

/-- The single item of a READ or WRITE body. -/
def oneItem (b : Bytes) : Option Item :=
  match parseItems 2 b with
  | some [x] => some x
  | _ => none

/-- R447: READ: one item under the session's role. -/
def execOptRead (f : Bytes) (s : State) : Out :=
  .next (optFrame 5 f (fun b s =>
    match s.caller .optical, oneItem b with
    | none, _ => (Err.state, [], s)
    | _, none => (Err.protocol, [], s)
    | some c, some x =>
      let r := s.readItem .optical c x.idx x.sub x.ty
      let r := if 1016 < r.2.2.length then (Err.length, x.ty, []) else r
      (r.1, itemBytes x.idx x.sub r.2.1 r.1 r.2.2, s)) s)

/-- R411, R447, R477: a WRITE to the entry with key `k`; `sig`: the signature in its value verifies, `asserted`: the key
switch is asserted. -/
def opticalWrite (x : Item) (sig asserted : Bool) (s : State) : Nat × State :=
  let k := x.key
  let mark : State := { s with answer := { code := 0xFFFF } }
  let of (o : Out) : Nat × State :=
    let t := took o s
    if t.answer.code = 0xFFFF then (Err.ok, { t with answer := s.answer }) else (t.answer.code, t)
  if s.typeBad .optical x.idx x.sub x.ty then (Err.length, s)
  else if k = K.recClearToken then of (execRecClearToken .optical x.value sig mark)
  else if k = K.recClearKeyswitch then of (execRecClearKeyswitch .optical (ofLe x.value) asserted mark)
  else if k = K.lcVoucher then of (execClaimVoucher .optical x.value sig mark)
  else if k = K.dbgToken then of (execDebugToken .optical x.value sig asserted mark)
  else if k = K.lcToken ∧ byteAt x.value 20 = 1 then of (execLcTokenRelease .optical x.value sig mark)
  else if k = K.lcToken ∧ byteAt x.value 20 = 2 then of (execLcTokenReturn .optical x.value sig mark)
  else if k = K.lcToken ∧ byteAt x.value 20 = 3 then of (execLcTokenScrap .optical x.value sig mark)
  else if k = K.lcToken ∧ byteAt x.value 20 = 4 then of (execLcTokenRefurbish .optical x.value sig mark)
  else if k = K.lcToken ∧ byteAt x.value 20 = 5 then of (execLcTokenFinalise .optical x.value sig mark)
  else writeItem .optical x s

/-- R447: WRITE: one item under the session's role. R39: its response may wait for an epoch; R398: for the flush's end. -/
def opticalWriteFrame (f : Bytes) (sig asserted : Bool) (s : State) : State :=
  let n := s.pair.owed.length
  let held : Bool := match optParse f with
    | some (_, 6, b) => (oneItem b).any (fun x => s.holds .optical [x.key])
    | _ => false
  if held then (if s.sto.heldFrames.any (·.1 = 2000) then s else holdFrame 2000 f s)
  else
    let t := optFrame 6 f (fun b s =>
      match oneItem b with
      | none => (Err.protocol, [], s)
      | some x =>
        if !s.opt.isOpen ∧ !(s.mode = Mode.provision ∧ x.key = K.lcVoucher) ∧ x.key ≠ K.recClearToken ∧ x.key ≠ K.recClearKeyswitch then
          (Err.state, [], s)
        else
          let r := opticalWrite x sig asserted s
          (r.1, itemBytes x.idx x.sub x.ty r.1 [], r.2)) s
    if t.pair.owed.length ≤ n then t
    else oweFrame n Wire.optical t.opt.lastAnswer { t with wire := s.wire, opt := { t.opt with lastAnswer := [] } }

def execOptWrite (f : Bytes) (sig asserted : Bool) (s : State) : Out := .next (opticalWriteFrame f sig asserted s)

/-! ### The load at BOOT (R49) -/

/-- R49: the section was written under another schema version, as happens in a trial: its values are left alone. -/
def State.otherSchema (s : State) (i : Nat) : Bool :=
  s.upd.trial && (match sectionOf i with
    | some n => n ≠ 23 && mfSection s.upd.manifest n ≠ s.rdN (K.dictSectionSchema n)
    | none => false)

/-- The own rule of entry k concerns that entry alone. -/
def ruleAlone (k : Nat) : Bool :=
  let i := k / 256
  let j := k % 256
  (0x1400 ≤ i && i ≤ 0x15FF) || (0x1800 ≤ i && i ≤ 0x19FF) || i = 0x2046 || i = 0x2047 || i = 0x2730 || i = 0x2731
    || (0x2800 ≤ i && i ≤ 0x28FF && 1 ≤ j && j ≤ 0x0D) || (0x2900 ≤ i && i ≤ 0x29FF)
    || (0x4000 ≤ i && i < 0x4080 && (j = 6 || j = 0x0A)) || (0x4080 ≤ i && i < 0x40E0 && j = 4) || (0x40E0 ≤ i && i < 0x40E8 && j = 5)
    || (0x4200 ≤ i && i < 0x4220 && j = 2) || (0x4310 ≤ i && i < 0x4330 && j = 2)
    || (0x4330 ≤ i && i < 0x4340 && (j = 3 || j = 6 || 0x0A ≤ j)) || (0x4340 ≤ i && i < 0x4370 && j = 4)
    || i = 0x4801 || i = 0x4818 || i = 0x4819 || (0x4820 ≤ i && i ≤ 0x4827 && (j = 3 || 0x10 ≤ j))
    || (0x4C00 ≤ i && i < 0x4C80 && (i % 16 = 0 && j = 0x0A || i % 16 = 3 && 17 ≤ j))
    || (0x5580 ≤ i && i < 0x5600 && (j = 3 || j = 4))
    || k = K.wakeAlarm || k = K.alarmResponse || k = K.svcethIpv6 || k = K.svcethIpv4

/-- The rules of the entries hold of entry k in the set s. -/
def State.loadedOk (s : State) (k : Nat) : Bool := s.valueOk k && s.ownersCode s k = Err.ok

/-- R49: a value that fails: its entry stands at its default, and its record goes. -/
def revertKey (k : Nat) (s : State) : State :=
  let sec := ((sectionOf (k % 2 ^ 24 / 256)).getD 0)
  let s := if 0xA00000 ≤ k % 2 ^ 24 then s else putBytes k (defaultBytes k) s
  raise Ev.dictValueReverted (le 4 (k % 2 ^ 24) ++ le 1 sec) { s with store := Tab.put s.store k [] [] }

/-- R49: the value of one record, tested alone, takes its place; the key is answered where it does. -/
def loadValue (base : State) (e : Nat × Bytes) (a : List Nat × State) : List Nat × State :=
  let k := e.1
  let v := e.2.drop 1
  match tableEntry (k / 256) (k % 256) with
  | none => a
  | some x =>
    if valueCode x k v ≠ Err.ok ∨ (ruleAlone k ∧ !(putBytes k v base).loadedOk k) then (a.1, revertKey k a.2)
    else if 0x2800 ≤ k / 256 ∧ k / 256 ≤ 0x28FF ∧ k % 256 = 0x21 then (a.1 ++ [k], a.2)
    else (a.1 ++ [k], putBytes k v a.2)

/-- R49: while some rule fails, the entries it names return to their defaults. -/
def settleSet (fuel : Nat) (ks : List Nat) (s : State) : List Nat × State :=
  match fuel with
  | 0 => (ks, s)
  | fuel + 1 =>
    let bad := ks.filter (fun k => !s.loadedOk k)
    if bad = [] then (ks, s) else settleSet fuel (ks.filter (fun k => !bad.contains k)) (each bad revertKey s)

/-- R49, R526: a value of section 23 is loaded where p's program declares its entry. -/
def loadDeclared (e : Nat × Bytes) (s : State) : State :=
  let p := e.1 / 2 ^ 24
  let k := e.1 % 2 ^ 24
  match s.decl p (k / 256) (k % 256), s.declEntry p (k / 256) (k % 256) with
  | some d, some x =>
    if !d.persistent then s
    else if valueCode x k (e.2.drop 1) ≠ Err.ok then revertKey e.1 s
    else { s with pavVals := Tab.put s.pavVals e.1 (e.2.drop 1) d.dflt }
  | _, _ => s

/-- R300, R328, R361, R357: what the configured blocks do once their entries are loaded. -/
def startConfigured (s : State) : State :=
  let s := each ((List.range 32).filter (fun n => s.rdN (K.iolMode n) ≠ 0 && s.rdN (K.iolState n) = Iols.deactivated))
    (fun n s => if s.roleDrives then iolStart n s else iolTo n Iols.passive s) s
  let s := each ((List.range 8).filter (fun c => s.on (K.canEnable c))) (fun c => canEnableEffect c false true) s
  each ((List.range 4).filter (fun k => s.on (K.ptpEnable k) && s.rdN (K.ptpState k) = 0)) (fun k => ptpTo k 1) s

/-- R49: every persistent value is loaded and validated, and the dictionary becomes visible. -/
def dictLoad (s : State) : State :=
  let old := s
  let recs := if s.readCode 6 = Err.ok then s.store else []
  let base := recs.filter (fun e => e.1 < 2 ^ 24 && !s.otherSchema (e.1 / 256))
  let a := base.foldl (fun a e => loadValue old e a) (([] : List Nat), s)
  let b := settleSet (a.1.length + 1) a.1 a.2
  let ks := b.1
  let s := b.2
  let progs := (s.pavs.filter (fun e => e.2.image ≠ [])).map (·.1)
  let s := each progs (fun p s => loadProgram p (s.pav p).image (s.pav p).declList s) s
  let s := each (recs.filter (fun e => 2 ^ 24 ≤ e.1)) loadDeclared s
  let s := each ks (writeEffect old) s
  let s := each ((List.range 256).filter (fun p => ks.contains (K.pavRegionArm p))) armTable s
  let s := updPair (fun p => { p with op := s.rdN K.pairMode }) s
  let s := seatFollow { s with fld := { s.fld with cfgLoaded := true } }
  let s := histCount (startConfigured s)
  let s := wrN K.certCrlCount ((List.range 256).filter (fun n => fieldAt (s.blobOf K.certCrl) (16 * n) 16 ≠ 0)).length s
  let s := stagedChanged (wrN K.dictStoreUsed s.storeUsed s)
  milestone 10 (syncFollow (pairFollow { s with dictReady := true }))

/-- R49, R471: the dictionary is loaded at BOOT, once images are verified and the storage engine has settled. -/
def execDictLoad (s : State) : Out :=
  .next (only (s.ghRuns && s.starting && !s.dictReady && s.pow.verified && (s.pow.formed || s.mode ≠ Mode.boot)
    && s.stor ≠ Sto.mounting && s.stor ≠ Sto.held_) dictLoad s)

end Sys2Proof.Machine
end

