-- ==== Sys2Proof/Machine/Flags.lean ====
section
/-! DEFINITION. Integer operations of Arbour over numbers of `w` bits, and the flags they write (R109, R126, R127). -/

namespace Sys2Proof.Machine

/-- The signed reading of a `w`-bit number. -/
def sgn (w v : Nat) : Int := if 2 ^ (w - 1) ≤ v then (v : Int) - 2 ^ w else v

/-- The `w`-bit form of an integer, wrapped. -/
def wrap (w : Nat) (x : Int) : Nat := (x % (2 ^ w : Int)).toNat

/-- The exact result lies outside the signed range (R126). -/
def overflows (w : Nat) (x : Int) : Bool := x < -(2 ^ (w - 1) : Int) || (2 ^ (w - 1) : Int) ≤ x

/-- R126: comparisons, MIN, MAX and LIMIT are signed, unless U is set. -/
def keyOf (u : Bool) (w v : Nat) : Int := if u then (v : Int) else sgn w v

/-- A result of `w` bits with C and V; none where the spec states no value for the flag (R109). -/
structure IntRes where
  r : Nat
  c : Option Bool := some false
  v : Option Bool := some false
  deriving DecidableEq, Repr

def aluAdd (w a b : Nat) : IntRes :=
  { r := (a + b) % 2 ^ w, c := some (2 ^ w ≤ a + b), v := some (overflows w (sgn w a + sgn w b)) }

def aluSub (w a b : Nat) : IntRes :=
  { r := (a + (2 ^ w - b)) % 2 ^ w, c := some (a < b), v := some (overflows w (sgn w a - sgn w b)) }

def aluMul (w a b : Nat) : IntRes :=
  { r := a * b % 2 ^ w, c := none, v := some (overflows w (sgn w a * sgn w b)) }

/-- R127: the largest and the smallest value of the width. -/
def maxOf (u : Bool) (w : Nat) : Nat := if u then 2 ^ w - 1 else 2 ^ (w - 1) - 1
def minOf (u : Bool) (w : Nat) : Nat := if u then 0 else 2 ^ (w - 1)

/-- R127: DIV; none: the divisor is 0 under the policy TRAP. `sat`: the policy SATURATE. -/
def aluDiv (sat u : Bool) (w a b : Nat) : Option IntRes :=
  if b = 0 then
    if sat then some { r := if 0 ≤ keyOf u w a then maxOf u w else minOf u w, c := none, v := some true } else none
  else
    let q := (keyOf u w a).tdiv (keyOf u w b)
    if !u && overflows w q then some { r := maxOf false w, c := none, v := some true }
    else some { r := wrap w q, c := none, v := some false }

/-- R127: MOD, with the sign of the dividend. -/
def aluMod (sat u : Bool) (w a b : Nat) : Option IntRes :=
  if b = 0 then (if sat then some { r := 0, c := none, v := some true } else none)
  else some { r := wrap w ((keyOf u w a).tmod (keyOf u w b)), c := none, v := some false }

def aluMin (u : Bool) (w a b : Nat) : Nat := if keyOf u w a ≤ keyOf u w b then a else b
def aluMax (u : Bool) (w a b : Nat) : Nat := if keyOf u w b ≤ keyOf u w a then a else b

/-- C of a shift by `s`: the last bit shifted out; a shift by 0 shifts none out. -/
def outBit (s : Nat) (b : Bool) : Option Bool := if s = 0 then none else some b

def aluShl (w a b : Nat) : IntRes :=
  let s := b % w
  { r := a * 2 ^ s % 2 ^ w, c := outBit s (bitOf a (w - s)), v := none }

def aluShr (w a b : Nat) : IntRes :=
  let s := b % w
  { r := a / 2 ^ s, c := outBit s (bitOf a (s - 1)), v := none }

def aluSar (w a b : Nat) : IntRes :=
  let s := b % w
  { r := wrap w (sgn w a / (2 ^ s : Int)), c := outBit s (bitOf a (s - 1)), v := none }

/-- A rotate shifts its last bit out at one end and in at the other. -/
def aluRol (w a b : Nat) : IntRes :=
  let s := b % w
  { r := (a * 2 ^ s + a / 2 ^ (w - s)) % 2 ^ w, c := outBit s (bitOf a (w - s)), v := none }

def aluRor (w a b : Nat) : IntRes :=
  let s := b % w
  { r := (a / 2 ^ s + a * 2 ^ (w - s)) % 2 ^ w, c := outBit s (bitOf a (s - 1)), v := none }

/-- R126: a result of `w` bits in a 64-bit register: a narrow one is extended per U. -/
def extendTo (u : Bool) (w r : Nat) : BitVec 64 := BitVec.ofInt 64 (if u || w = 64 then (r : Int) else sgn w r)

/-- STATUS with bit i set to `b` (R109). -/
def flag (st : BitVec 16) (i : Nat) (b : Bool) : BitVec 16 := BitVec.ofNat 16 (setBit st.toNat i b)

/-- STATUS after an integer result of `w` bits (R109): Z bit 0, N bit 1, C bit 2, V bit 3. -/
def intFlags (st : BitVec 16) (w r : Nat) (c v : Bool) : BitVec 16 :=
  flag (flag (flag (flag st 0 (r = 0)) 1 (bitOf r (w - 1))) 2 c) 3 v

/-! ### Float operations (R128) -/

/-- The format that N selects. -/
def fmtOf (nar : Bool) : Fmt := if nar then f32 else f64

/-- A float operand: F32 from bits 31:0. -/
def floatIn (nar : Bool) (v : BitVec 64) : Nat := if nar then v.toNat % 2 ^ 32 else v.toNat

/-- R128: FCVTI: the integer, and whether the operation is invalid: a NaN gives 0, a value outside the width saturates. -/
def cvtInt (f : Fmt) (u rne : Bool) (x : Nat) : Nat × Bool :=
  match f.read x with
  | .nan _ => (0, true)
  | .inf s => (if s then minOf u 64 else maxOf u 64, true)
  | .fin s m e =>
    let i := finToInt rne s m e
    if u then (if i < 0 then (0, true) else if (2 ^ 64 : Int) ≤ i then (maxOf true 64, true) else (wrap 64 i, false))
    else if overflows 64 i then (if i < 0 then minOf false 64 else maxOf false 64, true)
    else (wrap 64 i, false)

end Sys2Proof.Machine
end

