-- ==== Sys2Proof/Machine/Operands.lean ====
section
/-! DEFINITION. What an Arbour instruction can reach: operand spaces (R112), data accesses (R113 to R116) and the checks
they meet (R23, R27, R72, R183 to R190), the fast-path pages (R36, R91, R356), the CAN object stores (R365, R366) and
the dictionary window (R51 to R53). -/

namespace Sys2Proof.Machine

/-- The task that executes on a logical lane: lane, Pavilion and class. -/
structure Ctx where
  l : Nat
  p : Nat
  x : Nat
  deriving DecidableEq, Repr

/-- Why an instruction does not retire now: a trap with cause, subcode and data address (R140); an uncorrectable SRAM
error at an address (R30); the lane stalls before the instruction has any effect; the lane waits for the end of a service
or a drain (R133, R136). -/
inductive Halt where
  | trap (cause sub addr : Nat)
  | lost (addr : Nat)
  | stall
  | wait
  deriving DecidableEq, Repr

/-- What an instruction does: it changes the state, and answers or halts. -/
abbrev Arb := EStateM Halt State

def trap {α : Type} (cause sub addr : Nat) : Arb α := throw (.trap cause sub addr)

/-- Causes of R140. -/
def Cause.illegal : Nat := 1
def Cause.align : Nat := 2
def Cause.protection : Nat := 3
def Cause.bstk : Nat := 4
def Cause.cstk : Nat := 5
def Cause.div0 : Nat := 6
def Cause.finv : Nat := 7
def Cause.budget : Nat := 8

/-- Refuse unless the condition holds. -/
def need (b : Bool) (cause sub addr : Nat) : Arb Unit := if b then pure () else trap cause sub addr

/-- The register bank of the task. -/
def bankOf' (c : Ctx) : Arb Bank := do return (← get).bank c.l c.x
def setRegs (c : Ctx) (f : Bank → Bank) : Arb Unit := modify (fun s => setBank c.l c.x (f (s.bank c.l c.x)) s)

/-- A value the spec does not state, of `n` bits. -/
def drawBits (n : Nat) : Arb Nat := do
  let v := (← get).free n
  modify drawn
  return v

/-! ### The lane address map (R23) -/

inductive Target where
  | itcm | dtcm | sram | input | output | dram | window | can | fast | none
  deriving DecidableEq, Repr

def canStoreBase : Nat := 0x1100000000
def windowBase : Nat := 0x1000000000
def fastBase : Nat := 0x1200000000

/-- R23, R26, R27: what lies at a lane address. -/
def targetOf (a : Nat) : Target :=
  if a < 0x100000 then .itcm
  else if a < 0x200000 then .dtcm
  else if inSram a then .sram
  else if inBase ≤ a ∧ a < outBase then .input
  else if outBase ≤ a ∧ a < outBase + 0x40000 then .output
  else if inDram a then .dram
  else if windowBase ≤ a ∧ a < windowBase + 0x8000000 then .window
  else if canStoreBase ≤ a ∧ a < canStoreBase + 0x200000 ∧ (a - canStoreBase) % 0x40000 < 0x28000 then .can
  else if fastBase ≤ a ∧ a < fastBase + 0x300000 then .fast
  else .none

/-- R188: accesses there need a region. -/
def Target.regioned : Target → Bool
  | .itcm | .dtcm | .sram | .input | .output | .dram => true
  | _ => false

/-! ### Fast-path pages -/

/-- R36: byte `o` of the event router page of Pavilion p. -/
def State.eventPage (s : State) (p o : Nat) : Nat :=
  let ch : Channel := Tab.get s.router.chan p {}
  if 0x08 ≤ o ∧ o < 0x10 then byteAt (le 8 ((ch.entries.head?.map (·.seq)).getD (2 ^ 64 - 1))) (o - 0x08)
  else if 0x10 ≤ o ∧ o < 0x14 then byteAt (le 4 ch.entries.length) (o - 0x10)
  else if o = 0x14 then b2n ch.overflow
  else if 0x40 ≤ o then
    match ch.entries[(o - 0x40) / 64]? with
    | some e => byteAt (padTo 16 e.header ++ padTo 40 e.payload ++ le 8 e.seq) ((o - 0x40) % 64)
    | none => 0
  else 0

/-- R91, R92: byte `o` of the scan engine page of Pavilion p. -/
def State.scanPage (s : State) (p o : Nat) : Nat :=
  let v := s.pav p
  let count (x : Nat) : Nat := min 255 (s.task p x).overruns
  let stations (bit : Nat) (o : Nat) : Nat := (List.range 8).foldl (fun a i =>
    let st := 8 * o + i
    let r := s.station st
    if Sta.enabled r && Sta.owner r = p && bitOf (s.staStatus st 6 1) bit then a + 2 ^ i else a) 0
  if o < 4 then byteAt (le 4 (b2n v.outSafe * 128 + v.first % 8 * 8 + s.pavState p % 4)) o
  else if 0x08 ≤ o ∧ o < 0x20 then byteAt (le 8 (s.scanNo ((o - 0x08) / 8))) (o % 8)
  else if 0x20 ≤ o ∧ o < 0x24 then byteAt (le 4 (count 0 + count 1 * 256 + count 2 * 65536)) (o - 0x20)
  else if 0x24 ≤ o ∧ o < 0x28 then byteAt (le 4 v.lastCause) (o - 0x24)
  else if 0x28 ≤ o ∧ o < 0x30 then byteAt (le 8 v.changeId) (o - 0x28)
  else if 0x30 ≤ o ∧ o < 0x38 then byteAt (le 8 v.changeScan) (o - 0x30)
  else if 0x80 ≤ o ∧ o < 0x100 then stations 0 (o - 0x80)
  else if 0x100 ≤ o ∧ o < 0x180 then stations 1 (o - 0x100)
  else 0

/-- R27: the page number of a fast-path address: block, Pavilion and offset. -/
def fastPage (a : Nat) : Nat × Nat × Nat := ((a - fastBase) / 0x100000, (a - fastBase) / 0x1000 % 256, (a - fastBase) % 0x1000)

/-- R27: a load from a fast-path page. -/
def fastLoad (c : Ctx) (a n : Nat) : Arb Bytes := do
  let f := fastPage a
  need (f.2.1 = c.p) Cause.protection 4 a
  let s ← get
  let byte (o : Nat) : Nat := if f.1 = 0 then s.eventPage c.p o else if f.1 = 1 then s.capturePage c.p o else s.scanPage c.p o
  return (List.range n).map (fun i => BitVec.ofNat 8 (byte (f.2.2 + i)))

/-- R36: a store to a fast-path page: OVERFLOW and POP take 4-byte stores at their offsets, nothing else is written. -/
def fastStore (c : Ctx) (a : Nat) (v : Bytes) (bit : Bool) : Arb Unit := do
  let f := fastPage a
  need (f.2.1 = c.p && f.1 = 0 && v.length = 4 && !bit && (f.2.2 = 0x14 || f.2.2 = 0x18)) Cause.protection 4 a
  let pop : Channel → Channel := fun ch => { ch with entries := ch.entries.drop 1 }
  let clear : Channel → Channel := fun ch => { ch with overflow := ch.overflow && !bitOf (ofLe v) 0 }
  modify (updRouter (fun r => { r with chan := Tab.upd r.chan c.p {} (if f.2.2 = 0x18 then pop else clear) }))

/-! ### CAN object stores (R365, R366) -/

/-- Controller, object and byte offset in the object of a store address (R26). -/
def canPlace (a : Nat) : Nat × Nat × Nat :=
  ((a - canStoreBase) / 0x40000, (a - canStoreBase) % 0x40000 / 80, (a - canStoreBase) % 0x40000 % 80)

/-- A lane's read of words w to w + n − 1 of an object, in order. -/
def canWords (o : Nat × Nat) (m w n : Nat) (s : State) : Bytes × State :=
  match n with
  | 0 => ([], s)
  | n + 1 =>
    let r := if w = 0 then readWord0 o.1 o.2 m s else if w = 19 then readWord19 o.1 o.2 m s else (s.objWord o.1 o.2 w false, s)
    let t := canWords o m (w + 1) n r.2
    (le 4 r.1 ++ t.1, t.2)

def canLoad (c : Ctx) (a n : Nat) : Arb Bytes := do
  let k := canPlace a
  let s ← get
  let r := s.objRec k.1 k.2.1
  need (Ob.enabled r && Ob.owner r = c.p) Cause.protection 1 a
  let w := k.2.2 / 4
  let x := canWords (k.1, k.2.1) (laneHolder c.p c.x) w ((k.2.2 + n - 1) / 4 + 1 - w) s
  set x.2
  return slice x.1 (k.2.2 % 4) n

/-! ### The dictionary window (R51 to R53) -/

/-- Index, subindex and offset in the slot of a window address. -/
def windowPlace (a : Nat) : Nat × Nat × Nat := ((a - windowBase) / 2048, (a - windowBase) / 8 % 256, a % 8)

/-- R51, R52: the 8-byte slot of an entry as code of p sees it. -/
def State.slotBytes (s : State) (c : Caller) (p i j : Nat) : Bytes :=
  match s.entryFor c i j with
  | none => le 8 0
  | some x =>
    let v := s.readBytes (.window p) c i j
    if 8 < x.size then le 8 (2 ^ 63 + codeOf x.ty * 2 ^ 40 + v.length)
    else if DType.isSigned x.ty then le 8 (unsigned 8 (signed v.length (ofLe v)))
    else padTo 8 v

/-- R53: a refused window access is recorded, and traps. -/
def winRefused {α : Type} (c : Ctx) (i j code a : Nat) : Arb α := do
  modify (wrN (kWinErr c.p) (code * 2 ^ 24 + 256 * i + j))
  trap Cause.protection 5 a

def winLoad (c : Ctx) (a n : Nat) : Arb Bytes := do
  let w := windowPlace a
  let s ← get
  match s.caller (.window c.p) with
  | none => winRefused c w.1 w.2.1 Err.state a
  | some cl =>
    let e := s.checkRead cl w.1 w.2.1
    if e ≠ Err.ok then winRefused c w.1 w.2.1 e a
    else return slice (s.slotBytes cl c.p w.1 w.2.1) w.2.2 n

/-- R51, R52: the code with which the length of a window store is refused, or OK. -/
def State.widthCode (s : State) (p i j o n : Nat) : Nat :=
  match (s.caller (.window p)).bind (fun cl => s.entryFor cl i j) with
  | none => Err.unknownIndex
  | some x => if DType.isLong x.ty ∨ 8 < x.size ∨ o ≠ 0 ∨ n ≠ x.size then Err.length else Err.ok

/-- A write of p's code: its code, and the state after. R398: while a flush runs the lane waits. -/
def codeWrite (p i j : Nat) (width : Nat) (v : Bytes) : Arb Nat := do
  let s ← get
  let e := s.mayWriteEntry (.window p) i j
  if e ≠ Err.ok then return e
  else if width ≠ Err.ok then return width
  else if s.holds (.window p) [256 * i + j] then throw .stall
  else
    let r := writeOutcome (.window p) i j v s
    set r.2
    return r.1

def winStore (c : Ctx) (a : Nat) (v : Bytes) : Arb Unit := do
  let w := windowPlace a
  let e ← codeWrite c.p w.1 w.2.1 ((← get).widthCode c.p w.1 w.2.1 w.2.2 v.length) v
  if e ≠ Err.ok then winRefused c w.1 w.2.1 e a

/-! ### Loads -/

/-- R72, R113, R190: image bytes as the task reads them; Class C reads the Class B partition of its snapshot (R73). -/
def State.imageBytes (s : State) (c : Ctx) (a n : Nat) : Bytes :=
  let as := s.areas
  (List.range n).map (fun i =>
    let y := a + i
    if y < outBase then
      let off := y - inBase
      s.maskByte as c.p false off (if c.x = 2 ∧ 0x8000 ≤ off then s.byte Mem.snapshot off else s.byte Mem.fabric y)
    else s.maskByte as c.p true (y - outBase) (s.byte Mem.fabric y))

/-- The bytes at an address whose checks have passed; `k`: through the K space. -/
def fetchData (c : Ctx) (k : Bool) (a n : Nat) : Arb Bytes := do
  let s ← get
  match targetOf a with
  | .itcm => if k then return s.bytesAt (Mem.tcm c.l) a n else trap Cause.protection 6 a
  | .dtcm => return s.bytesAt (Mem.tcm c.l) a n
  | .sram => if s.poisoned a then throw (.lost a) else return s.bytesAt Mem.fabric a n
  | .dram => return s.bytesAt Mem.fabric a n
  | .input | .output => return s.imageBytes c a n
  | .window => winLoad c a n
  | .can => canLoad c a n
  | .fast => fastLoad c a n
  | .none => trap Cause.protection 6 a

/-- R115, R188: a load of `n` bytes; `k`: through the K space. -/
def loadBytes (c : Ctx) (k : Bool) (a n : Nat) : Arb Bytes := do
  need (a % 8 + n ≤ 8) Cause.align 1 a
  let s ← get
  need (!(targetOf a).regioned || (if k then s.mayConst c.p a else s.mayRead c.p a)) Cause.protection 1 a
  fetchData c k a n

/-! ### Stores -/

/-- What a store writes: whole bytes, or one bit (R114). -/
inductive Data where
  | bytes (b : Bytes)
  | bit (i : Nat) (v : Bool)
  deriving DecidableEq, Repr

def Data.size : Data → Nat
  | .bytes b => b.length
  | .bit _ _ => 1

/-- Write plain memory. -/
def Data.write (d : Data) (sp a : Nat) (s : State) : State :=
  match d with
  | .bytes b => store sp a b s
  | .bit i v => storeBit sp a i v s

/-- R190: every image bit the store writes belongs to p. -/
def Data.owned (d : Data) (as : List Area) (p off : Nat) : Bool :=
  match d with
  | .bytes b => ownsOut as p off b.length
  | .bit i _ => ownerIn as true (8 * off + i) = some p

/-- R136: a store enters the egress buffer, which holds 8; a full one takes it as its oldest store drains. -/
def issue (c : Ctx) : Arb Unit := modify (updLane c.l (fun x => { x with egress := min 8 (x.egress + 1) }))

/-- R30: a store of a whole word clears the mark of a poisoned word; a narrower one meets the error. -/
def sramStore (c : Ctx) (a : Nat) (d : Data) : Arb Unit := do
  let s ← get
  let whole : Bool := match d with
    | .bytes b => a % 8 = 0 && b.length = 8
    | .bit _ _ => false
  if s.poisoned a && !whole then throw (.lost a)
  else
    issue c
    modify (fun s => d.write Mem.fabric a (only whole (unpoison a) s))

/-- The store at an address whose region check has passed. -/
def putData (c : Ctx) (a : Nat) (d : Data) : Arb Unit := do
  let s ← get
  match targetOf a with
  | .dtcm => modify (d.write (Mem.tcm c.l) a)
  | .sram => sramStore c a d
  | .dram => do
    issue c
    modify (d.write Mem.fabric a)
  | .output => do
    need (s.outClass (a - outBase) = c.x) Cause.protection 2 a
    need (d.owned s.areas c.p (a - outBase)) Cause.protection 1 a
    issue c
    modify (d.write Mem.fabric a)
  | .window => match d with
    | .bytes b => winStore c a b
    | .bit i v => do
      -- a bit write is a store of the byte with its other bits as they are
      let old ← winLoad c a 1
      winStore c a (le 1 (setBit (byteAt old 0) i v))
  | .fast => match d with
    | .bytes b => fastStore c a b false
    | .bit i v => fastStore c a (le 1 (2 ^ i * b2n v)) true
  | .can => trap Cause.protection 1 a
  | .input => trap Cause.protection 3 a
  | .itcm | .none => trap Cause.protection 6 a

/-- R112, R115, R188: a store. -/
def storeData (c : Ctx) (a : Nat) (d : Data) : Arb Unit := do
  need (a % 8 + d.size ≤ 8) Cause.align 1 a
  need (!(inBase ≤ a && a < outBase)) Cause.protection 3 a
  let s ← get
  need (!(targetOf a).regioned || s.mayWrite c.p a) Cause.protection 1 a
  putData c a d

/-! ### Runs of bytes (R137) -/

/-- The pieces of a byte range that 8-byte boundaries cut. -/
def pieces (a n : Nat) : List (Nat × Nat) :=
  if n = 0 then []
  else ((List.range ((a + n - 1) / 8 + 1 - a / 8)).map (fun i =>
    let lo := max a (8 * (a / 8 + i))
    (lo, min (a + n) (8 * (a / 8 + i + 1)) - lo)))

/-- Read the pieces of a range. -/
def readPieces (c : Ctx) (l : List (Nat × Nat)) : Arb Bytes :=
  match l with
  | [] => pure []
  | e :: r => do
    let b ← fetchData c false e.1 e.2
    return b ++ (← readPieces c r)

/-- Write bytes over the pieces of a range. -/
def writePieces (c : Ctx) (l : List (Nat × Nat)) (b : Bytes) : Arb Unit :=
  match l with
  | [] => pure ()
  | e :: r => do
    putData c e.1 (.bytes (b.take e.2))
    writePieces c r (b.drop e.2)

/-! ### Operand spaces (R112) -/

/-- R112, R184: the base of a space for the task; none: the space is unused. -/
def State.spaceBase (s : State) (c : Ctx) (sp : Space) : Option Nat :=
  let used (b : Nat) : Option Nat := if b = 0 then none else some b
  match sp with
  | .i => some inBase
  | .q => some outBase
  | .m => used (s.rdN (K.pavMBase c.p))
  | .l => used (s.rdN (K.pavLBase c.p c.x))
  | .t => used (s.rdN (K.pavTBase c.p))
  | .c => used (s.rdN (K.pavCBase c.p))
  | .d => (used (s.rdN (K.pavDBase c.p))).map (fun _ => ((s.bank c.l c.x).g[15]).toNat)
  | .k => some (s.rdN (K.pavKBase c.p))

/-- The lane address of an operand; `w`: for a write. -/
def addrOf (c : Ctx) (sp : Space) (off : BitVec 18) (w : Bool) : Arb Nat := do
  let s ← get
  match s.spaceBase c sp with
  | none => trap Cause.protection 1 off.toNat
  | some b =>
    let a := (b + off.toNat) % 2 ^ 64
    need (!(w && (sp = .i || sp = .k))) Cause.protection 3 a
    return a

/-- A load of `n` bytes at an operand. -/
def loadOp (c : Ctx) (sp : Space) (off : BitVec 18) (n : Nat) : Arb Nat := do
  let a ← addrOf c sp off false
  return ofLe (← loadBytes c (sp = .k) a n)

/-- The bit an operand names. -/
def loadBit (c : Ctx) (sp : Space) (off : BitVec 18) (b : BitVec 3) : Arb Bool := do
  return bitOf (← loadOp c sp off 1) b.toNat

/-- A store at an operand. -/
def storeOp (c : Ctx) (sp : Space) (off : BitVec 18) (d : Data) : Arb Unit := do
  let a ← addrOf c sp off true
  storeData c a d

/-! ### Registers and operands of the ALU and float groups (R117, R119) -/

def Bank.accu (b : Bank) (a : Bool) : Word := if a then b.wb else b.wa
def Bank.setAccu (b : Bank) (a : Bool) (v : Word) : Bank := if a then { b with wb := v } else { b with wa := v }
def Bank.gr (b : Bank) (n : BitVec 4) : Word := b.g[n.toNat]'(n.isLt)
def Bank.setGr (b : Bank) (n : BitVec 4) (v : Word) : Bank := { b with g := b.g.set n.toNat v n.isLt }

/-- The operand of an ALU instruction, extended to 64 bits. -/
def aluOperand (c : Ctx) (a nar u : Bool) (op : AluOp) : Arb Word := do
  match op with
  | .mem sp off => return extendTo u (if nar then 32 else 64) (← loadOp c sp off (if nar then 4 else 8))
  | .reg gb => return (← bankOf' c).gr gb
  | .other => return (← bankOf' c).accu (!a)
  | .imm x v => return extendTo u (if x then 32 else 20) (if x then v.toNat else v.toNat % 2 ^ 20)

/-- The words of an instruction with that operand. -/
def aluWords : AluOp → Nat
  | .imm true _ => 2
  | _ => 1

/-- The operand of a float instruction. -/
def floatOperand (c : Ctx) (a : Bool) (op : FOp) : Arb Word := do
  match op with
  | .reg gb => return (← bankOf' c).gr gb
  | .other => return (← bankOf' c).accu (!a)

end Sys2Proof.Machine
end

