-- ==== Sys2Proof/Machine/ArbOps.lean ====
section
/-! DEFINITION. The frame of an Arbour instruction: fetch, budget, program counter, retirement (R108, R129, R139), and the
taking of a trap (R140 to R142). -/

namespace Sys2Proof.Machine

/-- The task that executes on logical lane l; none where the lane has no task or waits for a service or a drain. -/
def State.ctx (s : State) (l : Nat) : Option Ctx :=
  if l < 12 && s.laneRuns l then
    match (s.lane l).run with
    | some r => if (s.task (r / 3) (r % 3)).sysN = 0 then some { l := l, p := r / 3, x := r % 3 } else none
    | none => none
  else none

/-- R129, R188: the words of the instruction lie in the segment and may be fetched. -/
def fetchCheck (c : Ctx) (words : Nat) : Arb Unit := do
  let s ← get
  let b := s.bank c.l c.x
  let at_ := s.rdN (K.pavCodeBase c.p) + b.pc.toNat
  need (!b.pcOver && b.pc.toNat + 4 * words ≤ s.rdN (K.pavCodeSize c.p)) Cause.protection 1 0
  need ((List.range words).all (fun i => s.mayExec c.p (at_ + 4 * i))) Cause.protection 1 0
  match (List.range words).find? (fun i => inSram (at_ + 4 * i) && s.poisoned (at_ + 4 * i)) with
  | some i => throw (.lost (at_ + 4 * i))
  | none => pure ()

/-- The next instruction is `n` bytes on from the present one. -/
def Bank.next (b : Bank) (n : Nat) : Bank := { b with pc := BitVec.ofNat 20 (b.pc.toNat + n), pcOver := 2 ^ 20 ≤ b.pc.toNat + n }

/-- The next instruction is the word with index t of the segment. -/
def Bank.goto (b : Bank) (t : Nat) : Bank := { b with pc := BitVec.ofNat 20 (4 * t), pcOver := false }

/-- R139: `n` instructions retire. -/
def retire (c : Ctx) (n : Nat) (s : State) : State := updTask c.p c.x (fun t => { t with retired := t.retired + n }) s

/-- An instruction of `words` words that counts `n` against the budget. `illegal`: the subcode with which its own fields
make it illegal, or 0 (R118, R129 to R131). -/
def instruction (c : Ctx) (words n : Nat) (illegal : Bank → State → Nat) (body : Arb Unit) : Arb Unit := do
  fetchCheck c words
  let s ← get
  let b := s.bank c.l c.x
  need (illegal b s = 0) Cause.illegal (illegal b s) 0
  need ((s.task c.p c.x).retired + n ≤ s.rdN (K.pavIbudget c.p c.x)) Cause.budget 1 0
  setRegs c (fun b => b.next (4 * words))
  body
  modify (retire c n)

/-- R141: the payload of a trap event. -/
def trapPayload (cause sub cls scan pc addr : Nat) : Bytes :=
  le 1 2 ++ le 1 cause ++ le 1 cls ++ le 1 sub ++ le 8 scan ++ le 4 pc ++ le 8 addr

/-- R142: a last-trap record. -/
def trapRecord (cause sub cls count pc addr : Nat) : Bytes :=
  le 1 cause ++ le 1 sub ++ le 1 cls ++ le 1 (min 255 count) ++ le 4 pc ++ le 8 addr

/-- R141: the policy of the dispatch stops the Pavilion at this trapped scan. -/
def policyStops (policy count : Nat) : Bool := bitOf policy 2 || (bits policy 15 8 ≠ 0 && bits policy 15 8 ≤ count)

/-- R141, R81: the task takes a trap at `pc`. -/
def takeTrap (c : Ctx) (pc cause sub addr : Nat) (s : State) : State :=
  if cause = Cause.budget then updTask c.p c.x (fun t => { t with prevTrap := true }) (overrun c.p c.x 1 s)
  else
    let s := only (cause = Cause.bstk) (fun s => setBank c.l c.x { s.bank c.l c.x with status := flag (s.bank c.l c.x).status 5 true } s) s
    let s := cutOne c.p c.x s
    let s := updTask c.p c.x (fun t => { t with trapped := t.trapped + 1, prevTrap := true, scan := s.scanNo c.x + 1 }) s
    let t := s.task c.p c.x
    let s := raiseOwned (Ev.pavilion c.p) (trapPayload cause sub c.x (s.scanNo c.x) pc addr) c.p s
    let s := wrBlob (kLastTrap c.p) (trapRecord cause sub c.x t.trapped pc addr) s
    let s :=
      if policyStops t.policy t.trapped then pavFault c.p 3 s
      -- R88: the halted task starts again at its entry point, at its next window or dispatch
      else only (s.pavState c.p = Prog.hold) (fun s =>
        updPav c.p (fun v => { v with step := false }) (updTask c.p c.x (fun t => { t with st := .halted }) (taskEntry c.p c.x s))) s
    laneNext c.l s

/-- R88: the instruction of a single step has been executed. -/
def stepped (c : Ctx) (s : State) : State :=
  only ((s.pav c.p).step && (s.lane c.l).run = some (3 * c.p + c.x)) (park c.p c.x) s

/-- What an instruction at `pc` leaves; a stalled one leaves the state `old` it began in. -/
def conclude (c : Ctx) (pc : Nat) (old : State) (r : EStateM.Result Halt State Unit) : State :=
  match r with
  | .ok _ t => stepped c t
  | .error (.trap cause sub addr) t => takeTrap c pc cause sub addr t
  | .error (.lost addr) t => sramLost addr c.p c.x t
  | .error .stall _ => old
  | .error .wait t => t

/-- Execute an instruction on logical lane l. -/
def executing (l words n : Nat) (illegal : Bank → State → Nat) (body : Ctx → Arb Unit) (s : State) : Out :=
  .next (match s.ctx l with
    | none => s
    | some c => conclude c (s.bank c.l c.x).pc.toNat s (instruction c words n illegal (body c) s))

/-- No field of the instruction can make it illegal. -/
def legal : Bank → State → Nat := fun _ _ => 0

/-- An instruction of one word that no field of its own makes illegal. -/
def plain (l : Nat) (body : Ctx → Arb Unit) (s : State) : Out := executing l 1 1 legal body s

/-- An instruction that changes registers only. -/
def onRegs (l : Nat) (f : Bank → Bank) (s : State) : Out := plain l (fun c => setRegs c f) s

/-! ### Services and drains (R133, R136) -/

/-- The task that waits on lane l: the running one, or a preempted one, the faster class first. `n`: what it waits for. -/
def State.waiter (s : State) (l : Nat) (n : Nat → Bool) : Option Ctx :=
  let all : List Ctx := [0, 1, 2].flatMap (fun x => (s.pavsOn l).map (fun p => { l := l, p := p, x := x }))
  let ok (c : Ctx) : Bool := n (s.task c.p c.x).sysN && ((s.task c.p c.x).st = .running || (s.task c.p c.x).st = .preempted)
  match all.find? (fun c => ok c && (s.task c.p c.x).st = .running) with
  | some c => some c
  | none => all.find? ok

/-- The wait is over: the results are in the bank, and the instruction retires. -/
def resume (c : Ctx) (s : State) : State :=
  let g := (s.task c.p c.x).sysG
  let b := g.foldl (fun (b : Bank) e => b.setGr (BitVec.ofNat 4 e.1) (BitVec.ofNat 64 e.2)) (s.bank c.l c.x)
  let s := updTask c.p c.x (fun t => { t with sysN := 0, sysG := [] }) (setBank c.l c.x b s)
  stepped c (retire c 1 s)

end Sys2Proof.Machine
end

