-- ==== Sys2Proof/Machine/ArbBits.lean ====
section
/-! DEFINITION. Bit logic, the branch stack, edges, timers and counters of Arbour (R114, R119 to R125). -/

namespace Sys2Proof.Machine

def Bank.setAcc (b : Bank) (v : Bool) : Bank := { b with acc := v }

/-- A bit is read and combined with ACC. -/
def bitLogic (l : Nat) (sp : Space) (off : BitVec 18) (b : BitVec 3) (f : Bool → Bool → Bool) (s : State) : Out :=
  plain l (fun c => do
    let v ← loadBit c sp off b
    setRegs c (fun r => r.setAcc (f r.acc v))) s

/-- R114: a bit computed from ACC is stored; none: no store is issued. -/
def bitStore (l : Nat) (sp : Space) (off : BitVec 18) (b : BitVec 3) (f : Bool → Option Bool) (s : State) : Out :=
  plain l (fun c => do
    match f (← bankOf' c).acc with
    | some v => storeOp c sp off (.bit b.toNat v)
    | none => pure ()) s

def execArbNop (l : Nat) (s : State) : Out := onRegs l id s
def execArbLd (l : Nat) (sp : Space) (off : BitVec 18) (b : BitVec 3) (s : State) : Out := bitLogic l sp off b (fun _ v => v) s
def execArbLdn (l : Nat) (sp : Space) (off : BitVec 18) (b : BitVec 3) (s : State) : Out := bitLogic l sp off b (fun _ v => !v) s
def execArbAnd (l : Nat) (sp : Space) (off : BitVec 18) (b : BitVec 3) (s : State) : Out := bitLogic l sp off b (fun a v => a && v) s
def execArbAndn (l : Nat) (sp : Space) (off : BitVec 18) (b : BitVec 3) (s : State) : Out := bitLogic l sp off b (fun a v => a && !v) s
def execArbOr (l : Nat) (sp : Space) (off : BitVec 18) (b : BitVec 3) (s : State) : Out := bitLogic l sp off b (fun a v => a || v) s
def execArbOrn (l : Nat) (sp : Space) (off : BitVec 18) (b : BitVec 3) (s : State) : Out := bitLogic l sp off b (fun a v => a || !v) s
def execArbXor (l : Nat) (sp : Space) (off : BitVec 18) (b : BitVec 3) (s : State) : Out := bitLogic l sp off b (fun a v => a ^^ v) s
def execArbXorn (l : Nat) (sp : Space) (off : BitVec 18) (b : BitVec 3) (s : State) : Out := bitLogic l sp off b (fun a v => a ^^ !v) s

def execArbSt (l : Nat) (sp : Space) (off : BitVec 18) (b : BitVec 3) (s : State) : Out := bitStore l sp off b (fun a => some a) s
def execArbStn (l : Nat) (sp : Space) (off : BitVec 18) (b : BitVec 3) (s : State) : Out := bitStore l sp off b (fun a => some (!a)) s
def execArbSet (l : Nat) (sp : Space) (off : BitVec 18) (b : BitVec 3) (s : State) : Out := bitStore l sp off b (fun a => if a then some true else none) s
def execArbRst (l : Nat) (sp : Space) (off : BitVec 18) (b : BitVec 3) (s : State) : Out := bitStore l sp off b (fun a => if a then some false else none) s

/-! ### Edges (R122) -/

/-- R122: the edge memory is read, ACC is stored in it on every execution, and ACC becomes the edge. -/
def edge (l : Nat) (sp : Space) (off : BitVec 18) (b : BitVec 3) (f : Bool → Bool → Bool) (s : State) : Out :=
  plain l (fun c => do
    let a ← addrOf c sp off true
    let m := bitOf (ofLe (← loadBytes c false a 1)) b.toNat
    let acc := (← bankOf' c).acc
    storeData c a (.bit b.toNat acc)
    setRegs c (fun r => r.setAcc (f acc m))) s

def execArbEdgp (l : Nat) (sp : Space) (off : BitVec 18) (b : BitVec 3) (s : State) : Out := edge l sp off b (fun a m => a && !m) s
def execArbEdgn (l : Nat) (sp : Space) (off : BitVec 18) (b : BitVec 3) (s : State) : Out := edge l sp off b (fun a m => !a && m) s

/-! ### ACC and the branch stack (R121) -/

def execArbNot (l : Nat) (s : State) : Out := onRegs l (fun r => r.setAcc (!r.acc)) s
def execArbSeta (l : Nat) (s : State) : Out := onRegs l (fun r => r.setAcc true) s
def execArbClra (l : Nat) (s : State) : Out := onRegs l (fun r => r.setAcc false) s

/-- R121: PUSH; tag 11 is reserved. -/
def execArbPush (l : Nat) (tag : BitVec 2) (s : State) : Out :=
  executing l 1 1 (fun _ _ => if tag = 3 then 2 else 0) (fun c => do
    need ((← bankOf' c).bstk.length < 16) Cause.bstk 1 0
    setRegs c (fun r => { r with bstk := (r.acc, tag) :: r.bstk })) s

/-- R121: the top entry is removed; `bad`: the tag that does not match. -/
def popBit (c : Ctx) (bad : BitVec 2 → Bool) : Arb Bool := do
  match (← bankOf' c).bstk with
  | [] => trap Cause.bstk 2 0
  | (v, tag) :: rest =>
    need (!bad tag) Cause.bstk 3 0
    setRegs c (fun r => { r with bstk := rest })
    return v

def execArbPopa (l : Nat) (s : State) : Out :=
  plain l (fun c => do
    let v ← popBit c (fun t => t = 2)
    setRegs c (fun r => r.setAcc (r.acc && v))) s

def execArbPopo (l : Nat) (s : State) : Out :=
  plain l (fun c => do
    let v ← popBit c (fun t => t = 1)
    setRegs c (fun r => r.setAcc (r.acc || v))) s

/-! ### Timers (R123, R124) -/

/-- R123: a timer record: START, PT in ns and STATE. -/
structure Timer where
  start : Nat
  pt : Nat
  state : Nat
  deriving DecidableEq, Repr

def Timer.q (t : Timer) : Bool := bitOf t.state 0
def Timer.inp (t : Timer) : Bool := bitOf t.state 1
def Timer.run (t : Timer) : Bool := bitOf t.state 2
/-- STATE with Q, IN and RUN replaced; bits 7:3 are kept. -/
def Timer.with (t : Timer) (start : Nat) (q inp run : Bool) : Timer :=
  { t with start := start, state := setBit (setBit (setBit t.state 0 q) 1 inp) 2 run }

def unitNs (u : Nat) : Nat := ([1000, 1000000, 1000000000, 60000000000] : List Nat).getD (u % 4) 0

/-- R124: `now` − START, signed; a value below 0 counts as 0. -/
def elapsed (now start : Nat) : Nat := let d := (now + 2 ^ 64 - start) % 2 ^ 64; if 2 ^ 63 ≤ d then 0 else d

def timerTon (acc : Bool) (now : Nat) (t : Timer) : Timer :=
  let start := if acc && !t.inp then now else t.start
  t.with start (acc && t.pt ≤ elapsed now start) acc t.run

def timerTof (acc : Bool) (now : Nat) (t : Timer) : Timer :=
  if acc then t.with t.start true true false
  else
    let start := if t.inp then now else t.start
    let run := t.inp || t.run
    let isOver := run && t.pt ≤ elapsed now start
    t.with start (t.q && !isOver) false (run && !isOver)

def timerTp (acc : Bool) (now : Nat) (t : Timer) : Timer :=
  let begins := acc && !t.inp && !t.run
  let start := if begins then now else t.start
  let run := (begins || t.run) && !(t.pt ≤ elapsed now start)
  t.with start run acc run

/-- R123, R124: a timer record is executed; START is written when it changes, STATE as one byte. -/
def timer (l : Nat) (sp : Space) (off : BitVec 18) (f : Bool → Nat → Timer → Timer) (s : State) : Out :=
  executing l 1 1 (fun _ _ => if sp = .t || sp = .d then 0 else 2) (fun c => do
    need (off.toNat % 16 = 0) Cause.align 2 0
    let a ← addrOf c sp off true
    let lo ← loadBytes c false a 8
    let hi ← loadBytes c false ((a + 8) % 2 ^ 64) 8
    let t : Timer := { start := ofLe lo, pt := fieldAt hi 0 4 * unitNs (byteAt hi 4), state := byteAt hi 5 }
    let b ← bankOf' c
    let n := f b.acc b.ts.toNat t
    if n.start ≠ t.start then storeData c a (.bytes (le 8 n.start))
    storeData c ((a + 13) % 2 ^ 64) (.bytes (le 1 n.state))
    setRegs c (fun r => r.setAcc n.q)) s

def execArbTon (l : Nat) (sp : Space) (off : BitVec 18) (s : State) : Out := timer l sp off timerTon s
def execArbTof (l : Nat) (sp : Space) (off : BitVec 18) (s : State) : Out := timer l sp off timerTof s
def execArbTp (l : Nat) (sp : Space) (off : BitVec 18) (s : State) : Out := timer l sp off timerTp s

/-! ### Counters (R125) -/

/-- R125: CV and STATE after an execution with inputs up and down, where the instruction has them. -/
def countStep (cv pv : Int) (state : Nat) (up down : Option Bool) : Int × Nat :=
  let upRise := up = some true && !bitOf state 2
  let downRise := down = some true && !bitOf state 3
  let cv := if upRise && !downRise then min (cv + 1) 2147483647
    else if downRise && !upRise then max (cv - 1) (-2147483648) else cv
  let st := match up with
    | some b => setBit state 2 b
    | none => state
  let st := match down with
    | some b => setBit st 3 b
    | none => st
  (cv, setBit (setBit st 0 (pv ≤ cv)) 1 (cv ≤ 0))

/-- R125: a counter record is executed: `inputs` answers up and down. QU or QD goes to ACC. -/
def counter (l : Nat) (sp : Space) (off : BitVec 18) (inputs : Ctx → Arb (Option Bool × Option Bool)) (qd : Bool) (s : State) : Out :=
  executing l 1 1 (fun _ _ => if sp = .c || sp = .d then 0 else 2) (fun c => do
    need (off.toNat % 16 = 0) Cause.align 2 0
    let a ← addrOf c sp off true
    let lo ← loadBytes c false a 8
    let hi ← loadBytes c false ((a + 8) % 2 ^ 64) 8
    let u ← inputs c
    let cv := signed 4 (fieldAt lo 0 4)
    let n := countStep cv (signed 4 (fieldAt lo 4 4)) (byteAt hi 0) u.1 u.2
    if n.1 ≠ cv then storeData c a (.bytes (le 4 (unsigned 4 n.1)))
    storeData c ((a + 8) % 2 ^ 64) (.bytes (le 1 n.2))
    setRegs c (fun r => r.setAcc (bitOf n.2 (b2n qd)))) s

def execArbCtu (l : Nat) (sp : Space) (off : BitVec 18) (s : State) : Out :=
  counter l sp off (fun c => do return (some (← bankOf' c).acc, none)) false s

def execArbCtd (l : Nat) (sp : Space) (off : BitVec 18) (s : State) : Out :=
  counter l sp off (fun c => do return (none, some (← bankOf' c).acc)) true s

/-- R121, R125: CTUD takes its up input from the branch stack, with any tag. -/
def execArbCtud (l : Nat) (sp : Space) (off : BitVec 18) (s : State) : Out :=
  counter l sp off (fun c => do
    let up ← popBit c (fun _ => false)
    return (some up, some (← bankOf' c).acc)) false s

end Sys2Proof.Machine
end

