-- ==== Sys2Proof/Machine/ArbFloat.lean ====
section
/-! DEFINITION. Float instructions of Arbour (R119, R128). -/

namespace Sys2Proof.Machine

/-- The trap policy of the dispatch is QUIET for invalid operations (R128, R142). -/
def State.quiet (s : State) (c : Ctx) : Bool := bitOf (s.task c.p c.x).policy 1

/-- R128: an invalid operation traps, or sets FI under QUIET. -/
def invalid (c : Ctx) (bad : Bool) : Arb Unit := do
  if bad then
    need ((← get).quiet c) Cause.finv 1 0
    setRegs c (fun r => { r with status := flag r.status 4 true })

/-- The sign and payload of a quiet NaN that no rule states: a quiet NaN operand makes a valid operation answer one. -/
def nanFree (f : Fmt) (r : FRes) : Arb Nat := do
  if r.1 = f.qnan && !r.2 then
    let v ← drawBits 64
    return f.signBit (bitOf v 63) + f.qnan + v % 2 ^ (f.p - 2)
  else return r.1

/-- The accumulator takes a float result of format `f`; an F32 result has zeros in bits 63:32. -/
def floatResult (c : Ctx) (a : Bool) (f : Fmt) (r : FRes) : Arb Unit := do
  invalid c r.2
  let v ← nanFree f r
  setRegs c (fun b => b.setAccu a (BitVec.ofNat 64 v))

/-- A float instruction on accumulator and operand. -/
def floatOp (l : Nat) (a nar : Bool) (op : FOp) (f : Fmt → Nat → Nat → FRes) (s : State) : Out :=
  plain l (fun c => do
    let y ← floatOperand c a op
    let x := (← bankOf' c).accu a
    floatResult c a (fmtOf nar) (f (fmtOf nar) (floatIn nar x) (floatIn nar y))) s

def execArbFadd (l : Nat) (a nar : Bool) (op : FOp) (s : State) : Out := floatOp l a nar op Fmt.add s
def execArbFsub (l : Nat) (a nar : Bool) (op : FOp) (s : State) : Out := floatOp l a nar op Fmt.sub s
def execArbFmul (l : Nat) (a nar : Bool) (op : FOp) (s : State) : Out := floatOp l a nar op Fmt.mul s
def execArbFdiv (l : Nat) (a nar : Bool) (op : FOp) (s : State) : Out := floatOp l a nar op Fmt.div s
def execArbFsqrt (l : Nat) (a nar : Bool) (op : FOp) (s : State) : Out := floatOp l a nar op (fun f _ y => f.sqrt y) s

/-- acc × G[GB] + the other accumulator, rounded once. -/
def execArbFma (l : Nat) (a nar : Bool) (gb : BitVec 4) (s : State) : Out :=
  plain l (fun c => do
    let r ← bankOf' c
    floatResult c a (fmtOf nar) ((fmtOf nar).fma (floatIn nar (r.accu a)) (floatIn nar (r.gr gb)) (floatIn nar (r.accu (!a))))) s

/-- R128: a comparison; with a NaN ACC becomes 0. -/
def floatCmp (l : Nat) (a nar : Bool) (op : FOp) (f : Ordering → Bool) (s : State) : Out :=
  plain l (fun c => do
    let y ← floatOperand c a op
    let x := (← bankOf' c).accu a
    let r := (fmtOf nar).cmp (floatIn nar x) (floatIn nar y)
    invalid c r.2
    setRegs c (fun b => { b with acc := (r.1.map f).getD false })) s

def execArbFcmpeq (l : Nat) (a nar : Bool) (op : FOp) (s : State) : Out := floatCmp l a nar op (fun o => o = .eq) s
def execArbFcmplt (l : Nat) (a nar : Bool) (op : FOp) (s : State) : Out := floatCmp l a nar op (fun o => o = .lt) s
def execArbFcmple (l : Nat) (a nar : Bool) (op : FOp) (s : State) : Out := floatCmp l a nar op (fun o => o ≠ .gt) s

/-- R128: a float to a 64-bit integer. -/
def execArbFcvti (l : Nat) (a nar u rne : Bool) (op : FOp) (s : State) : Out :=
  plain l (fun c => do
    let y ← floatOperand c a op
    let r := cvtInt (fmtOf nar) u rne (floatIn nar y)
    invalid c r.2
    setRegs c (fun b => b.setAccu a (BitVec.ofNat 64 r.1))) s

/-- A 64-bit integer to a float. -/
def execArbFcvtf (l : Nat) (a nar u : Bool) (op : FOp) (s : State) : Out :=
  plain l (fun c => do
    let y ← floatOperand c a op
    setRegs c (fun b => b.setAccu a (BitVec.ofNat 64 ((fmtOf nar).ofInt (keyOf u 64 y.toNat))))) s

/-- N set: F32 to F64; N clear: F64 to F32. -/
def execArbFcvtp (l : Nat) (a nar : Bool) (op : FOp) (s : State) : Out :=
  plain l (fun c => do
    let y ← floatOperand c a op
    floatResult c a (fmtOf (!nar)) ((fmtOf nar).conv (fmtOf (!nar)) (floatIn nar y))) s

end Sys2Proof.Machine
end

