-- ==== Sys2Proof/Machine/ArbFlow.lean ====
section
/-! DEFINITION. Flow control, END, EVT, RDTB and FENCE of Arbour, and the illegal-opcode trap (R118, R129 to R136). -/

namespace Sys2Proof.Machine

/-- R129: the target lies after the jump and inside the code segment; otherwise the subcode of the illegal-opcode trap. -/
def jumpCheck (p : Nat) (t : BitVec 18) (b : Bank) (s : State) : Nat :=
  if b.pc.toNat < 4 * t.toNat && 4 * t.toNat < s.rdN (K.pavCodeSize p) then 0 else 3

/-- The Pavilion whose task executes on lane l. -/
def State.tenant (s : State) (l : Nat) : Nat := ((s.lane l).run.getD 0) / 3

/-- R129: a forward jump where ACC is as `f` asks. -/
def jump (l : Nat) (t : BitVec 18) (f : Bool → Bool) (s : State) : Out :=
  executing l 1 1 (jumpCheck (s.tenant l) t) (fun c => setRegs c (fun r => if f r.acc then r.goto t.toNat else r)) s

def execArbJmp (l : Nat) (t : BitVec 18) (s : State) : Out := jump l t (fun _ => true) s
def execArbJc (l : Nat) (t : BitVec 18) (s : State) : Out := jump l t (fun a => a) s
def execArbJnc (l : Nat) (t : BitVec 18) (s : State) : Out := jump l t (fun a => !a) s

/-- R131: CALL writes a frame with the return word index at CSP. -/
def execArbCall (l : Nat) (t : BitVec 18) (s : State) : Out :=
  executing l 1 1 (fun _ u => if 4 * t.toNat < u.rdN (K.pavCodeSize (s.tenant l)) then 0 else 3) (fun c => do
    let r ← bankOf' c
    need (r.depth < 64) Cause.cstk 1 0
    storeData c r.csp.toNat (.bytes (le 8 ((r.pc.toNat + b2n r.pcOver * 2 ^ 20) / 4 % 2 ^ 18)))
    setRegs c (fun r => ({ r with csp := r.csp + 8, depth := r.depth + 1 }).goto t.toNat)) s

/-- R131: RET continues at the word index in the top frame. -/
def execArbRet (l : Nat) (s : State) : Out :=
  plain l (fun c => do
    let r ← bankOf' c
    need (0 < r.depth) Cause.cstk 2 0
    let f ← loadBytes c false (r.csp - 8).toNat 8
    setRegs c (fun r => ({ r with csp := r.csp - 8, depth := r.depth - 1 }).goto (ofLe f % 2 ^ 18))) s

/-- R130: LOOP. -/
def execArbLoop (l : Nat) (gr : BitVec 4) (t : BitVec 18) (bound : BitVec 32) (s : State) : Out :=
  executing l 2 1 (fun b _ => if 4 * t.toNat < b.pc.toNat then 0 else 3) (fun c => do
    let n := ((← bankOf' c).gr gr).toNat
    need (n ≤ bound.toNat) Cause.illegal 4 0
    setRegs c (fun r => if n ≤ 1 then r.setGr gr 0 else (r.setGr gr (BitVec.ofNat 64 (n - 1))).goto t.toNat)) s

/-- R132: END; with the branch stack not empty it traps and is no END. -/
def execArbEnd (l : Nat) (s : State) : Out :=
  plain l (fun c => do
    need ((← bankOf' c).bstk = []) Cause.bstk 4 0
    modify (endTask c.p c.x)) s

/-- R134: the payload of an EVT raise. -/
def evtPayload (cls scan code : Nat) (wa : Word) : Bytes :=
  le 1 0 ++ le 1 0 ++ le 1 cls ++ le 1 0 ++ le 8 scan ++ le 2 code ++ le 2 0 ++ le 8 wa.toNat

/-- R134: EVT raises EV 0192+p where ACC is 1. -/
def execArbEvt (l : Nat) (code : BitVec 16) (s : State) : Out :=
  plain l (fun c => do
    let r ← bankOf' c
    let s ← get
    if r.acc then set (raiseOwned (Ev.pavilion c.p) (evtPayload c.x (s.scanNo c.x) code.toNat r.wa) c.p s)) s

/-- R135: WB of RDTB: fractional ns, UNSYNC, and the low 16 bits of ERA. -/
def State.tbQuality (s : State) (n : Nat) : Nat :=
  s.tbVal n % 65536 + b2n (!s.synced n) * 65536 + s.rdN (K.tbEra n) % 65536 * 2 ^ 32

/-- R135: RDTB. -/
def execArbRdtb (l n : Nat) (s : State) : Out :=
  executing l 1 1 (fun _ _ => if n < 8 then 0 else 2) (fun c => do
    let s ← get
    need (mapBit (s.blobOf (K.tbPavRead n)) c.p) Cause.protection 8 0
    setRegs c (fun r => { r with wa := BitVec.ofNat 64 (s.tb64 n), wb := BitVec.ofNat 64 (s.tbQuality n) })) s

/-- Task.sysN of a lane that waits for the drain of FENCE. -/
def drainWait : Nat := 256

/-- R136: FENCE waits while a store is in the egress buffer. -/
def execArbFence (l : Nat) (s : State) : Out :=
  plain l (fun c => do
    if ((← get).lane c.l).egress ≠ 0 then
      modify (updTask c.p c.x (fun t => { t with sysN := drainWait }))
      throw .wait) s

/-- R136: every store of the lane has been accepted; a FENCE that waits for it completes. -/
def execFenceDrainComplete (l : Nat) (s : State) : Out :=
  .next (only (l < 12) (fun s =>
    let s := updLane l (fun x => { x with egress := 0 }) s
    match s.waiter l (fun n => n = drainWait) with
    | some c => resume c s
    | none => s) s)

/-- R118, R140: an illegal word. -/
def execIllegalOpcode (l sub : Nat) (s : State) : Out :=
  executing l 1 1 (fun _ _ => max 1 sub) (fun _ => pure ()) s

end Sys2Proof.Machine
end

