-- ==== Sys2Proof/Machine/ArbSys.lean ====
section
/-! DEFINITION. System calls of Arbour (R133): the recorder (R406), the watchdog (R204), the dictionary (R55), DMA
(R192 to R194), ISDU (R304), HART (R331), the Pavilion store (R394) and CAN queues (R369, R372). A service applies its
effect when it is called; the lane waits until SYS_SERVICE_COMPLETE answers with the results. -/

namespace Sys2Proof.Machine

/-- The registers G0 to G5 of a call. -/
def Bank.arg (b : Bank) (n : Nat) : Nat := (b.gr (BitVec.ofNat 4 n)).toNat

/-- SYS n: the results of `f` wait with the lane. Called from Class A, a service for which Class A is not served
(`classA` false) answers STATE_ERROR. `mine`: whether the arguments are this row's; those of another row change nothing. -/
def sysCall (l n : Nat) (classA : Bool) (mine : Bank → Bool) (err : List (Nat × Nat)) (f : Ctx → Bank → Arb (List (Nat × Nat))) (s : State) : Out :=
  plain l (fun c => do
    let b ← bankOf' c
    if !mine b then throw .stall
    let r ← if c.x = 0 && !classA then pure ((0, Err.state) :: err) else f c b
    modify (updTask c.p c.x (fun t => { t with sysN := n, sysG := r }))
    throw .wait) s

/-- Every call is of this row. -/
def anyArgs : Bank → Bool := fun _ => true

/-! ### Buffers of a call (R188, R190) -/

/-- The whole buffer is readable by p. -/
def State.bufReadable (s : State) (p a n : Nat) : Bool := a + n ≤ 2 ^ 40 && s.rangeReadable p a n
/-- The whole buffer is writable by p; bytes of the output image must be its own. -/
def State.bufWritable (s : State) (p a n : Nat) : Bool :=
  a + n ≤ 2 ^ 40 && s.rangeWritable p a n && !(a < outBase && inBase < a + n)
    && (!(outBase ≤ a && a < outBase + 0x40000) || ownsOut s.areas p (a - outBase) n)

/-- A buffer is read with the checks of a load of p's (R30, R190). -/
def bufRead (c : Ctx) (a n : Nat) : Arb Bytes := readPieces c (pieces a n)

/-- A buffer is written with the checks of a store of p's (R30). -/
def bufWrite (c : Ctx) (a : Nat) (b : Bytes) : Arb Unit := writePieces c (pieces a b.length) b

/-! ### Recorder, watchdog, dictionary -/

/-- R406: the record of an accepted SYS 1. -/
def pavRecord (p ty : Nat) (d : Bytes) (s : State) : State :=
  let q := takeSeq s
  recPut (q.2.newRec ty (Ev.pavilion p) (bits (q.2.evCfg (Ev.pavilion p)) 18 16) 0 q.1 d) q.2

/-- SYS 1. -/
def execSysRecorderWrite (l : Nat) (s : State) : Out :=
  sysCall l 1 true anyArgs [] (fun c b => do
    let n := b.arg 2
    let ty := b.arg 3 % 65536
    let s ← get
    if ty < 0x8000 ∨ 4080 < n then return [(0, Err.value)]
    else if !s.bufReadable c.p (b.arg 1) n then return [(0, Err.scopeDenied)]
    else
      let d ← bufRead c (b.arg 1) n
      modify (pavRecord c.p ty d)
      return [(0, Err.ok)]) s

/-- R204, R205: the time since the previous service, counted while the watchdog runs. -/
def State.wdtTime (s : State) (p : Nat) : Nat :=
  if s.rdN (K.pavWdtState p) = Wdt.frozen then (s.pav p).wdtRan else s.now - (s.pav p).wdtS

/-- R204: SYS 4. A service outside its window is a failure, which cuts the task: its code is seen by no one. -/
def execSysWdtService (l : Nat) (s : State) : Out :=
  sysCall l 4 true anyArgs [] (fun c _ => do
    let s ← get
    let t := s.wdtTime c.p
    if s.rdN (K.pavWdtState c.p) = Wdt.disabled then return [(0, Err.ok)]
    else if t < s.rdN (K.pavWdtOpen c.p) * us then
      set (wdtFail c.p 0x33 s)
      return [(0, Err.state)]
    else if t ≤ s.rdN (K.pavWdtTimeout c.p) * us then
      set (updPav c.p (fun v => { v with wdtS := s.now, wdtRan := 0 }) s)
      return [(0, Err.ok)]
    else
      set (wdtFail c.p 0x32 s)
      return [(0, Err.state)]) s

/-- R55: a read through SYS 6: code and bytes moved. -/
def sysRead (c : Ctx) (k off buf n : Nat) : Arb (List (Nat × Nat)) := do
  let s ← get
  match s.caller (.window c.p) with
  | none => return [(0, Err.state), (4, 0)]
  | some cl =>
    let e := s.checkRead cl (k / 256) (k % 256)
    if e ≠ Err.ok then return [(0, e), (4, 0)]
    else
      let v := s.readBytes (.window c.p) cl (k / 256) (k % 256)
      if v.length < off then return [(0, Err.length), (4, 0)]
      else
        let d := (v.drop off).take n
        bufWrite c buf d
        return [(0, Err.ok), (4, d.length)]

/-- R55: a write through SYS 6 covers the whole value. -/
def sysWrite (c : Ctx) (k off buf n : Nat) : Arb (List (Nat × Nat)) := do
  let d ← bufRead c buf n
  let e ← codeWrite c.p (k / 256) (k % 256) (if off = 0 then Err.ok else Err.length) d
  return [(0, e), (4, if e = Err.ok then n else 0)]

/-- R55: SYS 6. -/
def execSysDictTransfer (l : Nat) (s : State) : Out :=
  sysCall l 6 false anyArgs [(4, 0)] (fun c b => do
    let k := b.arg 1
    let n := b.arg 4
    let s ← get
    if n = 0 ∨ 4096 < n ∨ 1 < b.arg 5 ∨ 2 ^ 24 ≤ k then return [(0, Err.value), (4, 0)]
    else if !(if b.arg 5 = 0 then s.bufWritable c.p (b.arg 3) n else s.bufReadable c.p (b.arg 3) n) then
      return [(0, Err.scopeDenied), (4, 0)]
    else if b.arg 5 = 0 then sysRead c k (b.arg 2) (b.arg 3) n
    else sysWrite c k (b.arg 2) (b.arg 3) n) s

/-! ### DMA (R192 to R194) -/

/-- R193: a range that DMA may name: in one of shared SRAM, DRAM or the output image, and outside the K space of p. -/
def State.dmaPlace (s : State) (p a n : Nat) : Bool :=
  let kb := s.rdN (K.pavKBase p)
  let e := a + n - 1
  ((inSram a && inSram e) || (inDram a && inDram e) || (outBase ≤ a && e < outBase + 0x40000)) && !(a < kb + 0x40000 && kb < a + n)

/-- Rising neighbours of a list of regions cover every byte from a to a + n − 1. -/
def coversFrom (gs : List Region) (fuel a e : Nat) : Bool :=
  match fuel with
  | 0 => false
  | fuel + 1 =>
    match gs.find? (·.covers a) with
    | none => false
    | some g => e ≤ g.hi || coversFrom gs fuel (g.hi + 1) e

/-- R188, R190: every byte of the range is readable, or writable, by p. -/
def State.dmaMay (s : State) (p a n : Nat) (w : Bool) : Bool :=
  let gs := (s.regions p).filter (fun g => if w then g.w else g.r && (!g.imported || s.importValid p g))
  s.armed p && coversFrom gs 64 a (a + n - 1)
    && (!(w && outBase ≤ a && a < outBase + 0x40000) || ownsOut s.areas p (a - outBase) n)

/-- R192, R193: the code for a descriptor submitted by a task of class x, or OK. -/
def State.dmaCode (s : State) (p x : Nat) (d : Bytes) : Nat :=
  let src := fieldAt d 0 8
  let dst := fieldAt d 8 8
  let n := fieldAt d 16 4
  let cls := byteAt d 20
  let zero := bitOf (byteAt d 21) 0
  if (!zero && src % 8 ≠ 0) ∨ dst % 8 ≠ 0 ∨ n % 8 ≠ 0 ∨ n < 8 ∨ 1048576 < n ∨ cls = 0 ∨ 2 < cls ∨ cls < x
      ∨ 1 < byteAt d 21 ∨ fieldAt d 22 10 ≠ 0 then Err.value
  else if !((zero || (s.dmaPlace p src n && s.dmaMay p src n false)) && s.dmaPlace p dst n && s.dmaMay p dst n true) then Err.scopeDenied
  else if 4 ≤ openDma (s.pav p).dma then Err.busy
  else Err.ok

/-- R193: an accepted transfer gets the next ticket; the 16 most recent are kept. -/
def dmaSubmit (p : Nat) (d : Bytes) (s : State) : State :=
  let t := (s.pav p).ticket + 1
  let x : Dma := { ticket := t, src := fieldAt d 0 8, dst := fieldAt d 8 8, len := fieldAt d 16 4, cls := byteAt d 20, zero := bitOf (byteAt d 21) 0 }
  let s := updPav p (fun v => { v with ticket := t, dma := pushFront 16 x v.dma }) s
  wrN (K.quotaDmaOpen p) (openDma (s.pav p).dma) s

/-- SYS 8. -/
def execSysDmaSubmit (l : Nat) (s : State) : Out :=
  sysCall l 8 true anyArgs [] (fun c b => do
    let a := b.arg 1
    let s ← get
    let refused (e : Nat) : Arb (List (Nat × Nat)) := do
      modify (wrN (K.pavDmaLast c.p) (e * 2 ^ 32))
      return [(0, e), (1, 0)]
    if a % 8 ≠ 0 then refused Err.value
    else if !s.bufReadable c.p a 32 then refused Err.scopeDenied
    else
      let d ← bufRead c a 32
      let e := s.dmaCode c.p c.x d
      if e ≠ Err.ok then refused e
      else
        modify (dmaSubmit c.p d)
        return [(0, Err.ok), (1, (s.pav c.p).ticket + 1)]) s

/-- R194: the state of a ticket; none where it is not among the 16 most recent. A ticket of the partner's time holds no
transfer here, and reads ABORTED. -/
def State.ticketState (s : State) (p t : Nat) : Option Nat :=
  let v := s.pav p
  if t = 0 ∨ v.ticket < t ∨ t + 16 ≤ v.ticket then none
  else some (((v.dma.find? (fun d => d.ticket = t)).map (·.st)).getD 3)

/-- SYS 9. With VALUE_ERROR, G1 is a value the spec does not state. -/
def execSysDmaStatus (l : Nat) (s : State) : Out :=
  sysCall l 9 true anyArgs [] (fun c b => do
    match (← get).ticketState c.p (b.arg 1) with
    | some st => return [(0, Err.ok), (1, st)]
    | none =>
      let v ← drawBits 64
      return [(0, Err.value), (1, v)]) s

/-! ### ISDU and HART (R304, R331) -/

/-- A request is queued in its buffer's header. -/
def queued (p a : Nat) (s : State) : State := bufPut p a (le 2 0) s

/-- R304: the code of an ISDU request, or OK. -/
def State.isduCode (s : State) (p port g2 buf n : Nat) : Nat :=
  let wr := bitOf g2 24
  if 32 ≤ port ∨ s.rdN (K.iolOwner port) ≠ p ∨ (n ≤ 240 ∧ !s.bufWritable p buf n) then Err.scopeDenied
  else if 2 ^ 25 ≤ g2 ∨ buf % 8 ≠ 0 ∨ n < 8 ∨ 240 < n ∨ (wr ∧ n = 8) then Err.value
  else if (s.iol port).isdu.isSome then Err.busy
  else if s.rdN (K.iolState port) ≠ Iols.preoperate ∧ s.rdN (K.iolState port) ≠ Iols.operate then Err.state
  else Err.ok

/-- SYS 10. -/
def execSysIsduRequest (l : Nat) (s : State) : Out :=
  sysCall l 10 false anyArgs [] (fun c b => do
    let port := b.arg 1
    let g2 := b.arg 2
    let buf := b.arg 3
    let n := b.arg 4
    let s ← get
    let e := s.isduCode c.p port g2 buf n
    if e ≠ Err.ok then return [(0, e)]
    else
      let d ← bufRead c (buf + 8) (n - 8)
      let q : BufReq := { pav := c.p, buf := buf, len := n, code := g2 % 2 ^ 24, write := bitOf g2 24, data := if bitOf g2 24 then d else [], at_ := s.now }
      modify (fun s => queued c.p buf (updIol port (fun x => { x with isdu := some q }) s))
      return [(0, Err.ok)]) s

/-- R331: the code of a HART command, or OK. -/
def State.hartCode (s : State) (p m g2 buf n : Nat) : Nat :=
  if 48 ≤ m ∨ s.rdN (K.hartOwner m) ≠ p ∨ (n ≤ 264 ∧ !s.bufWritable p buf n) then Err.scopeDenied
  else if 65536 ≤ g2 ∨ buf % 8 ≠ 0 ∨ n < 8 ∨ 264 < n ∨ n < 8 + g2 / 256 then Err.value
  else if (s.hart m).req.isSome then Err.busy
  else if s.rdN (K.hartState m) ≠ Hst.inService then Err.state
  else Err.ok

/-- SYS 11. -/
def execSysHartCommand (l : Nat) (s : State) : Out :=
  sysCall l 11 false anyArgs [] (fun c b => do
    let m := b.arg 1
    let g2 := b.arg 2
    let buf := b.arg 3
    let n := b.arg 4
    let s ← get
    let e := s.hartCode c.p m g2 buf n
    if e ≠ Err.ok then return [(0, e)]
    else
      let d ← bufRead c (buf + 8) (g2 / 256)
      let q : BufReq := { pav := c.p, buf := buf, len := n, code := g2 % 256, data := d, at_ := s.now }
      modify (fun s => queued c.p buf (updHart m (fun x => { x with req := some q }) s))
      return [(0, Err.ok)]) s

/-! ### The Pavilion store (R394) -/

/-- R394: the code of operation `op` with the registers of the call, or OK. -/
def State.storeCode (s : State) (p op : Nat) (b : Bank) : Nat :=
  let off := b.arg 2
  let buf := b.arg 3
  let n := b.arg 4
  let rec_ := b.arg 5
  let sized := op ≠ 3
  let bufOk := if op = 1 then s.bufReadable p buf n else if op = 0 then s.bufWritable p buf n else true
  if 4 ≤ b.arg 1 ∨ (sized ∧ (off % 4096 ≠ 0 ∨ n % 4096 ≠ 0 ∨ n < 4096 ∨ 65536 < n)) ∨ (op < 2 ∧ buf % 8 ≠ 0) ∨ rec_ % 8 ≠ 0 then Err.value
  else if !bufOk ∨ !s.bufWritable p rec_ 16 then Err.scopeDenied
  else if op = 1 ∧ s.rdN (K.quotaStore p) < off + n then Err.storeFull
  else if 8 ≤ (s.sto.reqs.filter (fun q => q.pav = p)).length then Err.busy
  else if (if op = 0 then s.readCode 4 else s.writeCode 4) ≠ Err.ok then Err.state
  else Err.ok

/-- SYS 12 with operation `op` in G1. -/
def pavstoreCall (l op : Nat) (s : State) : Out :=
  sysCall l 12 false (fun b => b.arg 1 % 4 = op) [(4, 0)] (fun c b => do
    let s ← get
    let e := s.storeCode c.p op b
    if e ≠ Err.ok then
      set (only (e = Err.storeFull) (raiseOwned Ev.pavstore (le 1 c.p ++ le 1 1) c.p) s)
      return [(0, e), (4, 0)]
    else
      let n := if op = 3 then 0 else b.arg 4
      let q : StoReq := { pav := c.p, op := op, off := b.arg 2, buf := b.arg 3, len := n, rec_ := b.arg 5 }
      set (queued c.p (b.arg 5) (updSto (fun x => { x with reqs := x.reqs ++ [q] }) s))
      return [(0, Err.ok), (4, n)]) s

def execSysPavstoreRead (l : Nat) (s : State) : Out := pavstoreCall l 0 s
def execSysPavstoreWrite (l : Nat) (s : State) : Out := pavstoreCall l 1 s
def execSysPavstoreTrim (l : Nat) (s : State) : Out := pavstoreCall l 2 s
def execSysPavstoreSync (l : Nat) (s : State) : Out := pavstoreCall l 3 s

/-! ### CAN queues (R369, R372) -/

/-- R369: SYS 13 with G2 bit 8 clear. -/
def execSysCanDoorbell (l : Nat) (s : State) : Out :=
  sysCall l 13 true (fun b => !bitOf (b.arg 2) 8) [] (fun c b => do
    let n := b.arg 1
    let q := b.arg 2
    let s ← get
    if 7 < n ∨ 15 < q then return [(0, Err.value)]
    else if s.queueOwner n q ≠ c.p then return [(0, Err.scopeDenied)]
    else
      set (doorbell n q s)
      return [(0, Err.ok)]) s

/-- R372: SYS 13 with G2 bit 8 set: bits 7:0 the queue, bits 25:16 the entry. -/
def execSysCanCancel (l : Nat) (s : State) : Out :=
  sysCall l 13 true (fun b => bitOf (b.arg 2) 8) [] (fun c b => do
    let n := b.arg 1
    let g2 := b.arg 2
    let q := g2 % 256
    let s ← get
    if 7 < n ∨ 15 < q ∨ 2 ^ 26 ≤ g2 ∨ bits g2 15 9 ≠ 0 then return [(0, Err.value)]
    else if s.queueOwner n q ≠ c.p then return [(0, Err.scopeDenied)]
    else
      let r := cancelEntry n q (bits g2 25 16) s
      set r.2
      return [(0, r.1)]) s

/-- R133: the service of the lane's waiting call answers. -/
def execSysServiceComplete (l : Nat) (s : State) : Out :=
  .next (only (l < 12) (fun s =>
    match s.waiter l (fun n => n ≠ 0 && n ≠ 256) with
    | some c => resume c s
    | none => s) s)

end Sys2Proof.Machine
end

