-- ==== Sys2Proof/Machine/ArbWord.lean ====
section
/-! DEFINITION. Word instructions of Arbour: loads and stores, register moves, MOVB, MUX and the ALU group (R119, R126,
R127, R137). -/

namespace Sys2Proof.Machine

/-- Bytes of a width code: .8, .16, .32, .64. -/
def widthOf (w : BitVec 2) : Nat := 2 ^ w.toNat

/-- A load ends: the accumulator takes the value, extended per U, with the flags of a load (R109). -/
def loaded (c : Ctx) (a u : Bool) (n v : Nat) : Arb Unit :=
  let x := extendTo u (8 * n) v
  setRegs c (fun r => { r.setAccu a x with status := intFlags r.status 64 x.toNat false false })

def execArbLdw (l : Nat) (w : BitVec 2) (a u : Bool) (sp : Space) (off : BitVec 18) (s : State) : Out :=
  plain l (fun c => do loaded c a u (widthOf w) (← loadOp c sp off (widthOf w))) s

def execArbStw (l : Nat) (w : BitVec 2) (a : Bool) (sp : Space) (off : BitVec 18) (s : State) : Out :=
  plain l (fun c => do storeOp c sp off (.bytes (le (widthOf w) ((← bankOf' c).accu a).toNat))) s

/-! ### Registers -/

def execArbPutg (l : Nat) (a : Bool) (ga : BitVec 4) (s : State) : Out := onRegs l (fun r => r.setGr ga (r.accu a)) s

def execArbAddg (l : Nat) (ga gb : BitVec 4) (imm : BitVec 12) (s : State) : Out :=
  onRegs l (fun r => r.setGr ga (r.gr gb + imm.signExtend 64)) s

/-- R119: the address is bits 7:0 of IMM12 over the extension word. -/
def execArbMovga (l : Nat) (ga : BitVec 4) (hi : BitVec 8) (ext : BitVec 32) (s : State) : Out :=
  executing l 2 1 legal (fun c => setRegs c (fun r => r.setGr ga ((hi ++ ext).zeroExtend 64))) s

def execArbXchw (l : Nat) (s : State) : Out := onRegs l (fun r => { r with wa := r.wb, wb := r.wa }) s

/-- R119: STATUS (0), TS (1), PAV (2) or the call depth (3). -/
def Bank.special (r : Bank) (sel : BitVec 2) : Word :=
  if sel = 0 then r.status.zeroExtend 64 else if sel = 1 then r.ts else if sel = 2 then r.pav.zeroExtend 64 else BitVec.ofNat 64 r.depth

def execArbGets (l : Nat) (a : Bool) (sel : BitVec 2) (s : State) : Out := onRegs l (fun r => r.setAccu a (r.special sel)) s

/-- R109: LDF; flag 7 does not exist. -/
def execArbLdf (l : Nat) (fl : Nat) (s : State) : Out :=
  executing l 1 1 (fun _ _ => if fl < 7 then 0 else 2) (fun c => setRegs c (fun r => { r with acc := bitOf r.status.toNat fl })) s

/-- R109: FI, bit 4 of STATUS, becomes 0. -/
def execArbClrf (l : Nat) (s : State) : Out := onRegs l (fun r => { r with status := flag r.status 4 false }) s

/-! ### Accesses by address (R115, R137) -/

/-- The address G[GA] + sext(IMM12). -/
def Bank.indexed (r : Bank) (ga : BitVec 4) (imm : BitVec 12) : Nat := (r.gr ga + imm.signExtend 64).toNat

def execArbLdx (l : Nat) (w : BitVec 2) (a u : Bool) (ga : BitVec 4) (imm : BitVec 12) (s : State) : Out :=
  plain l (fun c => do
    loaded c a u (widthOf w) (ofLe (← loadBytes c false ((← bankOf' c).indexed ga imm) (widthOf w)))) s

def execArbStx (l : Nat) (w : BitVec 2) (a : Bool) (ga : BitVec 4) (imm : BitVec 12) (s : State) : Out :=
  plain l (fun c => do
    let r ← bankOf' c
    storeData c (r.indexed ga imm) (.bytes (le (widthOf w) (r.accu a).toNat))) s

/-- R137: every byte of the range may be read. -/
def State.moveFrom (s : State) (p a n : Nat) : Bool :=
  let gs := (s.regions p).filter (fun g => g.r && (!g.imported || s.importValid p g))
  a + n ≤ 2 ^ 40 && (pieces a n).all (fun e =>
    let w := targetOf e.1
    w ≠ .none && w ≠ .itcm && (!w.regioned || (s.armed p && gs.any (·.covers e.1))))

/-- R137, R72, R190: every byte of the range may be written by a task of class x. -/
def State.moveTo (s : State) (p x a n : Nat) : Bool :=
  let gs := (s.regions p).filter (·.w)
  let as := s.areas
  a + n ≤ 2 ^ 40 && (pieces a n).all (fun e =>
    let w := targetOf e.1
    w ≠ .none && w ≠ .itcm && (!w.regioned || (s.armed p && gs.any (·.covers e.1)))
      && (w ≠ .output || (s.outClass (e.1 - outBase) = x && ownsOut as p (e.1 - outBase) e.2)))

/-- R137, R139: MOVB copies IMM12 + 1 bytes as if through a buffer, and counts one for each 64. A move ends within its
command: no preemption falls inside it. -/
def execArbMovb (l : Nat) (ga gb : BitVec 4) (imm : BitVec 12) (s : State) : Out :=
  let n := imm.toNat + 1
  executing l 1 ((n + 63) / 64) legal (fun c => do
    let r ← bankOf' c
    let src := (r.gr ga).toNat
    let dst := (r.gr gb).toNat
    need (!(dst < outBase && inBase < dst + n)) Cause.protection 3 dst
    let s ← get
    need (s.moveFrom c.p src n) Cause.protection 7 src
    need (s.moveTo c.p c.x dst n) Cause.protection 7 dst
    let b ← readPieces c (pieces src n)
    writePieces c (pieces dst n) b) s

/-! ### Integer operations (R126, R127) -/

/-- The width that N selects. -/
def aluWidth (nar : Bool) : Nat := if nar then 32 else 64

/-- R126: MUX: the element with the index in the accumulator, at most the last; V is set where it was clamped. -/
def execArbMux (l : Nat) (a nar u : Bool) (ga : BitVec 4) (imm : BitVec 12) (s : State) : Out :=
  executing l 1 1 (fun _ _ => if imm = 0 then 6 else 0) (fun c => do
    let r ← bankOf' c
    let w := aluWidth nar
    let i := (r.accu a).toNat % 2 ^ w
    let v := ofLe (← loadBytes c false (((r.gr ga).toNat + min i (imm.toNat - 1) * (w / 8)) % 2 ^ 64) (w / 8))
    setRegs c (fun r => { r.setAccu a (extendTo u w v) with status := intFlags r.status w v false (imm.toNat ≤ i) })) s

/-- The accumulator and the flags take a result; a flag without a stated value is free (R109). -/
def intResult (c : Ctx) (a nar u : Bool) (x : IntRes) : Arb Unit := do
  let cf : Bool ← match x.c with
    | some b => pure b
    | none => do pure ((← drawBits 1) = 1)
  let vf : Bool ← match x.v with
    | some b => pure b
    | none => do pure ((← drawBits 1) = 1)
  setRegs c (fun r => { r.setAccu a (extendTo u (aluWidth nar) x.r) with status := intFlags r.status (aluWidth nar) x.r cf vf })

/-- An ALU instruction: `f` takes width, accumulator, other accumulator and operand; none: division trap `sub` (R127). -/
def alu (l : Nat) (a nar u : Bool) (op : AluOp) (sub : Nat) (f : Bool → Nat → Nat → Nat → Nat → Option IntRes) (s : State) : Out :=
  executing l (aluWords op) 1 legal (fun c => do
    let v ← aluOperand c a nar u op
    let r ← bankOf' c
    let w := aluWidth nar
    let m := 2 ^ w
    match f (bitOf ((← get).task c.p c.x).policy 0) w ((r.accu a).toNat % m) ((r.accu (!a)).toNat % m) (v.toNat % m) with
    | some x => intResult c a nar u x
    | none => trap Cause.div0 sub 0) s

/-- A comparison: ACC takes its outcome; the flags stay (R109). -/
def compareOp (l : Nat) (a nar u : Bool) (op : AluOp) (f : Int → Int → Bool) (s : State) : Out :=
  executing l (aluWords op) 1 legal (fun c => do
    let v ← aluOperand c a nar u op
    let w := aluWidth nar
    setRegs c (fun r => { r with acc := f (keyOf u w ((r.accu a).toNat % 2 ^ w)) (keyOf u w (v.toNat % 2 ^ w)) })) s

def execArbAdd (l : Nat) (a nar u : Bool) (op : AluOp) (s : State) : Out := alu l a nar u op 0 (fun _ w x _ y => some (aluAdd w x y)) s
def execArbSub (l : Nat) (a nar u : Bool) (op : AluOp) (s : State) : Out := alu l a nar u op 0 (fun _ w x _ y => some (aluSub w x y)) s
def execArbMul (l : Nat) (a nar u : Bool) (op : AluOp) (s : State) : Out := alu l a nar u op 0 (fun _ w x _ y => some (aluMul w x y)) s
def execArbDiv (l : Nat) (a nar u : Bool) (op : AluOp) (s : State) : Out := alu l a nar u op 1 (fun sat w x _ y => aluDiv sat u w x y) s
def execArbMod (l : Nat) (a nar u : Bool) (op : AluOp) (s : State) : Out := alu l a nar u op 2 (fun sat w x _ y => aluMod sat u w x y) s
def execArbAluAnd (l : Nat) (a nar u : Bool) (op : AluOp) (s : State) : Out := alu l a nar u op 0 (fun _ _ x _ y => some { r := x &&& y }) s
def execArbAluOr (l : Nat) (a nar u : Bool) (op : AluOp) (s : State) : Out := alu l a nar u op 0 (fun _ _ x _ y => some { r := x ||| y }) s
def execArbAluXor (l : Nat) (a nar u : Bool) (op : AluOp) (s : State) : Out := alu l a nar u op 0 (fun _ _ x _ y => some { r := x ^^^ y }) s
def execArbMin (l : Nat) (a nar u : Bool) (op : AluOp) (s : State) : Out := alu l a nar u op 0 (fun _ w x _ y => some { r := aluMin u w x y }) s
def execArbMax (l : Nat) (a nar u : Bool) (op : AluOp) (s : State) : Out := alu l a nar u op 0 (fun _ w x _ y => some { r := aluMax u w x y }) s
def execArbLimit (l : Nat) (a nar u : Bool) (op : AluOp) (s : State) : Out := alu l a nar u op 0 (fun _ w x z y => some { r := aluMin u w (aluMax u w x z) y }) s

/-- R119: with ACC 0 the accumulator keeps its value; the flags are those of the value it holds (R109). -/
def execArbSel (l : Nat) (a nar u : Bool) (op : AluOp) (s : State) : Out :=
  executing l (aluWords op) 1 legal (fun c => do
    let v ← aluOperand c a nar u op
    let w := aluWidth nar
    setRegs c (fun r =>
      let y := if r.acc then v.toNat % 2 ^ w else (r.accu a).toNat % 2 ^ w
      { (if r.acc then r.setAccu a (extendTo u w y) else r) with status := intFlags r.status w y false false })) s

def execArbCmpeq (l : Nat) (a nar u : Bool) (op : AluOp) (s : State) : Out := compareOp l a nar u op (fun x y => x = y) s
def execArbCmpne (l : Nat) (a nar u : Bool) (op : AluOp) (s : State) : Out := compareOp l a nar u op (fun x y => x ≠ y) s
def execArbCmplt (l : Nat) (a nar u : Bool) (op : AluOp) (s : State) : Out := compareOp l a nar u op (fun x y => x < y) s
def execArbCmple (l : Nat) (a nar u : Bool) (op : AluOp) (s : State) : Out := compareOp l a nar u op (fun x y => x ≤ y) s
def execArbCmpgt (l : Nat) (a nar u : Bool) (op : AluOp) (s : State) : Out := compareOp l a nar u op (fun x y => y < x) s
def execArbCmpge (l : Nat) (a nar u : Bool) (op : AluOp) (s : State) : Out := compareOp l a nar u op (fun x y => y ≤ x) s

def execArbShl (l : Nat) (a nar u : Bool) (op : AluOp) (s : State) : Out := alu l a nar u op 0 (fun _ w x _ y => some (aluShl w x y)) s
def execArbShr (l : Nat) (a nar u : Bool) (op : AluOp) (s : State) : Out := alu l a nar u op 0 (fun _ w x _ y => some (aluShr w x y)) s
def execArbSar (l : Nat) (a nar u : Bool) (op : AluOp) (s : State) : Out := alu l a nar u op 0 (fun _ w x _ y => some (aluSar w x y)) s
def execArbRol (l : Nat) (a nar u : Bool) (op : AluOp) (s : State) : Out := alu l a nar u op 0 (fun _ w x _ y => some (aluRol w x y)) s
def execArbRor (l : Nat) (a nar u : Bool) (op : AluOp) (s : State) : Out := alu l a nar u op 0 (fun _ w x _ y => some (aluRor w x y)) s
def execArbMov (l : Nat) (a nar u : Bool) (op : AluOp) (s : State) : Out := alu l a nar u op 0 (fun _ _ _ _ y => some { r := y }) s

end Sys2Proof.Machine
end

