-- ==== Sys2Proof/Machine/Dap.lean ====
section
/-! DEFINITION. The Dictionary Access Protocol: sessions, frames and their operations (R59 to R62, R482, R530, R531). -/

namespace Sys2Proof.Machine

/-! ### Sessions (R60, R482) -/

/-- R482: the condition a certificate fails first, numbered in the order of R482, 0 where it is accepted. A certificate
whose key or chain fails is told apart by a free value. -/
def State.certFails (s : State) (c : Cert) : Nat :=
  if !c.chainOk then 1 + s.free 1
  else if c.revoked then 3
  else if !c.notAfterOk ∨ (s.synced 3 ∧ !c.notBeforeOk) then 4
  else if !(c.role.any (fun r => rank r ≤ 3)) then 5
  else if c.scope.isSome ∧ (c.role = some .owner ∨ c.safety) then 6
  else 0

/-- The DAP server is reachable. -/
def State.dapServes (s : State) : Bool := s.ghRuns && s.mode ≠ Mode.dormant && s.dictReady && s.on K.dictDapEnable

/-- R530: a DAP frame. -/
def dapBytes (op flags req st count : Nat) (body : Bytes) : Bytes :=
  le 1 1 ++ le 1 op ++ le 2 flags ++ le 4 req ++ le 2 st ++ le 2 count ++ le 4 body.length ++ body

/-- Least session number that is not in use. -/
def State.freeSession (s : State) : Nat := ((List.range 1024).find? (fun n => !(s.session n).isOpen)).getD 1024

/-- R60, R482: a handshake from a peer with a client certificate. In PROVISION every client is an unscoped VIEWER. -/
def execDapHandshake (peer : Bytes) (cert : Cert) (s : State) : Out :=
  .next (only s.dapServes (fun s =>
    let prov := decide (s.mode = Mode.provision)
    let why := if prov then 0 else s.certFails cert
    if why ≠ 0 then authFailure (raise Ev.dapAuthFailed (padTo 18 peer ++ le 1 why) (drawn s))
    else
      let role : Role := if prov then .viewer else cert.role.getD .viewer
      let safety := !prov && cert.safety
      let priv (x : Session) : Bool := x.role = .owner || x.safety
      let live := (s.sessions.map (·.2)).filter (·.isOpen)
      let plain := (live.filter (fun x => !priv x)).length
      let x : Session :=
        { isOpen := true, role := role, safety := safety, scope := if prov then none else cert.scope
          cert := s.freeBytes 48, peer := padTo 18 peer, tokens := s.rdN K.dictDapBurst, lastFrame := s.now, lastRefill := s.now }
      if 1024 ≤ live.length ∨ (!priv x ∧ 1016 ≤ plain) then
        let s := send (Wire.dap 1024) (dapBytes 0x8A 0 0 Err.sessionLimit 0 []) s
        raise Ev.dapSessionRefused (padTo 18 peer) (inc K.dictDapRefused U32.max s)
      else countSessions (drawn (updSession s.freeSession (fun _ => x) s))) s)

/-- R60: no frame for DICT.DAP.IDLE seconds. -/
def execDapIdleTimeout (n : Nat) (s : State) : Out :=
  .next (only ((s.session n).isOpen && s.past (s.session n).lastFrame (s.rdN K.dictDapIdle * sec)) (closeSession n) s)

/-- The session's open WRITE_SEG sequence is discarded. -/
def dropSeg (n : Nat) (s : State) : State := updSession n (fun x => { x with segKey := none, segData := [], segAt := 0 }) s

/-- R531: a sequence idle for the session idle timeout is discarded. -/
def execDapSegSequenceTimeout (n : Nat) (s : State) : Out :=
  .next (only ((s.session n).isOpen && (s.session n).segKey.isSome && s.past (s.session n).segAt (s.rdN K.dictDapIdle * sec)) (dropSeg n) s)

/-- R60: the bucket of session n gains a token. -/
def execDapTokenRefill (n : Nat) (s : State) : Out :=
  let step := sec / max 1 (s.rdN K.dictDapRate)
  .next (only ((s.session n).isOpen && s.past (s.session n).lastRefill step) (fun s =>
    updSession n (fun x =>
      if s.rdN K.dictDapBurst ≤ x.tokens then { x with tokens := s.rdN K.dictDapBurst, lastRefill := s.now }
      else { x with tokens := x.tokens + 1, lastRefill := x.lastRefill + step }) s) s)

/-- R62: the oldest push of session n is sent. -/
def execDapEventPush (n : Nat) (s : State) : Out :=
  .next (only (s.dapServes && (s.session n).isOpen) (fun s =>
    match (s.session n).pushes with
    | [] => s
    | b :: r =>
      let d := (s.session n).dropped
      let flags := if d = 0 then 0 else 4 + 256 * min 255 d
      send (Wire.dap n) (dapBytes 0x87 flags 0 0 1 b) (updSession n (fun x => { x with pushes := r, dropped := 0 }) s)) s)

/-! ### Frames (R530, R60, R61) -/

/-- The request codes. -/
def dapOps : List Nat := [1, 2, 3, 4, 5, 6, 8, 9, 10]

/-- R530: the items of a frame's body. -/
def dapItems (f : Bytes) : Option (List Item) := parseItems 64 (f.drop 16)

/-- R530: the frame is not refused as a whole. -/
def dapFormed (f : Bytes) : Bool :=
  let op := byteAt f 1
  let flags := fieldAt f 2 2
  let count := fieldAt f 10 2
  let len := fieldAt f 12 4
  let body := f.drop 16
  decide (f.length ≤ 1200) && decide (16 ≤ f.length) && byteAt f 0 = 1 && dapOps.contains op && fieldAt f 8 2 = 0
    && (flags = 0 || (flags = 2 && op = 5)) && len = f.length - 16
    && (if op = 4 then count = 1 && len = 12 && fieldAt body 4 2 = 0
        else if op = 5 then count = 1 && decide (12 ≤ len) && decide (fieldAt body 4 2 ≤ 1024) && len = 12 + (fieldAt body 4 2 + 3) / 4 * 4
        else if op = 6 then decide (count ≤ 32) && len = 4 * count
        else if op = 8 ∨ op = 10 then len = 0 && count = 0
        else match dapItems f with
          | some l => l.length = count
          | none => false)

/-- What an operation answers: frame STATUS, FLAGS, COUNT and body. -/
structure DapAnswer where
  st : Nat
  flags : Nat := 0
  count : Nat := 0
  body : Bytes := []
  deriving DecidableEq, Repr

/-- The response of a request frame. -/
def DapAnswer.bytes (f : Bytes) (a : DapAnswer) : Bytes := dapBytes (byteAt f 1 % 128 + 128) a.flags (fieldAt f 4 4) a.st a.count a.body

/-- R61: a request is run; its response is kept under its REQ_ID, and given at once or once its epoch is held (R39). -/
def dapRun (n : Nat) (f : Bytes) (run : Nat → Bytes → State → DapAnswer × State) (s : State) : State :=
  let n0 := s.pair.owed.length
  let r := run n f s
  let s := r.2
  let b := r.1.bytes f
  let req := fieldAt f 4 4
  if s.pair.owed.length ≤ n0 then
    send (Wire.dap n) b (only (s.session n).isOpen (updSession n (fun x => { x with stored := pushFront 8 (req, b) x.stored })) s)
  else if (s.session n).isOpen then
    oweFrame n0 (Wire.dap n) b (updSession n (fun x => { x with stored := pushFront 8 (req, []) x.stored, unanswered := x.unanswered + 1 }) s)
  else send (Wire.dap n) b { s with pair := { s.pair with owed := s.pair.owed.take n0 } }

/-- R45, R398: the entries a writing frame names. -/
def frameKeys (f : Bytes) : List Nat :=
  if byteAt f 1 = 5 then (if fieldAt f 2 2 = 2 then [256 * fieldAt f 16 2 + byteAt f 18] else [])
  else if byteAt f 1 = 2 ∨ byteAt f 1 = 3 then ((dapItems f).getD []).map Item.key
  else []

/-- A frame of operation `op` reaches session n. -/
def dapFrame (op n : Nat) (f : Bytes) (run : Nat → Bytes → State → DapAnswer × State) (s : State) : State :=
  let mine := byteAt f 1 = op || (op = 1 && !dapOps.contains (byteAt f 1))
  only (s.dapServes && (s.session n).isOpen && mine) (fun s =>
    let s := updSession n (fun x => { x with lastFrame := s.now }) s
    let x := s.session n
    let refuse (code : Nat) (s : State) : State := send (Wire.dap n) (DapAnswer.bytes f { st := code }) s
    if x.tokens = 0 then
      let l := satInc U32.max x.limited
      refuse Err.rateLimited (raise Ev.dapRateLimited (le 2 n ++ le 4 l) (updSession n (fun x => { x with limited := l }) s))
    else
      let s := updSession n (fun x => { x with
        tokens := x.tokens - 1, lastRefill := if s.rdN K.dictDapBurst ≤ x.tokens then s.now else x.lastRefill }) s
      if !dapFormed f then refuse Err.protocol s
      else match x.stored.find? (fun e => e.1 = fieldAt f 4 4) with
        | some e => if e.2 = [] then s else send (Wire.dap n) e.2 s
        | none =>
          if 8 ≤ x.unanswered then refuse Err.busy s
          else if s.holds (.dap n) (frameKeys f) then
            holdFrame n f (updSession n (fun x => { x with stored := pushFront 8 (fieldAt f 4 4, []) x.stored, unanswered := x.unanswered + 1 }) s)
          else dapRun n f run s) s

/-! ### Reading (R530, R531) -/

/-- Frame STATUS over the codes of the items. -/
def overall (codes : List Nat) : Nat := if codes.all (· = Err.ok) then Err.ok else Err.itemErrors

/-- R530: items are served in request order, each if the frame still holds it and the headers of those that follow. -/
def serveItems (get : Item → Nat × Nat × Bytes) (room : Nat) : List Item → List (Nat × Bytes)
  | [] => []
  | x :: r =>
    let g := get x
    let b := itemBytes x.idx x.sub g.2.1 g.1 g.2.2
    if b.length + 8 * r.length ≤ room then (g.1, b) :: serveItems get (room - b.length) r
    else (Err.length, itemBytes x.idx x.sub x.ty Err.length []) :: serveItems get (room - 8) r

def served (l : List (Nat × Bytes)) : DapAnswer := { st := overall (l.map (·.1)), count := l.length, body := l.flatMap (·.2) }

/-- READ. -/
def readRun (n : Nat) (f : Bytes) (s : State) : DapAnswer × State :=
  match s.caller (.dap n) with
  | none => ({ st := Err.state }, s)
  | some c => (served (serveItems (fun x => s.readItem (.dap n) c x.idx x.sub x.ty) 1184 ((dapItems f).getD [])), s)

/-- The default of an entry, as DESCRIBE gives it. -/
def State.defaultOf (s : State) (c : Caller) (i j : Nat) : Bytes :=
  if 0xA000 ≤ i ∧ i ≤ 0xAFFF then ((c.scope.bind (fun p => s.decl p i j)).map (·.dflt)).getD (s.entryBytes c i j)
  else if (dictFind i j).isSome then defaultBytes (256 * i + j) else le 1 (highestSub i)

/-- The descriptor of an entry. -/
def State.describe (s : State) (c : Caller) (i j : Nat) (x : Entry) : Bytes :=
  let acc := match x.acc with
    | .ro => 0
    | .rw => 1
    | .wo => 2
    | .w1c => 3
  le 1 (codeOf x.ty) ++ le 1 acc ++ le 1 (rank x.role) ++ le 1 (b2n x.persistent + 2 * b2n (moduleScope i)) ++ le 4 x.size
    ++ padTo 8 (s.defaultOf c i j)

/-- DESCRIBE; it needs visibility alone (R42). -/
def describeRun (n : Nat) (f : Bytes) (s : State) : DapAnswer × State :=
  match s.caller (.dap n) with
  | none => ({ st := Err.state }, s)
  | some c => (served (serveItems (fun x =>
      let e := s.findEntry c x.idx x.sub
      if e ≠ Err.ok then (e, x.ty, [])
      else match s.entryFor c x.idx x.sub with
        | none => (Err.unknownIndex, x.ty, [])
        | some y => if x.ty ≠ 0 ∧ x.ty ≠ codeOf y.ty then (Err.length, x.ty, []) else (Err.ok, codeOf y.ty, s.describe c x.idx x.sub y))
      1184 ((dapItems f).getD [])), s)

/-- R531: READ_SEG. -/
def readSegRun (n : Nat) (f : Bytes) (s : State) : DapAnswer × State :=
  let b := f.drop 16
  let i := fieldAt b 0 2
  let j := byteAt b 2
  let off := fieldAt b 8 4
  match s.caller (.dap n) with
  | none => ({ st := Err.state }, s)
  | some c =>
    let r := s.readItem (.dap n) c i j (byteAt b 3)
    let code := if r.1 = Err.ok ∧ r.2.2.length < off then Err.length else r.1
    if code ≠ Err.ok then ({ st := Err.itemErrors, count := 1, body := itemBytes i j (byteAt b 3) code [] }, s)
    else
      let seg := (r.2.2.drop off).take 1024
      ({ st := Err.ok, flags := b2n (off + seg.length < r.2.2.length), count := 1, body := itemBytes i j r.2.1 Err.ok seg }, s)

/-! ### Writing (R530, R531) -/

/-- The response of a writing frame. -/
def wrote (l : List (Item × Nat)) : DapAnswer :=
  { st := overall (l.map (·.2)), count := l.length, body := l.flatMap (fun x => itemBytes x.1.idx x.1.sub x.1.ty x.2 []) }

/-- WRITE: the items in order, each on its own. -/
def writeRun (n : Nat) (f : Bytes) (s : State) : DapAnswer × State :=
  let r := ((dapItems f).getD []).foldl (fun (a : List (Item × Nat) × State) x =>
    let w := writeItem (.dap n) x a.2
    (a.1 ++ [(x, w.1)], w.2)) (([] : List (Item × Nat)), s)
  (wrote r.1, r.2)

/-- Items of a WRITE_ATOMIC that are not applied: the failing ones carry their codes, every other NOT_APPLIED. -/
def notApplied (l : List (Item × Nat)) : DapAnswer := wrote (l.map (fun x => (x.1, if x.2 = Err.ok then Err.notApplied else x.2)))

/-- WRITE_ATOMIC: every item is checked, those without a row of their own against the set they would all leave; then all are
applied, or none. -/
def atomicRun (n : Nat) (f : Bytes) (s : State) : DapAnswer × State :=
  let src : Path := .dap n
  let items := (dapItems f).getD []
  match s.caller src with
  | none => ({ st := Err.state }, s)
  | some c =>
    let plain (x : Item) : Bool := (s.rowOf src x.key x.value).isNone && x.key ≠ 0x200304
    let code1 (x : Item) : Nat := if s.typeBad src x.idx x.sub x.ty then Err.length else s.checkWrite src x.idx x.sub x.value
    let ps := items.filter plain
    let t := each (ps.filter (fun x => code1 x = Err.ok)) (fun x => putValue x.key x.value) s
    let first := items.map (fun x =>
      let e := code1 x
      (x, if e ≠ Err.ok then e else if plain x && x.key < 0xA00000 then s.ownRule t src x.key else Err.ok))
    if first.any (fun x => x.2 ≠ Err.ok) then (notApplied first, s)
    else
      -- DICTSTORE's room, with the items applied together
      let put := ps.foldl (fun (a : List (Item × Nat) × State) x =>
        let w := writeValue (ownKey c x.key) x.value a.2
        (a.1 ++ [(x, w.1)], w.2)) (([] : List (Item × Nat)), s)
      let full := (put.1.filter (fun x => x.2 ≠ Err.ok)).map (·.1)
      if full ≠ [] then
        (notApplied (items.map (fun x => (x, if full.contains x then Err.storeFull else Err.ok))),
          each full (fun x => dictFull x.key) s)
      else
        let ks := (ps.map Item.key).filter (· < 0xA00000)
        let u := afterWrites ks (each ks (writeEffect s) put.2)
        let u := each ps (fun x => answerWrite (ownKey c x.key) x.value Err.ok) u
        let rows := items.foldl (fun (a : List (Item × Nat) × State) x =>
          if plain x then (a.1 ++ [(x, Err.ok)], a.2)
          else
            let w := writeOutcome src x.idx x.sub x.value a.2
            (a.1 ++ [(x, w.1)], w.2)) (([] : List (Item × Nat)), u)
        if rows.1.any (fun x => x.2 ≠ Err.ok) then (notApplied rows.1, s) else (wrote rows.1, rows.2)

/-- R531: WRITE_SEG. -/
def writeSegRun (n : Nat) (f : Bytes) (s : State) : DapAnswer × State :=
  let b := f.drop 16
  let i := fieldAt b 0 2
  let j := byteAt b 2
  let ty := byteAt b 3
  let off := fieldAt b 8 4
  let v := slice b 12 (fieldAt b 4 2)
  let x := s.session n
  let answer (code : Nat) : DapAnswer := { st := overall [code], count := 1, body := itemBytes i j ty code [] }
  if off ≠ 0 ∧ (x.segKey ≠ some (256 * i + j) ∨ x.segData.length ≠ off) then (answer Err.protocol, dropSeg n s)
  else
    let data := (if off = 0 then [] else x.segData) ++ v
    if fieldAt f 2 2 = 2 then
      let w := writeItem (.dap n) { idx := i, sub := j, ty := ty, value := data } (dropSeg n s)
      (answer w.1, w.2)
    else if s.typeBad (.dap n) i j ty then (answer Err.length, dropSeg n s)
    else (answer Err.ok, updSession n (fun x => { x with segKey := some (256 * i + j), segData := data, segAt := s.now }) s)

/-! ### The other operations -/

/-- R62: SUBSCRIBE. -/
def subscribeRun (n : Nat) (f : Bytes) (s : State) : DapAnswer × State :=
  let l := (List.range (fieldAt f 10 2)).map (fun m => (fieldAt f (16 + 4 * m) 2, fieldAt f (18 + 4 * m) 2))
  if l.any (fun r => r.2 < r.1 || 1279 < r.2) then ({ st := Err.value }, s)
  else ({ st := Err.ok }, updSession n (fun x => { x with ranges := l }) s)

def keepaliveRun (_ : Nat) (_ : Bytes) (s : State) : DapAnswer × State := ({ st := Err.ok }, s)
def closeRun (n : Nat) (_ : Bytes) (s : State) : DapAnswer × State := ({ st := Err.ok }, closeSession n s)

/-- A READ frame, and a frame whose OP is no request code, which R530 refuses. -/
def execDapRead (n : Nat) (f : Bytes) (s : State) : Out := .next (dapFrame 1 n f readRun s)
def execDapWrite (n : Nat) (f : Bytes) (s : State) : Out := .next (dapFrame 2 n f writeRun s)
def execDapWriteAtomic (n : Nat) (f : Bytes) (s : State) : Out := .next (dapFrame 3 n f atomicRun s)
def execDapReadSeg (n : Nat) (f : Bytes) (s : State) : Out := .next (dapFrame 4 n f readSegRun s)
def execDapWriteSeg (n : Nat) (f : Bytes) (s : State) : Out := .next (dapFrame 5 n f writeSegRun s)
def execDapSubscribe (n : Nat) (f : Bytes) (s : State) : Out := .next (dapFrame 6 n f subscribeRun s)
def execDapKeepalive (n : Nat) (f : Bytes) (s : State) : Out := .next (dapFrame 8 n f keepaliveRun s)
def execDapDescribe (n : Nat) (f : Bytes) (s : State) : Out := .next (dapFrame 9 n f describeRun s)
def execDapClose (n : Nat) (f : Bytes) (s : State) : Out := .next (dapFrame 10 n f closeRun s)

/-- R398: a frame held during a flush is run after it. -/
def dapHeld (n : Nat) (f : Bytes) (s : State) : State :=
  only (s.session n).isOpen (fun s =>
    let s := updSession n (fun x => { x with unanswered := x.unanswered - 1, stored := x.stored.filter (fun e => e.1 ≠ fieldAt f 4 4) }) s
    dapRun n f (if byteAt f 1 = 5 then writeSegRun else if byteAt f 1 = 3 then atomicRun else writeRun) s) s

end Sys2Proof.Machine
end

