-- ==== Sys2Proof/Machine/Fabric.lean ====
section
/-! DEFINITION. The fabric's commands: the choice and service of one request at a resource, and the ledger round
(R195, R196), with the error correction of shared SRAM (R29, R30). -/

namespace Sys2Proof.Machine

/-- R195: resource of an address: a bank 0 to 63, or the DRAM controller 64. -/
def resourceOf (a : Nat) : Option Nat := if inSram a then some (bankOf a) else if inDram a then some 64 else none

/-- R24: a refused access by a master other than a lane or Pavilion DMA. -/
def busRefused (m : FabArrival) : Bool := 2 ≤ m.master && !otherMay m.master m.addr m.write

/-- R24: the access is dropped, with EV 0050. -/
def busError (m : FabArrival) (s : State) : State :=
  raise Ev.fabricBusError (le 1 m.master ++ le 8 m.addr ++ le 1 (if m.write then 2 else 1)) s

/-- The request an arrival makes. -/
def fabReqOf (r : Nat) (m : FabArrival) : FabReq :=
  { resource := r, account := m.account, cls := m.cls, addr := m.addr, write := m.write
    whole := m.write && m.bytes = 8 && m.addr % 8 = 0 }

/-- R196: the account's weight. -/
def State.ledgerWeight (s : State) (e : Nat) : Int := if e < 256 then s.rd (K.quotaWeight e) else 4096
/-- R196: the cost of a service. -/
def serviceCost (r : Nat) : Int := if r = 64 then 8 else 1

/-- Requests of one resource, in order of arrival. -/
def State.waiting (s : State) (r : Nat) : List FabReq := s.fabric.reqs.filter (fun q => q.resource = r)

/-- R196: a cycle left by steps 1 and 2: accounts with credit first, Class B of a Pavilion before Class C and SYSTEM, then
the oldest. -/
def State.ledgerChoice (s : State) (l : List FabReq) : Option FabReq :=
  let l := l.filter (fun q => q.cls ≠ 0)
  let rich := l.filter (fun q => decide (0 < Tab.get s.fabric.credit q.account 0))
  let pool := if rich = [] then l else rich
  (pool.find? (fun q => q.cls = 1 && q.account < 256)).or pool.head?

/-- R195, steps 2 and 3. -/
def State.fabOther (s : State) (l : List FabReq) (past : List Nat) : Option (FabReq × Bool) :=
  match l.find? (fun q => q.cls = 3) with
  | some q => if past.contains 3 then (s.ledgerChoice l).map (·, true) else some (q, false)
  | none => (s.ledgerChoice l).map (·, true)

/-- R195: the request served in this cycle, and whether the ledger chose it. -/
def State.fabChoice (s : State) (r : Nat) : Option (FabReq × Bool) :=
  let l := s.waiting r
  let past := Tab.get s.fabric.served r []
  let others := l.any (fun q => q.cls ≠ 0)
  let aUsed := decide (3 ≤ past.length) && (past.take 3).all (· = 0)
  match l.find? (fun q => q.cls = 0) with
  | some q => if aUsed && others then s.fabOther l past else some (q, false)
  | none => s.fabOther l past

/-- What kind of cycle it was: 0 A, 3 checkpoint engine, 1 other, 4 none. -/
def cycleKind : Option (FabReq × Bool) → Nat
  | some (q, _) => if q.cls = 0 then 0 else if q.cls = 3 then 3 else 1
  | none => 4

/-- R29, R30: the array access of a served SRAM request; `err`: 0 none, 1 a single-bit error, 2 an uncorrectable one. -/
def sramServe (q : FabReq) (err syn : Nat) (s : State) : State :=
  if !inSram q.addr then s
  else if q.whole then unpoison q.addr s
  else if err = 2 ∨ s.poisoned q.addr then sramLost q.addr q.account q.cls s
  else if err = 1 then sramCorrect q.addr syn s else s

/-- R195, R196: the chosen request is served: its beat is counted, and debited where the ledger chose it. -/
def fabServe (r err syn : Nat) (c : FabReq × Bool) (s : State) : State :=
  let q := c.1
  let s := updFab (fun f => { f with reqs := f.reqs.erase q }) s
  let s := only c.2 (updFab (fun f => { f with credit := Tab.upd f.credit q.account 0 (· - serviceCost r) })) s
  let s := only (q.account < 256) (inc (if r = 64 then K.quotaBeatsDram q.account else K.quotaBeatsSram q.account) U64.max) s
  sramServe q err syn s

/-- R195: one cycle of resource r, at which requests arrive. `err` and `syn`: what the array access of the served request
finds (R29); `ovf`: the capture buffer of the checkpoint engine overflows (R221). -/
def execFabricAccess (r : Nat) (arrivals : List FabArrival) (err syn : Nat) (ovf : Bool) (s : State) : Out :=
  .next (only (r < 65) (fun s =>
    let s := each (arrivals.filter busRefused) busError s
    let new := (arrivals.filter (fun m => !busRefused m && resourceOf m.addr = some r)).map (fabReqOf r)
    let s := updFab (fun f => { f with reqs := f.reqs ++ new }) s
    let s := updFab (fun f => { f with waited := (s.waiting r).foldl (fun w q => Tab.put w q.account true false) f.waited }) s
    let c := s.fabChoice r
    let s := updFab (fun f => { f with served := Tab.upd f.served r [] (fun l => (cycleKind c :: l).take 15) }) s
    let s := match c with
      | some c => fabServe r err syn c s
      | none => s
    only ovf captureOverflow s) s)

/-- R196: what the end of a round makes of an account's credit. -/
def roundCredit (waited : Bool) (w c : Int) : Int := max (if waited then min (c + w) (4 * w) else min c 0) (-16 * w)

/-- R196: a ledger round ends. -/
def execLedgerRoundEnd (s : State) : Out :=
  let es := List.range 257
  let credit := es.foldl (fun t e => Tab.put t e
    (roundCredit (Tab.get s.fabric.waited e false) (s.ledgerWeight e) (Tab.get s.fabric.credit e 0)) 0) s.fabric.credit
  let still := s.fabric.reqs.foldl (fun w q => Tab.put w q.account true false) ([] : Sparse Bool)
  let s := updFab (fun f => { f with credit := credit, waited := still }) s
  .next (each (List.range 256) (fun p s => wr (K.quotaCredit p) (Tab.get credit p 0) s) s)

end Sys2Proof.Machine
end

