-- ==== Sys2Proof/Machine/Pair.lean ====
section
/-! DEFINITION. The commands of spec/07: the Causeway, epochs, checkpoints, the referee, roles, takeover, self-tests,
health and handover. -/

namespace Sys2Proof.Machine

/-- A time of the pair logic, not before start-up: intervals count from it. -/
def State.pairSince (s : State) (t : Nat) : Nat := max t s.gate.bootAt

/-! ### The Causeway (R214 to R216) -/

/-- R214: CW.STATE changes, with EV 0457. -/
def cwTo (new : Nat) (s : State) : State :=
  if s.rdN K.cwState = new then s
  else raiseSev Ev.causewayState (le 1 new ++ le 1 (s.rdN K.cwLanes)) (if new = 2 then 2 else 4) (wrN K.cwState new s)

/-- R214: the state follows the lanes; without one it stands until 1 ms has passed. -/
def cwFollow (s : State) : State :=
  let l := s.rdN K.cwLanes
  if l = 0 then s else pairFollow (cwTo (if l = 3 then 2 else 1) s)

/-- R214: lane n completes training and carries valid blocks. -/
def execCausewayLaneTrained (n : Nat) (s : State) : Out :=
  .next (only (s.pairRuns && n < 2) (fun s => cwFollow (wrN K.cwLanes (setBit (s.rdN K.cwLanes) n true) s)) s)

/-- R214: lane n loses block lock, and retrains. -/
def execCausewayLaneLost (n : Nat) (s : State) : Out :=
  .next (only (s.pairRuns && n < 2 && bitOf (s.rdN K.cwLanes) n) (fun s =>
    let s := inc K.cwBlockErrors U32.max (wrN K.cwLanes (setBit (s.rdN K.cwLanes) n false) s)
    if s.rdN K.cwLanes = 0 then updPair (fun p => { p with laneLostAt := s.now }) s else cwFollow s) s)

/-- R214: no lane for 1 ms. -/
def execCausewayDown (s : State) : Out :=
  .next (only (s.pairRuns && s.rdN K.cwLanes = 0 && s.rdN K.cwState ≠ 0 && s.past s.pair.laneLostAt ms) (fun s =>
    let s := cwTo 0 (updPair (fun p => { p with downAt := s.now, rx := {} }) s)
    let s := if s.activeLike ∨ s.mode = Mode.handover then dropPartner s else s
    syncFollow (pairFollow s)) s)

/-- R216: the 1 ms loopback of a lane, while the other carries all traffic. -/
def execCausewayLoopback (lane : Nat) (ok : Bool) (s : State) : Out :=
  let due := if lane = 0 then s.past (s.pairSince s.pair.loopAt) (s.rdN K.cwLoopInterval * (1000 * ms))
    else s.pair.loopNext = 1 && s.past s.pair.loopAt ms
  .next (only (s.pairRuns && lane < 2 && s.rdN K.cwLanes = 3 && due) (fun s =>
    let s := updPair (fun p => { p with loopNext := 1 - lane, loopAt := if lane = 0 then s.now else p.loopAt }) s
    let s := cwTo 2 (wrN K.cwLanes 3 (cwTo 1 (wrN K.cwLanes (3 - 2 ^ lane) s)))
    let s := wrN K.cwLoopResult (setBit (s.rdN K.cwLoopResult) lane ok) s
    only (!ok && s.mode = Mode.standby) (raise Ev.standbyTestFailed (le 1 2 ++ le 1 lane)) s) s)

/-! ### Heartbeats (R215, R216) -/

/-- R492: FLAGS of the own CHECKPOINT-SCHEMA: bit 0 its table translates upward, bit 1 downward. -/
def State.schemaFlags (s : State) : Nat := if s.upd.ckptFlags = 0 then Config.ckptFlags.toNat else s.upd.ckptFlags - 1

/-- R215, R244, R355: the heartbeat; its layout is the model's. -/
def State.heartbeat (s : State) : Bytes :=
  le 1 (s.rdN K.pairRole) ++ le 1 (b2n (s.pow.dormantStep ≠ 0)) ++ le 1 (1 + b2n Config.railGrade) ++ le 1 s.schemaFlags
    ++ le 4 s.pair.held ++ le 4 (s.rdN K.commIdSerial) ++ le 4 (s.rdN K.ckptSchema) ++ le 8 s.pair.epoch
    ++ ([0, 1, 2].flatMap (fun x => le 8 (s.scanNo x))) ++ le 8 (unsigned 8 (s.rd K.scanStepSum))
    ++ (List.range 8).flatMap (fun n => le 12 (s.tb96 n) ++ le 4 (s.rdN (K.tbEra n)) ++ le 1 (s.rdN (K.tbSync n)) ++ le 3 0)

/-- R215: every 250 µs. -/
def execHeartbeatSend (s : State) : Out :=
  .next (only (s.pairRuns && s.rdN K.cwLanes ≠ 0 && s.past s.pair.hbSentAt (250 * us)) (fun s =>
    send Wire.heartbeat s.heartbeat (updPair (fun p => { p with hbSentAt := s.now }) s)) s)

/-- R244: CKPT.TRANSLATION, from both versions and what the newer one's table declares. -/
def translation (own partner flags pFlags : Nat) (receiver : Bool) : Nat :=
  if own = partner then 0
  else
    let f := if partner < own then flags else pFlags
    -- the newer module receives: upward; it sends: downward
    if (partner < own) == receiver then (if bitOf f 0 then 1 else 3) else (if bitOf f 1 then 2 else 3)

/-- R244: the partner's version is known. -/
def schemaFollow (partner pFlags : Nat) (s : State) : State :=
  let own := s.rdN K.ckptSchema
  let new := translation own partner s.schemaFlags pFlags (!(s.activeLike || s.mode = Mode.handover))
  let old := s.rdN K.ckptTranslation
  let s := wrN K.ckptTranslation new (wrN K.ckptPartnerSchema partner s)
  only (new = 3 && old ≠ 3) (raise Ev.schemaMismatch (le 4 own ++ le 4 partner)) s

/-- R246: the whole PAIR-scope dictionary, every Pavilion's program included. -/
def State.pairDict (s : State) : Bytes :=
  let ks := ((s.dict.map (·.1)) ++ (s.blob.map (·.1))).filter (fun k => s.persistent k && !moduleScope (k / 256))
  packValues (ks.map (fun k => (k, s.tableBytes k))
    ++ s.pavs.flatMap (fun e => if e.2.image = [] then [] else [(K.pavProgram e.1, e.2.image), (K.pavDeclare e.1, e.2.declList)])
    ++ s.pavVals.filter (fun e => s.persistent e.1))

/-- A partner has become STANDBY: it is joining, but for one that was in HANDOVER (R243, R246). -/
def partnerJoins (was : Nat) (s : State) : State :=
  if s.pair.pRole = 2 ∧ was ≠ 2 ∧ was ≠ 4 ∧ s.activeLike then
    send Wire.bulk s.pairDict (updPair (fun p => { p with joinDue := true, flight := none }) s)
  else s

/-- R355: the bases that run as PARTNER follow the partner's. -/
def timeFollow (f : Bytes) (s : State) : State :=
  let at_ (n : Nat) : Nat := 56 + 20 * n
  let s := updPair (fun p => { p with pSync := (List.range 8).foldl (fun a n => if byteAt f (at_ n + 16) = 0 then a + 2 ^ n else a) 0 }) s
  syncFollow (each ((List.range 8).filter (fun n => s.runningAs n = 3))
    (fun n => partnerBase n (ofT96 (fieldAt f (at_ n) 12)) (fieldAt f (at_ n + 12) 4)) s)

/-- R213, R216, R227, R229, R244, R355: what a valid heartbeat does. -/
def heartbeatIn (f : Bytes) (s : State) : State :=
  let was := s.pair.pRole
  let role := byteAt f 0
  let g := fieldAt f 4 4
  let serial := fieldAt f 8 4
  let s := updPair (fun p => { p with
    hbAt := some s.now, pRole := role, pEpoch := g, pDormant := bitOf (byteAt f 1) 0
    pScans := [fieldAt f 24 8, fieldAt f 32 8, fieldAt f 40 8]
    requesting := p.requesting && p.cause ≠ 1 }) s
  let s := wrN K.pairPartnerSerial serial (wrN K.pairPartnerGrade (byteAt f 2) (pairStatusBit 0 false s))
  let s := partnerJoins was (schemaFollow (fieldAt f 12 4) (byteAt f 3) s)
  let s := seeEpoch g (if role = 1 ∨ role = 3 ∨ role = 4 then some serial else none) s
  let two := role = 1 && s.activeLike
  let s := only (two && !bitOf (s.rdN K.pairStatus) 3) (fun s => raise Ev.twoActive (le 4 s.pair.held ++ le 4 g) (pairStatusBit 3 true s)) s
  -- a handover that did not come about: the lanes are powered down again
  let s := only (s.pair.prepared && was = 4 && role = 1 && s.mode = Mode.standby) (fun s =>
    lanesDown (updPair (fun p => { p with prepared := false, requesting := false }) s)) s
  pairFollow (roleLogic (timeFollow f s))

/-- R216: a heartbeat arrives; one that is not valid counts as a CRC error. -/
def execHeartbeatReceive (valid : Bool) (f : Bytes) (s : State) : Out :=
  .next (only (s.pairRuns && s.rdN K.cwLanes ≠ 0) (fun s =>
    if valid ∧ f.length = 216 then heartbeatIn f s else inc K.cwCrcErrors U32.max s) s)

/-- R216: no valid heartbeat for 1,000 µs. -/
def execHeartbeatLoss (s : State) : Out :=
  let t := s.pairSince (s.pair.hbAt.getD 0)
  .next (only (s.pairRuns && !bitOf (s.rdN K.pairStatus) 0 && s.past t (1000 * us)) (fun s =>
    let n := (s.now - t) / (250 * us)
    let s := wrN K.cwHbMissed (satAdd U32.max (s.rdN K.cwHbMissed) n) (pairStatusBit 0 true s)
    let s := raise Ev.partnerSuspect (le 4 n) s
    let s := if s.mode = Mode.standby then startRequest 1 s
      else if s.activeLike ∨ s.mode = Mode.handover then dropPartner s else s
    pairFollow s) s)

/-! ### Receiving epochs (R219, R220, R222, R237) -/

/-- R222: the epoch being received is answered with a NAK, and discarded. -/
def epochNak (e : Nat) (s : State) : State := send Wire.control (le 1 3 ++ le 8 e) (updPair (fun p => { p with rx := {} }) s)

/-- A finite binary32 value times 2¹⁴⁹; nothing for the others. -/
def f32Scaled (v : Nat) : Option Int :=
  match f32.read v with
  | .fin s m e => some ((if s then -(m : Int) else (m : Int)) * 2 ^ (e + 149).toNat)
  | _ => none

/-- R237: two raw AI values, in mA, differ by more than `tol` µA. -/
def aiDiffer (tol a b : Nat) : Bool :=
  match f32Scaled a, f32Scaled b with
  | some x, some y => decide ((tol : Int) * 2 ^ 149 < 1000 * ((x - y).natAbs : Int))
  | _, _ => a ≠ b

/-- R237: value of channel `ch` of the inputs of an INPUT record: DI 0–127, AI 128–159. -/
def inputOf (b : Bytes) (ch : Nat) : Nat := if ch < 128 then b2n (mapBit b ch) else fieldAt b (16 + 4 * (ch - 128)) 4

/-- R237: the input agreement test. -/
def inputAgree (mine theirs : Bytes) (s : State) : State :=
  if mine = [] ∨ theirs.length ≠ 144 then s
  else
    let tol := s.rdN K.healthAiTolerance
    let diff := (List.range 160).filter (fun ch =>
      if ch < 128 then inputOf mine ch ≠ inputOf theirs ch else aiDiffer tol (inputOf mine ch) (inputOf theirs ch))
    let again := diff.filter s.pair.differed.contains
    let s := updPair (fun p => { p with differed := diff }) s
    each again (fun ch s => raise Ev.inputDisagree (le 1 ch ++ le 4 (inputOf mine ch) ++ le 4 (inputOf theirs ch))
      (inc K.healthAgreeFails U32.max s)) s

/-- R39: the effect on the partner of a carried write to an entry that has a command of its own, as the ACTIVE module gives
it; nothing for the other entries. A change request or cancel travels in the SYSTEM record (R106, R217). The three keys of a
Pavilion watchdog arrive as one write of one byte when the ACTIVE module has accepted the third. -/
def State.carriedRow (s : State) (k : Nat) (v : Bytes) : Option State :=
  let i := k / 256
  let j := k % 256
  let n := ofLe v
  let c := (i - 0x4C00) / 16
  if k = K.chgRequest ∨ k = K.chgCancel then some s
  else if 0x1E00 ≤ i ∧ i < 0x1E80 ∧ i % 16 = 1 ∧ j = 0 then some (commClear ((i - 0x1E00) / 16) s)
  else if 0x2400 ≤ i ∧ i ≤ 0x2409 ∧ 1 ≤ j ∧ j ≤ 128 then some (eventCfgEffect (128 * (i - 0x2400) + j - 1) n s).2
  else if k = K.scanRealign then some (realignEffect s).2
  else if 0x2800 ≤ i ∧ i ≤ 0x28FF ∧ j = 0x28 then some (only (v.length = 1) (pavWdtStop (i - 0x2800)) s)
  else if 0x2800 ≤ i ∧ i ≤ 0x28FF ∧ j = 0x29 then some (pavWdtEnableEffect (i - 0x2800) s).2
  else if safetyKeys.contains k then some (safetyStagedEffect k v s).2
  else if k = K.safetyFaultAck then some (safetyFaultAckEffect s).2
  else if k = K.safeverConfirm then some (safetyConfirmEffect n s).2
  else if k = K.safeverActivate then some (safetyActivateEffect s).2
  else if k = K.safeverDiscard then some (safetyDiscardEffect s).2
  else if 0x3420 ≤ i ∧ i < 0x342C ∧ j = 8 then some (soutAckEffect (i - 0x3420) s).2
  else if 0x3430 ≤ i ∧ i < 0x3436 ∧ j = 0x11 then some (sgroupAckEffect (i - 0x3430) s).2
  else if 0x4000 ≤ i ∧ i < 0x4080 ∧ j = 8 then some (stageDi (i - 0x4000) (wrN k (n % 2 ^ 32) s))
  else if 0x4080 ≤ i ∧ i < 0x40E0 ∧ j = 0x0A then some (doAckEffect (i - 0x4080) s).2
  else if 0x4200 ≤ i ∧ i < 0x4220 ∧ j = 1 then some (iolModeEffect (i - 0x4200) n s).2
  else if 0x4300 ≤ i ∧ i < 0x4304 ∧ j = 8 then some (adcStartEffect (i - 0x4300) s).2
  else if 0x4330 ≤ i ∧ i < 0x4340 ∧ j = 0x13 then some (aoAckEffect (i - 0x4330) s).2
  else if 0x4340 ≤ i ∧ i < 0x4370 ∧ j = 1 then some (hartEnableEffect (i - 0x4340) n s).2
  else if 0x4900 ≤ i ∧ i < 0x4908 ∧ j = 6 then some (tbStepEffect (i - 0x4900) (signed 8 n) s).2
  else if 0x4900 ≤ i ∧ i < 0x4908 ∧ j = 7 then some (tbSetEffect (i - 0x4900) n s).2
  else if 0x4900 ≤ i ∧ i < 0x4908 ∧ (j = 1 ∨ j = 2 ∨ j = 4) then some (tbSourceEffect (i - 0x4900) j v s).2
  else if 0x4900 ≤ i ∧ i < 0x4908 ∧ j = 9 then some (tbDeclareEffect (i - 0x4900) n s).2
  else if 0x4C00 ≤ i ∧ i < 0x4C80 ∧ i % 16 = 0 ∧ j = 1 then
    some (writeThen k v true Err.ok (if n = 1 then canEnableEffect c false (s.free 1 = 1) else canDisableEffect c) (drawn s)).2
  else if 0x4C00 ≤ i ∧ i < 0x4C80 ∧ i % 16 = 0 ∧ j = 5 then some (canRecoverEffect c s)
  else if 0x5510 ≤ i ∧ i < 0x5514 ∧ 1 ≤ j ∧ j ≤ 64 then some (histTagTableEffect (i - 0x5510) (j - 1) v s).2
  else none

/-- R39, R504: a carried write takes effect as a write of the entry does, unless its section's schema differs. -/
def carriedWrite (w : Nat × Bytes) (s : State) : State :=
  match s.carriedRow w.1 w.2 with
  | some t => if s.schemaDiffers w.1 then s else t
  | none =>
  let t := applyCarried w.1 w.2 s
  let p := w.1 / 256 - 0x2800
  if 0xA00000 ≤ w.1 % 2 ^ 24 ∨ w.1 = K.pavLoad p ∨ w.1 = K.pavRegionArm p ∨ t = s then t
  else afterWrites [w.1] (writeEffect s w.1 t)

/-- R396: the stores of all Pavilions are to be copied from the ACTIVE module. -/
def mirrorStart (s : State) : State :=
  let ps := (List.range 256).filter (fun p => s.rdN (K.quotaStore p) ≠ 0)
  let s := updSto (fun x => { x with incomplete := ps.map (fun p => (p, 1)), newer := [] }) s
  only (ps ≠ []) (fun s => wrN (K.partStoreMirror 4) 1 (each ps (openIntent 5) s)) s

/-- R222, R246: every check has passed: the epoch becomes current and is acknowledged. -/
def epochCurrent (s : State) : State :=
  let r := s.pair.rx
  let f : Flight := { r.f with writes := sysWrites r.f.sys }
  let s := updPair (fun p => { p with
    rx := {}, cur := f, epoch := f.epoch
    ref := if f.join then f.pages else f.pages.foldl (fun t x => Tab.put t x.1 x.2 zeroPage) p.ref }) s
  let s := wrN K.ckptLastBytes f.bytes (wrN K.ckptEpoch f.epoch s)
  let s := each f.writes carriedWrite s
  let s := send Wire.control (le 1 2 ++ le 8 f.epoch) s
  let s := only f.join (inc K.ckptJoins U32.max) s
  let s := only (f.join && s.pair.dictReceived && !s.pair.joined) (fun s =>
    let s := mirrorStart (updPair (fun p => { p with joined := true }) s)
    raise Ev.joinComplete (le 4 f.pages.length ++ le 4 (min U32.max ((s.now - s.pair.joinAt) / ms))) s) s
  let s := inputAgree r.mine r.input s
  let s := pairFollow s
  -- R243
  only (sysFinal f.sys) (startRequest 3) s

/-- R219: a record is whole: its LENGTH and its CRC agree with it. -/
def recordOk (f : Bytes) : Bool := f.length = fieldAt f 2 2 + 20 && crc32c (f.take (f.length - 4)) = fieldAt f (f.length - 4) 4

/-- A record of the epoch being received is taken in. -/
def rxTake (f : Bytes) (g : Flight → Flight) (s : State) : State :=
  updPair (fun p => { p with rx := { p.rx with
    f := { g p.rx.f with bytes := p.rx.f.bytes + f.length }, crcs := p.rx.crcs ++ recordCrc f } }) s

/-- R219, R222: BEGIN. -/
def rxBegin (f body : Bytes) (e : Nat) (s : State) : State :=
  let join := bitOf (byteAt f 1) 0
  let s := schemaFollow (fieldAt body 34 4) (if s.rdN K.ckptTranslation = 1 then 1 else if s.rdN K.ckptTranslation = 2 then 2 else 0) s
  if !join ∧ e ≠ s.pair.cur.epoch + 1 then epochNak e s
  else
    let fl : Flight := { epoch := e, join := join, covered := fieldAt body 32 2, stepSum := signed 8 (fieldAt body 24 8)
                         scans := [fieldAt body 0 8, fieldAt body 8 8, fieldAt body 16 8], own := s.pair.ownScans }
    rxTake f id (updPair (fun p => { p with rx := { active := true, f := fl, mine := p.latched } }) s)

/-- R219 to R222: one record. -/
def epochRecordIn (f : Bytes) (s : State) : State :=
  let ty := byteAt f 0
  let e := fieldAt f 8 8
  let body := slice f 16 (fieldAt f 2 2)
  let r := s.pair.rx
  let s := wrN K.cwRxBytes ((s.rdN K.cwRxBytes + f.length) % 2 ^ 64) s
  if !recordOk f then (if r.active then epochNak r.f.epoch s else only (ty = 1) (epochNak e) s)
  else if ty = 1 then rxBegin f body e s
  else if !r.active then s
  else if e ≠ r.f.epoch then epochNak r.f.epoch s
  else if ty = 2 then
    let page := fieldAt f 4 4
    match decodePage body (if r.f.join then zeroPage else Tab.get s.pair.ref page zeroPage) with
    | none => epochNak e s
    | some b =>
      let s := updPair (fun p => { p with rx := { p.rx with count := p.rx.count + 1 } }) s
      rxTake f (fun x => { x with pages := Tab.put x.pages page b [] }) s
  else if ty = 3 then rxTake f (fun x => { x with sys := body }) s
  else if ty = 6 then rxTake f id (updPair (fun p => { p with rx := { p.rx with input := body } }) s)
  else if ty = 5 then updPair (fun p => { p with rx := {} }) s
  else if ty = 4 then
    if fieldAt body 0 4 = r.count ∧ fieldAt body 4 4 = crc32c r.crcs then
      epochCurrent (updPair (fun p => { p with rx := { p.rx with f := { p.rx.f with bytes := p.rx.f.bytes + f.length } } }) s)
    else epochNak e s
  else rxTake f id s

/-- R222: a STANDBY module receives a record. -/
def execEpochRecordReceive (f : Bytes) (s : State) : Out :=
  .next (only (s.pairRuns && s.mode = Mode.standby && s.rdN K.cwState ≠ 0 && 20 ≤ f.length) (epochRecordIn f) s)

/-! ### Answers to epochs (R39, R222) -/

/-- The epoch in flight, where the answer names it. -/
def State.flightOf (s : State) (e : Nat) : Option Flight := s.pair.flight.filter (fun f => f.epoch = e)

/-- R222, R39: the partner holds epoch e: its pages are the reference image, and the answers that waited are given. -/
def execEpochAckReceive (e : Nat) (s : State) : Out :=
  .next (match (if s.pairRuns then s.flightOf e else none) with
    | none => s
    | some f =>
      let s := updPair (fun p => { p with
        flight := none, cur := f, joinDue := p.joinDue && !f.join
        ref := if f.join then f.pages else f.pages.foldl (fun t x => Tab.put t x.1 x.2 zeroPage) p.ref }) s
      let s := only f.join (inc K.ckptJoins U32.max) (wrN K.ckptEpoch f.epoch s)
      pairFollow (payOwed e s))

/-- R222: the partner refuses epoch e. -/
def execEpochNakReceive (e : Nat) (s : State) : Out :=
  .next (match (if s.pairRuns then s.flightOf e else none) with
    | none => s
    | some f => raise Ev.epochAbandoned (le 8 e ++ le 1 2) (epochLost f s))

/-- R222: no answer within 10 ms. -/
def execEpochAckTimeout (s : State) : Out :=
  .next (match s.pair.flight with
    | none => s
    | some f => only (s.pairRuns && s.past f.sentAt (10 * ms)) (epochLost f) s)

/-! ### Checkpoints (R223, R397) -/

/-- R219, R397: the records of a checkpoint, coded against zeros. -/
def ckRecords (f : Flight) (schema : Nat) : Bytes :=
  let rs := [epochRecord 1 1 0 f.epoch (beginBody f schema)]
    ++ f.pages.map (fun x => epochRecord 2 0 x.1 f.epoch (encodePage x.2 zeroPage)) ++ [epochRecord 3 0 0 f.epoch f.sys]
  rs.flatten ++ epochRecord 4 0 0 f.epoch (le 4 f.pages.length ++ le 4 (crc32c (rs.flatMap recordCrc)))

/-- R223: what a full checkpoint holds: the current epoch of a STANDBY module, or, of an ACTIVE module without a STANDBY
partner, an epoch closed now. -/
def State.ckptEpochNow (s : State) : Option Flight :=
  if s.pairOp && s.mode = Mode.standby then (if s.pair.cur.epoch = 0 then none else some { s.pair.cur with pages := s.pair.ref })
  else if s.activeLike && !s.mirrors then
    some { epoch := s.pair.epoch + 1, pages := s.scope.map (fun g => (g, s.pageBytes g)), covered := s.pair.covered
           scans := [s.scanNo 0, s.scanNo 1, s.scanNo 2], stepSum := s.rd K.scanStepSum, sys := s.sysBody false }
  else none

/-- R397: the slots held: 64 bytes and the records of each. -/
def ckUsed (s : State) : State :=
  wrN (K.partUsed 1) ((s.sto.slots.map (fun e => if e.2.valid then 64 + fieldAt e.2.head 28 4 else 0)).foldl (· + ·) 0) s

/-- R223, R397: a full checkpoint begins in the slot that does not hold the newer valid one. -/
def ckptStart (f : Flight) (s : State) : State :=
  let code := s.writeCode 1
  if code ≠ Err.ok then raise Ev.nandCheckpointFailed (le 2 code) s
  else
    let j := s.freeSlot
    let schema := s.rdN K.ckptSchema
    let c : CkSlot := { valid := true, head := ckHeader schema f.epoch (s.tb96 3) (ckRecords f schema).length
                        pages := f.pages, sys := f.sys, scans := f.scans }
    let s := openIntent 4 j (updSto (fun x => { x with
      writing := some (j, c), slots := Tab.put x.slots j { Tab.get x.slots j {} with valid := false } {} }) s)
    ckUsed (updPair (fun p => { p with epoch := max p.epoch f.epoch }) s)

/-- R223, R397: the interval has elapsed; a checkpoint still being written is completed, and this one is skipped. -/
def execNandCheckpointDue (s : State) : Out :=
  let n := s.rdN K.ckptNandInterval
  .next (only (n ≠ 0 && s.ghRuns && !s.pow.flushing && s.past (s.pairSince s.pair.ckptAt) (n * (1000 * ms))) (fun s =>
    match s.ckptEpochNow with
    | none => s
    | some f =>
      let s := updPair (fun p => { p with ckptAt := s.now }) s
      if s.sto.writing.isSome then s else ckptStart f s) s)

/-- R397: the write ends; a failed one leaves its slot invalid. -/
def execCheckpointWriteComplete (ok : Bool) (s : State) : Out :=
  .next (match s.sto.writing with
    | none => s
    | some (j, c) =>
      let s := closeIntent 4 j (updSto (fun x => { x with writing := none }) s)
      if ok then
        let s := updSto (fun x => { x with slots := Tab.put x.slots j c {} }) s
        let n := 64 + fieldAt c.head 28 4
        ckUsed (wrN (K.partWritten 1) (s.rdN (K.partWritten 1) + n) (wrN K.ckptNandLast (fieldAt c.head 16 12) s))
      else raise Ev.nandCheckpointFailed (le 2 Err.hardware) s)

/-! ### The referee (R225 to R227) -/

/-- R225: the checks a frame of `body` bytes must pass; `mac`: its MAC is correct. -/
def State.refFrameOk (s : State) (path : Nat) (f : Bytes) (mac : Bool) (body : Nat) : Bool :=
  let n := 12 + body + (if path = 0 then 16 else 0)
  fieldAt f 2 2 = body && f.length = n + 4 && crc32c (f.take n) = fieldAt f n 4 && (path ≠ 0 || mac) && s.pair.rxSeq < fieldAt f 4 8

/-- R225, R226: a frame can arrive on the path: it is selected, and REF_RX is not stuck. -/
def State.refPath (s : State) (path : Nat) : Bool :=
  path < 2 && bitOf (s.rdN K.refPaths) path && !(path = 0 && s.on K.refLineStuck)

/-- R226: EV 0454 with the state of the referee. -/
def refereeTo (st : Nat) (s : State) : State :=
  let s := wrN K.refState st s
  raiseSev Ev.refereeState (le 1 st ++ le 1 (s.rdN K.refPaths) ++ le 1 (s.rdN K.refLineStuck)) (if st = 1 then 4 else 2) s

/-- R226: a valid frame has arrived. -/
def refereeHeard (f : Bytes) (s : State) : State :=
  let s := updPair (fun p => { p with refAt := some s.now, rxSeq := fieldAt f 4 8 }) s
  only (s.rdN K.refState = 1) (refereeTo 0) s

/-- R227: a GRANT: its holder, its epoch and the age of the frame its ECHO names. -/
def grantIn (f : Bytes) (s : State) : State :=
  let h := fieldAt f 12 4
  let g := fieldAt f 16 4
  let echo := fieldAt f 20 8
  let s := refereeHeard f s
  let s := only (h = s.rdN K.commIdSerial) (updPair (fun p => { p with
    grHolder := h, grEpoch := g, grEcho := (p.sent.find? (fun e => e.1 = echo)).map (·.2) })) s
  pairFollow (roleLogic (seeEpoch g (some h) s))

/-- R225, R227: a GRANT frame arrives. -/
def execRefGrantReceive (path : Nat) (f : Bytes) (mac : Bool) (s : State) : Out :=
  .next (only (s.pairRuns && s.refPath path && byteAt f 0 = 0xA5 && byteAt f 1 = 1) (fun s =>
    if s.refFrameOk path f mac 16 then grantIn f s else inc K.refFramesBad U32.max s) s)

/-- R225: a DENY frame arrives. -/
def execRefDenyReceive (path : Nat) (f : Bytes) (mac : Bool) (s : State) : Out :=
  .next (only (s.pairRuns && s.refPath path && byteAt f 0 = 0xA5 && byteAt f 1 = 2) (fun s =>
    if s.refFrameOk path f mac 12 then
      let g := fieldAt f 16 4
      let s := inc K.refDenies U32.max (refereeHeard f s)
      roleLogic (seeEpoch g none (raise Ev.refereeDeny (le 1 (byteAt f 20) ++ le 4 g) s))
    else inc K.refFramesBad U32.max s) s)

/-- R226: STATUS, every 1 ms. -/
def execRefStatusSend (s : State) : Out :=
  .next (only (s.pairRuns && s.past s.pair.statusAt ms) (fun s =>
    refSend 0x10 s.statusBody (updPair (fun p => { p with statusAt := s.now }) s)) s)

/-- R226: REQUEST, every 1 ms while its condition lasts. -/
def execRefRequestSend (s : State) : Out :=
  .next (only (s.pairRuns && s.mode = Mode.standby && s.pair.requesting && s.past s.pair.reqSentAt ms) (fun s =>
    refSend 0x11 s.statusBody (updPair (fun p => { p with reqSentAt := s.now }) s)) s)

/-- R226: no valid frame on any selected path for 50 ms. -/
def execRefereeLost (s : State) : Out :=
  .next (only (s.pairRuns && s.rdN K.refState = 0 && s.past (s.pair.refAt.getD 0) (50 * ms)) (fun s => pairFollow (refereeTo 1 s)) s)

/-- R226: REF_RX has stayed low for `held` µs. -/
def execRefLineStuck (held : Nat) (s : State) : Out :=
  .next (only (s.pairRuns && 1000 < held && !s.on K.refLineStuck) (wrB K.refLineStuck true) s)

/-- R226: REF_RX has been high for `held` µs. -/
def execRefLineRelease (held : Nat) (s : State) : Out :=
  .next (only (s.pairRuns && 1000 ≤ held && s.on K.refLineStuck) (wrB K.refLineStuck false) s)

/-- R227: every 250 µs. -/
def execRoleLogicTick (s : State) : Out := .next (only s.pairRuns roleLogic s)

/-- R428: start-up completes: the first operating mode. -/
def execFirstOperatingMode (s : State) : Out := .next (only s.ghRuns firstMode s)

/-- R469: a valid GRANT that names the module arrives on the REF lines of a module in DORMANT. -/
def execWakeReferee (f : Bytes) (mac : Bool) (s : State) : Out :=
  .next (only (s.wakeArmed 4 && byteAt f 0 = 0xA5 && byteAt f 1 = 1 && s.refFrameOk 0 f mac 16
    && fieldAt f 12 4 = s.rdN K.commIdSerial) (wakeUp 4 0) s)

/-! ### Takeover (R226, R230 to R232) -/

/-- R230, R226: the partner asks for a takeover. -/
def execPartnerTakeoverRequest (manual : Bool) (s : State) : Out :=
  .next (only (s.pairRuns && s.mode = Mode.standby && s.rdN K.cwState ≠ 0) (startRequest (if manual then 4 else 2)) s)

/-- R231: the PLLs have locked and the lanes are up, or power-up fails with `fault`. -/
def execTakeoverLanesUp (ok : Bool) (fault : Nat) (s : State) : Out :=
  .next (only (s.mode = Mode.takeover && s.pair.step = 1) (fun s =>
    if ok then updPair (fun p => { p with step := 2 }) (lanesUp s) else takeoverFail 1 fault s) s)

/-- R232: the restore has completed, or fails with `fault`. -/
def execTakeoverRestoreComplete (ok : Bool) (fault : Nat) (s : State) : Out :=
  .next (only (s.mode = Mode.takeover && s.pair.step = 2) (fun s =>
    if ok then updPair (fun p => { p with step := 3 }) (restoreEpoch s) else takeoverFail 2 fault s) s)

/-! ### Self-tests and health (R237 to R239) -/

/-- R237, R170: a lane of a Trestle passes the BIST of STANDBY. -/
def bistPass (n : Nat) (s : State) : State :=
  let s := wrN (K.laneLastBist n) (s.tb96 3) (inc (K.laneBistCount n) U32.max s)
  updPl n (fun x => { x with consecFails := 0, lastBistTb4 := s.now }) s

/-- R237, R170, R172: lane n at position k of Trestle t fails it; a retired lane's place is taken by a spare. -/
def bistFail (t k n part addr : Nat) (s : State) : State :=
  let s := updPl n (fun x => { x with consecFails := x.consecFails + 1 }) (inc (K.laneBistFails n) U16.max s)
  let s := raise (Ev.laneBistFailed n) (le 1 n ++ le 1 part ++ le 8 addr) s
  if (s.pl n).consecFails < s.rdN K.spareBistLimit then s
  else
    let s := setLaneAt t k 0xFF (unplaceLane n (retireLane n 1 s))
    match (s.lanesIn Rl.spare).head? with
    | some m => placeLane m t k (setRole m Rl.down s)
    | none => wrN (K.trestleFailCause t) 4 (trTo t Tr.failed s)

/-- R237: the BIST of the three lanes of Trestle t ends; `bad`: bit k, the lane at position k fails in `part` at `addr`. -/
def execStandbyTrestleBist (t bad part addr : Nat) (s : State) : Out :=
  .next (only (s.pairRuns && s.mode = Mode.standby && t = s.pair.bistTrestle && !s.pair.prepared
      && s.past (s.pairSince s.pair.bistAt) (s.rdN K.healthTestInterval * (1000 * ms))) (fun s =>
    let s := each ((List.range 3).filter (fun k => s.laneAt t k < 15)) (fun k s =>
      if bitOf bad k then bistFail t k (s.laneAt t k) part addr s else bistPass (s.laneAt t k) s) s
    let s := if bad % 8 = 0 then
        updPair (fun p => { p with bistBad := p.bistBad.filter (· ≠ t), bistTrestle := (t + 1) % 4, bistAt := s.now }) s
      else raise Ev.standbyTestFailed (le 1 1 ++ le 1 t) (updPair (fun p => { p with bistBad := t :: p.bistBad.filter (· ≠ t) }) s)
    pairFollow s) s)

/-- R237: the store has been scrubbed; `errs` words could not be corrected. -/
def execStoreScrub (errs : Nat) (s : State) : Out :=
  .next (only (s.pairRuns && s.mode = Mode.standby && s.past (s.pairSince s.pair.scrubAt) (10000 * ms)) (fun s =>
    let s := updPair (fun p => { p with scrubAt := s.now }) s
    only (errs ≠ 0) (raise Ev.standbyTestFailed (le 1 3 ++ le 1 0)) s) s)

/-- R239: the health word goes to the partner and to the referee every 100 ms. -/
def execHealthWordSend (s : State) : Out :=
  .next (only (s.pairRuns && s.past s.pair.healthAt (100 * ms)) (fun s =>
    let s := pairFollow (updPair (fun p => { p with healthAt := s.now }) s)
    let w := s.healthWord
    refSend 0x12 w (send Wire.health w (wrBlob K.healthOwn w s))) s)

/-- R239: the partner's health word. -/
def execHealthWordReceive (f : Bytes) (s : State) : Out :=
  .next (only (s.pairRuns && s.rdN K.cwState ≠ 0 && f.length = 32) (fun s =>
    pairFollow (updPair (fun p => { p with pReady := bitOf (byteAt f 0) 0 }) (wrBlob K.healthPartner f s))) s)

/-! ### Handover (R242, R243, R213) -/

/-- R243: PREPARE: the STANDBY module powers its lanes and loads I-TCM. -/
def execHandoverPrepareReceive (s : State) : Out :=
  .next (only (s.pairRuns && s.mode = Mode.standby && s.rdN K.cwState ≠ 0) (fun s =>
    each (List.range 4) reloadTcm (lanesUp (updPair (fun p => { p with prepared := true }) s))) s)

/-- R243: the boundary B_s. -/
def execHandoverSwapBoundary (s : State) : Out :=
  .next (only (s.swapDue s.fastestOn && s.boundaryDue s.fastestOn) (boundary s.fastestOn) s)

/-- R213: no grant for the partner within 20 ms of B_s: dispatch resumes at the next boundary. -/
def execHandoverGrantTimeout (s : State) : Out :=
  .next (only (s.mode = Mode.handover && s.pair.swapAt.any (fun t => s.past t (20 * ms))) (fun s =>
    let s := setMode Mode.active 27 (updPair (fun p => { p with swapAt := none, finalDue := false }) s)
    fieldFollow (raise Ev.handoverFailed (le 1 2) (wrN K.paircmdHandoverState 4 s))) s)

/-! ### Joining (R246, R504) -/

/-- R504: bit n for each PAIR-scope section whose schema differs from the partner's; `schemas`: U32 for each section. -/
def State.schemaDiff (s : State) (schemas : Bytes) : Nat :=
  (List.range 23).foldl (fun a n =>
    if ([1, 2, 3, 4, 11, 16, 19, 22] : List Nat).contains n ∨ fieldAt schemas (4 * n) 4 = s.rdN (K.dictSectionSchema n) then a else a + 2 ^ n) 0

/-- R246, R504: the partner's persistent PAIR-scope values replace the module's own in each section whose schema agrees. -/
def joinDict (f schemas : Bytes) (s : State) : State :=
  let diff := s.schemaDiff schemas
  let s := wrN K.updPrepared (s.rdN K.updPrepared &&& diff) (wrN K.updSchemaDiff diff s)
  let takes (k : Nat) : Bool := match sectionOf (k % 2 ^ 24 / 256) with
    | some n => !bitOf diff n && !moduleScope (k % 2 ^ 24 / 256)
    | none => false
  let vals := (unpackValues f.length f).filter (fun e => takes e.1)
  let prog (k : Nat) : Bool := 0x2800 ≤ k / 256 && k / 256 ≤ 0x28FF && (k = K.pavProgram (k / 256 - 0x2800) || k = K.pavDeclare (k / 256 - 0x2800))
  let of (k : Nat) : Bytes := ((vals.find? (fun e => e.1 = k)).map (·.2)).getD []
  let old := s
  let gone := (((s.dict.map (·.1)) ++ (s.blob.map (·.1))).filter (fun k => takes k && s.persistent k))
  let plain := vals.filter (fun e => e.1 < 2 ^ 24 && !prog e.1)
  let s := { s with dict := s.dict.filter (fun e => !gone.contains e.1), blob := s.blob.filter (fun e => !gone.contains e.1)
                    pavVals := s.pavVals.filter (fun e => !s.persistent e.1) }
  let s := each plain (fun e => putBytes e.1 e.2) s
  -- R246: the programs are loaded into DRAM
  let s := if bitOf diff 8 then s else each (List.range 256) (fun p s =>
    let image := of (K.pavProgram p)
    if image ≠ [] then loadProgram p image (of (K.pavDeclare p)) s
    else only ((s.pav p).image ≠ []) (unloadProgram p) s) s
  let s := each (vals.filter (fun e => 2 ^ 24 ≤ e.1)) (fun e s =>
    match s.decl (e.1 / 2 ^ 24) (e.1 % 2 ^ 24 / 256) (e.1 % 256) with
    | some d => only d.persistent (fun s => journalKey e.1 { s with pavVals := Tab.put s.pavVals e.1 e.2 d.dflt }) s
    | none => s) s
  let ks := (gone ++ plain.map (·.1)).eraseDups.filter (fun k => old.tableBytes k ≠ s.tableBytes k)
  let s := each ks journalKey s
  let s := each ks (fun k s => restoredRow old k (writeEffect old k s)) s
  let s := each (List.range 256) (fun p s => if s.rdN (K.pavRegionArm p) = 1 then armTable p s else only (s.armed p) (disarmTable p) s) s
  let s := only (ks.any safetyKeys.contains) stagedChanged s
  afterWrites ks s

/-- R246: the PAIR-scope dictionary has arrived over BULK; a JOIN epoch is asked for. -/
def execJoinDictReceived (f schemas : Bytes) (s : State) : Out :=
  .next (only (s.pairRuns && s.mode = Mode.standby && s.rdN K.cwState ≠ 0) (fun s =>
    let s := joinDict f schemas s
    pairFollow (send Wire.control (le 1 6) (updPair (fun p => { p with dictReceived := true }) s))) s)

end Sys2Proof.Machine
end

