-- ==== Sys2Proof/Machine/Sdo.lean ====
section
/-! DEFINITION. The CiA 301 SDO servers of the CAN controllers: expedited, segmented and block transfers (R56, R57, R63). -/

namespace Sys2Proof.Machine

def State.sdoOf (s : State) (c : Nat) : Sdo := Tab.get s.sdo c {}
def updSdo (c : Nat) (f : Sdo → Sdo) (s : State) : State := { s with sdo := Tab.upd s.sdo c {} f }
def clearSdo (c : Nat) (s : State) : State := { s with sdo := Tab.put s.sdo c {} {} }

/-- R57: the offset k of an index of the bus view within a controller's block at 0x1E00. -/
def commOffset (i : Nat) : Option Nat :=
  (([(0x1001, 0), (0x1003, 1), (0x1005, 2), (0x1006, 3), (0x1014, 4), (0x1015, 5), (0x1016, 6), (0x1017, 7), (0x1019, 8), (0x1200, 9)]
    : List (Nat × Nat)).find? (fun e => e.1 = i)).map (·.2)

/-- R57: the dictionary index of an index of the bus view of controller c. -/
def busIndex (c i : Nat) : Option Nat :=
  match commOffset i with
  | some k => some (0x1E00 + 16 * c + k)
  | none =>
    if (0x1400 ≤ i ∧ i < 0x1440) ∨ (0x1600 ≤ i ∧ i < 0x1640) ∨ (0x1800 ≤ i ∧ i < 0x1840) ∨ (0x1A00 ≤ i ∧ i < 0x1A40) then some (i + 64 * c)
    else if ([0x1000, 0x1008, 0x1009, 0x100A, 0x1018] : List Nat).contains i ∨ (0x2000 ≤ i ∧ i ≤ 0x5FFF) then some i
    else none

/-- R63: the abort code of a refusal. -/
def abortOf (e : Nat) : Nat :=
  if e = Err.unknownIndex then 0x06020000
  else if e = Err.unknownSub then 0x06090011
  else if e = Err.readDenied then 0x06010001
  else if e = Err.writeDenied then 0x06010002
  else if e = Err.roleDenied ∨ e = Err.scopeDenied then 0x06010000
  else if e = Err.value then 0x06090030
  else if e = Err.length then 0x06070010
  else if e = Err.state then 0x08000022
  else if e = Err.locked then 0x08000020
  else if e = Err.busy then 0x08000021
  else if e = Err.hardware then 0x06060000
  else if e = Err.storeFull then 0x05040005
  else 0x05040001

/-- R56: the server of controller c answers: the controller is on its bus and not restricted, and its NMT state has SDO. -/
def State.sdoServes (s : State) (c : Nat) : Bool :=
  c < 8 && s.ghRuns && s.dictReady && s.canHears c && !s.restricted
    && (s.rdN (K.canNmtState c) = Nmt.preop || s.rdN (K.canNmtState c) = Nmt.operational)

/-- A response frame of 8 bytes. -/
def sdoSend (c : Nat) (b : Bytes) (s : State) : State := sysSend c (0x580 + s.rdN (K.canNodeId c)) (padTo 8 b) none 0 s

/-- The transfer ends with an abort. -/
def sdoAbort (c i j code : Nat) (s : State) : State := sdoSend c (le 1 0x80 ++ le 2 i ++ le 1 j ++ le 4 code) (clearSdo c s)

/-- R56: a new transfer abandons the one in progress. -/
def sdoNew (c : Nat) (s : State) : State :=
  let x := s.sdoOf c
  if x.kind = 0 then s else sdoAbort c x.idx x.sub 0x05040001 s

/-- A frame belongs to the transfer in progress. -/
def sdoTouch (c : Nat) (s : State) : State := updSdo c (fun x => { x with lastActivity := s.now }) s

/-- An entry is read in the bus view of controller c: the code, and the value. -/
def State.sdoRead (s : State) (c i j : Nat) : Nat × Bytes :=
  match busIndex c i, s.caller (.sdo c) with
  | some k, some who =>
    let r := s.readItem (.sdo c) who k j 0
    (r.1, r.2.2)
  | _, _ => (Err.unknownIndex, [])

/-- An entry is written in the bus view; `done` is the response, which may wait for an epoch (R39). During a flush the write of
a persistent entry waits, and the frame `f` that completes it (R398). -/
def sdoWrite (c i j : Nat) (v done f : Bytes) (s : State) : State :=
  match busIndex c i with
  | none => sdoAbort c i j 0x06020000 s
  | some k =>
    if s.holds (.sdo c) [256 * k + j] then (if s.sto.heldFrames.any (·.1 = 3000 + c) then s else holdFrame (3000 + c) f s)
    else
      let n := s.pair.owed.length
      let r := writeOutcome (.sdo c) k j v (clearSdo c s)
      if r.1 ≠ Err.ok then sdoAbort c i j (abortOf r.1) r.2
      else if n < r.2.pair.owed.length then oweFrame n (Wire.sdo c) (padTo 8 done) r.2
      else sdoSend c done r.2

/-! ### Transfers -/

/-- An upload is initiated: expedited for 1 to 4 bytes, else segmented. -/
def sdoUpload (c : Nat) (f : Bytes) (s : State) : State :=
  let i := fieldAt f 1 2
  let j := byteAt f 3
  let s := sdoNew c s
  let r := s.sdoRead c i j
  let v := r.2
  if r.1 ≠ Err.ok then sdoAbort c i j (abortOf r.1) s
  else if 1 ≤ v.length ∧ v.length ≤ 4 then sdoSend c (le 1 (0x43 + 4 * (4 - v.length)) ++ le 2 i ++ le 1 j ++ v) s
  else
    let s := updSdo c (fun _ => { kind := 1, idx := i, sub := j, data := v, size := v.length, lastActivity := s.now }) s
    sdoSend c (le 1 0x41 ++ le 2 i ++ le 1 j ++ le 4 v.length) s

/-- Bytes an expedited download carries: as it says, or the size of the entry. -/
def expedited (c i j : Nat) (f : Bytes) : Bytes :=
  let b := byteAt f 0
  let n := if bitOf b 0 then 4 - bits b 3 2
    else match (busIndex c i).bind (fun k => tableEntry k j) with
      | some x => min 4 x.size
      | none => 4
  slice f 4 n

/-- A download is initiated: expedited, or segmented. -/
def sdoDownload (c : Nat) (f : Bytes) (s : State) : State :=
  let i := fieldAt f 1 2
  let j := byteAt f 3
  let b := byteAt f 0
  let s := sdoNew c s
  if bitOf b 1 then sdoWrite c i j (expedited c i j f) (le 1 0x60 ++ le 2 i ++ le 1 j) f s
  else
    -- the size, where it is indicated, plus 1
    let s := updSdo c (fun _ => { kind := 2, idx := i, sub := j, size := if bitOf b 0 then fieldAt f 4 4 + 1 else 0, lastActivity := s.now }) s
    sdoSend c (le 1 0x60 ++ le 2 i ++ le 1 j) s

/-- A segment of a segmented transfer, or a client's abort. -/
def sdoSegment (c : Nat) (f : Bytes) (s : State) : State :=
  let x := s.sdoOf c
  let b := byteAt f 0
  let t := b2n x.toggle
  if b / 32 = 4 then clearSdo c s
  else if x.kind = 1 ∧ b / 32 = 3 then
    if bitOf b 4 ≠ x.toggle then sdoAbort c x.idx x.sub 0x05030000 s
    else
      let seg := (x.data.drop x.offset).take 7
      let last := decide (x.data.length ≤ x.offset + 7)
      let s := if last then clearSdo c s
        else sdoTouch c (updSdo c (fun x => { x with toggle := !x.toggle, offset := x.offset + 7 }) s)
      sdoSend c (le 1 (16 * t + 2 * (7 - seg.length) + b2n last) ++ seg) s
  else if x.kind = 2 ∧ b / 32 = 0 then
    if bitOf b 4 ≠ x.toggle then sdoAbort c x.idx x.sub 0x05030000 s
    else
      let data := x.data ++ slice f 1 (7 - bits b 3 1)
      let done := le 1 (0x20 + 16 * t)
      if bitOf b 0 then
        if x.size ≠ 0 ∧ data.length + 1 ≠ x.size then sdoAbort c x.idx x.sub 0x06070010 s
        else sdoWrite c x.idx x.sub data done f s
      else sdoSend c done (sdoTouch c (updSdo c (fun x => { x with toggle := !x.toggle, data := data }) s))
  else sdoAbort c x.idx x.sub 0x05040001 s

/-- The segments of one block of an upload are sent, from the byte acknowledged. -/
def sdoBlock (c : Nat) (s : State) : State :=
  let x := s.sdoOf c
  let left := x.data.length - x.offset
  let n := min x.blksize (max 1 ((left + 6) / 7))
  let s := updSdo c (fun x => { x with seqno := n, phase := 1 }) s
  each (List.range n) (fun m s =>
    let last := decide (x.data.length ≤ x.offset + 7 * (m + 1))
    sdoSend c (le 1 (m + 1 + 128 * b2n last) ++ (x.data.drop (x.offset + 7 * m)).take 7) s) s

/-- CRC-16/CCITT, initial value 0, over the data of a block transfer. -/
def sdoCrc (b : Bytes) : Nat := crc16 0 b

/-- A frame of a block upload: initiation, start, acknowledgement of a block, or end. -/
def sdoBlockUpload (c : Nat) (f : Bytes) (s : State) : State :=
  let x := s.sdoOf c
  let b := byteAt f 0
  let cs := b % 4
  if b / 32 = 4 then clearSdo c s
  else if b / 32 ≠ 5 then sdoAbort c x.idx x.sub 0x05040001 s
  else if cs = 0 then
    let i := fieldAt f 1 2
    let j := byteAt f 3
    let blk := byteAt f 4
    let s := sdoNew c s
    let r := s.sdoRead c i j
    if r.1 ≠ Err.ok then sdoAbort c i j (abortOf r.1) s
    else if blk < 1 ∨ 127 < blk then sdoAbort c i j 0x05040002 s
    else
      -- `toggle` keeps whether the client checks the CRC
      let s := updSdo c (fun _ => { kind := 3, idx := i, sub := j, data := r.2, size := r.2.length, blksize := blk, toggle := bitOf b 2
                                    lastActivity := s.now }) s
      sdoSend c (le 1 0xC6 ++ le 2 i ++ le 1 j ++ le 4 r.2.length) s
  else if x.kind ≠ 3 then sdoAbort c x.idx x.sub 0x05040001 s
  else
    let s := sdoTouch c s
    if cs = 3 ∧ x.phase = 0 then sdoBlock c s
    else if cs = 2 ∧ x.phase = 1 then
      let ack := byteAt f 1
      let blk := byteAt f 2
      if x.seqno < ack then sdoAbort c x.idx x.sub 0x05040003 s
      else if blk < 1 ∨ 127 < blk then sdoAbort c x.idx x.sub 0x05040002 s
      else
        let off := min x.data.length (x.offset + 7 * ack)
        if x.data.length ≤ off ∧ (0 < ack ∨ x.data ≠ []) then
          let n := if x.data = [] then 7 else (7 - x.data.length % 7) % 7
          let crc := if x.toggle then sdoCrc x.data else 0
          sdoSend c (le 1 (0xC1 + 4 * n) ++ le 2 crc) (updSdo c (fun x => { x with phase := 2, offset := off }) s)
        else sdoBlock c (updSdo c (fun x => { x with offset := off, blksize := blk }) s)
    else if cs = 1 ∧ x.phase = 2 then clearSdo c s
    else sdoAbort c x.idx x.sub 0x05040001 s

/-- A frame of a block download: initiation, a segment of a block, or end. -/
def sdoBlockDownload (c : Nat) (f : Bytes) (s : State) : State :=
  let x := s.sdoOf c
  let b := byteAt f 0
  if x.kind = 4 ∧ x.phase = 1 ∧ b ≠ 0x80 then
    let s := sdoTouch c s
    let no := b % 128
    let good := decide (no = x.seqno + 1)
    let data := if good then x.data ++ slice f 1 7 else x.data
    let seq := if good then no else x.seqno
    let last := bitOf b 7
    let s := updSdo c (fun x => { x with data := data, seqno := seq }) s
    if last ∨ x.blksize ≤ no then
      let isOver := last && good
      let s := updSdo c (fun x => { x with seqno := 0, phase := if isOver then 2 else 1 }) s
      sdoSend c (le 1 0xA2 ++ le 1 seq ++ le 1 127) (updSdo c (fun x => { x with blksize := 127 }) s)
    else s
  else if b / 32 = 4 then clearSdo c s
  else if b / 32 ≠ 6 then sdoAbort c x.idx x.sub 0x05040001 s
  else if !bitOf b 0 then
    let i := fieldAt f 1 2
    let j := byteAt f 3
    let s := sdoNew c s
    let s := updSdo c (fun _ => { kind := 4, idx := i, sub := j, phase := 1, blksize := 127, toggle := bitOf b 2
                                  size := if bitOf b 1 then fieldAt f 4 4 + 1 else 0, lastActivity := s.now }) s
    sdoSend c (le 1 0xA4 ++ le 2 i ++ le 1 j ++ le 1 127) s
  else if x.kind ≠ 4 ∨ x.phase ≠ 2 then sdoAbort c x.idx x.sub 0x05040001 s
  else
    let data := x.data.take (x.data.length - bits b 4 2)
    if x.toggle ∧ sdoCrc data ≠ fieldAt f 1 2 then sdoAbort c x.idx x.sub 0x05040004 s
    else if x.size ≠ 0 ∧ data.length + 1 ≠ x.size then sdoAbort c x.idx x.sub 0x06070010 s
    else sdoWrite c x.idx x.sub data (le 1 0xA1) f (sdoTouch c s)

/-! ### The commands -/

/-- An SDO frame of 8 bytes reaches the server of controller c. -/
def sdoFrame (c : Nat) (f : Bytes) (run : Nat → Bytes → State → State) (s : State) : State :=
  only (s.sdoServes c && f.length = 8) (run c f) s

/-- R56: an upload request (client command specifier 2). -/
def execSdoUpload (c : Nat) (f : Bytes) (s : State) : Out := .next (only (byteAt f 0 / 32 = 2) (sdoFrame c f sdoUpload) s)
/-- R56: a download request (client command specifier 1). -/
def execSdoDownload (c : Nat) (f : Bytes) (s : State) : Out := .next (only (byteAt f 0 / 32 = 1) (sdoFrame c f sdoDownload) s)
/-- R56: a segment, or a frame the server cannot place. -/
def execSdoSegment (c : Nat) (f : Bytes) (s : State) : Out := .next (sdoFrame c f sdoSegment s)
/-- R56: a frame of a block upload. -/
def execSdoBlockUpload (c : Nat) (f : Bytes) (s : State) : Out := .next (sdoFrame c f sdoBlockUpload s)
/-- R56: a frame of a block download. -/
def execSdoBlockDownload (c : Nat) (f : Bytes) (s : State) : Out := .next (sdoFrame c f sdoBlockDownload s)

/-- R56: a transfer idle for 1,000 ms is aborted. -/
def execSdoIdleTimeout (c : Nat) (s : State) : Out :=
  .next (only (c < 8 && (s.sdoOf c).kind ≠ 0 && s.past (s.sdoOf c).lastActivity (1000 * ms))
    (sdoAbort c (s.sdoOf c).idx (s.sdoOf c).sub 0x05040000) s)

/-- R398: a frame held during a flush is run after it. -/
def sdoHeld (c : Nat) (f : Bytes) (s : State) : State :=
  let k := (s.sdoOf c).kind
  (if k = 2 then sdoSegment else if k = 4 then sdoBlockDownload else sdoDownload) c f s

end Sys2Proof.Machine
end

