-- ==== Sys2Proof/Machine/PowerFail.lean ====
section
/-! DEFINITION. Power fail (R398, R399, R453): the flush of the journal, and what was held while it ran. -/

namespace Sys2Proof.Machine

/-- A frame that was held is served: of a DAP session, of the optical port, or of the SDO server of a controller. -/
def heldServe (e : Nat × Bytes) (s : State) : State :=
  if e.1 = 2000 then opticalWriteFrame e.2 false false s
  else if 3000 ≤ e.1 then sdoHeld (e.1 - 3000) e.2 s
  else dapHeld e.1 e.2 s

/-- R398: the flush is over and no warning stands: held writes are answered, and normal operation resumes. -/
def flushOver (s : State) : State :=
  if !(s.pow.flushing && s.sto.flushed && s.rdN K.pwrPfail = 0) then s
  else
    let bs := s.sto.heldBlocks
    let ws := s.sto.heldWrites
    let fs := s.sto.heldFrames
    let s := updSto (fun x => { x with flushed := false, heldBlocks := [], heldWrites := [], heldFrames := [] }) s
    let s := wrN K.storPfailState 0 (updPow (fun p => { p with flushing := false }) s)
    let s := each bs (fun b => writeBlock b.1 b.2.1 b.2.2.1 b.2.2.2) s
    let s := each ws (fun w => applyWrite w.1 (w.2.1 / 256) (w.2.1 % 256) w.2.2) s
    each fs heldServe s

/-- R398, R399, R453: PFAIL# has been low for `held` µs: the flush starts. Without the Gatehouse, only the level is
followed. -/
def execPfailAssert (held : Nat) (s : State) : Out :=
  .next (only (5 ≤ held && !s.pow.pfail) (fun s =>
    let s := updPow (fun p => { p with pfail := true }) s
    only s.ghRuns (fun s => flushStart (inc K.pwrPfailCount U32.max (powerWarning 1 true s))) s) s)

/-- R398: the journal, of `bytes` bytes, and its commit record are programmed. R457: a module whose seating has opened
resets now. -/
def execPfailFlushComplete (bytes : Nat) (s : State) : Out :=
  .next (only (s.pow.flushing && !s.sto.flushed) (fun s =>
    let us_ := min U32.max ((s.now - s.sto.pfailAt) / us)
    let s := commitAll (updSto (fun x => { x with flushed := true, undo := [] }) s)
    let s := wrN K.storJournalUsed 0 (wrN K.storPfailState 2 s)
    let s := wrN K.storPfailLast us_ (inc K.storPfailFlushes U32.max s)
    let s := raise Ev.pfailFlush (le 4 bytes ++ le 4 us_) s
    if s.pow.heldReset then moduleReset 6 s else flushOver s) s)

/-- R398, R399: PFAIL# is released; during a flush this takes effect after it. -/
def execPfailRelease (s : State) : Out :=
  .next (only s.pow.pfail (fun s =>
    let s := updPow (fun p => { p with pfail := false }) s
    if !s.ghRuns then s else
    let s := only (s.stor = Sto.held_) (updSto (fun x => { x with releasedAt := some s.now })) s
    let s := only (s.rdN K.pwrPfail = 1) (powerWarning 1 false) s
    flushOver s) s)

/-- R453: VLOGIC below 8.7 V for 10 µs while PFAIL# is not asserted, or, with the internal warning up, back at 8.7 V. -/
def execInternalPfailWarning (mv : Int) (held : Nat) (s : State) : Out :=
  if !vlogicRated mv then .fault (.outsideRatings "VLOGIC")
  else .next (only s.ghRuns (fun s =>
    let s := readVlogic mv s
    if mv < 8700 then
      only (10 ≤ held && s.rdN K.pwrPfail = 0) (fun s => flushStart (inc K.pwrInternalPfail U32.max (powerWarning 2 true s))) s
    else only (s.rdN K.pwrPfail = 2) (fun s => flushOver (powerWarning 2 false s)) s) s)

end Sys2Proof.Machine
end

