-- ==== Sys2Proof/Machine/Dispatch.lean ====
section
/-! DEFINITION. The dispatcher: one arm for each command of the table. -/

namespace Sys2Proof.Machine

/-- The effect of a command on everything but the queue. -/
def exec (i : Instr) (s : State) : Host.Outcome State Fault Refusal :=
  match i with
  | .classBoundary x => Sys2Proof.Machine.execClassBoundary x s
  | .inputFreeze x => Sys2Proof.Machine.execInputFreeze x s
  | .outputCommit x => Sys2Proof.Machine.execOutputCommit x s
  | .frameBuild st => Sys2Proof.Machine.execFrameBuild st s
  | .launchTimeReached n => Sys2Proof.Machine.execLaunchTimeReached n s
  | .launchLateDrop n => Sys2Proof.Machine.execLaunchLateDrop n s
  | .classAWindowStart p => Sys2Proof.Machine.execClassAWindowStart p s
  | .classAWindowEnd p => Sys2Proof.Machine.execClassAWindowEnd p s
  | .classBReady l => Sys2Proof.Machine.execClassBReady l s
  | .classCDispatch l => Sys2Proof.Machine.execClassCDispatch l s
  | .taskTimeBudgetExpiry p x => Sys2Proof.Machine.execTaskTimeBudgetExpiry p x s
  | .taskDeadline p x => Sys2Proof.Machine.execTaskDeadline p x s
  | .laneUngate l => Sys2Proof.Machine.execLaneUngate l s
  | .fabricAccess r arrivals err syn ovf => Sys2Proof.Machine.execFabricAccess r arrivals err syn ovf s
  | .ledgerRoundEnd => Sys2Proof.Machine.execLedgerRoundEnd s
  | .routerTakeEvent => Sys2Proof.Machine.execRouterTakeEvent s
  | .eventRateWindow => Sys2Proof.Machine.execEventRateWindow s
  | .eventConfigWrite src n v => Sys2Proof.Machine.execEventConfigWrite src n v s
  | .eventChannelPop p => Sys2Proof.Machine.execEventChannelPop p s
  | .eventOverflowClear p v => Sys2Proof.Machine.execEventOverflowClear p v s
  | .dictWrite src idx sub v => Sys2Proof.Machine.execDictWrite src idx sub v s
  | .dictstoreCommit key => Sys2Proof.Machine.execDictstoreCommit key s
  | .dictSectionRestore src v => Sys2Proof.Machine.execDictSectionRestore src v s
  | .commErrorFieldClear src c v => Sys2Proof.Machine.execCommErrorFieldClear src c v s
  | .dapHandshake peer cert => Sys2Proof.Machine.execDapHandshake peer cert s
  | .dapRead n f => Sys2Proof.Machine.execDapRead n f s
  | .dapWrite n f => Sys2Proof.Machine.execDapWrite n f s
  | .dapWriteAtomic n f => Sys2Proof.Machine.execDapWriteAtomic n f s
  | .dapReadSeg n f => Sys2Proof.Machine.execDapReadSeg n f s
  | .dapWriteSeg n f => Sys2Proof.Machine.execDapWriteSeg n f s
  | .dapSubscribe n f => Sys2Proof.Machine.execDapSubscribe n f s
  | .dapEventPush n => Sys2Proof.Machine.execDapEventPush n s
  | .dapKeepalive n f => Sys2Proof.Machine.execDapKeepalive n f s
  | .dapDescribe n f => Sys2Proof.Machine.execDapDescribe n f s
  | .dapClose n f => Sys2Proof.Machine.execDapClose n f s
  | .dapIdleTimeout n => Sys2Proof.Machine.execDapIdleTimeout n s
  | .dapSegSequenceTimeout n => Sys2Proof.Machine.execDapSegSequenceTimeout n s
  | .dapTokenRefill n => Sys2Proof.Machine.execDapTokenRefill n s
  | .dapDisable src v => Sys2Proof.Machine.execDapDisable src v s
  | .sdoUpload c f => Sys2Proof.Machine.execSdoUpload c f s
  | .sdoDownload c f => Sys2Proof.Machine.execSdoDownload c f s
  | .sdoSegment c f => Sys2Proof.Machine.execSdoSegment c f s
  | .sdoBlockUpload c f => Sys2Proof.Machine.execSdoBlockUpload c f s
  | .sdoBlockDownload c f => Sys2Proof.Machine.execSdoBlockDownload c f s
  | .sdoIdleTimeout c => Sys2Proof.Machine.execSdoIdleTimeout c s
  | .scanRealign src v => Sys2Proof.Machine.execScanRealign src v s
  | .chgRequest src v => Sys2Proof.Machine.execChgRequest src v s
  | .chgCancel src v => Sys2Proof.Machine.execChgCancel src v s
  | .rioInputFrame f => Sys2Proof.Machine.execRioInputFrame f s
  | .pavStopHoldExpiry p => Sys2Proof.Machine.execPavStopHoldExpiry p s
  | .remoteHoldExpiry p => Sys2Proof.Machine.execRemoteHoldExpiry p s
  | .pavHoldLimitExpiry p => Sys2Proof.Machine.execPavHoldLimitExpiry p s
  | .debugHalt p => Sys2Proof.Machine.execDebugHalt p s
  | .debugResume p => Sys2Proof.Machine.execDebugResume p s
  | .debugSingleStep p => Sys2Proof.Machine.execDebugSingleStep p s
  | .debugSessionLoss p => Sys2Proof.Machine.execDebugSessionLoss p s
  | .arbNop l => Sys2Proof.Machine.execArbNop l s
  | .arbLd l sp off b => Sys2Proof.Machine.execArbLd l sp off b s
  | .arbLdn l sp off b => Sys2Proof.Machine.execArbLdn l sp off b s
  | .arbAnd l sp off b => Sys2Proof.Machine.execArbAnd l sp off b s
  | .arbAndn l sp off b => Sys2Proof.Machine.execArbAndn l sp off b s
  | .arbOr l sp off b => Sys2Proof.Machine.execArbOr l sp off b s
  | .arbOrn l sp off b => Sys2Proof.Machine.execArbOrn l sp off b s
  | .arbXor l sp off b => Sys2Proof.Machine.execArbXor l sp off b s
  | .arbXorn l sp off b => Sys2Proof.Machine.execArbXorn l sp off b s
  | .arbSt l sp off b => Sys2Proof.Machine.execArbSt l sp off b s
  | .arbStn l sp off b => Sys2Proof.Machine.execArbStn l sp off b s
  | .arbSet l sp off b => Sys2Proof.Machine.execArbSet l sp off b s
  | .arbRst l sp off b => Sys2Proof.Machine.execArbRst l sp off b s
  | .arbEdgp l sp off b => Sys2Proof.Machine.execArbEdgp l sp off b s
  | .arbEdgn l sp off b => Sys2Proof.Machine.execArbEdgn l sp off b s
  | .arbNot l => Sys2Proof.Machine.execArbNot l s
  | .arbSeta l => Sys2Proof.Machine.execArbSeta l s
  | .arbClra l => Sys2Proof.Machine.execArbClra l s
  | .arbPush l tag => Sys2Proof.Machine.execArbPush l tag s
  | .arbPopa l => Sys2Proof.Machine.execArbPopa l s
  | .arbPopo l => Sys2Proof.Machine.execArbPopo l s
  | .arbTon l sp off => Sys2Proof.Machine.execArbTon l sp off s
  | .arbTof l sp off => Sys2Proof.Machine.execArbTof l sp off s
  | .arbTp l sp off => Sys2Proof.Machine.execArbTp l sp off s
  | .arbCtu l sp off => Sys2Proof.Machine.execArbCtu l sp off s
  | .arbCtd l sp off => Sys2Proof.Machine.execArbCtd l sp off s
  | .arbCtud l sp off => Sys2Proof.Machine.execArbCtud l sp off s
  | .arbLdw l w a u sp off => Sys2Proof.Machine.execArbLdw l w a u sp off s
  | .arbStw l w a sp off => Sys2Proof.Machine.execArbStw l w a sp off s
  | .arbPutg l a ga => Sys2Proof.Machine.execArbPutg l a ga s
  | .arbAddg l ga gb imm => Sys2Proof.Machine.execArbAddg l ga gb imm s
  | .arbMovga l ga hi ext => Sys2Proof.Machine.execArbMovga l ga hi ext s
  | .arbXchw l => Sys2Proof.Machine.execArbXchw l s
  | .arbGets l a sel => Sys2Proof.Machine.execArbGets l a sel s
  | .arbLdf l fl => Sys2Proof.Machine.execArbLdf l fl s
  | .arbClrf l => Sys2Proof.Machine.execArbClrf l s
  | .arbLdx l w a u ga imm => Sys2Proof.Machine.execArbLdx l w a u ga imm s
  | .arbStx l w a ga imm => Sys2Proof.Machine.execArbStx l w a ga imm s
  | .arbMovb l ga gb imm => Sys2Proof.Machine.execArbMovb l ga gb imm s
  | .arbMux l a nar u ga imm => Sys2Proof.Machine.execArbMux l a nar u ga imm s
  | .arbAdd l a nar u op => Sys2Proof.Machine.execArbAdd l a nar u op s
  | .arbSub l a nar u op => Sys2Proof.Machine.execArbSub l a nar u op s
  | .arbMul l a nar u op => Sys2Proof.Machine.execArbMul l a nar u op s
  | .arbDiv l a nar u op => Sys2Proof.Machine.execArbDiv l a nar u op s
  | .arbMod l a nar u op => Sys2Proof.Machine.execArbMod l a nar u op s
  | .arbAluAnd l a nar u op => Sys2Proof.Machine.execArbAluAnd l a nar u op s
  | .arbAluOr l a nar u op => Sys2Proof.Machine.execArbAluOr l a nar u op s
  | .arbAluXor l a nar u op => Sys2Proof.Machine.execArbAluXor l a nar u op s
  | .arbMin l a nar u op => Sys2Proof.Machine.execArbMin l a nar u op s
  | .arbMax l a nar u op => Sys2Proof.Machine.execArbMax l a nar u op s
  | .arbLimit l a nar u op => Sys2Proof.Machine.execArbLimit l a nar u op s
  | .arbSel l a nar u op => Sys2Proof.Machine.execArbSel l a nar u op s
  | .arbCmpeq l a nar u op => Sys2Proof.Machine.execArbCmpeq l a nar u op s
  | .arbCmpne l a nar u op => Sys2Proof.Machine.execArbCmpne l a nar u op s
  | .arbCmplt l a nar u op => Sys2Proof.Machine.execArbCmplt l a nar u op s
  | .arbCmple l a nar u op => Sys2Proof.Machine.execArbCmple l a nar u op s
  | .arbCmpgt l a nar u op => Sys2Proof.Machine.execArbCmpgt l a nar u op s
  | .arbCmpge l a nar u op => Sys2Proof.Machine.execArbCmpge l a nar u op s
  | .arbShl l a nar u op => Sys2Proof.Machine.execArbShl l a nar u op s
  | .arbShr l a nar u op => Sys2Proof.Machine.execArbShr l a nar u op s
  | .arbSar l a nar u op => Sys2Proof.Machine.execArbSar l a nar u op s
  | .arbRol l a nar u op => Sys2Proof.Machine.execArbRol l a nar u op s
  | .arbRor l a nar u op => Sys2Proof.Machine.execArbRor l a nar u op s
  | .arbMov l a nar u op => Sys2Proof.Machine.execArbMov l a nar u op s
  | .arbFadd l a nar op => Sys2Proof.Machine.execArbFadd l a nar op s
  | .arbFsub l a nar op => Sys2Proof.Machine.execArbFsub l a nar op s
  | .arbFmul l a nar op => Sys2Proof.Machine.execArbFmul l a nar op s
  | .arbFdiv l a nar op => Sys2Proof.Machine.execArbFdiv l a nar op s
  | .arbFsqrt l a nar op => Sys2Proof.Machine.execArbFsqrt l a nar op s
  | .arbFma l a nar gb => Sys2Proof.Machine.execArbFma l a nar gb s
  | .arbFcmpeq l a nar op => Sys2Proof.Machine.execArbFcmpeq l a nar op s
  | .arbFcmplt l a nar op => Sys2Proof.Machine.execArbFcmplt l a nar op s
  | .arbFcmple l a nar op => Sys2Proof.Machine.execArbFcmple l a nar op s
  | .arbFcvti l a nar u rne op => Sys2Proof.Machine.execArbFcvti l a nar u rne op s
  | .arbFcvtf l a nar u op => Sys2Proof.Machine.execArbFcvtf l a nar u op s
  | .arbFcvtp l a nar op => Sys2Proof.Machine.execArbFcvtp l a nar op s
  | .arbJmp l t => Sys2Proof.Machine.execArbJmp l t s
  | .arbJc l t => Sys2Proof.Machine.execArbJc l t s
  | .arbJnc l t => Sys2Proof.Machine.execArbJnc l t s
  | .arbCall l t => Sys2Proof.Machine.execArbCall l t s
  | .arbRet l => Sys2Proof.Machine.execArbRet l s
  | .arbLoop l gr t bound => Sys2Proof.Machine.execArbLoop l gr t bound s
  | .arbEnd l => Sys2Proof.Machine.execArbEnd l s
  | .arbEvt l code => Sys2Proof.Machine.execArbEvt l code s
  | .arbRdtb l n => Sys2Proof.Machine.execArbRdtb l n s
  | .arbFence l => Sys2Proof.Machine.execArbFence l s
  | .fenceDrainComplete l => Sys2Proof.Machine.execFenceDrainComplete l s
  | .sysRecorderWrite l => Sys2Proof.Machine.execSysRecorderWrite l s
  | .sysWdtService l => Sys2Proof.Machine.execSysWdtService l s
  | .sysDictTransfer l => Sys2Proof.Machine.execSysDictTransfer l s
  | .sysDmaSubmit l => Sys2Proof.Machine.execSysDmaSubmit l s
  | .sysDmaStatus l => Sys2Proof.Machine.execSysDmaStatus l s
  | .sysIsduRequest l => Sys2Proof.Machine.execSysIsduRequest l s
  | .sysHartCommand l => Sys2Proof.Machine.execSysHartCommand l s
  | .sysPavstoreRead l => Sys2Proof.Machine.execSysPavstoreRead l s
  | .sysPavstoreWrite l => Sys2Proof.Machine.execSysPavstoreWrite l s
  | .sysPavstoreTrim l => Sys2Proof.Machine.execSysPavstoreTrim l s
  | .sysPavstoreSync l => Sys2Proof.Machine.execSysPavstoreSync l s
  | .sysCanDoorbell l => Sys2Proof.Machine.execSysCanDoorbell l s
  | .sysCanCancel l => Sys2Proof.Machine.execSysCanCancel l s
  | .sysServiceComplete l => Sys2Proof.Machine.execSysServiceComplete l s
  | .voterRecordArrival t k kind pav cls addr data cyc => Sys2Proof.Machine.execVoterRecordArrival t k kind pav cls addr data cyc s
  | .voterLagExpiry t k cyc => Sys2Proof.Machine.execVoterLagExpiry t k cyc s
  | .laneLocalFault n part cyc => Sys2Proof.Machine.execLaneLocalFault n part cyc s
  | .resyncComplete t => Sys2Proof.Machine.execResyncComplete t s
  | .resyncStarved t => Sys2Proof.Machine.execResyncStarved t s
  | .takeoverWaitExpiry t => Sys2Proof.Machine.execTakeoverWaitExpiry t s
  | .trestleRebuildComplete t => Sys2Proof.Machine.execTrestleRebuildComplete t s
  | .rotationStart => Sys2Proof.Machine.execRotationStart s
  | .rotateNow src v => Sys2Proof.Machine.execRotateNow src v s
  | .spareLaneLocked n => Sys2Proof.Machine.execSpareLaneLocked n s
  | .laneBistComplete n pass part addr => Sys2Proof.Machine.execLaneBistComplete n pass part addr s
  | .laneRetireWrite src n v => Sys2Proof.Machine.execLaneRetireWrite src n v s
  | .pavLoad src p => Sys2Proof.Machine.execPavLoad src p s
  | .pavUnload src p => Sys2Proof.Machine.execPavUnload src p s
  | .regionArm src p => Sys2Proof.Machine.execRegionArm src p s
  | .regionDisarm src p => Sys2Proof.Machine.execRegionDisarm src p s
  | .dmaTransferComplete p ticket ok addr => Sys2Proof.Machine.execDmaTransferComplete p ticket ok addr s
  | .pavWdtExpiry p => Sys2Proof.Machine.execPavWdtExpiry p s
  | .pavWdtKey src p v => Sys2Proof.Machine.execPavWdtKey src p v s
  | .pavWdtEnable src p v => Sys2Proof.Machine.execPavWdtEnable src p v s
  | .pavWdtLock src p v => Sys2Proof.Machine.execPavWdtLock src p v s
  | .causewayLaneLost n => Sys2Proof.Machine.execCausewayLaneLost n s
  | .causewayLaneTrained n => Sys2Proof.Machine.execCausewayLaneTrained n s
  | .causewayDown => Sys2Proof.Machine.execCausewayDown s
  | .heartbeatSend => Sys2Proof.Machine.execHeartbeatSend s
  | .heartbeatReceive valid f => Sys2Proof.Machine.execHeartbeatReceive valid f s
  | .heartbeatLoss => Sys2Proof.Machine.execHeartbeatLoss s
  | .causewayLoopback lane ok => Sys2Proof.Machine.execCausewayLoopback lane ok s
  | .epochRecordReceive f => Sys2Proof.Machine.execEpochRecordReceive f s
  | .epochAckReceive e => Sys2Proof.Machine.execEpochAckReceive e s
  | .epochNakReceive e => Sys2Proof.Machine.execEpochNakReceive e s
  | .epochAckTimeout => Sys2Proof.Machine.execEpochAckTimeout s
  | .nandCheckpointDue => Sys2Proof.Machine.execNandCheckpointDue s
  | .checkpointWriteComplete ok => Sys2Proof.Machine.execCheckpointWriteComplete ok s
  | .refGrantReceive path f mac => Sys2Proof.Machine.execRefGrantReceive path f mac s
  | .refDenyReceive path f mac => Sys2Proof.Machine.execRefDenyReceive path f mac s
  | .refStatusSend => Sys2Proof.Machine.execRefStatusSend s
  | .refRequestSend => Sys2Proof.Machine.execRefRequestSend s
  | .refereeLost => Sys2Proof.Machine.execRefereeLost s
  | .refLineStuck held => Sys2Proof.Machine.execRefLineStuck held s
  | .roleLogicTick => Sys2Proof.Machine.execRoleLogicTick s
  | .takeoverReqWrite src v => Sys2Proof.Machine.execTakeoverReqWrite src v s
  | .partnerTakeoverRequest manual => Sys2Proof.Machine.execPartnerTakeoverRequest manual s
  | .takeoverLanesUp ok fault => Sys2Proof.Machine.execTakeoverLanesUp ok fault s
  | .takeoverRestoreComplete ok fault => Sys2Proof.Machine.execTakeoverRestoreComplete ok fault s
  | .safetyWordSend => Sys2Proof.Machine.execSafetyWordSend s
  | .standbyTrestleBist t bad part addr => Sys2Proof.Machine.execStandbyTrestleBist t bad part addr s
  | .storeScrub errs => Sys2Proof.Machine.execStoreScrub errs s
  | .healthWordSend => Sys2Proof.Machine.execHealthWordSend s
  | .handoverRequest src v => Sys2Proof.Machine.execHandoverRequest src v s
  | .handoverPrepareReceive => Sys2Proof.Machine.execHandoverPrepareReceive s
  | .handoverSwapBoundary => Sys2Proof.Machine.execHandoverSwapBoundary s
  | .handoverGrantTimeout => Sys2Proof.Machine.execHandoverGrantTimeout s
  | .pairRejoin src v => Sys2Proof.Machine.execPairRejoin src v s
  | .joinDictReceived f schemas => Sys2Proof.Machine.execJoinDictReceived f schemas s
  | .spHeartbeat valid => Sys2Proof.Machine.execSpHeartbeat valid s
  | .parapetWatchdogExpiry => Sys2Proof.Machine.execParapetWatchdogExpiry s
  | .islandSupplyCheck railsOk vsens lowFor => Sys2Proof.Machine.execIslandSupplyCheck railsOk vsens lowFor s
  | .testPulse x follows cross => Sys2Proof.Machine.execTestPulse x follows cross s
  | .safeInputFilterExpiry n a b held => Sys2Proof.Machine.execSafeInputFilterExpiry n a b held s
  | .safeInputDiscrepancyExpiry n => Sys2Proof.Machine.execSafeInputDiscrepancyExpiry n s
  | .safeInputChannelDisagree n held => Sys2Proof.Machine.execSafeInputChannelDisagree n held s
  | .encoderGate e edges speedSp loss invalid => Sys2Proof.Machine.execEncoderGate e edges speedSp loss invalid s
  | .encoderFaultClear e b => Sys2Proof.Machine.execEncoderFaultClear e b s
  | .groupEvaluation ch => Sys2Proof.Machine.execGroupEvaluation ch s
  | .stoReset g point => Sys2Proof.Machine.execStoReset g point s
  | .enableSequenceStep g rb => Sys2Proof.Machine.execEnableSequenceStep g rb s
  | .crossLinkRemoval ch g => Sys2Proof.Machine.execCrossLinkRemoval ch g s
  | .channelDiscrepancy g => Sys2Proof.Machine.execChannelDiscrepancy g s
  | .offPulseSlotStart swP => Sys2Proof.Machine.execOffPulseSlotStart swP s
  | .offPulseClose o => Sys2Proof.Machine.execOffPulseClose o s
  | .offPulseVerdict o fell rose fall mv => Sys2Proof.Machine.execOffPulseVerdict o fell rose fall mv s
  | .externalVoltage o mv held => Sys2Proof.Machine.execExternalVoltage o mv held s
  | .safeOutputOverload o held => Sys2Proof.Machine.execSafeOutputOverload o held s
  | .configCrcCheck ch upset => Sys2Proof.Machine.execConfigCrcCheck ch upset s
  | .statusBlockPublish => Sys2Proof.Machine.execStatusBlockPublish s
  | .safetyStagedWrite src idx sub v => Sys2Proof.Machine.execSafetyStagedWrite src idx sub v s
  | .safetyDiscard src v => Sys2Proof.Machine.execSafetyDiscard src v s
  | .safetyConfirm src v => Sys2Proof.Machine.execSafetyConfirm src v s
  | .safetyActivate src v => Sys2Proof.Machine.execSafetyActivate src v s
  | .safetyFaultAck src v => Sys2Proof.Machine.execSafetyFaultAck src v s
  | .sgroupAck src g v => Sys2Proof.Machine.execSgroupAck src g v s
  | .soutAck src o v => Sys2Proof.Machine.execSoutAck src o v s
  | .islandStartupComplete pass test dur => Sys2Proof.Machine.execIslandStartupComplete pass test dur s
  | .debounceComplete n level held => Sys2Proof.Machine.execDebounceComplete n level held s
  | .diEdgesWrite src n v => Sys2Proof.Machine.execDiEdgesWrite src n v s
  | .diWakeSample n level => Sys2Proof.Machine.execDiWakeSample n level s
  | .doOcTrip o held => Sys2Proof.Machine.execDoOcTrip o held s
  | .doRetryExpiry o => Sys2Proof.Machine.execDoRetryExpiry o s
  | .doOvertemp o temp => Sys2Proof.Machine.execDoOvertemp o temp s
  | .doNoDrive o mv => Sys2Proof.Machine.execDoNoDrive o mv s
  | .doOffStateTest o high stays => Sys2Proof.Machine.execDoOffStateTest o high stays s
  | .doAck src o v => Sys2Proof.Machine.execDoAck src o v s
  | .fieldSupplyChange g mv held => Sys2Proof.Machine.execFieldSupplyChange g mv held s
  | .blockHoldExpiry b => Sys2Proof.Machine.execBlockHoldExpiry b s
  | .iolModeWrite src n v => Sys2Proof.Machine.execIolModeWrite src n v s
  | .iolWakeupAttempt n com low follow => Sys2Proof.Machine.execIolWakeupAttempt n com low follow s
  | .iolDeviceAnswer n vendor dev inl outl minc => Sys2Proof.Machine.execIolDeviceAnswer n vendor dev inl outl minc s
  | .iolOperateConfirm n => Sys2Proof.Machine.execIolOperateConfirm n s
  | .iolCycleComplete n ok invalid pd => Sys2Proof.Machine.execIolCycleComplete n ok invalid pd s
  | .iolLplusOverload n ma held => Sys2Proof.Machine.execIolLplusOverload n ma held s
  | .iolFaultRetry n => Sys2Proof.Machine.execIolFaultRetry n s
  | .iolIsduComplete n ok err data => Sys2Proof.Machine.execIolIsduComplete n ok err data s
  | .iolDeviceEvent n qual code appears => Sys2Proof.Machine.execIolDeviceEvent n qual code appears s
  | .adcTriggerTimer a => Sys2Proof.Machine.execAdcTriggerTimer a s
  | .adcStart src a v => Sys2Proof.Machine.execAdcStart src a v s
  | .adcConversionComplete a ch code selftest => Sys2Proof.Machine.execAdcConversionComplete a ch code selftest s
  | .adcSelftestDue a => Sys2Proof.Machine.execAdcSelftestDue a s
  | .adcRefSettled a codes => Sys2Proof.Machine.execAdcRefSettled a codes s
  | .adcRefFault a => Sys2Proof.Machine.execAdcRefFault a s
  | .adc4Sequence codes pass => Sys2Proof.Machine.execAdc4Sequence codes pass s
  | .aiTick limited => Sys2Proof.Machine.execAiTick limited s
  | .aiStale n => Sys2Proof.Machine.execAiStale n s
  | .aoRampTick => Sys2Proof.Machine.execAoRampTick s
  | .aoOpenLoop j held => Sys2Proof.Machine.execAoOpenLoop j held s
  | .aoReadbackFault j => Sys2Proof.Machine.execAoReadbackFault j s
  | .aoNoSource j => Sys2Proof.Machine.execAoNoSource j s
  | .aoOvertemp j temp => Sys2Proof.Machine.execAoOvertemp j temp s
  | .aoAck src j v => Sys2Proof.Machine.execAoAck src j v s
  | .hartEnableWrite src m v => Sys2Proof.Machine.execHartEnableWrite src m v s
  | .hartRequestSend m => Sys2Proof.Machine.execHartRequestSend m s
  | .hartFrameReceive m preamble f err => Sys2Proof.Machine.execHartFrameReceive m preamble f err s
  | .hartResponseTimeout m => Sys2Proof.Machine.execHartResponseTimeout m s
  | .hartAutoCmdDue m => Sys2Proof.Machine.execHartAutoCmdDue m s
  | .hartNoiseAbort m cause => Sys2Proof.Machine.execHartNoiseAbort m cause s
  | .hartNoiseClear m => Sys2Proof.Machine.execHartNoiseClear m s
  | .hartQueueTimeout m => Sys2Proof.Machine.execHartQueueTimeout m s
  | .hartNoDeviceRetry m => Sys2Proof.Machine.execHartNoDeviceRetry m s
  | .portLinkChange n speed => Sys2Proof.Machine.execPortLinkChange n speed s
  | .frameReceive n f good => Sys2Proof.Machine.execFrameReceive n f good s
  | .fdbAgeing => Sys2Proof.Machine.execFdbAgeing s
  | .fdbFlush src v => Sys2Proof.Machine.execFdbFlush src v s
  | .frerResetTimeout h => Sys2Proof.Machine.execFrerResetTimeout h s
  | .ringTxPoll => Sys2Proof.Machine.execRingTxPoll s
  | .gateApply src n v => Sys2Proof.Machine.execGateApply src n v s
  | .gateListSwitch n => Sys2Proof.Machine.execGateListSwitch n s
  | .gateIntervalEnd n => Sys2Proof.Machine.execGateIntervalEnd n s
  | .preemptVerify n ok => Sys2Proof.Machine.execPreemptVerify n ok s
  | .redSupervisionSend r => Sys2Proof.Machine.execRedSupervisionSend r s
  | .redLanDown r side => Sys2Proof.Machine.execRedLanDown r side s
  | .tbStepWrite src n d => Sys2Proof.Machine.execTbStepWrite src n d s
  | .tbSetWrite src n t => Sys2Proof.Machine.execTbSetWrite src n t s
  | .tbSourceChange src n sub v => Sys2Proof.Machine.execTbSourceChange src n sub v s
  | .tbDeclare src n v => Sys2Proof.Machine.execTbDeclare src n v s
  | .ptpSyncReceive k port offset delay gm st => Sys2Proof.Machine.execPtpSyncReceive k port offset delay gm st s
  | .ptpHoldoverExpiry k => Sys2Proof.Machine.execPtpHoldoverExpiry k s
  | .oscFailover => Sys2Proof.Machine.execOscFailover s
  | .rtcUpdate => Sys2Proof.Machine.execRtcUpdate s
  | .ppsInEdge k width => Sys2Proof.Machine.execPpsInEdge k width s
  | .ppsInLost k => Sys2Proof.Machine.execPpsInLost k s
  | .ppsOutEdge k => Sys2Proof.Machine.execPpsOutEdge k s
  | .canEnable src c v idle memok => Sys2Proof.Machine.execCanEnable src c v idle memok s
  | .canDisable src c v => Sys2Proof.Machine.execCanDisable src c v s
  | .canFrameReceived c f err => Sys2Proof.Machine.execCanFrameReceived c f err s
  | .canErrorDetected c kind transmitter heavy => Sys2Proof.Machine.execCanErrorDetected c kind transmitter heavy s
  | .canBusStuck c => Sys2Proof.Machine.execCanBusStuck c s
  | .canStuckRecoveryAttempt c ok => Sys2Proof.Machine.execCanStuckRecoveryAttempt c ok s
  | .canBusoffRecovered c => Sys2Proof.Machine.execCanBusoffRecovered c s
  | .canRecover src c v => Sys2Proof.Machine.execCanRecover src c v s
  | .canControllerFault c fault => Sys2Proof.Machine.execCanControllerFault c fault s
  | .canObjectReadWord0 c o p x gate err => Sys2Proof.Machine.execCanObjectReadWord0 c o p x gate err s
  | .canObjectReadWord19 c o p x gate err => Sys2Proof.Machine.execCanObjectReadWord19 c o p x gate err s
  | .canGatehouseLockTimeout c o => Sys2Proof.Machine.execCanGatehouseLockTimeout c o s
  | .txBufferFill c => Sys2Proof.Machine.execTxBufferFill c s
  | .txStart c => Sys2Proof.Machine.execTxStart c s
  | .txComplete c ok => Sys2Proof.Machine.execTxComplete c ok s
  | .txArbitrationLost c => Sys2Proof.Machine.execTxArbitrationLost c s
  | .nmtCommand c cs node => Sys2Proof.Machine.execNmtCommand c cs node s
  | .canHbProduce c => Sys2Proof.Machine.execCanHbProduce c s
  | .canHbConsumerTimeout c j => Sys2Proof.Machine.execCanHbConsumerTimeout c j s
  | .syncReceive c cnt => Sys2Proof.Machine.execSyncReceive c cnt s
  | .syncProduce c => Sys2Proof.Machine.execSyncProduce c s
  | .rpdoReceive c n data fd => Sys2Proof.Machine.execRpdoReceive c n data fd s
  | .rpdoEventTimeout c n => Sys2Proof.Machine.execRpdoEventTimeout c n s
  | .tpdoEventTimer c n => Sys2Proof.Machine.execTpdoEventTimer c n s
  | .nandBlockRead k b die blk step level crc => Sys2Proof.Machine.execNandBlockRead k b die blk step level crc s
  | .nandBlockWrite k die blk new => Sys2Proof.Machine.execNandBlockWrite k die blk new s
  | .nandProgramFail die blk => Sys2Proof.Machine.execNandProgramFail die blk s
  | .dieNotReadyTimeout die chan => Sys2Proof.Machine.execDieNotReadyTimeout die chan s
  | .rebuildStripe lost total => Sys2Proof.Machine.execRebuildStripe lost total s
  | .staticLevelling die least most to_ phase => Sys2Proof.Machine.execStaticLevelling die least most to_ phase s
  | .blockRefresh die blk to_ phase => Sys2Proof.Machine.execBlockRefresh die blk to_ phase s
  | .patrolScrubStep die blk need total => Sys2Proof.Machine.execPatrolScrubStep die blk need total s
  | .pfailAssert held => Sys2Proof.Machine.execPfailAssert held s
  | .pfailFlushComplete bytes => Sys2Proof.Machine.execPfailFlushComplete bytes s
  | .pfailRelease => Sys2Proof.Machine.execPfailRelease s
  | .pfailStuck => Sys2Proof.Machine.execPfailStuck s
  | .storageMount dies models => Sys2Proof.Machine.execStorageMount dies models s
  | .suspectBlockVerify die blk ok => Sys2Proof.Machine.execSuspectBlockVerify die blk ok s
  | .partSizeWrite src k v => Sys2Proof.Machine.execPartSizeWrite src k v s
  | .pavstoreRequestComplete p mirrored => Sys2Proof.Machine.execPavstoreRequestComplete p mirrored s
  | .pavstoreMirrorCopy p data => Sys2Proof.Machine.execPavstoreMirrorCopy p data s
  | .archiveCopy => Sys2Proof.Machine.execArchiveCopy s
  | .recFreeze src => Sys2Proof.Machine.execRecFreeze src s
  | .recUnfreeze src => Sys2Proof.Machine.execRecUnfreeze src s
  | .recFreezeTimeout => Sys2Proof.Machine.execRecFreezeTimeout s
  | .recClearToken src v sig => Sys2Proof.Machine.execRecClearToken src v sig s
  | .recClearKeyswitch src v asserted => Sys2Proof.Machine.execRecClearKeyswitch src v asserted s
  | .recqQuery src v => Sys2Proof.Machine.execRecqQuery src v s
  | .histqQuery src v => Sys2Proof.Machine.execHistqQuery src v s
  | .histTagTableWrite src g j v => Sys2Proof.Machine.execHistTagTableWrite src g j v s
  | .histBufferOverflow => Sys2Proof.Machine.execHistBufferOverflow s
  | .histBufferDrained => Sys2Proof.Machine.execHistBufferDrained s
  | .gatehouseFault kind => Sys2Proof.Machine.execGatehouseFault kind s
  | .serviceEnter src => Sys2Proof.Machine.execServiceEnter src s
  | .serviceLeave src => Sys2Proof.Machine.execServiceLeave src s
  | .serviceLimitExpiry => Sys2Proof.Machine.execServiceLimitExpiry s
  | .dormantRequest src v => Sys2Proof.Machine.execDormantRequest src v s
  | .dormantFlushComplete => Sys2Proof.Machine.execDormantFlushComplete s
  | .dormantReached => Sys2Proof.Machine.execDormantReached s
  | .moduleResetCommand src v => Sys2Proof.Machine.execModuleResetCommand src v s
  | .moduleReset => Sys2Proof.Machine.execModuleReset s
  | .wdtServiceKeyA => Sys2Proof.Machine.execWdtServiceKeyA s
  | .wdtServiceKeyB => Sys2Proof.Machine.execWdtServiceKeyB s
  | .wdtForeignService dict src master => Sys2Proof.Machine.execWdtForeignService dict src master s
  | .wdtTimeout => Sys2Proof.Machine.execWdtTimeout s
  | .wdtKeyBTimeout => Sys2Proof.Machine.execWdtKeyBTimeout s
  | .wdtKeyWrite src v => Sys2Proof.Machine.execWdtKeyWrite src v s
  | .wdtLockWrite src v => Sys2Proof.Machine.execWdtLockWrite src v s
  | .wdtEnableWrite src v => Sys2Proof.Machine.execWdtEnableWrite src v s
  | .temperatureSample vals => Sys2Proof.Machine.execTemperatureSample vals s
  | .temperatureCritExpiry k => Sys2Proof.Machine.execTemperatureCritExpiry k s
  | .railStateChange k mv held => Sys2Proof.Machine.execRailStateChange k mv held s
  | .vibrationSpectrum rms total => Sys2Proof.Machine.execVibrationSpectrum rms total s
  | .shockStart x y z mag => Sys2Proof.Machine.execShockStart x y z mag s
  | .shockEnd x y z above => Sys2Proof.Machine.execShockEnd x y z above s
  | .humiditySample rh lid => Sys2Proof.Machine.execHumiditySample rh lid s
  | .contactSenseMeasure mohm => Sys2Proof.Machine.execContactSenseMeasure mohm s
  | .contactRebase src v => Sys2Proof.Machine.execContactRebase src v s
  | .wearLedgerUpdate => Sys2Proof.Machine.execWearLedgerUpdate s
  | .serviceEthFrame kind => Sys2Proof.Machine.execServiceEthFrame kind s
  | .serviceLinkChange link => Sys2Proof.Machine.execServiceLinkChange link s
  | .optStatus f => Sys2Proof.Machine.execOptStatus f s
  | .optEvents f => Sys2Proof.Machine.execOptEvents f s
  | .optChallenge f => Sys2Proof.Machine.execOptChallenge f s
  | .optAuth f sig => Sys2Proof.Machine.execOptAuth f sig s
  | .optRead f => Sys2Proof.Machine.execOptRead f s
  | .optWrite f sig asserted => Sys2Proof.Machine.execOptWrite f sig asserted s
  | .optClose f => Sys2Proof.Machine.execOptClose f s
  | .optIdleTimeout => Sys2Proof.Machine.execOptIdleTimeout s
  | .optFloodInterval sat bad ambient => Sys2Proof.Machine.execOptFloodInterval sat bad ambient s
  | .vlogicGood mv held carrier slot powerLost => Sys2Proof.Machine.execVlogicGood mv held carrier slot powerLost s
  | .vlogicLost mv held vbat => Sys2Proof.Machine.execVlogicLost mv held vbat s
  | .vlogicStateChange mv held => Sys2Proof.Machine.execVlogicStateChange mv held s
  | .internalPfailWarning mv held => Sys2Proof.Machine.execInternalPfailWarning mv held s
  | .prechargeComplete diff => Sys2Proof.Machine.execPrechargeComplete diff s
  | .seatedOpen c held => Sys2Proof.Machine.execSeatedOpen c held s
  | .seatedMated c held => Sys2Proof.Machine.execSeatedMated c held s
  | .pllLockLoss d n cyc => Sys2Proof.Machine.execPllLockLoss d n cyc s
  | .pllRelock d => Sys2Proof.Machine.execPllRelock d s
  | .droopThrottleOn rail sag => Sys2Proof.Machine.execDroopThrottleOn rail sag s
  | .droopThrottleOff sag held => Sys2Proof.Machine.execDroopThrottleOff sag held s
  | .stretchStart rail sag copying chunk => Sys2Proof.Machine.execStretchStart rail sag copying chunk s
  | .stretchEnd rail sag held => Sys2Proof.Machine.execStretchEnd rail sag held s
  | .stretchBudgetReset => Sys2Proof.Machine.execStretchBudgetReset s
  | .wakeRtc => Sys2Proof.Machine.execWakeRtc s
  | .wakeNetwork port f => Sys2Proof.Machine.execWakeNetwork port f s
  | .wakeCan c held => Sys2Proof.Machine.execWakeCan c held s
  | .wakeReferee f mac => Sys2Proof.Machine.execWakeReferee f mac s
  | .vbatMeasure mv => Sys2Proof.Machine.execVbatMeasure mv s
  | .startupRailsGood => Sys2Proof.Machine.execStartupRailsGood s
  | .gatehouseResetRelease => Sys2Proof.Machine.execGatehouseResetRelease s
  | .wipeComplete ok => Sys2Proof.Machine.execWipeComplete ok s
  | .trngSeeded ok => Sys2Proof.Machine.execTrngSeeded ok s
  | .dramTrained ok => Sys2Proof.Machine.execDramTrained ok s
  | .dramZeroFillComplete => Sys2Proof.Machine.execDramZeroFillComplete s
  | .imagesVerified part code => Sys2Proof.Machine.execImagesVerified part code s
  | .bootLaneBistComplete fails => Sys2Proof.Machine.execBootLaneBistComplete fails s
  | .dictLoad => Sys2Proof.Machine.execDictLoad s
  | .firstOperatingMode => Sys2Proof.Machine.execFirstOperatingMode s
  | .claimVoucher src v sig => Sys2Proof.Machine.execClaimVoucher src v sig s
  | .lcTokenRelease src v sig => Sys2Proof.Machine.execLcTokenRelease src v sig s
  | .lcTokenReturn src v sig => Sys2Proof.Machine.execLcTokenReturn src v sig s
  | .lcTokenScrap src v sig => Sys2Proof.Machine.execLcTokenScrap src v sig s
  | .lcTokenRefurbish src v sig => Sys2Proof.Machine.execLcTokenRefurbish src v sig s
  | .lcTokenFinalise src v sig => Sys2Proof.Machine.execLcTokenFinalise src v sig s
  | .icehouseMonitorSample mesh lid temp volt clock => Sys2Proof.Machine.execIcehouseMonitorSample mesh lid temp volt clock s
  | .tamperConfirm mesh lid temp volt clock mv => Sys2Proof.Machine.execTamperConfirm mesh lid temp volt clock mv s
  | .sealedCopyDestroyed => Sys2Proof.Machine.execSealedCopyDestroyed s
  | .eraseResetExpiry => Sys2Proof.Machine.execEraseResetExpiry s
  | .alarmAck src v => Sys2Proof.Machine.execAlarmAck src v s
  | .servicePubWrite src v => Sys2Proof.Machine.execServicePubWrite src v s
  | .trngHealthFail test => Sys2Proof.Machine.execTrngHealthFail test s
  | .drbgReseed => Sys2Proof.Machine.execDrbgReseed s
  | .debugToken src v sig jtag => Sys2Proof.Machine.execDebugToken src v sig jtag s
  | .debugClose src v => Sys2Proof.Machine.execDebugClose src v s
  | .debugExpiry => Sys2Proof.Machine.execDebugExpiry s
  | .updStart src safety vendor owner => Sys2Proof.Machine.execUpdStart src safety vendor owner s
  | .updCancel src => Sys2Proof.Machine.execUpdCancel src s
  | .updPartImageWrite src k v ok => Sys2Proof.Machine.execUpdPartImageWrite src k v ok s
  | .updPartDownloadComplete k data ok => Sys2Proof.Machine.execUpdPartDownloadComplete k data ok s
  | .updPartVerified k ok => Sys2Proof.Machine.execUpdPartVerified k ok s
  | .updActivateStandby src => Sys2Proof.Machine.execUpdActivateStandby src s
  | .updActivateStop src => Sys2Proof.Machine.execUpdActivateStop src s
  | .activationRecordWritten => Sys2Proof.Machine.execActivationRecordWritten s
  | .trialCommit ok part => Sys2Proof.Machine.execTrialCommit ok part s
  | .trialLimitExpiry => Sys2Proof.Machine.execTrialLimitExpiry s
  | .updPreparedWrite src v => Sys2Proof.Machine.execUpdPreparedWrite src v s
  | .illegalOpcode l sub => Sys2Proof.Machine.execIllegalOpcode l sub s
  | .refLineRelease held => Sys2Proof.Machine.execRefLineRelease held s
  | .lockstepFault => Sys2Proof.Machine.execLockstepFault s
  | .safetyWordReceive w crc req rst => Sys2Proof.Machine.execSafetyWordReceive w crc req rst s
  | .healthWordReceive f => Sys2Proof.Machine.execHealthWordReceive f s
  | .partnerEventReceive f => Sys2Proof.Machine.execPartnerEventReceive f s
  | .pavstorePartnerWrite p trim off len data => Sys2Proof.Machine.execPavstorePartnerWrite p trim off len data s
  | .partnerSyncHoldExpiry => Sys2Proof.Machine.execPartnerSyncHoldExpiry s
  | .leapSecond => Sys2Proof.Machine.execLeapSecond s
  | .frameTransmitComplete n => Sys2Proof.Machine.execFrameTransmitComplete n s
  | .tpdoInhibitExpiry c n => Sys2Proof.Machine.execTpdoInhibitExpiry c n s
  | .garbageCollection die blk to_ phase => Sys2Proof.Machine.execGarbageCollection die blk to_ phase s
  | .partitionResizeComplete => Sys2Proof.Machine.execPartitionResizeComplete s
  | .status3Toggle => Sys2Proof.Machine.execStatus3Toggle s

end Sys2Proof.Machine
end

