-- ==== Sys2Proof/Safety.lean ====
section
/-! DEFINITION. What counts as a safe state and a safe step, and the terms the statements use: a command that completes, an
instruction that is ready to run, and what it writes. -/

namespace Sys2Proof

open Machine

/-- The step answers a next state: neither a fault nor a refusal. -/
def Steps (s t : State) : Prop := Machine.step s = .next t

/-- Memory and the dictionary stand in their canonical form: keys rising, and no entry at its default. -/
def Canonical (s : State) : Prop :=
  Memory.wf s.mem = true ∧ Tab.wf dictDefault s.dict = true ∧ Tab.wf blobDefault s.blob = true

/-- The command answers a next state, of which `P` holds. -/
def Does (i : Instr) (s : State) (P : State → Prop) : Prop := ∃ t, Machine.exec i s = .next t ∧ P t

/-- Event n is raised from `s` to `t`, with a payload: its count is one higher, and it holds the payload. -/
def Raises (n : Nat) (payload : Bytes) (s t : State) : Prop :=
  (Tab.get t.router.pend n {}).count = satInc U32.max (Tab.get s.router.pend n {}).count ∧ (Tab.get t.router.pend n {}).payload = payload

/-- The frame sent last on a link. -/
def Machine.State.sentOn (s : State) (link : Nat) : Bytes := Tab.get s.wire link []

/-! ### Arbour -/

/-- The lane is about to run, as `c`, an instruction of `words` words that counts `n`: its words may be fetched, and the
budget holds it (R108, R129, R139). The task is not being stepped by a debugger. -/
structure Ready (c : Ctx) (words n : Nat) (s : State) : Prop where
  ctx : s.ctx c.l = some c
  fetch : fetchCheck c words s = .ok () s
  budget : (s.task c.p c.x).retired + n ≤ s.rdN (K.pavIbudget c.p c.x)
  free : (s.pav c.p).step = false

/-- R108: the instruction has been fetched: PC stands behind its words. -/
def Begun (c : Ctx) (words : Nat) (s : State) : State := setBank c.l c.x ((s.bank c.l c.x).next (4 * words)) s

/-- From `u` to `t` the register bank of the task changes by `f`, `n` instructions retire, and nothing else changes. -/
structure Writes (c : Ctx) (n : Nat) (f : Bank → Bank) (u t : State) : Prop where
  bank : t.bank c.l c.x = f (u.bank c.l c.x)
  others : ∀ l x, 3 * l + x ≠ 3 * c.l + c.x → t.bank l x = u.bank l x
  task : t.task c.p c.x = { u.task c.p c.x with retired := (u.task c.p c.x).retired + n }
  tasks : ∀ p x, 3 * p + x ≠ 3 * c.p + c.x → t.task p x = u.task p x
  rest : t = { u with banks := t.banks, scan := { u.scan with tasks := t.scan.tasks } }

/-- An instruction that changes registers alone: the bank changes by `f`. -/
def RegistersOnly (i : Instr) (c : Ctx) (words : Nat) (f : Bank → Bank) : Prop :=
  ∀ s, Ready c words 1 s → Does i s (Writes c 1 f (Begun c words s))

/-- An instruction that first reads or stores by `m`, which goes through with `v`, and then changes registers by `f v`. -/
def Result {α : Type} (i : Instr) (c : Ctx) (words : Nat) (m : Arb α) (f : α → Bank → Bank) : Prop :=
  ∀ s v u, Ready c words 1 s → m (Begun c words s) = .ok v u → (u.pav c.p).step = false → Does i s (Writes c 1 (f v) u)

/-- As `Result`, where up to two flags of the instruction have no stated value: the registers change by `f v` of some two flags,
and the free values move on. -/
def OpenResult {α : Type} (i : Instr) (c : Ctx) (words : Nat) (m : Arb α) (f : α → Bool → Bool → Bank → Bank) : Prop :=
  ∀ s v u, Ready c words 1 s → m (Begun c words s) = .ok v u → (u.pav c.p).step = false →
    ∃ cf vf k, Does i s (Writes c 1 (f v cf vf) { u with fresh := u.fresh + k })

/-- What a float result may leave in the accumulator: the result, or, where a quiet NaN operand makes the result a quiet NaN, any
quiet NaN of the format. -/
def FloatValue (f : Fmt) (r : FRes) (z : Nat) : Prop :=
  if r.1 = f.qnan ∧ r.2 = false then ∃ b v, z = f.signBit b + f.qnan + v % 2 ^ (f.p - 2) else z = r.1

/-- A float instruction whose reads by `m` go through with `v`, and whose result is `g v` in the format `f`. Where the result is valid, or
the policy is QUIET, the accumulator takes it, and an invalid operation sets FI; otherwise an invalid operation traps (R128). -/
def FloatResult {α : Type} (i : Instr) (c : Ctx) (a : Bool) (f : Fmt) (m : Arb α) (g : α → FRes) : Prop :=
  ∀ s v u, Ready c 1 1 s → m (Begun c 1 s) = .ok v u → (u.pav c.p).step = false →
    (((g v).2 = true → u.quiet c = true) → ∃ z k, FloatValue f (g v) z ∧
      Does i s (Writes c 1 (fun r => ({ r with status := if (g v).2 then flag r.status 4 true else r.status }).setAccu a (BitVec.ofNat 64 z))
        { u with fresh := u.fresh + k })) ∧
    ((g v).2 = true → u.quiet c = false →
      Machine.exec i s = .next (takeTrap c (s.bank c.l c.x).pc.toNat Cause.finv 1 0 u))

/-- As `FloatResult`, for an instruction that writes `f v` and is invalid where `bad v`. -/
def FloatWrites {α : Type} (i : Instr) (c : Ctx) (m : Arb α) (bad : α → Bool) (f : α → Bank → Bank) : Prop :=
  ∀ s v u, Ready c 1 1 s → m (Begun c 1 s) = .ok v u → (u.pav c.p).step = false →
    ((bad v = true → u.quiet c = true) →
      Does i s (Writes c 1 (fun r => f v { r with status := if bad v then flag r.status 4 true else r.status }) u)) ∧
    (bad v = true → u.quiet c = false →
      Machine.exec i s = .next (takeTrap c (s.bank c.l c.x).pc.toNat Cause.finv 1 0 u))

/-- The instruction traps at its own PC, with a cause, a subcode and a data address, in the state where PC stands behind it. -/
def TrapsAt (i : Instr) (c : Ctx) (words cause sub addr : Nat) (s : State) : Prop :=
  Machine.exec i s = .next (takeTrap c (s.bank c.l c.x).pc.toNat cause sub addr (Begun c words s))

/-- The lane waits for service n, which will leave `g` in the G registers (R133). -/
def waiting (c : Ctx) (n : Nat) (g : List (Nat × Nat)) (s : State) : State :=
  updTask c.p c.x (fun t => { t with sysN := n, sysG := g }) s

/-- R123: the record of a timer: its address and its fields, at an offset that is a multiple of 16. -/
def timerAt (c : Ctx) (sp : Space) (off : BitVec 18) : Arb (Nat × Timer) := do
  let a ← addrOf c sp off true
  let lo ← loadBytes c false a 8
  let hi ← loadBytes c false ((a + 8) % 2 ^ 64) 8
  return (a, { start := ofLe lo, pt := fieldAt hi 0 4 * unitNs (byteAt hi 4), state := byteAt hi 5 })

/-- R124: START is written where it changes, STATE as one byte. -/
def putTimer (c : Ctx) (a : Nat) (old new : Timer) : Arb Unit := do
  if new.start ≠ old.start then storeData c a (.bytes (le 8 new.start))
  storeData c ((a + 13) % 2 ^ 64) (.bytes (le 1 new.state))

/-- R124: a timer record executed by `f`, which takes ACC, TS and the record. -/
def timerRun (c : Ctx) (sp : Space) (off : BitVec 18) (f : Bool → Nat → Timer → Timer) : Arb Timer := do
  let r ← timerAt c sp off
  let b ← bankOf' c
  let n := f b.acc b.ts.toNat r.2
  putTimer c r.1 r.2 n
  return n

/-- R125: the record of a counter: its address, CV, PV and STATE. -/
def counterAt (c : Ctx) (sp : Space) (off : BitVec 18) : Arb (Nat × Int × Int × Nat) := do
  let a ← addrOf c sp off true
  let lo ← loadBytes c false a 8
  let hi ← loadBytes c false ((a + 8) % 2 ^ 64) 8
  return (a, signed 4 (fieldAt lo 0 4), signed 4 (fieldAt lo 4 4), byteAt hi 0)

/-- R125: a counter record executed with its inputs, which `inputs` answers. -/
def counterRun (c : Ctx) (sp : Space) (off : BitVec 18) (inputs : Arb (Option Bool × Option Bool)) : Arb (Int × Nat) := do
  let r ← counterAt c sp off
  let u ← inputs
  let n := countStep r.2.1 r.2.2.1 r.2.2.2 u.1 u.2
  if n.1 ≠ r.2.1 then storeData c r.1 (.bytes (le 4 (unsigned 4 n.1)))
  storeData c ((r.1 + 8) % 2 ^ 64) (.bytes (le 1 n.2))
  return n

/-- R122: the edge memory is read, and ACC stored in it. -/
def edgeRun (c : Ctx) (sp : Space) (off : BitVec 18) (b : BitVec 3) : Arb Bool := do
  let a ← addrOf c sp off true
  let m := bitOf (ofLe (← loadBytes c false a 1)) b.toNat
  storeData c a (.bit b.toNat (← bankOf' c).acc)
  return m

/-- R109: Z and N of an integer result of `w` bits, with C and V. -/
def withInt (a nar u : Bool) (x : Nat) (cf vf : Bool) (r : Bank) : Bank :=
  { r.setAccu a (extendTo u (aluWidth nar) x) with status := intFlags r.status (aluWidth nar) x cf vf }

/-- R126: the accumulator as an operation takes it. -/
def Machine.Bank.narrow (r : Bank) (a nar : Bool) : Nat := (r.accu a).toNat % 2 ^ aluWidth nar

/-- Where `g` holds the command changes the state by `f`; where it does not hold, the command changes nothing. -/
def Guarded (i : Instr) (s : State) (g : Prop) (f : State → State) : Prop :=
  (g → Machine.exec i s = .next (f s)) ∧ (¬g → Machine.exec i s = .next s)

/-- A write to a command entry (R45): from a path with no session nothing happens; a write that fails a check is answered with its code
and changes nothing else; during a flush it is held; otherwise `f` gives its code and effect. -/
structure Commanded (i : Instr) (src : Path) (k : Nat) (v : Bytes) (s : State) (f : State → Nat × State) : Prop where
  absent : s.caller src = none → Machine.exec i s = .next s
  refused : (s.caller src).isSome → s.checkWrite src (k / 256) (k % 256) v ≠ Err.ok →
    Machine.exec i s = .next (reply (s.checkWrite src (k / 256) (k % 256) v) [] s)
  held : (s.caller src).isSome → s.checkWrite src (k / 256) (k % 256) v = Err.ok → s.writeHeld k = true →
    Machine.exec i s = .next { s with sto := { s.sto with heldWrites := s.sto.heldWrites ++ [(src, k, v)] } }
  done : (s.caller src).isSome → s.checkWrite src (k / 256) (k % 256) v = Err.ok → s.writeHeld k = false →
    Machine.exec i s = .next (answerWrite k v (f s).1 (f s).2)

/-- As `Commanded`, for an entry that admits the value 1 alone. -/
def Commanded1 (i : Instr) (src : Path) (k v : Nat) (s : State) (f : State → Nat × State) : Prop :=
  Commanded i src k (le 1 v) s (fun s => if v = 1 then f s else (Err.value, s))

/-- R60, R530: a request frame of operation `op` that session n may have served: the server is reachable, the session is open and has a
token, the frame is well formed, its REQ_ID is new, fewer than 8 responses are outstanding, and no flush holds it. -/
structure DapRequest (op n : Nat) (f : Bytes) (s : State) : Prop where
  serves : s.dapServes = true
  live : (s.session n).isOpen = true
  kind : byteAt f 1 = op
  tokens : (s.session n).tokens ≠ 0
  formed : dapFormed f = true
  fresh : (s.session n).stored.find? (fun e => e.1 = fieldAt f 4 4) = none
  room : (s.session n).unanswered < 8
  free : s.holds (.dap n) (frameKeys f) = false

/-- R60: the session that has had a frame: a token less, and its idle time begins anew. -/
def dapTaken (n : Nat) (s : State) : State :=
  updSession n (fun x => { x with
    lastFrame := s.now, tokens := x.tokens - 1, lastRefill := if s.rdN K.dictDapBurst ≤ x.tokens then s.now else x.lastRefill }) s

end Sys2Proof
end

