-- ==== Sys2Proof/Certificates/Slice0/Obligations.lean ====
section
/-! DEFINITION. The statements for the provers. Each names the rules it follows; the values and layouts that are the model's own
choice are said in its docstring and in the assumption log. -/

open Sys2Proof Sys2Proof.Machine

/-- R109, R119, R121: the instructions that change registers alone, and what they leave. MOVGA has an extension word; LDF names one of the
flags 0 to 6. R121: PUSH, POPA and POPO, and their branch-stack traps: PUSH on 16 entries, a pop of an empty stack, POPA of a tag 10 and
POPO of a tag 01. -/
def Obligations.ArbourRegisters : Prop :=
  (∀ (c : Ctx) (a : Bool) (ga gb : BitVec 4) (imm : BitVec 12) (hi : BitVec 8) (ext : BitVec 32) (sel : BitVec 2) (fl : Nat),
    RegistersOnly (.arbNop c.l) c 1 id ∧
    RegistersOnly (.arbNot c.l) c 1 (fun r => { r with acc := !r.acc }) ∧
    RegistersOnly (.arbSeta c.l) c 1 (fun r => { r with acc := true }) ∧
    RegistersOnly (.arbClra c.l) c 1 (fun r => { r with acc := false }) ∧
    RegistersOnly (.arbPutg c.l a ga) c 1 (fun r => r.setGr ga (if a then r.wb else r.wa)) ∧
    RegistersOnly (.arbAddg c.l ga gb imm) c 1 (fun r => r.setGr ga (r.gr gb + imm.signExtend 64)) ∧
    RegistersOnly (.arbMovga c.l ga hi ext) c 2 (fun r => r.setGr ga (BitVec.ofNat 64 (hi.toNat * 2 ^ 32 + ext.toNat))) ∧
    RegistersOnly (.arbXchw c.l) c 1 (fun r => { r with wa := r.wb, wb := r.wa }) ∧
    RegistersOnly (.arbGets c.l a sel) c 1 (fun r => r.setAccu a
      (match sel.toNat with
        | 0 => r.status.zeroExtend 64
        | 1 => r.ts
        | 2 => r.pav.zeroExtend 64
        | _ => BitVec.ofNat 64 r.depth)) ∧
    (fl < 7 → RegistersOnly (.arbLdf c.l fl) c 1 (fun r => { r with acc := r.status.getLsbD fl })) ∧
    RegistersOnly (.arbClrf c.l) c 1 (fun r => { r with status := r.status &&& ~~~(BitVec.ofNat 16 0x10) })) ∧
  (∀ (c : Ctx) (s : State), Ready c 1 1 s →
    let r := s.bank c.l c.x
    (∀ tag : BitVec 2, tag ≠ 3 → r.bstk.length < 16 →
      Does (.arbPush c.l tag) s (Writes c 1 (fun r => { r with bstk := (r.acc, tag) :: r.bstk }) (Begun c 1 s))) ∧
    (∀ tag : BitVec 2, tag ≠ 3 → 16 ≤ r.bstk.length → TrapsAt (.arbPush c.l tag) c 1 Cause.bstk 1 0 s) ∧
    (∀ v tag rest, r.bstk = (v, tag) :: rest → tag ≠ 2 →
      Does (.arbPopa c.l) s (Writes c 1 (fun r => { r with bstk := rest, acc := r.acc && v }) (Begun c 1 s))) ∧
    (∀ v tag rest, r.bstk = (v, tag) :: rest → tag ≠ 1 →
      Does (.arbPopo c.l) s (Writes c 1 (fun r => { r with bstk := rest, acc := r.acc || v }) (Begun c 1 s))) ∧
    (r.bstk = [] → TrapsAt (.arbPopa c.l) c 1 Cause.bstk 2 0 s ∧ TrapsAt (.arbPopo c.l) c 1 Cause.bstk 2 0 s) ∧
    (∀ v rest, r.bstk = (v, 2) :: rest → TrapsAt (.arbPopa c.l) c 1 Cause.bstk 3 0 s) ∧
    (∀ v rest, r.bstk = (v, 1) :: rest → TrapsAt (.arbPopo c.l) c 1 Cause.bstk 3 0 s))

/-- R119, R120: the bit loads: the operand bit is read and combined with ACC, and nothing else changes. R114, R119: the bit stores: ACC or
its inverse is stored; SET and RST store 1 or 0 where ACC is 1, and with ACC 0 store nothing. No register changes. R122: EDGP and EDGN: ACC
becomes the edge between the edge memory and ACC; the memory holds ACC afterwards, on every execution. -/
def Obligations.ArbourBits : Prop :=
  (∀ (c : Ctx) (sp : Space) (off : BitVec 18) (b : BitVec 3),
    Result (.arbLd c.l sp off b) c 1 (loadBit c sp off b) (fun v r => { r with acc := v }) ∧
    Result (.arbLdn c.l sp off b) c 1 (loadBit c sp off b) (fun v r => { r with acc := !v }) ∧
    Result (.arbAnd c.l sp off b) c 1 (loadBit c sp off b) (fun v r => { r with acc := r.acc && v }) ∧
    Result (.arbAndn c.l sp off b) c 1 (loadBit c sp off b) (fun v r => { r with acc := r.acc && !v }) ∧
    Result (.arbOr c.l sp off b) c 1 (loadBit c sp off b) (fun v r => { r with acc := r.acc || v }) ∧
    Result (.arbOrn c.l sp off b) c 1 (loadBit c sp off b) (fun v r => { r with acc := r.acc || !v }) ∧
    Result (.arbXor c.l sp off b) c 1 (loadBit c sp off b) (fun v r => { r with acc := r.acc ^^ v }) ∧
    Result (.arbXorn c.l sp off b) c 1 (loadBit c sp off b) (fun v r => { r with acc := r.acc ^^ !v })) ∧
  (∀ (c : Ctx) (sp : Space) (off : BitVec 18) (b : BitVec 3) (s u : State),
    Ready c 1 1 s → (u.pav c.p).step = false →
    let acc := (s.bank c.l c.x).acc
    (storeOp c sp off (.bit b.toNat acc) (Begun c 1 s) = .ok () u → Does (.arbSt c.l sp off b) s (Writes c 1 id u)) ∧
    (storeOp c sp off (.bit b.toNat (!acc)) (Begun c 1 s) = .ok () u → Does (.arbStn c.l sp off b) s (Writes c 1 id u)) ∧
    (acc = true → storeOp c sp off (.bit b.toNat true) (Begun c 1 s) = .ok () u → Does (.arbSet c.l sp off b) s (Writes c 1 id u)) ∧
    (acc = true → storeOp c sp off (.bit b.toNat false) (Begun c 1 s) = .ok () u → Does (.arbRst c.l sp off b) s (Writes c 1 id u)) ∧
    (acc = false → Does (.arbSet c.l sp off b) s (Writes c 1 id (Begun c 1 s))) ∧
    (acc = false → Does (.arbRst c.l sp off b) s (Writes c 1 id (Begun c 1 s)))) ∧
  (∀ (c : Ctx) (sp : Space) (off : BitVec 18) (b : BitVec 3),
    Result (.arbEdgp c.l sp off b) c 1 (edgeRun c sp off b) (fun m r => { r with acc := r.acc && !m }) ∧
    Result (.arbEdgn c.l sp off b) c 1 (edgeRun c sp off b) (fun m r => { r with acc := !r.acc && m }))

/-- R123, R124: TON, TOF and TP on a record in the T or the D space, at an offset that is a multiple of 16: the record is read, START and
STATE are written, and Q goes to ACC. R125: CTU, CTD and CTUD on a record in the C or the D space, at an offset that is a multiple of 16:
the record is stepped with the inputs of the instruction; CTU and CTUD leave QU in ACC, CTD QD. CTUD takes its up input from the top of the
branch stack. -/
def Obligations.ArbourRecords : Prop :=
  (∀ (c : Ctx) (sp : Space) (off : BitVec 18), (sp = .t ∨ sp = .d) → off.toNat % 16 = 0 →
    Result (.arbTon c.l sp off) c 1 (timerRun c sp off timerTon) (fun t r => { r with acc := bitOf t.state 0 }) ∧
    Result (.arbTof c.l sp off) c 1 (timerRun c sp off timerTof) (fun t r => { r with acc := bitOf t.state 0 }) ∧
    Result (.arbTp c.l sp off) c 1 (timerRun c sp off timerTp) (fun t r => { r with acc := bitOf t.state 0 })) ∧
  (∀ (c : Ctx) (sp : Space) (off : BitVec 18), (sp = .c ∨ sp = .d) → off.toNat % 16 = 0 →
    Result (.arbCtu c.l sp off) c 1 (counterRun c sp off (do return (some (← bankOf' c).acc, none)))
      (fun n r => { r with acc := bitOf n.2 0 }) ∧
    Result (.arbCtd c.l sp off) c 1 (counterRun c sp off (do return (none, some (← bankOf' c).acc)))
      (fun n r => { r with acc := bitOf n.2 1 }) ∧
    Result (.arbCtud c.l sp off) c 1
      (counterRun c sp off (do
        let up ← popBit c (fun _ => false)
        return (some up, some (← bankOf' c).acc)))
      (fun n r => { r with acc := bitOf n.2 0 }))

/-- R109, R115, R119: LDW and LDX load a value of 1, 2, 4 or 8 bytes, extended per U, with the flags of a load; STW and STX store the low
bytes of the accumulator, at the operand or at G[GA] + IMM12. R137, R139: MOVB over two ranges that pass their checks: the source is read
before anything is written, the destination takes it, no register changes, and the instruction counts one for each 64 bytes begun. R126:
MUX: the element whose index the accumulator holds, clamped to the last of the IMM12 elements, with V set where it was. -/
def Obligations.ArbourWordAccesses : Prop :=
  (∀ (c : Ctx) (w : BitVec 2) (a u : Bool) (sp : Space) (off : BitVec 18) (ga : BitVec 4) (imm : BitVec 12),
    let n := 2 ^ w.toNat
    let taken := fun (v : Nat) (r : Bank) =>
      let x := extendTo u (8 * n) v
      { r.setAccu a x with status := intFlags r.status 64 x.toNat false false }
    let at_ := fun (r : Bank) => (r.gr ga + imm.signExtend 64).toNat
    Result (.arbLdw c.l w a u sp off) c 1 (loadOp c sp off n) taken ∧
    Result (.arbLdx c.l w a u ga imm) c 1 (do return ofLe (← loadBytes c false (at_ (← bankOf' c)) n)) taken ∧
    Result (.arbStw c.l w a sp off) c 1 (do storeOp c sp off (.bytes (le n ((← bankOf' c).accu a).toNat))) (fun _ r => r) ∧
    Result (.arbStx c.l w a ga imm) c 1 (do storeData c (at_ (← bankOf' c)) (.bytes (le n ((← bankOf' c).accu a).toNat))) (fun _ r => r)) ∧
  (∀ (c : Ctx) (ga gb : BitVec 4) (imm : BitVec 12) (s u u' : State) (b : Bytes),
    let n := imm.toNat + 1
    let src := ((s.bank c.l c.x).gr ga).toNat
    let dst := ((s.bank c.l c.x).gr gb).toNat
    Ready c 1 ((n + 63) / 64) s → (dst + n ≤ inBase ∨ outBase ≤ dst) →
    (Begun c 1 s).moveFrom c.p src n = true → (Begun c 1 s).moveTo c.p c.x dst n = true →
    readPieces c (pieces src n) (Begun c 1 s) = .ok b u → writePieces c (pieces dst n) b u = .ok () u' → (u'.pav c.p).step = false →
    Does (.arbMovb c.l ga gb imm) s (Writes c ((n + 63) / 64) id u')) ∧
  (∀ (c : Ctx) (a nar u : Bool) (ga : BitVec 4) (imm : BitVec 12), imm ≠ 0 →
    let w := aluWidth nar
    Result (.arbMux c.l a nar u ga imm) c 1
      (do
        let r ← bankOf' c
        let i := r.narrow a nar
        return (ofLe (← loadBytes c false (((r.gr ga).toNat + min i (imm.toNat - 1) * (w / 8)) % 2 ^ 64) (w / 8)), i))
      (fun v r => withInt a nar u v.1 false (imm.toNat ≤ v.2) r))

/-- R109, R119, R126: the integer operations that state every flag: their result, extended per U, with Z and N of the result. R109, R119,
R126: the comparisons set ACC and no flag; SEL takes the operand where ACC is 1 and keeps the accumulator where it is 0. -/
def Obligations.ArbourIntegers : Prop :=
  (∀ (c : Ctx) (a nar u : Bool) (op : AluOp),
    let w := aluWidth nar
    let m := aluOperand c a nar u op
    let two := fun (f : Nat → Nat → Nat) (v : Word) (r : Bank) => withInt a nar u (f (r.narrow a nar) (v.toNat % 2 ^ w)) false false r
    Result (.arbAdd c.l a nar u op) c (aluWords op) m (fun v r =>
      let x := r.narrow a nar
      let y := v.toNat % 2 ^ w
      withInt a nar u ((x + y) % 2 ^ w) (2 ^ w ≤ x + y) (overflows w (sgn w x + sgn w y)) r) ∧
    Result (.arbSub c.l a nar u op) c (aluWords op) m (fun v r =>
      let x := r.narrow a nar
      let y := v.toNat % 2 ^ w
      withInt a nar u ((x + (2 ^ w - y)) % 2 ^ w) (x < y) (overflows w (sgn w x - sgn w y)) r) ∧
    Result (.arbAluAnd c.l a nar u op) c (aluWords op) m (two (· &&& ·)) ∧
    Result (.arbAluOr c.l a nar u op) c (aluWords op) m (two (· ||| ·)) ∧
    Result (.arbAluXor c.l a nar u op) c (aluWords op) m (two (· ^^^ ·)) ∧
    Result (.arbMov c.l a nar u op) c (aluWords op) m (two (fun _ y => y)) ∧
    Result (.arbMin c.l a nar u op) c (aluWords op) m (two (fun x y => if keyOf u w x ≤ keyOf u w y then x else y)) ∧
    Result (.arbMax c.l a nar u op) c (aluWords op) m (two (fun x y => if keyOf u w y ≤ keyOf u w x then x else y)) ∧
    Result (.arbLimit c.l a nar u op) c (aluWords op) m (fun v r =>
      withInt a nar u (aluMin u w (aluMax u w (r.narrow a nar) (r.narrow (!a) nar)) (v.toNat % 2 ^ w)) false false r)) ∧
  (∀ (c : Ctx) (a nar u : Bool) (op : AluOp),
    let w := aluWidth nar
    let m := aluOperand c a nar u op
    let cmp := fun (f : Int → Int → Bool) (v : Word) (r : Bank) =>
      { r with acc := f (keyOf u w (r.narrow a nar)) (keyOf u w (v.toNat % 2 ^ w)) }
    Result (.arbCmpeq c.l a nar u op) c (aluWords op) m (cmp (fun x y => x = y)) ∧
    Result (.arbCmpne c.l a nar u op) c (aluWords op) m (cmp (fun x y => x ≠ y)) ∧
    Result (.arbCmplt c.l a nar u op) c (aluWords op) m (cmp (fun x y => x < y)) ∧
    Result (.arbCmple c.l a nar u op) c (aluWords op) m (cmp (fun x y => x ≤ y)) ∧
    Result (.arbCmpgt c.l a nar u op) c (aluWords op) m (cmp (fun x y => y < x)) ∧
    Result (.arbCmpge c.l a nar u op) c (aluWords op) m (cmp (fun x y => y ≤ x)) ∧
    Result (.arbSel c.l a nar u op) c (aluWords op) m (fun v r =>
      if r.acc then withInt a nar u (v.toNat % 2 ^ w) false false r
      else { r with status := intFlags r.status w (r.narrow a nar) false false }))

/-- R126: MUL, and the shifts and rotates, taken modulo the width. The log says which of their flags the model leaves free: C of MUL, V of
shifts and rotates, and C of a shift by 0. R127: DIV and MOD. A quotient or remainder is truncated toward zero; a divisor of 0 traps, or
under SATURATE gives the largest or smallest value, or 0; the smallest value divided by −1 gives the largest. C is a free value. -/
def Obligations.ArbourDivision : Prop :=
  (∀ (c : Ctx) (a nar u : Bool) (op : AluOp),
    let w := aluWidth nar
    let m := aluOperand c a nar u op
    let shift := fun (f : Nat → Nat → Nat × Bool) (v : Word) (cf vf : Bool) (r : Bank) =>
      let n := v.toNat % w
      let x := f (r.narrow a nar) n
      withInt a nar u x.1 (if n = 0 then cf else x.2) vf r
    OpenResult (.arbMul c.l a nar u op) c (aluWords op) m (fun v cf _ r =>
      let x := r.narrow a nar
      let y := v.toNat % 2 ^ w
      withInt a nar u (x * y % 2 ^ w) cf (overflows w (sgn w x * sgn w y)) r) ∧
    OpenResult (.arbShl c.l a nar u op) c (aluWords op) m (shift (fun x n => (x * 2 ^ n % 2 ^ w, bitOf x (w - n)))) ∧
    OpenResult (.arbShr c.l a nar u op) c (aluWords op) m (shift (fun x n => (x / 2 ^ n, bitOf x (n - 1)))) ∧
    OpenResult (.arbSar c.l a nar u op) c (aluWords op) m (shift (fun x n => (wrap w (sgn w x / (2 ^ n : Int)), bitOf x (n - 1)))) ∧
    OpenResult (.arbRol c.l a nar u op) c (aluWords op) m (shift (fun x n => ((x * 2 ^ n + x / 2 ^ (w - n)) % 2 ^ w, bitOf x (w - n)))) ∧
    OpenResult (.arbRor c.l a nar u op) c (aluWords op) m (shift (fun x n => ((x / 2 ^ n + x * 2 ^ (w - n)) % 2 ^ w, bitOf x (n - 1))))) ∧
  (∀ (c : Ctx) (a nar u : Bool) (op : AluOp) (s v t), Ready c (aluWords op) 1 s →
    aluOperand c a nar u op (Begun c (aluWords op) s) = .ok v t → (t.pav c.p).step = false →
    let w := aluWidth nar
    let r := t.bank c.l c.x
    let x := keyOf u w (r.narrow a nar)
    let y := keyOf u w (v.toNat % 2 ^ w)
    let sat := bitOf (t.task c.p c.x).policy 0
    let leaves := fun (i : Instr) (z : Nat) (vf : Bool) =>
      ∃ cf k, Does i s (Writes c 1 (withInt a nar u z cf vf) { t with fresh := t.fresh + k })
    let traps := fun (i : Instr) (sub : Nat) => Machine.exec i s = .next (takeTrap c (s.bank c.l c.x).pc.toNat Cause.div0 sub 0 t)
    let div := Instr.arbDiv c.l a nar u op
    let mod := Instr.arbMod c.l a nar u op
    (y ≠ 0 → (u = true ∨ y ≠ -1 ∨ x ≠ -(2 ^ (w - 1) : Int)) → leaves div (wrap w (x.tdiv y)) false) ∧
    (y ≠ 0 → leaves mod (wrap w (x.tmod y)) false) ∧
    (u = false → y = -1 → x = -(2 ^ (w - 1) : Int) → leaves div (2 ^ (w - 1) - 1) true) ∧
    (y = 0 → sat = true → leaves div (if 0 ≤ x then maxOf u w else minOf u w) true ∧ leaves mod 0 true) ∧
    (y = 0 → sat = false → traps div 1 ∧ traps mod 2))

/-- R119, R128: the float operations. R119, R128: the float comparisons set ACC, which is 0 with a NaN; FCVTI and FCVTF convert to and from
a 64-bit integer. -/
def Obligations.ArbourFloats : Prop :=
  (∀ (c : Ctx) (a nar : Bool) (op : FOp) (gb : BitVec 4),
    let f := fmtOf nar
    let m : Arb (Nat × Nat) := do
      let y ← floatOperand c a op
      return (floatIn nar ((← bankOf' c).accu a), floatIn nar y)
    let m3 : Arb (Nat × Nat × Nat) := do
      let r ← bankOf' c
      return (floatIn nar (r.accu a), floatIn nar (r.gr gb), floatIn nar (r.accu (!a)))
    FloatResult (.arbFadd c.l a nar op) c a f m (fun v => f.add v.1 v.2) ∧
    FloatResult (.arbFsub c.l a nar op) c a f m (fun v => f.sub v.1 v.2) ∧
    FloatResult (.arbFmul c.l a nar op) c a f m (fun v => f.mul v.1 v.2) ∧
    FloatResult (.arbFdiv c.l a nar op) c a f m (fun v => f.div v.1 v.2) ∧
    FloatResult (.arbFsqrt c.l a nar op) c a f m (fun v => f.sqrt v.2) ∧
    FloatResult (.arbFma c.l a nar gb) c a f m3 (fun v => f.fma v.1 v.2.1 v.2.2) ∧
    FloatResult (.arbFcvtp c.l a nar op) c a (fmtOf (!nar)) m (fun v => f.conv (fmtOf (!nar)) v.2)) ∧
  (∀ (c : Ctx) (a nar u rne : Bool) (op : FOp),
    let f := fmtOf nar
    let m : Arb (Nat × Nat) := do
      let y ← floatOperand c a op
      return (floatIn nar ((← bankOf' c).accu a), floatIn nar y)
    let outcome := fun (ok : Ordering → Bool) (v : Nat × Nat) (r : Bank) =>
      { r with acc := match (f.cmp v.1 v.2).1 with
          | some o => ok o
          | none => false }
    let bad := fun (v : Nat × Nat) => (f.cmp v.1 v.2).2
    FloatWrites (.arbFcmpeq c.l a nar op) c m bad (outcome (fun o => o = .eq)) ∧
    FloatWrites (.arbFcmplt c.l a nar op) c m bad (outcome (fun o => o = .lt)) ∧
    FloatWrites (.arbFcmple c.l a nar op) c m bad (outcome (fun o => o ≠ .gt)) ∧
    FloatWrites (.arbFcvti c.l a nar u rne op) c (floatOperand c a op) (fun y => (cvtInt f u rne (floatIn nar y)).2)
      (fun y r => r.setAccu a (BitVec.ofNat 64 (cvtInt f u rne (floatIn nar y)).1)) ∧
    Result (.arbFcvtf c.l a nar u op) c 1 (floatOperand c a op)
      (fun y r => r.setAccu a (BitVec.ofNat 64 (f.ofInt (if u then (y.toNat : Int) else y.toInt)))))

/-- R129: JMP, JC and JNC go forward to a word of the segment, and nothing but PC changes; a target that is not forward or not in the
segment makes the instruction illegal. R130: LOOP: a counter of at most 1 ends the loop and becomes 0; a higher one, up to BOUND, goes down
by one and jumps back; one above BOUND, or a target that is not behind, is illegal. R131: CALL writes the frame with the index of the word
behind it at CSP, adds 8 to CSP and jumps; RET takes 8 from CSP and goes on at the word index in the frame. CALL at depth 64 and RET at
depth 0 trap. -/
def Obligations.ArbourJumps : Prop :=
  (∀ (c : Ctx) (t : BitVec 18) (s : State), Ready c 1 1 s →
    let r := s.bank c.l c.x
    let size := s.rdN (K.pavCodeSize c.p)
    let away := fun (b : Bool) (r : Bank) => if b then { r with pc := BitVec.ofNat 20 (4 * t.toNat), pcOver := false } else r
    (r.pc.toNat < 4 * t.toNat → 4 * t.toNat < size →
      Does (.arbJmp c.l t) s (Writes c 1 (away true) (Begun c 1 s)) ∧
      Does (.arbJc c.l t) s (Writes c 1 (away r.acc) (Begun c 1 s)) ∧
      Does (.arbJnc c.l t) s (Writes c 1 (away (!r.acc)) (Begun c 1 s))) ∧
    ((4 * t.toNat ≤ r.pc.toNat ∨ size ≤ 4 * t.toNat) →
      ∀ i ∈ [Instr.arbJmp c.l t, .arbJc c.l t, .arbJnc c.l t],
        Machine.exec i s = .next (takeTrap c r.pc.toNat Cause.illegal 3 0 s))) ∧
  (∀ (c : Ctx) (gr : BitVec 4) (t : BitVec 18) (bound : BitVec 32) (s : State), Ready c 2 1 s →
    let r := s.bank c.l c.x
    let n := (r.gr gr).toNat
    let i := Instr.arbLoop c.l gr t bound
    (4 * t.toNat < r.pc.toNat → n ≤ 1 → n ≤ bound.toNat → Does i s (Writes c 1 (fun r => r.setGr gr 0) (Begun c 2 s))) ∧
    (4 * t.toNat < r.pc.toNat → 1 < n → n ≤ bound.toNat →
      Does i s (Writes c 1 (fun r => (r.setGr gr (BitVec.ofNat 64 (n - 1))).goto t.toNat) (Begun c 2 s))) ∧
    (4 * t.toNat < r.pc.toNat → bound.toNat < n → TrapsAt i c 2 Cause.illegal 4 0 s) ∧
    (r.pc.toNat ≤ 4 * t.toNat → Machine.exec i s = .next (takeTrap c r.pc.toNat Cause.illegal 3 0 s))) ∧
  (∀ (c : Ctx) (t : BitVec 18) (s : State), Ready c 1 1 s →
    let r := s.bank c.l c.x
    (∀ u, 4 * t.toNat < s.rdN (K.pavCodeSize c.p) → r.depth < 64 →
      storeData c r.csp.toNat (.bytes (le 8 ((r.pc.toNat + 4) / 4 % 2 ^ 18))) (Begun c 1 s) = .ok () u → (u.pav c.p).step = false →
      Does (.arbCall c.l t) s (Writes c 1 (fun r => ({ r with csp := r.csp + 8, depth := r.depth + 1 }).goto t.toNat) u)) ∧
    (∀ f u, 0 < r.depth → loadBytes c false (r.csp - 8).toNat 8 (Begun c 1 s) = .ok f u → (u.pav c.p).step = false →
      Does (.arbRet c.l) s (Writes c 1 (fun r => ({ r with csp := r.csp - 8, depth := r.depth - 1 }).goto (ofLe f % 2 ^ 18)) u)) ∧
    (4 * t.toNat < s.rdN (K.pavCodeSize c.p) → 64 ≤ r.depth → TrapsAt (.arbCall c.l t) c 1 Cause.cstk 1 0 s) ∧
    (r.depth = 0 → TrapsAt (.arbRet c.l) c 1 Cause.cstk 2 0 s) ∧
    (s.rdN (K.pavCodeSize c.p) ≤ 4 * t.toNat →
      Machine.exec (.arbCall c.l t) s = .next (takeTrap c r.pc.toNat Cause.illegal 3 0 s)))

/-- R132, R134, R135: END ends the task, or traps where the branch stack is not empty; EVT raises EV 0192+p with its payload where ACC is 1,
and does nothing where it is 0; RDTB puts the time base in WA and its quality in WB, or traps where the Pavilion may not read it. -/
def Obligations.ArbourSystemInstructions : Prop :=
  ∀ (c : Ctx) (code : BitVec 16) (n : Nat) (s : State), Ready c 1 1 s →
    let r := s.bank c.l c.x
    (r.bstk = [] → ((endTask c.p c.x (Begun c 1 s)).pav c.p).step = false →
      Machine.exec (.arbEnd c.l) s = .next (retire c 1 (endTask c.p c.x (Begun c 1 s)))) ∧
    (r.bstk ≠ [] → TrapsAt (.arbEnd c.l) c 1 Cause.bstk 4 0 s) ∧
    (r.acc = true → Does (.arbEvt c.l code) s (fun t =>
      Raises (Ev.pavilion c.p)
        (le 1 0 ++ le 1 0 ++ le 1 c.x ++ le 1 0 ++ le 8 (s.scanNo c.x) ++ le 2 code.toNat ++ le 2 0 ++ le 8 r.wa.toNat) s t
        ∧ t.bank c.l c.x = r.next 4 ∧ t.mem = s.mem ∧ t.dict = s.dict)) ∧
    (r.acc = false → Does (.arbEvt c.l code) s (Writes c 1 id (Begun c 1 s))) ∧
    (n < 8 → mapBit (s.blobOf (K.tbPavRead n)) c.p = true →
      Does (.arbRdtb c.l n) s (Writes c 1 (fun r => { r with
        wa := BitVec.ofNat 64 (s.tb64 n)
        wb := BitVec.ofNat 64 (s.tbVal n % 65536 + b2n (!s.synced n) * 65536 + s.rdN (K.tbEra n) % 65536 * 2 ^ 32) }) (Begun c 1 s))) ∧
    (n < 8 → mapBit (s.blobOf (K.tbPavRead n)) c.p = false → TrapsAt (.arbRdtb c.l n) c 1 Cause.protection 8 0 s)

/-- R133, R204, R406, R55: SYS 1, 4 and 6: what an accepted call, or one that its table refuses, leaves; the lane waits with the results. -/
def Obligations.SysRecorderWatchdogDictionary : Prop :=
  ∀ (c : Ctx) (s : State), Ready c 1 1 s →
    let b := s.bank c.l c.x
    let g := fun (n : Nat) => (b.gr (BitVec.ofNat 4 n)).toNat
    let s1 := Begun c 1 s
    let elapsed := s1.wdtTime c.p
    let opened := s.rdN (K.pavWdtOpen c.p) * us
    let timeout := s.rdN (K.pavWdtTimeout c.p) * us
    let live := s.rdN (K.pavWdtState c.p) ≠ Wdt.disabled
    (∀ d u, 0x8000 ≤ g 3 % 65536 → g 2 ≤ 4080 → s1.bufReadable c.p (g 1) (g 2) = true → bufRead c (g 1) (g 2) s1 = .ok d u →
      Machine.exec (.sysRecorderWrite c.l) s = .next (waiting c 1 [(0, Err.ok)] (pavRecord c.p (g 3 % 65536) d u))) ∧
    (g 3 % 65536 < 0x8000 ∨ 4080 < g 2 → Machine.exec (.sysRecorderWrite c.l) s = .next (waiting c 1 [(0, Err.value)] s1)) ∧
    (¬live → Machine.exec (.sysWdtService c.l) s = .next (waiting c 4 [(0, Err.ok)] s1)) ∧
    (live → opened ≤ elapsed → elapsed ≤ timeout →
      Machine.exec (.sysWdtService c.l) s =
        .next (waiting c 4 [(0, Err.ok)] (updPav c.p (fun v => { v with wdtS := s.now, wdtRan := 0 }) s1))) ∧
    (live → elapsed < opened →
      Machine.exec (.sysWdtService c.l) s = .next (waiting c 4 [(0, Err.state)] (wdtFail c.p 0x33 s1))) ∧
    (live → opened ≤ elapsed → timeout < elapsed →
      Machine.exec (.sysWdtService c.l) s = .next (waiting c 4 [(0, Err.state)] (wdtFail c.p 0x32 s1))) ∧
    (∀ r u, c.x ≠ 0 → 1 ≤ g 4 → g 4 ≤ 4096 → g 1 < 2 ^ 24 → g 5 = 0 → s1.bufWritable c.p (g 3) (g 4) = true →
      sysRead c (g 1) (g 2) (g 3) (g 4) s1 = .ok r u → Machine.exec (.sysDictTransfer c.l) s = .next (waiting c 6 r u)) ∧
    (∀ r u, c.x ≠ 0 → 1 ≤ g 4 → g 4 ≤ 4096 → g 1 < 2 ^ 24 → g 5 = 1 → s1.bufReadable c.p (g 3) (g 4) = true →
      sysWrite c (g 1) (g 2) (g 3) (g 4) s1 = .ok r u → Machine.exec (.sysDictTransfer c.l) s = .next (waiting c 6 r u))

/-- R193, R194, R304, R331: SYS 8 to 11: an accepted descriptor gets the next ticket, a ticket's state is answered, an ISDU request and a
HART command are queued with their buffer. R133, R369, R372, R394: SYS 12 and 13: a store operation is queued with its record, a doorbell
and a cancel act on a queue the Pavilion owns; a service that Class A is not served answers STATE_ERROR to it and has no effect. -/
def Obligations.SysServices : Prop :=
  (∀ (c : Ctx) (s : State), Ready c 1 1 s →
    let b := s.bank c.l c.x
    let g := fun (n : Nat) => (b.gr (BitVec.ofNat 4 n)).toNat
    let s1 := Begun c 1 s
    (∀ d u, g 1 % 8 = 0 → s1.bufReadable c.p (g 1) 32 = true → bufRead c (g 1) 32 s1 = .ok d u → s1.dmaCode c.p c.x d = Err.ok →
      Machine.exec (.sysDmaSubmit c.l) s = .next (waiting c 8 [(0, Err.ok), (1, (s.pav c.p).ticket + 1)] (dmaSubmit c.p d u))) ∧
    (∀ st, s1.ticketState c.p (g 1) = some st →
      Machine.exec (.sysDmaStatus c.l) s = .next (waiting c 9 [(0, Err.ok), (1, st)] s1)) ∧
    (s1.ticketState c.p (g 1) = none → ∃ v,
      Machine.exec (.sysDmaStatus c.l) s = .next (waiting c 9 [(0, Err.value), (1, v)] { s1 with fresh := s.fresh + 1 })) ∧
    (∀ d u, c.x ≠ 0 → s1.isduCode c.p (g 1) (g 2) (g 3) (g 4) = Err.ok → bufRead c (g 3 + 8) (g 4 - 8) s1 = .ok d u →
      let write := bitOf (g 2) 24
      let q : BufReq := { pav := c.p, buf := g 3, len := g 4, code := g 2 % 2 ^ 24, write := write, data := if write then d else [], at_ := s.now }
      Machine.exec (.sysIsduRequest c.l) s =
        .next (waiting c 10 [(0, Err.ok)] (bufPut c.p (g 3) (le 2 0) (updIol (g 1) (fun x => { x with isdu := some q }) u)))) ∧
    (∀ d u, c.x ≠ 0 → s1.hartCode c.p (g 1) (g 2) (g 3) (g 4) = Err.ok → bufRead c (g 3 + 8) (g 2 / 256) s1 = .ok d u →
      let q : BufReq := { pav := c.p, buf := g 3, len := g 4, code := g 2 % 256, data := d, at_ := s.now }
      Machine.exec (.sysHartCommand c.l) s =
        .next (waiting c 11 [(0, Err.ok)] (bufPut c.p (g 3) (le 2 0) (updHart (g 1) (fun x => { x with req := some q }) u))))) ∧
  (∀ (c : Ctx) (s : State), Ready c 1 1 s →
    let b := s.bank c.l c.x
    let g := fun (n : Nat) => (b.gr (BitVec.ofNat 4 n)).toNat
    let s1 := Begun c 1 s
    let store := fun (op : Nat) (i : Instr) => c.x ≠ 0 → g 1 = op → s1.storeCode c.p op (s1.bank c.l c.x) = Err.ok →
      let n := if op = 3 then 0 else g 4
      let q : StoReq := { pav := c.p, op := op, off := g 2, buf := g 3, len := n, rec_ := g 5 }
      Machine.exec i s =
        .next (waiting c 12 [(0, Err.ok), (4, n)] (bufPut c.p (g 5) (le 2 0) (updSto (fun x => { x with reqs := x.reqs ++ [q] }) s1)))
    store 0 (.sysPavstoreRead c.l) ∧ store 1 (.sysPavstoreWrite c.l) ∧ store 2 (.sysPavstoreTrim c.l) ∧ store 3 (.sysPavstoreSync c.l) ∧
    (g 1 ≤ 7 → g 2 ≤ 15 → s.queueOwner (g 1) (g 2) = c.p →
      Machine.exec (.sysCanDoorbell c.l) s = .next (waiting c 13 [(0, Err.ok)] (doorbell (g 1) (g 2) s1))) ∧
    (∀ e q, g 1 ≤ 7 → q ≤ 15 → e < 1024 → g 2 = q + 256 + e * 65536 → s.queueOwner (g 1) q = c.p →
      Machine.exec (.sysCanCancel c.l) s = .next (waiting c 13 [(0, (cancelEntry (g 1) q e s1).1)] (cancelEntry (g 1) q e s1).2)) ∧
    (c.x = 0 →
      Machine.exec (.sysDictTransfer c.l) s = .next (waiting c 6 [(0, Err.state), (4, 0)] s1) ∧
      Machine.exec (.sysIsduRequest c.l) s = .next (waiting c 10 [(0, Err.state)] s1) ∧
      Machine.exec (.sysHartCommand c.l) s = .next (waiting c 11 [(0, Err.state)] s1) ∧
      (∀ e ∈ [(0, Instr.sysPavstoreRead c.l), (1, .sysPavstoreWrite c.l), (2, .sysPavstoreTrim c.l), (3, .sysPavstoreSync c.l)], g 1 = e.1 →
        Machine.exec e.2 s = .next (waiting c 12 [(0, Err.state), (4, 0)] s1))))

/-- R136: FENCE with an empty egress buffer completes; with a store in it the lane waits, until FENCE_DRAIN_COMPLETE empties the buffer and
the instruction retires. R133, R139: SYS_SERVICE_COMPLETE: the results of the service are in the G registers of the waiting task, and the
call retires. -/
def Obligations.ArbourWaiting : Prop :=
  (∀ (c : Ctx) (s : State),
    (Ready c 1 1 s → (s.lane c.l).egress = 0 → Does (.arbFence c.l) s (Writes c 1 id (Begun c 1 s))) ∧
    (Ready c 1 1 s → (s.lane c.l).egress ≠ 0 → Machine.exec (.arbFence c.l) s = .next (waiting c drainWait (s.task c.p c.x).sysG (Begun c 1 s))) ∧
    (c.l < 12 → (s.pav c.p).step = false →
      let e := updLane c.l (fun x => { x with egress := 0 }) s
      (e.waiter c.l (fun n => n = drainWait) = some c → (s.task c.p c.x).sysG = [] →
        Machine.exec (.fenceDrainComplete c.l) s = .next (retire c 1 (waiting c 0 [] (setBank c.l c.x (s.bank c.l c.x) e)))) ∧
      (e.waiter c.l (fun n => n = drainWait) = none → Machine.exec (.fenceDrainComplete c.l) s = .next e))) ∧
  (∀ (c : Ctx) (s : State), c.l < 12 → s.waiter c.l (fun n => n ≠ 0 && n ≠ 256) = some c → (s.pav c.p).step = false →
    let w := s.task c.p c.x
    let put := fun (b : Bank) => w.sysG.foldl (fun b e => b.setGr (BitVec.ofNat 4 e.1) (BitVec.ofNat 64 e.2)) b
    Does (.sysServiceComplete c.l) s (fun t =>
      t.bank c.l c.x = put (s.bank c.l c.x) ∧ t.task c.p c.x = { w with sysN := 0, sysG := [], retired := w.retired + 1 } ∧
      t = { s with banks := t.banks, scan := { s.scan with tasks := t.scan.tasks } }))

/-- R118, R121, R123, R125, R126, R140: the words that are illegal: an unassigned opcode, PUSH with tag 11, LDF of flag 7, a timer or
counter record outside its spaces, and MUX of no elements. Each takes the illegal-opcode trap with its subcode and does nothing else. R139:
an instruction that the instruction budget does not hold takes the budget trap, and R81 counts it as the overrun INSTR_BUDGET: the task is
not trapped, and no last-trap record is written by the trap itself. R141, R142: what a trap other than BUDGET leaves where the Pavilion is
not in HOLD: under a policy that goes on, EV 0192+p with its payload, and the last-trap record; under a policy that stops, the Pavilion is
due to STOP. -/
def Obligations.ArbourTraps : Prop :=
  (∀ (c : Ctx) (s : State), s.ctx c.l = some c → fetchCheck c 1 s = .ok () s →
    ∀ (sub fl : Nat) (sp : Space) (off : BitVec 18) (a nar u : Bool) (ga : BitVec 4),
    let illegal := fun (i : Instr) (k : Nat) => Machine.exec i s = .next (takeTrap c (s.bank c.l c.x).pc.toNat Cause.illegal k 0 s)
    illegal (.illegalOpcode c.l sub) (max 1 sub) ∧ illegal (.arbPush c.l 3) 2 ∧ (7 ≤ fl → illegal (.arbLdf c.l fl) 2) ∧
    (sp ≠ .t → sp ≠ .d → illegal (.arbTon c.l sp off) 2 ∧ illegal (.arbTof c.l sp off) 2 ∧ illegal (.arbTp c.l sp off) 2) ∧
    (sp ≠ .c → sp ≠ .d → illegal (.arbCtu c.l sp off) 2 ∧ illegal (.arbCtd c.l sp off) 2 ∧ illegal (.arbCtud c.l sp off) 2) ∧
    illegal (.arbMux c.l a nar u ga 0) 6) ∧
  (∀ (c : Ctx) (s : State), s.ctx c.l = some c → fetchCheck c 1 s = .ok () s →
    s.rdN (K.pavIbudget c.p c.x) < (s.task c.p c.x).retired + 1 →
    ∀ i ∈ [Instr.arbNop c.l, .arbNot c.l, .arbEnd c.l, .arbXchw c.l],
      Machine.exec i s = .next (updTask c.p c.x (fun t => { t with prevTrap := true }) (overrun c.p c.x 1 s))) ∧
  (∀ (c : Ctx) (pc cause sub addr : Nat) (s : State), cause ≠ Cause.budget → s.pavState c.p ≠ Prog.hold →
    let k := s.task c.p c.x
    let t := takeTrap c pc cause sub addr s
    (policyStops k.policy (k.trapped + 1) = false →
      Raises (Ev.pavilion c.p)
        (le 1 2 ++ le 1 cause ++ le 1 c.x ++ le 1 sub ++ le 8 (s.scanNo c.x) ++ le 4 pc ++ le 8 addr) s t ∧
      t.blobOf (kLastTrap c.p) =
        le 1 cause ++ le 1 sub ++ le 1 c.x ++ le 1 (min 255 (k.trapped + 1)) ++ le 4 pc ++ le 8 addr) ∧
    (policyStops k.policy (k.trapped + 1) = true → s.pavState c.p = Prog.run →
      (t.pav c.p).stopDue = some ((s.pav c.p).stopDue.getD 3)))

/-- R113 to R115, R188: what a load or a store of a task does to memory. A load of memory or of an image leaves the state as it is. A store
of bytes leaves them at its address and every other byte of every memory as it was; a bit store changes one bit. STW and STX store where
their operand says. R113, R190: a read of the input image by a task whose region is armed and readable: the bytes of the image, with those
the Pavilion does not own as 0. -/
def Obligations.ArbourMemoryFrame : Prop :=
  (∀ (c : Ctx) (k : Bool) (a n : Nat) (v b : Bytes) (i : Nat) (x : Bool) (s u : State),
    let sp := if targetOf a = .dtcm then Mem.tcm c.l else Mem.fabric
    let plain := targetOf a = .dtcm ∨ targetOf a = .sram ∨ targetOf a = .dram ∨ targetOf a = .output
    (targetOf a ≠ .can → targetOf a ≠ .fast → loadBytes c k a n s = .ok v u → u = s) ∧
    (plain → storeData c a (.bytes b) s = .ok () u →
      (∀ j < b.length, u.byte sp (a + j) = b.getD j 0) ∧
      (∀ sp' y, (∀ j < b.length, cell sp' y ≠ cell sp (a + j)) → u.byte sp' y = s.byte sp' y) ∧ u.dict = s.dict ∧ u.banks = s.banks) ∧
    (plain → i < 8 → storeData c a (.bit i x) s = .ok () u →
      bitOf (u.byte sp a).toNat i = x ∧ (∀ j < 8, j ≠ i → bitOf (u.byte sp a).toNat j = bitOf (s.byte sp a).toNat j) ∧
      (∀ sp' y, cell sp' y ≠ cell sp a → u.byte sp' y = s.byte sp' y) ∧ u.dict = s.dict ∧ u.banks = s.banks) ∧
    (∀ (w : BitVec 2) (acc : Bool) (ga : BitVec 4) (imm : BitVec 12), Ready c 1 1 s →
      a = ((Begun c 1 s).bank c.l c.x).indexed ga imm → b = le (widthOf w) (((Begun c 1 s).bank c.l c.x).accu acc).toNat → plain →
      storeData c a (.bytes b) (Begun c 1 s) = .ok () u → (u.pav c.p).step = false →
      Does (.arbStx c.l w acc ga imm) s (fun t =>
        (∀ j < b.length, t.byte sp (a + j) = b.getD j 0) ∧
        (∀ sp' y, (∀ j < b.length, cell sp' y ≠ cell sp (a + j)) → t.byte sp' y = s.byte sp' y) ∧ t.dict = s.dict)) ∧
    (∀ (w : BitVec 2) (acc : Bool) (o : Space) (off : BitVec 18), Ready c 1 1 s →
      addrOf c o off true (Begun c 1 s) = .ok a (Begun c 1 s) → b = le (widthOf w) (((Begun c 1 s).bank c.l c.x).accu acc).toNat → plain →
      storeData c a (.bytes b) (Begun c 1 s) = .ok () u → (u.pav c.p).step = false →
      Does (.arbStw c.l w acc o off) s (fun t =>
        (∀ j < b.length, t.byte sp (a + j) = b.getD j 0) ∧
        (∀ sp' y, (∀ j < b.length, cell sp' y ≠ cell sp (a + j)) → t.byte sp' y = s.byte sp' y) ∧ t.dict = s.dict))) ∧
  (∀ (c : Ctx) (off : BitVec 18) (n : Nat) (s : State), (inBase + off.toNat) % 8 + n ≤ 8 → s.mayRead c.p (inBase + off.toNat) = true →
    loadOp c .i off n s = .ok (ofLe (s.imageBytes c (inBase + off.toNat) n)) s)

/-- R16, R17, R19, R66, R69, R98: the instants of the scan. A boundary, a freeze, a commit and a frame build have their effect once their
time has come, and none before; a freeze and a commit come once in each scan; REALIGN clears STEP_SUM unless a Pavilion runs. -/
def Obligations.ScanInstants : Prop :=
  ∀ (x st : Nat) (src : Path) (v : Nat) (f : Bytes) (s : State),
    Guarded (.classBoundary x) s (s.boundaryDue x = true) (boundary x) ∧
    Guarded (.inputFreeze x) s (s.engine ≠ 0 ∧ x < 2 ∧ s.classOn x = true ∧ s.phase x = 0 ∧ 0 ≤ s.sinceOff x (s.rdN (K.scanSampleAt x)))
      (freeze x) ∧
    Guarded (.outputCommit x) s (s.dispatches = true ∧ x < 2 ∧ s.classOn x = true ∧ s.phase x = 1 ∧ 0 ≤ s.sinceOff x (s.rdN (K.scanCommitAt x)))
      (commit x) ∧
    (let r := s.station st
     let c := Sta.cls r
     Guarded (.frameBuild st) s (s.dispatches = true ∧ st < 1024 ∧ s.on K.rioEnable = true ∧ Sta.enabled r = true ∧ 0 < Sta.outLen r ∧
        s.classOn c = true ∧ Tab.get s.scan.built st 0 ≠ s.scanNo c + 1 ∧ s.buildAt st ≤ s.scanTime - (s.boundaryAt c : Int)) (frameBuild st)) ∧
    Guarded (.rioInputFrame f) s (s.engine ≠ 0 ∧ s.on K.rioEnable = true) (rioInput f) ∧
    Commanded1 (.scanRealign src v) src K.scanRealign v s
      (fun s => if (List.range 256).any s.pavBusy then (Err.state, s) else (Err.ok, wr K.scanStepSum 0 s))

/-- R16: at t_s of Class A or B every byte of the class's partition of the frozen copy becomes that of the staging copy, in one step; with
no remote I/O, no other byte of memory changes with Class A. -/
def Obligations.FreezeCopiesStaging : Prop :=
  ∀ (x : Nat) (s : State), s.engine ≠ 0 → x < 2 → s.classOn x = true → s.phase x = 0 → 0 ≤ s.sinceOff x (s.rdN (K.scanSampleAt x)) →
    Does (.inputFreeze x) s (fun t =>
      (x = 0 → ∀ i < 0x8000, t.byte Mem.fabric (inBase + i) = t.byte Mem.staging i) ∧
      (x = 1 → ∀ i, 0x8000 ≤ i → i < 0x40000 → t.byte Mem.fabric (inBase + i) = t.byte Mem.staging i) ∧
      (x = 0 → s.on K.rioEnable = false → ∀ sp a, (∀ i < 0x8000, cell sp a ≠ cell Mem.fabric (inBase + i)) → t.byte sp a = s.byte sp a) ∧
      t.phase x = 1)

/-- R76, R77, R81, R460: the instants of the lanes: the start and the end of a Class A window, the ready instants of Classes B and C, the
time budgets and the deadlines, and the end of clock gating. -/
def Obligations.LaneInstants : Prop :=
  ∀ (p l x : Nat) (s : State),
    (let l := s.laneOf p
     let d := s.sinceOff 0 (s.winStart p)
     Guarded (.classAWindowStart p) s (p < 256 ∧ s.dispatches = true ∧ s.classOn 0 = true ∧ s.laneRuns l = true ∧ 0 ≤ d ∧ d < s.winLen p * us)
      (fun s =>
        let s := makeReady p 0 s
        if s.waits p 0 then runTask p 0 (updLane l (fun x => { x with window := some (3 * p) }) (preempt l s)) else s)) ∧
    (let l := s.laneOf p
     Guarded (.classAWindowEnd p) s (p < 256 ∧ s.dispatches = true ∧ (s.lane l).window = some (3 * p) ∧ 0 ≤ s.sinceOff 0 (s.winStart p + s.winLen p))
      (fun s =>
        let s := updLane l (fun x => { x with window := none }) s
        laneNext l (if (s.task p 0).st = .running then overrun p 0 2 s else s))) ∧
    Guarded (.classBReady l) s (l < 12 ∧ s.dispatches = true ∧ s.classOn 1 = true ∧ s.laneRuns l = true ∧ 0 ≤ s.sinceOff 1 (s.readyAt 1))
      (fun s =>
        let s := each (s.pavsOn l) (fun p => makeReady p 1) s
        laneNext l (if (s.lane l).run.any (fun r => r % 3 = 2) && (s.nextOf l 1).isSome then preempt l s else s)) ∧
    Guarded (.classCDispatch l) s (l < 12 ∧ s.dispatches = true ∧ s.classOn 2 = true ∧ s.laneRuns l = true ∧ 0 ≤ s.sinceOff 2 (s.readyAt 2))
      (fun s => laneNext l (each (s.pavsOn l) (fun p => makeReady p 2) s)) ∧
    (let t := s.task p x
     let budget := s.rdN (if x = 1 then K.pavTbudgetB p else K.pavTbudgetC p) * us
     Guarded (.taskTimeBudgetExpiry p x) s (p < 256 ∧ (x = 1 ∨ x = 2) ∧ t.st = .running ∧ budget ≤ t.used + (s.now - t.since)) (overrun p x 3)) ∧
    (let t := s.task p x
     let over_ := t.scan = s.scanNo x + 1 ∧ (t.st = .ended ∨ t.st = .cut ∨ t.st = .idle ∨ t.st = .halted)
     Guarded (.taskDeadline p x) s (p < 256 ∧ (x = 1 ∨ x = 2) ∧ s.dispatches = true ∧ s.classOn x = true ∧ s.pavBusy p = true ∧ s.hasTask p x = true ∧
        ¬over_ ∧ 0 ≤ s.sinceOff x (s.rdN (K.scanCommitAt x)))
      (fun s =>
        if s.pavState p = Prog.hold then (if t.st = .running ∨ t.st = .preempted then park p x s else s) else overrun p x 4 s)) ∧
    Guarded (.laneUngate l) s (l < 12 ∧ (s.lane l).gated = true) (updLane l (fun x => { x with gated := false }))

/-- R85, R86, R88, R103, R105, R175: program states from outside: the coordinated changes, RIO.HOLD, and the debugger's halt, resume, step
and loss. A request without a debug session, or in a state that does not admit it, is answered STATE_ERROR. -/
def Obligations.ProgramControl : Prop :=
  ∀ (p id : Nat) (src : Path) (v : Bytes) (s : State), p < 256 →
    Commanded (.chgRequest src v) src K.chgRequest v s (chgRequestEffect v) ∧
    Commanded (.chgCancel src id) src K.chgCancel (le 8 id) s (chgCancelEffect id) ∧
    Guarded (.remoteHoldExpiry p) s
      (s.pavState p = Prog.stop ∧ (s.pav p).remoteSafe = false ∧ s.past (s.pav p).lastCommit (s.rdN K.rioHold * ms) = true)
      (updPav p (fun v => { v with remoteSafe := true })) ∧
    (s.mayDebug = true → s.holdRefused p = none → s.pavState p = Prog.run →
      Machine.exec (.debugHalt p) s = .next (reply Err.ok [] (enterHold p s))) ∧
    (∀ r, s.mayDebug = true → s.holdRefused p = some r → s.isSplit (s.laneOf p / 3) = false → Does (.debugHalt p) s (fun t =>
      Raises Ev.debugRefused (le 1 p ++ le 1 r) s t ∧ t.answer = { code := Err.state, data := [] } ∧ t.pavState p = s.pavState p)) ∧
    (s.mayDebug = true → s.pavState p = Prog.hold →
      Machine.exec (.debugResume p) s = .next (reply Err.ok [] (updPav p (fun v => { v with go := true, step := false }) s)) ∧
      Machine.exec (.debugSingleStep p) s = .next (reply Err.ok [] (updPav p (fun v => { v with step := true, go := false }) s))) ∧
    ((s.mayDebug = false ∨ s.pavState p ≠ Prog.hold) →
      Machine.exec (.debugResume p) s = .next (reply Err.state [] s) ∧ Machine.exec (.debugSingleStep p) s = .next (reply Err.state [] s)) ∧
    (s.mayDebug = false → Machine.exec (.debugHalt p) s = .next (reply Err.state [] s)) ∧
    Guarded (.debugSessionLoss p) s (s.pavState p = Prog.hold)
      (fun s => splitEndAll (enterStop p 9 (raiseScan p 0x12 (s.fastest p) 0 (debugEnd s))))

/-- R180, R184, R206, R207: the commands of a Pavilion: loading and unloading a program, arming and disarming its regions, and the key, the
enable and the lock of its watchdog. Each is refused with STATE_ERROR while the Pavilion runs, where the spec says so. -/
def Obligations.PavilionCommands : Prop :=
  ∀ (p v : Nat) (src : Path) (s : State), p < 256 →
    (let pick := fun (k : Nat) (kept : Bytes) => if s.blobOf k = [] then kept else s.blobOf k
     Commanded (.pavLoad src p) src (K.pavLoad p) (le 1 1) s (fun s =>
      if s.pavBusy p then (Err.state, s)
      else (Err.ok, loadProgram p (pick (K.pavProgram p) (s.pav p).image) (pick (K.pavDeclare p) (s.pav p).declList) s))) ∧
    Commanded (.pavUnload src p) src (K.pavLoad p) (le 1 2) s (fun s => if s.pavBusy p then (Err.state, s) else (Err.ok, unloadProgram p s)) ∧
    Commanded (.regionArm src p) src (K.pavRegionArm p) (le 1 1) s (writeThen (K.pavRegionArm p) (le 1 1) (!s.pavBusy p) Err.state (armTable p)) ∧
    Commanded (.regionDisarm src p) src (K.pavRegionArm p) (le 1 0) s
      (writeThen (K.pavRegionArm p) (le 1 0) (!s.pavBusy p) Err.state (disarmTable p)) ∧
    Commanded (.pavWdtKey src p v) src (K.pavWdtKey p) (le 2 v) s (fun s =>
      let x := s.pav p
      let k := keyStep s.now x.keyPos x.keyBy x.keyAt src v
      if s.on (K.pavWdtLock p) then (Err.locked, s)
      else if k.1 = 3 then
        (Err.ok, raiseProt p 0x34 (s.runningClass p) 0 0 0
          (wdtFollow p Wdt.disabled (updPav p (fun x => { x with keyPos := 0, keyBy := none, wdtOn := false }) s)))
      else (Err.ok, updPav p (fun x => { x with keyPos := k.1, keyBy := k.2.1, keyAt := k.2.2 }) s)) ∧
    Commanded1 (.pavWdtEnable src p v) src (K.pavWdtEnable p) v s (fun s =>
      if (s.pav p).wdtOn then (Err.ok, s)
      else
        let st := s.pavState p
        (Err.ok, wdtFollow p (if st = Prog.run then Wdt.running else if st = Prog.hold then Wdt.frozen else Wdt.idle)
          (updPav p (fun x => { x with wdtOn := true, wdtS := s.now, wdtRan := 0 }) s))) ∧
    Commanded (.pavWdtLock src p v) src (K.pavWdtLock p) (le 1 v) s (fun s =>
      if v = 1 then writeThen (K.pavWdtLock p) (le 1 1) true Err.ok id s
      else if (s.caller src).any (fun c => 3 ≤ rank c.role) = false then (Err.roleDenied, s)
      else writeThen (K.pavWdtLock p) (le 1 0) (!s.pavBusy p) Err.state id s)

/-- R192, R194, R195, R196, R204: what the hardware does for a Pavilion: the end of a DMA transfer, the expiry of its watchdog, a fabric
cycle and the end of a ledger round. -/
def Obligations.PavilionHardware : Prop :=
  ∀ (p ticket addr : Nat) (d : Dma) (s : State),
    (Guarded (.pavWdtExpiry p) s
      (p < 256 ∧ s.rdN (K.pavWdtState p) = Wdt.running ∧ (s.pav p).wdtS + s.rdN (K.pavWdtTimeout p) * us < s.now) (wdtFail p 0x32)) ∧
    ((s.pav p).dma.find? (fun d => d.ticket = ticket && d.st < 2) = some d →
      let data := if d.zero then List.replicate d.len 0 else s.readMasked p d.src d.len
      let u := store Mem.fabric d.dst data s
      Does (.dmaTransferComplete p ticket true addr) s (fun t => t.mem = u.mem ∧
        (t.pav p).dma = (s.pav p).dma.map (fun d => if d.ticket = ticket then { d with st := 2 } else d) ∧
        t.rdN (K.quotaDmaOpen p) = openDma (t.pav p).dma) ∧
      (inSram addr = false → Machine.exec (.dmaTransferComplete p ticket false addr) s =
        .next (pavFault p 6 (raiseDma p ticket 4 (dmaTo p ticket 4 s)))) ∧
      (inSram addr = true → Machine.exec (.dmaTransferComplete p ticket false addr) s =
        .next (sramLost addr p d.cls (raiseDma p ticket 4 (dmaTo p ticket 4 s))))) ∧
    ((s.pav p).dma.find? (fun d => d.ticket = ticket && d.st < 2) = none →
      ∀ ok, Machine.exec (.dmaTransferComplete p ticket ok addr) s = .next s) ∧
    (∀ r err syn ovf, 65 ≤ r → ∀ arrivals, Machine.exec (.fabricAccess r arrivals err syn ovf) s = .next s) ∧
    (∀ r err syn, r < 65 →
      let w := updFab (fun f => { f with waited := (s.waiting r).foldl (fun w q => Tab.put w q.account true false) f.waited }) s
      let k := updFab (fun f => { f with served := Tab.upd f.served r [] (fun l => (cycleKind (w.fabChoice r) :: l).take 15) }) w
      (∀ c, w.fabChoice r = some c → Machine.exec (.fabricAccess r [] err syn false) s = .next (fabServe r err syn c k)) ∧
      (w.fabChoice r = none → Machine.exec (.fabricAccess r [] err syn false) s = .next k)) ∧
    Does .ledgerRoundEnd s (fun t => ∀ e < 257, Tab.get t.fabric.credit e 0 =
      roundCredit (Tab.get s.fabric.waited e false) (s.ledgerWeight e) (Tab.get s.fabric.credit e 0))

/-- R31 to R36, R406, R529: the event router: the next pending event is taken and delivered, a whole second opens a new rate window, POP and
OVERFLOW act on a channel, a configuration is written under its rule, and the partner's event is recorded. -/
def Obligations.EventRouter : Prop :=
  ∀ (n p v : Nat) (src : Path) (f : Bytes) (s : State),
    (∀ m, s.nextEvent = some m → Machine.exec .routerTakeEvent s = .next (takeEvent m s)) ∧
    (s.nextEvent = none → Machine.exec .routerTakeEvent s = .next s) ∧
    Guarded .eventRateWindow s (s.tbNs 4 / 1000000000 ≠ s.router.winAt) (fun s =>
      { s with router := { s.router with window := [], winAt := s.tbNs 4 / 1000000000 } }) ∧
    (n < 1280 → Commanded (.eventConfigWrite src n v) src (K.evConfig n) (le 4 v) s (eventCfgEffect n v)) ∧
    (p < 256 → Does (.eventChannelPop p) s (fun t =>
      Tab.get t.router.chan p {} = { Tab.get s.router.chan p {} with entries := (Tab.get s.router.chan p {}).entries.drop 1 } ∧
      ∀ q, q ≠ p → Tab.get t.router.chan q {} = Tab.get s.router.chan q {})) ∧
    (p < 256 → bitOf v 0 = true → Does (.eventOverflowClear p v) s (fun t =>
      Tab.get t.router.chan p {} = { Tab.get s.router.chan p {} with overflow := false } ∧
      ∀ q, q ≠ p → Tab.get t.router.chan q {} = Tab.get s.router.chan q {})) ∧
    (bitOf v 0 = false → Machine.exec (.eventOverflowClear p v) s = .next s) ∧
    Machine.exec (.partnerEventReceive f) s = .next (fromPartner f s)

/-- R38, R45, R48, R49, R50, R60, R508: the dictionary: a plain write, the commit of a journalled value, the load at BOOT, the restore of a
section, clearing the stored error codes, disabling DAP, and the toggle of STATUS3. R56: the SDO server of a controller that serves takes a
frame of 8 bytes of each kind; a transfer idle for 1,000 ms is aborted. -/
def Obligations.DictionaryCommands : Prop :=
  (∀ (src : Path) (i j k v c : Nat) (b : Bytes) (s : State),
    Machine.exec (.dictWrite src i j b) s = .next (applyWrite src i j b s) ∧
    Guarded (.dictstoreCommit k) s (s.ghRuns = true ∧ s.journal.contains k = true ∧ s.pow.flushing = false ∧ s.writeCode 6 = Err.ok)
      (commitKey k) ∧
    Guarded .dictLoad s (s.ghRuns = true ∧ s.starting = true ∧ s.dictReady = false ∧ s.pow.verified = true ∧
      (s.pow.formed = true ∨ s.mode ≠ Mode.boot) ∧ s.stor ≠ Sto.mounting ∧ s.stor ≠ Sto.held_) dictLoad ∧
    Commanded (.dictSectionRestore src v) src K.dictSectionDefaults (le 1 v) s (fun s =>
      match s.caller src with
      | some c => restoreSection c (v % 256) s
      | none => (Err.state, s)) ∧
    (c < 8 → Commanded (.commErrorFieldClear src c v) src (K.commErrorField c 0) (le 4 v) s (fun s =>
      if v = 0 then (Err.ok, each (List.range 17) (fun j => wrN (K.commErrorField c j) 0) s) else (Err.value, s))) ∧
    Commanded (.dapDisable src v) src K.dictDapEnable (le 1 v) s
      (writeThen K.dictDapEnable (le 1 v) (v = 0) Err.value (fun s => each (s.sessions.map (·.1)) closeSession s)) ∧
    (s.ghRuns = true → s.pow.verified = true → s.past s.pow.status3At (500 * ms) = true →
      Does .status3Toggle s (fun t => t.pow.status3 = !s.pow.status3 ∧ t.pow.status3At = s.now ∧ t.dict = s.dict)) ∧
    ((s.ghRuns = false ∨ s.pow.verified = false ∨ s.past s.pow.status3At (500 * ms) = false) → Machine.exec .status3Toggle s = .next s)) ∧
  (∀ (c : Nat) (f : Bytes) (s : State),
    (f.length = 8 → s.sdoServes c = true →
      (byteAt f 0 / 32 = 2 → Machine.exec (.sdoUpload c f) s = .next (sdoUpload c f s)) ∧
      (byteAt f 0 / 32 = 1 → Machine.exec (.sdoDownload c f) s = .next (sdoDownload c f s)) ∧
      Machine.exec (.sdoSegment c f) s = .next (sdoSegment c f s) ∧
      Machine.exec (.sdoBlockUpload c f) s = .next (sdoBlockUpload c f s) ∧
      Machine.exec (.sdoBlockDownload c f) s = .next (sdoBlockDownload c f s)) ∧
    Guarded (.sdoIdleTimeout c) s (c < 8 ∧ (s.sdoOf c).kind ≠ 0 ∧ s.past (s.sdoOf c).lastActivity (1000 * ms) = true)
      (sdoAbort c (s.sdoOf c).idx (s.sdoOf c).sub 0x05040000))

/-- R60, R61, R482: DAP sessions: an accepted handshake opens the session of the least free number with a full bucket; a certificate that
fails is recorded; the idle limit closes; the bucket refills up to BURST; a push is sent; an idle WRITE_SEG sequence is dropped. R60, R530,
R531: a DAP request that may be served takes a token, and is run; a session without a token is answered RATE_LIMITED. -/
def Obligations.DapProtocol : Prop :=
  (∀ (peer : Bytes) (cert : Cert) (n : Nat) (s : State),
    (s.dapServes = true → s.mode ≠ Mode.provision → s.certFails cert = 0 →
      ((s.sessions.map (·.2)).filter (·.isOpen)).length < 1016 → Does (.dapHandshake peer cert) s (fun t =>
        let x := t.session s.freeSession
        x.isOpen = true ∧ x.role = cert.role.getD .viewer ∧ x.safety = cert.safety ∧ x.scope = cert.scope ∧
        x.tokens = s.rdN K.dictDapBurst ∧ x.lastFrame = s.now)) ∧
    (s.dapServes = true → s.mode ≠ Mode.provision → s.certFails cert ≠ 0 →
      Machine.exec (.dapHandshake peer cert) s =
        .next (authFailure (raise Ev.dapAuthFailed (padTo 18 peer ++ le 1 (s.certFails cert)) (drawn s)))) ∧
    Guarded (.dapIdleTimeout n) s ((s.session n).isOpen = true ∧ s.past (s.session n).lastFrame (s.rdN K.dictDapIdle * sec) = true)
      (closeSession n) ∧
    Guarded (.dapSegSequenceTimeout n) s ((s.session n).isOpen = true ∧ (s.session n).segKey.isSome = true ∧
      s.past (s.session n).segAt (s.rdN K.dictDapIdle * sec) = true) (dropSeg n) ∧
    (let step := sec / max 1 (s.rdN K.dictDapRate)
     let x := s.session n
     (x.isOpen = true → s.past x.lastRefill step = true → x.tokens < s.rdN K.dictDapBurst →
       Does (.dapTokenRefill n) s (fun t => t.session n = { x with tokens := x.tokens + 1, lastRefill := x.lastRefill + step })) ∧
     (x.isOpen = true → s.past x.lastRefill step = true → s.rdN K.dictDapBurst ≤ x.tokens →
       Does (.dapTokenRefill n) s (fun t => t.session n = { x with tokens := s.rdN K.dictDapBurst, lastRefill := s.now }))) ∧
    (∀ b r, s.dapServes = true → (s.session n).isOpen = true → (s.session n).pushes = b :: r →
      Does (.dapEventPush n) s (fun t => t.session n = { s.session n with pushes := r, dropped := 0 } ∧
        t.sentOn (Wire.dap n) =
          dapBytes 0x87 (if (s.session n).dropped = 0 then 0 else 4 + 256 * min 255 (s.session n).dropped) 0 0 1 b))) ∧
  (∀ (n : Nat) (f : Bytes) (s : State),
    (let runs := fun (op : Nat) (i : Instr) (run : Nat → Bytes → State → DapAnswer × State) =>
      DapRequest op n f s → Machine.exec i s = .next (dapRun n f run (dapTaken n s))
     runs 1 (.dapRead n f) readRun ∧ runs 2 (.dapWrite n f) writeRun ∧ runs 3 (.dapWriteAtomic n f) atomicRun ∧
     runs 4 (.dapReadSeg n f) readSegRun ∧ runs 5 (.dapWriteSeg n f) writeSegRun ∧ runs 6 (.dapSubscribe n f) subscribeRun ∧
     runs 8 (.dapKeepalive n f) keepaliveRun ∧ runs 9 (.dapDescribe n f) describeRun ∧ runs 10 (.dapClose n f) closeRun) ∧
    (s.dapServes = true → (s.session n).isOpen = true → byteAt f 1 = 1 → (s.session n).tokens = 0 → Does (.dapRead n f) s (fun t =>
      t.sentOn (Wire.dap n) = dapBytes 0x81 0 (fieldAt f 4 4) Err.rateLimited 0 [] ∧
      (t.session n).limited = satInc U32.max (s.session n).limited ∧ t.dict = s.dict)) ∧
    (DapRequest 1 n f s → Does (.dapRead n f) s (fun t => t.dict = s.dict ∧ t.blob = s.blob ∧ t.mem = s.mem ∧
      (t.session n).tokens = (s.session n).tokens - 1)) ∧
    (DapRequest 8 n f s → Does (.dapKeepalive n f) s (fun t => t.sentOn (Wire.dap n) = dapBytes 0x88 0 (fieldAt f 4 4) Err.ok 0 [] ∧
      t.dict = s.dict)))

/-- R413, R447: the optical port: a frame of each kind reaches its service. R447, R449: the optical port: STATUS, CHALLENGE, AUTH and CLOSE
answer as their operations say, an idle session ends, and the flood measurement raises HIGH_AMBIENT. The layout of the STATUS answer and of
an AUTH token is the model's. -/
def Obligations.OpticalPort : Prop :=
  (∀ (f : Bytes) (sig asserted : Bool) (s : State),
    Machine.exec (.optWrite f sig asserted) s = .next (opticalWriteFrame f sig asserted s) ∧
    Machine.exec (.optRead f) s = .next (optFrame 5 f (fun b s =>
      match s.caller .optical, oneItem b with
      | none, _ => (Err.state, [], s)
      | _, none => (Err.protocol, [], s)
      | some c, some x =>
        let r := s.readItem .optical c x.idx x.sub x.ty
        let r := if 1016 < r.2.2.length then (Err.length, x.ty, []) else r
        (r.1, itemBytes x.idx x.sub r.2.1 r.1 r.2.2, s)) s) ∧
    Machine.exec (.optEvents f) s = .next (optFrame 2 f (fun b s =>
      if s.opt.isOpen then
        let t := took (execRecqQuery .optical b { s with answer := { code := 0xFFFF } }) s
        if t.answer.code = Err.ok then (Err.ok, Tab.get t.recd.results (pathCode .optical) [], t) else (t.answer.code, [], t)
      else (Err.state, [], s)) s)) ∧
  (∀ (f : Bytes) (sig sat : Bool) (bad ambient : Nat) (s : State),
    Machine.exec (.optStatus f) s = .next (optFrame 1 f (fun _ s => (Err.ok,
      padTo 16 (le 1 s.mode ++ le 4 (s.rdN K.ghSerial) ++ le 1 (s.rdN K.ghGrade)
        ++ le 4 (s.router.latched.filter (·.2)).length ++ le 1 (s.rdN K.modeHaltCause)), s)) s) ∧
    Machine.exec (.optChallenge f) s = .next (optFrame 3 f (fun _ s =>
      if s.rngServes false then
        (Err.ok, s.freeBytes 16, rngUse false 1 (drawn (updOpt (fun x => { x with nonce := s.freeBytes 16 }) s)))
      else (Err.hardware, [], s)) s) ∧
    Machine.exec (.optAuth f sig) s = .next (optFrame 4 f (fun b s =>
      if b.length ≠ 128 then (Err.length, [], s)
      else if fieldAt b 0 4 ≠ s.rdN K.commIdSerial then (Err.value, [], optRefused 1 s)
      else if s.opt.nonce = [] ∨ slice b 4 16 ≠ s.opt.nonce then (Err.value, [], optRefused 2 s)
      else if sig = false ∨ s.blobOf K.keysServicePub = List.replicate 97 0 then (Err.value, [], optRefused 3 s)
      else if fieldAt b 20 8 * 1000000000 ≤ s.tbNs 3 then (Err.value, [], optRefused 4 s)
      else if 2 < byteAt b 28 then (Err.value, [], s)
      else (Err.ok, [], wrN K.optState 1 (updOpt (fun x => { x with
        isOpen := true
        role := if byteAt b 28 = 2 then .engineer else if byteAt b 28 = 1 then .operator else .viewer
        nonce := [] }) s))) s) ∧
    Machine.exec (.optClose f) s = .next (optFrame 7 f (fun _ s => (Err.ok, [], optEnd s)) s) ∧
    Guarded .optIdleTimeout s (s.opt.isOpen = true ∧ s.rdN K.optState ≠ 2 ∧ s.past s.opt.lastFrame (s.rdN K.optIdle * sec) = true) optEnd ∧
    (s.ghRuns = true → s.mode ≠ Mode.dormant → s.on K.optEnable = true → s.rdN K.optState ≠ 2 →
      let u := wrN K.optAmbient (min ambient 65535) s
      (sat = false → bad < 3 → Machine.exec (.optFloodInterval sat bad ambient) s = .next (updOpt (fun x => { x with floodRun := 0 }) u)) ∧
      (sat = true ∨ 3 ≤ bad → u.opt.floodRun < 19 →
        Machine.exec (.optFloodInterval sat bad ambient) s = .next (updOpt (fun x => { x with floodRun := u.opt.floodRun + 1 }) u))))

/-- R408, R409, R411, R413: the recorder: a record is archived, the ring is frozen by one holder and merged again by it, by an ENGINEER or
after 10 s; a query answers from the record; a refused clear is recorded, and draws a new nonce. -/
def Obligations.Recorder : Prop :=
  ∀ (src : Path) (v : Bytes) (sig asserted : Bool) (n : Nat) (c : Caller) (s : State),
    (∀ e, s.writeCode 2 = Err.ok → s.pow.flushing = false → s.recd.ring.find? (fun e => e.ty ≠ Ty.pad && !e.archived) = some e →
      Machine.exec .archiveCopy s = .next (archivePut { e with archived := true } (updRec (fun r =>
        { r with ring := r.ring.map (fun x => if x.ty ≠ Ty.pad ∧ x.seq = e.seq then { x with archived := true } else x) }) s))) ∧
    Commanded (.recFreeze src) src K.recFreeze (le 1 1) s (fun s =>
      if s.rdN K.recFrozen ≠ 0 then (Err.locked, s)
      else if s.recd.endedAt.any (fun t => !s.past t (1000 * ms)) then (Err.busy, s)
      else (Err.ok, raise Ev.recFreeze (le 2 (sessionNo src) ++ le 1 1 ++ le 4 0 ++ le 4 0)
        (wrN K.recFrozen 1 (updRec (fun r => { r with holder := some src, frozenAt := s.now }) s)))) ∧
    Commanded (.recUnfreeze src) src K.recFreeze (le 1 0) s (fun s =>
      if s.rdN K.recFrozen = 0 then (Err.ok, s)
      else if s.recd.holder = some src ∨ (s.caller src).any (fun c => 2 ≤ rank c.role) then (Err.ok, recMerge s)
      else (Err.locked, s)) ∧
    Guarded .recFreezeTimeout s (s.rdN K.recFrozen = 1 ∧ s.past s.recd.frozenAt (10000 * ms) = true) recMerge ∧
    Commanded (.recqQuery src v) src K.recqQuery v s (fun s =>
      let most := fieldAt v 8 2
      match s.caller src with
      | none => (Err.state, s)
      | some c =>
        if most < 1 ∨ 1000 < most ∨ fieldAt v 14 2 ≠ 0 then (Err.value, s)
        else (Err.ok, updRec (fun r =>
          { r with results := Tab.put r.results (pathCode src) (s.recQuery c (fieldAt v 0 8) most (fieldAt v 10 2) (fieldAt v 12 2)) [] }) s)) ∧
    (∀ m, src = .dap m → s.caller src = some c → s.checkWrite src (K.recClearToken / 256) (K.recClearToken % 256) v = Err.ok →
      (sig = false → Does (.recClearToken src v sig) s (fun t =>
        t.answer = { code := Err.value, data := [] } ∧ t.rdN K.recClearRefused = satInc U32.max (s.rdN K.recClearRefused) ∧ t.recd = s.recd ∧
        Raises Ev.recClearRefused (le 1 1 ++ le 2 Err.value ++ padTo 18 (s.session m).peer) s t)) ∧
      (sig = true → fieldAt v 0 4 = s.rdN K.commIdSerial → slice v 4 16 = s.blobOf K.recClearNonce → byteAt v 28 = 0 → fieldAt v 29 3 = 0 →
        fieldAt v 20 8 < s.rdN K.recSeqNext → s.clearable = true →
        Machine.exec (.recClearToken src v sig) s = .next (reply Err.ok [] (newNonce K.recClearNonce
          (doClear 1 (fieldAt v 20 8) 0 (rank c.role) (s.session m).cert s))))) ∧
    (let u := wrB K.recKeyswitch asserted s
     u.caller src = some c → u.checkWrite src (K.recClearKeyswitch / 256) (K.recClearKeyswitch % 256) (le 8 n) = Err.ok →
     n < u.rdN K.recSeqNext → u.clearable = true → asserted = true → (∀ m, src ≠ .dap m) →
      Machine.exec (.recClearKeyswitch src n asserted) s = .next (reply Err.ok [] (newNonce K.recClearNonce
        (doClear 2 n 0 (rank c.role) ({} : Session).cert u))))

/-- R415, R416, R420, R421: the historian: the tag table is written under its rules, a full buffer ends every open segment, sampling resumes
below half, and a query answers the samples of the tag that fit. -/
def Obligations.Historian : Prop :=
  ∀ (src : Path) (g j : Nat) (v : Bytes) (s : State),
    (g < 4 → j < 64 → Commanded (.histTagTableWrite src g j v) src (K.histTagTable g j) v s (fun s =>
      let rs := (List.range 256).map (fun i => slice v (32 * i) 32)
      if rs.all tagReserved && rs.all (fun r => !Tg.enabled r || s.tagRule r) && (wrBlob (K.histTagTable g j) v s).tagLoad ≤ 2000000 * 10 ^ 18 then
        let first := g * 16384 + j * 256
        writeThen (K.histTagTable g j) v true 0 histCount
          (each ((s.hist.tags.map (·.1)).filter (fun h => first ≤ h && h < first + 256)) (endSegment 32) s)
      else (Err.value, s))) ∧
    Guarded .histBufferOverflow s (s.hist.overflow.isSome = true ∧ s.hist.overflowing = false) (fun s =>
      endSegments 32 (inc K.histOverflows U32.max (updHist (fun x => { x with overflowing := true }) s))) ∧
    (s.hist.overflowing = false → Machine.exec .histBufferDrained s = .next s) ∧
    (s.hist.overflowing = true → histBufferBytes / 2 ≤ (histDrain s).rdN K.histBufferUsed →
      Machine.exec .histBufferDrained s = .next (histDrain s)) ∧
    (s.hist.overflowing = true → (histDrain s).rdN K.histBufferUsed < histBufferBytes / 2 →
      Does .histBufferDrained s (fun t => t.hist.overflow = none ∧ t.hist.overflowing = false ∧ t.hist.discarded = 0)) ∧
    (∀ c, s.caller src = some c → s.checkWrite src (K.histqQuery / 256) (K.histqQuery % 256) v = Err.ok → s.writeHeld K.histqQuery = false →
      (fieldAt v 6 2 = 0 ∨ 2000 < fieldAt v 6 2 ∨ 1 < byteAt v 2 ∨ byteAt v 3 ≠ 0) →
        Machine.exec (.histqQuery src v) s = .next (answerWrite K.histqQuery v Err.value s)) ∧
    (∀ c, s.caller src = some c → s.checkWrite src (K.histqQuery / 256) (K.histqQuery % 256) v = Err.ok → s.writeHeld K.histqQuery = false →
      1 ≤ fieldAt v 6 2 → fieldAt v 6 2 ≤ 2000 → byteAt v 2 = 0 → byteAt v 3 = 0 → visibleTo c (s.tagOwner (fieldAt v 0 2)) = true →
      s.readCode 3 = Err.ok → s.mirrors = false → Does (.histqQuery src v) s (fun t =>
        let n := fieldAt v 0 2
        let fits := fun (p : Pt) => ofT96 (fieldAt v 8 12) ≤ p.t * 1000 * 65536 && p.t * 1000 * 65536 ≤ ofT96 (fieldAt v 20 12) &&
          (fieldAt v 4 2 = 0xFFFF || fieldAt v 4 2 = p.era % 65536)
        let held := (s.hist.points ++ s.hist.buffered).filter (fun p => p.tag = n && fits p)
        let last := if s.tbVal 3 ≤ ofT96 (fieldAt v 20 12) then (s.provisional n).filter fits else []
        t.answer = { code := Err.ok, data := [] } ∧
        Tab.get t.recd.histResults (pathCode src) [] = histResult (fieldAt v 6 2) ((held ++ last).map Pt.entry)))

/-- R475, R477, R478, R480, R490: claim, tokens, keys and debug sessions. A voucher that passes every check begins the claim; a life-cycle
token of the owner whose fields and signature hold is taken, and the module resets; a refused one counts towards AUTH and draws a new nonce;
a debug token opens the session with its scope, or is refused with its reason; DBG.CLOSE and EXPIRY end it. R483 to R488: the monitors and
the entropy source: a first reading notes the sources it indicates, a second that confirms them raises them once; the keys are destroyed,
and 1 s later the module resets with cause 7; the alarm is acknowledged; a failed continuous test degrades the generator, and a third within
an hour faults it; a due reseed starts the count anew. -/
def Obligations.KeysMonitorsAndEntropy : Prop :=
  (∀ (src : Path) (v : Bytes) (sig : Bool) (n : Nat) (s : State),
    (src ≠ .optical ∨ s.opt.isOpen = true → Commanded (.claimVoucher src v sig) src K.lcVoucher v s (fun s =>
      let c := s.voucherCode v sig
      let u := wrN K.lcClaimResult c s
      if c = 1 then
        (Err.ok, resetIn 0 4 (updSec (fun x => { x with pendingLc := some Lc.owned })
          (createKeys (slice v 16 97) (slice v 116 97) (cryptoErase u))))
      else (Err.value, authFailure (raise Ev.claimRefused (le 1 c) u)))) ∧
    (∀ e ∈ [(1, Instr.lcTokenRelease src v sig), (2, .lcTokenReturn src v sig), (3, .lcTokenScrap src v sig), (4, .lcTokenRefurbish src v sig),
        (5, .lcTokenFinalise src v sig)], byteAt v 20 = e.1 →
      Commanded e.2 src K.lcToken v s (fun s =>
        match lcTarget s.lc e.1 with
        | none => lcRefuse Err.state s
        | some new =>
          if s.lc = Lc.owned ∧ (s.caller src).any (fun c => c.role = .owner) = false then lcRefuse Err.roleDenied s
          else if s.sec.pendingLc.isSome then lcRefuse Err.state s
          else if fieldAt v 0 4 ≠ s.rdN K.commIdSerial ∨ slice v 4 16 ≠ s.blobOf K.lcNonce ∨ sig = false then lcRefuse Err.value s
          else
            let s := updSec (fun x => { x with pendingLc := some new }) (newNonce K.lcNonce s)
            (Err.ok, resetIn 0 4 (if s.lc = Lc.owned then dropKeys s else s)))) ∧
    (∀ e ∈ [(1, Instr.lcTokenRelease src v sig), (2, .lcTokenReturn src v sig), (3, .lcTokenScrap src v sig), (4, .lcTokenRefurbish src v sig),
        (5, .lcTokenFinalise src v sig)], byteAt v 20 ≠ e.1 → Machine.exec e.2 s = .next s) ∧
    Commanded (.servicePubWrite src v) src K.keysServicePub v s (fun s =>
      if s.rdN K.keysStoreState = 1 then
        (Err.ok, wrBlob K.keysServicePub v (writeStore (overlay (overlay s.sec.store 232 v) 0 (le 4 (s.rdN K.keysGeneration + 1))) s))
      else (Err.state, s)) ∧
    Commanded (.debugToken src v sig false) src K.dbgToken v s (fun s =>
      let r := s.debugReason v sig
      let u := newNonce K.dbgNonce s
      if r = 0 then
        (Err.ok, raise Ev.debugSession (le 1 1 ++ le 2 (fieldAt v 28 2)) (wrN K.dbgScope (fieldAt v 28 2) (wrN K.dbgState 1
          (updSec (fun x => { x with dbgExpiry := fieldAt v 20 8, dbgBy := sessionNo src }) u))))
      else (if r ≤ 5 then Err.value else Err.state, authFailure (raise Ev.debugRefused1222 (le 1 r) u))) ∧
    Commanded1 (.debugClose src n) src K.dbgClose n s (fun s => (Err.ok, debugEnd s)) ∧
    Guarded .debugExpiry s (s.rdN K.dbgState = 1 ∧ s.sec.dbgExpiry ≤ s.tbNs 3 / 1000000000) debugEnd) ∧
  (∀ (mesh volt clock : Bool) (lid mv test n : Nat) (temp : Int) (src : Path) (s : State),
    (let ind := s.indicates mesh lid temp volt clock
     Does (.icehouseMonitorSample mesh lid temp volt clock) s (fun t => t.sec.indicated = ind ∧ t.rdN K.envLidLight = min lid 65535 ∧
      (-32768 ≤ temp → temp < 32768 → t.rd K.iceTemp = temp)) ∧
     let both := ind &&& s.sec.indicated
     Machine.exec (.tamperConfirm mesh lid temp volt clock mv) s =
      .next (each ((List.range 5).filter (fun i => bitOf both i && !bitOf ((if bitOf both 0 then wrN K.iceMesh 1 s else s).rdN K.alarmPresent) i))
        (fun i => raiseSource i ([0, lid, mv, 0, unsigned 4 temp].getD i 0))
        (updSec (fun x => { x with indicated := 0 }) (if bitOf both 0 then wrN K.iceMesh 1 s else s)))) ∧
    Guarded .sealedCopyDestroyed s (s.ghRuns = true ∧ s.sec.eraseBy.isSome = true ∧ s.sec.destroyedAt = none) (fun s =>
      updSec (fun x => { x with destroyedAt := some s.now })
        (if s.lc = Lc.owned then lcTo Lc.unclaimed (dropKeys s) else destroySealed s)) ∧
    (∀ t0, s.sec.destroyedAt = some t0 → s.mode ≠ Mode.icehouse → s.past t0 sec = true →
      Machine.exec .eraseResetExpiry s = .next (moduleReset 7 (updSec (fun x => { x with eraseBy := none, destroyedAt := none }) s))) ∧
    (s.sec.destroyedAt = none → Machine.exec .eraseResetExpiry s = .next s) ∧
    Commanded1 (.alarmAck src n) src K.alarmAck n s (fun s =>
      let log := (List.range (min 16 (s.rdN K.alarmTotal))).foldl
        (fun b j => overlay b (32 * j + 3) (le 1 (setBit (byteAt b (32 * j + 3)) 1 true))) (s.blobOf K.alarmLog)
      let s := emcyFollow (unlatch Ev.securityAlarm (unlatch Ev.keystoreErased (wrN K.alarmUnacked 0 (wrBlob K.alarmLog log s))))
      (Err.ok, if s.rdN K.keysStoreState = 2 then restoreStore s else s)) ∧
    (s.ghRuns = true → test = 1 ∨ test = 2 → Does (.trngHealthFail test) s (fun t =>
      let l := s.now :: s.sec.trngFails.filter (fun t => s.now < t + 3600 * sec)
      let old := s.rdN K.rngState
      t.sec.trngFails = l ∧ t.rdN K.rngLastFail = test ∧ t.rdN K.rngHealthFails = satInc U32.max (s.rdN K.rngHealthFails) ∧
      t.rdN K.rngState = (if old = Rng.notReady then old else if 3 ≤ l.length ∨ old = Rng.fault then Rng.fault else Rng.degraded))) ∧
    (s.ghRuns = true → s.rdN K.rngState = Rng.ready → s.reseedDue = true → Does .drbgReseed s (fun t =>
      t.rdN K.rngReseeds = s.rdN K.rngReseeds + 1 ∧ t.sec.drbgReqs = 0 ∧ t.sec.reseedAt = s.now)))

/-- R383 to R390, R399, R401 to R403: the storage engine: reads and writes of blocks, failures of blocks and dies, the rebuild, wear levelling,
refresh, garbage collection, the patrol scrub, suspect blocks, the stuck PFAIL# and the mount. -/
def Obligations.StorageEngine : Prop :=
  ∀ (k b die blk level to_ phase total most : Nat) (new need ok lost : Bool) (dies : List Nat) (models : Bytes) (s : State),
    (k < 7 → die < 64 → s.readCode k = Err.ok → s.onDie die blk = true → Does (.nandBlockRead k b die blk 1 level false) s (fun t =>
      t.answer = { code := Err.ok, data := [] } ∧ (t.nblk die blk).reads = (s.nblk die blk).reads + 1 ∧ t.dict = s.dict ∧ t.mem = s.mem)) ∧
    (k < 7 → die < 64 → s.readCode k = Err.ok → s.onDie die blk = true → Does (.nandBlockRead k b die blk 5 level false) s (fun t =>
      t.answer = { code := Err.hardware, data := [] } ∧ t.rdN K.storUnrecoverable = satInc U32.max (s.rdN K.storUnrecoverable) ∧
      Raises Ev.readUnrecoverable (le 1 k ++ le 8 b) s t)) ∧
    (k < 7 → die < 64 → s.readCode k ≠ Err.ok → ∀ step, 1 ≤ step → step ≤ 5 →
      Machine.exec (.nandBlockRead k b die blk step level false) s = .next (reply (s.readCode k) [] s)) ∧
    Guarded (.nandBlockWrite k die blk new) s
      (k < 7 ∧ (s.writeCode k ≠ Err.ok ∨ (s.onDie die blk = true ∧ (s.nblk die blk).retired = false))) (fun s =>
        if s.pow.flushing then updSto (fun x => { x with heldBlocks := x.heldBlocks ++ [(k, die, blk, new)] }) s
        else writeBlock k die blk new s) ∧
    Guarded (.nandProgramFail die blk) s (s.onDie die blk = true ∧ (s.stoReads = true ∨ s.stor = Sto.mounting)) (retireBlock die blk 2) ∧
    (die < 64 → s.rdN (K.dieState die) = 1 → s.stoReads = true →
      let n := Tab.get s.sto.notReady die 0 + 1
      let u := inc (K.nchErrors (die / 16)) U32.max (updSto (fun x => { x with notReady := Tab.put x.notReady die n 0 }) s)
      Machine.exec (.dieNotReadyTimeout die false) s = .next (if 3 ≤ n then dieFailed die 1 u else u) ∧
      Machine.exec (.dieNotReadyTimeout die true) s = .next (storFollow (each ((List.range 16).map (16 * (die / 16) + ·)) (fun d => dieFailed d 1)
        (raise Ev.channelFault (le 1 (die / 16)) (wrN (K.nchState (die / 16)) 2 u))))) ∧
    (∀ d rest, s.sto.rebuild = d :: rest → s.mayMove = true →
      s.past s.sto.stripeAt (s.rdN (K.diePageBytes d) * 1000 / max 1 (s.rdN K.storRebuildRate)) = true → s.sto.cursor + 1 < total →
      Does (.rebuildStripe lost total) s (fun t => t.sto.cursor = s.sto.cursor + 1 ∧ t.sto.stripeAt = s.now ∧
        t.sto.unreadable = s.sto.unreadable + b2n lost ∧ t.rdN K.storRebuildProgress = (s.sto.cursor + 1) * 1000 / total)) ∧
    (s.sto.rebuild = [] → Machine.exec (.rebuildStripe lost total) s = .next s) ∧
    (let moves := fun (i : Instr) (blk : Nat) (cond : Prop) => s.mayMove = true → s.onDie die blk = true → to_ < s.rdN (K.dieBlocks die) → to_ ≠ blk →
       (s.nblk die to_).retired = false → cond → Machine.exec i s = .next (relocate die blk to_ phase s)
     moves (.staticLevelling die blk most to_ phase) blk ((s.nblk die blk).valid = true ∧
       s.rdN (K.diePeLimit die) < 10 * ((s.nblk die most).erases - (s.nblk die blk).erases)) ∧
     moves (.blockRefresh die blk to_ phase) blk ((s.nblk die blk).due = true ∨ s.aged die blk = true ∨
       s.rdN K.storReadDisturbLimit ≤ (s.nblk die blk).reads) ∧
     moves (.garbageCollection die blk to_ phase) blk True) ∧
    (s.stoReads = true → s.pow.flushing = false → s.onDie die blk = true →
      s.past s.sto.scrubAt (s.rdN K.storScrubInterval * 3600 * sec / max 1 total) = true → s.sto.scrubPages + 1 < total →
      Does (.patrolScrubStep die blk need total) s (fun t => t.sto.scrubPages = s.sto.scrubPages + 1 ∧ t.sto.scrubAt = s.now ∧
        t.rdN K.storScrubProgress = (s.sto.scrubPages + 1) * 1000 / total ∧ (need = true → (t.nblk die blk).due = true))) ∧
    Guarded (.suspectBlockVerify die blk ok) s
      (s.onDie die blk = true ∧ s.stoWrites = true ∧ s.pow.flushing = false ∧ (s.nblk die blk).retired = false) (fun s =>
        let u := eraseBlock die blk (inc K.storSuspectBlocks U32.max s)
        raise Ev.suspectBlock (le 1 die ++ le 2 blk ++ le 1 (if ok then 2 else 1)) (if ok then u else retireBlock die blk 3 u)) ∧
    (s.stor = Sto.held_ → s.pow.pfail = true → s.sto.stuckRaised = false → ∀ t0, s.sto.stuckAt = some t0 → s.past t0 (100 * ms) = true →
      Does .pfailStuck s (fun t => Raises Ev.pfailStuck [] s t ∧ t.sto.stuckRaised = true)) ∧
    (s.stor = Sto.mounting → s.pow.verified = true → s.pow.pfail = false →
      Does (.storageMount [] models) s (fun t => t.stor = Sto.noMedia ∧ ∀ d < 64, t.rdN (K.dieState d) = 0)) ∧
    (s.stor ≠ Sto.mounting → s.stor ≠ Sto.held_ → Machine.exec (.storageMount dies models) s = .next s)

/-- R391, R394 to R396, R401: partitions and the Pavilion store: a size is written under its rules and the resize completes; the oldest
request of a Pavilion is served in its order; a joining module copies blocks, and a STANDBY module places the partner's writes. -/
def Obligations.PartitionsAndStore : Prop :=
  ∀ (src : Path) (k v p off len : Nat) (mirrored trim : Bool) (data : Bytes) (s : State),
    (k < 7 → Commanded (.partSizeWrite src k v) src (K.partSize k) (le 4 v) s (fun s =>
      let others := ((([0, 1, 2, 4, 5, 6] : List Nat).filter (· ≠ k)).map (fun j => s.rdN (K.partSize j))).foldl (· + ·) 0
      let old := s.rdN (K.partSize k)
      if s.rdN K.storUserBytes / 67108864 < others + v + 16 ∨ v * 67108864 < s.rdN (K.partUsed k) then (Err.value, s)
      else if s.writeCode k ≠ Err.ok then (s.writeCode k, s)
      else if s.sto.resize.isSome then (Err.busy, s)
      else if v = old then (Err.ok, s)
      else writeThen (K.partSize k) (le 4 v) true 0 (fun s =>
        wrN (K.partState 3) 2 (wrN (K.partState k) 2 (openIntent 2 k (updSto (fun x => { x with resize := some (k, old) }) s)))) s)) ∧
    (∀ old, s.sto.resize = some (k, old) → s.mayMove = true → Machine.exec .partitionResizeComplete s =
      .next (historianSize (updSto (fun x => { x with resize := none }) (wrN (K.partState 3) 0 (wrN (K.partState k) 0
        (closeIntent 2 k (markIntent 2 k s))))))) ∧
    (s.sto.resize = none → Machine.exec .partitionResizeComplete s = .next s) ∧
    (s.sto.reqs.find? (fun q => q.pav = p) = none → Machine.exec (.pavstoreRequestComplete p mirrored) s = .next s) ∧
    (∀ q, s.sto.reqs.find? (fun q => q.pav = p) = some q → q.op = 0 → s.readCode 4 = Err.ok → s.notCopied p q.off q.len = false →
      s.rangeWritable p q.buf q.len = true → Machine.exec (.pavstoreRequestComplete p mirrored) s =
        .next (storeDone q Err.ok q.len (bufPut p q.buf (s.bytesAt (Mem.pavstore p) q.off q.len) s))) ∧
    (∀ q, s.sto.reqs.find? (fun q => q.pav = p) = some q → q.op = 1 → q.begun = false → s.pow.flushing = false → s.writeCode 4 = Err.ok →
      (storePut p q.off q.len (some (s.bufGet p q.buf q.len)) s).mirrors = false →
      Machine.exec (.pavstoreRequestComplete p mirrored) s =
        .next (storeDone q Err.ok q.len (storePut p q.off q.len (some (s.bufGet p q.buf q.len)) s))) ∧
    (∀ q, s.sto.reqs.find? (fun q => q.pav = p) = some q → q.op = 3 → s.pow.flushing = false → s.writeCode 4 = Err.ok →
      Machine.exec (.pavstoreRequestComplete p mirrored) s = .next (storeDone q Err.ok 0 (storePlace p s))) ∧
    (Tab.get s.sto.incomplete p 0 = 0 → Machine.exec (.pavstoreMirrorCopy p data) s = .next s) ∧
    (∀ n, Tab.get s.sto.incomplete p 0 = n + 1 → s.pairOp = true → s.mode = Mode.standby → s.stoWrites = true → s.pow.flushing = false →
      data ≠ [] → 4096 * (n + 1) < s.rdN (K.quotaStore p) → Does (.pavstoreMirrorCopy p data) s (fun t =>
        t.mem = (store (Mem.pavstore p) (4096 * n) (padTo 4096 data) s).mem)) ∧
    Guarded (.pavstorePartnerWrite p trim off len data) s
      (s.pairOp = true ∧ s.mode = Mode.standby ∧ s.stoWrites = true ∧ s.pow.flushing = false ∧ p < 256 ∧ off % 4096 = 0 ∧ len % 4096 = 0)
      (fun s => send Wire.bulk (le 1 p ++ le 1 4 ++ le 8 off ++ le 4 len) (storePut p off len (if trim then none else some data) s))

/-- R495 to R504: a field update: UPD.START checks the manifest and stages, or cancels; parts are received in their turn and verified;
activation is accepted in STANDBY, or without a READY partner in ACTIVE or SERVICE; the TRIAL record is written and the module resets with
cause 8; a trial commits, fails or runs out; UPD.PREPARED is written. -/
def Obligations.FieldUpdate : Prop :=
  ∀ (src : Path) (safety vendor owner ok : Bool) (k part v : Nat) (b : Bytes) (s : State),
    Commanded (.updStart src safety vendor owner) src K.updStart (le 1 1) s (fun s =>
      if s.owned = false then (Err.state, s)
      else if s.rdN K.updState = 3 ∧ s.upd.manifest ≠ [] then
        (Err.ok, stagedCheck (each (s.partsIn [6]) (fun k => wrN (K.updPartState k) 2) (openIntent 3 0 (wrN K.updState 1 s))))
      else
        let m := s.blobOf K.updManifest
        let r := s.checkManifest m safety vendor owner
        let u := raiseSev Ev.updateManifest (le 1 r ++ le 8 (mfId m)) (if r = 1 then 3 else 4) (wrN K.updResult r s)
        if r = 1 then
          let u := wrN K.updStagedId (mfId m) (wrN K.updState 1 (updUpd (fun u => { u with manifest := m, image := [], slot := [] }) u))
          (Err.ok, stagedCheck (stagingProgress (openIntent 3 0 (each (List.range 9) (fun k s =>
            wrN (K.updPartState k) (match mfPart m (k + 1) with
              | none => 0
              | some r => if s.recSame r then 1 else 2) s) u))))
        else (if r = 10 then Err.state else Err.value, u)) ∧
    Commanded (.updCancel src) src K.updStart (le 1 2) s (fun s =>
      if s.owned = false then (Err.state, s)
      else if 1 ≤ s.rdN K.updState ∧ s.rdN K.updState ≤ 3 then (Err.ok, wrN K.updState 0 (closeIntent 3 0 (releaseImages s)))
      else (Err.ok, s)) ∧
    (k < 9 → Commanded (.updPartImageWrite src k b ok) src (K.updPartImage k) b s (fun s =>
      if s.owned = true ∧ s.partTurn k = true ∧ s.blobOf K.updSource = [] then (Err.ok, partReceived k b ok s) else (Err.state, s))) ∧
    Guarded (.updPartDownloadComplete k b ok) s (k < 9 ∧ s.partTurn k = true ∧ s.blobOf K.updSource ≠ [] ∧ s.stoWrites = true)
      (partReceived k b ok) ∧
    Guarded (.updPartVerified k true) s (k < 9 ∧ s.rdN K.updState = 1 ∧ s.rdN (K.updPartState k) = 4) (fun s =>
      stagedCheck (wrN (K.updPartState k) 5 (updUpd (fun u => { u with slot := Tab.put u.slot k (Tab.get s.upd.image k []) [] }) s))) ∧
    (k < 9 → s.rdN K.updState = 1 → s.rdN (K.updPartState k) = 4 → Does (.updPartVerified k false) s (fun t =>
      t.rdN K.updState = 3 ∧ t.rdN (K.updPartState k) = 6 ∧ Raises Ev.updateStaged (le 1 (k + 1) ++ le 1 6) s t)) ∧
    Commanded (.updActivateStandby src) src K.updActivate (le 1 1) s (fun s =>
      if s.owned = true ∧ s.rdN K.updState = 2 ∧ s.mode = Mode.standby then (Err.ok, activate 1 s) else (Err.state, s)) ∧
    Commanded (.updActivateStop src) src K.updActivate (le 1 2) s (fun s =>
      if s.owned = true ∧ s.rdN K.updState = 2 ∧ s.activeLike = true ∧ s.partnerReady = false then (Err.ok, activate 2 s) else (Err.state, s)) ∧
    Guarded .activationRecordWritten s (s.mode = Mode.update ∧ s.upd.activating.isSome = true) (fun s =>
      let r := (s.actBest.map (fun j => s.blobOf (K.updActRecord j))).getD []
      let prev := fieldAt r 10 2
      let slots := (s.partsIn [5]).foldl (fun a k => setBit a k (!bitOf prev k)) prev
      moduleReset 8 (writeAct (fun q => actRecord q 1 0 slots prev (s.rdN K.updStagedId) (fieldAt r 16 8)) (commitAll s))) ∧
    (s.upd.trial = true → s.ghRuns = true →
      Machine.exec (.trialCommit false part) s = .next (trialFail (part % 256) s) ∧
      (s.trialPassed = true → s.now ≤ s.trialEnd → Machine.exec (.trialCommit true part) s = .next (commitSet s)) ∧
      (s.trialPassed = false ∨ s.trialEnd < s.now → Machine.exec (.trialCommit true part) s = .next s)) ∧
    Guarded .trialLimitExpiry s (s.upd.trial = true ∧ s.ghRuns = true ∧ s.trialEnd ≤ s.now) (trialFail 0) ∧
    Commanded (.updPreparedWrite src v) src K.updPrepared (le 4 v) s (fun s =>
      if s.owned = false then (Err.state, s)
      else if bitOf v 12 ≠ bitOf (s.rdN K.updPrepared) 12 ∧ (s.caller src).any (·.safety) = false then (Err.roleDenied, s)
      else (Err.ok, wrN K.updPrepared v s))

/-- R351 to R358: time bases: STEP, SET, a change of source and DECLARE are written under their rules; a Sync, the loss of PTP, of an
oscillator, of PPS and of the partner act on the bases; the RTC follows TB3 and a leap second changes the UTC offset. -/
def Obligations.TimeBases : Prop :=
  ∀ (src : Path) (n k port width st sub v : Nat) (d offset delay : Int) (gm b : Bytes) (s : State),
    (n < 8 → Commanded (.tbStepWrite src n d) src (K.tbStep n) (le 8 (unsigned 8 d)) s (tbStepEffect n (signed 8 (unsigned 8 d)))) ∧
    (n < 8 → Commanded (.tbSetWrite src n v) src (K.tbSet n) (le 12 v) s (tbSetEffect n (v % 2 ^ 96))) ∧
    (n < 8 → sub = 1 ∨ sub = 2 ∨ sub = 4 →
      Commanded (.tbSourceChange src n sub b) src (256 * (0x4900 + n) + sub) b s (tbSourceEffect n sub b)) ∧
    (n < 8 → Commanded (.tbDeclare src n v) src (K.tbDeclare n) (le 1 v) s (tbDeclareEffect n v)) ∧
    (k < 4 → s.timeRuns = true → s.on (K.ptpEnable k) = true → bitOf (s.rdN (K.ptpPorts k)) port = true → 1 ≤ st → st ≤ 7 → st ≠ 3 →
      Machine.exec (.ptpSyncReceive k port offset delay gm st) s =
        .next (syncFollow (ptpTo k st (updPtp k (fun x => { x with lastSync := s.now })
          (wrBlob (K.ptpGmId k) (padTo 8 gm) (wrN (K.ptpRxPort k) port (wr (K.ptpMeanDelayNs k) delay (wr (K.ptpOffsetNs k) offset s)))))))) ∧
    ((s.on (K.ptpEnable k) = false ∨ bitOf (s.rdN (K.ptpPorts k)) port = false) →
      Machine.exec (.ptpSyncReceive k port offset delay gm st) s = .next s) ∧
    Guarded (.ptpHoldoverExpiry k) s (k < 4 ∧ s.timeRuns = true ∧ s.rdN (K.ptpState k) = 3 ∧ (s.ptp k).locked = true ∧
        s.past (s.ptp k).lastSync (s.rdN (K.ptpHoldover k) * ms) = true)
      (fun s => syncFollow (updPtp k (fun x => { x with run := 0, locked := false }) s)) ∧
    (s.timeRuns = true → Does .oscFailover s (fun t => t.rdN K.timeOsc = 1 - min 1 (s.rdN K.timeOsc) ∧
      t.rdN K.timeOscSwitches = satInc U32.max (s.rdN K.timeOscSwitches) ∧ Raises Ev.oscSwitched (le 1 (1 - min 1 (s.rdN K.timeOsc))) s t)) ∧
    Guarded .rtcUpdate s (s.timeRuns = true ∧ s.past s.sec.rtcAt (1000 * ms) = true) rtcWrite ∧
    (k < 2 → s.timeRuns = true → 100 ≤ width → Does (.ppsInEdge k width) s (fun t =>
      t.rdN (K.ppsinEdges k) = (s.rdN (K.ppsinEdges k) + 1) % 2 ^ 32 ∧ (t.pps k).seen = true ∧ (t.pps k).edgeAt = s.now)) ∧
    (width < 100 → Machine.exec (.ppsInEdge k width) s = .next s) ∧
    (k < 2 → s.timeRuns = true → (s.pps k).seen = true → s.past (s.pps k).edgeAt (1500 * ms) = true → Does (.ppsInLost k) s (fun t =>
      (t.pps k).seen = false ∧ Raises (Ev.ppsInLost k) (le 1 k) s t)) ∧
    (let m := s.rdN (K.ppsoutTimeBase k)
     Guarded (.ppsOutEdge k) s (k < 2 ∧ s.timeRuns = true ∧ s.mode ≠ Mode.boot ∧ s.on (K.ppsoutEnable k) = true ∧
        s.tbNs m % 1000000000 = s.rdN (K.ppsoutOffsetNs k) ∧ Tab.get s.net.stepAt m 0 ≠ s.now + 1 ∧
        (s.on (K.ppsoutGateUnsync k) = false ∨ s.synced m = true))
      (updPps k (fun x => { x with roseAt := some s.now }))) ∧
    Guarded .partnerSyncHoldExpiry s (s.timeRuns = true ∧ s.pairOp = true ∧ s.rdN K.cwState = 0 ∧ s.past s.pair.downAt (1000 * ms) = true)
      syncFollow ∧
    (let leap := s.rdN K.timeLeap
     let utc : Int := (s.tbNs 3 / 1000000000 : Nat) - s.rd K.timeUtcOffset
     s.timeRuns = true → leap = 1 → utc % 86400 = 0 → Machine.exec .leapSecond s =
      .next (wrN K.timeLeap 0 (setEntry K.timeUtcOffset (s.rd K.timeUtcOffset + 1) s))) ∧
    (s.rdN K.timeLeap = 0 → Machine.exec .leapSecond s = .next s)

/-- R333, R334, R337, R338, R340, R348, R349: the Ethernet switch: links, received frames, the filtering database, frame recovery, rings,
redundancy supervision and the end of a frame. R335, R341, R342, R345, R346: launch times and gates: APPLY checks the administrative list,
the list switches at its cycle start, an interval ends, preemption is verified, and frames with a launch time become eligible or are
dropped. -/
def Obligations.EthernetSwitch : Prop :=
  (∀ (src : Path) (n h r side speed v : Nat) (f : Bytes) (s : State),
    (n < 8 → s.swRuns = true → 1 ≤ speed → speed ≤ 6 → speed ≠ s.rdN (K.portSpeed n) → Machine.exec (.portLinkChange n speed) s =
      .next (startNext n (raiseSev (Ev.portLink n) (le 1 n ++ le 1 speed) 2
        (if s.rdN (K.portPreempt n) ≠ 0 then wrN (K.portPreemptState n) 1 (wrN (K.portSpeed n) speed s) else wrN (K.portSpeed n) speed s)))) ∧
    (n < 8 → s.swRuns = true → s.rdN (K.portSpeed n) ≠ 0 → (s.swPort n).queue = [] → (s.swPort n).sending = none →
      Does (.portLinkChange n 0) s (fun t => t.rdN (K.portSpeed n) = 0 ∧ t.rdN (K.portPreemptState n) = 0)) ∧
    (n < 10 → s.swRuns = true → s.portUp n = true →
      (∀ good, good = false ∨ f.length < 60 → Does (.frameReceive n f good) s (fun t =>
        t.rdN (K.portRxErrors n) = satInc U32.max (s.rdN (K.portRxErrors n)) ∧ t.mem = s.mem ∧ t.net = s.net)) ∧
      (let e := parseEth (s.rdN (K.portPvid n)) f
       let u := wrN (K.portRxFrames n) (s.rdN (K.portRxFrames n) + 1) s
       60 ≤ f.length → f.length ≤ 1514 → u.rdN (K.portState n) ≠ 1 → u.redOf n = none → (n < 8 → u.matchStream e = none) →
        let w := if n < 8 then learn n e.vid e.src u else u
        Machine.exec (.frameReceive n f true) s = .next (if e.dst = w.blobOf K.swBridgeMac then toInternal 9 e w else forward n e w))) ∧
    (s.swRuns = true → Does .fdbAgeing s (fun t =>
      t.net.fdb = s.net.fdb.filter (fun e => s.now < e.at_ + s.rdN K.swFdbAge * 1000 * ms) ∧ t.rdN K.swFdbUsed = t.net.fdb.length)) ∧
    Commanded1 (.fdbFlush src v) src K.swFdbFlush v s (fun s =>
      (Err.ok, wrN K.swFdbUsed 0 { s with net := { s.net with fdb := [] } })) ∧
    Guarded (.frerResetTimeout h) s (h < 4096 ∧ s.swRuns = true ∧ (s.strm h).taken = true ∧ s.past (s.strm h).takenAt (100 * ms) = true)
      (updStrm h (fun x => { x with taken := false, recv := 0, history := 0 })) ∧
    Guarded .ringTxPoll s (s.swRuns = true ∧ s.past s.net.pollAt (10 * us) = true) (fun s =>
      each (s.streamsOn.filter (fun h => St.endpoint (s.streamRec h) = 2)) pollRing { s with net := { s.net with pollAt := s.now } }) ∧
    (r < 2 → s.swRuns = true → s.rdN (K.redMode r) ≠ 0 → s.past (s.red r).superAt (s.rdN (K.redLifeCheck r) * ms) = true →
      let mac := s.blobOf K.swBridgeMac
      let a := s.rdN (K.redPortA r)
      let body := beBytes 0x88FB ++ beBytes 1 ++ beBytes (s.red r).seq ++ le 1 (if s.rdN (K.redMode r) = 1 then 20 else 23) ++ le 1 6 ++ mac ++ le 2 0
      Machine.exec (.redSupervisionSend r) s = .next (egress a false
        { dst := [0x01, 0x15, 0x4E, 0x00, 0x01, 0x00], src := mac, vid := s.rdN (K.portPvid a), pcp := 0, tagged := false, rest := padTo 46 body } {}
        (updRed r (fun x => { x with superAt := s.now }) s))) ∧
    (r < 2 → s.rdN (K.redMode r) = 0 → Machine.exec (.redSupervisionSend r) s = .next s) ∧
    Guarded (.redLanDown r side) s (r < 2 ∧ side < 2 ∧ s.swRuns = true ∧ s.rdN (K.redMode r) ≠ 0 ∧
        s.past (if side = 0 then (s.red r).heardA else (s.red r).heardB) (3 * s.rdN (K.redLifeCheck r) * ms) = true)
      (redTo r side 1 (if side = 0 then s.rdN (K.redPortA r) else s.rdN (K.redPortB r))) ∧
    (∀ g, n < 10 → s.swRuns = true → (s.swPort n).sending = some g → s.past (s.swPort n).startAt (s.wireNs n g.len) = true →
      let u := updPort n (fun q => { q with sending := none }) (settleCredit n s)
      Machine.exec (.frameTransmitComplete n) s =
        .next (startNext n (ringEnd g 2 (s.swPort n).stamp (wrN (K.portTxFrames n) (u.rdN (K.portTxFrames n) + 1) u)))) ∧
    ((s.swPort n).sending = none → Machine.exec (.frameTransmitComplete n) s = .next s)) ∧
  (∀ (src : Path) (n v : Nat) (s : State), n < 8 →
    Commanded1 (.gateApply src n v) src (K.gateApply n) v s (fun s =>
      if (s.adminList n).ok then
        (Err.ok, wrN (K.gateState n) (if s.on (K.gateEnable n) then 1 else 0) (updPort n (fun p => { p with pend := some (s.adminList n) }) s))
      else (Err.value, s)) ∧
    (∀ g, s.swRuns = true → (s.swPort n).pend = some g →
      (s.listTime g.tb < g.start → Machine.exec (.gateListSwitch n) s = .next s) ∧
      (g.start ≤ s.listTime g.tb →
        let u := updPort n (fun p => { p with oper := some g, pend := none }) s
        Machine.exec (.gateListSwitch n) s = .next (startNext n (raise Ev.gateListApplied (le 1 n ++ le 12 (t96 g.base))
          (wrN (K.gateOperBase n) (t96 g.base) (wrN (K.gateState n) (if u.on (K.gateEnable n) then 2 else 0) u)))))) ∧
    (s.swRuns = true → (s.swPort n).pend = none → Machine.exec (.gateListSwitch n) s = .next s) ∧
    (s.swRuns = true → (s.swPort n).sending = none → Machine.exec (.gateIntervalEnd n) s = .next (startNext n s)) ∧
    (∀ f, s.swRuns = true → (s.swPort n).sending = some f → s.rdN (K.portPreemptState n) ≠ 2 → Machine.exec (.gateIntervalEnd n) s = .next s) ∧
    (s.swRuns = true → s.rdN (K.portPreempt n) ≠ 0 →
      Machine.exec (.preemptVerify n true) s = .next (startNext n (wrN (K.portPreemptState n) 2 s)) ∧
      Does (.preemptVerify n false) s (fun t => t.rdN (K.portPreemptState n) = 3 ∧ Raises Ev.preemptVerifyFailed (le 1 n) s t)) ∧
    (s.swRuns = true → Machine.exec (.launchTimeReached n) s = .next (startNext n (updPort n (fun p =>
      { p with queue := p.queue.map (fun f =>
        { f with eligible := f.launch.any (fun t => t ≤ s.listTime f.base + s.rd (K.portEgressLat n)) }) }) s))) ∧
    (s.swRuns = true →
      let late := fun (f : TxFrame) => f.launch.isSome && f.sent = 0 && decide ((s.rdN (K.portLateTol n) : Int) < s.lateness f)
      Machine.exec (.launchLateDrop n) s = .next (each ((s.swPort n).queue.filter late) (fun f s => dropLate n (s.lateness f) f s)
        (updPort n (fun p => { p with queue := p.queue.filter (fun f => !late f) }) s))))

/-- R361, R362, R364, R366, R367: CAN controllers: ENABLE starts and stops one, a received frame is counted and reaches its object and the
engine, errors count, a stuck bus and bus-off are left as the rules say, and an object is read under its lock. -/
def Obligations.CanControllers : Prop :=
  ∀ (src : Path) (c o p x v kind : Nat) (f : CanFrame) (idle memok gate err heavy ok : Bool) (s : State),
    Commanded (.canEnable src c v idle memok) src (K.canEnable c) (le 1 v) s
      (writeThen (K.canEnable c) (le 1 v) (v = 1) Err.value (canEnableEffect c idle memok)) ∧
    Commanded (.canDisable src c v) src (K.canEnable c) (le 1 v) s
      (writeThen (K.canEnable c) (le 1 v) (v = 0) Err.value (canDisableEffect c)) ∧
    Commanded1 (.canRecover src c v) src (K.canRecover c) v s (fun s => (Err.ok, canRecoverEffect c s)) ∧
    ((s.canSt c).waiting = false → s.canHears c = true → s.restricted = true → f.fdf = false → s.rdN (K.canNodeId c) = 0 →
      let v := updCan c (fun x => { x with acked := decide (s.rdN (K.canStandbyMode c) = 0) }) (updCan c (fun x => { x with acked := false }) s)
      let u := wrN (K.canstatRxFrames c) ((s.rdN (K.canstatRxFrames c) + 1) % 2 ^ 64) v
      (∀ n, (u.objsOn c).find? (fun n => Ob.ide (u.objRec c n) = f.ide && Ob.id (u.objRec c n) = f.id) = some n →
        Machine.exec (.canFrameReceived c f false) s = .next (storeFrame c n f (u.tb64 0) u)) ∧
      ((u.objsOn c).find? (fun n => Ob.ide (u.objRec c n) = f.ide && Ob.id (u.objRec c n) = f.id) = none → u.engineKeeps c f = false →
        Machine.exec (.canFrameReceived c f false) s = .next (inc (K.canstatUnmatched c) U32.max u))) ∧
    (s.canHears c = true → s.restricted = false → 1 ≤ kind → kind ≤ 5 →
      let u := wrN (K.canLastError c) kind (inc (K.canstatErrorFrames c) U32.max s)
      Machine.exec (.canErrorDetected c kind false heavy) s = .next (canStatus c (canByCounters c
        (wrN (K.canRec c) (min 65535 (u.rdN (K.canRec c) + (if heavy then 8 else 1))) u)))) ∧
    (s.canHears c = true → s.restricted = false → 1 ≤ kind → kind ≤ 4 →
      let u := wrN (K.canLastError c) kind (inc (K.canstatErrorFrames c) U32.max s)
      Machine.exec (.canErrorDetected c kind true heavy) s = .next (canStatus c (canByCounters c (sendingFailed c
        (wrN (K.canTec c) (min 65535 (u.rdN (K.canTec c) + 8)) u))))) ∧
    Guarded (.canBusStuck c) s (s.canRuns = true ∧ 1 ≤ s.canSt8 c ∧ s.canSt8 c ≤ 3) (fun s =>
      let u := inc (K.canstatStuck c) U32.max (sendingFailed c s)
      canTo c Can.stuck (updCan c (fun x => { x with retryMs := if u.past x.leftAt (10000 * ms) then 10 else x.retryMs, stuckAt := u.now }) u)) ∧
    Guarded (.canStuckRecoveryAttempt c ok) s
      (s.canRuns = true ∧ s.canSt8 c = Can.stuck ∧ s.past (s.canSt c).stuckAt ((s.canSt c).retryMs * ms) = true) (fun s =>
        if ok then canTo c Can.active (updCan c (fun x => { x with leftAt := s.now, retryMs := min 10000 (2 * x.retryMs) }) s)
        else updCan c (fun x => { x with retryMs := min 10000 (2 * x.retryMs), stuckAt := s.now }) s) ∧
    Guarded (.canBusoffRecovered c) s
      (s.canRuns = true ∧ s.canSt8 c = Can.busOff ∧ (s.on (K.canAutoRecover c) = true ∨ (s.canSt c).recover = true)) (fun s =>
        canTo c Can.active (updCan c (fun x => { x with recover := false }) s)) ∧
    Guarded (.canControllerFault c kind) s (s.canRuns = true ∧ s.canSt8 c ≠ Can.disabled ∧ s.canSt8 c ≠ Can.fault) (fun s =>
      raise (Ev.canControllerFault c) (le 2 0xFFFF ++ le 1 kind) (canTo c Can.fault (updCan c (fun x => { x with faulted := true }) s))) ∧
    (s.canRuns = true → gate = true ∨ Ob.owner (s.objRec c o) = p →
      let who := if gate then 0 else laneHolder p x
      let u := if err then objError c o s else s
      Machine.exec (.canObjectReadWord0 c o p x gate err) s = .next (reply Err.ok (le 4 (readWord0 c o who u).1) (readWord0 c o who u).2) ∧
      Machine.exec (.canObjectReadWord19 c o p x gate err) s = .next (reply Err.ok (le 4 (readWord19 c o who u).1) (readWord19 c o who u).2)) ∧
    Guarded (.canGatehouseLockTimeout c o) s ((s.obj c o).holder = some 0 ∧ s.past (s.obj c o).lockAt (100 * us) = true) (releaseObj c o false)

/-- R370, R371, R374 to R379: CAN transmission and the CiA 301 engine: a buffer is filled, starts and ends; arbitration is lost; NMT
commands, heartbeats, SYNC, RPDOs and TPDOs act on the controller they reach. -/
def Obligations.CanEngine : Prop :=
  ∀ (c cs j n cnt node : Nat) (data : Bytes) (s : State),
    (∀ b q t, (s.canSt c).waiting = false → s.canFeeds c = true → s.fillChoice c = some (b, q, t) →
      Machine.exec (.txBufferFill c) s = .next (fill c b q t s)) ∧
    (∀ b t, (s.canSt c).waiting = false → s.canHears c = true → s.restricted = false → (s.canSt c).sending = none → s.startChoice c = some (b, t) →
      Does (.txStart c) s (fun u => u.sentOn (Wire.can c) = canWire t.frame ∧ (u.canSt c).sending = some b ∧ (u.canSt c).lastStart = b)) ∧
    (∀ b, s.canHears c = true → (s.canSt c).sending = some b →
      Machine.exec (.txComplete c true) s = .next (endBuffer c b 3 0 (canByCounters c
        (wrN (K.canTec c) (s.rdN (K.canTec c) - 1) (wrN (K.canstatTxFrames c) ((s.rdN (K.canstatTxFrames c) + 1) % 2 ^ 64) s)))) ∧
      Machine.exec (.txComplete c false) s = .next (sendingFailed c s)) ∧
    Guarded (.txArbitrationLost c) s (s.canHears c = true ∧ (s.canSt c).sending.isSome = true) (fun s =>
      sendingFailed c (inc (K.canstatArbLost c) U32.max s)) ∧
    ((s.canSt c).waiting = false → s.canHears c = true → s.rdN (K.canNodeId c) ≠ 0 →
      (s.rdN (K.canNmtState c) ≠ Nmt.init → node = 0 ∨ node = s.rdN (K.canNodeId c) →
        Machine.exec (.nmtCommand c 1 node) s = .next (nmtTo c Nmt.operational s) ∧
        Machine.exec (.nmtCommand c 2 node) s = .next (nmtTo c Nmt.stopped s) ∧
        Machine.exec (.nmtCommand c 128 node) s = .next (nmtTo c Nmt.preop s) ∧
        (∀ k, k = 129 ∨ k = 130 → Machine.exec (.nmtCommand c k node) s = .next (nmtStart c (nmtTo c Nmt.init s)))) ∧
      Machine.exec (.syncReceive c cnt) s = .next (onSync c cnt s)) ∧
    (node ≠ 0 → node ≠ s.rdN (K.canNodeId c) → (s.canSt c).waiting = false → Machine.exec (.nmtCommand c cs node) s = .next s) ∧
    Guarded (.canHbProduce c) s (s.canRuns = true ∧ s.rdN (K.canNodeId c) ≠ 0 ∧ s.rdN (K.canNmtState c) ≠ Nmt.init ∧ s.rdN (K.commHbProducer c) ≠ 0 ∧
        s.past (s.canSt c).hbAt (s.rdN (K.commHbProducer c) * ms) = true) (fun s =>
      sysSend c (0x700 + s.rdN (K.canNodeId c)) (le 1 (s.rdN (K.canNmtState c))) none 0 (updCan c (fun x => { x with hbAt := s.now }) s)) ∧
    (let w := s.rdN (K.commHbConsumer c j)
     s.canRuns = true → j < 8 → s.rdN (K.canNodeId c) ≠ 0 → s.rdN (K.canNmtState c) ≠ Nmt.init → bits w 15 0 ≠ 0 →
     Tab.get (s.canSt c).lapsed j false = false → s.past (Tab.get (s.canSt c).heardAt j 0) (bits w 15 0 * ms) = true →
     Does (.canHbConsumerTimeout c j) s (fun t => Raises (Ev.canNmt c) (le 1 (bits w 23 16)) s t ∧ Tab.get (t.canSt c).lapsed j false = true)) ∧
    Guarded (.syncProduce c) s (s.canHears c = true ∧ s.restricted = false ∧ s.rdN (K.canNodeId c) ≠ 0 ∧ bitOf (s.rdN (K.commSyncCobid c)) 30 = true ∧
        s.rdN (K.commCycle c) ≠ 0 ∧ (s.rdN (K.canNmtState c) = Nmt.preop ∨ s.rdN (K.canNmtState c) = Nmt.operational) ∧
        s.past (s.canSt c).syncAt (s.rdN (K.commCycle c) * us) = true) (fun s =>
      let o := s.rdN (K.commSyncOverflow c)
      let n := if 2 ≤ o then (s.canSt c).syncNo % o + 1 else 0
      onSync c n (sysSend c (s.rdN (K.commSyncCobid c) % 2 ^ 30) (if 2 ≤ o then le 1 n else []) none 0
        (updCan c (fun x => { x with syncAt := s.now, syncNo := n }) s))) ∧
    (let k := 64 * c + n
     let m := s.pdoMap (K.commRpdoMap k)
     s.canHears c = true → s.rdN (K.canNodeId c) ≠ 0 → s.rdN (K.canNmtState c) = Nmt.operational → cobValid (s.rdN (K.commRpdoCobid k)) = true →
     data.length ≤ 8 →
      (data.length < mapBytes m → Machine.exec (.rpdoReceive c n data false) s = .next (rpdoEvent c n 1 (inc (K.canstatRpdoErrors c) U32.max s))) ∧
      (mapBytes m ≤ data.length → s.rdN (K.commRpdoType k) ≤ 240 → Machine.exec (.rpdoReceive c n data false) s =
        .next (canStatus c (updRpdo c n (fun r => { r with held := some (rpdoArea m data), at_ := s.now, timeout := false }) s))) ∧
      (mapBytes m ≤ data.length → 240 < s.rdN (K.commRpdoType k) → Machine.exec (.rpdoReceive c n data false) s =
        .next (canStatus c (updRpdo c n (fun r => { r with data := rpdoArea m data, fresh := true, at_ := s.now, timeout := false }) s)))) ∧
    (let k := 64 * c + n
     Guarded (.rpdoEventTimeout c n) s (s.canRuns = true ∧ s.rdN (K.canNodeId c) ≠ 0 ∧ s.rdN (K.canNmtState c) = Nmt.operational ∧
        cobValid (s.rdN (K.commRpdoCobid k)) = true ∧ s.rdN (K.commRpdoEvent k) ≠ 0 ∧ (s.rpdo c n).timeout = false ∧
        s.past (s.rpdo c n).at_ (s.rdN (K.commRpdoEvent k) * ms) = true)
      (fun s => rpdoEvent c n 2 (canStatus c (updRpdo c n (fun r => { r with timeout := true }) s))) ∧
     Guarded (.tpdoEventTimer c n) s (s.canRuns = true ∧ 254 ≤ s.rdN (K.commTpdoType k) ∧ s.rdN (K.commTpdoEvent k) ≠ 0 ∧
        s.past (s.tpdo c n).sentAt (s.rdN (K.commTpdoEvent k) * ms) = true) (sendTpdo c n) ∧
     Guarded (.tpdoInhibitExpiry c n) s (s.canRuns = true ∧ 254 ≤ s.rdN (K.commTpdoType k) ∧ (s.tpdo c n).changed = true ∧
        s.inhibitOver c n = true) (sendTpdo c n))

/-- R86, R87, R285 to R297: digital inputs and outputs: a debounced level is taken with its edge counted and its time, EDGES is written,
output faults are set, retried and acknowledged, the off-state test runs, a field supply changes state, and hold times run out. A field
voltage above 36 V lies outside the ratings. -/
def Obligations.DigitalIo : Prop :=
  ∀ (src : Path) (i o g held v p b mv : Nat) (level high stays : Bool) (temp : Int) (s : State),
    (i < 128 → s.fieldPowered = true → level ≠ bitOf (s.rdN (K.diState i)) 0 → s.rdN (K.diDebounce i) * us ≤ held →
      let sel := s.rdN (K.diEdge i)
      let w := wrN (K.diLastEdge i) ((s.tbNs 0 - held) % 2 ^ 64) (wrN (K.diState i) (if level then 3 else 0) s)
      Machine.exec (.debounceComplete i level held) s = .next (stageDi i
        (if (if level then bitOf sel 0 else bitOf sel 1) then wrN (K.diEdges i) ((w.rdN (K.diEdges i) + 1) % 2 ^ 32) w else w))) ∧
    (s.fieldPowered = false ∨ level = bitOf (s.rdN (K.diState i)) 0 ∨ held < s.rdN (K.diDebounce i) * us → Machine.exec (.debounceComplete i level held) s = .next s) ∧
    (i < 128 → Commanded (.diEdgesWrite src i v) src (K.diEdges i) (le 4 v) s (fun s =>
      (Err.ok, stageDi i (wrN (K.diEdges i) (v % 2 ^ 32) s)))) ∧
    Guarded (.doOcTrip o held) s
      (o < 96 ∧ bitOf (s.rdN (K.doState o)) 1 = true ∧ bitOf (s.rdN (K.doFault o)) 5 = false) (fun s =>
      if held < s.rdN (K.doOcDelay o) then stageDiag (doGroup o) (doStateBit o 2 (decide (0 < held)) s) else
      let latch := s.rdN (K.doRetry o) = 0
      stageDiag (doGroup o) (driveDo o (doFaultSet o 0 (updDo o (fun d =>
        { d with wait := some s.now, retryAt := none, latched := if latch then setBit d.latched 0 true else d.latched })
        (inc (K.doTrips o) U32.max s))))) ∧
    (∀ t0, o < 96 → s.rdN (K.doRetry o) ≠ 0 → (s.doCh o).wait = some t0 → s.past t0 (s.rdN (K.doRetry o) * ms) = true →
      Machine.exec (.doRetryExpiry o) s = .next (driveDo o (updDo o (fun d => { d with wait := none, retryAt := some s.now }) s))) ∧
    (o < 96 → s.rdN (K.doMode o) = 0 → bitOf (s.rdN (K.doFault o)) 5 = false →
      (1500 ≤ temp → (s.doCh o).hot = false → (s.doCh o).hotTimes = [] → Machine.exec (.doOvertemp o temp) s =
        .next (driveDo o (doFaultSet o 1 (updDo o (fun d => { d with hot := true, hotTimes := [s.now] }) s)))) ∧
      (1350 ≤ temp → temp < 1500 → Machine.exec (.doOvertemp o temp) s = .next s)) ∧
    Guarded (.doNoDrive o mv) s
      (o < 96 ∧ bitOf (s.rdN (K.doState o)) 1 = true ∧ bitOf (s.rdN (K.doState o)) 2 = false ∧ bitOf (s.rdN (K.doDiagEnable o)) 2 = true ∧
        s.past (s.doCh o).cmdAt (200 * us) = true ∧ mv + 3000 < s.rdN (K.fsupVoltage (doGroup o)) ∧ bitOf (s.rdN (K.doFault o)) 5 = false)
      (fun s => driveDo o (doFaultSet o 4 (updDo o (fun d => { d with latched := setBit d.latched 4 true }) s))) ∧
    (let d := s.doCh o
     let en := s.rdN (K.doDiagEnable o)
     Guarded (.doOffStateTest o high stays) s
      (o < 96 ∧ s.rdN (K.doMode o) = 0 ∧ bitOf (s.rdN (K.doState o)) 1 = false ∧ s.roleDrives = true ∧ s.fieldOn = true ∧
        (bitOf en 0 = true ∨ bitOf en 1 = true) ∧ s.past d.testAt (100 * ms) = true ∧ s.past d.cmdAt (3 * ms) = true ∧
        s.past (Tab.get s.fld.supAt (doGroup o) 0) (3 * ms) = true ∧ bitOf (s.rdN (K.doFault o)) 5 = false)
      (fun s =>
        let u := updDo o (fun d =>
          { d with
            testAt := s.now
            suspOpen := if high && bitOf en 0 then d.suspOpen + 1 else 0
            goodOpen := if high then 0 else d.goodOpen + 1
            suspShort := if stays && bitOf en 1 then d.suspShort + 1 else 0
            goodShort := if stays then 0 else d.goodShort + 1 }) s
        offTest o 3 (u.doCh o).suspShort (u.doCh o).goodShort stays (offTest o 2 (u.doCh o).suspOpen (u.doCh o).goodOpen high u))) ∧
    (o < 96 → Commanded1 (.doAck src o v) src (K.doAck o) v s (fun s =>
      let d := s.doCh o
      let clear := fun (i : Nat) (s : State) => if bitOf d.latched i && !(i = 1 && d.hot) then doFaultClear o i s else s
      let s := clear 4 (clear 1 (clear 0 s))
      (Err.ok, driveDo o (if bitOf d.latched 0 then updDo o (fun d => { d with wait := none }) s else s)))) ∧
    (36000 < mv → Machine.exec (.fieldSupplyChange g mv held) s = .fault (.outsideRatings "VFIELD")) ∧
    (let old := s.rdN (kSupState g)
     let new := supplyState old mv
     mv ≤ 36000 → (9 ≤ g ∨ new = old ∨ held < supplyHold old new ∨ bitOf (s.rdN (K.adcStatus 4)) 3 = true) →
      Machine.exec (.fieldSupplyChange g mv held) s = .next s) ∧
    (let old := s.rdN (kSupState 8)
     let new := supplyState old mv
     mv ≤ 36000 → new ≠ old → supplyHold old new ≤ held → bitOf (s.rdN (K.adcStatus 4)) 3 = false → new ≠ 2 →
      let w := wrN (kSupVoltage 8) (mv % 65536) (wrN (kSupState 8) new s)
      Machine.exec (.fieldSupplyChange 8 mv held) s = .next (each (List.range 16) (aoSupply false)
        (raiseSev Ev.vsensSupply (le 1 new ++ le 2 mv) (if new = 3 then 4 else if new = 1 then 3 else 2)
          { w with fld := { w.fld with supAt := Tab.put w.fld.supAt 8 s.now 0 } }))) ∧
    Guarded (.blockHoldExpiry b) s (b < 56 ∧ s.blockDue b = true) (expireBlock b) ∧
    Guarded (.pavStopHoldExpiry p) s (p < 256 ∧ s.pavState p = Prog.stop) (fun s => outSafeIf p (each (s.blocksOf p) evalBlock s)) ∧
    Guarded (.pavHoldLimitExpiry p) s (p < 256 ∧ s.pavState p = Prog.hold ∧ s.past (s.pav p).holdAt (s.rdN (K.pavHoldLimit p) * ms) = true)
      (fun s => outSafeIf p (each (s.blocksOf p) evalBlock (updPav p (fun v => { v with remoteSafe := true }) s)))

/-- R299 to R305: IO-Link ports: the mode is written, a wake-up is answered or fails after three attempts, the device's answer is checked, a
cycle completes or fails, an overload and a retry of a fault act, and ISDUs and device events are reported. -/
def Obligations.IoLinkPorts : Prop :=
  ∀ (src : Path) (n v com vendor dev inl outl minc ma held err qual code : Nat) (low follow invalid : Bool) (data : Bytes) (s : State), n < 32 →
    Commanded (.iolModeWrite src n v) src (K.iolMode n) (le 1 v) s
      (writeThen (K.iolMode n) (le 1 v) (!s.ownerBusy (K.iolOwner n)) Err.state (fun s =>
        let u := updIol n (fun x => { x with retried := false }) s
        if v = 0 then iolTo n Iols.deactivated (isduAbort n u)
        else if u.rdN (K.iolState n) = Iols.passive then u
        else if u.roleDrives then iolStart n u
        else iolTo n Iols.passive u)) ∧
    (s.rdN (K.iolState n) = Iols.startup → s.rdN (K.iolCom n) = 0 → (s.iol n).attempts = 0 →
      (1 ≤ com → com ≤ 3 → Does (.iolWakeupAttempt n com low follow) s (fun t => t.rdN (K.iolCom n) = com ∧ (t.iol n).attempts = 1)) ∧
      (com = 0 → Does (.iolWakeupAttempt n com low follow) s (fun t => t.iol n = { s.iol n with
        attempts := 1, lastAttempt := s.now, low := (s.iol n).low && low, follow := (s.iol n).follow && follow }))) ∧
    (s.rdN (K.iolState n) = Iols.startup → s.rdN (K.iolCom n) ≠ 0 →
      let u := wrN (K.iolDevVendor n) (vendor % 65536) (wrN (K.iolDevId n) (dev % 2 ^ 24) s)
      let cyc := s.rdN (K.iolCycle n)
      let bad := s.rdN (K.iolMode n) = 2 ∧ ¬(vendor = s.rdN (K.iolVendorId n) ∧ dev = s.rdN (K.iolDeviceId n))
      let lengths := inl = s.rdN (K.iolInLen n) ∧ outl = s.rdN (K.iolOutLen n)
      (bad → Machine.exec (.iolDeviceAnswer n vendor dev inl outl minc) s = .next (iolFault n 3 u)) ∧
      (¬bad → ¬lengths → Machine.exec (.iolDeviceAnswer n vendor dev inl outl minc) s = .next (iolFault n 4 u)) ∧
      (¬bad → lengths → cyc ≠ 0 → cyc < minc → Machine.exec (.iolDeviceAnswer n vendor dev inl outl minc) s = .next (iolFault n 8 u)) ∧
      (¬bad → lengths → cyc = 0 ∨ minc ≤ cyc → Machine.exec (.iolDeviceAnswer n vendor dev inl outl minc) s =
        .next (iolTo n Iols.preoperate (wrN (K.iolActCycle n) (if cyc = 0 then minc % 65536 else cyc) u)))) ∧
    Guarded (.iolOperateConfirm n) s (s.rdN (K.iolState n) = Iols.preoperate) (fun s =>
      iolTo n Iols.operate (updIol n (fun x => { x with fails := 0, retried := false }) s)) ∧
    (s.rdN (K.iolState n) = Iols.operate →
      Does (.iolCycleComplete n true invalid data) s (fun t => t.iol n = { s.iol n with
        cycles := ((s.iol n).cycles + 1) % 2 ^ 32, fresh := true, fails := 0, pdValid := !invalid, pdIn := padTo (s.rdN (K.iolInLen n)) data }) ∧
      ((s.iol n).fails < 2 → Does (.iolCycleComplete n false invalid data) s (fun t =>
        t.iol n = { s.iol n with fails := (s.iol n).fails + 1 } ∧ t.rdN (K.iolErrors n) = satInc U32.max (s.rdN (K.iolErrors n)) ∧
        t.rdN (K.iolState n) = Iols.operate))) ∧
    Guarded (.iolLplusOverload n ma held) s
      (s.rdN (K.iolState n) ≠ Iols.deactivated ∧ s.rdN (K.iolState n) ≠ Iols.fault ∧ 10000 ≤ held)
      (fun s => iolFault n 5 (wrN (K.iolLplusMa n) (ma % 65536) s)) ∧
    Guarded (.iolFaultRetry n) s (s.rdN (K.iolState n) = Iols.fault ∧ s.past (s.iol n).faultAt sec = true) (fun s =>
      let u := updIol n (fun x => { x with retried := true }) s
      if u.rdN K.vsensState = 2 then iolFault n 5 u else iolStart n u) ∧
    Machine.exec (.iolIsduComplete n true err data) s = .next (isduClose n 1 [] data s) ∧
    (∀ q, (s.iol n).isdu = some q → Machine.exec (.iolIsduComplete n false err data) s =
      .next (isduClose n 2 (if s.past q.at_ (5 * sec) then le 2 0xFF01 else le 2 err) [] s)) ∧
    (s.rdN (K.iolState n) = Iols.operate ∨ s.rdN (K.iolState n) = Iols.preoperate → Does (.iolDeviceEvent n qual code true) s (fun t =>
      (t.iol n).devEvent = true ∧ Raises (Ev.iolDeviceEvent n) (le 1 n ++ le 1 qual ++ le 2 code) s t)) ∧
    Machine.exec (.iolDeviceEvent n qual code false) s = .next s

/-- R327 to R330: HART modems: ENABLE is written, the modem sends the request in hand, a frame is counted and closes its request, and
timeouts, noise and retries act. -/
def Obligations.HartModems : Prop :=
  ∀ (src : Path) (m v preamble cause : Nat) (f : Bytes) (s : State), m < 48 →
    Commanded (.hartEnableWrite src m v) src (K.hartEnable m) (le 1 v) s (writeThen (K.hartEnable m) (le 1 v) true Err.ok (fun s =>
      if v = 0 then hartTo m Hst.disabled false s
      else if s.rdN (K.hartState m) ≠ Hst.disabled then s
      else if s.activeLike then hartTo m Hst.acquiring false s else s)) ∧
    (s.rdN (K.hartState m) = Hst.acquiring → (s.hart m).waiting = false → (s.hart m).job = 1 → s.rdN (K.hartFlags m) % 2 = 0 →
      (s.hart m).quietUntil ≤ s.now → s.activeLike = true → Does (.hartRequestSend m) s (fun t =>
        t.sentOn (Wire.hart m) = s.hartFrame m 0 false [] ∧ (t.hart m).waiting = true ∧ (t.hart m).sentAt = s.now)) ∧
    ((s.hart m).waiting = true → Machine.exec (.hartRequestSend m) s = .next s) ∧
    (s.rdN (K.hartState m) ≠ Hst.disabled → 2 ≤ preamble → s.rdN (K.hartFlags m) % 2 = 0 →
      ((s.hart m).waiting = false → Does (.hartFrameReceive m preamble f true) s (fun t =>
        t.rdN (K.hartParityErrors m) = satInc U32.max (s.rdN (K.hartParityErrors m)) ∧ t.mem = s.mem)) ∧
      (let delim := byteAt f 0
       let al := if bitOf delim 7 then 5 else 1
       let body := (f.drop (3 + al)).take (f.length - 4 - al)
       let sumOk := 4 + al ≤ f.length ∧ byteAt f (2 + al) = body.length ∧ hartSum (f.take (f.length - 1)) = f.getD (f.length - 1) 0
       (¬sumOk → (s.hart m).waiting = false → Machine.exec (.hartFrameReceive m preamble f false) s = .next (inc (K.hartChecksumErrors m) U32.max s)) ∧
       (∀ q, sumOk → delim % 8 = 6 → (s.hart m).waiting = true → (s.hart m).job = 3 → (s.hart m).req = some q →
         let u := updHart m (fun h =>
           { h with waiting := false, tries := 0, exhausted := 0, job := 0, quietUntil := s.now + hartTime 8 }) (inc (K.hartFramesOk m) U32.max s)
         Machine.exec (.hartFrameReceive m preamble f false) s =
           .next (closeBuf q 1 (body.take 2) (body.drop 2) (updHart m (fun h => { h with req := none }) u))))) ∧
    Guarded (.hartResponseTimeout m) s ((s.hart m).waiting = true ∧ s.past (s.hart m).sentAt (hartTime 28) = true) (fun s =>
      hartFail m false (inc (K.hartTimeouts m) U32.max s)) ∧
    Guarded (.hartAutoCmdDue m) s (s.rdN (K.hartState m) = Hst.inService ∧ bitOf (s.rdN (K.hartAutoCmd m)) 15 = true ∧
        s.past (s.hart m).autoAt (s.rdN (K.hartAutoPeriod m) * ms) = true) (fun s =>
      stageHart m (updHart m (fun h => { h with autoDue := true, autoAt := s.now }) s)) ∧
    Guarded (.hartNoiseAbort m cause) s (s.rdN (K.hartState m) ≠ Hst.disabled ∧ (cause = 1 ∨ cause = 2)) (fun s =>
      let was := s.rdN (K.hartFlags m) % 2 = 1
      let u := inc (K.hartNoiseAborts m) U32.max s
      let u := wrN (K.hartFlags m) (setBit (u.rdN (K.hartFlags m)) 0 true) u
      let u := updHart m (fun h => { h with noisyAt := s.now, noisySince := if was then h.noisySince else s.now }) u
      let u := raiseOwned Ev.hartNoisy (le 1 m ++ le 1 cause) (u.hartOwner m) u
      stageHart m (if (u.hart m).waiting then hartFail m true u else u)) ∧
    Guarded (.hartNoiseClear m) s (s.rdN (K.hartFlags m) % 2 = 1 ∧ s.past (s.hart m).noisyAt (50 * ms) = true) (fun s =>
      let u := wrN (K.hartNoisyMs m) (satAdd U32.max (s.rdN (K.hartNoisyMs m)) ((s.now - (s.hart m).noisySince) / ms)) s
      let u := wrN (K.hartFlags m) (setBit (u.rdN (K.hartFlags m)) 0 false) u
      stageHart m (updHart m (fun h => { h with quietUntil := s.now + u.hartQuiet m }) u)) ∧
    (∀ q, (s.hart m).waiting = false → (s.hart m).req = some q →
      (s.past q.at_ (5 * sec) = true → Machine.exec (.hartQueueTimeout m) s = .next (closeBuf q 2 (le 2 0xFF02) [] (updHart m (fun h =>
        { h with req := none, job := if h.job = 3 then 0 else h.job, tries := 0 }) s))) ∧
      (s.past q.at_ (5 * sec) = false → Machine.exec (.hartQueueTimeout m) s = .next s)) ∧
    Guarded (.hartNoDeviceRetry m) s (s.rdN (K.hartState m) = Hst.noDevice ∧ s.past (s.hart m).stateAt (10 * sec) = true)
      (hartTo m Hst.acquiring false)

/-- R309 to R313: the converters: the timer and START trigger, a conversion writes its result word, a self-test becomes due, the reference
settles or fails, and the loop converter's sequence of 32 codes is read back. The scale of the loop converter's codes is the model's free
value. R316, R319, R322, R324: the analog channels: the 1 ms tick reaches every AI in use, a stale input is flagged, the ramp tick reaches
every AO, and AO faults are set and acknowledged. -/
def Obligations.AnalogChannels : Prop :=
  (∀ (src : Path) (a v ch code : Nat) (codes : List Nat) (pass : Bool) (s : State),
    Guarded (.adcTriggerTimer a) s (a < 4 ∧ s.rdN (K.adcTrigger a) = 1 ∧ s.past (s.adc a).lastTrig (s.rdN (K.adcPeriod a) * us) = true)
      (adcTrigger a) ∧
    (a < 4 → Commanded1 (.adcStart src a v) src (K.adcStart a) v s
      (fun s => (Err.ok, if s.rdN (K.adcTrigger a) = 2 then adcTrigger a s else s))) ∧
    (a < 4 → 8 ≤ ch → ch ≤ 12 → code < 65536 → (s.adc a).left.head? = some ch → adcSettled (s.rdN (K.adcStatus a)) = true →
      s.past (s.adc a).settledAt (2 * us) = true →
      let q := updAdc a (fun x => { x with left := x.left.tail }) s
      let u := adcBit a 1 ((q.adc a).left ≠ []) q
      let w := wrN (K.adcResult a ch) ((if code = 0 ∨ code = 65535 then 2 ^ 30 else 0) + ch * 65536 + code) u
      Machine.exec (.adcConversionComplete a ch code false) s =
        .next (wrN (K.adcConversions a) ((w.rdN (K.adcConversions a) + 1) % 2 ^ 64) w)) ∧
    (a < 4 → ch ≤ 12 → code < 65536 → (s.adc a).stPending = true → ch = (s.adc a).stNext → adcSettled (s.rdN (K.adcStatus a)) = true →
      Machine.exec (.adcConversionComplete a ch code true) s = .next (selftest a ch code (adcWord a ch code s))) ∧
    Guarded (.adcSelftestDue a) s (a < 4 ∧ s.past (s.adc a).lastSt (s.rdN (K.adcSelftestInterval a) * ms) = true) (fun s =>
      updAdc a (fun x => { x with lastSt := s.now, stPending := x.stPending || adcSettled (s.rdN (K.adcStatus a)) }) s) ∧
    Guarded (.adcRefSettled a codes) s (a < 4 ∧ adcSettled (s.rdN (K.adcStatus a)) = false ∧ s.past (s.adc a).clearedAt (200 * us) = true ∧
        (s.rdN (K.adcRef a) ≠ 1 ∨ s.extSettled a codes = true)) (fun s =>
      let u := updAdc a (fun x => { x with settledAt := s.now, settling := codes.take 16 }) s
      adcBit a 2 false (adcBit a 0 true (wrN (K.adcSettleUs a) (min U32.max ((u.now - (u.adc a).clearedAt) / 1000)) u))) ∧
    Guarded (.adcRefFault a) s (a < 4 ∧ adcSettled (s.rdN (K.adcStatus a)) = false ∧ s.rdN (K.adcRef a) = 1 ∧
        s.past (s.adc a).refTestAt (100 * ms) = true) (fun s =>
      let u := updAdc a (fun x => { x with refTestAt := s.now }) s
      if bitOf (s.rdN (K.adcStatus a)) 2 then u else raiseAdc a 8 (((u.adc a).settling.headD 0) % 65536) (adcBit a 2 true u)) ∧
    (codes.length = 32 → codes.all (· < 4096) = true →
      let u := adcBit 4 0 true s
      let x := if pass then adcBit 4 3 false u
        else if bitOf (u.rdN (K.adcStatus 4)) 3 then u
        else inc (K.adcSelftestFails 4) U32.max (raiseAdc 4 11 0 (adcBit 4 3 true u))
      let y := each (List.range 32) (fun j t => wrN (0x430410 + j) (j * 65536 + codes.getD j 0) t) x
      let z := wrN (K.adcConversions 4) ((y.rdN (K.adcConversions 4) + 32) % 2 ^ 64) y
      (bitOf (z.rdN (K.adcStatus 4)) 3 = true → Machine.exec (.adc4Sequence codes pass) s = .next z) ∧
      (bitOf (z.rdN (K.adcStatus 4)) 3 = false → Machine.exec (.adc4Sequence codes pass) s =
        .next (each (List.range 9) (fun g t => wrN (kSupVoltage g) (Config.supplyMv (codes.getD (16 + g) 0)).toNat t)
          (each (List.range 16) (fun j t => stageAo j (wrN (K.aoReadbackMa j) (Config.readbackMa (codes.getD j 0)).toNat t)) z))))) ∧
  (∀ (src : Path) (i j held v : Nat) (limited : List Nat) (temp : Int) (s : State),
    Machine.exec .aoRampTick s = .next (each (List.range 16) aoTick s) ∧
    ((∀ i < 32, s.rdN (K.aiMode i) = 0) → Machine.exec (.aiTick limited) s = .next s) ∧
    (i < 32 → s.rdN (K.aiMode i) = 1 → (∀ k < 32, k ≠ i → s.rdN (K.aiMode k) = 0) → bitOf (s.rdN (K.aiFlags i)) 1 = false →
      Machine.exec (.aiTick limited) s = .next (aiTick i (aiFlag i 3 false s))) ∧
    Guarded (.aiStale i) s (i < 32 ∧ s.rdN (K.aiMode i) ≠ 0 ∧ bitOf (s.rdN (K.aiFlags i)) 1 = false ∧ s.past (s.ai i).lastConv (100 * ms) = true)
      (fun s => stageAi i (raiseAi i 3 (aiFlag i 1 true s))) ∧
    (j < 16 → s.aoOpen j = false → bitOf (s.rdN (K.adcStatus 4)) 3 = false →
      f32.lt (frat 1 2) (fsub (s.rdN (K.aoOutMa j)) (s.rdN (K.aoReadbackMa j))) = true →
      Machine.exec (.aoOpenLoop j held) s = .next (if 10000 ≤ held then aoFaultSet j 0 s else s)) ∧
    Guarded (.aoReadbackFault j) s (j < 16 ∧ s.aoOpen j = false ∧ bitOf (s.rdN (K.adcStatus 4)) 3 = false ∧ bitOf (s.rdN (K.aoFault j)) 0 = false ∧
        s.past (s.ao j).changedAt (100 * ms) = true ∧ s.past (s.ao j).leftOpen (100 * ms) = true ∧ s.aoOff j 1 5 = true) (aoFaultSet j 1) ∧
    Guarded (.aoNoSource j) s (j < 16 ∧ s.aoOpen j = false ∧ (s.ao j).fromOpen = false ∧ s.past (s.ao j).leftOpen (50 * ms) = true ∧
        f32.le (frat 7 2) (s.ao j).target = true ∧ f32.lt (s.rdN (K.aoReadbackMa j)) (f32.ofInt 1) = true) (aoFaultSet j 4) ∧
    (j < 16 → 1500 ≤ temp → Machine.exec (.aoOvertemp j temp) s = .next (aoTick j (aoFaultSet j 2 s))) ∧
    (j < 16 → 1350 ≤ temp → temp < 1500 → Machine.exec (.aoOvertemp j temp) s = .next s) ∧
    (j < 16 → Commanded1 (.aoAck src j v) src (K.aoAck j) v s (fun s =>
      let u := if s.aoOff j 1 5 then s else aoFaultClear j 1 s
      let w := if f32.lt (u.rdN (K.aoReadbackMa j)) (f32.ofInt 1) then u else aoFaultClear j 4 u
      (Err.ok, emcyFollow (unlatch (Ev.aoFault j) w)))))

/-- R452 to R457, R461: the supplies: VLOGIC comes and goes, its state is followed, the precharge completes, the SEATED contacts open and
mate, and a clock domain loses its lock and relocks. A voltage outside the ratings is a fault. -/
def Obligations.Supplies : Prop :=
  ∀ (mv : Int) (held c d n cyc diff slot : Nat) (carrier : Bytes) (vbat lost : Bool) (s : State),
    (vlogicRated mv = false →
      Machine.exec (.vlogicGood mv held carrier slot lost) s = .fault (.outsideRatings "VLOGIC") ∧
      Machine.exec (.vlogicLost mv held vbat) s = .fault (.outsideRatings "VLOGIC") ∧
      Machine.exec (.vlogicStateChange mv held) s = .fault (.outsideRatings "VLOGIC") ∧
      Machine.exec (.internalPfailWarning mv held) s = .fault (.outsideRatings "VLOGIC")) ∧
    (s.mode = Mode.icehouse → s.pow.precharged = true → 8700 ≤ mv → mv < 18000 → 1000 ≤ held → s.sec.vbatLost = false → slot < 256 →
      let ns := s.sec.iceNs + (s.now - s.sec.iceAt)
      let u := updSec (fun x => { x with iceNs := ns % 3600000000000, vbatLost := false })
        (wrN K.vbatIcehouseHours (satAdd U32.max (s.rdN K.vbatIcehouseHours) (ns / 3600000000000)) s)
      let w := wrB K.icePowerLost false (inc K.wearPowerUps U32.max u)
      let z := readVlogic mv (moduleReset 1 (updPow (fun p => { p with good := true, carrier := padTo 64 carrier, slot := slot }) w))
      (padTo 64 carrier = s.pow.carrier ∧ slot = s.pow.slot → Machine.exec (.vlogicGood mv held carrier slot false) s = .next z) ∧
      (padTo 64 carrier ≠ s.pow.carrier ∨ slot ≠ s.pow.slot → Machine.exec (.vlogicGood mv held carrier slot false) s = .next (rebase z))) ∧
    (vlogicRated mv = true →
      Guarded (.vlogicLost mv held vbat) s (s.mode ≠ Mode.icehouse ∧ (mv < 8200 ∧ 10 ≤ held ∨ 18000 ≤ mv))
        (fun s => powerDown vbat (readVlogic mv s))) ∧
    (s.ghRuns = true → 0 ≤ mv → mv < 9000 → 10 ≤ held → s.rdN K.pwrVlogicState = 0 →
      Machine.exec (.vlogicStateChange mv held) s = .next (raiseSev Ev.vlogicState (le 1 1 ++ le 2 mv.toNat) 4
        (wrN K.pwrVlogicState 1 (readVlogic mv s)))) ∧
    Guarded (.prechargeComplete diff) s (s.mode = Mode.icehouse ∧ diff ≤ 1000) (updPow (fun p => { p with precharged := true })) ∧
    (c < 2 → 20 ≤ held → bitOf (s.rdN K.pwrSeated) c = true → s.mode = Mode.icehouse → Machine.exec (.seatedOpen c held) s = .next (seatLift c s)) ∧
    (c < 2 → 20 ≤ held → bitOf (s.rdN K.pwrSeated) c = true → s.mode ≠ Mode.icehouse →
      let u := seatLift c s
      let w := raiseSev Ev.seated (le 1 (c + 1) ++ le 1 1) 4 (inc K.pwrSeatedOpens U32.max u)
      let x := updPow (fun p => { p with heldReset := true }) w
      let y := hartListenAll (iolPassiveAll (islandForce x))
      Machine.exec (.seatedOpen c held) s =
        .next (flushStart (seatFollow (each (List.range 16) (fun j => updAo j (fun x => { x with fromOpen := true })) y)))) ∧
    (c < 2 → s.fld.mated = true → bitOf (s.rdN K.pwrSeated) c = true →
      Machine.exec (.seatedMated c held) s = .next (updPow (fun p => if c = 0 then { p with seat1At := some (s.now - held * ms) }
        else { p with seat2At := some (s.now - held * ms) }) (wrN K.pwrSeated (setBit (s.rdN K.pwrSeated) c true) s))) ∧
    (c < 2 → s.fld.mated = false → (s.pow.heldReset && s.pow.flushing) = false → bitOf (s.rdN K.pwrSeated) c = true → 100 ≤ held → held * ms ≤ s.now →
      (if c = 0 then s.pow.seat2At else s.pow.seat1At).any (fun t => s.past t (100 * ms)) = true →
      let w := updPow (fun p => if c = 0 then { p with seat1At := some (s.now - held * ms) } else { p with seat2At := some (s.now - held * ms) })
        (wrN K.pwrSeated (setBit (s.rdN K.pwrSeated) c true) s)
      let y := inc K.wearMatings U32.max { w with fld := { w.fld with mated := true } }
      Machine.exec (.seatedMated c held) s = .next (seatFollow (if y.pow.heldReset then
        updGate (fun g => { g with bootAt := y.now, wdtS := y.now }) (updPow (fun p => { p with heldReset := false, bootZero := y.now }) y) else y))) ∧
    (4 ≤ d → d ≤ 10 → Machine.exec (.pllLockLoss d n cyc) s = .next (laneLocalFault n 5 cyc s)) ∧
    (¬(4 ≤ d ∧ d ≤ 10) → pllDomain d = true → s.ghRuns = true → s.rdN (K.clkState (d - 1)) ≠ 4 → Tab.get s.pow.lockLost d [] = [] →
      Machine.exec (.pllLockLoss d n cyc) s = .next (updPow (fun p => { p with
        lockLost := Tab.put p.lockLost d [s.now] [], stopped := d :: p.stopped.filter (· ≠ d) }) s)) ∧
    Guarded (.pllRelock d) s (s.pow.stopped.contains d = true ∧ s.ghRuns = true) (fun s =>
      raise Ev.pllRelock (le 1 d) (inc K.clkRelocks U32.max (updPow (fun p => { p with stopped := p.stopped.filter (· ≠ d) }) s)))

/-- R464, R469, R470: droop: the sag throttles and stretches the clock and counts; the wake sources wake a DORMANT module; VBAT is measured.
A battery voltage outside the ratings is a fault. -/
def Obligations.DroopAndWake : Prop :=
  ∀ (rail sag held chunk port c i : Nat) (mv : Int) (copying level : Bool) (f : Bytes) (s : State),
    Guarded (.droopThrottleOn rail sag) s
      (s.ghRuns = true ∧ s.mode ≠ Mode.dormant ∧ rail < 6 ∧ 30 ≤ sag ∧ s.pow.throttle = false) (fun s =>
      let u := updPow (fun p => { p with throttle := true, throttleAt := s.now }) s
      raise Ev.droopThrottle (le 1 rail ++ le 2 sag) (droopLast rail sag 1 0 (wrN K.droopThrottles (u.rdN K.droopThrottles + 1) u))) ∧
    Guarded (.droopThrottleOff sag held) s (s.pow.throttle = true ∧ sag < 20 ∧ 100 ≤ held) (fun s =>
      let d := s.now - s.pow.throttleAt
      let u := wrN K.droopThrottleNs (s.rdN K.droopThrottleNs + d) s
      let b := u.blobOf K.droopLast
      updPow (fun p => { p with throttle := false }) (if byteAt b 10 = 1 then wrBlob K.droopLast (b.take 12 ++ le 4 d) u else u)) ∧
    (s.ghRuns = true → s.mode ≠ Mode.dormant → rail < 6 → s.pow.stretch = false →
      (sag < 45 → Machine.exec (.stretchStart rail sag copying chunk) s = .next s) ∧
      (45 ≤ sag → sag < 70 → s.pow.usedNs < 5000 → Machine.exec (.stretchStart rail sag true chunk) s = .next (inc K.droopDeferred U32.max s)) ∧
      (45 ≤ sag → sag < 70 → s.pow.usedNs < 5000 → Machine.exec (.stretchStart rail sag false chunk) s =
        .next (raise Ev.droopStretch (le 1 rail ++ le 2 sag ++ le 8 s.pow.usedNs) (stretchOn 2 rail sag chunk s))) ∧
      (70 ≤ sag → Machine.exec (.stretchStart rail sag copying chunk) s =
        .next (let u := inc K.droopCritical U32.max (stretchOn 3 rail sag chunk s)
               raise Ev.stretchBudget (le 1 3 ++ le 1 rail ++ le 2 sag ++ le 8 (u.scanNo 0)) u))) ∧
    (s.pow.stretch = true → sag < 35 → 100 ≤ held →
      Machine.exec (.stretchEnd rail sag held) s = .next (let u := stretchCount s
        updPow (fun p => { p with stretch := false })
          (droopLast u.pow.stretchRail (max sag u.pow.stretchSag) u.pow.stretchKind (s.now - s.pow.stretchFrom) u))) ∧
    Guarded .stretchBudgetReset s (s.ghRuns = true ∧ (s.classOn 0 = true ∨ s.past s.pow.budgetAt ms = true)) (fun s =>
      let u := if s.pow.stretch then stretchCount s else s
      updPow (fun p => { p with usedNs := 0, budgetAt := u.now }) u) ∧
    Guarded .wakeRtc s (s.wakeArmed 0 = true ∧ s.rdN K.wakeAlarm ≠ 0 ∧ ofT96 (s.rdN K.wakeAlarm) ≤ s.rtcNow) (wakeUp 0 0) ∧
    Guarded (.wakeNetwork port f) s (s.wakeArmed 1 = true ∧ 4 ≤ port ∧ port ≤ 8 ∧ bitOf (s.rdN K.wakeNetPorts) (port - 4) = true ∧
      wakeFrame (if port = 8 then s.blobOf K.svcethMac else s.blobOf K.swBridgeMac) f = true) (wakeUp 1 port) ∧
    Guarded (.wakeCan c held) s (s.wakeArmed 2 = true ∧ c < 8 ∧ bitOf (s.rdN K.wakeCanMask) c = true ∧ 10 ≤ held) (wakeUp 2 c) ∧
    Guarded (.diWakeSample i level) s (s.wakeArmed 3 = true) (wakeDi i level (wakeUp 3 i)) ∧
    (mv < -300 ∨ 4500 < mv → Machine.exec (.vbatMeasure mv) s = .fault (.outsideRatings "VBAT")) ∧
    (1800 ≤ mv → mv < 2600 → s.mode ≠ Mode.icehouse → s.rdN K.vbatState ≠ 2 →
      Machine.exec (.vbatMeasure mv) s = .next (raiseSev Ev.vbatState (le 1 2 ++ le 2 mv.toNat) 4
        (wrN K.vbatState 2 (wrN K.vbatLast (s.tb96 3) (wrN K.vbatMv mv.toNat s)))))

/-- R398, R399, R453, R471, R473: start-up: each step takes effect in its order and sets its milestone, and a failure ends it; a power-fail
warning starts the flush, which completes, and its release ends it. -/
def Obligations.StartUp : Prop :=
  ∀ (part code test dur held bytes : Nat) (mv : Int) (s : State),
    Guarded .startupRailsGood s (s.mode = Mode.boot ∧ s.pow.good = true ∧ s.pow.heldReset = false ∧ s.pow.rails = false) (fun s =>
      milestone 1 (updPow (fun p => { p with rails := true }) s)) ∧
    (s.mode = Mode.boot → s.pow.rails = true → s.pow.released = false → s.pow.heldReset = false →
      let u := updGate (fun g => { g with wdtS := s.now }) (updPow (fun p => { p with released := true }) s)
      let w := if u.stored K.wdtLockAtBoot = 1 then wdtLock u else u
      let x := latchSettle (pendingSettle (bootSelect w))
      Machine.exec .gatehouseResetRelease s = .next (milestone 2 (keystoreCheck
        (if x.on K.icePowerLost = true ∧ x.rdN K.modeLastReset = 1 then raiseSource Src.battery 0 x else x)))) ∧
    Guarded (.wipeComplete true) s (s.starting = true ∧ s.pow.released = true ∧ s.pow.wiped = false) (fun s =>
      milestone 3 (updPow (fun p => { p with wiped := true }) s)) ∧
    Guarded (.wipeComplete false) s (s.starting = true ∧ s.pow.released = true ∧ s.pow.wiped = false) (startupFail 3 0) ∧
    (s.pow.seeded = false → s.starting = true → s.pow.released = true →
      (let u := updPow (fun p => { p with seeded := true }) s
       Machine.exec (.trngSeeded true) s = .next (milestone 4 (newNonce K.lcNonce (newNonce K.dbgNonce (newNonce K.recClearNonce
        (updSec (fun x => { x with reseedAt := u.now, drbgReqs := 0 }) (wrN K.rngState Rng.ready u))))))) ∧
      Machine.exec (.trngSeeded false) s = .next (let u := updPow (fun p => { p with trngTries := p.trngTries + 1 }) s
        if 3 ≤ u.pow.trngTries then startupFail 3 0 u else u)) ∧
    Guarded (.dramTrained true) s (s.starting = true ∧ s.pow.seeded = true ∧ s.pow.trained = false) (fun s =>
      milestone 5 (updPow (fun p => { p with trained := true }) s)) ∧
    Guarded (.dramTrained false) s (s.starting = true ∧ s.pow.seeded = true ∧ s.pow.trained = false) (fun s =>
      let u := updPow (fun p => { p with dramTries := p.dramTries + 1 }) s
      if 3 ≤ u.pow.dramTries then startupFail 3 0 u else u) ∧
    Guarded .dramZeroFillComplete s (s.pow.trained = true ∧ s.pow.filled = false ∧ s.ghRuns = true) (updPow (fun p => { p with filled := true })) ∧
    (s.starting = true → s.pow.released = true → s.pow.verified = false →
      (s.pow.pfail = false → Machine.exec (.imagesVerified part 0) s =
        .next (milestone 6 (updPow (fun p => { p with verified := true }) (wrN K.bootsecLastVerify 0 s)))) ∧
      (1 ≤ code → code ≤ 4 → Machine.exec (.imagesVerified part code) s =
        .next (startupFail 7 part (raise Ev.bootVerify (le 1 part ++ le 1 code) (wrN K.bootsecLastVerify code s)))) ∧
      (4 < code → Machine.exec (.imagesVerified part code) s = .next s)) ∧
    (s.starting = true → s.pow.released = true → s.pow.formed = false → s.upd.trial = false →
      let tested := (List.range 15).filter (fun n => s.role n ≠ Rl.retired)
      let u := each tested (fun n s => let s := inc (K.laneBistCount n) U32.max s
        updPl n (fun x => { x with lastBistTb4 := s.now }) (wrN (K.laneLastBist n) (s.tb96 3) s)) s
      let w := each (List.range 4) (fun t s => wrN (K.trestleConfig t) (s.stored (K.trestleConfig t)) s) u
      let x := milestone 7 (formTrestles (updPow (fun p => { p with formed := true }) w))
      x.upd.trial = false → ((List.range 4).any (fun t => !x.isSplit t && x.trState t ≠ Tr.failed)) = true →
        Machine.exec (.bootLaneBistComplete []) s = .next x) ∧
    (s.ghRuns = true → s.rdN K.safetyState = Isl.startup → s.upd.trial = false →
      Machine.exec (.islandStartupComplete true test dur) s = .next (milestone 8 (islandStarted true test dur s))) ∧
    Guarded (.pfailAssert held) s (5 ≤ held ∧ s.pow.pfail = false) (fun s =>
      let u := updPow (fun p => { p with pfail := true }) s
      if u.ghRuns then flushStart (inc K.pwrPfailCount U32.max (powerWarning 1 true u)) else u) ∧
    (s.pow.flushing = true → s.sto.flushed = false →
      let t := min U32.max ((s.now - s.sto.pfailAt) / us)
      let u := wrN K.storJournalUsed 0 (wrN K.storPfailState 2 (commitAll (updSto (fun x => { x with flushed := true, undo := [] }) s)))
      let w := raise Ev.pfailFlush (le 4 bytes ++ le 4 t) (wrN K.storPfailLast t (inc K.storPfailFlushes U32.max u))
      Machine.exec (.pfailFlushComplete bytes) s = .next (if w.pow.heldReset then moduleReset 6 w else flushOver w)) ∧
    Guarded .pfailRelease s (s.pow.pfail = true) (fun s =>
      let u := updPow (fun p => { p with pfail := false }) s
      if !u.ghRuns then u else
      let w := if u.stor = Sto.held_ then updSto (fun x => { x with releasedAt := some u.now }) u else u
      flushOver (if w.rdN K.pwrPfail = 1 then powerWarning 1 false w else w)) ∧
    (vlogicRated mv = true → s.ghRuns = true → mv < 8700 → 10 ≤ held → s.rdN K.pwrPfail = 0 →
      let u := readVlogic mv s
      Machine.exec (.internalPfailWarning mv held) s = .next (flushStart (inc K.pwrInternalPfail U32.max (powerWarning 2 true u))))

/-- R426, R430, R431, R433, R434, R467, R468: the modes: SERVICE is entered and left, DORMANT is requested and reached, a reset is commanded
and taken, and a Gatehouse fault resets or counts. -/
def Obligations.GatehouseModes : Prop :=
  ∀ (src : Path) (v kind : Nat) (s : State),
    (s.ghRuns = true →
      Machine.exec (.gatehouseFault 0) s = .next (inc K.ghSramCorrected U32.max s) ∧
      (kind = 1 ∨ kind = 2 → Machine.exec (.gatehouseFault kind) s = .next (moduleReset 5 s)) ∧
      Machine.exec (.gatehouseFault 3) s = .next (moduleReset (trialOr 5 s) s)) ∧
    Commanded (.serviceEnter src) src K.modecmdService (le 1 1) s (fun s =>
      if s.mode = Mode.active then (Err.ok, setMode Mode.service 8 (updGate (fun g => { g with serviceAt := s.now }) s)) else (Err.state, s)) ∧
    Commanded (.serviceLeave src) src K.modecmdService (le 1 0) s (fun s => (Err.ok, leaveService s)) ∧
    Guarded .serviceLimitExpiry s (s.mode = Mode.service ∧ s.past s.gate.serviceAt (s.rdN K.modecmdServiceLimit * 60 * sec) = true)
      leaveService ∧
    Commanded1 (.dormantRequest src v) src K.modecmdDormant v s (fun s =>
      if s.dormantAllowed then
        let u := updPow (fun p => { p with dormantStep := 1, modeBefore := s.mode }) s
        let w := hartListenAll (iolPassiveAll (lanesDown (engineTo 0 u)))
        let x := each (List.range 16) (fun j => updAo j (fun x => { x with fromOpen := true })) w
        (Err.ok, driveAll (each (List.range 8) (fun i => updDi i (fun d => { d with wakeRef := bitOf (x.rdN (K.diState i)) 0, wakeRun := 0 })) x))
      else (Err.state, s)) ∧
    Guarded .dormantFlushComplete s (s.pow.dormantStep = 1) (fun s => commitAll (updPow (fun p => { p with dormantStep := 2 }) s)) ∧
    Guarded .dormantReached s (s.pow.dormantStep = 2) (fun s =>
      let u := setMode Mode.dormant (if s.pow.modeBefore = Mode.standby then 11 else 10) (updPow (fun p => { p with dormantStep := 0 }) s)
      let w := fieldFollow (if u.rdN K.wdtState = Mwdt.running then wrN K.wdtState Mwdt.paused u else u)
      let x := optEnd { w with sessions := [], sdo := [], dictReady := false }
      raise Ev.dormant (le 1 s.pow.modeBefore ++ le 1 (x.rdN K.wakeSources)) x) ∧
    Commanded (.moduleResetCommand src v) src K.modecmdReset (le 1 v) s (fun s =>
      if v = 0x5A then (Err.ok, resetIn (10 * ms) 4 s) else (Err.value, s)) ∧
    (s.sec.pendingLc = none →
      Guarded .moduleReset s (s.mode ≠ Mode.icehouse ∧ s.gate.resetAt.any (fun t => t ≤ s.now) = true) (fun s =>
        Machine.moduleReset s.gate.resetCause s))

/-- R435 to R437: the module watchdog: the key sequence services it inside its window and fails it outside, a timeout fails it, and the KEY,
LOCK and ENABLE entries act on its state. -/
def Obligations.ModuleWatchdog : Prop :=
  ∀ (src : Path) (v master : Nat) (s : State),
    (s.ghRuns = true → s.rdN K.wdtState = Mwdt.running → s.gate.wdtS + s.gate.wOpen * ms ≤ s.now →
      (s.gate.expectB = false → Machine.exec .wdtServiceKeyA s = .next (updGate (fun g => { g with expectB := true, keyAAt := s.now }) s)) ∧
      (s.gate.expectB = true → Machine.exec .wdtServiceKeyA s = .next (moduleWdtFail 3 s)) ∧
      (s.gate.expectB = true → s.now ≤ s.gate.keyAAt + ms →
        let left := (s.gate.wdtS + s.gate.wTimeout * ms - s.now) / us
        let u := wrN K.wdtMarginMin (min left (s.rdN K.wdtMarginMin)) s
        Machine.exec .wdtServiceKeyB s = .next
          (updGate (fun g => { g with wdtS := u.now, expectB := false, wOpen := u.rdN K.wdtOpen, wTimeout := u.rdN K.wdtTimeout }) u)) ∧
      (s.gate.expectB = false ∨ s.gate.keyAAt + ms < s.now → Machine.exec .wdtServiceKeyB s = .next (moduleWdtFail 3 s))) ∧
    (s.ghRuns = true → s.rdN K.wdtState = Mwdt.running → s.now < s.gate.wdtS + s.gate.wOpen * ms →
      Machine.exec .wdtServiceKeyA s = .next (moduleWdtFail 3 s) ∧ Machine.exec .wdtServiceKeyB s = .next (moduleWdtFail 3 s)) ∧
    Guarded .wdtTimeout s (s.ghRuns = true ∧ s.rdN K.wdtState = Mwdt.running ∧ s.gate.wdtS + s.gate.wTimeout * ms < s.now) (moduleWdtFail 2) ∧
    Guarded .wdtKeyBTimeout s (s.ghRuns = true ∧ s.rdN K.wdtState = Mwdt.running ∧ s.gate.expectB = true ∧ s.gate.keyAAt + ms < s.now)
      (moduleWdtFail 3) ∧
    (s.ghRuns = true → Machine.exec (.wdtForeignService false src master) s = .next (raise Ev.wdtForeignService (le 1 master) s)) ∧
    (∀ r, s.ghRuns = true → s.caller src = some r → s.findEntry r 0x2003 4 = Err.ok →
      Machine.exec (.wdtForeignService true src master) s =
        .next (raise Ev.wdtForeignService (le 1 (pathCode src)) (reply Err.writeDenied [] s))) ∧
    Commanded (.wdtKeyWrite src v) src K.wdtKey (le 2 v) s (fun s =>
      let k := keyStep s.now s.gate.keyPos s.gate.keyBy s.gate.keyAt src v
      if s.on K.wdtLock then (Err.locked, s)
      else if k.1 = 3 then
        let u := updGate (fun g => { g with keyPos := 0, keyBy := none, expectB := false }) s
        (Err.ok, if u.rdN K.wdtState = Mwdt.running then raiseWdt (wrN K.wdtState Mwdt.disabled u) else u)
      else (Err.ok, updGate (fun g => { g with keyPos := k.1, keyBy := k.2.1, keyAt := k.2.2 }) s)) ∧
    Commanded (.wdtLockWrite src v) src K.wdtLock (le 1 v) s (fun s => if v = 1 then (Err.ok, wdtLock s) else (Err.locked, s)) ∧
    Commanded1 (.wdtEnableWrite src v) src K.wdtEnable v s (fun s =>
      (Err.ok, if s.rdN K.wdtState = Mwdt.disabled then
        wrN K.wdtState Mwdt.running (updGate (fun g => { g with wdtS := s.now, expectB := false }) s) else s))

/-- R433, R439 to R445: the environment: temperatures, rails, vibration, shocks, humidity, contacts and wear are measured, recorded and
alarmed, and the service port counts its frames. -/
def Obligations.Environment : Prop :=
  ∀ (src : Path) (k mv held v x y z mag above rh lid kind link t0 : Nat) (vals : List Int) (mohm rms total : List Nat) (s : State),
    Guarded (.temperatureSample vals) s (s.ghRuns = true)
      (each (List.range 32) (fun k => readTemp k (signed 2 (unsigned 2 (vals.getD k 0))))) ∧
    (let t := Tab.get s.gate.critAt k 0
     Guarded (.temperatureCritExpiry k) s (k < 32 ∧ s.ghRuns = true ∧ t ≠ 0 ∧ t - 1 + sec ≤ s.now) (fun s =>
      settleFault 5 false (updGate (fun g => { g with critAt := Tab.put g.critAt k 0 0 }) s))) ∧
    (k < 18 → s.ghRuns = true →
      let old := Tab.get s.gate.rail k 0
      let new := railState k mv
      let u := wrN (K.railMv k) (min mv 65535) s
      (new = old ∨ old ≤ new ∧ held < 1000 → Machine.exec (.railStateChange k mv held) s = .next u) ∧
      (new = 2 → old < 2 → 1000 ≤ held →
        let w := updGate (fun g => { g with rail := Tab.put g.rail k 2 0 }) u
        let w := wrN K.railFaultMap (setBit (w.rdN K.railFaultMap) k true) w
        Machine.exec (.railStateChange k mv held) s = .next (settleFault 6 false (raiseSev Ev.rail (le 1 k ++ le 1 2 ++ le 2 mv) 5
          (wrN K.railWarnMap (setBit (u.rdN K.railWarnMap) k true) w))))) ∧
    (s.ghRuns = true → (∀ i < 96, f32.lt (s.rdN K.vibAlert) (rms.getD i 0) = false) →
      let h := (List.range 96).foldl (fun h i =>
        let o := 4 * (8 * i + vibLevel (rms.getD i 0))
        overlay h o (le 4 (satInc U32.max (fieldAt h o 4)))) (s.blobOf K.vibHistogram)
      Machine.exec (.vibrationSpectrum rms total) s =
        .next (wrBlob K.vibRms ((List.range 3).flatMap (fun a => le 4 (total.getD a 0))) (wrBlob K.vibHistogram h s))) ∧
    Guarded (.shockStart x y z mag) s
      (s.ghRuns = true ∧ s.gate.shock.isNone = true ∧ f32.le (frat (s.rdN K.vibShockLevel) 10) mag = true)
      (updGate (fun g => { g with shock := some (s.tb64 3, s.now, [x, y, z]) })) ∧
    (s.gate.shock = none → Machine.exec (.shockEnd x y z above) s = .next s) ∧
    (∀ p, s.ghRuns = true → s.gate.shock = some (t0, p) →
      let pk := [fmax (fabs (p.2.getD 0 0)) (fabs x), fmax (fabs (p.2.getD 1 0)) (fabs y), fmax (fabs (p.2.getD 2 0)) (fabs z)]
      let r := le 8 t0 ++ pk.flatMap (le 4) ++ le 4 above ++ le 8 0
      let u := inc K.vibShocks U32.max (updGate (fun g => { g with shock := none }) s)
      let w := wrBlob K.vibShockLog (r ++ (u.blobOf K.vibShockLog).take 2016) u
      Machine.exec (.shockEnd x y z above) s = .next (raise Ev.shock r
        (wrBlob K.vibPeak ((List.range 3).flatMap (fun a => le 4 (fmax (fieldAt (w.blobOf K.vibPeak) (4 * a) 4) (pk.getD a 0)))) w))) ∧
    (s.ghRuns = true →
      let u := wrN K.envLidLight (min lid 65535) (wrN K.envRh (min rh 65535) s)
      (rh ≤ u.rdN K.envRhWarn → Machine.exec (.humiditySample rh lid) s = .next (updGate (fun g => { g with rhSince := none, rhRaised := false }) u)) ∧
      (u.rdN K.envRhWarn < rh → u.gate.rhRaised = true →
        Machine.exec (.humiditySample rh lid) s = .next (updGate (fun g => { g with rhSince := some (u.gate.rhSince.getD u.now) }) u))) ∧
    (s.ghRuns = true →
      let u := each (List.range 16) (fun j s =>
        let l := pushFront 6 (min 65535 (mohm.getD j 0)) (Tab.get s.gate.cont j [])
        wrN (K.contMohm j) (median l) (updGate (fun g => { g with cont := Tab.put g.cont j l [] }) s)) s
      u.gate.rebaseAt = none → Machine.exec (.contactSenseMeasure mohm) s = .next
        (each (List.range 16) (fun j s => contCheck j (16 + j) (s.rdN K.contCrit) 2 (contCheck j j (s.rdN K.contWarn) 1 s)) u)) ∧
    Commanded1 (.contactRebase src v) src K.contRebase v s (fun s => (Err.ok, rebase s)) ∧
    (s.ghRuns = false ∨ s.past s.gate.wearAt (60 * sec) = false → Machine.exec .wearLedgerUpdate s = .next s) ∧
    (s.ghRuns = true → s.past s.gate.wearAt (60 * sec) = true →
      Does .wearLedgerUpdate s (fun t => t.gate.wearAt = s.now ∧ t.sec.wearMin = (s.sec.wearMin + 1) % 60)) ∧
    (s.ghRuns = true → s.mode ≠ Mode.dormant → s.on K.svcethEnable = true → s.rdN K.svcethLink ≠ 0 → s.past s.gate.svcAt sec = true →
      let u := updGate (fun g => { g with svcN := 1 }) (updGate (fun g => { g with svcAt := s.now, svcN := 0 }) s)
      (kind = 0 ∨ kind = 3 → Machine.exec (.serviceEthFrame kind) s = .next (wrN K.svcethFrames (u.rdN K.svcethFrames + 1) u)) ∧
      (3 < kind → Machine.exec (.serviceEthFrame kind) s = .next (inc K.svcethDiscards U32.max u))) ∧
    Guarded (.serviceLinkChange link) s (s.ghRuns = true ∧ link < 3 ∧ link ≠ s.rdN K.svcethLink) (fun s =>
      raise Ev.serviceLink (le 1 link) (wrN K.svcethLink link s))

/-- R248 to R258, R264: the safety island watches itself and its inputs: heartbeat, supplies, lockstep and test pulses, the filtered safe
input pairs, the encoders, and the comparison of its two channels. -/
def Obligations.SafetyInputs : Prop :=
  ∀ (i a b held e g o ch x vsens low : Nat) (edges speed : Int) (s : State),
    (s.rdN K.safetyState ≠ Isl.off → s.rdN K.safetyState ≠ Isl.startup →
      Machine.exec (.spHeartbeat true) s = .next (updIsl (fun x => { x with hbAt := s.now }) s) ∧
      Machine.exec (.spHeartbeat false) s = .next (islandFault 0 2 s)) ∧
    Guarded .parapetWatchdogExpiry s (s.rdN K.safetyState ≠ Isl.off ∧ s.rdN K.safetyState ≠ Isl.startup ∧ s.past s.isl.hbAt (2 * ms) = true)
      (islandFault 0 2) ∧
    (s.rdN K.safetyState ≠ Isl.off →
      (18000 ≤ vsens ∨ low ≤ 10 → Machine.exec (.islandSupplyCheck true vsens low) s = .next (updIsl (fun x => { x with supplyBad := false }) s)) ∧
      (vsens < 18000 → 10 < low → Machine.exec (.islandSupplyCheck true vsens low) s =
        .next (islandFault 4 1 (updIsl (fun x => { x with supplyBad := true }) s))) ∧
      Machine.exec (.islandSupplyCheck false vsens low) s = .next (islandFault 4 1 (updIsl (fun x => { x with supplyBad := true }) s))) ∧
    Guarded .lockstepFault s (s.rdN K.safetyState ≠ Isl.off ∧ s.rdN K.safetyCpuModeNow = 0) (islandFault 1 1) ∧
    (x < 4 → s.rdN K.safetyState ≠ Isl.off → (∀ i < 12, s.activeN (K.spairType i) = 0 ∧ s.activeN (K.spairSource i) = 0) →
      Machine.exec (.testPulse x true []) s = .next (each (List.range 12) (fun i => updPairIn i (fun p => { p with cross := false }))
        (wrN K.safetyFaults (setBit (s.rdN K.safetyFaults) (8 + x) false) s))) ∧
    (let ty := s.activeN (K.spairType i)
     i < 12 → ty ≠ 0 → s.activeN (K.spairFilter i) ≤ held → s.rdN K.safetyState ≠ Isl.off →
      let en := chanEnable ty 0 a && chanEnable ty 1 b
      let dem := chanDemand ty 0 a || chanDemand ty 1 b
      let disc (s : State) : State := updPairIn i (fun p => { p with since := s.now }) (wrN (K.spairState i) 2 s)
      (s.rdN (K.spairState i) = 0 → en = true → pairConsistent ty a b = true →
        Machine.exec (.safeInputFilterExpiry i a b held) s = .next (toEnable i s)) ∧
      (s.rdN (K.spairState i) = 0 → pairConsistent ty a b = false →
        Machine.exec (.safeInputFilterExpiry i a b held) s = .next (disc s)) ∧
      (s.rdN (K.spairState i) = 1 → dem = true → pairConsistent ty a b = true →
        Machine.exec (.safeInputFilterExpiry i a b held) s = .next (toDemand i s)) ∧
      (s.rdN (K.spairState i) = 1 → dem = false → Machine.exec (.safeInputFilterExpiry i a b held) s = .next s) ∧
      (s.rdN (K.spairState i) = 2 → pairConsistent ty a b = true →
        Machine.exec (.safeInputFilterExpiry i a b held) s = .next (if en then toEnable i s else toDemand i s))) ∧
    Guarded (.safeInputDiscrepancyExpiry i) s
      (i < 12 ∧ s.rdN (K.spairState i) = 2 ∧ s.past (s.pairIn i).since (s.activeN (K.spairDiscrepancy i) * ms) = true) (pairFault i 1 0) ∧
    Guarded (.safeInputChannelDisagree i held) s (i < 12 ∧ s.activeN (K.spairType i) ≠ 0 ∧ 10 ≤ held) (pairFault i 4 0) ∧
    (e < 6 → s.activeN (K.sencType e) ≠ 0 → s.activeN (K.sencInvert e) = 0 → s.rdN K.safetyState ≠ Isl.off → s.rdN K.safetyState ≠ Isl.startup →
      let u := wr (K.sencPosition e) (signed 8 (unsigned 8 (s.rd (K.sencPosition e) + edges))) s
      let w := wr (K.sencSpeedPp e) (edges * 1000) (wr (K.sencSpeedSp e) speed u)
      (edges * 1000).natAbs ≤ w.activeN (K.sencMaxRate e) → speed.natAbs ≤ w.activeN (K.sencMaxRate e) → speed = edges * 1000 →
        Machine.exec (.encoderGate e edges speed false false) s =
          .next (updIsl (fun x => { x with encCross := Tab.put x.encCross e none none }) w)) ∧
    Guarded (.encoderFaultClear e b) s
      (e < 6 ∧ b < 4 ∧ bitOf (s.rdN (K.sencFault e)) b = true ∧ s.past (Tab.get s.isl.encBad (8 * e + b) 0) (100 * ms) = true)
      (wrN (K.sencFault e) (setBit (s.rdN (K.sencFault e)) b false)) ∧
    Guarded (.groupEvaluation ch) s ((ch = 1 ∨ ch = 2) ∧ s.rdN K.safetyState ≠ Isl.off ∧ s.rdN K.safetyState ≠ Isl.startup)
      (each (List.range 6) (evalGroup ch)) ∧
    Guarded (.channelDiscrepancy g) s
      (g < 6 ∧ bitOf s.isl.torqueS g ≠ bitOf s.isl.torqueP g ∧ (s.grp g).differSince.any (fun t => t + 10 * ms < s.now) = true)
      (islandFault 3 1) ∧
    Guarded (.externalVoltage o vsens held) s
      (o < 12 ∧ s.rdN (K.soutState o) = 0 ∧ 5000 ≤ vsens ∧ 2000 ≤ held ∧ s.rdN K.safetyState ≠ Isl.off)
      (fun s => outFault o 4 (wrN (K.soutReadback o) (vsens % 65536) s)) ∧
    Guarded (.safeOutputOverload o held) s (o < 12 ∧ s.rdN (K.soutState o) = 2 ∧ 5000 < held) (outFault o 5)

/-- R248, R263, R267 to R269: the safe outputs: a reset event starts the enabling sequence, its steps switch S and P in turn and end in RUN,
the channels follow each other in removing torque, and the off pulses test each switch of an output that is ON. -/
def Obligations.SafetyOutputs : Prop :=
  ∀ (g o fall mv : Nat) (point : Bool) (rb : List Nat) (s : State),
    (let ev := if point then (s.grp g).pointRose else (s.grp g).press.any (fun d => 100 * ms ≤ d && d ≤ 5 * sec)
     let u := updGrp g (fun x => if point then { x with pointRose := false } else { x with press := none }) s
     g < 6 →
      (ev = false ∨ s.resetAllowed g = false → Machine.exec (.stoReset g point) s = .next u) ∧
      (ev = true → s.resetAllowed g = true →
        let w := wrN K.safecmpLatched (setBit ((wrN (K.sgroupLatch g) 0 u).rdN K.safecmpLatched) g false) (wrN (K.sgroupLatch g) 0 u)
        let x := each (w.outsOf g) (fun o t =>
          wrN (K.soutState o) 1 (updIsl (fun i => { i with swP := setBit i.swP o true, swS := setBit i.swS o false }) t)) w
        Machine.exec (.stoReset g point) s =
          .next (grpTo g Grp.enabling (updGrp g (fun y => { y with phase := 1, seqAt := x.now, cmpSince := none }) x)))) ∧
    (g < 6 → s.rdN (K.sgroupState g) = Grp.enabling →
      let u := each (s.outsOf g) (fun o t => wrN (K.soutReadback o) (rb.getD o 0 % 65536) t) s
      ((s.grp g).phase = 1 → (∀ o ∈ s.outsOf g, rb.getD o 0 < 5000) → u.past (s.grp g).seqAt (2 * ms) = true →
        Machine.exec (.enableSequenceStep g rb) s = .next (each (s.outsOf g)
          (fun o => updIsl (fun i => { i with swP := setBit i.swP o false, swS := setBit i.swS o true })) (updGrp g (fun x => { x with phase := 2 }) u))) ∧
      ((s.grp g).phase = 2 → (∀ o ∈ s.outsOf g, rb.getD o 0 < 5000) → u.past (s.grp g).seqAt (4 * ms) = true →
        Machine.exec (.enableSequenceStep g rb) s = .next (each (s.outsOf g)
          (fun o => updIsl (fun i => { i with swP := setBit i.swP o true })) (updGrp g (fun x => { x with phase := 3 }) u))) ∧
      ((s.grp g).phase = 3 → (∀ o ∈ s.outsOf g, 15000 < rb.getD o 0) →
        let w := each (s.outsOf g) (fun o => wrN (K.soutState o) 2) u
        Machine.exec (.enableSequenceStep g rb) s = .next (grpTo g Grp.run (updGrp g (fun x => { x with phase := 0, differSince := none })
          (updIsl (fun i => { i with torqueS := setBit i.torqueS g true, torqueP := setBit i.torqueP g true }) w))))) ∧
    Guarded (.crossLinkRemoval 1 g) s (g < 6 ∧ bitOf s.isl.torqueS g = true ∧ bitOf s.isl.torqueP g = false) (fun s =>
      let u := each (s.outsOf g) (openSwitch true false) s
      updGrp g (fun x => { x with differSince := none }) (updIsl (fun i => { i with torqueS := setBit i.torqueS g false }) u)) ∧
    Guarded (.crossLinkRemoval 2 g) s (g < 6 ∧ bitOf s.isl.torqueP g = true ∧ bitOf s.isl.torqueS g = false) (fun s =>
      let u := each (s.outsOf g) (openSwitch false true) s
      updGrp g (fun x => { x with differSince := none }) (updIsl (fun i => { i with torqueP := setBit i.torqueP g false }) u)) ∧
    (∀ swP, Guarded (.offPulseSlotStart swP) s (s.rdN K.safetyState = Isl.operational ∧ swP ≠ s.isl.slotP ∧
        s.past s.isl.slotAt (s.activeN K.safetyPulsePeriod * ms / 2) = true) (fun s =>
      let u := updIsl (fun i => { i with slotAt := s.now, slotP := swP }) s
      each ((List.range 12).filter (fun o => u.rdN (K.soutState o) = 2)) (fun o s =>
        let s := updIsl (fun i => if swP then { i with swP := setBit i.swP o false } else { i with swS := setBit i.swS o false }) s
        updTest o (fun _ => { phase := 1, swP := swP, t0 := s.now }) s) u)) ∧
    (let x := s.outTest o
     Guarded (.offPulseClose o) s (o < 12 ∧ x.phase = 1 ∧ s.past x.t0 (s.activeN (K.soutPulseWidth o) * us) = true) (fun s =>
      let u := updIsl (fun i => if x.swP then { i with swP := setBit i.swP o true } else { i with swS := setBit i.swS o true }) s
      updTest o (fun y => { y with phase := 2, t1 := u.now }) u) ∧
     (o < 12 → x.phase = 2 → s.past x.t1 (200 * us) = true →
      let u := updTest o (fun _ => {}) s
      Machine.exec (.offPulseVerdict o true true fall mv) s =
        .next (inc (K.soutTests o) U32.max (wrN (K.soutReadback o) (mv % 65536) (wrN (K.soutLastFall o) (min fall 254) u))) ∧
      Machine.exec (.offPulseVerdict o true false fall mv) s =
        .next (outFault o 3 (wrN (K.soutReadback o) (mv % 65536) (wrN (K.soutLastFall o) (min fall 254) u))) ∧
      Machine.exec (.offPulseVerdict o false true fall mv) s =
        .next (outFault o (if x.swP then 2 else 1) (wrN (K.soutReadback o) (mv % 65536) (wrN (K.soutLastFall o) 255 u)))))

/-- R235, R264, R265, R273 to R277: the configuration of the safety island is staged, discarded, confirmed and activated, its CRC is
checked, its faults are acknowledged, its status block is published, and the safety words of the pair are exchanged and compared. -/
def Obligations.SafetyConfiguration : Prop :=
  ∀ (src : Path) (idx sub v g o ch w crc req rst : Nat) (data : Bytes) (upset : Bool) (s : State),
    (let k := 256 * idx + sub
     let own := (0x3410 ≤ idx ∧ idx < 0x341C ∧ sub = 5) ∨ (0x3420 ≤ idx ∧ idx < 0x342C ∧ sub = 3)
        ∨ (0x3430 ≤ idx ∧ idx < 0x3436 ∧ sub = 14) ∨ (0x3440 ≤ idx ∧ idx < 0x3446 ∧ sub = 5) ∨ k = K.safetyStatusOwner
     let o := ofLe data
     safetyKeys.contains k = true → sub < 256 → Commanded (.safetyStagedWrite src idx sub data) src k data s (fun s =>
      let rule := if own then s.ownerRule k o
        else if k = K.safetyStatusOffset ∧ o ≠ 0xFFFFFFFF ∧ (o % 8 ≠ 0 ∨ 0x40000 < o + 64 ∨ (o < 0x8000 ∧ 0x8000 < o + 64)) then Err.value
        else Err.ok
      writeThen k data (rule = Err.ok) rule stagedChanged s)) ∧
    Commanded1 (.safetyDiscard src v) src K.safeverDiscard v s (fun s =>
      (Err.ok, stagedChanged (each safetyKeys (fun k t => if t.rd k = t.active k then t else setEntry k (t.active k) t) s))) ∧
    Commanded (.safetyConfirm src v) src K.safeverConfirm (le 8 v) s (fun s =>
      let r := if bits v 31 0 ≠ s.stagedCrc then 1
        else if bits v 63 32 ≠ s.parapetCrc then 2
        else if s.stagedRule then 3
        else if s.rdN K.safetyState ≠ Isl.operational then 5
        else 0
      let u := wrN K.safeverResult r (wrN K.safeverState (if r = 0 then 2 else 3) s)
      (Err.ok, if r = 0 then u else raise Ev.safetyConfig (le 1 r ++ le 4 u.activeCrc) u)) ∧
    Commanded1 (.safetyActivate src v) src K.safeverActivate v s (fun s =>
      if s.rdN K.safeverState ≠ 2 then (Err.state, s)
      else if (List.range 6).any (fun g => s.rdN (K.sgroupState g) ≠ Grp.sto) then (Err.state, wrN K.safeverResult 4 s)
      else
        let a := updIsl (fun x => { x with active := s.dict.filter (fun e => safetyKeys.contains e.1), activated := true }) s
        let b := updIsl (fun x => { x with crcRecord := a.activeCrc, crcBad := false }) a
        let c := wrN K.safeverState 0 b
        let d := wrN K.safeverActivatedAt (c.tb96 3) (wrN K.safeverResult 0 c)
        (Err.ok, raise Ev.safetyConfig (le 1 0 ++ le 4 d.isl.crcRecord) d)) ∧
    (ch = 1 ∨ ch = 2 → s.rdN K.safetyState ≠ Isl.off → s.isl.activated = true →
      Machine.exec (.configCrcCheck ch upset) s = .next (if upset = true ∨ s.activeCrc ≠ s.isl.crcRecord
        then islandFault 5 ch (updIsl (fun x => { x with crcBad := true }) s) else updIsl (fun x => { x with crcBad := false }) s)) ∧
    Guarded .statusBlockPublish s (s.activeN K.safetyStatusOffset < 0x40000 ∧ s.rdN K.safetyState ≠ Isl.off)
      (stage (s.activeN K.safetyStatusOffset) s.statusBlock) ∧
    Commanded1 (.safetyFaultAck src v) src K.safetyFaultAck v s (fun s =>
      let f := s.rdN K.safetyFaults
      let f := if s.past s.isl.hbAt (2 * ms) then f else setBit f 0 false
      let f := if s.isl.torqueS = s.isl.torqueP then setBit f 3 false else f
      let f := if s.isl.supplyBad then f else setBit f 4 false
      let f := if s.isl.crcBad then f else setBit f 5 false
      let u := emcyFollow (unlatch Ev.safetyIslandFault (wrN K.safetyFaults f s))
      (Err.ok, if islandBad f = false ∧ u.rdN K.safetyState = Isl.fault then
        let x := wrN K.safetyState (if u.rdN K.safetyCpuModeNow = 1 then Isl.split else Isl.operational) u
        each (List.range 6) (fun g t => wrN (K.sgroupLatch g) (setBit (t.rdN (K.sgroupLatch g)) 4 false) t) x else u)) ∧
    (g < 6 → Commanded1 (.sgroupAck src g v) src (K.sgroupAck g) v s (fun s =>
      let l := s.rdN (K.sgroupLatch g)
      let l := if s.rdN (K.sgroupState g) = Grp.sto then setBit l 0 false else l
      let l := if s.rdN (K.sencFault g) = 0 then setBit l 1 false else l
      let l := if (s.outsOf g).any (fun o => s.rdN (K.soutState o) = 3) then l else setBit l 2 false
      (Err.ok, emcyFollow (unlatch (Ev.safeGroupFault g) (wrN (K.sgroupLatch g) l s))))) ∧
    (o < 12 → Commanded1 (.soutAck src o v) src (K.soutAck o) v s (fun s =>
      (Err.ok, if s.rdN (K.soutState o) = 3 ∧ ¬(s.rdN (K.soutCause o) = 4 ∧ 5000 ≤ s.rdN (K.soutReadback o)) then
        emcyFollow (unlatch (Ev.safeOutputFault o) (wrN (K.soutCause o) 0 (wrN (K.soutState o) 0 s))) else s))) ∧
    (s.pairOp = true → s.rdN K.safetyState ≠ Isl.off → s.rdN K.safetyState ≠ Isl.startup → (∀ g < 6, bitOf (s.rdN K.safecmpEnable) g = false ∧ bitOf (s.rdN K.safecmpDiffer) g = false) →
      let pts (f : Group → Bool) : Nat := (List.range 6).foldl (fun a g => if f (s.grp g) then a + 2 ^ g else a) 0
      Machine.exec .safetyWordSend s = .next (send Wire.safety (le 4 s.decisionWord ++ le 4 s.activeCrc ++ le 1 (pts (·.req)) ++ le 1 (pts (·.rst)))
        (wrN K.safecmpOwn s.decisionWord s))) ∧
    (s.pairOp = true → s.rdN K.cwState ≠ 0 → s.rdN K.safetyState ≠ Isl.off → crc = s.activeCrc →
      let u := wrN K.safecmpPartner (w % 2 ^ 32) (updIsl (fun x => { x with
        partnerAt := some s.now, partnerReq := req % 64, partnerRst := rst % 64 }) s)
      Machine.exec (.safetyWordReceive w crc req rst) s = .next (wrN K.safetyFaults (setBit (u.rdN K.safetyFaults) 7 false) u))

/-- R152 to R154, R160, R161, R164 to R167, R170, R173: the Trestles: records reach the voter, a lane that lags or faults is treated as the
rules say, a copy completes or starves, a Trestle is rebuilt, lanes rotate, are tested and are retired. -/
def Obligations.Trestles : Prop :=
  ∀ (src : Path) (t k n v kind pav cls addr cyc part : Nat) (data : Bytes) (s : State),
    (let r := le 1 kind ++ le 1 pav ++ le 1 cls ++ le 8 addr ++ data
     t < 4 → k < 3 → 1 ≤ kind → kind ≤ 7 →
      (s.voting t = true → s.fenced t k = false →
        let u := updVoter t (fun v => { v with queue := v.queue ++ [(k, cyc, r)] }) s
        Machine.exec (.voterRecordArrival t k kind pav cls addr data cyc) s = .next (vote t cyc (2 * (u.trestle t).voter.queue.length + 2) u)) ∧
      (s.trState t = Tr.debugSplit → s.voting t = false → k = 0 →
        Machine.exec (.voterRecordArrival t k kind pav cls addr data cyc) s = .next (updVoter t (fun v => { v with slot := v.slot + 1, out := r }) s)) ∧
      (s.voting t = true → s.fenced t k = true → s.trState t ≠ Tr.debugSplit →
        Machine.exec (.voterRecordArrival t k kind pav cls addr data cyc) s = .next s)) ∧
    ((∃ f, (s.trestle t).voter.front k = some f) → Machine.exec (.voterLagExpiry t k cyc) s = .next s) ∧
    (∀ c r, t < 4 → k < 3 → s.voting t = true → s.fenced t k = false → s.healthy t = [k, (k + 1) % 3] →
      (s.trestle t).voter.front k = none → (s.trestle t).voter.front ((k + 1) % 3) = some (c, r) →
      Machine.exec (.voterLagExpiry t k cyc) s = .next (if c + 2 * k + 64 < cyc + 2 * ((k + 1) % 3) then
        vote t cyc (2 * (s.trestle t).voter.queue.length + 2) (posOdd t k 2 cyc (egressOf r) false false s) else s)) ∧
    Machine.exec (.laneLocalFault n part cyc) s = .next (laneLocalFault n part cyc s) ∧
    Guarded (.resyncComplete t) s (t < 4 ∧ (s.trestle t).resync.active = true ∧ (s.trestle t).resync.regs = true ∧
      ((s.trestle t).resync.both = false ∨ (s.trestlePavs t).any (fun p => s.pavState p = Prog.hold) = false)) (copyDone t) ∧
    Guarded (.resyncStarved t) s (t < 4 ∧ s.trState t = Tr.duplex ∧ bitOf (s.rdN (K.trestleStatus t)) 7 = false ∧
        s.past (s.trestle t).resync.lastChunk (1000 * ms) = true) (fun s =>
      let k := (([0, 1, 2].find? (s.fenced t)).getD (s.trestle t).resync.pos)
      raise (Ev.trestleMismatch t) (s.mismatchRecord 4 k (s.laneAt t k) {}) (trStatus t 7 true s)) ∧
    (t < 4 → s.activeLike = true → (s.trestle t).takeoverAt = none →
      (s.pair.reqAt = none → Machine.exec (.takeoverWaitExpiry t) s = .next s) ∧
      (∀ a h, s.pair.reqAt = some (a, h) → Machine.exec (.takeoverWaitExpiry t) s = .next (if s.past a (50 * ms) then safeHalt h s else s))) ∧
    Guarded (.trestleRebuildComplete t) s (t < 4 ∧ s.trState t = Tr.rebuild ∧ s.laneAt t 0 < 15 ∧ s.laneAt t 1 < 15 ∧ s.laneAt t 2 < 15) (fun s =>
      let u := each (s.lanesOf t) (fun n => setRole n Rl.service) (reloadTcm t s)
      let w := updVoter t (fun v => { v with queue := [], released := none, oddAt := none }) (trTo t Tr.tmr u)
      coverage (raise (Ev.trestleRebuilt t) ([0, 1, 2].flatMap (fun k => le 1 (w.laneAt t k))) w)) ∧
    (s.past s.rotation.last (s.rdN K.spareInterval * sec) = true →
      Machine.exec .rotationStart s = .next (tryRotate false (updRot (fun r => { r with last := s.now, deferred := false }) s))) ∧
    (s.past s.rotation.last (s.rdN K.spareInterval * sec) = false →
      Machine.exec .rotationStart s = .next (if s.rotation.deferred then tryRotate s.rotation.extra s else if s.extraLane.isSome then tryRotate true s else s)) ∧
    Commanded1 (.rotateNow src v) src K.spareRotateNow v s (fun s =>
      (Err.ok, tryRotate false (updRot (fun r => { r with last := s.now, deferred := false }) s))) ∧
    (n < 15 → s.role n = Rl.joining → ∀ q, (List.range 4).find? (fun t => (s.trestle t).resync.target = n && !(s.trestle t).resync.active) = some q →
      Machine.exec (.spareLaneLocked n) s = .next (startCopy q (s.trestle q).resync.pos n true true s)) ∧
    (s.rdN K.spareTestLane ≠ n → Machine.exec (.laneBistComplete n true part addr) s = .next s ∧
      Machine.exec (.laneBistComplete n false part addr) s = .next s) ∧
    (n < 15 → s.rdN K.spareTestLane = n →
      (let u := wrN (K.laneLastBist n) (s.tb96 3) (inc (K.laneBistCount n) U32.max s)
       let w := updPl n (fun x => { x with consecFails := 0, lastBistTb4 := u.now }) (fromTest n u)
       (w.pl n).splitHome = false → Machine.exec (.laneBistComplete n true part addr) s = .next (serveSpares (setRole n Rl.spare w))) ∧
      (let u := raise (Ev.laneBistFailed n) (le 1 n ++ le 1 part ++ le 8 addr)
        (updPl n (fun x => { x with consecFails := x.consecFails + 1 }) (inc (K.laneBistFails n) U16.max s))
       Machine.exec (.laneBistComplete n false part addr) s = .next (if u.rdN K.spareBistLimit ≤ (u.pl n).consecFails then
        serveSpares (retireLane n 1 (unplaceLane n (fromTest n (updPl n (fun x => { x with splitHome := false }) u)))) else u))) ∧
    (n < 15 → Commanded1 (.laneRetireWrite src n v) src (K.laneRetire n) v s (fun s =>
      if s.role n = Rl.service then
        if s.lanesIn Rl.spare = [] then (Err.state, s)
        else
          let u := updPl n (fun x => { x with retireDue := true }) s
          (Err.ok, if u.activeLike = true ∧ u.extraLane = some n then tryRotate true u else u)
      else if s.role n = Rl.spare then (Err.ok, retireLane n 4 s)
      else if s.role n = Rl.test then (Err.ok, serveSpares (retireLane n 4 (unplaceLane n (fromTest n s))))
      else if s.role n = Rl.retired then (Err.ok, s)
      else (Err.state, s)))

/-- R214 to R216, R222, R223, R397: the Causeway between the modules of a pair: its lanes train and are lost, heartbeats are sent and
missed, epochs are received, acknowledged and refused, and checkpoints are written to NAND. -/
def Obligations.PairLink : Prop :=
  ∀ (n e lane : Nat) (f : Bytes) (ok : Bool) (s : State),
    Guarded (.causewayLaneTrained n) s (s.pairRuns = true ∧ n < 2) (fun s => cwFollow (wrN K.cwLanes (setBit (s.rdN K.cwLanes) n true) s)) ∧
    Guarded (.causewayLaneLost n) s (s.pairRuns = true ∧ n < 2 ∧ bitOf (s.rdN K.cwLanes) n = true) (fun s =>
      let u := inc K.cwBlockErrors U32.max (wrN K.cwLanes (setBit (s.rdN K.cwLanes) n false) s)
      if u.rdN K.cwLanes = 0 then updPair (fun p => { p with laneLostAt := u.now }) u else cwFollow u) ∧
    Guarded .causewayDown s (s.pairRuns = true ∧ s.rdN K.cwLanes = 0 ∧ s.rdN K.cwState ≠ 0 ∧ s.past s.pair.laneLostAt ms = true) (fun s =>
      let u := cwTo 0 (updPair (fun p => { p with downAt := s.now, rx := {} }) s)
      syncFollow (pairFollow (if u.activeLike = true ∨ u.mode = Mode.handover then dropPartner u else u))) ∧
    (s.pairRuns = true → s.rdN K.cwLanes = 3 → lane = 0 → s.past (s.pairSince s.pair.loopAt) (s.rdN K.cwLoopInterval * (1000 * ms)) = true →
      let u := updPair (fun p => { p with loopNext := 1, loopAt := s.now }) s
      let w := cwTo 2 (wrN K.cwLanes 3 (cwTo 1 (wrN K.cwLanes 2 u)))
      let x := wrN K.cwLoopResult (setBit (w.rdN K.cwLoopResult) 0 ok) w
      Machine.exec (.causewayLoopback lane ok) s =
        .next (if ok = false ∧ x.mode = Mode.standby then raise Ev.standbyTestFailed (le 1 2 ++ le 1 0) x else x)) ∧
    Guarded .heartbeatSend s (s.pairRuns = true ∧ s.rdN K.cwLanes ≠ 0 ∧ s.past s.pair.hbSentAt (250 * us) = true) (fun s =>
      send Wire.heartbeat s.heartbeat (updPair (fun p => { p with hbSentAt := s.now }) s)) ∧
    (s.pairRuns = true → s.rdN K.cwLanes ≠ 0 →
      (f.length = 216 → Machine.exec (.heartbeatReceive true f) s = .next (heartbeatIn f s)) ∧
      Machine.exec (.heartbeatReceive false f) s = .next (inc K.cwCrcErrors U32.max s)) ∧
    (let t := s.pairSince (s.pair.hbAt.getD 0)
     Guarded .heartbeatLoss s (s.pairRuns = true ∧ bitOf (s.rdN K.pairStatus) 0 = false ∧ s.past t (1000 * us) = true) (fun s =>
      let n := (s.now - t) / (250 * us)
      let u := raise Ev.partnerSuspect (le 4 n) (wrN K.cwHbMissed (satAdd U32.max (s.rdN K.cwHbMissed) n) (pairStatusBit 0 true s))
      pairFollow (if u.mode = Mode.standby then startRequest 1 u
        else if u.activeLike = true ∨ u.mode = Mode.handover then dropPartner u else u))) ∧
    Guarded (.epochRecordReceive f) s (s.pairRuns = true ∧ s.mode = Mode.standby ∧ s.rdN K.cwState ≠ 0 ∧ 20 ≤ f.length) (epochRecordIn f) ∧
    (s.pairRuns = true → ∀ x, s.flightOf e = some x →
      Machine.exec (.epochNakReceive e) s = .next (raise Ev.epochAbandoned (le 8 e ++ le 1 2) (epochLost x s)) ∧
      (let u := wrN K.ckptEpoch x.epoch (updPair (fun p => { p with
        flight := none, cur := x, joinDue := p.joinDue && !x.join
        ref := if x.join then x.pages else x.pages.foldl (fun t y => Tab.put t y.1 y.2 zeroPage) p.ref }) s)
       Machine.exec (.epochAckReceive e) s = .next (pairFollow (payOwed e (if x.join then inc K.ckptJoins U32.max u else u))))) ∧
    (s.pairRuns = false ∨ s.flightOf e = none → Machine.exec (.epochAckReceive e) s = .next s ∧ Machine.exec (.epochNakReceive e) s = .next s) ∧
    (∀ x, s.pair.flight = some x → Machine.exec .epochAckTimeout s =
      .next (if s.pairRuns = true ∧ s.past x.sentAt (10 * ms) = true then epochLost x s else s)) ∧
    (s.rdN K.ckptNandInterval ≠ 0 → s.ghRuns = true → s.pow.flushing = false →
      s.past (s.pairSince s.pair.ckptAt) (s.rdN K.ckptNandInterval * (1000 * ms)) = true → ∀ x, s.ckptEpochNow = some x →
      let u := updPair (fun p => { p with ckptAt := s.now }) s
      Machine.exec .nandCheckpointDue s = .next (if u.sto.writing.isSome then u else ckptStart x u)) ∧
    (∀ j c, s.sto.writing = some (j, c) →
      let u := closeIntent 4 j (updSto (fun x => { x with writing := none }) s)
      Machine.exec (.checkpointWriteComplete false) s = .next (raise Ev.nandCheckpointFailed (le 2 Err.hardware) u) ∧
      (let w := updSto (fun x => { x with slots := Tab.put x.slots j c {} }) u
       Machine.exec (.checkpointWriteComplete true) s = .next (ckUsed (wrN (K.partWritten 1) (w.rdN (K.partWritten 1) + (64 + fieldAt c.head 28 4))
        (wrN K.ckptNandLast (fieldAt c.head 16 12) w)))))

/-- R225 to R232, R237, R239, R242, R243, R246, R428, R469: the roles of a pair: the referee's frames, the role logic, a takeover and its
steps, the STANDBY module's self-tests, health words, the handover and the rejoining of a partner. -/
def Obligations.PairRoles : Prop :=
  ∀ (src : Path) (v path held t bad part addr fault errs : Nat) (f schemas : Bytes) (mac manual : Bool) (s : State),
    (s.pairRuns = true → s.refPath path = true → byteAt f 0 = 0xA5 →
      (byteAt f 1 = 1 → Machine.exec (.refGrantReceive path f mac) s =
        .next (if s.refFrameOk path f mac 16 then grantIn f s else inc K.refFramesBad U32.max s)) ∧
      (byteAt f 1 = 2 → s.refFrameOk path f mac 12 = true →
        let u := raise Ev.refereeDeny (le 1 (byteAt f 20) ++ le 4 (fieldAt f 16 4)) (inc K.refDenies U32.max (refereeHeard f s))
        Machine.exec (.refDenyReceive path f mac) s = .next (roleLogic (seeEpoch (fieldAt f 16 4) none u)))) ∧
    Guarded .refStatusSend s (s.pairRuns = true ∧ s.past s.pair.statusAt ms = true) (fun s =>
      refSend 0x10 s.statusBody (updPair (fun p => { p with statusAt := s.now }) s)) ∧
    Guarded .refRequestSend s (s.pairRuns = true ∧ s.mode = Mode.standby ∧ s.pair.requesting = true ∧ s.past s.pair.reqSentAt ms = true) (fun s =>
      refSend 0x11 s.statusBody (updPair (fun p => { p with reqSentAt := s.now }) s)) ∧
    Guarded .refereeLost s (s.pairRuns = true ∧ s.rdN K.refState = 0 ∧ s.past (s.pair.refAt.getD 0) (50 * ms) = true)
      (fun s => pairFollow (refereeTo 1 s)) ∧
    Guarded (.refLineStuck held) s (s.pairRuns = true ∧ 1000 < held ∧ s.on K.refLineStuck = false) (wrB K.refLineStuck true) ∧
    Guarded (.refLineRelease held) s (s.pairRuns = true ∧ 1000 ≤ held ∧ s.on K.refLineStuck = true) (wrB K.refLineStuck false) ∧
    Guarded .roleLogicTick s (s.pairRuns = true) roleLogic ∧
    Guarded .firstOperatingMode s (s.ghRuns = true) firstMode ∧
    Guarded (.wakeReferee f mac) s (s.wakeArmed 4 = true ∧ byteAt f 0 = 0xA5 ∧ byteAt f 1 = 1 ∧ s.refFrameOk 0 f mac 16 = true ∧
      fieldAt f 12 4 = s.rdN K.commIdSerial) (wakeUp 4 0) ∧
    Guarded (.partnerTakeoverRequest manual) s (s.pairRuns = true ∧ s.mode = Mode.standby ∧ s.rdN K.cwState ≠ 0)
      (startRequest (if manual then 4 else 2)) ∧
    Guarded (.takeoverLanesUp true fault) s (s.mode = Mode.takeover ∧ s.pair.step = 1) (fun s =>
      updPair (fun p => { p with step := 2 }) (lanesUp s)) ∧
    Guarded (.takeoverLanesUp false fault) s (s.mode = Mode.takeover ∧ s.pair.step = 1) (takeoverFail 1 fault) ∧
    Guarded (.takeoverRestoreComplete true fault) s (s.mode = Mode.takeover ∧ s.pair.step = 2) (fun s =>
      updPair (fun p => { p with step := 3 }) (restoreEpoch s)) ∧
    Guarded (.takeoverRestoreComplete false fault) s (s.mode = Mode.takeover ∧ s.pair.step = 2) (takeoverFail 2 fault) ∧
    (s.pairRuns = true → s.mode = Mode.standby → t = s.pair.bistTrestle → s.pair.prepared = false →
      s.past (s.pairSince s.pair.bistAt) (s.rdN K.healthTestInterval * (1000 * ms)) = true →
      let u := each ((List.range 3).filter (fun k => s.laneAt t k < 15)) (fun k s =>
        if bitOf bad k then bistFail t k (s.laneAt t k) part addr s else bistPass (s.laneAt t k) s) s
      (bad % 8 = 0 → Machine.exec (.standbyTrestleBist t bad part addr) s = .next (pairFollow (updPair (fun p => { p with
        bistBad := p.bistBad.filter (· ≠ t), bistTrestle := (t + 1) % 4, bistAt := u.now }) u))) ∧
      (bad % 8 ≠ 0 → Machine.exec (.standbyTrestleBist t bad part addr) s = .next (pairFollow (raise Ev.standbyTestFailed (le 1 1 ++ le 1 t)
        (updPair (fun p => { p with bistBad := t :: p.bistBad.filter (· ≠ t) }) u))))) ∧
    Guarded (.storeScrub errs) s (s.pairRuns = true ∧ s.mode = Mode.standby ∧ s.past (s.pairSince s.pair.scrubAt) (10000 * ms) = true) (fun s =>
      let u := updPair (fun p => { p with scrubAt := s.now }) s
      if errs ≠ 0 then raise Ev.standbyTestFailed (le 1 3 ++ le 1 0) u else u) ∧
    Guarded .healthWordSend s (s.pairRuns = true ∧ s.past s.pair.healthAt (100 * ms) = true) (fun s =>
      let u := pairFollow (updPair (fun p => { p with healthAt := s.now }) s)
      refSend 0x12 u.healthWord (send Wire.health u.healthWord (wrBlob K.healthOwn u.healthWord u))) ∧
    Guarded (.healthWordReceive f) s (s.pairRuns = true ∧ s.rdN K.cwState ≠ 0 ∧ f.length = 32) (fun s =>
      pairFollow (updPair (fun p => { p with pReady := bitOf (byteAt f 0) 0 }) (wrBlob K.healthPartner f s))) ∧
    Guarded .handoverPrepareReceive s (s.pairRuns = true ∧ s.mode = Mode.standby ∧ s.rdN K.cwState ≠ 0) (fun s =>
      each (List.range 4) reloadTcm (lanesUp (updPair (fun p => { p with prepared := true }) s))) ∧
    Guarded .handoverSwapBoundary s (s.swapDue s.fastestOn = true ∧ s.boundaryDue s.fastestOn = true) (boundary s.fastestOn) ∧
    Guarded .handoverGrantTimeout s (s.mode = Mode.handover ∧ s.pair.swapAt.any (fun t => s.past t (20 * ms)) = true) (fun s =>
      let u := setMode Mode.active 27 (updPair (fun p => { p with swapAt := none, finalDue := false }) s)
      fieldFollow (raise Ev.handoverFailed (le 1 2) (wrN K.paircmdHandoverState 4 u))) ∧
    Guarded (.joinDictReceived f schemas) s (s.pairRuns = true ∧ s.mode = Mode.standby ∧ s.rdN K.cwState ≠ 0) (fun s =>
      let u := joinDict f schemas s
      pairFollow (send Wire.control (le 1 6) (updPair (fun p => { p with dictReceived := true }) u))) ∧
    Commanded1 (.takeoverReqWrite src v) src K.paircmdTakeoverReq v s (fun s =>
      if s.pairOp = true ∧ s.activeLike = true then (Err.ok, send Wire.control (le 1 1 ++ le 1 1) (requestTakeover 0 false s)) else (Err.state, s)) ∧
    Commanded1 (.handoverRequest src v) src K.paircmdHandover v s (fun s =>
      if s.mayHandover then
        let u := updPair (fun p => { p with hoAt := s.now, swapAt := none }) (setMode Mode.handover 25 (wrN K.paircmdHandoverState 1 s))
        (Err.ok, fieldFollow (send Wire.handover (le 1 4) u))
      else (Err.state, s)) ∧
    Commanded1 (.pairRejoin src v) src K.paircmdRejoin v s (fun s =>
      if s.pairOp = true ∧ s.mode = Mode.standby then (Err.ok, pairFollow (joinStart s)) else (Err.state, s))

/-- A step takes the command at the front of the queue and runs it with the queue's rest; with an empty queue 1 ns passes (log entry 1). -/
def Obligations.StepRunsFront : Prop :=
  ∀ (i : Instr) (s : State),
    Machine.step { s with pending := i :: s.pending } = Machine.exec i s ∧
    (s.pending = [] → Machine.step s = .next (tick s))

/-- What reset leaves: mode BOOT, no command waiting, time 0, every dictionary entry at its default, every Pavilion in STOP, memory with
nothing listed, and every table in its canonical form. -/
def Obligations.ResetState : Prop :=
  State.reset.mode = Mode.boot ∧ State.reset.pending = [] ∧ State.reset.now = 0 ∧
  (∀ k, State.reset.rd k = dictDefault k) ∧ (∀ k, State.reset.blobOf k = blobDefault k) ∧
  (∀ p < 256, State.reset.pavState p = Prog.stop) ∧ (∀ sp a, State.reset.byte sp a = emptyByte) ∧ Canonical State.reset

/-- Memory and the dictionary stay in their canonical form: every step that answers a next state keeps it, whatever the command. -/
def Obligations.CanonicalKept : Prop :=
  ∀ s t : State, Canonical s → Steps s t → Canonical t

/-- The queue and the time: a command changes neither; a step removes the command at the front of the queue and nothing else from it, and
time passes only while the queue is empty, 1 ns a step. -/
def Obligations.QueueAndTimeKept : Prop :=
  ∀ s t : State, Steps s t →
    (s.pending = [] → t.pending = [] ∧ t.now = s.now + 1) ∧ (∀ c r, s.pending = c :: r → t.pending = r ∧ t.now = s.now)

/-- R10: the configuration of event n stands at index 0x2400 + (n div 128), subindex (n mod 128) + 1, and the entry at index i and subindex
s configures event (i − 0x2400) × 128 + s − 1; subindex 0 of each index holds 128. -/
def Obligations.EventConfigurationPlace : Prop :=
  (∀ n < 1280, K.evConfig n = 256 * (0x2400 + n / 128) + (n % 128 + 1)) ∧
  (∀ i j, 0x2400 ≤ i → i ≤ 0x2409 → 1 ≤ j → j ≤ 128 →
    eventOf i j = some ((i - 0x2400) * 128 + j - 1) ∧ K.evConfig ((i - 0x2400) * 128 + j - 1) = 256 * i + j) ∧
  (∀ (i : Nat) (src : Path) (c : Caller) (s : State), 0x2400 ≤ i → i ≤ 0x2409 → s.readBytes src c i 0 = [128#8])

/-- R26: the object stores of the CAN controllers: each starts at 0x11_0000_0000 + c × 0x4_0000, object n lies at 80 × n in it with 20 words
of 4 bytes, and bytes 0x2_8000 to 0x3_FFFF of each store are unmapped. -/
def Obligations.CanStoreMap : Prop :=
  ∀ c < 8,
    (∀ n < 2048, ∀ w < 20, ∀ b < 4,
      let a := 0x1100000000 + c * 0x40000 + 80 * n + 4 * w + b
      targetOf a = .can ∧ canPlace a = (c, n, 4 * w + b)) ∧
    (∀ o, 0x28000 ≤ o → o < 0x40000 → targetOf (0x1100000000 + c * 0x40000 + o) = .none)

/-- R182: a write that changes SAFETY_RELATED of a Pavilion from 1 to 0 without the SAFETY role is refused with ROLE_DENIED. -/
def Obligations.SafetyRelatedNeedsSafety : Prop :=
  ∀ (src : Path) (c : Caller) (p : Nat) (v : Bytes) (s : State), p < 256 → s.caller src = some c → c.safety = false →
    s.checkWrite src (0x2800 + p) 1 v = Err.ok → s.writeHeld (256 * (0x2800 + p) + 1) = false →
    bitOf (s.rdN (256 * (0x2800 + p) + 1)) 2 = true → bitOf (ofLe v) 2 = false →
    Machine.exec (.dictWrite src (0x2800 + p) 1 v) s = .next (reply Err.roleDenied [] s)

/-- R242: a write of 1 to PAIRCMD.HANDOVER is refused with STATE_ERROR where the module is not ACTIVE, the partner is not READY, the referee
is LOST, a Trestle is in DEBUG_SPLIT or a handover is in progress; where it is not refused the module enters HANDOVER. -/
def Obligations.HandoverRefused : Prop :=
  ∀ (src : Path) (s : State), (s.caller src).isSome → s.checkWrite src (K.paircmdHandover / 256) (K.paircmdHandover % 256) (le 1 1) = Err.ok →
    s.writeHeld K.paircmdHandover = false →
    (s.mode ≠ Mode.active ∨ s.partnerReady = false ∨ s.rdN K.refState = 1 ∨ (∃ t < 4, s.trState t = Tr.debugSplit) ∨ s.mode = Mode.handover →
      Machine.exec (.handoverRequest src 1) s = .next (reply Err.state [] s))
end

