-- ==== Sys2Proof/Laws/State.lean ====
section
/-! SUPPORT. What each update of the state leaves alone, and what it sets: one lemma for each field and update, so that no
later proof unfolds a record update. -/

namespace Sys2Proof.Machine

section
variable (s : State)


@[simp] theorem wr_pending (k : Nat) (v : Int) : (wr k v s).pending = s.pending := rfl
@[simp] theorem wr_now (k : Nat) (v : Int) : (wr k v s).now = s.now := rfl
@[simp] theorem wr_tb (k : Nat) (v : Int) : (wr k v s).tb = s.tb := rfl
@[simp] theorem wr_fresh (k : Nat) (v : Int) : (wr k v s).fresh = s.fresh := rfl
@[simp] theorem wr_blob (k : Nat) (v : Int) : (wr k v s).blob = s.blob := rfl
@[simp] theorem wr_store (k : Nat) (v : Int) : (wr k v s).store = s.store := rfl
@[simp] theorem wr_journal (k : Nat) (v : Int) : (wr k v s).journal = s.journal := rfl
@[simp] theorem wr_pavVals (k : Nat) (v : Int) : (wr k v s).pavVals = s.pavVals := rfl
@[simp] theorem wr_dictReady (k : Nat) (v : Int) : (wr k v s).dictReady = s.dictReady := rfl
@[simp] theorem wr_answer (k : Nat) (v : Int) : (wr k v s).answer = s.answer := rfl
@[simp] theorem wr_wire (k : Nat) (v : Int) : (wr k v s).wire = s.wire := rfl
@[simp] theorem wr_mem (k : Nat) (v : Int) : (wr k v s).mem = s.mem := rfl
@[simp] theorem wr_dirty (k : Nat) (v : Int) : (wr k v s).dirty = s.dirty := rfl
@[simp] theorem wr_router (k : Nat) (v : Int) : (wr k v s).router = s.router := rfl
@[simp] theorem wr_sessions (k : Nat) (v : Int) : (wr k v s).sessions = s.sessions := rfl
@[simp] theorem wr_sdo (k : Nat) (v : Int) : (wr k v s).sdo = s.sdo := rfl
@[simp] theorem wr_scan (k : Nat) (v : Int) : (wr k v s).scan = s.scan := rfl
@[simp] theorem wr_lanes (k : Nat) (v : Int) : (wr k v s).lanes = s.lanes := rfl
@[simp] theorem wr_banks (k : Nat) (v : Int) : (wr k v s).banks = s.banks := rfl
@[simp] theorem wr_pavs (k : Nat) (v : Int) : (wr k v s).pavs = s.pavs := rfl
@[simp] theorem wr_trestles (k : Nat) (v : Int) : (wr k v s).trestles = s.trestles := rfl
@[simp] theorem wr_plane (k : Nat) (v : Int) : (wr k v s).plane = s.plane := rfl
@[simp] theorem wr_rotation (k : Nat) (v : Int) : (wr k v s).rotation = s.rotation := rfl
@[simp] theorem wr_fabric (k : Nat) (v : Int) : (wr k v s).fabric = s.fabric := rfl
@[simp] theorem wr_opt (k : Nat) (v : Int) : (wr k v s).opt = s.opt := rfl
@[simp] theorem wr_fld (k : Nat) (v : Int) : (wr k v s).fld = s.fld := rfl
@[simp] theorem wr_isl (k : Nat) (v : Int) : (wr k v s).isl = s.isl := rfl
@[simp] theorem wr_pair (k : Nat) (v : Int) : (wr k v s).pair = s.pair := rfl
@[simp] theorem wr_gate (k : Nat) (v : Int) : (wr k v s).gate = s.gate := rfl
@[simp] theorem wr_pow (k : Nat) (v : Int) : (wr k v s).pow = s.pow := rfl
@[simp] theorem wr_sec (k : Nat) (v : Int) : (wr k v s).sec = s.sec := rfl
@[simp] theorem wr_upd (k : Nat) (v : Int) : (wr k v s).upd = s.upd := rfl
@[simp] theorem wr_sto (k : Nat) (v : Int) : (wr k v s).sto = s.sto := rfl
@[simp] theorem wr_recd (k : Nat) (v : Int) : (wr k v s).recd = s.recd := rfl
@[simp] theorem wr_hist (k : Nat) (v : Int) : (wr k v s).hist = s.hist := rfl
@[simp] theorem wr_net (k : Nat) (v : Int) : (wr k v s).net = s.net := rfl
@[simp] theorem wr_can (k : Nat) (v : Int) : (wr k v s).can = s.can := rfl
@[simp] theorem wr_blobOf (k : Nat) (v : Int) (j : Nat) : (wr k v s).blobOf j = s.blobOf j := rfl
@[simp] theorem wr_byte (k : Nat) (v : Int) (sp x : Nat) : (wr k v s).byte sp x = s.byte sp x := rfl

@[simp] theorem wrN_pending (k v : Nat) : (wrN k v s).pending = s.pending := rfl
@[simp] theorem wrN_now (k v : Nat) : (wrN k v s).now = s.now := rfl
@[simp] theorem wrN_tb (k v : Nat) : (wrN k v s).tb = s.tb := rfl
@[simp] theorem wrN_fresh (k v : Nat) : (wrN k v s).fresh = s.fresh := rfl
@[simp] theorem wrN_blob (k v : Nat) : (wrN k v s).blob = s.blob := rfl
@[simp] theorem wrN_store (k v : Nat) : (wrN k v s).store = s.store := rfl
@[simp] theorem wrN_journal (k v : Nat) : (wrN k v s).journal = s.journal := rfl
@[simp] theorem wrN_pavVals (k v : Nat) : (wrN k v s).pavVals = s.pavVals := rfl
@[simp] theorem wrN_dictReady (k v : Nat) : (wrN k v s).dictReady = s.dictReady := rfl
@[simp] theorem wrN_answer (k v : Nat) : (wrN k v s).answer = s.answer := rfl
@[simp] theorem wrN_wire (k v : Nat) : (wrN k v s).wire = s.wire := rfl
@[simp] theorem wrN_mem (k v : Nat) : (wrN k v s).mem = s.mem := rfl
@[simp] theorem wrN_dirty (k v : Nat) : (wrN k v s).dirty = s.dirty := rfl
@[simp] theorem wrN_router (k v : Nat) : (wrN k v s).router = s.router := rfl
@[simp] theorem wrN_sessions (k v : Nat) : (wrN k v s).sessions = s.sessions := rfl
@[simp] theorem wrN_sdo (k v : Nat) : (wrN k v s).sdo = s.sdo := rfl
@[simp] theorem wrN_scan (k v : Nat) : (wrN k v s).scan = s.scan := rfl
@[simp] theorem wrN_lanes (k v : Nat) : (wrN k v s).lanes = s.lanes := rfl
@[simp] theorem wrN_banks (k v : Nat) : (wrN k v s).banks = s.banks := rfl
@[simp] theorem wrN_pavs (k v : Nat) : (wrN k v s).pavs = s.pavs := rfl
@[simp] theorem wrN_trestles (k v : Nat) : (wrN k v s).trestles = s.trestles := rfl
@[simp] theorem wrN_plane (k v : Nat) : (wrN k v s).plane = s.plane := rfl
@[simp] theorem wrN_rotation (k v : Nat) : (wrN k v s).rotation = s.rotation := rfl
@[simp] theorem wrN_fabric (k v : Nat) : (wrN k v s).fabric = s.fabric := rfl
@[simp] theorem wrN_opt (k v : Nat) : (wrN k v s).opt = s.opt := rfl
@[simp] theorem wrN_fld (k v : Nat) : (wrN k v s).fld = s.fld := rfl
@[simp] theorem wrN_isl (k v : Nat) : (wrN k v s).isl = s.isl := rfl
@[simp] theorem wrN_pair (k v : Nat) : (wrN k v s).pair = s.pair := rfl
@[simp] theorem wrN_gate (k v : Nat) : (wrN k v s).gate = s.gate := rfl
@[simp] theorem wrN_pow (k v : Nat) : (wrN k v s).pow = s.pow := rfl
@[simp] theorem wrN_sec (k v : Nat) : (wrN k v s).sec = s.sec := rfl
@[simp] theorem wrN_upd (k v : Nat) : (wrN k v s).upd = s.upd := rfl
@[simp] theorem wrN_sto (k v : Nat) : (wrN k v s).sto = s.sto := rfl
@[simp] theorem wrN_recd (k v : Nat) : (wrN k v s).recd = s.recd := rfl
@[simp] theorem wrN_hist (k v : Nat) : (wrN k v s).hist = s.hist := rfl
@[simp] theorem wrN_net (k v : Nat) : (wrN k v s).net = s.net := rfl
@[simp] theorem wrN_can (k v : Nat) : (wrN k v s).can = s.can := rfl
@[simp] theorem wrN_blobOf (k v : Nat) (j : Nat) : (wrN k v s).blobOf j = s.blobOf j := rfl
@[simp] theorem wrN_byte (k v : Nat) (sp x : Nat) : (wrN k v s).byte sp x = s.byte sp x := rfl

@[simp] theorem wrB_pending (k : Nat) (b : Bool) : (wrB k b s).pending = s.pending := rfl
@[simp] theorem wrB_now (k : Nat) (b : Bool) : (wrB k b s).now = s.now := rfl
@[simp] theorem wrB_tb (k : Nat) (b : Bool) : (wrB k b s).tb = s.tb := rfl
@[simp] theorem wrB_fresh (k : Nat) (b : Bool) : (wrB k b s).fresh = s.fresh := rfl
@[simp] theorem wrB_blob (k : Nat) (b : Bool) : (wrB k b s).blob = s.blob := rfl
@[simp] theorem wrB_store (k : Nat) (b : Bool) : (wrB k b s).store = s.store := rfl
@[simp] theorem wrB_journal (k : Nat) (b : Bool) : (wrB k b s).journal = s.journal := rfl
@[simp] theorem wrB_pavVals (k : Nat) (b : Bool) : (wrB k b s).pavVals = s.pavVals := rfl
@[simp] theorem wrB_dictReady (k : Nat) (b : Bool) : (wrB k b s).dictReady = s.dictReady := rfl
@[simp] theorem wrB_answer (k : Nat) (b : Bool) : (wrB k b s).answer = s.answer := rfl
@[simp] theorem wrB_wire (k : Nat) (b : Bool) : (wrB k b s).wire = s.wire := rfl
@[simp] theorem wrB_mem (k : Nat) (b : Bool) : (wrB k b s).mem = s.mem := rfl
@[simp] theorem wrB_dirty (k : Nat) (b : Bool) : (wrB k b s).dirty = s.dirty := rfl
@[simp] theorem wrB_router (k : Nat) (b : Bool) : (wrB k b s).router = s.router := rfl
@[simp] theorem wrB_sessions (k : Nat) (b : Bool) : (wrB k b s).sessions = s.sessions := rfl
@[simp] theorem wrB_sdo (k : Nat) (b : Bool) : (wrB k b s).sdo = s.sdo := rfl
@[simp] theorem wrB_scan (k : Nat) (b : Bool) : (wrB k b s).scan = s.scan := rfl
@[simp] theorem wrB_lanes (k : Nat) (b : Bool) : (wrB k b s).lanes = s.lanes := rfl
@[simp] theorem wrB_banks (k : Nat) (b : Bool) : (wrB k b s).banks = s.banks := rfl
@[simp] theorem wrB_pavs (k : Nat) (b : Bool) : (wrB k b s).pavs = s.pavs := rfl
@[simp] theorem wrB_trestles (k : Nat) (b : Bool) : (wrB k b s).trestles = s.trestles := rfl
@[simp] theorem wrB_plane (k : Nat) (b : Bool) : (wrB k b s).plane = s.plane := rfl
@[simp] theorem wrB_rotation (k : Nat) (b : Bool) : (wrB k b s).rotation = s.rotation := rfl
@[simp] theorem wrB_fabric (k : Nat) (b : Bool) : (wrB k b s).fabric = s.fabric := rfl
@[simp] theorem wrB_opt (k : Nat) (b : Bool) : (wrB k b s).opt = s.opt := rfl
@[simp] theorem wrB_fld (k : Nat) (b : Bool) : (wrB k b s).fld = s.fld := rfl
@[simp] theorem wrB_isl (k : Nat) (b : Bool) : (wrB k b s).isl = s.isl := rfl
@[simp] theorem wrB_pair (k : Nat) (b : Bool) : (wrB k b s).pair = s.pair := rfl
@[simp] theorem wrB_gate (k : Nat) (b : Bool) : (wrB k b s).gate = s.gate := rfl
@[simp] theorem wrB_pow (k : Nat) (b : Bool) : (wrB k b s).pow = s.pow := rfl
@[simp] theorem wrB_sec (k : Nat) (b : Bool) : (wrB k b s).sec = s.sec := rfl
@[simp] theorem wrB_upd (k : Nat) (b : Bool) : (wrB k b s).upd = s.upd := rfl
@[simp] theorem wrB_sto (k : Nat) (b : Bool) : (wrB k b s).sto = s.sto := rfl
@[simp] theorem wrB_recd (k : Nat) (b : Bool) : (wrB k b s).recd = s.recd := rfl
@[simp] theorem wrB_hist (k : Nat) (b : Bool) : (wrB k b s).hist = s.hist := rfl
@[simp] theorem wrB_net (k : Nat) (b : Bool) : (wrB k b s).net = s.net := rfl
@[simp] theorem wrB_can (k : Nat) (b : Bool) : (wrB k b s).can = s.can := rfl
@[simp] theorem wrB_blobOf (k : Nat) (b : Bool) (j : Nat) : (wrB k b s).blobOf j = s.blobOf j := rfl
@[simp] theorem wrB_byte (k : Nat) (b : Bool) (sp x : Nat) : (wrB k b s).byte sp x = s.byte sp x := rfl

@[simp] theorem inc_pending (k cap : Nat) : (inc k cap s).pending = s.pending := rfl
@[simp] theorem inc_now (k cap : Nat) : (inc k cap s).now = s.now := rfl
@[simp] theorem inc_tb (k cap : Nat) : (inc k cap s).tb = s.tb := rfl
@[simp] theorem inc_fresh (k cap : Nat) : (inc k cap s).fresh = s.fresh := rfl
@[simp] theorem inc_blob (k cap : Nat) : (inc k cap s).blob = s.blob := rfl
@[simp] theorem inc_store (k cap : Nat) : (inc k cap s).store = s.store := rfl
@[simp] theorem inc_journal (k cap : Nat) : (inc k cap s).journal = s.journal := rfl
@[simp] theorem inc_pavVals (k cap : Nat) : (inc k cap s).pavVals = s.pavVals := rfl
@[simp] theorem inc_dictReady (k cap : Nat) : (inc k cap s).dictReady = s.dictReady := rfl
@[simp] theorem inc_answer (k cap : Nat) : (inc k cap s).answer = s.answer := rfl
@[simp] theorem inc_wire (k cap : Nat) : (inc k cap s).wire = s.wire := rfl
@[simp] theorem inc_mem (k cap : Nat) : (inc k cap s).mem = s.mem := rfl
@[simp] theorem inc_dirty (k cap : Nat) : (inc k cap s).dirty = s.dirty := rfl
@[simp] theorem inc_router (k cap : Nat) : (inc k cap s).router = s.router := rfl
@[simp] theorem inc_sessions (k cap : Nat) : (inc k cap s).sessions = s.sessions := rfl
@[simp] theorem inc_sdo (k cap : Nat) : (inc k cap s).sdo = s.sdo := rfl
@[simp] theorem inc_scan (k cap : Nat) : (inc k cap s).scan = s.scan := rfl
@[simp] theorem inc_lanes (k cap : Nat) : (inc k cap s).lanes = s.lanes := rfl
@[simp] theorem inc_banks (k cap : Nat) : (inc k cap s).banks = s.banks := rfl
@[simp] theorem inc_pavs (k cap : Nat) : (inc k cap s).pavs = s.pavs := rfl
@[simp] theorem inc_trestles (k cap : Nat) : (inc k cap s).trestles = s.trestles := rfl
@[simp] theorem inc_plane (k cap : Nat) : (inc k cap s).plane = s.plane := rfl
@[simp] theorem inc_rotation (k cap : Nat) : (inc k cap s).rotation = s.rotation := rfl
@[simp] theorem inc_fabric (k cap : Nat) : (inc k cap s).fabric = s.fabric := rfl
@[simp] theorem inc_opt (k cap : Nat) : (inc k cap s).opt = s.opt := rfl
@[simp] theorem inc_fld (k cap : Nat) : (inc k cap s).fld = s.fld := rfl
@[simp] theorem inc_isl (k cap : Nat) : (inc k cap s).isl = s.isl := rfl
@[simp] theorem inc_pair (k cap : Nat) : (inc k cap s).pair = s.pair := rfl
@[simp] theorem inc_gate (k cap : Nat) : (inc k cap s).gate = s.gate := rfl
@[simp] theorem inc_pow (k cap : Nat) : (inc k cap s).pow = s.pow := rfl
@[simp] theorem inc_sec (k cap : Nat) : (inc k cap s).sec = s.sec := rfl
@[simp] theorem inc_upd (k cap : Nat) : (inc k cap s).upd = s.upd := rfl
@[simp] theorem inc_sto (k cap : Nat) : (inc k cap s).sto = s.sto := rfl
@[simp] theorem inc_recd (k cap : Nat) : (inc k cap s).recd = s.recd := rfl
@[simp] theorem inc_hist (k cap : Nat) : (inc k cap s).hist = s.hist := rfl
@[simp] theorem inc_net (k cap : Nat) : (inc k cap s).net = s.net := rfl
@[simp] theorem inc_can (k cap : Nat) : (inc k cap s).can = s.can := rfl
@[simp] theorem inc_blobOf (k cap : Nat) (j : Nat) : (inc k cap s).blobOf j = s.blobOf j := rfl
@[simp] theorem inc_byte (k cap : Nat) (sp x : Nat) : (inc k cap s).byte sp x = s.byte sp x := rfl

@[simp] theorem wrBlob_pending (k : Nat) (b : Bytes) : (wrBlob k b s).pending = s.pending := rfl
@[simp] theorem wrBlob_now (k : Nat) (b : Bytes) : (wrBlob k b s).now = s.now := rfl
@[simp] theorem wrBlob_tb (k : Nat) (b : Bytes) : (wrBlob k b s).tb = s.tb := rfl
@[simp] theorem wrBlob_fresh (k : Nat) (b : Bytes) : (wrBlob k b s).fresh = s.fresh := rfl
@[simp] theorem wrBlob_dict (k : Nat) (b : Bytes) : (wrBlob k b s).dict = s.dict := rfl
@[simp] theorem wrBlob_store (k : Nat) (b : Bytes) : (wrBlob k b s).store = s.store := rfl
@[simp] theorem wrBlob_journal (k : Nat) (b : Bytes) : (wrBlob k b s).journal = s.journal := rfl
@[simp] theorem wrBlob_pavVals (k : Nat) (b : Bytes) : (wrBlob k b s).pavVals = s.pavVals := rfl
@[simp] theorem wrBlob_dictReady (k : Nat) (b : Bytes) : (wrBlob k b s).dictReady = s.dictReady := rfl
@[simp] theorem wrBlob_answer (k : Nat) (b : Bytes) : (wrBlob k b s).answer = s.answer := rfl
@[simp] theorem wrBlob_wire (k : Nat) (b : Bytes) : (wrBlob k b s).wire = s.wire := rfl
@[simp] theorem wrBlob_mem (k : Nat) (b : Bytes) : (wrBlob k b s).mem = s.mem := rfl
@[simp] theorem wrBlob_dirty (k : Nat) (b : Bytes) : (wrBlob k b s).dirty = s.dirty := rfl
@[simp] theorem wrBlob_router (k : Nat) (b : Bytes) : (wrBlob k b s).router = s.router := rfl
@[simp] theorem wrBlob_sessions (k : Nat) (b : Bytes) : (wrBlob k b s).sessions = s.sessions := rfl
@[simp] theorem wrBlob_sdo (k : Nat) (b : Bytes) : (wrBlob k b s).sdo = s.sdo := rfl
@[simp] theorem wrBlob_scan (k : Nat) (b : Bytes) : (wrBlob k b s).scan = s.scan := rfl
@[simp] theorem wrBlob_lanes (k : Nat) (b : Bytes) : (wrBlob k b s).lanes = s.lanes := rfl
@[simp] theorem wrBlob_banks (k : Nat) (b : Bytes) : (wrBlob k b s).banks = s.banks := rfl
@[simp] theorem wrBlob_pavs (k : Nat) (b : Bytes) : (wrBlob k b s).pavs = s.pavs := rfl
@[simp] theorem wrBlob_trestles (k : Nat) (b : Bytes) : (wrBlob k b s).trestles = s.trestles := rfl
@[simp] theorem wrBlob_plane (k : Nat) (b : Bytes) : (wrBlob k b s).plane = s.plane := rfl
@[simp] theorem wrBlob_rotation (k : Nat) (b : Bytes) : (wrBlob k b s).rotation = s.rotation := rfl
@[simp] theorem wrBlob_fabric (k : Nat) (b : Bytes) : (wrBlob k b s).fabric = s.fabric := rfl
@[simp] theorem wrBlob_opt (k : Nat) (b : Bytes) : (wrBlob k b s).opt = s.opt := rfl
@[simp] theorem wrBlob_fld (k : Nat) (b : Bytes) : (wrBlob k b s).fld = s.fld := rfl
@[simp] theorem wrBlob_isl (k : Nat) (b : Bytes) : (wrBlob k b s).isl = s.isl := rfl
@[simp] theorem wrBlob_pair (k : Nat) (b : Bytes) : (wrBlob k b s).pair = s.pair := rfl
@[simp] theorem wrBlob_gate (k : Nat) (b : Bytes) : (wrBlob k b s).gate = s.gate := rfl
@[simp] theorem wrBlob_pow (k : Nat) (b : Bytes) : (wrBlob k b s).pow = s.pow := rfl
@[simp] theorem wrBlob_sec (k : Nat) (b : Bytes) : (wrBlob k b s).sec = s.sec := rfl
@[simp] theorem wrBlob_upd (k : Nat) (b : Bytes) : (wrBlob k b s).upd = s.upd := rfl
@[simp] theorem wrBlob_sto (k : Nat) (b : Bytes) : (wrBlob k b s).sto = s.sto := rfl
@[simp] theorem wrBlob_recd (k : Nat) (b : Bytes) : (wrBlob k b s).recd = s.recd := rfl
@[simp] theorem wrBlob_hist (k : Nat) (b : Bytes) : (wrBlob k b s).hist = s.hist := rfl
@[simp] theorem wrBlob_net (k : Nat) (b : Bytes) : (wrBlob k b s).net = s.net := rfl
@[simp] theorem wrBlob_can (k : Nat) (b : Bytes) : (wrBlob k b s).can = s.can := rfl
@[simp] theorem wrBlob_rd (k : Nat) (b : Bytes) (j : Nat) : (wrBlob k b s).rd j = s.rd j := rfl
@[simp] theorem wrBlob_rdN (k : Nat) (b : Bytes) (j : Nat) : (wrBlob k b s).rdN j = s.rdN j := rfl
@[simp] theorem wrBlob_on (k : Nat) (b : Bytes) (j : Nat) : (wrBlob k b s).on j = s.on j := rfl
@[simp] theorem wrBlob_mode (k : Nat) (b : Bytes) : (wrBlob k b s).mode = s.mode := rfl
@[simp] theorem wrBlob_byte (k : Nat) (b : Bytes) (sp x : Nat) : (wrBlob k b s).byte sp x = s.byte sp x := rfl

@[simp] theorem reply_pending (c : Nat) (d : Bytes) : (reply c d s).pending = s.pending := rfl
@[simp] theorem reply_now (c : Nat) (d : Bytes) : (reply c d s).now = s.now := rfl
@[simp] theorem reply_tb (c : Nat) (d : Bytes) : (reply c d s).tb = s.tb := rfl
@[simp] theorem reply_fresh (c : Nat) (d : Bytes) : (reply c d s).fresh = s.fresh := rfl
@[simp] theorem reply_dict (c : Nat) (d : Bytes) : (reply c d s).dict = s.dict := rfl
@[simp] theorem reply_blob (c : Nat) (d : Bytes) : (reply c d s).blob = s.blob := rfl
@[simp] theorem reply_store (c : Nat) (d : Bytes) : (reply c d s).store = s.store := rfl
@[simp] theorem reply_journal (c : Nat) (d : Bytes) : (reply c d s).journal = s.journal := rfl
@[simp] theorem reply_pavVals (c : Nat) (d : Bytes) : (reply c d s).pavVals = s.pavVals := rfl
@[simp] theorem reply_dictReady (c : Nat) (d : Bytes) : (reply c d s).dictReady = s.dictReady := rfl
@[simp] theorem reply_answer (c : Nat) (d : Bytes) : (reply c d s).answer = { code := c, data := d } := rfl
@[simp] theorem reply_wire (c : Nat) (d : Bytes) : (reply c d s).wire = s.wire := rfl
@[simp] theorem reply_mem (c : Nat) (d : Bytes) : (reply c d s).mem = s.mem := rfl
@[simp] theorem reply_dirty (c : Nat) (d : Bytes) : (reply c d s).dirty = s.dirty := rfl
@[simp] theorem reply_router (c : Nat) (d : Bytes) : (reply c d s).router = s.router := rfl
@[simp] theorem reply_sessions (c : Nat) (d : Bytes) : (reply c d s).sessions = s.sessions := rfl
@[simp] theorem reply_sdo (c : Nat) (d : Bytes) : (reply c d s).sdo = s.sdo := rfl
@[simp] theorem reply_scan (c : Nat) (d : Bytes) : (reply c d s).scan = s.scan := rfl
@[simp] theorem reply_lanes (c : Nat) (d : Bytes) : (reply c d s).lanes = s.lanes := rfl
@[simp] theorem reply_banks (c : Nat) (d : Bytes) : (reply c d s).banks = s.banks := rfl
@[simp] theorem reply_pavs (c : Nat) (d : Bytes) : (reply c d s).pavs = s.pavs := rfl
@[simp] theorem reply_trestles (c : Nat) (d : Bytes) : (reply c d s).trestles = s.trestles := rfl
@[simp] theorem reply_plane (c : Nat) (d : Bytes) : (reply c d s).plane = s.plane := rfl
@[simp] theorem reply_rotation (c : Nat) (d : Bytes) : (reply c d s).rotation = s.rotation := rfl
@[simp] theorem reply_fabric (c : Nat) (d : Bytes) : (reply c d s).fabric = s.fabric := rfl
@[simp] theorem reply_opt (c : Nat) (d : Bytes) : (reply c d s).opt = s.opt := rfl
@[simp] theorem reply_fld (c : Nat) (d : Bytes) : (reply c d s).fld = s.fld := rfl
@[simp] theorem reply_isl (c : Nat) (d : Bytes) : (reply c d s).isl = s.isl := rfl
@[simp] theorem reply_pair (c : Nat) (d : Bytes) : (reply c d s).pair = s.pair := rfl
@[simp] theorem reply_gate (c : Nat) (d : Bytes) : (reply c d s).gate = s.gate := rfl
@[simp] theorem reply_pow (c : Nat) (d : Bytes) : (reply c d s).pow = s.pow := rfl
@[simp] theorem reply_sec (c : Nat) (d : Bytes) : (reply c d s).sec = s.sec := rfl
@[simp] theorem reply_upd (c : Nat) (d : Bytes) : (reply c d s).upd = s.upd := rfl
@[simp] theorem reply_sto (c : Nat) (d : Bytes) : (reply c d s).sto = s.sto := rfl
@[simp] theorem reply_recd (c : Nat) (d : Bytes) : (reply c d s).recd = s.recd := rfl
@[simp] theorem reply_hist (c : Nat) (d : Bytes) : (reply c d s).hist = s.hist := rfl
@[simp] theorem reply_net (c : Nat) (d : Bytes) : (reply c d s).net = s.net := rfl
@[simp] theorem reply_can (c : Nat) (d : Bytes) : (reply c d s).can = s.can := rfl
@[simp] theorem reply_rd (c : Nat) (d : Bytes) (j : Nat) : (reply c d s).rd j = s.rd j := rfl
@[simp] theorem reply_rdN (c : Nat) (d : Bytes) (j : Nat) : (reply c d s).rdN j = s.rdN j := rfl
@[simp] theorem reply_on (c : Nat) (d : Bytes) (j : Nat) : (reply c d s).on j = s.on j := rfl
@[simp] theorem reply_mode (c : Nat) (d : Bytes) : (reply c d s).mode = s.mode := rfl
@[simp] theorem reply_blobOf (c : Nat) (d : Bytes) (j : Nat) : (reply c d s).blobOf j = s.blobOf j := rfl
@[simp] theorem reply_byte (c : Nat) (d : Bytes) (sp x : Nat) : (reply c d s).byte sp x = s.byte sp x := rfl

@[simp] theorem send_pending (l : Nat) (b : Bytes) : (send l b s).pending = s.pending := rfl
@[simp] theorem send_now (l : Nat) (b : Bytes) : (send l b s).now = s.now := rfl
@[simp] theorem send_tb (l : Nat) (b : Bytes) : (send l b s).tb = s.tb := rfl
@[simp] theorem send_fresh (l : Nat) (b : Bytes) : (send l b s).fresh = s.fresh := rfl
@[simp] theorem send_dict (l : Nat) (b : Bytes) : (send l b s).dict = s.dict := rfl
@[simp] theorem send_blob (l : Nat) (b : Bytes) : (send l b s).blob = s.blob := rfl
@[simp] theorem send_store (l : Nat) (b : Bytes) : (send l b s).store = s.store := rfl
@[simp] theorem send_journal (l : Nat) (b : Bytes) : (send l b s).journal = s.journal := rfl
@[simp] theorem send_pavVals (l : Nat) (b : Bytes) : (send l b s).pavVals = s.pavVals := rfl
@[simp] theorem send_dictReady (l : Nat) (b : Bytes) : (send l b s).dictReady = s.dictReady := rfl
@[simp] theorem send_answer (l : Nat) (b : Bytes) : (send l b s).answer = s.answer := rfl
@[simp] theorem send_mem (l : Nat) (b : Bytes) : (send l b s).mem = s.mem := rfl
@[simp] theorem send_dirty (l : Nat) (b : Bytes) : (send l b s).dirty = s.dirty := rfl
@[simp] theorem send_router (l : Nat) (b : Bytes) : (send l b s).router = s.router := rfl
@[simp] theorem send_sessions (l : Nat) (b : Bytes) : (send l b s).sessions = s.sessions := rfl
@[simp] theorem send_sdo (l : Nat) (b : Bytes) : (send l b s).sdo = s.sdo := rfl
@[simp] theorem send_scan (l : Nat) (b : Bytes) : (send l b s).scan = s.scan := rfl
@[simp] theorem send_lanes (l : Nat) (b : Bytes) : (send l b s).lanes = s.lanes := rfl
@[simp] theorem send_banks (l : Nat) (b : Bytes) : (send l b s).banks = s.banks := rfl
@[simp] theorem send_pavs (l : Nat) (b : Bytes) : (send l b s).pavs = s.pavs := rfl
@[simp] theorem send_trestles (l : Nat) (b : Bytes) : (send l b s).trestles = s.trestles := rfl
@[simp] theorem send_plane (l : Nat) (b : Bytes) : (send l b s).plane = s.plane := rfl
@[simp] theorem send_rotation (l : Nat) (b : Bytes) : (send l b s).rotation = s.rotation := rfl
@[simp] theorem send_fabric (l : Nat) (b : Bytes) : (send l b s).fabric = s.fabric := rfl
@[simp] theorem send_opt (l : Nat) (b : Bytes) : (send l b s).opt = s.opt := rfl
@[simp] theorem send_fld (l : Nat) (b : Bytes) : (send l b s).fld = s.fld := rfl
@[simp] theorem send_isl (l : Nat) (b : Bytes) : (send l b s).isl = s.isl := rfl
@[simp] theorem send_pair (l : Nat) (b : Bytes) : (send l b s).pair = s.pair := rfl
@[simp] theorem send_gate (l : Nat) (b : Bytes) : (send l b s).gate = s.gate := rfl
@[simp] theorem send_pow (l : Nat) (b : Bytes) : (send l b s).pow = s.pow := rfl
@[simp] theorem send_sec (l : Nat) (b : Bytes) : (send l b s).sec = s.sec := rfl
@[simp] theorem send_upd (l : Nat) (b : Bytes) : (send l b s).upd = s.upd := rfl
@[simp] theorem send_sto (l : Nat) (b : Bytes) : (send l b s).sto = s.sto := rfl
@[simp] theorem send_recd (l : Nat) (b : Bytes) : (send l b s).recd = s.recd := rfl
@[simp] theorem send_hist (l : Nat) (b : Bytes) : (send l b s).hist = s.hist := rfl
@[simp] theorem send_net (l : Nat) (b : Bytes) : (send l b s).net = s.net := rfl
@[simp] theorem send_can (l : Nat) (b : Bytes) : (send l b s).can = s.can := rfl
@[simp] theorem send_rd (l : Nat) (b : Bytes) (j : Nat) : (send l b s).rd j = s.rd j := rfl
@[simp] theorem send_rdN (l : Nat) (b : Bytes) (j : Nat) : (send l b s).rdN j = s.rdN j := rfl
@[simp] theorem send_on (l : Nat) (b : Bytes) (j : Nat) : (send l b s).on j = s.on j := rfl
@[simp] theorem send_mode (l : Nat) (b : Bytes) : (send l b s).mode = s.mode := rfl
@[simp] theorem send_blobOf (l : Nat) (b : Bytes) (j : Nat) : (send l b s).blobOf j = s.blobOf j := rfl
@[simp] theorem send_byte (l : Nat) (b : Bytes) (sp x : Nat) : (send l b s).byte sp x = s.byte sp x := rfl

@[simp] theorem drawn_pending : (drawn s).pending = s.pending := rfl
@[simp] theorem drawn_now : (drawn s).now = s.now := rfl
@[simp] theorem drawn_tb : (drawn s).tb = s.tb := rfl
@[simp] theorem drawn_fresh : (drawn s).fresh = s.fresh + 1 := rfl
@[simp] theorem drawn_dict : (drawn s).dict = s.dict := rfl
@[simp] theorem drawn_blob : (drawn s).blob = s.blob := rfl
@[simp] theorem drawn_store : (drawn s).store = s.store := rfl
@[simp] theorem drawn_journal : (drawn s).journal = s.journal := rfl
@[simp] theorem drawn_pavVals : (drawn s).pavVals = s.pavVals := rfl
@[simp] theorem drawn_dictReady : (drawn s).dictReady = s.dictReady := rfl
@[simp] theorem drawn_answer : (drawn s).answer = s.answer := rfl
@[simp] theorem drawn_wire : (drawn s).wire = s.wire := rfl
@[simp] theorem drawn_mem : (drawn s).mem = s.mem := rfl
@[simp] theorem drawn_dirty : (drawn s).dirty = s.dirty := rfl
@[simp] theorem drawn_router : (drawn s).router = s.router := rfl
@[simp] theorem drawn_sessions : (drawn s).sessions = s.sessions := rfl
@[simp] theorem drawn_sdo : (drawn s).sdo = s.sdo := rfl
@[simp] theorem drawn_scan : (drawn s).scan = s.scan := rfl
@[simp] theorem drawn_lanes : (drawn s).lanes = s.lanes := rfl
@[simp] theorem drawn_banks : (drawn s).banks = s.banks := rfl
@[simp] theorem drawn_pavs : (drawn s).pavs = s.pavs := rfl
@[simp] theorem drawn_trestles : (drawn s).trestles = s.trestles := rfl
@[simp] theorem drawn_plane : (drawn s).plane = s.plane := rfl
@[simp] theorem drawn_rotation : (drawn s).rotation = s.rotation := rfl
@[simp] theorem drawn_fabric : (drawn s).fabric = s.fabric := rfl
@[simp] theorem drawn_opt : (drawn s).opt = s.opt := rfl
@[simp] theorem drawn_fld : (drawn s).fld = s.fld := rfl
@[simp] theorem drawn_isl : (drawn s).isl = s.isl := rfl
@[simp] theorem drawn_pair : (drawn s).pair = s.pair := rfl
@[simp] theorem drawn_gate : (drawn s).gate = s.gate := rfl
@[simp] theorem drawn_pow : (drawn s).pow = s.pow := rfl
@[simp] theorem drawn_sec : (drawn s).sec = s.sec := rfl
@[simp] theorem drawn_upd : (drawn s).upd = s.upd := rfl
@[simp] theorem drawn_sto : (drawn s).sto = s.sto := rfl
@[simp] theorem drawn_recd : (drawn s).recd = s.recd := rfl
@[simp] theorem drawn_hist : (drawn s).hist = s.hist := rfl
@[simp] theorem drawn_net : (drawn s).net = s.net := rfl
@[simp] theorem drawn_can : (drawn s).can = s.can := rfl
@[simp] theorem drawn_rd (j : Nat) : (drawn s).rd j = s.rd j := rfl
@[simp] theorem drawn_rdN (j : Nat) : (drawn s).rdN j = s.rdN j := rfl
@[simp] theorem drawn_on (j : Nat) : (drawn s).on j = s.on j := rfl
@[simp] theorem drawn_mode : (drawn s).mode = s.mode := rfl
@[simp] theorem drawn_blobOf (j : Nat) : (drawn s).blobOf j = s.blobOf j := rfl
@[simp] theorem drawn_byte (sp x : Nat) : (drawn s).byte sp x = s.byte sp x := rfl

@[simp] theorem raise_pending (n : Nat) (p : Bytes) : (raise n p s).pending = s.pending := rfl
@[simp] theorem raise_now (n : Nat) (p : Bytes) : (raise n p s).now = s.now := rfl
@[simp] theorem raise_tb (n : Nat) (p : Bytes) : (raise n p s).tb = s.tb := rfl
@[simp] theorem raise_fresh (n : Nat) (p : Bytes) : (raise n p s).fresh = s.fresh := rfl
@[simp] theorem raise_dict (n : Nat) (p : Bytes) : (raise n p s).dict = s.dict := rfl
@[simp] theorem raise_blob (n : Nat) (p : Bytes) : (raise n p s).blob = s.blob := rfl
@[simp] theorem raise_store (n : Nat) (p : Bytes) : (raise n p s).store = s.store := rfl
@[simp] theorem raise_journal (n : Nat) (p : Bytes) : (raise n p s).journal = s.journal := rfl
@[simp] theorem raise_pavVals (n : Nat) (p : Bytes) : (raise n p s).pavVals = s.pavVals := rfl
@[simp] theorem raise_dictReady (n : Nat) (p : Bytes) : (raise n p s).dictReady = s.dictReady := rfl
@[simp] theorem raise_answer (n : Nat) (p : Bytes) : (raise n p s).answer = s.answer := rfl
@[simp] theorem raise_wire (n : Nat) (p : Bytes) : (raise n p s).wire = s.wire := rfl
@[simp] theorem raise_mem (n : Nat) (p : Bytes) : (raise n p s).mem = s.mem := rfl
@[simp] theorem raise_dirty (n : Nat) (p : Bytes) : (raise n p s).dirty = s.dirty := rfl
@[simp] theorem raise_sessions (n : Nat) (p : Bytes) : (raise n p s).sessions = s.sessions := rfl
@[simp] theorem raise_sdo (n : Nat) (p : Bytes) : (raise n p s).sdo = s.sdo := rfl
@[simp] theorem raise_scan (n : Nat) (p : Bytes) : (raise n p s).scan = s.scan := rfl
@[simp] theorem raise_lanes (n : Nat) (p : Bytes) : (raise n p s).lanes = s.lanes := rfl
@[simp] theorem raise_banks (n : Nat) (p : Bytes) : (raise n p s).banks = s.banks := rfl
@[simp] theorem raise_pavs (n : Nat) (p : Bytes) : (raise n p s).pavs = s.pavs := rfl
@[simp] theorem raise_trestles (n : Nat) (p : Bytes) : (raise n p s).trestles = s.trestles := rfl
@[simp] theorem raise_plane (n : Nat) (p : Bytes) : (raise n p s).plane = s.plane := rfl
@[simp] theorem raise_rotation (n : Nat) (p : Bytes) : (raise n p s).rotation = s.rotation := rfl
@[simp] theorem raise_fabric (n : Nat) (p : Bytes) : (raise n p s).fabric = s.fabric := rfl
@[simp] theorem raise_opt (n : Nat) (p : Bytes) : (raise n p s).opt = s.opt := rfl
@[simp] theorem raise_fld (n : Nat) (p : Bytes) : (raise n p s).fld = s.fld := rfl
@[simp] theorem raise_isl (n : Nat) (p : Bytes) : (raise n p s).isl = s.isl := rfl
@[simp] theorem raise_pair (n : Nat) (p : Bytes) : (raise n p s).pair = s.pair := rfl
@[simp] theorem raise_gate (n : Nat) (p : Bytes) : (raise n p s).gate = s.gate := rfl
@[simp] theorem raise_pow (n : Nat) (p : Bytes) : (raise n p s).pow = s.pow := rfl
@[simp] theorem raise_sec (n : Nat) (p : Bytes) : (raise n p s).sec = s.sec := rfl
@[simp] theorem raise_upd (n : Nat) (p : Bytes) : (raise n p s).upd = s.upd := rfl
@[simp] theorem raise_sto (n : Nat) (p : Bytes) : (raise n p s).sto = s.sto := rfl
@[simp] theorem raise_recd (n : Nat) (p : Bytes) : (raise n p s).recd = s.recd := rfl
@[simp] theorem raise_hist (n : Nat) (p : Bytes) : (raise n p s).hist = s.hist := rfl
@[simp] theorem raise_net (n : Nat) (p : Bytes) : (raise n p s).net = s.net := rfl
@[simp] theorem raise_can (n : Nat) (p : Bytes) : (raise n p s).can = s.can := rfl
@[simp] theorem raise_rd (n : Nat) (p : Bytes) (j : Nat) : (raise n p s).rd j = s.rd j := rfl
@[simp] theorem raise_rdN (n : Nat) (p : Bytes) (j : Nat) : (raise n p s).rdN j = s.rdN j := rfl
@[simp] theorem raise_on (n : Nat) (p : Bytes) (j : Nat) : (raise n p s).on j = s.on j := rfl
@[simp] theorem raise_mode (n : Nat) (p : Bytes) : (raise n p s).mode = s.mode := rfl
@[simp] theorem raise_blobOf (n : Nat) (p : Bytes) (j : Nat) : (raise n p s).blobOf j = s.blobOf j := rfl
@[simp] theorem raise_byte (n : Nat) (p : Bytes) (sp x : Nat) : (raise n p s).byte sp x = s.byte sp x := rfl

@[simp] theorem raiseSev_pending (n : Nat) (p : Bytes) (v : Nat) : (raiseSev n p v s).pending = s.pending := rfl
@[simp] theorem raiseSev_now (n : Nat) (p : Bytes) (v : Nat) : (raiseSev n p v s).now = s.now := rfl
@[simp] theorem raiseSev_tb (n : Nat) (p : Bytes) (v : Nat) : (raiseSev n p v s).tb = s.tb := rfl
@[simp] theorem raiseSev_fresh (n : Nat) (p : Bytes) (v : Nat) : (raiseSev n p v s).fresh = s.fresh := rfl
@[simp] theorem raiseSev_dict (n : Nat) (p : Bytes) (v : Nat) : (raiseSev n p v s).dict = s.dict := rfl
@[simp] theorem raiseSev_blob (n : Nat) (p : Bytes) (v : Nat) : (raiseSev n p v s).blob = s.blob := rfl
@[simp] theorem raiseSev_store (n : Nat) (p : Bytes) (v : Nat) : (raiseSev n p v s).store = s.store := rfl
@[simp] theorem raiseSev_journal (n : Nat) (p : Bytes) (v : Nat) : (raiseSev n p v s).journal = s.journal := rfl
@[simp] theorem raiseSev_pavVals (n : Nat) (p : Bytes) (v : Nat) : (raiseSev n p v s).pavVals = s.pavVals := rfl
@[simp] theorem raiseSev_dictReady (n : Nat) (p : Bytes) (v : Nat) : (raiseSev n p v s).dictReady = s.dictReady := rfl
@[simp] theorem raiseSev_answer (n : Nat) (p : Bytes) (v : Nat) : (raiseSev n p v s).answer = s.answer := rfl
@[simp] theorem raiseSev_wire (n : Nat) (p : Bytes) (v : Nat) : (raiseSev n p v s).wire = s.wire := rfl
@[simp] theorem raiseSev_mem (n : Nat) (p : Bytes) (v : Nat) : (raiseSev n p v s).mem = s.mem := rfl
@[simp] theorem raiseSev_dirty (n : Nat) (p : Bytes) (v : Nat) : (raiseSev n p v s).dirty = s.dirty := rfl
@[simp] theorem raiseSev_sessions (n : Nat) (p : Bytes) (v : Nat) : (raiseSev n p v s).sessions = s.sessions := rfl
@[simp] theorem raiseSev_sdo (n : Nat) (p : Bytes) (v : Nat) : (raiseSev n p v s).sdo = s.sdo := rfl
@[simp] theorem raiseSev_scan (n : Nat) (p : Bytes) (v : Nat) : (raiseSev n p v s).scan = s.scan := rfl
@[simp] theorem raiseSev_lanes (n : Nat) (p : Bytes) (v : Nat) : (raiseSev n p v s).lanes = s.lanes := rfl
@[simp] theorem raiseSev_banks (n : Nat) (p : Bytes) (v : Nat) : (raiseSev n p v s).banks = s.banks := rfl
@[simp] theorem raiseSev_pavs (n : Nat) (p : Bytes) (v : Nat) : (raiseSev n p v s).pavs = s.pavs := rfl
@[simp] theorem raiseSev_trestles (n : Nat) (p : Bytes) (v : Nat) : (raiseSev n p v s).trestles = s.trestles := rfl
@[simp] theorem raiseSev_plane (n : Nat) (p : Bytes) (v : Nat) : (raiseSev n p v s).plane = s.plane := rfl
@[simp] theorem raiseSev_rotation (n : Nat) (p : Bytes) (v : Nat) : (raiseSev n p v s).rotation = s.rotation := rfl
@[simp] theorem raiseSev_fabric (n : Nat) (p : Bytes) (v : Nat) : (raiseSev n p v s).fabric = s.fabric := rfl
@[simp] theorem raiseSev_opt (n : Nat) (p : Bytes) (v : Nat) : (raiseSev n p v s).opt = s.opt := rfl
@[simp] theorem raiseSev_fld (n : Nat) (p : Bytes) (v : Nat) : (raiseSev n p v s).fld = s.fld := rfl
@[simp] theorem raiseSev_isl (n : Nat) (p : Bytes) (v : Nat) : (raiseSev n p v s).isl = s.isl := rfl
@[simp] theorem raiseSev_pair (n : Nat) (p : Bytes) (v : Nat) : (raiseSev n p v s).pair = s.pair := rfl
@[simp] theorem raiseSev_gate (n : Nat) (p : Bytes) (v : Nat) : (raiseSev n p v s).gate = s.gate := rfl
@[simp] theorem raiseSev_pow (n : Nat) (p : Bytes) (v : Nat) : (raiseSev n p v s).pow = s.pow := rfl
@[simp] theorem raiseSev_sec (n : Nat) (p : Bytes) (v : Nat) : (raiseSev n p v s).sec = s.sec := rfl
@[simp] theorem raiseSev_upd (n : Nat) (p : Bytes) (v : Nat) : (raiseSev n p v s).upd = s.upd := rfl
@[simp] theorem raiseSev_sto (n : Nat) (p : Bytes) (v : Nat) : (raiseSev n p v s).sto = s.sto := rfl
@[simp] theorem raiseSev_recd (n : Nat) (p : Bytes) (v : Nat) : (raiseSev n p v s).recd = s.recd := rfl
@[simp] theorem raiseSev_hist (n : Nat) (p : Bytes) (v : Nat) : (raiseSev n p v s).hist = s.hist := rfl
@[simp] theorem raiseSev_net (n : Nat) (p : Bytes) (v : Nat) : (raiseSev n p v s).net = s.net := rfl
@[simp] theorem raiseSev_can (n : Nat) (p : Bytes) (v : Nat) : (raiseSev n p v s).can = s.can := rfl
@[simp] theorem raiseSev_rd (n : Nat) (p : Bytes) (v : Nat) (j : Nat) : (raiseSev n p v s).rd j = s.rd j := rfl
@[simp] theorem raiseSev_rdN (n : Nat) (p : Bytes) (v : Nat) (j : Nat) : (raiseSev n p v s).rdN j = s.rdN j := rfl
@[simp] theorem raiseSev_on (n : Nat) (p : Bytes) (v : Nat) (j : Nat) : (raiseSev n p v s).on j = s.on j := rfl
@[simp] theorem raiseSev_mode (n : Nat) (p : Bytes) (v : Nat) : (raiseSev n p v s).mode = s.mode := rfl
@[simp] theorem raiseSev_blobOf (n : Nat) (p : Bytes) (v : Nat) (j : Nat) : (raiseSev n p v s).blobOf j = s.blobOf j := rfl
@[simp] theorem raiseSev_byte (n : Nat) (p : Bytes) (v : Nat) (sp x : Nat) : (raiseSev n p v s).byte sp x = s.byte sp x := rfl

@[simp] theorem raiseOwned_pending (n : Nat) (p : Bytes) (o : Nat) : (raiseOwned n p o s).pending = s.pending := rfl
@[simp] theorem raiseOwned_now (n : Nat) (p : Bytes) (o : Nat) : (raiseOwned n p o s).now = s.now := rfl
@[simp] theorem raiseOwned_tb (n : Nat) (p : Bytes) (o : Nat) : (raiseOwned n p o s).tb = s.tb := rfl
@[simp] theorem raiseOwned_fresh (n : Nat) (p : Bytes) (o : Nat) : (raiseOwned n p o s).fresh = s.fresh := rfl
@[simp] theorem raiseOwned_dict (n : Nat) (p : Bytes) (o : Nat) : (raiseOwned n p o s).dict = s.dict := rfl
@[simp] theorem raiseOwned_blob (n : Nat) (p : Bytes) (o : Nat) : (raiseOwned n p o s).blob = s.blob := rfl
@[simp] theorem raiseOwned_store (n : Nat) (p : Bytes) (o : Nat) : (raiseOwned n p o s).store = s.store := rfl
@[simp] theorem raiseOwned_journal (n : Nat) (p : Bytes) (o : Nat) : (raiseOwned n p o s).journal = s.journal := rfl
@[simp] theorem raiseOwned_pavVals (n : Nat) (p : Bytes) (o : Nat) : (raiseOwned n p o s).pavVals = s.pavVals := rfl
@[simp] theorem raiseOwned_dictReady (n : Nat) (p : Bytes) (o : Nat) : (raiseOwned n p o s).dictReady = s.dictReady := rfl
@[simp] theorem raiseOwned_answer (n : Nat) (p : Bytes) (o : Nat) : (raiseOwned n p o s).answer = s.answer := rfl
@[simp] theorem raiseOwned_wire (n : Nat) (p : Bytes) (o : Nat) : (raiseOwned n p o s).wire = s.wire := rfl
@[simp] theorem raiseOwned_mem (n : Nat) (p : Bytes) (o : Nat) : (raiseOwned n p o s).mem = s.mem := rfl
@[simp] theorem raiseOwned_dirty (n : Nat) (p : Bytes) (o : Nat) : (raiseOwned n p o s).dirty = s.dirty := rfl
@[simp] theorem raiseOwned_sessions (n : Nat) (p : Bytes) (o : Nat) : (raiseOwned n p o s).sessions = s.sessions := rfl
@[simp] theorem raiseOwned_sdo (n : Nat) (p : Bytes) (o : Nat) : (raiseOwned n p o s).sdo = s.sdo := rfl
@[simp] theorem raiseOwned_scan (n : Nat) (p : Bytes) (o : Nat) : (raiseOwned n p o s).scan = s.scan := rfl
@[simp] theorem raiseOwned_lanes (n : Nat) (p : Bytes) (o : Nat) : (raiseOwned n p o s).lanes = s.lanes := rfl
@[simp] theorem raiseOwned_banks (n : Nat) (p : Bytes) (o : Nat) : (raiseOwned n p o s).banks = s.banks := rfl
@[simp] theorem raiseOwned_pavs (n : Nat) (p : Bytes) (o : Nat) : (raiseOwned n p o s).pavs = s.pavs := rfl
@[simp] theorem raiseOwned_trestles (n : Nat) (p : Bytes) (o : Nat) : (raiseOwned n p o s).trestles = s.trestles := rfl
@[simp] theorem raiseOwned_plane (n : Nat) (p : Bytes) (o : Nat) : (raiseOwned n p o s).plane = s.plane := rfl
@[simp] theorem raiseOwned_rotation (n : Nat) (p : Bytes) (o : Nat) : (raiseOwned n p o s).rotation = s.rotation := rfl
@[simp] theorem raiseOwned_fabric (n : Nat) (p : Bytes) (o : Nat) : (raiseOwned n p o s).fabric = s.fabric := rfl
@[simp] theorem raiseOwned_opt (n : Nat) (p : Bytes) (o : Nat) : (raiseOwned n p o s).opt = s.opt := rfl
@[simp] theorem raiseOwned_fld (n : Nat) (p : Bytes) (o : Nat) : (raiseOwned n p o s).fld = s.fld := rfl
@[simp] theorem raiseOwned_isl (n : Nat) (p : Bytes) (o : Nat) : (raiseOwned n p o s).isl = s.isl := rfl
@[simp] theorem raiseOwned_pair (n : Nat) (p : Bytes) (o : Nat) : (raiseOwned n p o s).pair = s.pair := rfl
@[simp] theorem raiseOwned_gate (n : Nat) (p : Bytes) (o : Nat) : (raiseOwned n p o s).gate = s.gate := rfl
@[simp] theorem raiseOwned_pow (n : Nat) (p : Bytes) (o : Nat) : (raiseOwned n p o s).pow = s.pow := rfl
@[simp] theorem raiseOwned_sec (n : Nat) (p : Bytes) (o : Nat) : (raiseOwned n p o s).sec = s.sec := rfl
@[simp] theorem raiseOwned_upd (n : Nat) (p : Bytes) (o : Nat) : (raiseOwned n p o s).upd = s.upd := rfl
@[simp] theorem raiseOwned_sto (n : Nat) (p : Bytes) (o : Nat) : (raiseOwned n p o s).sto = s.sto := rfl
@[simp] theorem raiseOwned_recd (n : Nat) (p : Bytes) (o : Nat) : (raiseOwned n p o s).recd = s.recd := rfl
@[simp] theorem raiseOwned_hist (n : Nat) (p : Bytes) (o : Nat) : (raiseOwned n p o s).hist = s.hist := rfl
@[simp] theorem raiseOwned_net (n : Nat) (p : Bytes) (o : Nat) : (raiseOwned n p o s).net = s.net := rfl
@[simp] theorem raiseOwned_can (n : Nat) (p : Bytes) (o : Nat) : (raiseOwned n p o s).can = s.can := rfl
@[simp] theorem raiseOwned_rd (n : Nat) (p : Bytes) (o : Nat) (j : Nat) : (raiseOwned n p o s).rd j = s.rd j := rfl
@[simp] theorem raiseOwned_rdN (n : Nat) (p : Bytes) (o : Nat) (j : Nat) : (raiseOwned n p o s).rdN j = s.rdN j := rfl
@[simp] theorem raiseOwned_on (n : Nat) (p : Bytes) (o : Nat) (j : Nat) : (raiseOwned n p o s).on j = s.on j := rfl
@[simp] theorem raiseOwned_mode (n : Nat) (p : Bytes) (o : Nat) : (raiseOwned n p o s).mode = s.mode := rfl
@[simp] theorem raiseOwned_blobOf (n : Nat) (p : Bytes) (o : Nat) (j : Nat) : (raiseOwned n p o s).blobOf j = s.blobOf j := rfl
@[simp] theorem raiseOwned_byte (n : Nat) (p : Bytes) (o : Nat) (sp x : Nat) : (raiseOwned n p o s).byte sp x = s.byte sp x := rfl

@[simp] theorem raiseWith_pending (n : Nat) (p : Bytes) (v o : Option Nat) : (raiseWith n p v o s).pending = s.pending := rfl
@[simp] theorem raiseWith_now (n : Nat) (p : Bytes) (v o : Option Nat) : (raiseWith n p v o s).now = s.now := rfl
@[simp] theorem raiseWith_tb (n : Nat) (p : Bytes) (v o : Option Nat) : (raiseWith n p v o s).tb = s.tb := rfl
@[simp] theorem raiseWith_fresh (n : Nat) (p : Bytes) (v o : Option Nat) : (raiseWith n p v o s).fresh = s.fresh := rfl
@[simp] theorem raiseWith_dict (n : Nat) (p : Bytes) (v o : Option Nat) : (raiseWith n p v o s).dict = s.dict := rfl
@[simp] theorem raiseWith_blob (n : Nat) (p : Bytes) (v o : Option Nat) : (raiseWith n p v o s).blob = s.blob := rfl
@[simp] theorem raiseWith_store (n : Nat) (p : Bytes) (v o : Option Nat) : (raiseWith n p v o s).store = s.store := rfl
@[simp] theorem raiseWith_journal (n : Nat) (p : Bytes) (v o : Option Nat) : (raiseWith n p v o s).journal = s.journal := rfl
@[simp] theorem raiseWith_pavVals (n : Nat) (p : Bytes) (v o : Option Nat) : (raiseWith n p v o s).pavVals = s.pavVals := rfl
@[simp] theorem raiseWith_dictReady (n : Nat) (p : Bytes) (v o : Option Nat) : (raiseWith n p v o s).dictReady = s.dictReady := rfl
@[simp] theorem raiseWith_answer (n : Nat) (p : Bytes) (v o : Option Nat) : (raiseWith n p v o s).answer = s.answer := rfl
@[simp] theorem raiseWith_wire (n : Nat) (p : Bytes) (v o : Option Nat) : (raiseWith n p v o s).wire = s.wire := rfl
@[simp] theorem raiseWith_mem (n : Nat) (p : Bytes) (v o : Option Nat) : (raiseWith n p v o s).mem = s.mem := rfl
@[simp] theorem raiseWith_dirty (n : Nat) (p : Bytes) (v o : Option Nat) : (raiseWith n p v o s).dirty = s.dirty := rfl
@[simp] theorem raiseWith_sessions (n : Nat) (p : Bytes) (v o : Option Nat) : (raiseWith n p v o s).sessions = s.sessions := rfl
@[simp] theorem raiseWith_sdo (n : Nat) (p : Bytes) (v o : Option Nat) : (raiseWith n p v o s).sdo = s.sdo := rfl
@[simp] theorem raiseWith_scan (n : Nat) (p : Bytes) (v o : Option Nat) : (raiseWith n p v o s).scan = s.scan := rfl
@[simp] theorem raiseWith_lanes (n : Nat) (p : Bytes) (v o : Option Nat) : (raiseWith n p v o s).lanes = s.lanes := rfl
@[simp] theorem raiseWith_banks (n : Nat) (p : Bytes) (v o : Option Nat) : (raiseWith n p v o s).banks = s.banks := rfl
@[simp] theorem raiseWith_pavs (n : Nat) (p : Bytes) (v o : Option Nat) : (raiseWith n p v o s).pavs = s.pavs := rfl
@[simp] theorem raiseWith_trestles (n : Nat) (p : Bytes) (v o : Option Nat) : (raiseWith n p v o s).trestles = s.trestles := rfl
@[simp] theorem raiseWith_plane (n : Nat) (p : Bytes) (v o : Option Nat) : (raiseWith n p v o s).plane = s.plane := rfl
@[simp] theorem raiseWith_rotation (n : Nat) (p : Bytes) (v o : Option Nat) : (raiseWith n p v o s).rotation = s.rotation := rfl
@[simp] theorem raiseWith_fabric (n : Nat) (p : Bytes) (v o : Option Nat) : (raiseWith n p v o s).fabric = s.fabric := rfl
@[simp] theorem raiseWith_opt (n : Nat) (p : Bytes) (v o : Option Nat) : (raiseWith n p v o s).opt = s.opt := rfl
@[simp] theorem raiseWith_fld (n : Nat) (p : Bytes) (v o : Option Nat) : (raiseWith n p v o s).fld = s.fld := rfl
@[simp] theorem raiseWith_isl (n : Nat) (p : Bytes) (v o : Option Nat) : (raiseWith n p v o s).isl = s.isl := rfl
@[simp] theorem raiseWith_pair (n : Nat) (p : Bytes) (v o : Option Nat) : (raiseWith n p v o s).pair = s.pair := rfl
@[simp] theorem raiseWith_gate (n : Nat) (p : Bytes) (v o : Option Nat) : (raiseWith n p v o s).gate = s.gate := rfl
@[simp] theorem raiseWith_pow (n : Nat) (p : Bytes) (v o : Option Nat) : (raiseWith n p v o s).pow = s.pow := rfl
@[simp] theorem raiseWith_sec (n : Nat) (p : Bytes) (v o : Option Nat) : (raiseWith n p v o s).sec = s.sec := rfl
@[simp] theorem raiseWith_upd (n : Nat) (p : Bytes) (v o : Option Nat) : (raiseWith n p v o s).upd = s.upd := rfl
@[simp] theorem raiseWith_sto (n : Nat) (p : Bytes) (v o : Option Nat) : (raiseWith n p v o s).sto = s.sto := rfl
@[simp] theorem raiseWith_recd (n : Nat) (p : Bytes) (v o : Option Nat) : (raiseWith n p v o s).recd = s.recd := rfl
@[simp] theorem raiseWith_hist (n : Nat) (p : Bytes) (v o : Option Nat) : (raiseWith n p v o s).hist = s.hist := rfl
@[simp] theorem raiseWith_net (n : Nat) (p : Bytes) (v o : Option Nat) : (raiseWith n p v o s).net = s.net := rfl
@[simp] theorem raiseWith_can (n : Nat) (p : Bytes) (v o : Option Nat) : (raiseWith n p v o s).can = s.can := rfl
@[simp] theorem raiseWith_rd (n : Nat) (p : Bytes) (v o : Option Nat) (j : Nat) : (raiseWith n p v o s).rd j = s.rd j := rfl
@[simp] theorem raiseWith_rdN (n : Nat) (p : Bytes) (v o : Option Nat) (j : Nat) : (raiseWith n p v o s).rdN j = s.rdN j := rfl
@[simp] theorem raiseWith_on (n : Nat) (p : Bytes) (v o : Option Nat) (j : Nat) : (raiseWith n p v o s).on j = s.on j := rfl
@[simp] theorem raiseWith_mode (n : Nat) (p : Bytes) (v o : Option Nat) : (raiseWith n p v o s).mode = s.mode := rfl
@[simp] theorem raiseWith_blobOf (n : Nat) (p : Bytes) (v o : Option Nat) (j : Nat) : (raiseWith n p v o s).blobOf j = s.blobOf j := rfl
@[simp] theorem raiseWith_byte (n : Nat) (p : Bytes) (v o : Option Nat) (sp x : Nat) : (raiseWith n p v o s).byte sp x = s.byte sp x := rfl

@[simp] theorem unlatch_pending (n : Nat) : (unlatch n s).pending = s.pending := rfl
@[simp] theorem unlatch_now (n : Nat) : (unlatch n s).now = s.now := rfl
@[simp] theorem unlatch_tb (n : Nat) : (unlatch n s).tb = s.tb := rfl
@[simp] theorem unlatch_fresh (n : Nat) : (unlatch n s).fresh = s.fresh := rfl
@[simp] theorem unlatch_dict (n : Nat) : (unlatch n s).dict = s.dict := rfl
@[simp] theorem unlatch_blob (n : Nat) : (unlatch n s).blob = s.blob := rfl
@[simp] theorem unlatch_store (n : Nat) : (unlatch n s).store = s.store := rfl
@[simp] theorem unlatch_journal (n : Nat) : (unlatch n s).journal = s.journal := rfl
@[simp] theorem unlatch_pavVals (n : Nat) : (unlatch n s).pavVals = s.pavVals := rfl
@[simp] theorem unlatch_dictReady (n : Nat) : (unlatch n s).dictReady = s.dictReady := rfl
@[simp] theorem unlatch_answer (n : Nat) : (unlatch n s).answer = s.answer := rfl
@[simp] theorem unlatch_wire (n : Nat) : (unlatch n s).wire = s.wire := rfl
@[simp] theorem unlatch_mem (n : Nat) : (unlatch n s).mem = s.mem := rfl
@[simp] theorem unlatch_dirty (n : Nat) : (unlatch n s).dirty = s.dirty := rfl
@[simp] theorem unlatch_sessions (n : Nat) : (unlatch n s).sessions = s.sessions := rfl
@[simp] theorem unlatch_sdo (n : Nat) : (unlatch n s).sdo = s.sdo := rfl
@[simp] theorem unlatch_scan (n : Nat) : (unlatch n s).scan = s.scan := rfl
@[simp] theorem unlatch_lanes (n : Nat) : (unlatch n s).lanes = s.lanes := rfl
@[simp] theorem unlatch_banks (n : Nat) : (unlatch n s).banks = s.banks := rfl
@[simp] theorem unlatch_pavs (n : Nat) : (unlatch n s).pavs = s.pavs := rfl
@[simp] theorem unlatch_trestles (n : Nat) : (unlatch n s).trestles = s.trestles := rfl
@[simp] theorem unlatch_plane (n : Nat) : (unlatch n s).plane = s.plane := rfl
@[simp] theorem unlatch_rotation (n : Nat) : (unlatch n s).rotation = s.rotation := rfl
@[simp] theorem unlatch_fabric (n : Nat) : (unlatch n s).fabric = s.fabric := rfl
@[simp] theorem unlatch_opt (n : Nat) : (unlatch n s).opt = s.opt := rfl
@[simp] theorem unlatch_fld (n : Nat) : (unlatch n s).fld = s.fld := rfl
@[simp] theorem unlatch_isl (n : Nat) : (unlatch n s).isl = s.isl := rfl
@[simp] theorem unlatch_pair (n : Nat) : (unlatch n s).pair = s.pair := rfl
@[simp] theorem unlatch_gate (n : Nat) : (unlatch n s).gate = s.gate := rfl
@[simp] theorem unlatch_pow (n : Nat) : (unlatch n s).pow = s.pow := rfl
@[simp] theorem unlatch_sec (n : Nat) : (unlatch n s).sec = s.sec := rfl
@[simp] theorem unlatch_upd (n : Nat) : (unlatch n s).upd = s.upd := rfl
@[simp] theorem unlatch_sto (n : Nat) : (unlatch n s).sto = s.sto := rfl
@[simp] theorem unlatch_recd (n : Nat) : (unlatch n s).recd = s.recd := rfl
@[simp] theorem unlatch_hist (n : Nat) : (unlatch n s).hist = s.hist := rfl
@[simp] theorem unlatch_net (n : Nat) : (unlatch n s).net = s.net := rfl
@[simp] theorem unlatch_can (n : Nat) : (unlatch n s).can = s.can := rfl
@[simp] theorem unlatch_rd (n : Nat) (j : Nat) : (unlatch n s).rd j = s.rd j := rfl
@[simp] theorem unlatch_rdN (n : Nat) (j : Nat) : (unlatch n s).rdN j = s.rdN j := rfl
@[simp] theorem unlatch_on (n : Nat) (j : Nat) : (unlatch n s).on j = s.on j := rfl
@[simp] theorem unlatch_mode (n : Nat) : (unlatch n s).mode = s.mode := rfl
@[simp] theorem unlatch_blobOf (n : Nat) (j : Nat) : (unlatch n s).blobOf j = s.blobOf j := rfl
@[simp] theorem unlatch_byte (n : Nat) (sp x : Nat) : (unlatch n s).byte sp x = s.byte sp x := rfl

@[simp] theorem updRouter_pending (f : Router → Router) : (updRouter f s).pending = s.pending := rfl
@[simp] theorem updRouter_now (f : Router → Router) : (updRouter f s).now = s.now := rfl
@[simp] theorem updRouter_tb (f : Router → Router) : (updRouter f s).tb = s.tb := rfl
@[simp] theorem updRouter_fresh (f : Router → Router) : (updRouter f s).fresh = s.fresh := rfl
@[simp] theorem updRouter_dict (f : Router → Router) : (updRouter f s).dict = s.dict := rfl
@[simp] theorem updRouter_blob (f : Router → Router) : (updRouter f s).blob = s.blob := rfl
@[simp] theorem updRouter_store (f : Router → Router) : (updRouter f s).store = s.store := rfl
@[simp] theorem updRouter_journal (f : Router → Router) : (updRouter f s).journal = s.journal := rfl
@[simp] theorem updRouter_pavVals (f : Router → Router) : (updRouter f s).pavVals = s.pavVals := rfl
@[simp] theorem updRouter_dictReady (f : Router → Router) : (updRouter f s).dictReady = s.dictReady := rfl
@[simp] theorem updRouter_answer (f : Router → Router) : (updRouter f s).answer = s.answer := rfl
@[simp] theorem updRouter_wire (f : Router → Router) : (updRouter f s).wire = s.wire := rfl
@[simp] theorem updRouter_mem (f : Router → Router) : (updRouter f s).mem = s.mem := rfl
@[simp] theorem updRouter_dirty (f : Router → Router) : (updRouter f s).dirty = s.dirty := rfl
@[simp] theorem updRouter_router (f : Router → Router) : (updRouter f s).router = f s.router := rfl
@[simp] theorem updRouter_sessions (f : Router → Router) : (updRouter f s).sessions = s.sessions := rfl
@[simp] theorem updRouter_sdo (f : Router → Router) : (updRouter f s).sdo = s.sdo := rfl
@[simp] theorem updRouter_scan (f : Router → Router) : (updRouter f s).scan = s.scan := rfl
@[simp] theorem updRouter_lanes (f : Router → Router) : (updRouter f s).lanes = s.lanes := rfl
@[simp] theorem updRouter_banks (f : Router → Router) : (updRouter f s).banks = s.banks := rfl
@[simp] theorem updRouter_pavs (f : Router → Router) : (updRouter f s).pavs = s.pavs := rfl
@[simp] theorem updRouter_trestles (f : Router → Router) : (updRouter f s).trestles = s.trestles := rfl
@[simp] theorem updRouter_plane (f : Router → Router) : (updRouter f s).plane = s.plane := rfl
@[simp] theorem updRouter_rotation (f : Router → Router) : (updRouter f s).rotation = s.rotation := rfl
@[simp] theorem updRouter_fabric (f : Router → Router) : (updRouter f s).fabric = s.fabric := rfl
@[simp] theorem updRouter_opt (f : Router → Router) : (updRouter f s).opt = s.opt := rfl
@[simp] theorem updRouter_fld (f : Router → Router) : (updRouter f s).fld = s.fld := rfl
@[simp] theorem updRouter_isl (f : Router → Router) : (updRouter f s).isl = s.isl := rfl
@[simp] theorem updRouter_pair (f : Router → Router) : (updRouter f s).pair = s.pair := rfl
@[simp] theorem updRouter_gate (f : Router → Router) : (updRouter f s).gate = s.gate := rfl
@[simp] theorem updRouter_pow (f : Router → Router) : (updRouter f s).pow = s.pow := rfl
@[simp] theorem updRouter_sec (f : Router → Router) : (updRouter f s).sec = s.sec := rfl
@[simp] theorem updRouter_upd (f : Router → Router) : (updRouter f s).upd = s.upd := rfl
@[simp] theorem updRouter_sto (f : Router → Router) : (updRouter f s).sto = s.sto := rfl
@[simp] theorem updRouter_recd (f : Router → Router) : (updRouter f s).recd = s.recd := rfl
@[simp] theorem updRouter_hist (f : Router → Router) : (updRouter f s).hist = s.hist := rfl
@[simp] theorem updRouter_net (f : Router → Router) : (updRouter f s).net = s.net := rfl
@[simp] theorem updRouter_can (f : Router → Router) : (updRouter f s).can = s.can := rfl
@[simp] theorem updRouter_rd (f : Router → Router) (j : Nat) : (updRouter f s).rd j = s.rd j := rfl
@[simp] theorem updRouter_rdN (f : Router → Router) (j : Nat) : (updRouter f s).rdN j = s.rdN j := rfl
@[simp] theorem updRouter_on (f : Router → Router) (j : Nat) : (updRouter f s).on j = s.on j := rfl
@[simp] theorem updRouter_mode (f : Router → Router) : (updRouter f s).mode = s.mode := rfl
@[simp] theorem updRouter_blobOf (f : Router → Router) (j : Nat) : (updRouter f s).blobOf j = s.blobOf j := rfl
@[simp] theorem updRouter_byte (f : Router → Router) (sp x : Nat) : (updRouter f s).byte sp x = s.byte sp x := rfl

@[simp] theorem updPav_pending (p : Nat) (f : Pav → Pav) : (updPav p f s).pending = s.pending := rfl
@[simp] theorem updPav_now (p : Nat) (f : Pav → Pav) : (updPav p f s).now = s.now := rfl
@[simp] theorem updPav_tb (p : Nat) (f : Pav → Pav) : (updPav p f s).tb = s.tb := rfl
@[simp] theorem updPav_fresh (p : Nat) (f : Pav → Pav) : (updPav p f s).fresh = s.fresh := rfl
@[simp] theorem updPav_dict (p : Nat) (f : Pav → Pav) : (updPav p f s).dict = s.dict := rfl
@[simp] theorem updPav_blob (p : Nat) (f : Pav → Pav) : (updPav p f s).blob = s.blob := rfl
@[simp] theorem updPav_store (p : Nat) (f : Pav → Pav) : (updPav p f s).store = s.store := rfl
@[simp] theorem updPav_journal (p : Nat) (f : Pav → Pav) : (updPav p f s).journal = s.journal := rfl
@[simp] theorem updPav_pavVals (p : Nat) (f : Pav → Pav) : (updPav p f s).pavVals = s.pavVals := rfl
@[simp] theorem updPav_dictReady (p : Nat) (f : Pav → Pav) : (updPav p f s).dictReady = s.dictReady := rfl
@[simp] theorem updPav_answer (p : Nat) (f : Pav → Pav) : (updPav p f s).answer = s.answer := rfl
@[simp] theorem updPav_wire (p : Nat) (f : Pav → Pav) : (updPav p f s).wire = s.wire := rfl
@[simp] theorem updPav_mem (p : Nat) (f : Pav → Pav) : (updPav p f s).mem = s.mem := rfl
@[simp] theorem updPav_dirty (p : Nat) (f : Pav → Pav) : (updPav p f s).dirty = s.dirty := rfl
@[simp] theorem updPav_router (p : Nat) (f : Pav → Pav) : (updPav p f s).router = s.router := rfl
@[simp] theorem updPav_sessions (p : Nat) (f : Pav → Pav) : (updPav p f s).sessions = s.sessions := rfl
@[simp] theorem updPav_sdo (p : Nat) (f : Pav → Pav) : (updPav p f s).sdo = s.sdo := rfl
@[simp] theorem updPav_scan (p : Nat) (f : Pav → Pav) : (updPav p f s).scan = s.scan := rfl
@[simp] theorem updPav_lanes (p : Nat) (f : Pav → Pav) : (updPav p f s).lanes = s.lanes := rfl
@[simp] theorem updPav_banks (p : Nat) (f : Pav → Pav) : (updPav p f s).banks = s.banks := rfl
@[simp] theorem updPav_trestles (p : Nat) (f : Pav → Pav) : (updPav p f s).trestles = s.trestles := rfl
@[simp] theorem updPav_plane (p : Nat) (f : Pav → Pav) : (updPav p f s).plane = s.plane := rfl
@[simp] theorem updPav_rotation (p : Nat) (f : Pav → Pav) : (updPav p f s).rotation = s.rotation := rfl
@[simp] theorem updPav_fabric (p : Nat) (f : Pav → Pav) : (updPav p f s).fabric = s.fabric := rfl
@[simp] theorem updPav_opt (p : Nat) (f : Pav → Pav) : (updPav p f s).opt = s.opt := rfl
@[simp] theorem updPav_fld (p : Nat) (f : Pav → Pav) : (updPav p f s).fld = s.fld := rfl
@[simp] theorem updPav_isl (p : Nat) (f : Pav → Pav) : (updPav p f s).isl = s.isl := rfl
@[simp] theorem updPav_pair (p : Nat) (f : Pav → Pav) : (updPav p f s).pair = s.pair := rfl
@[simp] theorem updPav_gate (p : Nat) (f : Pav → Pav) : (updPav p f s).gate = s.gate := rfl
@[simp] theorem updPav_pow (p : Nat) (f : Pav → Pav) : (updPav p f s).pow = s.pow := rfl
@[simp] theorem updPav_sec (p : Nat) (f : Pav → Pav) : (updPav p f s).sec = s.sec := rfl
@[simp] theorem updPav_upd (p : Nat) (f : Pav → Pav) : (updPav p f s).upd = s.upd := rfl
@[simp] theorem updPav_sto (p : Nat) (f : Pav → Pav) : (updPav p f s).sto = s.sto := rfl
@[simp] theorem updPav_recd (p : Nat) (f : Pav → Pav) : (updPav p f s).recd = s.recd := rfl
@[simp] theorem updPav_hist (p : Nat) (f : Pav → Pav) : (updPav p f s).hist = s.hist := rfl
@[simp] theorem updPav_net (p : Nat) (f : Pav → Pav) : (updPav p f s).net = s.net := rfl
@[simp] theorem updPav_can (p : Nat) (f : Pav → Pav) : (updPav p f s).can = s.can := rfl
@[simp] theorem updPav_rd (p : Nat) (f : Pav → Pav) (j : Nat) : (updPav p f s).rd j = s.rd j := rfl
@[simp] theorem updPav_rdN (p : Nat) (f : Pav → Pav) (j : Nat) : (updPav p f s).rdN j = s.rdN j := rfl
@[simp] theorem updPav_on (p : Nat) (f : Pav → Pav) (j : Nat) : (updPav p f s).on j = s.on j := rfl
@[simp] theorem updPav_mode (p : Nat) (f : Pav → Pav) : (updPav p f s).mode = s.mode := rfl
@[simp] theorem updPav_blobOf (p : Nat) (f : Pav → Pav) (j : Nat) : (updPav p f s).blobOf j = s.blobOf j := rfl
@[simp] theorem updPav_byte (p : Nat) (f : Pav → Pav) (sp x : Nat) : (updPav p f s).byte sp x = s.byte sp x := rfl

@[simp] theorem updTask_pending (p c : Nat) (f : Task → Task) : (updTask p c f s).pending = s.pending := rfl
@[simp] theorem updTask_now (p c : Nat) (f : Task → Task) : (updTask p c f s).now = s.now := rfl
@[simp] theorem updTask_tb (p c : Nat) (f : Task → Task) : (updTask p c f s).tb = s.tb := rfl
@[simp] theorem updTask_fresh (p c : Nat) (f : Task → Task) : (updTask p c f s).fresh = s.fresh := rfl
@[simp] theorem updTask_dict (p c : Nat) (f : Task → Task) : (updTask p c f s).dict = s.dict := rfl
@[simp] theorem updTask_blob (p c : Nat) (f : Task → Task) : (updTask p c f s).blob = s.blob := rfl
@[simp] theorem updTask_store (p c : Nat) (f : Task → Task) : (updTask p c f s).store = s.store := rfl
@[simp] theorem updTask_journal (p c : Nat) (f : Task → Task) : (updTask p c f s).journal = s.journal := rfl
@[simp] theorem updTask_pavVals (p c : Nat) (f : Task → Task) : (updTask p c f s).pavVals = s.pavVals := rfl
@[simp] theorem updTask_dictReady (p c : Nat) (f : Task → Task) : (updTask p c f s).dictReady = s.dictReady := rfl
@[simp] theorem updTask_answer (p c : Nat) (f : Task → Task) : (updTask p c f s).answer = s.answer := rfl
@[simp] theorem updTask_wire (p c : Nat) (f : Task → Task) : (updTask p c f s).wire = s.wire := rfl
@[simp] theorem updTask_mem (p c : Nat) (f : Task → Task) : (updTask p c f s).mem = s.mem := rfl
@[simp] theorem updTask_dirty (p c : Nat) (f : Task → Task) : (updTask p c f s).dirty = s.dirty := rfl
@[simp] theorem updTask_router (p c : Nat) (f : Task → Task) : (updTask p c f s).router = s.router := rfl
@[simp] theorem updTask_sessions (p c : Nat) (f : Task → Task) : (updTask p c f s).sessions = s.sessions := rfl
@[simp] theorem updTask_sdo (p c : Nat) (f : Task → Task) : (updTask p c f s).sdo = s.sdo := rfl
@[simp] theorem updTask_lanes (p c : Nat) (f : Task → Task) : (updTask p c f s).lanes = s.lanes := rfl
@[simp] theorem updTask_banks (p c : Nat) (f : Task → Task) : (updTask p c f s).banks = s.banks := rfl
@[simp] theorem updTask_pavs (p c : Nat) (f : Task → Task) : (updTask p c f s).pavs = s.pavs := rfl
@[simp] theorem updTask_trestles (p c : Nat) (f : Task → Task) : (updTask p c f s).trestles = s.trestles := rfl
@[simp] theorem updTask_plane (p c : Nat) (f : Task → Task) : (updTask p c f s).plane = s.plane := rfl
@[simp] theorem updTask_rotation (p c : Nat) (f : Task → Task) : (updTask p c f s).rotation = s.rotation := rfl
@[simp] theorem updTask_fabric (p c : Nat) (f : Task → Task) : (updTask p c f s).fabric = s.fabric := rfl
@[simp] theorem updTask_opt (p c : Nat) (f : Task → Task) : (updTask p c f s).opt = s.opt := rfl
@[simp] theorem updTask_fld (p c : Nat) (f : Task → Task) : (updTask p c f s).fld = s.fld := rfl
@[simp] theorem updTask_isl (p c : Nat) (f : Task → Task) : (updTask p c f s).isl = s.isl := rfl
@[simp] theorem updTask_pair (p c : Nat) (f : Task → Task) : (updTask p c f s).pair = s.pair := rfl
@[simp] theorem updTask_gate (p c : Nat) (f : Task → Task) : (updTask p c f s).gate = s.gate := rfl
@[simp] theorem updTask_pow (p c : Nat) (f : Task → Task) : (updTask p c f s).pow = s.pow := rfl
@[simp] theorem updTask_sec (p c : Nat) (f : Task → Task) : (updTask p c f s).sec = s.sec := rfl
@[simp] theorem updTask_upd (p c : Nat) (f : Task → Task) : (updTask p c f s).upd = s.upd := rfl
@[simp] theorem updTask_sto (p c : Nat) (f : Task → Task) : (updTask p c f s).sto = s.sto := rfl
@[simp] theorem updTask_recd (p c : Nat) (f : Task → Task) : (updTask p c f s).recd = s.recd := rfl
@[simp] theorem updTask_hist (p c : Nat) (f : Task → Task) : (updTask p c f s).hist = s.hist := rfl
@[simp] theorem updTask_net (p c : Nat) (f : Task → Task) : (updTask p c f s).net = s.net := rfl
@[simp] theorem updTask_can (p c : Nat) (f : Task → Task) : (updTask p c f s).can = s.can := rfl
@[simp] theorem updTask_rd (p c : Nat) (f : Task → Task) (j : Nat) : (updTask p c f s).rd j = s.rd j := rfl
@[simp] theorem updTask_rdN (p c : Nat) (f : Task → Task) (j : Nat) : (updTask p c f s).rdN j = s.rdN j := rfl
@[simp] theorem updTask_on (p c : Nat) (f : Task → Task) (j : Nat) : (updTask p c f s).on j = s.on j := rfl
@[simp] theorem updTask_mode (p c : Nat) (f : Task → Task) : (updTask p c f s).mode = s.mode := rfl
@[simp] theorem updTask_blobOf (p c : Nat) (f : Task → Task) (j : Nat) : (updTask p c f s).blobOf j = s.blobOf j := rfl
@[simp] theorem updTask_byte (p c : Nat) (f : Task → Task) (sp x : Nat) : (updTask p c f s).byte sp x = s.byte sp x := rfl

@[simp] theorem updLane_pending (l : Nat) (f : Lane → Lane) : (updLane l f s).pending = s.pending := rfl
@[simp] theorem updLane_now (l : Nat) (f : Lane → Lane) : (updLane l f s).now = s.now := rfl
@[simp] theorem updLane_tb (l : Nat) (f : Lane → Lane) : (updLane l f s).tb = s.tb := rfl
@[simp] theorem updLane_fresh (l : Nat) (f : Lane → Lane) : (updLane l f s).fresh = s.fresh := rfl
@[simp] theorem updLane_dict (l : Nat) (f : Lane → Lane) : (updLane l f s).dict = s.dict := rfl
@[simp] theorem updLane_blob (l : Nat) (f : Lane → Lane) : (updLane l f s).blob = s.blob := rfl
@[simp] theorem updLane_store (l : Nat) (f : Lane → Lane) : (updLane l f s).store = s.store := rfl
@[simp] theorem updLane_journal (l : Nat) (f : Lane → Lane) : (updLane l f s).journal = s.journal := rfl
@[simp] theorem updLane_pavVals (l : Nat) (f : Lane → Lane) : (updLane l f s).pavVals = s.pavVals := rfl
@[simp] theorem updLane_dictReady (l : Nat) (f : Lane → Lane) : (updLane l f s).dictReady = s.dictReady := rfl
@[simp] theorem updLane_answer (l : Nat) (f : Lane → Lane) : (updLane l f s).answer = s.answer := rfl
@[simp] theorem updLane_wire (l : Nat) (f : Lane → Lane) : (updLane l f s).wire = s.wire := rfl
@[simp] theorem updLane_mem (l : Nat) (f : Lane → Lane) : (updLane l f s).mem = s.mem := rfl
@[simp] theorem updLane_dirty (l : Nat) (f : Lane → Lane) : (updLane l f s).dirty = s.dirty := rfl
@[simp] theorem updLane_router (l : Nat) (f : Lane → Lane) : (updLane l f s).router = s.router := rfl
@[simp] theorem updLane_sessions (l : Nat) (f : Lane → Lane) : (updLane l f s).sessions = s.sessions := rfl
@[simp] theorem updLane_sdo (l : Nat) (f : Lane → Lane) : (updLane l f s).sdo = s.sdo := rfl
@[simp] theorem updLane_scan (l : Nat) (f : Lane → Lane) : (updLane l f s).scan = s.scan := rfl
@[simp] theorem updLane_banks (l : Nat) (f : Lane → Lane) : (updLane l f s).banks = s.banks := rfl
@[simp] theorem updLane_pavs (l : Nat) (f : Lane → Lane) : (updLane l f s).pavs = s.pavs := rfl
@[simp] theorem updLane_trestles (l : Nat) (f : Lane → Lane) : (updLane l f s).trestles = s.trestles := rfl
@[simp] theorem updLane_plane (l : Nat) (f : Lane → Lane) : (updLane l f s).plane = s.plane := rfl
@[simp] theorem updLane_rotation (l : Nat) (f : Lane → Lane) : (updLane l f s).rotation = s.rotation := rfl
@[simp] theorem updLane_fabric (l : Nat) (f : Lane → Lane) : (updLane l f s).fabric = s.fabric := rfl
@[simp] theorem updLane_opt (l : Nat) (f : Lane → Lane) : (updLane l f s).opt = s.opt := rfl
@[simp] theorem updLane_fld (l : Nat) (f : Lane → Lane) : (updLane l f s).fld = s.fld := rfl
@[simp] theorem updLane_isl (l : Nat) (f : Lane → Lane) : (updLane l f s).isl = s.isl := rfl
@[simp] theorem updLane_pair (l : Nat) (f : Lane → Lane) : (updLane l f s).pair = s.pair := rfl
@[simp] theorem updLane_gate (l : Nat) (f : Lane → Lane) : (updLane l f s).gate = s.gate := rfl
@[simp] theorem updLane_pow (l : Nat) (f : Lane → Lane) : (updLane l f s).pow = s.pow := rfl
@[simp] theorem updLane_sec (l : Nat) (f : Lane → Lane) : (updLane l f s).sec = s.sec := rfl
@[simp] theorem updLane_upd (l : Nat) (f : Lane → Lane) : (updLane l f s).upd = s.upd := rfl
@[simp] theorem updLane_sto (l : Nat) (f : Lane → Lane) : (updLane l f s).sto = s.sto := rfl
@[simp] theorem updLane_recd (l : Nat) (f : Lane → Lane) : (updLane l f s).recd = s.recd := rfl
@[simp] theorem updLane_hist (l : Nat) (f : Lane → Lane) : (updLane l f s).hist = s.hist := rfl
@[simp] theorem updLane_net (l : Nat) (f : Lane → Lane) : (updLane l f s).net = s.net := rfl
@[simp] theorem updLane_can (l : Nat) (f : Lane → Lane) : (updLane l f s).can = s.can := rfl
@[simp] theorem updLane_rd (l : Nat) (f : Lane → Lane) (j : Nat) : (updLane l f s).rd j = s.rd j := rfl
@[simp] theorem updLane_rdN (l : Nat) (f : Lane → Lane) (j : Nat) : (updLane l f s).rdN j = s.rdN j := rfl
@[simp] theorem updLane_on (l : Nat) (f : Lane → Lane) (j : Nat) : (updLane l f s).on j = s.on j := rfl
@[simp] theorem updLane_mode (l : Nat) (f : Lane → Lane) : (updLane l f s).mode = s.mode := rfl
@[simp] theorem updLane_blobOf (l : Nat) (f : Lane → Lane) (j : Nat) : (updLane l f s).blobOf j = s.blobOf j := rfl
@[simp] theorem updLane_byte (l : Nat) (f : Lane → Lane) (sp x : Nat) : (updLane l f s).byte sp x = s.byte sp x := rfl

@[simp] theorem setBank_pending (l c : Nat) (b : Bank) : (setBank l c b s).pending = s.pending := rfl
@[simp] theorem setBank_now (l c : Nat) (b : Bank) : (setBank l c b s).now = s.now := rfl
@[simp] theorem setBank_tb (l c : Nat) (b : Bank) : (setBank l c b s).tb = s.tb := rfl
@[simp] theorem setBank_fresh (l c : Nat) (b : Bank) : (setBank l c b s).fresh = s.fresh := rfl
@[simp] theorem setBank_dict (l c : Nat) (b : Bank) : (setBank l c b s).dict = s.dict := rfl
@[simp] theorem setBank_blob (l c : Nat) (b : Bank) : (setBank l c b s).blob = s.blob := rfl
@[simp] theorem setBank_store (l c : Nat) (b : Bank) : (setBank l c b s).store = s.store := rfl
@[simp] theorem setBank_journal (l c : Nat) (b : Bank) : (setBank l c b s).journal = s.journal := rfl
@[simp] theorem setBank_pavVals (l c : Nat) (b : Bank) : (setBank l c b s).pavVals = s.pavVals := rfl
@[simp] theorem setBank_dictReady (l c : Nat) (b : Bank) : (setBank l c b s).dictReady = s.dictReady := rfl
@[simp] theorem setBank_answer (l c : Nat) (b : Bank) : (setBank l c b s).answer = s.answer := rfl
@[simp] theorem setBank_wire (l c : Nat) (b : Bank) : (setBank l c b s).wire = s.wire := rfl
@[simp] theorem setBank_mem (l c : Nat) (b : Bank) : (setBank l c b s).mem = s.mem := rfl
@[simp] theorem setBank_dirty (l c : Nat) (b : Bank) : (setBank l c b s).dirty = s.dirty := rfl
@[simp] theorem setBank_router (l c : Nat) (b : Bank) : (setBank l c b s).router = s.router := rfl
@[simp] theorem setBank_sessions (l c : Nat) (b : Bank) : (setBank l c b s).sessions = s.sessions := rfl
@[simp] theorem setBank_sdo (l c : Nat) (b : Bank) : (setBank l c b s).sdo = s.sdo := rfl
@[simp] theorem setBank_scan (l c : Nat) (b : Bank) : (setBank l c b s).scan = s.scan := rfl
@[simp] theorem setBank_lanes (l c : Nat) (b : Bank) : (setBank l c b s).lanes = s.lanes := rfl
@[simp] theorem setBank_pavs (l c : Nat) (b : Bank) : (setBank l c b s).pavs = s.pavs := rfl
@[simp] theorem setBank_trestles (l c : Nat) (b : Bank) : (setBank l c b s).trestles = s.trestles := rfl
@[simp] theorem setBank_plane (l c : Nat) (b : Bank) : (setBank l c b s).plane = s.plane := rfl
@[simp] theorem setBank_rotation (l c : Nat) (b : Bank) : (setBank l c b s).rotation = s.rotation := rfl
@[simp] theorem setBank_fabric (l c : Nat) (b : Bank) : (setBank l c b s).fabric = s.fabric := rfl
@[simp] theorem setBank_opt (l c : Nat) (b : Bank) : (setBank l c b s).opt = s.opt := rfl
@[simp] theorem setBank_fld (l c : Nat) (b : Bank) : (setBank l c b s).fld = s.fld := rfl
@[simp] theorem setBank_isl (l c : Nat) (b : Bank) : (setBank l c b s).isl = s.isl := rfl
@[simp] theorem setBank_pair (l c : Nat) (b : Bank) : (setBank l c b s).pair = s.pair := rfl
@[simp] theorem setBank_gate (l c : Nat) (b : Bank) : (setBank l c b s).gate = s.gate := rfl
@[simp] theorem setBank_pow (l c : Nat) (b : Bank) : (setBank l c b s).pow = s.pow := rfl
@[simp] theorem setBank_sec (l c : Nat) (b : Bank) : (setBank l c b s).sec = s.sec := rfl
@[simp] theorem setBank_upd (l c : Nat) (b : Bank) : (setBank l c b s).upd = s.upd := rfl
@[simp] theorem setBank_sto (l c : Nat) (b : Bank) : (setBank l c b s).sto = s.sto := rfl
@[simp] theorem setBank_recd (l c : Nat) (b : Bank) : (setBank l c b s).recd = s.recd := rfl
@[simp] theorem setBank_hist (l c : Nat) (b : Bank) : (setBank l c b s).hist = s.hist := rfl
@[simp] theorem setBank_net (l c : Nat) (b : Bank) : (setBank l c b s).net = s.net := rfl
@[simp] theorem setBank_can (l c : Nat) (b : Bank) : (setBank l c b s).can = s.can := rfl
@[simp] theorem setBank_rd (l c : Nat) (b : Bank) (j : Nat) : (setBank l c b s).rd j = s.rd j := rfl
@[simp] theorem setBank_rdN (l c : Nat) (b : Bank) (j : Nat) : (setBank l c b s).rdN j = s.rdN j := rfl
@[simp] theorem setBank_on (l c : Nat) (b : Bank) (j : Nat) : (setBank l c b s).on j = s.on j := rfl
@[simp] theorem setBank_mode (l c : Nat) (b : Bank) : (setBank l c b s).mode = s.mode := rfl
@[simp] theorem setBank_blobOf (l c : Nat) (b : Bank) (j : Nat) : (setBank l c b s).blobOf j = s.blobOf j := rfl
@[simp] theorem setBank_byte (l c : Nat) (b : Bank) (sp x : Nat) : (setBank l c b s).byte sp x = s.byte sp x := rfl

@[simp] theorem updScan_pending (f : Scan → Scan) : (updScan f s).pending = s.pending := rfl
@[simp] theorem updScan_now (f : Scan → Scan) : (updScan f s).now = s.now := rfl
@[simp] theorem updScan_tb (f : Scan → Scan) : (updScan f s).tb = s.tb := rfl
@[simp] theorem updScan_fresh (f : Scan → Scan) : (updScan f s).fresh = s.fresh := rfl
@[simp] theorem updScan_dict (f : Scan → Scan) : (updScan f s).dict = s.dict := rfl
@[simp] theorem updScan_blob (f : Scan → Scan) : (updScan f s).blob = s.blob := rfl
@[simp] theorem updScan_store (f : Scan → Scan) : (updScan f s).store = s.store := rfl
@[simp] theorem updScan_journal (f : Scan → Scan) : (updScan f s).journal = s.journal := rfl
@[simp] theorem updScan_pavVals (f : Scan → Scan) : (updScan f s).pavVals = s.pavVals := rfl
@[simp] theorem updScan_dictReady (f : Scan → Scan) : (updScan f s).dictReady = s.dictReady := rfl
@[simp] theorem updScan_answer (f : Scan → Scan) : (updScan f s).answer = s.answer := rfl
@[simp] theorem updScan_wire (f : Scan → Scan) : (updScan f s).wire = s.wire := rfl
@[simp] theorem updScan_mem (f : Scan → Scan) : (updScan f s).mem = s.mem := rfl
@[simp] theorem updScan_dirty (f : Scan → Scan) : (updScan f s).dirty = s.dirty := rfl
@[simp] theorem updScan_router (f : Scan → Scan) : (updScan f s).router = s.router := rfl
@[simp] theorem updScan_sessions (f : Scan → Scan) : (updScan f s).sessions = s.sessions := rfl
@[simp] theorem updScan_sdo (f : Scan → Scan) : (updScan f s).sdo = s.sdo := rfl
@[simp] theorem updScan_scan (f : Scan → Scan) : (updScan f s).scan = f s.scan := rfl
@[simp] theorem updScan_lanes (f : Scan → Scan) : (updScan f s).lanes = s.lanes := rfl
@[simp] theorem updScan_banks (f : Scan → Scan) : (updScan f s).banks = s.banks := rfl
@[simp] theorem updScan_pavs (f : Scan → Scan) : (updScan f s).pavs = s.pavs := rfl
@[simp] theorem updScan_trestles (f : Scan → Scan) : (updScan f s).trestles = s.trestles := rfl
@[simp] theorem updScan_plane (f : Scan → Scan) : (updScan f s).plane = s.plane := rfl
@[simp] theorem updScan_rotation (f : Scan → Scan) : (updScan f s).rotation = s.rotation := rfl
@[simp] theorem updScan_fabric (f : Scan → Scan) : (updScan f s).fabric = s.fabric := rfl
@[simp] theorem updScan_opt (f : Scan → Scan) : (updScan f s).opt = s.opt := rfl
@[simp] theorem updScan_fld (f : Scan → Scan) : (updScan f s).fld = s.fld := rfl
@[simp] theorem updScan_isl (f : Scan → Scan) : (updScan f s).isl = s.isl := rfl
@[simp] theorem updScan_pair (f : Scan → Scan) : (updScan f s).pair = s.pair := rfl
@[simp] theorem updScan_gate (f : Scan → Scan) : (updScan f s).gate = s.gate := rfl
@[simp] theorem updScan_pow (f : Scan → Scan) : (updScan f s).pow = s.pow := rfl
@[simp] theorem updScan_sec (f : Scan → Scan) : (updScan f s).sec = s.sec := rfl
@[simp] theorem updScan_upd (f : Scan → Scan) : (updScan f s).upd = s.upd := rfl
@[simp] theorem updScan_sto (f : Scan → Scan) : (updScan f s).sto = s.sto := rfl
@[simp] theorem updScan_recd (f : Scan → Scan) : (updScan f s).recd = s.recd := rfl
@[simp] theorem updScan_hist (f : Scan → Scan) : (updScan f s).hist = s.hist := rfl
@[simp] theorem updScan_net (f : Scan → Scan) : (updScan f s).net = s.net := rfl
@[simp] theorem updScan_can (f : Scan → Scan) : (updScan f s).can = s.can := rfl
@[simp] theorem updScan_rd (f : Scan → Scan) (j : Nat) : (updScan f s).rd j = s.rd j := rfl
@[simp] theorem updScan_rdN (f : Scan → Scan) (j : Nat) : (updScan f s).rdN j = s.rdN j := rfl
@[simp] theorem updScan_on (f : Scan → Scan) (j : Nat) : (updScan f s).on j = s.on j := rfl
@[simp] theorem updScan_mode (f : Scan → Scan) : (updScan f s).mode = s.mode := rfl
@[simp] theorem updScan_blobOf (f : Scan → Scan) (j : Nat) : (updScan f s).blobOf j = s.blobOf j := rfl
@[simp] theorem updScan_byte (f : Scan → Scan) (sp x : Nat) : (updScan f s).byte sp x = s.byte sp x := rfl

@[simp] theorem updSession_pending (n : Nat) (f : Session → Session) : (updSession n f s).pending = s.pending := rfl
@[simp] theorem updSession_now (n : Nat) (f : Session → Session) : (updSession n f s).now = s.now := rfl
@[simp] theorem updSession_tb (n : Nat) (f : Session → Session) : (updSession n f s).tb = s.tb := rfl
@[simp] theorem updSession_fresh (n : Nat) (f : Session → Session) : (updSession n f s).fresh = s.fresh := rfl
@[simp] theorem updSession_dict (n : Nat) (f : Session → Session) : (updSession n f s).dict = s.dict := rfl
@[simp] theorem updSession_blob (n : Nat) (f : Session → Session) : (updSession n f s).blob = s.blob := rfl
@[simp] theorem updSession_store (n : Nat) (f : Session → Session) : (updSession n f s).store = s.store := rfl
@[simp] theorem updSession_journal (n : Nat) (f : Session → Session) : (updSession n f s).journal = s.journal := rfl
@[simp] theorem updSession_pavVals (n : Nat) (f : Session → Session) : (updSession n f s).pavVals = s.pavVals := rfl
@[simp] theorem updSession_dictReady (n : Nat) (f : Session → Session) : (updSession n f s).dictReady = s.dictReady := rfl
@[simp] theorem updSession_answer (n : Nat) (f : Session → Session) : (updSession n f s).answer = s.answer := rfl
@[simp] theorem updSession_wire (n : Nat) (f : Session → Session) : (updSession n f s).wire = s.wire := rfl
@[simp] theorem updSession_mem (n : Nat) (f : Session → Session) : (updSession n f s).mem = s.mem := rfl
@[simp] theorem updSession_dirty (n : Nat) (f : Session → Session) : (updSession n f s).dirty = s.dirty := rfl
@[simp] theorem updSession_router (n : Nat) (f : Session → Session) : (updSession n f s).router = s.router := rfl
@[simp] theorem updSession_sdo (n : Nat) (f : Session → Session) : (updSession n f s).sdo = s.sdo := rfl
@[simp] theorem updSession_scan (n : Nat) (f : Session → Session) : (updSession n f s).scan = s.scan := rfl
@[simp] theorem updSession_lanes (n : Nat) (f : Session → Session) : (updSession n f s).lanes = s.lanes := rfl
@[simp] theorem updSession_banks (n : Nat) (f : Session → Session) : (updSession n f s).banks = s.banks := rfl
@[simp] theorem updSession_pavs (n : Nat) (f : Session → Session) : (updSession n f s).pavs = s.pavs := rfl
@[simp] theorem updSession_trestles (n : Nat) (f : Session → Session) : (updSession n f s).trestles = s.trestles := rfl
@[simp] theorem updSession_plane (n : Nat) (f : Session → Session) : (updSession n f s).plane = s.plane := rfl
@[simp] theorem updSession_rotation (n : Nat) (f : Session → Session) : (updSession n f s).rotation = s.rotation := rfl
@[simp] theorem updSession_fabric (n : Nat) (f : Session → Session) : (updSession n f s).fabric = s.fabric := rfl
@[simp] theorem updSession_opt (n : Nat) (f : Session → Session) : (updSession n f s).opt = s.opt := rfl
@[simp] theorem updSession_fld (n : Nat) (f : Session → Session) : (updSession n f s).fld = s.fld := rfl
@[simp] theorem updSession_isl (n : Nat) (f : Session → Session) : (updSession n f s).isl = s.isl := rfl
@[simp] theorem updSession_pair (n : Nat) (f : Session → Session) : (updSession n f s).pair = s.pair := rfl
@[simp] theorem updSession_gate (n : Nat) (f : Session → Session) : (updSession n f s).gate = s.gate := rfl
@[simp] theorem updSession_pow (n : Nat) (f : Session → Session) : (updSession n f s).pow = s.pow := rfl
@[simp] theorem updSession_sec (n : Nat) (f : Session → Session) : (updSession n f s).sec = s.sec := rfl
@[simp] theorem updSession_upd (n : Nat) (f : Session → Session) : (updSession n f s).upd = s.upd := rfl
@[simp] theorem updSession_sto (n : Nat) (f : Session → Session) : (updSession n f s).sto = s.sto := rfl
@[simp] theorem updSession_recd (n : Nat) (f : Session → Session) : (updSession n f s).recd = s.recd := rfl
@[simp] theorem updSession_hist (n : Nat) (f : Session → Session) : (updSession n f s).hist = s.hist := rfl
@[simp] theorem updSession_net (n : Nat) (f : Session → Session) : (updSession n f s).net = s.net := rfl
@[simp] theorem updSession_can (n : Nat) (f : Session → Session) : (updSession n f s).can = s.can := rfl
@[simp] theorem updSession_rd (n : Nat) (f : Session → Session) (j : Nat) : (updSession n f s).rd j = s.rd j := rfl
@[simp] theorem updSession_rdN (n : Nat) (f : Session → Session) (j : Nat) : (updSession n f s).rdN j = s.rdN j := rfl
@[simp] theorem updSession_on (n : Nat) (f : Session → Session) (j : Nat) : (updSession n f s).on j = s.on j := rfl
@[simp] theorem updSession_mode (n : Nat) (f : Session → Session) : (updSession n f s).mode = s.mode := rfl
@[simp] theorem updSession_blobOf (n : Nat) (f : Session → Session) (j : Nat) : (updSession n f s).blobOf j = s.blobOf j := rfl
@[simp] theorem updSession_byte (n : Nat) (f : Session → Session) (sp x : Nat) : (updSession n f s).byte sp x = s.byte sp x := rfl

@[simp] theorem updTrestle_pending (t : Nat) (f : Trestle → Trestle) : (updTrestle t f s).pending = s.pending := rfl
@[simp] theorem updTrestle_now (t : Nat) (f : Trestle → Trestle) : (updTrestle t f s).now = s.now := rfl
@[simp] theorem updTrestle_tb (t : Nat) (f : Trestle → Trestle) : (updTrestle t f s).tb = s.tb := rfl
@[simp] theorem updTrestle_fresh (t : Nat) (f : Trestle → Trestle) : (updTrestle t f s).fresh = s.fresh := rfl
@[simp] theorem updTrestle_dict (t : Nat) (f : Trestle → Trestle) : (updTrestle t f s).dict = s.dict := rfl
@[simp] theorem updTrestle_blob (t : Nat) (f : Trestle → Trestle) : (updTrestle t f s).blob = s.blob := rfl
@[simp] theorem updTrestle_store (t : Nat) (f : Trestle → Trestle) : (updTrestle t f s).store = s.store := rfl
@[simp] theorem updTrestle_journal (t : Nat) (f : Trestle → Trestle) : (updTrestle t f s).journal = s.journal := rfl
@[simp] theorem updTrestle_pavVals (t : Nat) (f : Trestle → Trestle) : (updTrestle t f s).pavVals = s.pavVals := rfl
@[simp] theorem updTrestle_dictReady (t : Nat) (f : Trestle → Trestle) : (updTrestle t f s).dictReady = s.dictReady := rfl
@[simp] theorem updTrestle_answer (t : Nat) (f : Trestle → Trestle) : (updTrestle t f s).answer = s.answer := rfl
@[simp] theorem updTrestle_wire (t : Nat) (f : Trestle → Trestle) : (updTrestle t f s).wire = s.wire := rfl
@[simp] theorem updTrestle_mem (t : Nat) (f : Trestle → Trestle) : (updTrestle t f s).mem = s.mem := rfl
@[simp] theorem updTrestle_dirty (t : Nat) (f : Trestle → Trestle) : (updTrestle t f s).dirty = s.dirty := rfl
@[simp] theorem updTrestle_router (t : Nat) (f : Trestle → Trestle) : (updTrestle t f s).router = s.router := rfl
@[simp] theorem updTrestle_sessions (t : Nat) (f : Trestle → Trestle) : (updTrestle t f s).sessions = s.sessions := rfl
@[simp] theorem updTrestle_sdo (t : Nat) (f : Trestle → Trestle) : (updTrestle t f s).sdo = s.sdo := rfl
@[simp] theorem updTrestle_scan (t : Nat) (f : Trestle → Trestle) : (updTrestle t f s).scan = s.scan := rfl
@[simp] theorem updTrestle_lanes (t : Nat) (f : Trestle → Trestle) : (updTrestle t f s).lanes = s.lanes := rfl
@[simp] theorem updTrestle_banks (t : Nat) (f : Trestle → Trestle) : (updTrestle t f s).banks = s.banks := rfl
@[simp] theorem updTrestle_pavs (t : Nat) (f : Trestle → Trestle) : (updTrestle t f s).pavs = s.pavs := rfl
@[simp] theorem updTrestle_plane (t : Nat) (f : Trestle → Trestle) : (updTrestle t f s).plane = s.plane := rfl
@[simp] theorem updTrestle_rotation (t : Nat) (f : Trestle → Trestle) : (updTrestle t f s).rotation = s.rotation := rfl
@[simp] theorem updTrestle_fabric (t : Nat) (f : Trestle → Trestle) : (updTrestle t f s).fabric = s.fabric := rfl
@[simp] theorem updTrestle_opt (t : Nat) (f : Trestle → Trestle) : (updTrestle t f s).opt = s.opt := rfl
@[simp] theorem updTrestle_fld (t : Nat) (f : Trestle → Trestle) : (updTrestle t f s).fld = s.fld := rfl
@[simp] theorem updTrestle_isl (t : Nat) (f : Trestle → Trestle) : (updTrestle t f s).isl = s.isl := rfl
@[simp] theorem updTrestle_pair (t : Nat) (f : Trestle → Trestle) : (updTrestle t f s).pair = s.pair := rfl
@[simp] theorem updTrestle_gate (t : Nat) (f : Trestle → Trestle) : (updTrestle t f s).gate = s.gate := rfl
@[simp] theorem updTrestle_pow (t : Nat) (f : Trestle → Trestle) : (updTrestle t f s).pow = s.pow := rfl
@[simp] theorem updTrestle_sec (t : Nat) (f : Trestle → Trestle) : (updTrestle t f s).sec = s.sec := rfl
@[simp] theorem updTrestle_upd (t : Nat) (f : Trestle → Trestle) : (updTrestle t f s).upd = s.upd := rfl
@[simp] theorem updTrestle_sto (t : Nat) (f : Trestle → Trestle) : (updTrestle t f s).sto = s.sto := rfl
@[simp] theorem updTrestle_recd (t : Nat) (f : Trestle → Trestle) : (updTrestle t f s).recd = s.recd := rfl
@[simp] theorem updTrestle_hist (t : Nat) (f : Trestle → Trestle) : (updTrestle t f s).hist = s.hist := rfl
@[simp] theorem updTrestle_net (t : Nat) (f : Trestle → Trestle) : (updTrestle t f s).net = s.net := rfl
@[simp] theorem updTrestle_can (t : Nat) (f : Trestle → Trestle) : (updTrestle t f s).can = s.can := rfl
@[simp] theorem updTrestle_rd (t : Nat) (f : Trestle → Trestle) (j : Nat) : (updTrestle t f s).rd j = s.rd j := rfl
@[simp] theorem updTrestle_rdN (t : Nat) (f : Trestle → Trestle) (j : Nat) : (updTrestle t f s).rdN j = s.rdN j := rfl
@[simp] theorem updTrestle_on (t : Nat) (f : Trestle → Trestle) (j : Nat) : (updTrestle t f s).on j = s.on j := rfl
@[simp] theorem updTrestle_mode (t : Nat) (f : Trestle → Trestle) : (updTrestle t f s).mode = s.mode := rfl
@[simp] theorem updTrestle_blobOf (t : Nat) (f : Trestle → Trestle) (j : Nat) : (updTrestle t f s).blobOf j = s.blobOf j := rfl
@[simp] theorem updTrestle_byte (t : Nat) (f : Trestle → Trestle) (sp x : Nat) : (updTrestle t f s).byte sp x = s.byte sp x := rfl

@[simp] theorem updPl_pending (n : Nat) (f : PLane → PLane) : (updPl n f s).pending = s.pending := rfl
@[simp] theorem updPl_now (n : Nat) (f : PLane → PLane) : (updPl n f s).now = s.now := rfl
@[simp] theorem updPl_tb (n : Nat) (f : PLane → PLane) : (updPl n f s).tb = s.tb := rfl
@[simp] theorem updPl_fresh (n : Nat) (f : PLane → PLane) : (updPl n f s).fresh = s.fresh := rfl
@[simp] theorem updPl_dict (n : Nat) (f : PLane → PLane) : (updPl n f s).dict = s.dict := rfl
@[simp] theorem updPl_blob (n : Nat) (f : PLane → PLane) : (updPl n f s).blob = s.blob := rfl
@[simp] theorem updPl_store (n : Nat) (f : PLane → PLane) : (updPl n f s).store = s.store := rfl
@[simp] theorem updPl_journal (n : Nat) (f : PLane → PLane) : (updPl n f s).journal = s.journal := rfl
@[simp] theorem updPl_pavVals (n : Nat) (f : PLane → PLane) : (updPl n f s).pavVals = s.pavVals := rfl
@[simp] theorem updPl_dictReady (n : Nat) (f : PLane → PLane) : (updPl n f s).dictReady = s.dictReady := rfl
@[simp] theorem updPl_answer (n : Nat) (f : PLane → PLane) : (updPl n f s).answer = s.answer := rfl
@[simp] theorem updPl_wire (n : Nat) (f : PLane → PLane) : (updPl n f s).wire = s.wire := rfl
@[simp] theorem updPl_mem (n : Nat) (f : PLane → PLane) : (updPl n f s).mem = s.mem := rfl
@[simp] theorem updPl_dirty (n : Nat) (f : PLane → PLane) : (updPl n f s).dirty = s.dirty := rfl
@[simp] theorem updPl_router (n : Nat) (f : PLane → PLane) : (updPl n f s).router = s.router := rfl
@[simp] theorem updPl_sessions (n : Nat) (f : PLane → PLane) : (updPl n f s).sessions = s.sessions := rfl
@[simp] theorem updPl_sdo (n : Nat) (f : PLane → PLane) : (updPl n f s).sdo = s.sdo := rfl
@[simp] theorem updPl_scan (n : Nat) (f : PLane → PLane) : (updPl n f s).scan = s.scan := rfl
@[simp] theorem updPl_lanes (n : Nat) (f : PLane → PLane) : (updPl n f s).lanes = s.lanes := rfl
@[simp] theorem updPl_banks (n : Nat) (f : PLane → PLane) : (updPl n f s).banks = s.banks := rfl
@[simp] theorem updPl_pavs (n : Nat) (f : PLane → PLane) : (updPl n f s).pavs = s.pavs := rfl
@[simp] theorem updPl_trestles (n : Nat) (f : PLane → PLane) : (updPl n f s).trestles = s.trestles := rfl
@[simp] theorem updPl_rotation (n : Nat) (f : PLane → PLane) : (updPl n f s).rotation = s.rotation := rfl
@[simp] theorem updPl_fabric (n : Nat) (f : PLane → PLane) : (updPl n f s).fabric = s.fabric := rfl
@[simp] theorem updPl_opt (n : Nat) (f : PLane → PLane) : (updPl n f s).opt = s.opt := rfl
@[simp] theorem updPl_fld (n : Nat) (f : PLane → PLane) : (updPl n f s).fld = s.fld := rfl
@[simp] theorem updPl_isl (n : Nat) (f : PLane → PLane) : (updPl n f s).isl = s.isl := rfl
@[simp] theorem updPl_pair (n : Nat) (f : PLane → PLane) : (updPl n f s).pair = s.pair := rfl
@[simp] theorem updPl_gate (n : Nat) (f : PLane → PLane) : (updPl n f s).gate = s.gate := rfl
@[simp] theorem updPl_pow (n : Nat) (f : PLane → PLane) : (updPl n f s).pow = s.pow := rfl
@[simp] theorem updPl_sec (n : Nat) (f : PLane → PLane) : (updPl n f s).sec = s.sec := rfl
@[simp] theorem updPl_upd (n : Nat) (f : PLane → PLane) : (updPl n f s).upd = s.upd := rfl
@[simp] theorem updPl_sto (n : Nat) (f : PLane → PLane) : (updPl n f s).sto = s.sto := rfl
@[simp] theorem updPl_recd (n : Nat) (f : PLane → PLane) : (updPl n f s).recd = s.recd := rfl
@[simp] theorem updPl_hist (n : Nat) (f : PLane → PLane) : (updPl n f s).hist = s.hist := rfl
@[simp] theorem updPl_net (n : Nat) (f : PLane → PLane) : (updPl n f s).net = s.net := rfl
@[simp] theorem updPl_can (n : Nat) (f : PLane → PLane) : (updPl n f s).can = s.can := rfl
@[simp] theorem updPl_rd (n : Nat) (f : PLane → PLane) (j : Nat) : (updPl n f s).rd j = s.rd j := rfl
@[simp] theorem updPl_rdN (n : Nat) (f : PLane → PLane) (j : Nat) : (updPl n f s).rdN j = s.rdN j := rfl
@[simp] theorem updPl_on (n : Nat) (f : PLane → PLane) (j : Nat) : (updPl n f s).on j = s.on j := rfl
@[simp] theorem updPl_mode (n : Nat) (f : PLane → PLane) : (updPl n f s).mode = s.mode := rfl
@[simp] theorem updPl_blobOf (n : Nat) (f : PLane → PLane) (j : Nat) : (updPl n f s).blobOf j = s.blobOf j := rfl
@[simp] theorem updPl_byte (n : Nat) (f : PLane → PLane) (sp x : Nat) : (updPl n f s).byte sp x = s.byte sp x := rfl

@[simp] theorem updRot_pending (f : Rotation → Rotation) : (updRot f s).pending = s.pending := rfl
@[simp] theorem updRot_now (f : Rotation → Rotation) : (updRot f s).now = s.now := rfl
@[simp] theorem updRot_tb (f : Rotation → Rotation) : (updRot f s).tb = s.tb := rfl
@[simp] theorem updRot_fresh (f : Rotation → Rotation) : (updRot f s).fresh = s.fresh := rfl
@[simp] theorem updRot_dict (f : Rotation → Rotation) : (updRot f s).dict = s.dict := rfl
@[simp] theorem updRot_blob (f : Rotation → Rotation) : (updRot f s).blob = s.blob := rfl
@[simp] theorem updRot_store (f : Rotation → Rotation) : (updRot f s).store = s.store := rfl
@[simp] theorem updRot_journal (f : Rotation → Rotation) : (updRot f s).journal = s.journal := rfl
@[simp] theorem updRot_pavVals (f : Rotation → Rotation) : (updRot f s).pavVals = s.pavVals := rfl
@[simp] theorem updRot_dictReady (f : Rotation → Rotation) : (updRot f s).dictReady = s.dictReady := rfl
@[simp] theorem updRot_answer (f : Rotation → Rotation) : (updRot f s).answer = s.answer := rfl
@[simp] theorem updRot_wire (f : Rotation → Rotation) : (updRot f s).wire = s.wire := rfl
@[simp] theorem updRot_mem (f : Rotation → Rotation) : (updRot f s).mem = s.mem := rfl
@[simp] theorem updRot_dirty (f : Rotation → Rotation) : (updRot f s).dirty = s.dirty := rfl
@[simp] theorem updRot_router (f : Rotation → Rotation) : (updRot f s).router = s.router := rfl
@[simp] theorem updRot_sessions (f : Rotation → Rotation) : (updRot f s).sessions = s.sessions := rfl
@[simp] theorem updRot_sdo (f : Rotation → Rotation) : (updRot f s).sdo = s.sdo := rfl
@[simp] theorem updRot_scan (f : Rotation → Rotation) : (updRot f s).scan = s.scan := rfl
@[simp] theorem updRot_lanes (f : Rotation → Rotation) : (updRot f s).lanes = s.lanes := rfl
@[simp] theorem updRot_banks (f : Rotation → Rotation) : (updRot f s).banks = s.banks := rfl
@[simp] theorem updRot_pavs (f : Rotation → Rotation) : (updRot f s).pavs = s.pavs := rfl
@[simp] theorem updRot_trestles (f : Rotation → Rotation) : (updRot f s).trestles = s.trestles := rfl
@[simp] theorem updRot_plane (f : Rotation → Rotation) : (updRot f s).plane = s.plane := rfl
@[simp] theorem updRot_rotation (f : Rotation → Rotation) : (updRot f s).rotation = f s.rotation := rfl
@[simp] theorem updRot_fabric (f : Rotation → Rotation) : (updRot f s).fabric = s.fabric := rfl
@[simp] theorem updRot_opt (f : Rotation → Rotation) : (updRot f s).opt = s.opt := rfl
@[simp] theorem updRot_fld (f : Rotation → Rotation) : (updRot f s).fld = s.fld := rfl
@[simp] theorem updRot_isl (f : Rotation → Rotation) : (updRot f s).isl = s.isl := rfl
@[simp] theorem updRot_pair (f : Rotation → Rotation) : (updRot f s).pair = s.pair := rfl
@[simp] theorem updRot_gate (f : Rotation → Rotation) : (updRot f s).gate = s.gate := rfl
@[simp] theorem updRot_pow (f : Rotation → Rotation) : (updRot f s).pow = s.pow := rfl
@[simp] theorem updRot_sec (f : Rotation → Rotation) : (updRot f s).sec = s.sec := rfl
@[simp] theorem updRot_upd (f : Rotation → Rotation) : (updRot f s).upd = s.upd := rfl
@[simp] theorem updRot_sto (f : Rotation → Rotation) : (updRot f s).sto = s.sto := rfl
@[simp] theorem updRot_recd (f : Rotation → Rotation) : (updRot f s).recd = s.recd := rfl
@[simp] theorem updRot_hist (f : Rotation → Rotation) : (updRot f s).hist = s.hist := rfl
@[simp] theorem updRot_net (f : Rotation → Rotation) : (updRot f s).net = s.net := rfl
@[simp] theorem updRot_can (f : Rotation → Rotation) : (updRot f s).can = s.can := rfl
@[simp] theorem updRot_rd (f : Rotation → Rotation) (j : Nat) : (updRot f s).rd j = s.rd j := rfl
@[simp] theorem updRot_rdN (f : Rotation → Rotation) (j : Nat) : (updRot f s).rdN j = s.rdN j := rfl
@[simp] theorem updRot_on (f : Rotation → Rotation) (j : Nat) : (updRot f s).on j = s.on j := rfl
@[simp] theorem updRot_mode (f : Rotation → Rotation) : (updRot f s).mode = s.mode := rfl
@[simp] theorem updRot_blobOf (f : Rotation → Rotation) (j : Nat) : (updRot f s).blobOf j = s.blobOf j := rfl
@[simp] theorem updRot_byte (f : Rotation → Rotation) (sp x : Nat) : (updRot f s).byte sp x = s.byte sp x := rfl

@[simp] theorem updFab_pending (f : Fabric → Fabric) : (updFab f s).pending = s.pending := rfl
@[simp] theorem updFab_now (f : Fabric → Fabric) : (updFab f s).now = s.now := rfl
@[simp] theorem updFab_tb (f : Fabric → Fabric) : (updFab f s).tb = s.tb := rfl
@[simp] theorem updFab_fresh (f : Fabric → Fabric) : (updFab f s).fresh = s.fresh := rfl
@[simp] theorem updFab_dict (f : Fabric → Fabric) : (updFab f s).dict = s.dict := rfl
@[simp] theorem updFab_blob (f : Fabric → Fabric) : (updFab f s).blob = s.blob := rfl
@[simp] theorem updFab_store (f : Fabric → Fabric) : (updFab f s).store = s.store := rfl
@[simp] theorem updFab_journal (f : Fabric → Fabric) : (updFab f s).journal = s.journal := rfl
@[simp] theorem updFab_pavVals (f : Fabric → Fabric) : (updFab f s).pavVals = s.pavVals := rfl
@[simp] theorem updFab_dictReady (f : Fabric → Fabric) : (updFab f s).dictReady = s.dictReady := rfl
@[simp] theorem updFab_answer (f : Fabric → Fabric) : (updFab f s).answer = s.answer := rfl
@[simp] theorem updFab_wire (f : Fabric → Fabric) : (updFab f s).wire = s.wire := rfl
@[simp] theorem updFab_mem (f : Fabric → Fabric) : (updFab f s).mem = s.mem := rfl
@[simp] theorem updFab_dirty (f : Fabric → Fabric) : (updFab f s).dirty = s.dirty := rfl
@[simp] theorem updFab_router (f : Fabric → Fabric) : (updFab f s).router = s.router := rfl
@[simp] theorem updFab_sessions (f : Fabric → Fabric) : (updFab f s).sessions = s.sessions := rfl
@[simp] theorem updFab_sdo (f : Fabric → Fabric) : (updFab f s).sdo = s.sdo := rfl
@[simp] theorem updFab_scan (f : Fabric → Fabric) : (updFab f s).scan = s.scan := rfl
@[simp] theorem updFab_lanes (f : Fabric → Fabric) : (updFab f s).lanes = s.lanes := rfl
@[simp] theorem updFab_banks (f : Fabric → Fabric) : (updFab f s).banks = s.banks := rfl
@[simp] theorem updFab_pavs (f : Fabric → Fabric) : (updFab f s).pavs = s.pavs := rfl
@[simp] theorem updFab_trestles (f : Fabric → Fabric) : (updFab f s).trestles = s.trestles := rfl
@[simp] theorem updFab_plane (f : Fabric → Fabric) : (updFab f s).plane = s.plane := rfl
@[simp] theorem updFab_rotation (f : Fabric → Fabric) : (updFab f s).rotation = s.rotation := rfl
@[simp] theorem updFab_fabric (f : Fabric → Fabric) : (updFab f s).fabric = f s.fabric := rfl
@[simp] theorem updFab_opt (f : Fabric → Fabric) : (updFab f s).opt = s.opt := rfl
@[simp] theorem updFab_fld (f : Fabric → Fabric) : (updFab f s).fld = s.fld := rfl
@[simp] theorem updFab_isl (f : Fabric → Fabric) : (updFab f s).isl = s.isl := rfl
@[simp] theorem updFab_pair (f : Fabric → Fabric) : (updFab f s).pair = s.pair := rfl
@[simp] theorem updFab_gate (f : Fabric → Fabric) : (updFab f s).gate = s.gate := rfl
@[simp] theorem updFab_pow (f : Fabric → Fabric) : (updFab f s).pow = s.pow := rfl
@[simp] theorem updFab_sec (f : Fabric → Fabric) : (updFab f s).sec = s.sec := rfl
@[simp] theorem updFab_upd (f : Fabric → Fabric) : (updFab f s).upd = s.upd := rfl
@[simp] theorem updFab_sto (f : Fabric → Fabric) : (updFab f s).sto = s.sto := rfl
@[simp] theorem updFab_recd (f : Fabric → Fabric) : (updFab f s).recd = s.recd := rfl
@[simp] theorem updFab_hist (f : Fabric → Fabric) : (updFab f s).hist = s.hist := rfl
@[simp] theorem updFab_net (f : Fabric → Fabric) : (updFab f s).net = s.net := rfl
@[simp] theorem updFab_can (f : Fabric → Fabric) : (updFab f s).can = s.can := rfl
@[simp] theorem updFab_rd (f : Fabric → Fabric) (j : Nat) : (updFab f s).rd j = s.rd j := rfl
@[simp] theorem updFab_rdN (f : Fabric → Fabric) (j : Nat) : (updFab f s).rdN j = s.rdN j := rfl
@[simp] theorem updFab_on (f : Fabric → Fabric) (j : Nat) : (updFab f s).on j = s.on j := rfl
@[simp] theorem updFab_mode (f : Fabric → Fabric) : (updFab f s).mode = s.mode := rfl
@[simp] theorem updFab_blobOf (f : Fabric → Fabric) (j : Nat) : (updFab f s).blobOf j = s.blobOf j := rfl
@[simp] theorem updFab_byte (f : Fabric → Fabric) (sp x : Nat) : (updFab f s).byte sp x = s.byte sp x := rfl

@[simp] theorem updOpt_pending (f : Opt → Opt) : (updOpt f s).pending = s.pending := rfl
@[simp] theorem updOpt_now (f : Opt → Opt) : (updOpt f s).now = s.now := rfl
@[simp] theorem updOpt_tb (f : Opt → Opt) : (updOpt f s).tb = s.tb := rfl
@[simp] theorem updOpt_fresh (f : Opt → Opt) : (updOpt f s).fresh = s.fresh := rfl
@[simp] theorem updOpt_dict (f : Opt → Opt) : (updOpt f s).dict = s.dict := rfl
@[simp] theorem updOpt_blob (f : Opt → Opt) : (updOpt f s).blob = s.blob := rfl
@[simp] theorem updOpt_store (f : Opt → Opt) : (updOpt f s).store = s.store := rfl
@[simp] theorem updOpt_journal (f : Opt → Opt) : (updOpt f s).journal = s.journal := rfl
@[simp] theorem updOpt_pavVals (f : Opt → Opt) : (updOpt f s).pavVals = s.pavVals := rfl
@[simp] theorem updOpt_dictReady (f : Opt → Opt) : (updOpt f s).dictReady = s.dictReady := rfl
@[simp] theorem updOpt_answer (f : Opt → Opt) : (updOpt f s).answer = s.answer := rfl
@[simp] theorem updOpt_wire (f : Opt → Opt) : (updOpt f s).wire = s.wire := rfl
@[simp] theorem updOpt_mem (f : Opt → Opt) : (updOpt f s).mem = s.mem := rfl
@[simp] theorem updOpt_dirty (f : Opt → Opt) : (updOpt f s).dirty = s.dirty := rfl
@[simp] theorem updOpt_router (f : Opt → Opt) : (updOpt f s).router = s.router := rfl
@[simp] theorem updOpt_sessions (f : Opt → Opt) : (updOpt f s).sessions = s.sessions := rfl
@[simp] theorem updOpt_sdo (f : Opt → Opt) : (updOpt f s).sdo = s.sdo := rfl
@[simp] theorem updOpt_scan (f : Opt → Opt) : (updOpt f s).scan = s.scan := rfl
@[simp] theorem updOpt_lanes (f : Opt → Opt) : (updOpt f s).lanes = s.lanes := rfl
@[simp] theorem updOpt_banks (f : Opt → Opt) : (updOpt f s).banks = s.banks := rfl
@[simp] theorem updOpt_pavs (f : Opt → Opt) : (updOpt f s).pavs = s.pavs := rfl
@[simp] theorem updOpt_trestles (f : Opt → Opt) : (updOpt f s).trestles = s.trestles := rfl
@[simp] theorem updOpt_plane (f : Opt → Opt) : (updOpt f s).plane = s.plane := rfl
@[simp] theorem updOpt_rotation (f : Opt → Opt) : (updOpt f s).rotation = s.rotation := rfl
@[simp] theorem updOpt_fabric (f : Opt → Opt) : (updOpt f s).fabric = s.fabric := rfl
@[simp] theorem updOpt_opt (f : Opt → Opt) : (updOpt f s).opt = f s.opt := rfl
@[simp] theorem updOpt_fld (f : Opt → Opt) : (updOpt f s).fld = s.fld := rfl
@[simp] theorem updOpt_isl (f : Opt → Opt) : (updOpt f s).isl = s.isl := rfl
@[simp] theorem updOpt_pair (f : Opt → Opt) : (updOpt f s).pair = s.pair := rfl
@[simp] theorem updOpt_gate (f : Opt → Opt) : (updOpt f s).gate = s.gate := rfl
@[simp] theorem updOpt_pow (f : Opt → Opt) : (updOpt f s).pow = s.pow := rfl
@[simp] theorem updOpt_sec (f : Opt → Opt) : (updOpt f s).sec = s.sec := rfl
@[simp] theorem updOpt_upd (f : Opt → Opt) : (updOpt f s).upd = s.upd := rfl
@[simp] theorem updOpt_sto (f : Opt → Opt) : (updOpt f s).sto = s.sto := rfl
@[simp] theorem updOpt_recd (f : Opt → Opt) : (updOpt f s).recd = s.recd := rfl
@[simp] theorem updOpt_hist (f : Opt → Opt) : (updOpt f s).hist = s.hist := rfl
@[simp] theorem updOpt_net (f : Opt → Opt) : (updOpt f s).net = s.net := rfl
@[simp] theorem updOpt_can (f : Opt → Opt) : (updOpt f s).can = s.can := rfl
@[simp] theorem updOpt_rd (f : Opt → Opt) (j : Nat) : (updOpt f s).rd j = s.rd j := rfl
@[simp] theorem updOpt_rdN (f : Opt → Opt) (j : Nat) : (updOpt f s).rdN j = s.rdN j := rfl
@[simp] theorem updOpt_on (f : Opt → Opt) (j : Nat) : (updOpt f s).on j = s.on j := rfl
@[simp] theorem updOpt_mode (f : Opt → Opt) : (updOpt f s).mode = s.mode := rfl
@[simp] theorem updOpt_blobOf (f : Opt → Opt) (j : Nat) : (updOpt f s).blobOf j = s.blobOf j := rfl
@[simp] theorem updOpt_byte (f : Opt → Opt) (sp x : Nat) : (updOpt f s).byte sp x = s.byte sp x := rfl

@[simp] theorem updPair_pending (f : PairSt → PairSt) : (updPair f s).pending = s.pending := rfl
@[simp] theorem updPair_now (f : PairSt → PairSt) : (updPair f s).now = s.now := rfl
@[simp] theorem updPair_tb (f : PairSt → PairSt) : (updPair f s).tb = s.tb := rfl
@[simp] theorem updPair_fresh (f : PairSt → PairSt) : (updPair f s).fresh = s.fresh := rfl
@[simp] theorem updPair_dict (f : PairSt → PairSt) : (updPair f s).dict = s.dict := rfl
@[simp] theorem updPair_blob (f : PairSt → PairSt) : (updPair f s).blob = s.blob := rfl
@[simp] theorem updPair_store (f : PairSt → PairSt) : (updPair f s).store = s.store := rfl
@[simp] theorem updPair_journal (f : PairSt → PairSt) : (updPair f s).journal = s.journal := rfl
@[simp] theorem updPair_pavVals (f : PairSt → PairSt) : (updPair f s).pavVals = s.pavVals := rfl
@[simp] theorem updPair_dictReady (f : PairSt → PairSt) : (updPair f s).dictReady = s.dictReady := rfl
@[simp] theorem updPair_answer (f : PairSt → PairSt) : (updPair f s).answer = s.answer := rfl
@[simp] theorem updPair_wire (f : PairSt → PairSt) : (updPair f s).wire = s.wire := rfl
@[simp] theorem updPair_mem (f : PairSt → PairSt) : (updPair f s).mem = s.mem := rfl
@[simp] theorem updPair_dirty (f : PairSt → PairSt) : (updPair f s).dirty = s.dirty := rfl
@[simp] theorem updPair_router (f : PairSt → PairSt) : (updPair f s).router = s.router := rfl
@[simp] theorem updPair_sessions (f : PairSt → PairSt) : (updPair f s).sessions = s.sessions := rfl
@[simp] theorem updPair_sdo (f : PairSt → PairSt) : (updPair f s).sdo = s.sdo := rfl
@[simp] theorem updPair_scan (f : PairSt → PairSt) : (updPair f s).scan = s.scan := rfl
@[simp] theorem updPair_lanes (f : PairSt → PairSt) : (updPair f s).lanes = s.lanes := rfl
@[simp] theorem updPair_banks (f : PairSt → PairSt) : (updPair f s).banks = s.banks := rfl
@[simp] theorem updPair_pavs (f : PairSt → PairSt) : (updPair f s).pavs = s.pavs := rfl
@[simp] theorem updPair_trestles (f : PairSt → PairSt) : (updPair f s).trestles = s.trestles := rfl
@[simp] theorem updPair_plane (f : PairSt → PairSt) : (updPair f s).plane = s.plane := rfl
@[simp] theorem updPair_rotation (f : PairSt → PairSt) : (updPair f s).rotation = s.rotation := rfl
@[simp] theorem updPair_fabric (f : PairSt → PairSt) : (updPair f s).fabric = s.fabric := rfl
@[simp] theorem updPair_opt (f : PairSt → PairSt) : (updPair f s).opt = s.opt := rfl
@[simp] theorem updPair_fld (f : PairSt → PairSt) : (updPair f s).fld = s.fld := rfl
@[simp] theorem updPair_isl (f : PairSt → PairSt) : (updPair f s).isl = s.isl := rfl
@[simp] theorem updPair_pair (f : PairSt → PairSt) : (updPair f s).pair = f s.pair := rfl
@[simp] theorem updPair_gate (f : PairSt → PairSt) : (updPair f s).gate = s.gate := rfl
@[simp] theorem updPair_pow (f : PairSt → PairSt) : (updPair f s).pow = s.pow := rfl
@[simp] theorem updPair_sec (f : PairSt → PairSt) : (updPair f s).sec = s.sec := rfl
@[simp] theorem updPair_upd (f : PairSt → PairSt) : (updPair f s).upd = s.upd := rfl
@[simp] theorem updPair_sto (f : PairSt → PairSt) : (updPair f s).sto = s.sto := rfl
@[simp] theorem updPair_recd (f : PairSt → PairSt) : (updPair f s).recd = s.recd := rfl
@[simp] theorem updPair_hist (f : PairSt → PairSt) : (updPair f s).hist = s.hist := rfl
@[simp] theorem updPair_net (f : PairSt → PairSt) : (updPair f s).net = s.net := rfl
@[simp] theorem updPair_can (f : PairSt → PairSt) : (updPair f s).can = s.can := rfl
@[simp] theorem updPair_rd (f : PairSt → PairSt) (j : Nat) : (updPair f s).rd j = s.rd j := rfl
@[simp] theorem updPair_rdN (f : PairSt → PairSt) (j : Nat) : (updPair f s).rdN j = s.rdN j := rfl
@[simp] theorem updPair_on (f : PairSt → PairSt) (j : Nat) : (updPair f s).on j = s.on j := rfl
@[simp] theorem updPair_mode (f : PairSt → PairSt) : (updPair f s).mode = s.mode := rfl
@[simp] theorem updPair_blobOf (f : PairSt → PairSt) (j : Nat) : (updPair f s).blobOf j = s.blobOf j := rfl
@[simp] theorem updPair_byte (f : PairSt → PairSt) (sp x : Nat) : (updPair f s).byte sp x = s.byte sp x := rfl

@[simp] theorem updGate_pending (f : Gate → Gate) : (updGate f s).pending = s.pending := rfl
@[simp] theorem updGate_now (f : Gate → Gate) : (updGate f s).now = s.now := rfl
@[simp] theorem updGate_tb (f : Gate → Gate) : (updGate f s).tb = s.tb := rfl
@[simp] theorem updGate_fresh (f : Gate → Gate) : (updGate f s).fresh = s.fresh := rfl
@[simp] theorem updGate_dict (f : Gate → Gate) : (updGate f s).dict = s.dict := rfl
@[simp] theorem updGate_blob (f : Gate → Gate) : (updGate f s).blob = s.blob := rfl
@[simp] theorem updGate_store (f : Gate → Gate) : (updGate f s).store = s.store := rfl
@[simp] theorem updGate_journal (f : Gate → Gate) : (updGate f s).journal = s.journal := rfl
@[simp] theorem updGate_pavVals (f : Gate → Gate) : (updGate f s).pavVals = s.pavVals := rfl
@[simp] theorem updGate_dictReady (f : Gate → Gate) : (updGate f s).dictReady = s.dictReady := rfl
@[simp] theorem updGate_answer (f : Gate → Gate) : (updGate f s).answer = s.answer := rfl
@[simp] theorem updGate_wire (f : Gate → Gate) : (updGate f s).wire = s.wire := rfl
@[simp] theorem updGate_mem (f : Gate → Gate) : (updGate f s).mem = s.mem := rfl
@[simp] theorem updGate_dirty (f : Gate → Gate) : (updGate f s).dirty = s.dirty := rfl
@[simp] theorem updGate_router (f : Gate → Gate) : (updGate f s).router = s.router := rfl
@[simp] theorem updGate_sessions (f : Gate → Gate) : (updGate f s).sessions = s.sessions := rfl
@[simp] theorem updGate_sdo (f : Gate → Gate) : (updGate f s).sdo = s.sdo := rfl
@[simp] theorem updGate_scan (f : Gate → Gate) : (updGate f s).scan = s.scan := rfl
@[simp] theorem updGate_lanes (f : Gate → Gate) : (updGate f s).lanes = s.lanes := rfl
@[simp] theorem updGate_banks (f : Gate → Gate) : (updGate f s).banks = s.banks := rfl
@[simp] theorem updGate_pavs (f : Gate → Gate) : (updGate f s).pavs = s.pavs := rfl
@[simp] theorem updGate_trestles (f : Gate → Gate) : (updGate f s).trestles = s.trestles := rfl
@[simp] theorem updGate_plane (f : Gate → Gate) : (updGate f s).plane = s.plane := rfl
@[simp] theorem updGate_rotation (f : Gate → Gate) : (updGate f s).rotation = s.rotation := rfl
@[simp] theorem updGate_fabric (f : Gate → Gate) : (updGate f s).fabric = s.fabric := rfl
@[simp] theorem updGate_opt (f : Gate → Gate) : (updGate f s).opt = s.opt := rfl
@[simp] theorem updGate_fld (f : Gate → Gate) : (updGate f s).fld = s.fld := rfl
@[simp] theorem updGate_isl (f : Gate → Gate) : (updGate f s).isl = s.isl := rfl
@[simp] theorem updGate_pair (f : Gate → Gate) : (updGate f s).pair = s.pair := rfl
@[simp] theorem updGate_gate (f : Gate → Gate) : (updGate f s).gate = f s.gate := rfl
@[simp] theorem updGate_pow (f : Gate → Gate) : (updGate f s).pow = s.pow := rfl
@[simp] theorem updGate_sec (f : Gate → Gate) : (updGate f s).sec = s.sec := rfl
@[simp] theorem updGate_upd (f : Gate → Gate) : (updGate f s).upd = s.upd := rfl
@[simp] theorem updGate_sto (f : Gate → Gate) : (updGate f s).sto = s.sto := rfl
@[simp] theorem updGate_recd (f : Gate → Gate) : (updGate f s).recd = s.recd := rfl
@[simp] theorem updGate_hist (f : Gate → Gate) : (updGate f s).hist = s.hist := rfl
@[simp] theorem updGate_net (f : Gate → Gate) : (updGate f s).net = s.net := rfl
@[simp] theorem updGate_can (f : Gate → Gate) : (updGate f s).can = s.can := rfl
@[simp] theorem updGate_rd (f : Gate → Gate) (j : Nat) : (updGate f s).rd j = s.rd j := rfl
@[simp] theorem updGate_rdN (f : Gate → Gate) (j : Nat) : (updGate f s).rdN j = s.rdN j := rfl
@[simp] theorem updGate_on (f : Gate → Gate) (j : Nat) : (updGate f s).on j = s.on j := rfl
@[simp] theorem updGate_mode (f : Gate → Gate) : (updGate f s).mode = s.mode := rfl
@[simp] theorem updGate_blobOf (f : Gate → Gate) (j : Nat) : (updGate f s).blobOf j = s.blobOf j := rfl
@[simp] theorem updGate_byte (f : Gate → Gate) (sp x : Nat) : (updGate f s).byte sp x = s.byte sp x := rfl

@[simp] theorem updPow_pending (f : Power → Power) : (updPow f s).pending = s.pending := rfl
@[simp] theorem updPow_now (f : Power → Power) : (updPow f s).now = s.now := rfl
@[simp] theorem updPow_tb (f : Power → Power) : (updPow f s).tb = s.tb := rfl
@[simp] theorem updPow_fresh (f : Power → Power) : (updPow f s).fresh = s.fresh := rfl
@[simp] theorem updPow_dict (f : Power → Power) : (updPow f s).dict = s.dict := rfl
@[simp] theorem updPow_blob (f : Power → Power) : (updPow f s).blob = s.blob := rfl
@[simp] theorem updPow_store (f : Power → Power) : (updPow f s).store = s.store := rfl
@[simp] theorem updPow_journal (f : Power → Power) : (updPow f s).journal = s.journal := rfl
@[simp] theorem updPow_pavVals (f : Power → Power) : (updPow f s).pavVals = s.pavVals := rfl
@[simp] theorem updPow_dictReady (f : Power → Power) : (updPow f s).dictReady = s.dictReady := rfl
@[simp] theorem updPow_answer (f : Power → Power) : (updPow f s).answer = s.answer := rfl
@[simp] theorem updPow_wire (f : Power → Power) : (updPow f s).wire = s.wire := rfl
@[simp] theorem updPow_mem (f : Power → Power) : (updPow f s).mem = s.mem := rfl
@[simp] theorem updPow_dirty (f : Power → Power) : (updPow f s).dirty = s.dirty := rfl
@[simp] theorem updPow_router (f : Power → Power) : (updPow f s).router = s.router := rfl
@[simp] theorem updPow_sessions (f : Power → Power) : (updPow f s).sessions = s.sessions := rfl
@[simp] theorem updPow_sdo (f : Power → Power) : (updPow f s).sdo = s.sdo := rfl
@[simp] theorem updPow_scan (f : Power → Power) : (updPow f s).scan = s.scan := rfl
@[simp] theorem updPow_lanes (f : Power → Power) : (updPow f s).lanes = s.lanes := rfl
@[simp] theorem updPow_banks (f : Power → Power) : (updPow f s).banks = s.banks := rfl
@[simp] theorem updPow_pavs (f : Power → Power) : (updPow f s).pavs = s.pavs := rfl
@[simp] theorem updPow_trestles (f : Power → Power) : (updPow f s).trestles = s.trestles := rfl
@[simp] theorem updPow_plane (f : Power → Power) : (updPow f s).plane = s.plane := rfl
@[simp] theorem updPow_rotation (f : Power → Power) : (updPow f s).rotation = s.rotation := rfl
@[simp] theorem updPow_fabric (f : Power → Power) : (updPow f s).fabric = s.fabric := rfl
@[simp] theorem updPow_opt (f : Power → Power) : (updPow f s).opt = s.opt := rfl
@[simp] theorem updPow_fld (f : Power → Power) : (updPow f s).fld = s.fld := rfl
@[simp] theorem updPow_isl (f : Power → Power) : (updPow f s).isl = s.isl := rfl
@[simp] theorem updPow_pair (f : Power → Power) : (updPow f s).pair = s.pair := rfl
@[simp] theorem updPow_gate (f : Power → Power) : (updPow f s).gate = s.gate := rfl
@[simp] theorem updPow_pow (f : Power → Power) : (updPow f s).pow = f s.pow := rfl
@[simp] theorem updPow_sec (f : Power → Power) : (updPow f s).sec = s.sec := rfl
@[simp] theorem updPow_upd (f : Power → Power) : (updPow f s).upd = s.upd := rfl
@[simp] theorem updPow_sto (f : Power → Power) : (updPow f s).sto = s.sto := rfl
@[simp] theorem updPow_recd (f : Power → Power) : (updPow f s).recd = s.recd := rfl
@[simp] theorem updPow_hist (f : Power → Power) : (updPow f s).hist = s.hist := rfl
@[simp] theorem updPow_net (f : Power → Power) : (updPow f s).net = s.net := rfl
@[simp] theorem updPow_can (f : Power → Power) : (updPow f s).can = s.can := rfl
@[simp] theorem updPow_rd (f : Power → Power) (j : Nat) : (updPow f s).rd j = s.rd j := rfl
@[simp] theorem updPow_rdN (f : Power → Power) (j : Nat) : (updPow f s).rdN j = s.rdN j := rfl
@[simp] theorem updPow_on (f : Power → Power) (j : Nat) : (updPow f s).on j = s.on j := rfl
@[simp] theorem updPow_mode (f : Power → Power) : (updPow f s).mode = s.mode := rfl
@[simp] theorem updPow_blobOf (f : Power → Power) (j : Nat) : (updPow f s).blobOf j = s.blobOf j := rfl
@[simp] theorem updPow_byte (f : Power → Power) (sp x : Nat) : (updPow f s).byte sp x = s.byte sp x := rfl

@[simp] theorem updSec_pending (f : Sec → Sec) : (updSec f s).pending = s.pending := rfl
@[simp] theorem updSec_now (f : Sec → Sec) : (updSec f s).now = s.now := rfl
@[simp] theorem updSec_tb (f : Sec → Sec) : (updSec f s).tb = s.tb := rfl
@[simp] theorem updSec_fresh (f : Sec → Sec) : (updSec f s).fresh = s.fresh := rfl
@[simp] theorem updSec_dict (f : Sec → Sec) : (updSec f s).dict = s.dict := rfl
@[simp] theorem updSec_blob (f : Sec → Sec) : (updSec f s).blob = s.blob := rfl
@[simp] theorem updSec_store (f : Sec → Sec) : (updSec f s).store = s.store := rfl
@[simp] theorem updSec_journal (f : Sec → Sec) : (updSec f s).journal = s.journal := rfl
@[simp] theorem updSec_pavVals (f : Sec → Sec) : (updSec f s).pavVals = s.pavVals := rfl
@[simp] theorem updSec_dictReady (f : Sec → Sec) : (updSec f s).dictReady = s.dictReady := rfl
@[simp] theorem updSec_answer (f : Sec → Sec) : (updSec f s).answer = s.answer := rfl
@[simp] theorem updSec_wire (f : Sec → Sec) : (updSec f s).wire = s.wire := rfl
@[simp] theorem updSec_mem (f : Sec → Sec) : (updSec f s).mem = s.mem := rfl
@[simp] theorem updSec_dirty (f : Sec → Sec) : (updSec f s).dirty = s.dirty := rfl
@[simp] theorem updSec_router (f : Sec → Sec) : (updSec f s).router = s.router := rfl
@[simp] theorem updSec_sessions (f : Sec → Sec) : (updSec f s).sessions = s.sessions := rfl
@[simp] theorem updSec_sdo (f : Sec → Sec) : (updSec f s).sdo = s.sdo := rfl
@[simp] theorem updSec_scan (f : Sec → Sec) : (updSec f s).scan = s.scan := rfl
@[simp] theorem updSec_lanes (f : Sec → Sec) : (updSec f s).lanes = s.lanes := rfl
@[simp] theorem updSec_banks (f : Sec → Sec) : (updSec f s).banks = s.banks := rfl
@[simp] theorem updSec_pavs (f : Sec → Sec) : (updSec f s).pavs = s.pavs := rfl
@[simp] theorem updSec_trestles (f : Sec → Sec) : (updSec f s).trestles = s.trestles := rfl
@[simp] theorem updSec_plane (f : Sec → Sec) : (updSec f s).plane = s.plane := rfl
@[simp] theorem updSec_rotation (f : Sec → Sec) : (updSec f s).rotation = s.rotation := rfl
@[simp] theorem updSec_fabric (f : Sec → Sec) : (updSec f s).fabric = s.fabric := rfl
@[simp] theorem updSec_opt (f : Sec → Sec) : (updSec f s).opt = s.opt := rfl
@[simp] theorem updSec_fld (f : Sec → Sec) : (updSec f s).fld = s.fld := rfl
@[simp] theorem updSec_isl (f : Sec → Sec) : (updSec f s).isl = s.isl := rfl
@[simp] theorem updSec_pair (f : Sec → Sec) : (updSec f s).pair = s.pair := rfl
@[simp] theorem updSec_gate (f : Sec → Sec) : (updSec f s).gate = s.gate := rfl
@[simp] theorem updSec_pow (f : Sec → Sec) : (updSec f s).pow = s.pow := rfl
@[simp] theorem updSec_sec (f : Sec → Sec) : (updSec f s).sec = f s.sec := rfl
@[simp] theorem updSec_upd (f : Sec → Sec) : (updSec f s).upd = s.upd := rfl
@[simp] theorem updSec_sto (f : Sec → Sec) : (updSec f s).sto = s.sto := rfl
@[simp] theorem updSec_recd (f : Sec → Sec) : (updSec f s).recd = s.recd := rfl
@[simp] theorem updSec_hist (f : Sec → Sec) : (updSec f s).hist = s.hist := rfl
@[simp] theorem updSec_net (f : Sec → Sec) : (updSec f s).net = s.net := rfl
@[simp] theorem updSec_can (f : Sec → Sec) : (updSec f s).can = s.can := rfl
@[simp] theorem updSec_rd (f : Sec → Sec) (j : Nat) : (updSec f s).rd j = s.rd j := rfl
@[simp] theorem updSec_rdN (f : Sec → Sec) (j : Nat) : (updSec f s).rdN j = s.rdN j := rfl
@[simp] theorem updSec_on (f : Sec → Sec) (j : Nat) : (updSec f s).on j = s.on j := rfl
@[simp] theorem updSec_mode (f : Sec → Sec) : (updSec f s).mode = s.mode := rfl
@[simp] theorem updSec_blobOf (f : Sec → Sec) (j : Nat) : (updSec f s).blobOf j = s.blobOf j := rfl
@[simp] theorem updSec_byte (f : Sec → Sec) (sp x : Nat) : (updSec f s).byte sp x = s.byte sp x := rfl

@[simp] theorem updUpd_pending (f : Upd → Upd) : (updUpd f s).pending = s.pending := rfl
@[simp] theorem updUpd_now (f : Upd → Upd) : (updUpd f s).now = s.now := rfl
@[simp] theorem updUpd_tb (f : Upd → Upd) : (updUpd f s).tb = s.tb := rfl
@[simp] theorem updUpd_fresh (f : Upd → Upd) : (updUpd f s).fresh = s.fresh := rfl
@[simp] theorem updUpd_dict (f : Upd → Upd) : (updUpd f s).dict = s.dict := rfl
@[simp] theorem updUpd_blob (f : Upd → Upd) : (updUpd f s).blob = s.blob := rfl
@[simp] theorem updUpd_store (f : Upd → Upd) : (updUpd f s).store = s.store := rfl
@[simp] theorem updUpd_journal (f : Upd → Upd) : (updUpd f s).journal = s.journal := rfl
@[simp] theorem updUpd_pavVals (f : Upd → Upd) : (updUpd f s).pavVals = s.pavVals := rfl
@[simp] theorem updUpd_dictReady (f : Upd → Upd) : (updUpd f s).dictReady = s.dictReady := rfl
@[simp] theorem updUpd_answer (f : Upd → Upd) : (updUpd f s).answer = s.answer := rfl
@[simp] theorem updUpd_wire (f : Upd → Upd) : (updUpd f s).wire = s.wire := rfl
@[simp] theorem updUpd_mem (f : Upd → Upd) : (updUpd f s).mem = s.mem := rfl
@[simp] theorem updUpd_dirty (f : Upd → Upd) : (updUpd f s).dirty = s.dirty := rfl
@[simp] theorem updUpd_router (f : Upd → Upd) : (updUpd f s).router = s.router := rfl
@[simp] theorem updUpd_sessions (f : Upd → Upd) : (updUpd f s).sessions = s.sessions := rfl
@[simp] theorem updUpd_sdo (f : Upd → Upd) : (updUpd f s).sdo = s.sdo := rfl
@[simp] theorem updUpd_scan (f : Upd → Upd) : (updUpd f s).scan = s.scan := rfl
@[simp] theorem updUpd_lanes (f : Upd → Upd) : (updUpd f s).lanes = s.lanes := rfl
@[simp] theorem updUpd_banks (f : Upd → Upd) : (updUpd f s).banks = s.banks := rfl
@[simp] theorem updUpd_pavs (f : Upd → Upd) : (updUpd f s).pavs = s.pavs := rfl
@[simp] theorem updUpd_trestles (f : Upd → Upd) : (updUpd f s).trestles = s.trestles := rfl
@[simp] theorem updUpd_plane (f : Upd → Upd) : (updUpd f s).plane = s.plane := rfl
@[simp] theorem updUpd_rotation (f : Upd → Upd) : (updUpd f s).rotation = s.rotation := rfl
@[simp] theorem updUpd_fabric (f : Upd → Upd) : (updUpd f s).fabric = s.fabric := rfl
@[simp] theorem updUpd_opt (f : Upd → Upd) : (updUpd f s).opt = s.opt := rfl
@[simp] theorem updUpd_fld (f : Upd → Upd) : (updUpd f s).fld = s.fld := rfl
@[simp] theorem updUpd_isl (f : Upd → Upd) : (updUpd f s).isl = s.isl := rfl
@[simp] theorem updUpd_pair (f : Upd → Upd) : (updUpd f s).pair = s.pair := rfl
@[simp] theorem updUpd_gate (f : Upd → Upd) : (updUpd f s).gate = s.gate := rfl
@[simp] theorem updUpd_pow (f : Upd → Upd) : (updUpd f s).pow = s.pow := rfl
@[simp] theorem updUpd_sec (f : Upd → Upd) : (updUpd f s).sec = s.sec := rfl
@[simp] theorem updUpd_upd (f : Upd → Upd) : (updUpd f s).upd = f s.upd := rfl
@[simp] theorem updUpd_sto (f : Upd → Upd) : (updUpd f s).sto = s.sto := rfl
@[simp] theorem updUpd_recd (f : Upd → Upd) : (updUpd f s).recd = s.recd := rfl
@[simp] theorem updUpd_hist (f : Upd → Upd) : (updUpd f s).hist = s.hist := rfl
@[simp] theorem updUpd_net (f : Upd → Upd) : (updUpd f s).net = s.net := rfl
@[simp] theorem updUpd_can (f : Upd → Upd) : (updUpd f s).can = s.can := rfl
@[simp] theorem updUpd_rd (f : Upd → Upd) (j : Nat) : (updUpd f s).rd j = s.rd j := rfl
@[simp] theorem updUpd_rdN (f : Upd → Upd) (j : Nat) : (updUpd f s).rdN j = s.rdN j := rfl
@[simp] theorem updUpd_on (f : Upd → Upd) (j : Nat) : (updUpd f s).on j = s.on j := rfl
@[simp] theorem updUpd_mode (f : Upd → Upd) : (updUpd f s).mode = s.mode := rfl
@[simp] theorem updUpd_blobOf (f : Upd → Upd) (j : Nat) : (updUpd f s).blobOf j = s.blobOf j := rfl
@[simp] theorem updUpd_byte (f : Upd → Upd) (sp x : Nat) : (updUpd f s).byte sp x = s.byte sp x := rfl

@[simp] theorem updSto_pending (f : Sto → Sto) : (updSto f s).pending = s.pending := rfl
@[simp] theorem updSto_now (f : Sto → Sto) : (updSto f s).now = s.now := rfl
@[simp] theorem updSto_tb (f : Sto → Sto) : (updSto f s).tb = s.tb := rfl
@[simp] theorem updSto_fresh (f : Sto → Sto) : (updSto f s).fresh = s.fresh := rfl
@[simp] theorem updSto_dict (f : Sto → Sto) : (updSto f s).dict = s.dict := rfl
@[simp] theorem updSto_blob (f : Sto → Sto) : (updSto f s).blob = s.blob := rfl
@[simp] theorem updSto_store (f : Sto → Sto) : (updSto f s).store = s.store := rfl
@[simp] theorem updSto_journal (f : Sto → Sto) : (updSto f s).journal = s.journal := rfl
@[simp] theorem updSto_pavVals (f : Sto → Sto) : (updSto f s).pavVals = s.pavVals := rfl
@[simp] theorem updSto_dictReady (f : Sto → Sto) : (updSto f s).dictReady = s.dictReady := rfl
@[simp] theorem updSto_answer (f : Sto → Sto) : (updSto f s).answer = s.answer := rfl
@[simp] theorem updSto_wire (f : Sto → Sto) : (updSto f s).wire = s.wire := rfl
@[simp] theorem updSto_mem (f : Sto → Sto) : (updSto f s).mem = s.mem := rfl
@[simp] theorem updSto_dirty (f : Sto → Sto) : (updSto f s).dirty = s.dirty := rfl
@[simp] theorem updSto_router (f : Sto → Sto) : (updSto f s).router = s.router := rfl
@[simp] theorem updSto_sessions (f : Sto → Sto) : (updSto f s).sessions = s.sessions := rfl
@[simp] theorem updSto_sdo (f : Sto → Sto) : (updSto f s).sdo = s.sdo := rfl
@[simp] theorem updSto_scan (f : Sto → Sto) : (updSto f s).scan = s.scan := rfl
@[simp] theorem updSto_lanes (f : Sto → Sto) : (updSto f s).lanes = s.lanes := rfl
@[simp] theorem updSto_banks (f : Sto → Sto) : (updSto f s).banks = s.banks := rfl
@[simp] theorem updSto_pavs (f : Sto → Sto) : (updSto f s).pavs = s.pavs := rfl
@[simp] theorem updSto_trestles (f : Sto → Sto) : (updSto f s).trestles = s.trestles := rfl
@[simp] theorem updSto_plane (f : Sto → Sto) : (updSto f s).plane = s.plane := rfl
@[simp] theorem updSto_rotation (f : Sto → Sto) : (updSto f s).rotation = s.rotation := rfl
@[simp] theorem updSto_fabric (f : Sto → Sto) : (updSto f s).fabric = s.fabric := rfl
@[simp] theorem updSto_opt (f : Sto → Sto) : (updSto f s).opt = s.opt := rfl
@[simp] theorem updSto_fld (f : Sto → Sto) : (updSto f s).fld = s.fld := rfl
@[simp] theorem updSto_isl (f : Sto → Sto) : (updSto f s).isl = s.isl := rfl
@[simp] theorem updSto_pair (f : Sto → Sto) : (updSto f s).pair = s.pair := rfl
@[simp] theorem updSto_gate (f : Sto → Sto) : (updSto f s).gate = s.gate := rfl
@[simp] theorem updSto_pow (f : Sto → Sto) : (updSto f s).pow = s.pow := rfl
@[simp] theorem updSto_sec (f : Sto → Sto) : (updSto f s).sec = s.sec := rfl
@[simp] theorem updSto_upd (f : Sto → Sto) : (updSto f s).upd = s.upd := rfl
@[simp] theorem updSto_sto (f : Sto → Sto) : (updSto f s).sto = f s.sto := rfl
@[simp] theorem updSto_recd (f : Sto → Sto) : (updSto f s).recd = s.recd := rfl
@[simp] theorem updSto_hist (f : Sto → Sto) : (updSto f s).hist = s.hist := rfl
@[simp] theorem updSto_net (f : Sto → Sto) : (updSto f s).net = s.net := rfl
@[simp] theorem updSto_can (f : Sto → Sto) : (updSto f s).can = s.can := rfl
@[simp] theorem updSto_rd (f : Sto → Sto) (j : Nat) : (updSto f s).rd j = s.rd j := rfl
@[simp] theorem updSto_rdN (f : Sto → Sto) (j : Nat) : (updSto f s).rdN j = s.rdN j := rfl
@[simp] theorem updSto_on (f : Sto → Sto) (j : Nat) : (updSto f s).on j = s.on j := rfl
@[simp] theorem updSto_mode (f : Sto → Sto) : (updSto f s).mode = s.mode := rfl
@[simp] theorem updSto_blobOf (f : Sto → Sto) (j : Nat) : (updSto f s).blobOf j = s.blobOf j := rfl
@[simp] theorem updSto_byte (f : Sto → Sto) (sp x : Nat) : (updSto f s).byte sp x = s.byte sp x := rfl

@[simp] theorem updRec_pending (f : RecSt → RecSt) : (updRec f s).pending = s.pending := rfl
@[simp] theorem updRec_now (f : RecSt → RecSt) : (updRec f s).now = s.now := rfl
@[simp] theorem updRec_tb (f : RecSt → RecSt) : (updRec f s).tb = s.tb := rfl
@[simp] theorem updRec_fresh (f : RecSt → RecSt) : (updRec f s).fresh = s.fresh := rfl
@[simp] theorem updRec_dict (f : RecSt → RecSt) : (updRec f s).dict = s.dict := rfl
@[simp] theorem updRec_blob (f : RecSt → RecSt) : (updRec f s).blob = s.blob := rfl
@[simp] theorem updRec_store (f : RecSt → RecSt) : (updRec f s).store = s.store := rfl
@[simp] theorem updRec_journal (f : RecSt → RecSt) : (updRec f s).journal = s.journal := rfl
@[simp] theorem updRec_pavVals (f : RecSt → RecSt) : (updRec f s).pavVals = s.pavVals := rfl
@[simp] theorem updRec_dictReady (f : RecSt → RecSt) : (updRec f s).dictReady = s.dictReady := rfl
@[simp] theorem updRec_answer (f : RecSt → RecSt) : (updRec f s).answer = s.answer := rfl
@[simp] theorem updRec_wire (f : RecSt → RecSt) : (updRec f s).wire = s.wire := rfl
@[simp] theorem updRec_mem (f : RecSt → RecSt) : (updRec f s).mem = s.mem := rfl
@[simp] theorem updRec_dirty (f : RecSt → RecSt) : (updRec f s).dirty = s.dirty := rfl
@[simp] theorem updRec_router (f : RecSt → RecSt) : (updRec f s).router = s.router := rfl
@[simp] theorem updRec_sessions (f : RecSt → RecSt) : (updRec f s).sessions = s.sessions := rfl
@[simp] theorem updRec_sdo (f : RecSt → RecSt) : (updRec f s).sdo = s.sdo := rfl
@[simp] theorem updRec_scan (f : RecSt → RecSt) : (updRec f s).scan = s.scan := rfl
@[simp] theorem updRec_lanes (f : RecSt → RecSt) : (updRec f s).lanes = s.lanes := rfl
@[simp] theorem updRec_banks (f : RecSt → RecSt) : (updRec f s).banks = s.banks := rfl
@[simp] theorem updRec_pavs (f : RecSt → RecSt) : (updRec f s).pavs = s.pavs := rfl
@[simp] theorem updRec_trestles (f : RecSt → RecSt) : (updRec f s).trestles = s.trestles := rfl
@[simp] theorem updRec_plane (f : RecSt → RecSt) : (updRec f s).plane = s.plane := rfl
@[simp] theorem updRec_rotation (f : RecSt → RecSt) : (updRec f s).rotation = s.rotation := rfl
@[simp] theorem updRec_fabric (f : RecSt → RecSt) : (updRec f s).fabric = s.fabric := rfl
@[simp] theorem updRec_opt (f : RecSt → RecSt) : (updRec f s).opt = s.opt := rfl
@[simp] theorem updRec_fld (f : RecSt → RecSt) : (updRec f s).fld = s.fld := rfl
@[simp] theorem updRec_isl (f : RecSt → RecSt) : (updRec f s).isl = s.isl := rfl
@[simp] theorem updRec_pair (f : RecSt → RecSt) : (updRec f s).pair = s.pair := rfl
@[simp] theorem updRec_gate (f : RecSt → RecSt) : (updRec f s).gate = s.gate := rfl
@[simp] theorem updRec_pow (f : RecSt → RecSt) : (updRec f s).pow = s.pow := rfl
@[simp] theorem updRec_sec (f : RecSt → RecSt) : (updRec f s).sec = s.sec := rfl
@[simp] theorem updRec_upd (f : RecSt → RecSt) : (updRec f s).upd = s.upd := rfl
@[simp] theorem updRec_sto (f : RecSt → RecSt) : (updRec f s).sto = s.sto := rfl
@[simp] theorem updRec_recd (f : RecSt → RecSt) : (updRec f s).recd = f s.recd := rfl
@[simp] theorem updRec_hist (f : RecSt → RecSt) : (updRec f s).hist = s.hist := rfl
@[simp] theorem updRec_net (f : RecSt → RecSt) : (updRec f s).net = s.net := rfl
@[simp] theorem updRec_can (f : RecSt → RecSt) : (updRec f s).can = s.can := rfl
@[simp] theorem updRec_rd (f : RecSt → RecSt) (j : Nat) : (updRec f s).rd j = s.rd j := rfl
@[simp] theorem updRec_rdN (f : RecSt → RecSt) (j : Nat) : (updRec f s).rdN j = s.rdN j := rfl
@[simp] theorem updRec_on (f : RecSt → RecSt) (j : Nat) : (updRec f s).on j = s.on j := rfl
@[simp] theorem updRec_mode (f : RecSt → RecSt) : (updRec f s).mode = s.mode := rfl
@[simp] theorem updRec_blobOf (f : RecSt → RecSt) (j : Nat) : (updRec f s).blobOf j = s.blobOf j := rfl
@[simp] theorem updRec_byte (f : RecSt → RecSt) (sp x : Nat) : (updRec f s).byte sp x = s.byte sp x := rfl

@[simp] theorem updHist_pending (f : HistSt → HistSt) : (updHist f s).pending = s.pending := rfl
@[simp] theorem updHist_now (f : HistSt → HistSt) : (updHist f s).now = s.now := rfl
@[simp] theorem updHist_tb (f : HistSt → HistSt) : (updHist f s).tb = s.tb := rfl
@[simp] theorem updHist_fresh (f : HistSt → HistSt) : (updHist f s).fresh = s.fresh := rfl
@[simp] theorem updHist_dict (f : HistSt → HistSt) : (updHist f s).dict = s.dict := rfl
@[simp] theorem updHist_blob (f : HistSt → HistSt) : (updHist f s).blob = s.blob := rfl
@[simp] theorem updHist_store (f : HistSt → HistSt) : (updHist f s).store = s.store := rfl
@[simp] theorem updHist_journal (f : HistSt → HistSt) : (updHist f s).journal = s.journal := rfl
@[simp] theorem updHist_pavVals (f : HistSt → HistSt) : (updHist f s).pavVals = s.pavVals := rfl
@[simp] theorem updHist_dictReady (f : HistSt → HistSt) : (updHist f s).dictReady = s.dictReady := rfl
@[simp] theorem updHist_answer (f : HistSt → HistSt) : (updHist f s).answer = s.answer := rfl
@[simp] theorem updHist_wire (f : HistSt → HistSt) : (updHist f s).wire = s.wire := rfl
@[simp] theorem updHist_mem (f : HistSt → HistSt) : (updHist f s).mem = s.mem := rfl
@[simp] theorem updHist_dirty (f : HistSt → HistSt) : (updHist f s).dirty = s.dirty := rfl
@[simp] theorem updHist_router (f : HistSt → HistSt) : (updHist f s).router = s.router := rfl
@[simp] theorem updHist_sessions (f : HistSt → HistSt) : (updHist f s).sessions = s.sessions := rfl
@[simp] theorem updHist_sdo (f : HistSt → HistSt) : (updHist f s).sdo = s.sdo := rfl
@[simp] theorem updHist_scan (f : HistSt → HistSt) : (updHist f s).scan = s.scan := rfl
@[simp] theorem updHist_lanes (f : HistSt → HistSt) : (updHist f s).lanes = s.lanes := rfl
@[simp] theorem updHist_banks (f : HistSt → HistSt) : (updHist f s).banks = s.banks := rfl
@[simp] theorem updHist_pavs (f : HistSt → HistSt) : (updHist f s).pavs = s.pavs := rfl
@[simp] theorem updHist_trestles (f : HistSt → HistSt) : (updHist f s).trestles = s.trestles := rfl
@[simp] theorem updHist_plane (f : HistSt → HistSt) : (updHist f s).plane = s.plane := rfl
@[simp] theorem updHist_rotation (f : HistSt → HistSt) : (updHist f s).rotation = s.rotation := rfl
@[simp] theorem updHist_fabric (f : HistSt → HistSt) : (updHist f s).fabric = s.fabric := rfl
@[simp] theorem updHist_opt (f : HistSt → HistSt) : (updHist f s).opt = s.opt := rfl
@[simp] theorem updHist_fld (f : HistSt → HistSt) : (updHist f s).fld = s.fld := rfl
@[simp] theorem updHist_isl (f : HistSt → HistSt) : (updHist f s).isl = s.isl := rfl
@[simp] theorem updHist_pair (f : HistSt → HistSt) : (updHist f s).pair = s.pair := rfl
@[simp] theorem updHist_gate (f : HistSt → HistSt) : (updHist f s).gate = s.gate := rfl
@[simp] theorem updHist_pow (f : HistSt → HistSt) : (updHist f s).pow = s.pow := rfl
@[simp] theorem updHist_sec (f : HistSt → HistSt) : (updHist f s).sec = s.sec := rfl
@[simp] theorem updHist_upd (f : HistSt → HistSt) : (updHist f s).upd = s.upd := rfl
@[simp] theorem updHist_sto (f : HistSt → HistSt) : (updHist f s).sto = s.sto := rfl
@[simp] theorem updHist_recd (f : HistSt → HistSt) : (updHist f s).recd = s.recd := rfl
@[simp] theorem updHist_hist (f : HistSt → HistSt) : (updHist f s).hist = f s.hist := rfl
@[simp] theorem updHist_net (f : HistSt → HistSt) : (updHist f s).net = s.net := rfl
@[simp] theorem updHist_can (f : HistSt → HistSt) : (updHist f s).can = s.can := rfl
@[simp] theorem updHist_rd (f : HistSt → HistSt) (j : Nat) : (updHist f s).rd j = s.rd j := rfl
@[simp] theorem updHist_rdN (f : HistSt → HistSt) (j : Nat) : (updHist f s).rdN j = s.rdN j := rfl
@[simp] theorem updHist_on (f : HistSt → HistSt) (j : Nat) : (updHist f s).on j = s.on j := rfl
@[simp] theorem updHist_mode (f : HistSt → HistSt) : (updHist f s).mode = s.mode := rfl
@[simp] theorem updHist_blobOf (f : HistSt → HistSt) (j : Nat) : (updHist f s).blobOf j = s.blobOf j := rfl
@[simp] theorem updHist_byte (f : HistSt → HistSt) (sp x : Nat) : (updHist f s).byte sp x = s.byte sp x := rfl

@[simp] theorem updNet_pending (f : Net → Net) : (updNet f s).pending = s.pending := rfl
@[simp] theorem updNet_now (f : Net → Net) : (updNet f s).now = s.now := rfl
@[simp] theorem updNet_tb (f : Net → Net) : (updNet f s).tb = s.tb := rfl
@[simp] theorem updNet_fresh (f : Net → Net) : (updNet f s).fresh = s.fresh := rfl
@[simp] theorem updNet_dict (f : Net → Net) : (updNet f s).dict = s.dict := rfl
@[simp] theorem updNet_blob (f : Net → Net) : (updNet f s).blob = s.blob := rfl
@[simp] theorem updNet_store (f : Net → Net) : (updNet f s).store = s.store := rfl
@[simp] theorem updNet_journal (f : Net → Net) : (updNet f s).journal = s.journal := rfl
@[simp] theorem updNet_pavVals (f : Net → Net) : (updNet f s).pavVals = s.pavVals := rfl
@[simp] theorem updNet_dictReady (f : Net → Net) : (updNet f s).dictReady = s.dictReady := rfl
@[simp] theorem updNet_answer (f : Net → Net) : (updNet f s).answer = s.answer := rfl
@[simp] theorem updNet_wire (f : Net → Net) : (updNet f s).wire = s.wire := rfl
@[simp] theorem updNet_mem (f : Net → Net) : (updNet f s).mem = s.mem := rfl
@[simp] theorem updNet_dirty (f : Net → Net) : (updNet f s).dirty = s.dirty := rfl
@[simp] theorem updNet_router (f : Net → Net) : (updNet f s).router = s.router := rfl
@[simp] theorem updNet_sessions (f : Net → Net) : (updNet f s).sessions = s.sessions := rfl
@[simp] theorem updNet_sdo (f : Net → Net) : (updNet f s).sdo = s.sdo := rfl
@[simp] theorem updNet_scan (f : Net → Net) : (updNet f s).scan = s.scan := rfl
@[simp] theorem updNet_lanes (f : Net → Net) : (updNet f s).lanes = s.lanes := rfl
@[simp] theorem updNet_banks (f : Net → Net) : (updNet f s).banks = s.banks := rfl
@[simp] theorem updNet_pavs (f : Net → Net) : (updNet f s).pavs = s.pavs := rfl
@[simp] theorem updNet_trestles (f : Net → Net) : (updNet f s).trestles = s.trestles := rfl
@[simp] theorem updNet_plane (f : Net → Net) : (updNet f s).plane = s.plane := rfl
@[simp] theorem updNet_rotation (f : Net → Net) : (updNet f s).rotation = s.rotation := rfl
@[simp] theorem updNet_fabric (f : Net → Net) : (updNet f s).fabric = s.fabric := rfl
@[simp] theorem updNet_opt (f : Net → Net) : (updNet f s).opt = s.opt := rfl
@[simp] theorem updNet_fld (f : Net → Net) : (updNet f s).fld = s.fld := rfl
@[simp] theorem updNet_isl (f : Net → Net) : (updNet f s).isl = s.isl := rfl
@[simp] theorem updNet_pair (f : Net → Net) : (updNet f s).pair = s.pair := rfl
@[simp] theorem updNet_gate (f : Net → Net) : (updNet f s).gate = s.gate := rfl
@[simp] theorem updNet_pow (f : Net → Net) : (updNet f s).pow = s.pow := rfl
@[simp] theorem updNet_sec (f : Net → Net) : (updNet f s).sec = s.sec := rfl
@[simp] theorem updNet_upd (f : Net → Net) : (updNet f s).upd = s.upd := rfl
@[simp] theorem updNet_sto (f : Net → Net) : (updNet f s).sto = s.sto := rfl
@[simp] theorem updNet_recd (f : Net → Net) : (updNet f s).recd = s.recd := rfl
@[simp] theorem updNet_hist (f : Net → Net) : (updNet f s).hist = s.hist := rfl
@[simp] theorem updNet_net (f : Net → Net) : (updNet f s).net = f s.net := rfl
@[simp] theorem updNet_can (f : Net → Net) : (updNet f s).can = s.can := rfl
@[simp] theorem updNet_rd (f : Net → Net) (j : Nat) : (updNet f s).rd j = s.rd j := rfl
@[simp] theorem updNet_rdN (f : Net → Net) (j : Nat) : (updNet f s).rdN j = s.rdN j := rfl
@[simp] theorem updNet_on (f : Net → Net) (j : Nat) : (updNet f s).on j = s.on j := rfl
@[simp] theorem updNet_mode (f : Net → Net) : (updNet f s).mode = s.mode := rfl
@[simp] theorem updNet_blobOf (f : Net → Net) (j : Nat) : (updNet f s).blobOf j = s.blobOf j := rfl
@[simp] theorem updNet_byte (f : Net → Net) (sp x : Nat) : (updNet f s).byte sp x = s.byte sp x := rfl

@[simp] theorem updBase_pending (n : Nat) (f : TBase → TBase) : (updBase n f s).pending = s.pending := rfl
@[simp] theorem updBase_now (n : Nat) (f : TBase → TBase) : (updBase n f s).now = s.now := rfl
@[simp] theorem updBase_fresh (n : Nat) (f : TBase → TBase) : (updBase n f s).fresh = s.fresh := rfl
@[simp] theorem updBase_dict (n : Nat) (f : TBase → TBase) : (updBase n f s).dict = s.dict := rfl
@[simp] theorem updBase_blob (n : Nat) (f : TBase → TBase) : (updBase n f s).blob = s.blob := rfl
@[simp] theorem updBase_store (n : Nat) (f : TBase → TBase) : (updBase n f s).store = s.store := rfl
@[simp] theorem updBase_journal (n : Nat) (f : TBase → TBase) : (updBase n f s).journal = s.journal := rfl
@[simp] theorem updBase_pavVals (n : Nat) (f : TBase → TBase) : (updBase n f s).pavVals = s.pavVals := rfl
@[simp] theorem updBase_dictReady (n : Nat) (f : TBase → TBase) : (updBase n f s).dictReady = s.dictReady := rfl
@[simp] theorem updBase_answer (n : Nat) (f : TBase → TBase) : (updBase n f s).answer = s.answer := rfl
@[simp] theorem updBase_wire (n : Nat) (f : TBase → TBase) : (updBase n f s).wire = s.wire := rfl
@[simp] theorem updBase_mem (n : Nat) (f : TBase → TBase) : (updBase n f s).mem = s.mem := rfl
@[simp] theorem updBase_dirty (n : Nat) (f : TBase → TBase) : (updBase n f s).dirty = s.dirty := rfl
@[simp] theorem updBase_router (n : Nat) (f : TBase → TBase) : (updBase n f s).router = s.router := rfl
@[simp] theorem updBase_sessions (n : Nat) (f : TBase → TBase) : (updBase n f s).sessions = s.sessions := rfl
@[simp] theorem updBase_sdo (n : Nat) (f : TBase → TBase) : (updBase n f s).sdo = s.sdo := rfl
@[simp] theorem updBase_scan (n : Nat) (f : TBase → TBase) : (updBase n f s).scan = s.scan := rfl
@[simp] theorem updBase_lanes (n : Nat) (f : TBase → TBase) : (updBase n f s).lanes = s.lanes := rfl
@[simp] theorem updBase_banks (n : Nat) (f : TBase → TBase) : (updBase n f s).banks = s.banks := rfl
@[simp] theorem updBase_pavs (n : Nat) (f : TBase → TBase) : (updBase n f s).pavs = s.pavs := rfl
@[simp] theorem updBase_trestles (n : Nat) (f : TBase → TBase) : (updBase n f s).trestles = s.trestles := rfl
@[simp] theorem updBase_plane (n : Nat) (f : TBase → TBase) : (updBase n f s).plane = s.plane := rfl
@[simp] theorem updBase_rotation (n : Nat) (f : TBase → TBase) : (updBase n f s).rotation = s.rotation := rfl
@[simp] theorem updBase_fabric (n : Nat) (f : TBase → TBase) : (updBase n f s).fabric = s.fabric := rfl
@[simp] theorem updBase_opt (n : Nat) (f : TBase → TBase) : (updBase n f s).opt = s.opt := rfl
@[simp] theorem updBase_fld (n : Nat) (f : TBase → TBase) : (updBase n f s).fld = s.fld := rfl
@[simp] theorem updBase_isl (n : Nat) (f : TBase → TBase) : (updBase n f s).isl = s.isl := rfl
@[simp] theorem updBase_pair (n : Nat) (f : TBase → TBase) : (updBase n f s).pair = s.pair := rfl
@[simp] theorem updBase_gate (n : Nat) (f : TBase → TBase) : (updBase n f s).gate = s.gate := rfl
@[simp] theorem updBase_pow (n : Nat) (f : TBase → TBase) : (updBase n f s).pow = s.pow := rfl
@[simp] theorem updBase_sec (n : Nat) (f : TBase → TBase) : (updBase n f s).sec = s.sec := rfl
@[simp] theorem updBase_upd (n : Nat) (f : TBase → TBase) : (updBase n f s).upd = s.upd := rfl
@[simp] theorem updBase_sto (n : Nat) (f : TBase → TBase) : (updBase n f s).sto = s.sto := rfl
@[simp] theorem updBase_recd (n : Nat) (f : TBase → TBase) : (updBase n f s).recd = s.recd := rfl
@[simp] theorem updBase_hist (n : Nat) (f : TBase → TBase) : (updBase n f s).hist = s.hist := rfl
@[simp] theorem updBase_net (n : Nat) (f : TBase → TBase) : (updBase n f s).net = s.net := rfl
@[simp] theorem updBase_can (n : Nat) (f : TBase → TBase) : (updBase n f s).can = s.can := rfl
@[simp] theorem updBase_rd (n : Nat) (f : TBase → TBase) (j : Nat) : (updBase n f s).rd j = s.rd j := rfl
@[simp] theorem updBase_rdN (n : Nat) (f : TBase → TBase) (j : Nat) : (updBase n f s).rdN j = s.rdN j := rfl
@[simp] theorem updBase_on (n : Nat) (f : TBase → TBase) (j : Nat) : (updBase n f s).on j = s.on j := rfl
@[simp] theorem updBase_mode (n : Nat) (f : TBase → TBase) : (updBase n f s).mode = s.mode := rfl
@[simp] theorem updBase_blobOf (n : Nat) (f : TBase → TBase) (j : Nat) : (updBase n f s).blobOf j = s.blobOf j := rfl
@[simp] theorem updBase_byte (n : Nat) (f : TBase → TBase) (sp x : Nat) : (updBase n f s).byte sp x = s.byte sp x := rfl

@[simp] theorem updIsl_pending (f : Island → Island) : (updIsl f s).pending = s.pending := rfl
@[simp] theorem updIsl_now (f : Island → Island) : (updIsl f s).now = s.now := rfl
@[simp] theorem updIsl_tb (f : Island → Island) : (updIsl f s).tb = s.tb := rfl
@[simp] theorem updIsl_fresh (f : Island → Island) : (updIsl f s).fresh = s.fresh := rfl
@[simp] theorem updIsl_dict (f : Island → Island) : (updIsl f s).dict = s.dict := rfl
@[simp] theorem updIsl_blob (f : Island → Island) : (updIsl f s).blob = s.blob := rfl
@[simp] theorem updIsl_store (f : Island → Island) : (updIsl f s).store = s.store := rfl
@[simp] theorem updIsl_journal (f : Island → Island) : (updIsl f s).journal = s.journal := rfl
@[simp] theorem updIsl_pavVals (f : Island → Island) : (updIsl f s).pavVals = s.pavVals := rfl
@[simp] theorem updIsl_dictReady (f : Island → Island) : (updIsl f s).dictReady = s.dictReady := rfl
@[simp] theorem updIsl_answer (f : Island → Island) : (updIsl f s).answer = s.answer := rfl
@[simp] theorem updIsl_wire (f : Island → Island) : (updIsl f s).wire = s.wire := rfl
@[simp] theorem updIsl_mem (f : Island → Island) : (updIsl f s).mem = s.mem := rfl
@[simp] theorem updIsl_dirty (f : Island → Island) : (updIsl f s).dirty = s.dirty := rfl
@[simp] theorem updIsl_router (f : Island → Island) : (updIsl f s).router = s.router := rfl
@[simp] theorem updIsl_sessions (f : Island → Island) : (updIsl f s).sessions = s.sessions := rfl
@[simp] theorem updIsl_sdo (f : Island → Island) : (updIsl f s).sdo = s.sdo := rfl
@[simp] theorem updIsl_scan (f : Island → Island) : (updIsl f s).scan = s.scan := rfl
@[simp] theorem updIsl_lanes (f : Island → Island) : (updIsl f s).lanes = s.lanes := rfl
@[simp] theorem updIsl_banks (f : Island → Island) : (updIsl f s).banks = s.banks := rfl
@[simp] theorem updIsl_pavs (f : Island → Island) : (updIsl f s).pavs = s.pavs := rfl
@[simp] theorem updIsl_trestles (f : Island → Island) : (updIsl f s).trestles = s.trestles := rfl
@[simp] theorem updIsl_plane (f : Island → Island) : (updIsl f s).plane = s.plane := rfl
@[simp] theorem updIsl_rotation (f : Island → Island) : (updIsl f s).rotation = s.rotation := rfl
@[simp] theorem updIsl_fabric (f : Island → Island) : (updIsl f s).fabric = s.fabric := rfl
@[simp] theorem updIsl_opt (f : Island → Island) : (updIsl f s).opt = s.opt := rfl
@[simp] theorem updIsl_fld (f : Island → Island) : (updIsl f s).fld = s.fld := rfl
@[simp] theorem updIsl_isl (f : Island → Island) : (updIsl f s).isl = f s.isl := rfl
@[simp] theorem updIsl_pair (f : Island → Island) : (updIsl f s).pair = s.pair := rfl
@[simp] theorem updIsl_gate (f : Island → Island) : (updIsl f s).gate = s.gate := rfl
@[simp] theorem updIsl_pow (f : Island → Island) : (updIsl f s).pow = s.pow := rfl
@[simp] theorem updIsl_sec (f : Island → Island) : (updIsl f s).sec = s.sec := rfl
@[simp] theorem updIsl_upd (f : Island → Island) : (updIsl f s).upd = s.upd := rfl
@[simp] theorem updIsl_sto (f : Island → Island) : (updIsl f s).sto = s.sto := rfl
@[simp] theorem updIsl_recd (f : Island → Island) : (updIsl f s).recd = s.recd := rfl
@[simp] theorem updIsl_hist (f : Island → Island) : (updIsl f s).hist = s.hist := rfl
@[simp] theorem updIsl_net (f : Island → Island) : (updIsl f s).net = s.net := rfl
@[simp] theorem updIsl_can (f : Island → Island) : (updIsl f s).can = s.can := rfl
@[simp] theorem updIsl_rd (f : Island → Island) (j : Nat) : (updIsl f s).rd j = s.rd j := rfl
@[simp] theorem updIsl_rdN (f : Island → Island) (j : Nat) : (updIsl f s).rdN j = s.rdN j := rfl
@[simp] theorem updIsl_on (f : Island → Island) (j : Nat) : (updIsl f s).on j = s.on j := rfl
@[simp] theorem updIsl_mode (f : Island → Island) : (updIsl f s).mode = s.mode := rfl
@[simp] theorem updIsl_blobOf (f : Island → Island) (j : Nat) : (updIsl f s).blobOf j = s.blobOf j := rfl
@[simp] theorem updIsl_byte (f : Island → Island) (sp x : Nat) : (updIsl f s).byte sp x = s.byte sp x := rfl

@[simp] theorem updCan_pending (c : Nat) (f : CanSt → CanSt) : (updCan c f s).pending = s.pending := rfl
@[simp] theorem updCan_now (c : Nat) (f : CanSt → CanSt) : (updCan c f s).now = s.now := rfl
@[simp] theorem updCan_tb (c : Nat) (f : CanSt → CanSt) : (updCan c f s).tb = s.tb := rfl
@[simp] theorem updCan_fresh (c : Nat) (f : CanSt → CanSt) : (updCan c f s).fresh = s.fresh := rfl
@[simp] theorem updCan_dict (c : Nat) (f : CanSt → CanSt) : (updCan c f s).dict = s.dict := rfl
@[simp] theorem updCan_blob (c : Nat) (f : CanSt → CanSt) : (updCan c f s).blob = s.blob := rfl
@[simp] theorem updCan_store (c : Nat) (f : CanSt → CanSt) : (updCan c f s).store = s.store := rfl
@[simp] theorem updCan_journal (c : Nat) (f : CanSt → CanSt) : (updCan c f s).journal = s.journal := rfl
@[simp] theorem updCan_pavVals (c : Nat) (f : CanSt → CanSt) : (updCan c f s).pavVals = s.pavVals := rfl
@[simp] theorem updCan_dictReady (c : Nat) (f : CanSt → CanSt) : (updCan c f s).dictReady = s.dictReady := rfl
@[simp] theorem updCan_answer (c : Nat) (f : CanSt → CanSt) : (updCan c f s).answer = s.answer := rfl
@[simp] theorem updCan_wire (c : Nat) (f : CanSt → CanSt) : (updCan c f s).wire = s.wire := rfl
@[simp] theorem updCan_mem (c : Nat) (f : CanSt → CanSt) : (updCan c f s).mem = s.mem := rfl
@[simp] theorem updCan_dirty (c : Nat) (f : CanSt → CanSt) : (updCan c f s).dirty = s.dirty := rfl
@[simp] theorem updCan_router (c : Nat) (f : CanSt → CanSt) : (updCan c f s).router = s.router := rfl
@[simp] theorem updCan_sessions (c : Nat) (f : CanSt → CanSt) : (updCan c f s).sessions = s.sessions := rfl
@[simp] theorem updCan_sdo (c : Nat) (f : CanSt → CanSt) : (updCan c f s).sdo = s.sdo := rfl
@[simp] theorem updCan_scan (c : Nat) (f : CanSt → CanSt) : (updCan c f s).scan = s.scan := rfl
@[simp] theorem updCan_lanes (c : Nat) (f : CanSt → CanSt) : (updCan c f s).lanes = s.lanes := rfl
@[simp] theorem updCan_banks (c : Nat) (f : CanSt → CanSt) : (updCan c f s).banks = s.banks := rfl
@[simp] theorem updCan_pavs (c : Nat) (f : CanSt → CanSt) : (updCan c f s).pavs = s.pavs := rfl
@[simp] theorem updCan_trestles (c : Nat) (f : CanSt → CanSt) : (updCan c f s).trestles = s.trestles := rfl
@[simp] theorem updCan_plane (c : Nat) (f : CanSt → CanSt) : (updCan c f s).plane = s.plane := rfl
@[simp] theorem updCan_rotation (c : Nat) (f : CanSt → CanSt) : (updCan c f s).rotation = s.rotation := rfl
@[simp] theorem updCan_fabric (c : Nat) (f : CanSt → CanSt) : (updCan c f s).fabric = s.fabric := rfl
@[simp] theorem updCan_opt (c : Nat) (f : CanSt → CanSt) : (updCan c f s).opt = s.opt := rfl
@[simp] theorem updCan_fld (c : Nat) (f : CanSt → CanSt) : (updCan c f s).fld = s.fld := rfl
@[simp] theorem updCan_isl (c : Nat) (f : CanSt → CanSt) : (updCan c f s).isl = s.isl := rfl
@[simp] theorem updCan_pair (c : Nat) (f : CanSt → CanSt) : (updCan c f s).pair = s.pair := rfl
@[simp] theorem updCan_gate (c : Nat) (f : CanSt → CanSt) : (updCan c f s).gate = s.gate := rfl
@[simp] theorem updCan_pow (c : Nat) (f : CanSt → CanSt) : (updCan c f s).pow = s.pow := rfl
@[simp] theorem updCan_sec (c : Nat) (f : CanSt → CanSt) : (updCan c f s).sec = s.sec := rfl
@[simp] theorem updCan_upd (c : Nat) (f : CanSt → CanSt) : (updCan c f s).upd = s.upd := rfl
@[simp] theorem updCan_sto (c : Nat) (f : CanSt → CanSt) : (updCan c f s).sto = s.sto := rfl
@[simp] theorem updCan_recd (c : Nat) (f : CanSt → CanSt) : (updCan c f s).recd = s.recd := rfl
@[simp] theorem updCan_hist (c : Nat) (f : CanSt → CanSt) : (updCan c f s).hist = s.hist := rfl
@[simp] theorem updCan_net (c : Nat) (f : CanSt → CanSt) : (updCan c f s).net = s.net := rfl
@[simp] theorem updCan_rd (c : Nat) (f : CanSt → CanSt) (j : Nat) : (updCan c f s).rd j = s.rd j := rfl
@[simp] theorem updCan_rdN (c : Nat) (f : CanSt → CanSt) (j : Nat) : (updCan c f s).rdN j = s.rdN j := rfl
@[simp] theorem updCan_on (c : Nat) (f : CanSt → CanSt) (j : Nat) : (updCan c f s).on j = s.on j := rfl
@[simp] theorem updCan_mode (c : Nat) (f : CanSt → CanSt) : (updCan c f s).mode = s.mode := rfl
@[simp] theorem updCan_blobOf (c : Nat) (f : CanSt → CanSt) (j : Nat) : (updCan c f s).blobOf j = s.blobOf j := rfl
@[simp] theorem updCan_byte (c : Nat) (f : CanSt → CanSt) (sp x : Nat) : (updCan c f s).byte sp x = s.byte sp x := rfl

@[simp] theorem updSdo_pending (c : Nat) (f : Sdo → Sdo) : (updSdo c f s).pending = s.pending := rfl
@[simp] theorem updSdo_now (c : Nat) (f : Sdo → Sdo) : (updSdo c f s).now = s.now := rfl
@[simp] theorem updSdo_tb (c : Nat) (f : Sdo → Sdo) : (updSdo c f s).tb = s.tb := rfl
@[simp] theorem updSdo_fresh (c : Nat) (f : Sdo → Sdo) : (updSdo c f s).fresh = s.fresh := rfl
@[simp] theorem updSdo_dict (c : Nat) (f : Sdo → Sdo) : (updSdo c f s).dict = s.dict := rfl
@[simp] theorem updSdo_blob (c : Nat) (f : Sdo → Sdo) : (updSdo c f s).blob = s.blob := rfl
@[simp] theorem updSdo_store (c : Nat) (f : Sdo → Sdo) : (updSdo c f s).store = s.store := rfl
@[simp] theorem updSdo_journal (c : Nat) (f : Sdo → Sdo) : (updSdo c f s).journal = s.journal := rfl
@[simp] theorem updSdo_pavVals (c : Nat) (f : Sdo → Sdo) : (updSdo c f s).pavVals = s.pavVals := rfl
@[simp] theorem updSdo_dictReady (c : Nat) (f : Sdo → Sdo) : (updSdo c f s).dictReady = s.dictReady := rfl
@[simp] theorem updSdo_answer (c : Nat) (f : Sdo → Sdo) : (updSdo c f s).answer = s.answer := rfl
@[simp] theorem updSdo_wire (c : Nat) (f : Sdo → Sdo) : (updSdo c f s).wire = s.wire := rfl
@[simp] theorem updSdo_mem (c : Nat) (f : Sdo → Sdo) : (updSdo c f s).mem = s.mem := rfl
@[simp] theorem updSdo_dirty (c : Nat) (f : Sdo → Sdo) : (updSdo c f s).dirty = s.dirty := rfl
@[simp] theorem updSdo_router (c : Nat) (f : Sdo → Sdo) : (updSdo c f s).router = s.router := rfl
@[simp] theorem updSdo_sessions (c : Nat) (f : Sdo → Sdo) : (updSdo c f s).sessions = s.sessions := rfl
@[simp] theorem updSdo_scan (c : Nat) (f : Sdo → Sdo) : (updSdo c f s).scan = s.scan := rfl
@[simp] theorem updSdo_lanes (c : Nat) (f : Sdo → Sdo) : (updSdo c f s).lanes = s.lanes := rfl
@[simp] theorem updSdo_banks (c : Nat) (f : Sdo → Sdo) : (updSdo c f s).banks = s.banks := rfl
@[simp] theorem updSdo_pavs (c : Nat) (f : Sdo → Sdo) : (updSdo c f s).pavs = s.pavs := rfl
@[simp] theorem updSdo_trestles (c : Nat) (f : Sdo → Sdo) : (updSdo c f s).trestles = s.trestles := rfl
@[simp] theorem updSdo_plane (c : Nat) (f : Sdo → Sdo) : (updSdo c f s).plane = s.plane := rfl
@[simp] theorem updSdo_rotation (c : Nat) (f : Sdo → Sdo) : (updSdo c f s).rotation = s.rotation := rfl
@[simp] theorem updSdo_fabric (c : Nat) (f : Sdo → Sdo) : (updSdo c f s).fabric = s.fabric := rfl
@[simp] theorem updSdo_opt (c : Nat) (f : Sdo → Sdo) : (updSdo c f s).opt = s.opt := rfl
@[simp] theorem updSdo_fld (c : Nat) (f : Sdo → Sdo) : (updSdo c f s).fld = s.fld := rfl
@[simp] theorem updSdo_isl (c : Nat) (f : Sdo → Sdo) : (updSdo c f s).isl = s.isl := rfl
@[simp] theorem updSdo_pair (c : Nat) (f : Sdo → Sdo) : (updSdo c f s).pair = s.pair := rfl
@[simp] theorem updSdo_gate (c : Nat) (f : Sdo → Sdo) : (updSdo c f s).gate = s.gate := rfl
@[simp] theorem updSdo_pow (c : Nat) (f : Sdo → Sdo) : (updSdo c f s).pow = s.pow := rfl
@[simp] theorem updSdo_sec (c : Nat) (f : Sdo → Sdo) : (updSdo c f s).sec = s.sec := rfl
@[simp] theorem updSdo_upd (c : Nat) (f : Sdo → Sdo) : (updSdo c f s).upd = s.upd := rfl
@[simp] theorem updSdo_sto (c : Nat) (f : Sdo → Sdo) : (updSdo c f s).sto = s.sto := rfl
@[simp] theorem updSdo_recd (c : Nat) (f : Sdo → Sdo) : (updSdo c f s).recd = s.recd := rfl
@[simp] theorem updSdo_hist (c : Nat) (f : Sdo → Sdo) : (updSdo c f s).hist = s.hist := rfl
@[simp] theorem updSdo_net (c : Nat) (f : Sdo → Sdo) : (updSdo c f s).net = s.net := rfl
@[simp] theorem updSdo_can (c : Nat) (f : Sdo → Sdo) : (updSdo c f s).can = s.can := rfl
@[simp] theorem updSdo_rd (c : Nat) (f : Sdo → Sdo) (j : Nat) : (updSdo c f s).rd j = s.rd j := rfl
@[simp] theorem updSdo_rdN (c : Nat) (f : Sdo → Sdo) (j : Nat) : (updSdo c f s).rdN j = s.rdN j := rfl
@[simp] theorem updSdo_on (c : Nat) (f : Sdo → Sdo) (j : Nat) : (updSdo c f s).on j = s.on j := rfl
@[simp] theorem updSdo_mode (c : Nat) (f : Sdo → Sdo) : (updSdo c f s).mode = s.mode := rfl
@[simp] theorem updSdo_blobOf (c : Nat) (f : Sdo → Sdo) (j : Nat) : (updSdo c f s).blobOf j = s.blobOf j := rfl
@[simp] theorem updSdo_byte (c : Nat) (f : Sdo → Sdo) (sp x : Nat) : (updSdo c f s).byte sp x = s.byte sp x := rfl

@[simp] theorem updDi_pending (n : Nat) (f : Di → Di) : (updDi n f s).pending = s.pending := rfl
@[simp] theorem updDi_now (n : Nat) (f : Di → Di) : (updDi n f s).now = s.now := rfl
@[simp] theorem updDi_tb (n : Nat) (f : Di → Di) : (updDi n f s).tb = s.tb := rfl
@[simp] theorem updDi_fresh (n : Nat) (f : Di → Di) : (updDi n f s).fresh = s.fresh := rfl
@[simp] theorem updDi_dict (n : Nat) (f : Di → Di) : (updDi n f s).dict = s.dict := rfl
@[simp] theorem updDi_blob (n : Nat) (f : Di → Di) : (updDi n f s).blob = s.blob := rfl
@[simp] theorem updDi_store (n : Nat) (f : Di → Di) : (updDi n f s).store = s.store := rfl
@[simp] theorem updDi_journal (n : Nat) (f : Di → Di) : (updDi n f s).journal = s.journal := rfl
@[simp] theorem updDi_pavVals (n : Nat) (f : Di → Di) : (updDi n f s).pavVals = s.pavVals := rfl
@[simp] theorem updDi_dictReady (n : Nat) (f : Di → Di) : (updDi n f s).dictReady = s.dictReady := rfl
@[simp] theorem updDi_answer (n : Nat) (f : Di → Di) : (updDi n f s).answer = s.answer := rfl
@[simp] theorem updDi_wire (n : Nat) (f : Di → Di) : (updDi n f s).wire = s.wire := rfl
@[simp] theorem updDi_mem (n : Nat) (f : Di → Di) : (updDi n f s).mem = s.mem := rfl
@[simp] theorem updDi_dirty (n : Nat) (f : Di → Di) : (updDi n f s).dirty = s.dirty := rfl
@[simp] theorem updDi_router (n : Nat) (f : Di → Di) : (updDi n f s).router = s.router := rfl
@[simp] theorem updDi_sessions (n : Nat) (f : Di → Di) : (updDi n f s).sessions = s.sessions := rfl
@[simp] theorem updDi_sdo (n : Nat) (f : Di → Di) : (updDi n f s).sdo = s.sdo := rfl
@[simp] theorem updDi_scan (n : Nat) (f : Di → Di) : (updDi n f s).scan = s.scan := rfl
@[simp] theorem updDi_lanes (n : Nat) (f : Di → Di) : (updDi n f s).lanes = s.lanes := rfl
@[simp] theorem updDi_banks (n : Nat) (f : Di → Di) : (updDi n f s).banks = s.banks := rfl
@[simp] theorem updDi_pavs (n : Nat) (f : Di → Di) : (updDi n f s).pavs = s.pavs := rfl
@[simp] theorem updDi_trestles (n : Nat) (f : Di → Di) : (updDi n f s).trestles = s.trestles := rfl
@[simp] theorem updDi_plane (n : Nat) (f : Di → Di) : (updDi n f s).plane = s.plane := rfl
@[simp] theorem updDi_rotation (n : Nat) (f : Di → Di) : (updDi n f s).rotation = s.rotation := rfl
@[simp] theorem updDi_fabric (n : Nat) (f : Di → Di) : (updDi n f s).fabric = s.fabric := rfl
@[simp] theorem updDi_opt (n : Nat) (f : Di → Di) : (updDi n f s).opt = s.opt := rfl
@[simp] theorem updDi_isl (n : Nat) (f : Di → Di) : (updDi n f s).isl = s.isl := rfl
@[simp] theorem updDi_pair (n : Nat) (f : Di → Di) : (updDi n f s).pair = s.pair := rfl
@[simp] theorem updDi_gate (n : Nat) (f : Di → Di) : (updDi n f s).gate = s.gate := rfl
@[simp] theorem updDi_pow (n : Nat) (f : Di → Di) : (updDi n f s).pow = s.pow := rfl
@[simp] theorem updDi_sec (n : Nat) (f : Di → Di) : (updDi n f s).sec = s.sec := rfl
@[simp] theorem updDi_upd (n : Nat) (f : Di → Di) : (updDi n f s).upd = s.upd := rfl
@[simp] theorem updDi_sto (n : Nat) (f : Di → Di) : (updDi n f s).sto = s.sto := rfl
@[simp] theorem updDi_recd (n : Nat) (f : Di → Di) : (updDi n f s).recd = s.recd := rfl
@[simp] theorem updDi_hist (n : Nat) (f : Di → Di) : (updDi n f s).hist = s.hist := rfl
@[simp] theorem updDi_net (n : Nat) (f : Di → Di) : (updDi n f s).net = s.net := rfl
@[simp] theorem updDi_can (n : Nat) (f : Di → Di) : (updDi n f s).can = s.can := rfl
@[simp] theorem updDi_rd (n : Nat) (f : Di → Di) (j : Nat) : (updDi n f s).rd j = s.rd j := rfl
@[simp] theorem updDi_rdN (n : Nat) (f : Di → Di) (j : Nat) : (updDi n f s).rdN j = s.rdN j := rfl
@[simp] theorem updDi_on (n : Nat) (f : Di → Di) (j : Nat) : (updDi n f s).on j = s.on j := rfl
@[simp] theorem updDi_mode (n : Nat) (f : Di → Di) : (updDi n f s).mode = s.mode := rfl
@[simp] theorem updDi_blobOf (n : Nat) (f : Di → Di) (j : Nat) : (updDi n f s).blobOf j = s.blobOf j := rfl
@[simp] theorem updDi_byte (n : Nat) (f : Di → Di) (sp x : Nat) : (updDi n f s).byte sp x = s.byte sp x := rfl

@[simp] theorem updDo_pending (n : Nat) (f : DoCh → DoCh) : (updDo n f s).pending = s.pending := rfl
@[simp] theorem updDo_now (n : Nat) (f : DoCh → DoCh) : (updDo n f s).now = s.now := rfl
@[simp] theorem updDo_tb (n : Nat) (f : DoCh → DoCh) : (updDo n f s).tb = s.tb := rfl
@[simp] theorem updDo_fresh (n : Nat) (f : DoCh → DoCh) : (updDo n f s).fresh = s.fresh := rfl
@[simp] theorem updDo_dict (n : Nat) (f : DoCh → DoCh) : (updDo n f s).dict = s.dict := rfl
@[simp] theorem updDo_blob (n : Nat) (f : DoCh → DoCh) : (updDo n f s).blob = s.blob := rfl
@[simp] theorem updDo_store (n : Nat) (f : DoCh → DoCh) : (updDo n f s).store = s.store := rfl
@[simp] theorem updDo_journal (n : Nat) (f : DoCh → DoCh) : (updDo n f s).journal = s.journal := rfl
@[simp] theorem updDo_pavVals (n : Nat) (f : DoCh → DoCh) : (updDo n f s).pavVals = s.pavVals := rfl
@[simp] theorem updDo_dictReady (n : Nat) (f : DoCh → DoCh) : (updDo n f s).dictReady = s.dictReady := rfl
@[simp] theorem updDo_answer (n : Nat) (f : DoCh → DoCh) : (updDo n f s).answer = s.answer := rfl
@[simp] theorem updDo_wire (n : Nat) (f : DoCh → DoCh) : (updDo n f s).wire = s.wire := rfl
@[simp] theorem updDo_mem (n : Nat) (f : DoCh → DoCh) : (updDo n f s).mem = s.mem := rfl
@[simp] theorem updDo_dirty (n : Nat) (f : DoCh → DoCh) : (updDo n f s).dirty = s.dirty := rfl
@[simp] theorem updDo_router (n : Nat) (f : DoCh → DoCh) : (updDo n f s).router = s.router := rfl
@[simp] theorem updDo_sessions (n : Nat) (f : DoCh → DoCh) : (updDo n f s).sessions = s.sessions := rfl
@[simp] theorem updDo_sdo (n : Nat) (f : DoCh → DoCh) : (updDo n f s).sdo = s.sdo := rfl
@[simp] theorem updDo_scan (n : Nat) (f : DoCh → DoCh) : (updDo n f s).scan = s.scan := rfl
@[simp] theorem updDo_lanes (n : Nat) (f : DoCh → DoCh) : (updDo n f s).lanes = s.lanes := rfl
@[simp] theorem updDo_banks (n : Nat) (f : DoCh → DoCh) : (updDo n f s).banks = s.banks := rfl
@[simp] theorem updDo_pavs (n : Nat) (f : DoCh → DoCh) : (updDo n f s).pavs = s.pavs := rfl
@[simp] theorem updDo_trestles (n : Nat) (f : DoCh → DoCh) : (updDo n f s).trestles = s.trestles := rfl
@[simp] theorem updDo_plane (n : Nat) (f : DoCh → DoCh) : (updDo n f s).plane = s.plane := rfl
@[simp] theorem updDo_rotation (n : Nat) (f : DoCh → DoCh) : (updDo n f s).rotation = s.rotation := rfl
@[simp] theorem updDo_fabric (n : Nat) (f : DoCh → DoCh) : (updDo n f s).fabric = s.fabric := rfl
@[simp] theorem updDo_opt (n : Nat) (f : DoCh → DoCh) : (updDo n f s).opt = s.opt := rfl
@[simp] theorem updDo_isl (n : Nat) (f : DoCh → DoCh) : (updDo n f s).isl = s.isl := rfl
@[simp] theorem updDo_pair (n : Nat) (f : DoCh → DoCh) : (updDo n f s).pair = s.pair := rfl
@[simp] theorem updDo_gate (n : Nat) (f : DoCh → DoCh) : (updDo n f s).gate = s.gate := rfl
@[simp] theorem updDo_pow (n : Nat) (f : DoCh → DoCh) : (updDo n f s).pow = s.pow := rfl
@[simp] theorem updDo_sec (n : Nat) (f : DoCh → DoCh) : (updDo n f s).sec = s.sec := rfl
@[simp] theorem updDo_upd (n : Nat) (f : DoCh → DoCh) : (updDo n f s).upd = s.upd := rfl
@[simp] theorem updDo_sto (n : Nat) (f : DoCh → DoCh) : (updDo n f s).sto = s.sto := rfl
@[simp] theorem updDo_recd (n : Nat) (f : DoCh → DoCh) : (updDo n f s).recd = s.recd := rfl
@[simp] theorem updDo_hist (n : Nat) (f : DoCh → DoCh) : (updDo n f s).hist = s.hist := rfl
@[simp] theorem updDo_net (n : Nat) (f : DoCh → DoCh) : (updDo n f s).net = s.net := rfl
@[simp] theorem updDo_can (n : Nat) (f : DoCh → DoCh) : (updDo n f s).can = s.can := rfl
@[simp] theorem updDo_rd (n : Nat) (f : DoCh → DoCh) (j : Nat) : (updDo n f s).rd j = s.rd j := rfl
@[simp] theorem updDo_rdN (n : Nat) (f : DoCh → DoCh) (j : Nat) : (updDo n f s).rdN j = s.rdN j := rfl
@[simp] theorem updDo_on (n : Nat) (f : DoCh → DoCh) (j : Nat) : (updDo n f s).on j = s.on j := rfl
@[simp] theorem updDo_mode (n : Nat) (f : DoCh → DoCh) : (updDo n f s).mode = s.mode := rfl
@[simp] theorem updDo_blobOf (n : Nat) (f : DoCh → DoCh) (j : Nat) : (updDo n f s).blobOf j = s.blobOf j := rfl
@[simp] theorem updDo_byte (n : Nat) (f : DoCh → DoCh) (sp x : Nat) : (updDo n f s).byte sp x = s.byte sp x := rfl

@[simp] theorem updAo_pending (n : Nat) (f : Ao → Ao) : (updAo n f s).pending = s.pending := rfl
@[simp] theorem updAo_now (n : Nat) (f : Ao → Ao) : (updAo n f s).now = s.now := rfl
@[simp] theorem updAo_tb (n : Nat) (f : Ao → Ao) : (updAo n f s).tb = s.tb := rfl
@[simp] theorem updAo_fresh (n : Nat) (f : Ao → Ao) : (updAo n f s).fresh = s.fresh := rfl
@[simp] theorem updAo_dict (n : Nat) (f : Ao → Ao) : (updAo n f s).dict = s.dict := rfl
@[simp] theorem updAo_blob (n : Nat) (f : Ao → Ao) : (updAo n f s).blob = s.blob := rfl
@[simp] theorem updAo_store (n : Nat) (f : Ao → Ao) : (updAo n f s).store = s.store := rfl
@[simp] theorem updAo_journal (n : Nat) (f : Ao → Ao) : (updAo n f s).journal = s.journal := rfl
@[simp] theorem updAo_pavVals (n : Nat) (f : Ao → Ao) : (updAo n f s).pavVals = s.pavVals := rfl
@[simp] theorem updAo_dictReady (n : Nat) (f : Ao → Ao) : (updAo n f s).dictReady = s.dictReady := rfl
@[simp] theorem updAo_answer (n : Nat) (f : Ao → Ao) : (updAo n f s).answer = s.answer := rfl
@[simp] theorem updAo_wire (n : Nat) (f : Ao → Ao) : (updAo n f s).wire = s.wire := rfl
@[simp] theorem updAo_mem (n : Nat) (f : Ao → Ao) : (updAo n f s).mem = s.mem := rfl
@[simp] theorem updAo_dirty (n : Nat) (f : Ao → Ao) : (updAo n f s).dirty = s.dirty := rfl
@[simp] theorem updAo_router (n : Nat) (f : Ao → Ao) : (updAo n f s).router = s.router := rfl
@[simp] theorem updAo_sessions (n : Nat) (f : Ao → Ao) : (updAo n f s).sessions = s.sessions := rfl
@[simp] theorem updAo_sdo (n : Nat) (f : Ao → Ao) : (updAo n f s).sdo = s.sdo := rfl
@[simp] theorem updAo_scan (n : Nat) (f : Ao → Ao) : (updAo n f s).scan = s.scan := rfl
@[simp] theorem updAo_lanes (n : Nat) (f : Ao → Ao) : (updAo n f s).lanes = s.lanes := rfl
@[simp] theorem updAo_banks (n : Nat) (f : Ao → Ao) : (updAo n f s).banks = s.banks := rfl
@[simp] theorem updAo_pavs (n : Nat) (f : Ao → Ao) : (updAo n f s).pavs = s.pavs := rfl
@[simp] theorem updAo_trestles (n : Nat) (f : Ao → Ao) : (updAo n f s).trestles = s.trestles := rfl
@[simp] theorem updAo_plane (n : Nat) (f : Ao → Ao) : (updAo n f s).plane = s.plane := rfl
@[simp] theorem updAo_rotation (n : Nat) (f : Ao → Ao) : (updAo n f s).rotation = s.rotation := rfl
@[simp] theorem updAo_fabric (n : Nat) (f : Ao → Ao) : (updAo n f s).fabric = s.fabric := rfl
@[simp] theorem updAo_opt (n : Nat) (f : Ao → Ao) : (updAo n f s).opt = s.opt := rfl
@[simp] theorem updAo_isl (n : Nat) (f : Ao → Ao) : (updAo n f s).isl = s.isl := rfl
@[simp] theorem updAo_pair (n : Nat) (f : Ao → Ao) : (updAo n f s).pair = s.pair := rfl
@[simp] theorem updAo_gate (n : Nat) (f : Ao → Ao) : (updAo n f s).gate = s.gate := rfl
@[simp] theorem updAo_pow (n : Nat) (f : Ao → Ao) : (updAo n f s).pow = s.pow := rfl
@[simp] theorem updAo_sec (n : Nat) (f : Ao → Ao) : (updAo n f s).sec = s.sec := rfl
@[simp] theorem updAo_upd (n : Nat) (f : Ao → Ao) : (updAo n f s).upd = s.upd := rfl
@[simp] theorem updAo_sto (n : Nat) (f : Ao → Ao) : (updAo n f s).sto = s.sto := rfl
@[simp] theorem updAo_recd (n : Nat) (f : Ao → Ao) : (updAo n f s).recd = s.recd := rfl
@[simp] theorem updAo_hist (n : Nat) (f : Ao → Ao) : (updAo n f s).hist = s.hist := rfl
@[simp] theorem updAo_net (n : Nat) (f : Ao → Ao) : (updAo n f s).net = s.net := rfl
@[simp] theorem updAo_can (n : Nat) (f : Ao → Ao) : (updAo n f s).can = s.can := rfl
@[simp] theorem updAo_rd (n : Nat) (f : Ao → Ao) (j : Nat) : (updAo n f s).rd j = s.rd j := rfl
@[simp] theorem updAo_rdN (n : Nat) (f : Ao → Ao) (j : Nat) : (updAo n f s).rdN j = s.rdN j := rfl
@[simp] theorem updAo_on (n : Nat) (f : Ao → Ao) (j : Nat) : (updAo n f s).on j = s.on j := rfl
@[simp] theorem updAo_mode (n : Nat) (f : Ao → Ao) : (updAo n f s).mode = s.mode := rfl
@[simp] theorem updAo_blobOf (n : Nat) (f : Ao → Ao) (j : Nat) : (updAo n f s).blobOf j = s.blobOf j := rfl
@[simp] theorem updAo_byte (n : Nat) (f : Ao → Ao) (sp x : Nat) : (updAo n f s).byte sp x = s.byte sp x := rfl

@[simp] theorem updAi_pending (n : Nat) (f : Ai → Ai) : (updAi n f s).pending = s.pending := rfl
@[simp] theorem updAi_now (n : Nat) (f : Ai → Ai) : (updAi n f s).now = s.now := rfl
@[simp] theorem updAi_tb (n : Nat) (f : Ai → Ai) : (updAi n f s).tb = s.tb := rfl
@[simp] theorem updAi_fresh (n : Nat) (f : Ai → Ai) : (updAi n f s).fresh = s.fresh := rfl
@[simp] theorem updAi_dict (n : Nat) (f : Ai → Ai) : (updAi n f s).dict = s.dict := rfl
@[simp] theorem updAi_blob (n : Nat) (f : Ai → Ai) : (updAi n f s).blob = s.blob := rfl
@[simp] theorem updAi_store (n : Nat) (f : Ai → Ai) : (updAi n f s).store = s.store := rfl
@[simp] theorem updAi_journal (n : Nat) (f : Ai → Ai) : (updAi n f s).journal = s.journal := rfl
@[simp] theorem updAi_pavVals (n : Nat) (f : Ai → Ai) : (updAi n f s).pavVals = s.pavVals := rfl
@[simp] theorem updAi_dictReady (n : Nat) (f : Ai → Ai) : (updAi n f s).dictReady = s.dictReady := rfl
@[simp] theorem updAi_answer (n : Nat) (f : Ai → Ai) : (updAi n f s).answer = s.answer := rfl
@[simp] theorem updAi_wire (n : Nat) (f : Ai → Ai) : (updAi n f s).wire = s.wire := rfl
@[simp] theorem updAi_mem (n : Nat) (f : Ai → Ai) : (updAi n f s).mem = s.mem := rfl
@[simp] theorem updAi_dirty (n : Nat) (f : Ai → Ai) : (updAi n f s).dirty = s.dirty := rfl
@[simp] theorem updAi_router (n : Nat) (f : Ai → Ai) : (updAi n f s).router = s.router := rfl
@[simp] theorem updAi_sessions (n : Nat) (f : Ai → Ai) : (updAi n f s).sessions = s.sessions := rfl
@[simp] theorem updAi_sdo (n : Nat) (f : Ai → Ai) : (updAi n f s).sdo = s.sdo := rfl
@[simp] theorem updAi_scan (n : Nat) (f : Ai → Ai) : (updAi n f s).scan = s.scan := rfl
@[simp] theorem updAi_lanes (n : Nat) (f : Ai → Ai) : (updAi n f s).lanes = s.lanes := rfl
@[simp] theorem updAi_banks (n : Nat) (f : Ai → Ai) : (updAi n f s).banks = s.banks := rfl
@[simp] theorem updAi_pavs (n : Nat) (f : Ai → Ai) : (updAi n f s).pavs = s.pavs := rfl
@[simp] theorem updAi_trestles (n : Nat) (f : Ai → Ai) : (updAi n f s).trestles = s.trestles := rfl
@[simp] theorem updAi_plane (n : Nat) (f : Ai → Ai) : (updAi n f s).plane = s.plane := rfl
@[simp] theorem updAi_rotation (n : Nat) (f : Ai → Ai) : (updAi n f s).rotation = s.rotation := rfl
@[simp] theorem updAi_fabric (n : Nat) (f : Ai → Ai) : (updAi n f s).fabric = s.fabric := rfl
@[simp] theorem updAi_opt (n : Nat) (f : Ai → Ai) : (updAi n f s).opt = s.opt := rfl
@[simp] theorem updAi_isl (n : Nat) (f : Ai → Ai) : (updAi n f s).isl = s.isl := rfl
@[simp] theorem updAi_pair (n : Nat) (f : Ai → Ai) : (updAi n f s).pair = s.pair := rfl
@[simp] theorem updAi_gate (n : Nat) (f : Ai → Ai) : (updAi n f s).gate = s.gate := rfl
@[simp] theorem updAi_pow (n : Nat) (f : Ai → Ai) : (updAi n f s).pow = s.pow := rfl
@[simp] theorem updAi_sec (n : Nat) (f : Ai → Ai) : (updAi n f s).sec = s.sec := rfl
@[simp] theorem updAi_upd (n : Nat) (f : Ai → Ai) : (updAi n f s).upd = s.upd := rfl
@[simp] theorem updAi_sto (n : Nat) (f : Ai → Ai) : (updAi n f s).sto = s.sto := rfl
@[simp] theorem updAi_recd (n : Nat) (f : Ai → Ai) : (updAi n f s).recd = s.recd := rfl
@[simp] theorem updAi_hist (n : Nat) (f : Ai → Ai) : (updAi n f s).hist = s.hist := rfl
@[simp] theorem updAi_net (n : Nat) (f : Ai → Ai) : (updAi n f s).net = s.net := rfl
@[simp] theorem updAi_can (n : Nat) (f : Ai → Ai) : (updAi n f s).can = s.can := rfl
@[simp] theorem updAi_rd (n : Nat) (f : Ai → Ai) (j : Nat) : (updAi n f s).rd j = s.rd j := rfl
@[simp] theorem updAi_rdN (n : Nat) (f : Ai → Ai) (j : Nat) : (updAi n f s).rdN j = s.rdN j := rfl
@[simp] theorem updAi_on (n : Nat) (f : Ai → Ai) (j : Nat) : (updAi n f s).on j = s.on j := rfl
@[simp] theorem updAi_mode (n : Nat) (f : Ai → Ai) : (updAi n f s).mode = s.mode := rfl
@[simp] theorem updAi_blobOf (n : Nat) (f : Ai → Ai) (j : Nat) : (updAi n f s).blobOf j = s.blobOf j := rfl
@[simp] theorem updAi_byte (n : Nat) (f : Ai → Ai) (sp x : Nat) : (updAi n f s).byte sp x = s.byte sp x := rfl

@[simp] theorem updAdc_pending (n : Nat) (f : Adc → Adc) : (updAdc n f s).pending = s.pending := rfl
@[simp] theorem updAdc_now (n : Nat) (f : Adc → Adc) : (updAdc n f s).now = s.now := rfl
@[simp] theorem updAdc_tb (n : Nat) (f : Adc → Adc) : (updAdc n f s).tb = s.tb := rfl
@[simp] theorem updAdc_fresh (n : Nat) (f : Adc → Adc) : (updAdc n f s).fresh = s.fresh := rfl
@[simp] theorem updAdc_dict (n : Nat) (f : Adc → Adc) : (updAdc n f s).dict = s.dict := rfl
@[simp] theorem updAdc_blob (n : Nat) (f : Adc → Adc) : (updAdc n f s).blob = s.blob := rfl
@[simp] theorem updAdc_store (n : Nat) (f : Adc → Adc) : (updAdc n f s).store = s.store := rfl
@[simp] theorem updAdc_journal (n : Nat) (f : Adc → Adc) : (updAdc n f s).journal = s.journal := rfl
@[simp] theorem updAdc_pavVals (n : Nat) (f : Adc → Adc) : (updAdc n f s).pavVals = s.pavVals := rfl
@[simp] theorem updAdc_dictReady (n : Nat) (f : Adc → Adc) : (updAdc n f s).dictReady = s.dictReady := rfl
@[simp] theorem updAdc_answer (n : Nat) (f : Adc → Adc) : (updAdc n f s).answer = s.answer := rfl
@[simp] theorem updAdc_wire (n : Nat) (f : Adc → Adc) : (updAdc n f s).wire = s.wire := rfl
@[simp] theorem updAdc_mem (n : Nat) (f : Adc → Adc) : (updAdc n f s).mem = s.mem := rfl
@[simp] theorem updAdc_dirty (n : Nat) (f : Adc → Adc) : (updAdc n f s).dirty = s.dirty := rfl
@[simp] theorem updAdc_router (n : Nat) (f : Adc → Adc) : (updAdc n f s).router = s.router := rfl
@[simp] theorem updAdc_sessions (n : Nat) (f : Adc → Adc) : (updAdc n f s).sessions = s.sessions := rfl
@[simp] theorem updAdc_sdo (n : Nat) (f : Adc → Adc) : (updAdc n f s).sdo = s.sdo := rfl
@[simp] theorem updAdc_scan (n : Nat) (f : Adc → Adc) : (updAdc n f s).scan = s.scan := rfl
@[simp] theorem updAdc_lanes (n : Nat) (f : Adc → Adc) : (updAdc n f s).lanes = s.lanes := rfl
@[simp] theorem updAdc_banks (n : Nat) (f : Adc → Adc) : (updAdc n f s).banks = s.banks := rfl
@[simp] theorem updAdc_pavs (n : Nat) (f : Adc → Adc) : (updAdc n f s).pavs = s.pavs := rfl
@[simp] theorem updAdc_trestles (n : Nat) (f : Adc → Adc) : (updAdc n f s).trestles = s.trestles := rfl
@[simp] theorem updAdc_plane (n : Nat) (f : Adc → Adc) : (updAdc n f s).plane = s.plane := rfl
@[simp] theorem updAdc_rotation (n : Nat) (f : Adc → Adc) : (updAdc n f s).rotation = s.rotation := rfl
@[simp] theorem updAdc_fabric (n : Nat) (f : Adc → Adc) : (updAdc n f s).fabric = s.fabric := rfl
@[simp] theorem updAdc_opt (n : Nat) (f : Adc → Adc) : (updAdc n f s).opt = s.opt := rfl
@[simp] theorem updAdc_isl (n : Nat) (f : Adc → Adc) : (updAdc n f s).isl = s.isl := rfl
@[simp] theorem updAdc_pair (n : Nat) (f : Adc → Adc) : (updAdc n f s).pair = s.pair := rfl
@[simp] theorem updAdc_gate (n : Nat) (f : Adc → Adc) : (updAdc n f s).gate = s.gate := rfl
@[simp] theorem updAdc_pow (n : Nat) (f : Adc → Adc) : (updAdc n f s).pow = s.pow := rfl
@[simp] theorem updAdc_sec (n : Nat) (f : Adc → Adc) : (updAdc n f s).sec = s.sec := rfl
@[simp] theorem updAdc_upd (n : Nat) (f : Adc → Adc) : (updAdc n f s).upd = s.upd := rfl
@[simp] theorem updAdc_sto (n : Nat) (f : Adc → Adc) : (updAdc n f s).sto = s.sto := rfl
@[simp] theorem updAdc_recd (n : Nat) (f : Adc → Adc) : (updAdc n f s).recd = s.recd := rfl
@[simp] theorem updAdc_hist (n : Nat) (f : Adc → Adc) : (updAdc n f s).hist = s.hist := rfl
@[simp] theorem updAdc_net (n : Nat) (f : Adc → Adc) : (updAdc n f s).net = s.net := rfl
@[simp] theorem updAdc_can (n : Nat) (f : Adc → Adc) : (updAdc n f s).can = s.can := rfl
@[simp] theorem updAdc_rd (n : Nat) (f : Adc → Adc) (j : Nat) : (updAdc n f s).rd j = s.rd j := rfl
@[simp] theorem updAdc_rdN (n : Nat) (f : Adc → Adc) (j : Nat) : (updAdc n f s).rdN j = s.rdN j := rfl
@[simp] theorem updAdc_on (n : Nat) (f : Adc → Adc) (j : Nat) : (updAdc n f s).on j = s.on j := rfl
@[simp] theorem updAdc_mode (n : Nat) (f : Adc → Adc) : (updAdc n f s).mode = s.mode := rfl
@[simp] theorem updAdc_blobOf (n : Nat) (f : Adc → Adc) (j : Nat) : (updAdc n f s).blobOf j = s.blobOf j := rfl
@[simp] theorem updAdc_byte (n : Nat) (f : Adc → Adc) (sp x : Nat) : (updAdc n f s).byte sp x = s.byte sp x := rfl

@[simp] theorem updHold_pending (n : Nat) (f : HoldBlk → HoldBlk) : (updHold n f s).pending = s.pending := rfl
@[simp] theorem updHold_now (n : Nat) (f : HoldBlk → HoldBlk) : (updHold n f s).now = s.now := rfl
@[simp] theorem updHold_tb (n : Nat) (f : HoldBlk → HoldBlk) : (updHold n f s).tb = s.tb := rfl
@[simp] theorem updHold_fresh (n : Nat) (f : HoldBlk → HoldBlk) : (updHold n f s).fresh = s.fresh := rfl
@[simp] theorem updHold_dict (n : Nat) (f : HoldBlk → HoldBlk) : (updHold n f s).dict = s.dict := rfl
@[simp] theorem updHold_blob (n : Nat) (f : HoldBlk → HoldBlk) : (updHold n f s).blob = s.blob := rfl
@[simp] theorem updHold_store (n : Nat) (f : HoldBlk → HoldBlk) : (updHold n f s).store = s.store := rfl
@[simp] theorem updHold_journal (n : Nat) (f : HoldBlk → HoldBlk) : (updHold n f s).journal = s.journal := rfl
@[simp] theorem updHold_pavVals (n : Nat) (f : HoldBlk → HoldBlk) : (updHold n f s).pavVals = s.pavVals := rfl
@[simp] theorem updHold_dictReady (n : Nat) (f : HoldBlk → HoldBlk) : (updHold n f s).dictReady = s.dictReady := rfl
@[simp] theorem updHold_answer (n : Nat) (f : HoldBlk → HoldBlk) : (updHold n f s).answer = s.answer := rfl
@[simp] theorem updHold_wire (n : Nat) (f : HoldBlk → HoldBlk) : (updHold n f s).wire = s.wire := rfl
@[simp] theorem updHold_mem (n : Nat) (f : HoldBlk → HoldBlk) : (updHold n f s).mem = s.mem := rfl
@[simp] theorem updHold_dirty (n : Nat) (f : HoldBlk → HoldBlk) : (updHold n f s).dirty = s.dirty := rfl
@[simp] theorem updHold_router (n : Nat) (f : HoldBlk → HoldBlk) : (updHold n f s).router = s.router := rfl
@[simp] theorem updHold_sessions (n : Nat) (f : HoldBlk → HoldBlk) : (updHold n f s).sessions = s.sessions := rfl
@[simp] theorem updHold_sdo (n : Nat) (f : HoldBlk → HoldBlk) : (updHold n f s).sdo = s.sdo := rfl
@[simp] theorem updHold_scan (n : Nat) (f : HoldBlk → HoldBlk) : (updHold n f s).scan = s.scan := rfl
@[simp] theorem updHold_lanes (n : Nat) (f : HoldBlk → HoldBlk) : (updHold n f s).lanes = s.lanes := rfl
@[simp] theorem updHold_banks (n : Nat) (f : HoldBlk → HoldBlk) : (updHold n f s).banks = s.banks := rfl
@[simp] theorem updHold_pavs (n : Nat) (f : HoldBlk → HoldBlk) : (updHold n f s).pavs = s.pavs := rfl
@[simp] theorem updHold_trestles (n : Nat) (f : HoldBlk → HoldBlk) : (updHold n f s).trestles = s.trestles := rfl
@[simp] theorem updHold_plane (n : Nat) (f : HoldBlk → HoldBlk) : (updHold n f s).plane = s.plane := rfl
@[simp] theorem updHold_rotation (n : Nat) (f : HoldBlk → HoldBlk) : (updHold n f s).rotation = s.rotation := rfl
@[simp] theorem updHold_fabric (n : Nat) (f : HoldBlk → HoldBlk) : (updHold n f s).fabric = s.fabric := rfl
@[simp] theorem updHold_opt (n : Nat) (f : HoldBlk → HoldBlk) : (updHold n f s).opt = s.opt := rfl
@[simp] theorem updHold_isl (n : Nat) (f : HoldBlk → HoldBlk) : (updHold n f s).isl = s.isl := rfl
@[simp] theorem updHold_pair (n : Nat) (f : HoldBlk → HoldBlk) : (updHold n f s).pair = s.pair := rfl
@[simp] theorem updHold_gate (n : Nat) (f : HoldBlk → HoldBlk) : (updHold n f s).gate = s.gate := rfl
@[simp] theorem updHold_pow (n : Nat) (f : HoldBlk → HoldBlk) : (updHold n f s).pow = s.pow := rfl
@[simp] theorem updHold_sec (n : Nat) (f : HoldBlk → HoldBlk) : (updHold n f s).sec = s.sec := rfl
@[simp] theorem updHold_upd (n : Nat) (f : HoldBlk → HoldBlk) : (updHold n f s).upd = s.upd := rfl
@[simp] theorem updHold_sto (n : Nat) (f : HoldBlk → HoldBlk) : (updHold n f s).sto = s.sto := rfl
@[simp] theorem updHold_recd (n : Nat) (f : HoldBlk → HoldBlk) : (updHold n f s).recd = s.recd := rfl
@[simp] theorem updHold_hist (n : Nat) (f : HoldBlk → HoldBlk) : (updHold n f s).hist = s.hist := rfl
@[simp] theorem updHold_net (n : Nat) (f : HoldBlk → HoldBlk) : (updHold n f s).net = s.net := rfl
@[simp] theorem updHold_can (n : Nat) (f : HoldBlk → HoldBlk) : (updHold n f s).can = s.can := rfl
@[simp] theorem updHold_rd (n : Nat) (f : HoldBlk → HoldBlk) (j : Nat) : (updHold n f s).rd j = s.rd j := rfl
@[simp] theorem updHold_rdN (n : Nat) (f : HoldBlk → HoldBlk) (j : Nat) : (updHold n f s).rdN j = s.rdN j := rfl
@[simp] theorem updHold_on (n : Nat) (f : HoldBlk → HoldBlk) (j : Nat) : (updHold n f s).on j = s.on j := rfl
@[simp] theorem updHold_mode (n : Nat) (f : HoldBlk → HoldBlk) : (updHold n f s).mode = s.mode := rfl
@[simp] theorem updHold_blobOf (n : Nat) (f : HoldBlk → HoldBlk) (j : Nat) : (updHold n f s).blobOf j = s.blobOf j := rfl
@[simp] theorem updHold_byte (n : Nat) (f : HoldBlk → HoldBlk) (sp x : Nat) : (updHold n f s).byte sp x = s.byte sp x := rfl

@[simp] theorem updIol_pending (n : Nat) (f : Iol → Iol) : (updIol n f s).pending = s.pending := rfl
@[simp] theorem updIol_now (n : Nat) (f : Iol → Iol) : (updIol n f s).now = s.now := rfl
@[simp] theorem updIol_tb (n : Nat) (f : Iol → Iol) : (updIol n f s).tb = s.tb := rfl
@[simp] theorem updIol_fresh (n : Nat) (f : Iol → Iol) : (updIol n f s).fresh = s.fresh := rfl
@[simp] theorem updIol_dict (n : Nat) (f : Iol → Iol) : (updIol n f s).dict = s.dict := rfl
@[simp] theorem updIol_blob (n : Nat) (f : Iol → Iol) : (updIol n f s).blob = s.blob := rfl
@[simp] theorem updIol_store (n : Nat) (f : Iol → Iol) : (updIol n f s).store = s.store := rfl
@[simp] theorem updIol_journal (n : Nat) (f : Iol → Iol) : (updIol n f s).journal = s.journal := rfl
@[simp] theorem updIol_pavVals (n : Nat) (f : Iol → Iol) : (updIol n f s).pavVals = s.pavVals := rfl
@[simp] theorem updIol_dictReady (n : Nat) (f : Iol → Iol) : (updIol n f s).dictReady = s.dictReady := rfl
@[simp] theorem updIol_answer (n : Nat) (f : Iol → Iol) : (updIol n f s).answer = s.answer := rfl
@[simp] theorem updIol_wire (n : Nat) (f : Iol → Iol) : (updIol n f s).wire = s.wire := rfl
@[simp] theorem updIol_mem (n : Nat) (f : Iol → Iol) : (updIol n f s).mem = s.mem := rfl
@[simp] theorem updIol_dirty (n : Nat) (f : Iol → Iol) : (updIol n f s).dirty = s.dirty := rfl
@[simp] theorem updIol_router (n : Nat) (f : Iol → Iol) : (updIol n f s).router = s.router := rfl
@[simp] theorem updIol_sessions (n : Nat) (f : Iol → Iol) : (updIol n f s).sessions = s.sessions := rfl
@[simp] theorem updIol_sdo (n : Nat) (f : Iol → Iol) : (updIol n f s).sdo = s.sdo := rfl
@[simp] theorem updIol_scan (n : Nat) (f : Iol → Iol) : (updIol n f s).scan = s.scan := rfl
@[simp] theorem updIol_lanes (n : Nat) (f : Iol → Iol) : (updIol n f s).lanes = s.lanes := rfl
@[simp] theorem updIol_banks (n : Nat) (f : Iol → Iol) : (updIol n f s).banks = s.banks := rfl
@[simp] theorem updIol_pavs (n : Nat) (f : Iol → Iol) : (updIol n f s).pavs = s.pavs := rfl
@[simp] theorem updIol_trestles (n : Nat) (f : Iol → Iol) : (updIol n f s).trestles = s.trestles := rfl
@[simp] theorem updIol_plane (n : Nat) (f : Iol → Iol) : (updIol n f s).plane = s.plane := rfl
@[simp] theorem updIol_rotation (n : Nat) (f : Iol → Iol) : (updIol n f s).rotation = s.rotation := rfl
@[simp] theorem updIol_fabric (n : Nat) (f : Iol → Iol) : (updIol n f s).fabric = s.fabric := rfl
@[simp] theorem updIol_opt (n : Nat) (f : Iol → Iol) : (updIol n f s).opt = s.opt := rfl
@[simp] theorem updIol_isl (n : Nat) (f : Iol → Iol) : (updIol n f s).isl = s.isl := rfl
@[simp] theorem updIol_pair (n : Nat) (f : Iol → Iol) : (updIol n f s).pair = s.pair := rfl
@[simp] theorem updIol_gate (n : Nat) (f : Iol → Iol) : (updIol n f s).gate = s.gate := rfl
@[simp] theorem updIol_pow (n : Nat) (f : Iol → Iol) : (updIol n f s).pow = s.pow := rfl
@[simp] theorem updIol_sec (n : Nat) (f : Iol → Iol) : (updIol n f s).sec = s.sec := rfl
@[simp] theorem updIol_upd (n : Nat) (f : Iol → Iol) : (updIol n f s).upd = s.upd := rfl
@[simp] theorem updIol_sto (n : Nat) (f : Iol → Iol) : (updIol n f s).sto = s.sto := rfl
@[simp] theorem updIol_recd (n : Nat) (f : Iol → Iol) : (updIol n f s).recd = s.recd := rfl
@[simp] theorem updIol_hist (n : Nat) (f : Iol → Iol) : (updIol n f s).hist = s.hist := rfl
@[simp] theorem updIol_net (n : Nat) (f : Iol → Iol) : (updIol n f s).net = s.net := rfl
@[simp] theorem updIol_can (n : Nat) (f : Iol → Iol) : (updIol n f s).can = s.can := rfl
@[simp] theorem updIol_rd (n : Nat) (f : Iol → Iol) (j : Nat) : (updIol n f s).rd j = s.rd j := rfl
@[simp] theorem updIol_rdN (n : Nat) (f : Iol → Iol) (j : Nat) : (updIol n f s).rdN j = s.rdN j := rfl
@[simp] theorem updIol_on (n : Nat) (f : Iol → Iol) (j : Nat) : (updIol n f s).on j = s.on j := rfl
@[simp] theorem updIol_mode (n : Nat) (f : Iol → Iol) : (updIol n f s).mode = s.mode := rfl
@[simp] theorem updIol_blobOf (n : Nat) (f : Iol → Iol) (j : Nat) : (updIol n f s).blobOf j = s.blobOf j := rfl
@[simp] theorem updIol_byte (n : Nat) (f : Iol → Iol) (sp x : Nat) : (updIol n f s).byte sp x = s.byte sp x := rfl

@[simp] theorem updHart_pending (n : Nat) (f : Hart → Hart) : (updHart n f s).pending = s.pending := rfl
@[simp] theorem updHart_now (n : Nat) (f : Hart → Hart) : (updHart n f s).now = s.now := rfl
@[simp] theorem updHart_tb (n : Nat) (f : Hart → Hart) : (updHart n f s).tb = s.tb := rfl
@[simp] theorem updHart_fresh (n : Nat) (f : Hart → Hart) : (updHart n f s).fresh = s.fresh := rfl
@[simp] theorem updHart_dict (n : Nat) (f : Hart → Hart) : (updHart n f s).dict = s.dict := rfl
@[simp] theorem updHart_blob (n : Nat) (f : Hart → Hart) : (updHart n f s).blob = s.blob := rfl
@[simp] theorem updHart_store (n : Nat) (f : Hart → Hart) : (updHart n f s).store = s.store := rfl
@[simp] theorem updHart_journal (n : Nat) (f : Hart → Hart) : (updHart n f s).journal = s.journal := rfl
@[simp] theorem updHart_pavVals (n : Nat) (f : Hart → Hart) : (updHart n f s).pavVals = s.pavVals := rfl
@[simp] theorem updHart_dictReady (n : Nat) (f : Hart → Hart) : (updHart n f s).dictReady = s.dictReady := rfl
@[simp] theorem updHart_answer (n : Nat) (f : Hart → Hart) : (updHart n f s).answer = s.answer := rfl
@[simp] theorem updHart_wire (n : Nat) (f : Hart → Hart) : (updHart n f s).wire = s.wire := rfl
@[simp] theorem updHart_mem (n : Nat) (f : Hart → Hart) : (updHart n f s).mem = s.mem := rfl
@[simp] theorem updHart_dirty (n : Nat) (f : Hart → Hart) : (updHart n f s).dirty = s.dirty := rfl
@[simp] theorem updHart_router (n : Nat) (f : Hart → Hart) : (updHart n f s).router = s.router := rfl
@[simp] theorem updHart_sessions (n : Nat) (f : Hart → Hart) : (updHart n f s).sessions = s.sessions := rfl
@[simp] theorem updHart_sdo (n : Nat) (f : Hart → Hart) : (updHart n f s).sdo = s.sdo := rfl
@[simp] theorem updHart_scan (n : Nat) (f : Hart → Hart) : (updHart n f s).scan = s.scan := rfl
@[simp] theorem updHart_lanes (n : Nat) (f : Hart → Hart) : (updHart n f s).lanes = s.lanes := rfl
@[simp] theorem updHart_banks (n : Nat) (f : Hart → Hart) : (updHart n f s).banks = s.banks := rfl
@[simp] theorem updHart_pavs (n : Nat) (f : Hart → Hart) : (updHart n f s).pavs = s.pavs := rfl
@[simp] theorem updHart_trestles (n : Nat) (f : Hart → Hart) : (updHart n f s).trestles = s.trestles := rfl
@[simp] theorem updHart_plane (n : Nat) (f : Hart → Hart) : (updHart n f s).plane = s.plane := rfl
@[simp] theorem updHart_rotation (n : Nat) (f : Hart → Hart) : (updHart n f s).rotation = s.rotation := rfl
@[simp] theorem updHart_fabric (n : Nat) (f : Hart → Hart) : (updHart n f s).fabric = s.fabric := rfl
@[simp] theorem updHart_opt (n : Nat) (f : Hart → Hart) : (updHart n f s).opt = s.opt := rfl
@[simp] theorem updHart_isl (n : Nat) (f : Hart → Hart) : (updHart n f s).isl = s.isl := rfl
@[simp] theorem updHart_pair (n : Nat) (f : Hart → Hart) : (updHart n f s).pair = s.pair := rfl
@[simp] theorem updHart_gate (n : Nat) (f : Hart → Hart) : (updHart n f s).gate = s.gate := rfl
@[simp] theorem updHart_pow (n : Nat) (f : Hart → Hart) : (updHart n f s).pow = s.pow := rfl
@[simp] theorem updHart_sec (n : Nat) (f : Hart → Hart) : (updHart n f s).sec = s.sec := rfl
@[simp] theorem updHart_upd (n : Nat) (f : Hart → Hart) : (updHart n f s).upd = s.upd := rfl
@[simp] theorem updHart_sto (n : Nat) (f : Hart → Hart) : (updHart n f s).sto = s.sto := rfl
@[simp] theorem updHart_recd (n : Nat) (f : Hart → Hart) : (updHart n f s).recd = s.recd := rfl
@[simp] theorem updHart_hist (n : Nat) (f : Hart → Hart) : (updHart n f s).hist = s.hist := rfl
@[simp] theorem updHart_net (n : Nat) (f : Hart → Hart) : (updHart n f s).net = s.net := rfl
@[simp] theorem updHart_can (n : Nat) (f : Hart → Hart) : (updHart n f s).can = s.can := rfl
@[simp] theorem updHart_rd (n : Nat) (f : Hart → Hart) (j : Nat) : (updHart n f s).rd j = s.rd j := rfl
@[simp] theorem updHart_rdN (n : Nat) (f : Hart → Hart) (j : Nat) : (updHart n f s).rdN j = s.rdN j := rfl
@[simp] theorem updHart_on (n : Nat) (f : Hart → Hart) (j : Nat) : (updHart n f s).on j = s.on j := rfl
@[simp] theorem updHart_mode (n : Nat) (f : Hart → Hart) : (updHart n f s).mode = s.mode := rfl
@[simp] theorem updHart_blobOf (n : Nat) (f : Hart → Hart) (j : Nat) : (updHart n f s).blobOf j = s.blobOf j := rfl
@[simp] theorem updHart_byte (n : Nat) (f : Hart → Hart) (sp x : Nat) : (updHart n f s).byte sp x = s.byte sp x := rfl

end

end Sys2Proof.Machine
end

