-- ==== Sys2Proof/Laws/Tab.lean ====
section
/-! SUPPORT. Laws of sparse tables: a read after a write, and the canonical form. -/

namespace Sys2Proof.Machine

@[simp] theorem Tab.get_nil {α : Type} (k : Nat) (d : α) : Tab.get ([] : Sparse α) k d = d := rfl

/-- A read after a write at the same key gives the value written, in any table. -/
@[simp] theorem Tab.get_put_same {α : Type} [DecidableEq α] (t : Sparse α) (k : Nat) (v d : α) :
    Tab.get (Tab.put t k v d) k d = v := by
  induction t with
  | nil => by_cases h : v = d <;> simp [Tab.put, Tab.get, h]
  | cons e r ih =>
    obtain ⟨k', v'⟩ := e
    simp only [Tab.put]
    split
    · split
      · have : k' ≠ k := by omega
        simp [Tab.get, this, ih]
      · simp [Tab.get]
    · split
      · split
        · exact ih
        · simp [Tab.get]
      · have : k' ≠ k := by omega
        simp [Tab.get, this, ih]

/-- A write leaves every other key alone. -/
theorem Tab.get_put_ne {α : Type} [DecidableEq α] (t : Sparse α) (k j : Nat) (v d e : α) (h : j ≠ k) :
    Tab.get (Tab.put t k v d) j e = Tab.get t j e := by
  have h' : k ≠ j := fun x => h x.symm
  induction t with
  | nil => by_cases hv : v = d <;> simp [Tab.put, Tab.get, hv, h']
  | cons x r ih =>
    obtain ⟨k', v'⟩ := x
    simp only [Tab.put]
    split
    · split
      · simp [Tab.get, ih]
      · simp [Tab.get, h']
    · split
      · rename_i hk
        subst hk
        split
        · simpa [Tab.get, h'] using ih
        · simp [Tab.get, h']
      · simp [Tab.get, ih]

/-- A read after a write. -/
theorem Tab.get_put {α : Type} [DecidableEq α] (t : Sparse α) (k j : Nat) (v d : α) :
    Tab.get (Tab.put t k v d) j d = if j = k then v else Tab.get t j d := by
  split
  · subst_vars; exact Tab.get_put_same ..
  · exact Tab.get_put_ne _ _ _ _ _ _ ‹_›

/-- The canonical form of a table with an entry in front. -/
theorem Tab.wf_cons {α : Type} [DecidableEq α] (d : Nat → α) (k : Nat) (v : α) (r : Sparse α) :
    Tab.wf d ((k, v) :: r) = true ↔ v ≠ d k ∧ (∀ e ∈ r, k < e.1) ∧ Tab.wf d r = true := by
  induction r generalizing k v with
  | nil => simp [Tab.wf]
  | cons x r ih =>
    obtain ⟨k', v'⟩ := x
    simp only [Tab.wf, Bool.and_eq_true, decide_eq_true_eq]
    constructor
    · rintro ⟨⟨h1, h2⟩, h3⟩
      refine ⟨h1, ?_, h3⟩
      intro e he
      rcases List.mem_cons.mp he with rfl | he
      · exact h2
      · exact lt_trans h2 (((ih k' v').mp h3).2.1 e he)
    · rintro ⟨h1, h2, h3⟩
      exact ⟨⟨h1, h2 (k', v') (List.mem_cons_self ..)⟩, h3⟩

/-- The keys of a table after a write are its own and the key written. -/
theorem Tab.mem_put {α : Type} [DecidableEq α] (t : Sparse α) (k : Nat) (v d : α) (e : Nat × α)
    (h : e ∈ Tab.put t k v d) : e = (k, v) ∨ e ∈ t := by
  induction t with
  | nil =>
    simp only [Tab.put] at h
    split at h <;> simp_all
  | cons x r ih =>
    obtain ⟨k', v'⟩ := x
    simp only [Tab.put] at h
    split at h
    · split at h
      · rcases List.mem_cons.mp h with h | h
        · exact .inr (List.mem_cons.mpr (.inl h))
        · rcases ih h with h | h
          · exact .inl h
          · exact .inr (List.mem_cons_of_mem _ h)
      · rcases List.mem_cons.mp h with h | h
        · exact .inl h
        · exact .inr h
    · split at h
      · split at h
        · rcases ih h with h | h
          · exact .inl h
          · exact .inr (List.mem_cons_of_mem _ h)
        · rcases List.mem_cons.mp h with h | h
          · exact .inl h
          · exact .inr (List.mem_cons_of_mem _ h)
      · rcases List.mem_cons.mp h with h | h
        · exact .inr (List.mem_cons.mpr (.inl h))
        · rcases ih h with h | h
          · exact .inl h
          · exact .inr (List.mem_cons_of_mem _ h)

/-- A write of a key below all others. -/
theorem Tab.put_default_of_lt {α : Type} [DecidableEq α] (t : Sparse α) (k : Nat) (d : α) (h : ∀ e ∈ t, k < e.1) :
    Tab.put t k d d = t := by
  induction t with
  | nil => simp [Tab.put]
  | cons x r ih =>
    obtain ⟨k', v'⟩ := x
    have h1 : k < k' := h (k', v') (List.mem_cons_self ..)
    have h2 := ih (fun e he => h e (List.mem_cons_of_mem _ he))
    simp [Tab.put, h1, h2]

/-- A write keeps the canonical form. -/
theorem Tab.put_wf {α : Type} [DecidableEq α] (d : Nat → α) (t : Sparse α) (k : Nat) (v : α)
    (h : Tab.wf d t = true) : Tab.wf d (Tab.put t k v (d k)) = true := by
  induction t with
  | nil =>
    by_cases hv : v = d k <;> simp [Tab.put, Tab.wf, hv]
  | cons x r ih =>
    obtain ⟨k', v'⟩ := x
    obtain ⟨h1, h2, h3⟩ := (Tab.wf_cons d k' v' r).mp h
    simp only [Tab.put]
    split
    · rename_i hlt
      have hall : ∀ e ∈ r, k < e.1 := fun e he => lt_trans hlt (h2 e he)
      split
      · rename_i hv
        subst hv
        rw [Tab.put_default_of_lt r k (d k) hall]
        exact h
      · rename_i hv
        refine (Tab.wf_cons ..).mpr ⟨hv, ?_, h⟩
        intro e he
        rcases List.mem_cons.mp he with rfl | he
        · exact hlt
        · exact hall e he
    · split
      · rename_i hk
        subst hk
        split
        · exact ih h3
        · rename_i hv
          exact (Tab.wf_cons ..).mpr ⟨hv, h2, h3⟩
      · refine (Tab.wf_cons ..).mpr ⟨h1, ?_, ih h3⟩
        intro e he
        rcases Tab.mem_put _ _ _ _ _ he with rfl | he
        · simp only; omega
        · exact h2 e he

/-- Taking entries out keeps the canonical form. -/
theorem Tab.filter_wf {α : Type} [DecidableEq α] (d : Nat → α) (t : Sparse α) (p : Nat × α → Bool)
    (h : Tab.wf d t = true) : Tab.wf d (t.filter p) = true := by
  induction t with
  | nil => simpa using h
  | cons x r ih =>
    obtain ⟨k', v'⟩ := x
    obtain ⟨h1, h2, h3⟩ := (Tab.wf_cons d k' v' r).mp h
    simp only [List.filter_cons]
    split
    · exact (Tab.wf_cons ..).mpr ⟨h1, fun e he => h2 e (List.mem_of_mem_filter he), ih h3⟩
    · exact ih h3

end Sys2Proof.Machine
end

