-- ==== Sys2Proof/Laws/Ops.lean ====
section
/-! SUPPORT. Laws of the shared operations: what reading the dictionary, memory, the event router and a table gives after
a write, and that every memory operation keeps memory's canonical form. -/

namespace Sys2Proof.Machine

variable {s : State}

/-! ### The dictionary -/

/-- A read of a scalar entry after a write of one. -/
theorem rd_wr (k j : Nat) (v : Int) (s : State) : (wr k v s).rd j = if j = k then v else s.rd j := by
  by_cases h : j = k
  · subst h; simp [State.rd, wr]
  · simp [State.rd, wr, h, Tab.get_put_ne _ _ _ _ _ _ h]

@[simp] theorem rd_wr_same (k : Nat) (v : Int) (s : State) : (wr k v s).rd k = v := by simp [rd_wr]
theorem rd_wr_ne (k j : Nat) (v : Int) (s : State) (h : j ≠ k) : (wr k v s).rd j = s.rd j := by simp [rd_wr, h]

@[simp] theorem rdN_wrN_same (k v : Nat) (s : State) : (wrN k v s).rdN k = v := by simp [State.rdN, wrN]
theorem rdN_wrN_ne (k j v : Nat) (s : State) (h : j ≠ k) : (wrN k v s).rdN j = s.rdN j := by simp [State.rdN, wrN, rd_wr_ne _ _ _ _ h]
theorem rd_wrN_ne (k j v : Nat) (s : State) (h : j ≠ k) : (wrN k v s).rd j = s.rd j := by simp [wrN, rd_wr_ne _ _ _ _ h]
theorem on_wrN_ne (k j v : Nat) (s : State) (h : j ≠ k) : (wrN k v s).on j = s.on j := by simp [State.on, rd_wrN_ne _ _ _ _ h]
theorem rdN_wr_ne (k j : Nat) (v : Int) (s : State) (h : j ≠ k) : (wr k v s).rdN j = s.rdN j := by simp [State.rdN, rd_wr_ne _ _ _ _ h]
@[simp] theorem rd_wrN_same (k v : Nat) (s : State) : (wrN k v s).rd k = (v : Int) := by simp [wrN]
@[simp] theorem on_wrB_same (k : Nat) (b : Bool) (s : State) : (wrB k b s).on k = b := by cases b <;> simp [State.on, wrB, wrN, b2n]
@[simp] theorem rdN_wrB_same (k : Nat) (b : Bool) (s : State) : (wrB k b s).rdN k = b2n b := by simp [wrB]
theorem rdN_wrB_ne (k j : Nat) (b : Bool) (s : State) (h : j ≠ k) : (wrB k b s).rdN j = s.rdN j := by simp [wrB, rdN_wrN_ne _ _ _ _ h]
theorem on_wrB_ne (k j : Nat) (b : Bool) (s : State) (h : j ≠ k) : (wrB k b s).on j = s.on j := by simp [wrB, on_wrN_ne _ _ _ _ h]
@[simp] theorem rdN_inc_same (k cap : Nat) (s : State) : (inc k cap s).rdN k = satInc cap (s.rdN k) := by simp [inc]
theorem rdN_inc_ne (k cap j : Nat) (s : State) (h : j ≠ k) : (inc k cap s).rdN j = s.rdN j := by simp [inc, rdN_wrN_ne _ _ _ _ h]
theorem on_inc_ne (k cap j : Nat) (s : State) (h : j ≠ k) : (inc k cap s).on j = s.on j := by simp [inc, on_wrN_ne _ _ _ _ h]

/-- A read of a long entry after a write of one. -/
theorem blobOf_wrBlob (k j : Nat) (b : Bytes) (s : State) : (wrBlob k b s).blobOf j = if j = k then b else s.blobOf j := by
  by_cases h : j = k
  · subst h; simp [State.blobOf, wrBlob]
  · simp [State.blobOf, wrBlob, h, Tab.get_put_ne _ _ _ _ _ _ h]
@[simp] theorem blobOf_wrBlob_same (k : Nat) (b : Bytes) (s : State) : (wrBlob k b s).blobOf k = b := by simp [blobOf_wrBlob]

/-! ### Guards -/

@[simp] theorem only_true (f : State → State) (s : State) : only true f s = f s := rfl
@[simp] theorem only_false (f : State → State) (s : State) : only false f s = s := rfl
@[simp] theorem each_nil {α : Type} (f : α → State → State) (s : State) : each [] f s = s := rfl
@[simp] theorem each_cons {α : Type} (a : α) (l : List α) (f : α → State → State) (s : State) : each (a :: l) f s = each l f (f a s) := rfl

/-- What every instance keeps, the list keeps. -/
theorem each_induct {α : Type} (P : State → Prop) (f : α → State → State) (l : List α) (s : State)
    (h : ∀ a ∈ l, ∀ s, P s → P (f a s)) (hs : P s) : P (each l f s) := by
  induction l generalizing s with
  | nil => exact hs
  | cons a l ih =>
    exact ih (f a s) (fun b hb => h b (List.mem_cons_of_mem _ hb)) (h a (List.mem_cons_self ..) s hs)

/-! ### Instance tables -/

@[simp] theorem pav_updPav_same (p : Nat) (f : Pav → Pav) (s : State) : (updPav p f s).pav p = f (s.pav p) := by
  simp [State.pav, updPav, Tab.upd]
theorem pav_updPav_ne (p q : Nat) (f : Pav → Pav) (s : State) (h : q ≠ p) : (updPav p f s).pav q = s.pav q := by
  simp [State.pav, updPav, Tab.upd, Tab.get_put_ne _ _ _ _ _ _ h]
@[simp] theorem bank_setBank_same (l c : Nat) (b : Bank) (s : State) : (setBank l c b s).bank l c = b := by
  simp [State.bank, setBank]
theorem bank_setBank_ne (l c l' c' : Nat) (b : Bank) (s : State) (h : 3 * l' + c' ≠ 3 * l + c) :
    (setBank l c b s).bank l' c' = s.bank l' c' := by
  simp [State.bank, setBank, Tab.get_put_ne _ _ _ _ _ _ h]

/-! ### Events and frames -/

/-- R31: an event raised is pending with its count one higher, and its new payload. -/
theorem pend_raiseWith (n : Nat) (p : Bytes) (v o : Option Nat) (s : State) :
    (Tab.get (raiseWith n p v o s).router.pend n {}).count = satInc U32.max (Tab.get s.router.pend n {}).count
      ∧ (Tab.get (raiseWith n p v o s).router.pend n {}).payload = p := by
  simp [raiseWith]

/-- The frame sent on a link. -/
@[simp] theorem wire_send_same (l : Nat) (b : Bytes) (s : State) : Tab.get (send l b s).wire l [] = b := by simp [send]

/-! ### Memory -/

@[simp] theorem markDirty_mem (sp a n : Nat) (s : State) : (markDirty sp a n s).mem = s.mem := by
  unfold markDirty; split <;> rfl

@[simp] theorem store_mem (sp a : Nat) (b : Bytes) (s : State) : (store sp a b s).mem = Mem.putAll s.mem sp a b := by simp [store]

theorem markDirty_rest (sp a n : Nat) (s : State) : markDirty sp a n s = { s with dirty := (markDirty sp a n s).dirty } := by
  unfold markDirty; split <;> rfl

/-- A store changes memory and the dirty pages alone. -/
theorem store_rest (sp a : Nat) (b : Bytes) (s : State) :
    store sp a b s = { s with mem := Mem.putAll s.mem sp a b, dirty := (store sp a b s).dirty } := by
  unfold store
  rw [markDirty_rest]

/-- Two bytes of one space have different cells. -/
theorem cell_ne (sp a b : Nat) (h : a ≠ b) : cell sp a ≠ cell sp b := by unfold cell; omega

/-- Storing bytes leaves every other cell alone. -/
theorem Mem.get_putAll_ne (b : Bytes) (m : List Host.Cell) (sp a k : Nat)
    (h : ∀ i < b.length, k ≠ cell sp (a + i)) : Tab.get (Mem.putAll m sp a b) k emptyByte = Tab.get m k emptyByte := by
  induction b generalizing m a with
  | nil => rfl
  | cons x r ih =>
    have h0 : k ≠ cell sp a := h 0 (by simp)
    rw [Mem.putAll, ih]
    · exact Tab.get_put_ne _ _ _ _ _ _ h0
    · intro i hi
      have := h (i + 1) (by simpa using hi)
      simpa [Nat.add_assoc, Nat.add_comm, Nat.add_left_comm] using this

/-- A byte stored reads as stored. -/
theorem Mem.get_putAll (b : Bytes) (m : List Host.Cell) (sp a i : Nat) (h : i < b.length) :
    Tab.get (Mem.putAll m sp a b) (cell sp (a + i)) emptyByte = b.getD i 0 := by
  induction b generalizing m a i with
  | nil => simp at h
  | cons x r ih =>
    rw [Mem.putAll]
    cases i with
    | zero =>
      rw [Mem.get_putAll_ne r _ sp (a + 1) (cell sp (a + 0))]
      · simp [Mem.put]
      · intro j _; unfold cell; omega
    | succ i =>
      have hi : i < r.length := by simpa using h
      have := ih (Mem.put m sp a x) (a + 1) i hi
      rw [show a + 1 + i = a + (i + 1) by omega] at this
      simpa using this

/-- A byte stored reads as stored. -/
theorem byte_store (sp a i : Nat) (b : Bytes) (s : State) (h : i < b.length) : (store sp a b s).byte sp (a + i) = b.getD i 0 := by
  simp [State.byte, Mem.get_putAll _ _ _ _ _ h]

/-- A store leaves every byte outside it alone. -/
theorem byte_store_ne (sp a sp' x : Nat) (b : Bytes) (s : State) (h : ∀ i < b.length, cell sp' x ≠ cell sp (a + i)) :
    (store sp a b s).byte sp' x = s.byte sp' x := by
  simp [State.byte, Mem.get_putAll_ne _ _ _ _ _ h]

/-! ### The canonical form of memory -/

theorem Mem.put_wf (m : List Host.Cell) (sp a : Nat) (v : Byte) (h : Memory.wf m = true) : Memory.wf (Mem.put m sp a v) = true :=
  Tab.put_wf (fun _ => emptyByte) m _ v h

theorem Mem.putAll_wf (b : Bytes) (m : List Host.Cell) (sp a : Nat) (h : Memory.wf m = true) : Memory.wf (Mem.putAll m sp a b) = true := by
  induction b generalizing m a with
  | nil => exact h
  | cons x r ih => exact ih _ _ (Mem.put_wf m sp a x h)

theorem Memory.filter_wf (m : List Host.Cell) (p : Host.Cell → Bool) (h : Memory.wf m = true) : Memory.wf (m.filter p) = true :=
  Tab.filter_wf _ m p h

/-- A table all of whose keys lie below those of another, in front of it. -/
theorem Tab.wf_append {α : Type} [DecidableEq α] (d : Nat → α) (a b : Sparse α) (ha : Tab.wf d a = true) (hb : Tab.wf d b = true)
    (h : ∀ x ∈ a, ∀ y ∈ b, x.1 < y.1) : Tab.wf d (a ++ b) = true := by
  induction a with
  | nil => exact hb
  | cons x r ih =>
    obtain ⟨k, v⟩ := x
    obtain ⟨h1, h2, h3⟩ := (Tab.wf_cons d k v r).mp ha
    refine (Tab.wf_cons ..).mpr ⟨h1, ?_, ih h3 (fun x hx => h x (List.mem_cons_of_mem _ hx))⟩
    intro e he
    rcases List.mem_append.mp he with he | he
    · exact h2 e he
    · exact h (k, v) (List.mem_cons_self ..) e he

/-- Memory moved by a distance. -/
theorem Memory.shift_wf (m : List Host.Cell) (src dst : Nat) (h : Memory.wf m = true) (hs : ∀ c ∈ m, src ≤ c.1) :
    Memory.wf (m.map (fun c => (c.1 - src + dst, c.2))) = true := by
  induction m with
  | nil => rfl
  | cons x r ih =>
    obtain ⟨k, v⟩ := x
    obtain ⟨h1, h2, h3⟩ := (Tab.wf_cons (fun _ => emptyByte) k v r).mp h
    refine (Tab.wf_cons (fun _ => emptyByte) ..).mpr ⟨h1, ?_, ih h3 (fun c hc => hs c (List.mem_cons_of_mem _ hc))⟩
    intro e he
    obtain ⟨c, hc, rfl⟩ := List.mem_map.mp he
    have := h2 c hc
    have := hs (k, v) (List.mem_cons_self ..)
    simp only at *
    omega

theorem Mem.copy_wf (m : List Host.Cell) (src dst n : Nat) (h : Memory.wf m = true) : Memory.wf (Mem.copy m src dst n) = true := by
  unfold Mem.copy
  have h1 := Memory.filter_wf m (fun c => c.1 < dst) h
  have h2 := Memory.shift_wf _ src dst (Memory.filter_wf m (fun c => src ≤ c.1 && c.1 < src + n) h)
    (fun c hc => by have := (List.mem_filter.mp hc).2; simp at this; omega)
  have h3 := Memory.filter_wf m (fun c => dst + n ≤ c.1) h
  refine Tab.wf_append _ _ _ (Tab.wf_append _ _ _ h1 h2 ?_) h3 ?_
  · intro x hx y hy
    have hx := (List.mem_filter.mp hx).2
    obtain ⟨c, hc, rfl⟩ := List.mem_map.mp hy
    simp at hx ⊢
    omega
  · intro x hx y hy
    have hy := (List.mem_filter.mp hy).2
    simp at hy
    rcases List.mem_append.mp hx with hx | hx
    · have := (List.mem_filter.mp hx).2
      simp at this
      omega
    · obtain ⟨c, hc, rfl⟩ := List.mem_map.mp hx
      have := (List.mem_filter.mp hc).2
      simp at this ⊢
      omega

/-- Every memory operation keeps the canonical form. -/
theorem store_wf (sp a : Nat) (b : Bytes) (s : State) (h : Memory.wf s.mem = true) : Memory.wf (store sp a b s).mem = true := by
  simpa using Mem.putAll_wf b s.mem sp a h
theorem storeBit_wf (sp a i : Nat) (v : Bool) (s : State) (h : Memory.wf s.mem = true) : Memory.wf (storeBit sp a i v s).mem = true :=
  store_wf _ _ _ _ h
theorem copyMem_wf (sp a sp' a' n : Nat) (s : State) (h : Memory.wf s.mem = true) : Memory.wf (copyMem sp a sp' a' n s).mem = true := by
  simpa [copyMem] using Mem.copy_wf _ _ _ _ h
theorem clearMem_wf (sp a n : Nat) (s : State) (h : Memory.wf s.mem = true) : Memory.wf (clearMem sp a n s).mem = true := by
  simpa [clearMem] using Memory.filter_wf _ _ h
theorem reset_mem_wf : Memory.wf State.reset.mem = true := rfl

end Sys2Proof.Machine
end

