-- ==== Sys2Proof/Laws/Arbour.lean ====
section
/-! SUPPORT. The frame of an Arbour instruction, said once: an instruction that is ready, and whose body goes through,
answers the body's state with the instruction retired; the meanings of the families in its terms. -/

namespace Sys2Proof

open Machine

variable {c : Ctx} {words n : Nat} {s u : State}

theorem need_true (b : Bool) (k sub a : Nat) (h : b = true) : Machine.need b k sub a = (pure () : Arb Unit) := by
  simp [Machine.need, h]

theorem setRegs_run (c : Ctx) (f : Bank → Bank) (s : State) :
    setRegs c f s = .ok () (setBank c.l c.x (f (s.bank c.l c.x)) s) := rfl

/-- R108, R139: an instruction that is ready and whose body goes through. -/
theorem executing_ok (h : Ready c words n s) (illegal : Bank → State → Nat) (body : Ctx → Arb Unit)
    (hi : illegal (s.bank c.l c.x) s = 0) (hb : body c (Begun c words s) = .ok () u) :
    executing c.l words n illegal body s = .next (stepped c (retire c n u)) := by
  have hn : Machine.need (decide ((s.task c.p c.x).retired + n ≤ s.rdN (K.pavIbudget c.p c.x))) Cause.budget 1 0 = (pure () : Arb Unit) :=
    need_true _ _ _ _ (by simpa using h.budget)
  have hi' : Machine.need (decide (illegal (s.bank c.l c.x) s = 0)) Cause.illegal (illegal (s.bank c.l c.x) s) 0 = (pure () : Arb Unit) :=
    need_true _ _ _ _ (by simpa using hi)
  have hr : instruction c words n illegal (body c) s = .ok () (retire c n u) := by
    simp only [instruction, bind, EStateM.bind, h.fetch, get, getThe, MonadStateOf.get, EStateM.get, hi', hn, pure, EStateM.pure,
      setRegs_run]
    rw [show setBank c.l c.x ((s.bank c.l c.x).next (4 * words)) s = Begun c words s from rfl, hb]
    rfl
  simp only [executing, h.ctx, hr, conclude]

/-- A task that no debugger steps runs on. -/
theorem stepped_of_free (h : (s.pav c.p).step = false) : stepped c s = s := by simp [stepped, h]

/-- R139: what retiring leaves. -/
theorem writes_retire (f : Bank → Bank) (u : State) : Writes c n f u (retire c n (setBank c.l c.x (f (u.bank c.l c.x)) u)) where
  bank := by simp [retire, updTask, State.bank, setBank]
  others := by
    intro l x h
    simp only [retire, updTask, State.bank, setBank]
    exact Tab.get_put_ne _ _ _ _ _ _ h
  task := by simp [retire, updTask, State.task, setBank, Tab.upd]
  tasks := by
    intro p x h
    simp only [retire, updTask, State.task, setBank, Tab.upd]
    exact Tab.get_put_ne _ _ _ _ _ _ h
  rest := rfl

/-- An instruction that ends by changing registers. -/
theorem executing_writes (h : Ready c words n s) (illegal : Bank → State → Nat) (body : Ctx → Arb Unit) (f : Bank → Bank)
    (hi : illegal (s.bank c.l c.x) s = 0) (hb : body c (Begun c words s) = .ok () (setBank c.l c.x (f (u.bank c.l c.x)) u))
    (hs : (u.pav c.p).step = false) :
    ∃ t, executing c.l words n illegal body s = .next t ∧ Writes c n f u t := by
  refine ⟨_, executing_ok h illegal body hi hb, ?_⟩
  rw [stepped_of_free (by simpa [retire, updTask, State.pav, setBank] using hs)]
  exact writes_retire f u

/-- An instruction that changes registers alone. -/
theorem onRegs_writes (h : Ready c 1 1 s) (f : Bank → Bank) :
    ∃ t, onRegs c.l f s = .next t ∧ Writes c 1 f (Begun c 1 s) t :=
  executing_writes h legal _ f rfl rfl (by simpa [Begun, State.pav, setBank] using h.free)

end Sys2Proof
end

