-- ==== Sys2Proof/Laws/Commands.lean ====
section
/-! SUPPORT. The two shapes of a command, said once: an effect under a condition, and a write to a command entry. -/

namespace Sys2Proof

open Machine

/-- A command whose meaning is an effect under a condition. -/
theorem guarded_only {i : Instr} {s : State} {g : Prop} {b : Bool} {f : State → State}
    (h : Machine.exec i s = .next (only b f s)) (hb : b = true ↔ g) : Guarded i s g f := by
  refine ⟨fun hg => ?_, fun hg => ?_⟩
  · rw [h, hb.mpr hg, only_true]
  · rw [h, Bool.eq_false_iff.mpr (fun hc => hg (hb.mp hc)), only_false]

/-- What `command` does with a write. -/
theorem command_absent {src : Path} {k : Nat} {v : Bytes} {f : State → Nat × State} {s : State} (h : s.caller src = none) :
    command src k v f s = s := by simp [command, h]

theorem command_refused {src : Path} {k : Nat} {v : Bytes} {f : State → Nat × State} {s : State} (h : (s.caller src).isSome)
    (hc : s.checkWrite src (k / 256) (k % 256) v ≠ Err.ok) :
    command src k v f s = reply (s.checkWrite src (k / 256) (k % 256) v) [] s := by
  obtain ⟨c, hs⟩ := Option.isSome_iff_exists.mp h
  simp only [command, hs]
  rw [if_pos hc]

theorem command_held {src : Path} {k : Nat} {v : Bytes} {f : State → Nat × State} {s : State} (h : (s.caller src).isSome)
    (hc : s.checkWrite src (k / 256) (k % 256) v = Err.ok) (hh : s.writeHeld k = true) :
    command src k v f s = { s with sto := { s.sto with heldWrites := s.sto.heldWrites ++ [(src, k, v)] } } := by
  obtain ⟨c, hs⟩ := Option.isSome_iff_exists.mp h
  simp only [command, hs]
  rw [if_neg (by simp [hc]), if_pos hh]

theorem command_done {src : Path} {k : Nat} {v : Bytes} {f : State → Nat × State} {s : State} (h : (s.caller src).isSome)
    (hc : s.checkWrite src (k / 256) (k % 256) v = Err.ok) (hh : s.writeHeld k = false) :
    command src k v f s = answerWrite k v (f s).1 (f s).2 := by
  obtain ⟨c, hs⟩ := Option.isSome_iff_exists.mp h
  simp only [command, hs]
  rw [if_neg (by simp [hc]), if_neg (by simp [hh])]

/-- A command whose meaning is a write to a command entry. -/
theorem commanded_command {i : Instr} {src : Path} {k : Nat} {v : Bytes} {s : State} {f g : State → Nat × State}
    (h : Machine.exec i s = .next (command src k v f s)) (hf : f s = g s) : Commanded i src k v s g where
  absent ha := by rw [h, command_absent ha]
  refused ha hc := by rw [h, command_refused ha hc]
  held ha hc hh := by rw [h, command_held ha hc hh]
  done ha hc hh := by rw [h, command_done ha hc hh, hf]

end Sys2Proof
end

