-- ==== Sys2Proof/Laws/PerInstr.lean ====
section
/-! SUPPORT. A fact about every command as syntax: the table gives no row any bits, so no word spells it. -/

namespace Sys2Proof.Laws.Rows

/-- No word of the table spells the command. -/
def Statement (i : Instr) : Prop := ∀ nbits w : Nat, decodeTableWord nbits w ≠ some i

theorem classBoundary (x : Nat) : Statement (.classBoundary x) := fun _ _ h => nomatch h
theorem inputFreeze (x : Nat) : Statement (.inputFreeze x) := fun _ _ h => nomatch h
theorem outputCommit (x : Nat) : Statement (.outputCommit x) := fun _ _ h => nomatch h
theorem frameBuild (st : Nat) : Statement (.frameBuild st) := fun _ _ h => nomatch h
theorem launchTimeReached (n : Nat) : Statement (.launchTimeReached n) := fun _ _ h => nomatch h
theorem launchLateDrop (n : Nat) : Statement (.launchLateDrop n) := fun _ _ h => nomatch h
theorem classAWindowStart (p : Nat) : Statement (.classAWindowStart p) := fun _ _ h => nomatch h
theorem classAWindowEnd (p : Nat) : Statement (.classAWindowEnd p) := fun _ _ h => nomatch h
theorem classBReady (l : Nat) : Statement (.classBReady l) := fun _ _ h => nomatch h
theorem classCDispatch (l : Nat) : Statement (.classCDispatch l) := fun _ _ h => nomatch h
theorem taskTimeBudgetExpiry (p : Nat) (x : Nat) : Statement (.taskTimeBudgetExpiry p x) := fun _ _ h => nomatch h
theorem taskDeadline (p : Nat) (x : Nat) : Statement (.taskDeadline p x) := fun _ _ h => nomatch h
theorem laneUngate (l : Nat) : Statement (.laneUngate l) := fun _ _ h => nomatch h
theorem fabricAccess (r : Nat) (arrivals : List FabArrival) (err : Nat) (syn : Nat) (ovf : Bool) : Statement (.fabricAccess r arrivals err syn ovf) := fun _ _ h => nomatch h
theorem ledgerRoundEnd : Statement (.ledgerRoundEnd) := fun _ _ h => nomatch h
theorem routerTakeEvent : Statement (.routerTakeEvent) := fun _ _ h => nomatch h
theorem eventRateWindow : Statement (.eventRateWindow) := fun _ _ h => nomatch h
theorem eventConfigWrite (src : Path) (n : Nat) (v : Nat) : Statement (.eventConfigWrite src n v) := fun _ _ h => nomatch h
theorem eventChannelPop (p : Nat) : Statement (.eventChannelPop p) := fun _ _ h => nomatch h
theorem eventOverflowClear (p : Nat) (v : Nat) : Statement (.eventOverflowClear p v) := fun _ _ h => nomatch h
theorem dictWrite (src : Path) (idx : Nat) (sub : Nat) (v : Bytes) : Statement (.dictWrite src idx sub v) := fun _ _ h => nomatch h
theorem dictstoreCommit (key : Nat) : Statement (.dictstoreCommit key) := fun _ _ h => nomatch h
theorem dictSectionRestore (src : Path) (v : Nat) : Statement (.dictSectionRestore src v) := fun _ _ h => nomatch h
theorem commErrorFieldClear (src : Path) (c : Nat) (v : Nat) : Statement (.commErrorFieldClear src c v) := fun _ _ h => nomatch h
theorem dapHandshake (peer : Bytes) (cert : Cert) : Statement (.dapHandshake peer cert) := fun _ _ h => nomatch h
theorem dapRead (n : Nat) (f : Bytes) : Statement (.dapRead n f) := fun _ _ h => nomatch h
theorem dapWrite (n : Nat) (f : Bytes) : Statement (.dapWrite n f) := fun _ _ h => nomatch h
theorem dapWriteAtomic (n : Nat) (f : Bytes) : Statement (.dapWriteAtomic n f) := fun _ _ h => nomatch h
theorem dapReadSeg (n : Nat) (f : Bytes) : Statement (.dapReadSeg n f) := fun _ _ h => nomatch h
theorem dapWriteSeg (n : Nat) (f : Bytes) : Statement (.dapWriteSeg n f) := fun _ _ h => nomatch h
theorem dapSubscribe (n : Nat) (f : Bytes) : Statement (.dapSubscribe n f) := fun _ _ h => nomatch h
theorem dapEventPush (n : Nat) : Statement (.dapEventPush n) := fun _ _ h => nomatch h
theorem dapKeepalive (n : Nat) (f : Bytes) : Statement (.dapKeepalive n f) := fun _ _ h => nomatch h
theorem dapDescribe (n : Nat) (f : Bytes) : Statement (.dapDescribe n f) := fun _ _ h => nomatch h
theorem dapClose (n : Nat) (f : Bytes) : Statement (.dapClose n f) := fun _ _ h => nomatch h
theorem dapIdleTimeout (n : Nat) : Statement (.dapIdleTimeout n) := fun _ _ h => nomatch h
theorem dapSegSequenceTimeout (n : Nat) : Statement (.dapSegSequenceTimeout n) := fun _ _ h => nomatch h
theorem dapTokenRefill (n : Nat) : Statement (.dapTokenRefill n) := fun _ _ h => nomatch h
theorem dapDisable (src : Path) (v : Nat) : Statement (.dapDisable src v) := fun _ _ h => nomatch h
theorem sdoUpload (c : Nat) (f : Bytes) : Statement (.sdoUpload c f) := fun _ _ h => nomatch h
theorem sdoDownload (c : Nat) (f : Bytes) : Statement (.sdoDownload c f) := fun _ _ h => nomatch h
theorem sdoSegment (c : Nat) (f : Bytes) : Statement (.sdoSegment c f) := fun _ _ h => nomatch h
theorem sdoBlockUpload (c : Nat) (f : Bytes) : Statement (.sdoBlockUpload c f) := fun _ _ h => nomatch h
theorem sdoBlockDownload (c : Nat) (f : Bytes) : Statement (.sdoBlockDownload c f) := fun _ _ h => nomatch h
theorem sdoIdleTimeout (c : Nat) : Statement (.sdoIdleTimeout c) := fun _ _ h => nomatch h
theorem scanRealign (src : Path) (v : Nat) : Statement (.scanRealign src v) := fun _ _ h => nomatch h
theorem chgRequest (src : Path) (v : Bytes) : Statement (.chgRequest src v) := fun _ _ h => nomatch h
theorem chgCancel (src : Path) (v : Nat) : Statement (.chgCancel src v) := fun _ _ h => nomatch h
theorem rioInputFrame (f : Bytes) : Statement (.rioInputFrame f) := fun _ _ h => nomatch h
theorem pavStopHoldExpiry (p : Nat) : Statement (.pavStopHoldExpiry p) := fun _ _ h => nomatch h
theorem remoteHoldExpiry (p : Nat) : Statement (.remoteHoldExpiry p) := fun _ _ h => nomatch h
theorem pavHoldLimitExpiry (p : Nat) : Statement (.pavHoldLimitExpiry p) := fun _ _ h => nomatch h
theorem debugHalt (p : Nat) : Statement (.debugHalt p) := fun _ _ h => nomatch h
theorem debugResume (p : Nat) : Statement (.debugResume p) := fun _ _ h => nomatch h
theorem debugSingleStep (p : Nat) : Statement (.debugSingleStep p) := fun _ _ h => nomatch h
theorem debugSessionLoss (p : Nat) : Statement (.debugSessionLoss p) := fun _ _ h => nomatch h
theorem arbNop (l : Nat) : Statement (.arbNop l) := fun _ _ h => nomatch h
theorem arbLd (l : Nat) (sp : Space) (off : BitVec 18) (b : BitVec 3) : Statement (.arbLd l sp off b) := fun _ _ h => nomatch h
theorem arbLdn (l : Nat) (sp : Space) (off : BitVec 18) (b : BitVec 3) : Statement (.arbLdn l sp off b) := fun _ _ h => nomatch h
theorem arbAnd (l : Nat) (sp : Space) (off : BitVec 18) (b : BitVec 3) : Statement (.arbAnd l sp off b) := fun _ _ h => nomatch h
theorem arbAndn (l : Nat) (sp : Space) (off : BitVec 18) (b : BitVec 3) : Statement (.arbAndn l sp off b) := fun _ _ h => nomatch h
theorem arbOr (l : Nat) (sp : Space) (off : BitVec 18) (b : BitVec 3) : Statement (.arbOr l sp off b) := fun _ _ h => nomatch h
theorem arbOrn (l : Nat) (sp : Space) (off : BitVec 18) (b : BitVec 3) : Statement (.arbOrn l sp off b) := fun _ _ h => nomatch h
theorem arbXor (l : Nat) (sp : Space) (off : BitVec 18) (b : BitVec 3) : Statement (.arbXor l sp off b) := fun _ _ h => nomatch h
theorem arbXorn (l : Nat) (sp : Space) (off : BitVec 18) (b : BitVec 3) : Statement (.arbXorn l sp off b) := fun _ _ h => nomatch h
theorem arbSt (l : Nat) (sp : Space) (off : BitVec 18) (b : BitVec 3) : Statement (.arbSt l sp off b) := fun _ _ h => nomatch h
theorem arbStn (l : Nat) (sp : Space) (off : BitVec 18) (b : BitVec 3) : Statement (.arbStn l sp off b) := fun _ _ h => nomatch h
theorem arbSet (l : Nat) (sp : Space) (off : BitVec 18) (b : BitVec 3) : Statement (.arbSet l sp off b) := fun _ _ h => nomatch h
theorem arbRst (l : Nat) (sp : Space) (off : BitVec 18) (b : BitVec 3) : Statement (.arbRst l sp off b) := fun _ _ h => nomatch h
theorem arbEdgp (l : Nat) (sp : Space) (off : BitVec 18) (b : BitVec 3) : Statement (.arbEdgp l sp off b) := fun _ _ h => nomatch h
theorem arbEdgn (l : Nat) (sp : Space) (off : BitVec 18) (b : BitVec 3) : Statement (.arbEdgn l sp off b) := fun _ _ h => nomatch h
theorem arbNot (l : Nat) : Statement (.arbNot l) := fun _ _ h => nomatch h
theorem arbSeta (l : Nat) : Statement (.arbSeta l) := fun _ _ h => nomatch h
theorem arbClra (l : Nat) : Statement (.arbClra l) := fun _ _ h => nomatch h
theorem arbPush (l : Nat) (tag : BitVec 2) : Statement (.arbPush l tag) := fun _ _ h => nomatch h
theorem arbPopa (l : Nat) : Statement (.arbPopa l) := fun _ _ h => nomatch h
theorem arbPopo (l : Nat) : Statement (.arbPopo l) := fun _ _ h => nomatch h
theorem arbTon (l : Nat) (sp : Space) (off : BitVec 18) : Statement (.arbTon l sp off) := fun _ _ h => nomatch h
theorem arbTof (l : Nat) (sp : Space) (off : BitVec 18) : Statement (.arbTof l sp off) := fun _ _ h => nomatch h
theorem arbTp (l : Nat) (sp : Space) (off : BitVec 18) : Statement (.arbTp l sp off) := fun _ _ h => nomatch h
theorem arbCtu (l : Nat) (sp : Space) (off : BitVec 18) : Statement (.arbCtu l sp off) := fun _ _ h => nomatch h
theorem arbCtd (l : Nat) (sp : Space) (off : BitVec 18) : Statement (.arbCtd l sp off) := fun _ _ h => nomatch h
theorem arbCtud (l : Nat) (sp : Space) (off : BitVec 18) : Statement (.arbCtud l sp off) := fun _ _ h => nomatch h
theorem arbLdw (l : Nat) (w : BitVec 2) (a : Bool) (u : Bool) (sp : Space) (off : BitVec 18) : Statement (.arbLdw l w a u sp off) := fun _ _ h => nomatch h
theorem arbStw (l : Nat) (w : BitVec 2) (a : Bool) (sp : Space) (off : BitVec 18) : Statement (.arbStw l w a sp off) := fun _ _ h => nomatch h
theorem arbPutg (l : Nat) (a : Bool) (ga : BitVec 4) : Statement (.arbPutg l a ga) := fun _ _ h => nomatch h
theorem arbAddg (l : Nat) (ga : BitVec 4) (gb : BitVec 4) (imm : BitVec 12) : Statement (.arbAddg l ga gb imm) := fun _ _ h => nomatch h
theorem arbMovga (l : Nat) (ga : BitVec 4) (hi : BitVec 8) (ext : BitVec 32) : Statement (.arbMovga l ga hi ext) := fun _ _ h => nomatch h
theorem arbXchw (l : Nat) : Statement (.arbXchw l) := fun _ _ h => nomatch h
theorem arbGets (l : Nat) (a : Bool) (sel : BitVec 2) : Statement (.arbGets l a sel) := fun _ _ h => nomatch h
theorem arbLdf (l : Nat) (fl : Nat) : Statement (.arbLdf l fl) := fun _ _ h => nomatch h
theorem arbClrf (l : Nat) : Statement (.arbClrf l) := fun _ _ h => nomatch h
theorem arbLdx (l : Nat) (w : BitVec 2) (a : Bool) (u : Bool) (ga : BitVec 4) (imm : BitVec 12) : Statement (.arbLdx l w a u ga imm) := fun _ _ h => nomatch h
theorem arbStx (l : Nat) (w : BitVec 2) (a : Bool) (ga : BitVec 4) (imm : BitVec 12) : Statement (.arbStx l w a ga imm) := fun _ _ h => nomatch h
theorem arbMovb (l : Nat) (ga : BitVec 4) (gb : BitVec 4) (imm : BitVec 12) : Statement (.arbMovb l ga gb imm) := fun _ _ h => nomatch h
theorem arbMux (l : Nat) (a : Bool) (nar : Bool) (u : Bool) (ga : BitVec 4) (imm : BitVec 12) : Statement (.arbMux l a nar u ga imm) := fun _ _ h => nomatch h
theorem arbAdd (l : Nat) (a : Bool) (nar : Bool) (u : Bool) (op : AluOp) : Statement (.arbAdd l a nar u op) := fun _ _ h => nomatch h
theorem arbSub (l : Nat) (a : Bool) (nar : Bool) (u : Bool) (op : AluOp) : Statement (.arbSub l a nar u op) := fun _ _ h => nomatch h
theorem arbMul (l : Nat) (a : Bool) (nar : Bool) (u : Bool) (op : AluOp) : Statement (.arbMul l a nar u op) := fun _ _ h => nomatch h
theorem arbDiv (l : Nat) (a : Bool) (nar : Bool) (u : Bool) (op : AluOp) : Statement (.arbDiv l a nar u op) := fun _ _ h => nomatch h
theorem arbMod (l : Nat) (a : Bool) (nar : Bool) (u : Bool) (op : AluOp) : Statement (.arbMod l a nar u op) := fun _ _ h => nomatch h
theorem arbAluAnd (l : Nat) (a : Bool) (nar : Bool) (u : Bool) (op : AluOp) : Statement (.arbAluAnd l a nar u op) := fun _ _ h => nomatch h
theorem arbAluOr (l : Nat) (a : Bool) (nar : Bool) (u : Bool) (op : AluOp) : Statement (.arbAluOr l a nar u op) := fun _ _ h => nomatch h
theorem arbAluXor (l : Nat) (a : Bool) (nar : Bool) (u : Bool) (op : AluOp) : Statement (.arbAluXor l a nar u op) := fun _ _ h => nomatch h
theorem arbMin (l : Nat) (a : Bool) (nar : Bool) (u : Bool) (op : AluOp) : Statement (.arbMin l a nar u op) := fun _ _ h => nomatch h
theorem arbMax (l : Nat) (a : Bool) (nar : Bool) (u : Bool) (op : AluOp) : Statement (.arbMax l a nar u op) := fun _ _ h => nomatch h
theorem arbLimit (l : Nat) (a : Bool) (nar : Bool) (u : Bool) (op : AluOp) : Statement (.arbLimit l a nar u op) := fun _ _ h => nomatch h
theorem arbSel (l : Nat) (a : Bool) (nar : Bool) (u : Bool) (op : AluOp) : Statement (.arbSel l a nar u op) := fun _ _ h => nomatch h
theorem arbCmpeq (l : Nat) (a : Bool) (nar : Bool) (u : Bool) (op : AluOp) : Statement (.arbCmpeq l a nar u op) := fun _ _ h => nomatch h
theorem arbCmpne (l : Nat) (a : Bool) (nar : Bool) (u : Bool) (op : AluOp) : Statement (.arbCmpne l a nar u op) := fun _ _ h => nomatch h
theorem arbCmplt (l : Nat) (a : Bool) (nar : Bool) (u : Bool) (op : AluOp) : Statement (.arbCmplt l a nar u op) := fun _ _ h => nomatch h
theorem arbCmple (l : Nat) (a : Bool) (nar : Bool) (u : Bool) (op : AluOp) : Statement (.arbCmple l a nar u op) := fun _ _ h => nomatch h
theorem arbCmpgt (l : Nat) (a : Bool) (nar : Bool) (u : Bool) (op : AluOp) : Statement (.arbCmpgt l a nar u op) := fun _ _ h => nomatch h
theorem arbCmpge (l : Nat) (a : Bool) (nar : Bool) (u : Bool) (op : AluOp) : Statement (.arbCmpge l a nar u op) := fun _ _ h => nomatch h
theorem arbShl (l : Nat) (a : Bool) (nar : Bool) (u : Bool) (op : AluOp) : Statement (.arbShl l a nar u op) := fun _ _ h => nomatch h
theorem arbShr (l : Nat) (a : Bool) (nar : Bool) (u : Bool) (op : AluOp) : Statement (.arbShr l a nar u op) := fun _ _ h => nomatch h
theorem arbSar (l : Nat) (a : Bool) (nar : Bool) (u : Bool) (op : AluOp) : Statement (.arbSar l a nar u op) := fun _ _ h => nomatch h
theorem arbRol (l : Nat) (a : Bool) (nar : Bool) (u : Bool) (op : AluOp) : Statement (.arbRol l a nar u op) := fun _ _ h => nomatch h
theorem arbRor (l : Nat) (a : Bool) (nar : Bool) (u : Bool) (op : AluOp) : Statement (.arbRor l a nar u op) := fun _ _ h => nomatch h
theorem arbMov (l : Nat) (a : Bool) (nar : Bool) (u : Bool) (op : AluOp) : Statement (.arbMov l a nar u op) := fun _ _ h => nomatch h
theorem arbFadd (l : Nat) (a : Bool) (nar : Bool) (op : FOp) : Statement (.arbFadd l a nar op) := fun _ _ h => nomatch h
theorem arbFsub (l : Nat) (a : Bool) (nar : Bool) (op : FOp) : Statement (.arbFsub l a nar op) := fun _ _ h => nomatch h
theorem arbFmul (l : Nat) (a : Bool) (nar : Bool) (op : FOp) : Statement (.arbFmul l a nar op) := fun _ _ h => nomatch h
theorem arbFdiv (l : Nat) (a : Bool) (nar : Bool) (op : FOp) : Statement (.arbFdiv l a nar op) := fun _ _ h => nomatch h
theorem arbFsqrt (l : Nat) (a : Bool) (nar : Bool) (op : FOp) : Statement (.arbFsqrt l a nar op) := fun _ _ h => nomatch h
theorem arbFma (l : Nat) (a : Bool) (nar : Bool) (gb : BitVec 4) : Statement (.arbFma l a nar gb) := fun _ _ h => nomatch h
theorem arbFcmpeq (l : Nat) (a : Bool) (nar : Bool) (op : FOp) : Statement (.arbFcmpeq l a nar op) := fun _ _ h => nomatch h
theorem arbFcmplt (l : Nat) (a : Bool) (nar : Bool) (op : FOp) : Statement (.arbFcmplt l a nar op) := fun _ _ h => nomatch h
theorem arbFcmple (l : Nat) (a : Bool) (nar : Bool) (op : FOp) : Statement (.arbFcmple l a nar op) := fun _ _ h => nomatch h
theorem arbFcvti (l : Nat) (a : Bool) (nar : Bool) (u : Bool) (rne : Bool) (op : FOp) : Statement (.arbFcvti l a nar u rne op) := fun _ _ h => nomatch h
theorem arbFcvtf (l : Nat) (a : Bool) (nar : Bool) (u : Bool) (op : FOp) : Statement (.arbFcvtf l a nar u op) := fun _ _ h => nomatch h
theorem arbFcvtp (l : Nat) (a : Bool) (nar : Bool) (op : FOp) : Statement (.arbFcvtp l a nar op) := fun _ _ h => nomatch h
theorem arbJmp (l : Nat) (t : BitVec 18) : Statement (.arbJmp l t) := fun _ _ h => nomatch h
theorem arbJc (l : Nat) (t : BitVec 18) : Statement (.arbJc l t) := fun _ _ h => nomatch h
theorem arbJnc (l : Nat) (t : BitVec 18) : Statement (.arbJnc l t) := fun _ _ h => nomatch h
theorem arbCall (l : Nat) (t : BitVec 18) : Statement (.arbCall l t) := fun _ _ h => nomatch h
theorem arbRet (l : Nat) : Statement (.arbRet l) := fun _ _ h => nomatch h
theorem arbLoop (l : Nat) (gr : BitVec 4) (t : BitVec 18) (bound : BitVec 32) : Statement (.arbLoop l gr t bound) := fun _ _ h => nomatch h
theorem arbEnd (l : Nat) : Statement (.arbEnd l) := fun _ _ h => nomatch h
theorem arbEvt (l : Nat) (code : BitVec 16) : Statement (.arbEvt l code) := fun _ _ h => nomatch h
theorem arbRdtb (l : Nat) (n : Nat) : Statement (.arbRdtb l n) := fun _ _ h => nomatch h
theorem arbFence (l : Nat) : Statement (.arbFence l) := fun _ _ h => nomatch h
theorem fenceDrainComplete (l : Nat) : Statement (.fenceDrainComplete l) := fun _ _ h => nomatch h
theorem sysRecorderWrite (l : Nat) : Statement (.sysRecorderWrite l) := fun _ _ h => nomatch h
theorem sysWdtService (l : Nat) : Statement (.sysWdtService l) := fun _ _ h => nomatch h
theorem sysDictTransfer (l : Nat) : Statement (.sysDictTransfer l) := fun _ _ h => nomatch h
theorem sysDmaSubmit (l : Nat) : Statement (.sysDmaSubmit l) := fun _ _ h => nomatch h
theorem sysDmaStatus (l : Nat) : Statement (.sysDmaStatus l) := fun _ _ h => nomatch h
theorem sysIsduRequest (l : Nat) : Statement (.sysIsduRequest l) := fun _ _ h => nomatch h
theorem sysHartCommand (l : Nat) : Statement (.sysHartCommand l) := fun _ _ h => nomatch h
theorem sysPavstoreRead (l : Nat) : Statement (.sysPavstoreRead l) := fun _ _ h => nomatch h
theorem sysPavstoreWrite (l : Nat) : Statement (.sysPavstoreWrite l) := fun _ _ h => nomatch h
theorem sysPavstoreTrim (l : Nat) : Statement (.sysPavstoreTrim l) := fun _ _ h => nomatch h
theorem sysPavstoreSync (l : Nat) : Statement (.sysPavstoreSync l) := fun _ _ h => nomatch h
theorem sysCanDoorbell (l : Nat) : Statement (.sysCanDoorbell l) := fun _ _ h => nomatch h
theorem sysCanCancel (l : Nat) : Statement (.sysCanCancel l) := fun _ _ h => nomatch h
theorem sysServiceComplete (l : Nat) : Statement (.sysServiceComplete l) := fun _ _ h => nomatch h
theorem voterRecordArrival (t : Nat) (k : Nat) (kind : Nat) (pav : Nat) (cls : Nat) (addr : Nat) (data : Bytes) (cyc : Nat) : Statement (.voterRecordArrival t k kind pav cls addr data cyc) := fun _ _ h => nomatch h
theorem voterLagExpiry (t : Nat) (k : Nat) (cyc : Nat) : Statement (.voterLagExpiry t k cyc) := fun _ _ h => nomatch h
theorem laneLocalFault (n : Nat) (part : Nat) (cyc : Nat) : Statement (.laneLocalFault n part cyc) := fun _ _ h => nomatch h
theorem resyncComplete (t : Nat) : Statement (.resyncComplete t) := fun _ _ h => nomatch h
theorem resyncStarved (t : Nat) : Statement (.resyncStarved t) := fun _ _ h => nomatch h
theorem takeoverWaitExpiry (t : Nat) : Statement (.takeoverWaitExpiry t) := fun _ _ h => nomatch h
theorem trestleRebuildComplete (t : Nat) : Statement (.trestleRebuildComplete t) := fun _ _ h => nomatch h
theorem rotationStart : Statement (.rotationStart) := fun _ _ h => nomatch h
theorem rotateNow (src : Path) (v : Nat) : Statement (.rotateNow src v) := fun _ _ h => nomatch h
theorem spareLaneLocked (n : Nat) : Statement (.spareLaneLocked n) := fun _ _ h => nomatch h
theorem laneBistComplete (n : Nat) (pass : Bool) (part : Nat) (addr : Nat) : Statement (.laneBistComplete n pass part addr) := fun _ _ h => nomatch h
theorem laneRetireWrite (src : Path) (n : Nat) (v : Nat) : Statement (.laneRetireWrite src n v) := fun _ _ h => nomatch h
theorem pavLoad (src : Path) (p : Nat) : Statement (.pavLoad src p) := fun _ _ h => nomatch h
theorem pavUnload (src : Path) (p : Nat) : Statement (.pavUnload src p) := fun _ _ h => nomatch h
theorem regionArm (src : Path) (p : Nat) : Statement (.regionArm src p) := fun _ _ h => nomatch h
theorem regionDisarm (src : Path) (p : Nat) : Statement (.regionDisarm src p) := fun _ _ h => nomatch h
theorem dmaTransferComplete (p : Nat) (ticket : Nat) (ok : Bool) (addr : Nat) : Statement (.dmaTransferComplete p ticket ok addr) := fun _ _ h => nomatch h
theorem pavWdtExpiry (p : Nat) : Statement (.pavWdtExpiry p) := fun _ _ h => nomatch h
theorem pavWdtKey (src : Path) (p : Nat) (v : Nat) : Statement (.pavWdtKey src p v) := fun _ _ h => nomatch h
theorem pavWdtEnable (src : Path) (p : Nat) (v : Nat) : Statement (.pavWdtEnable src p v) := fun _ _ h => nomatch h
theorem pavWdtLock (src : Path) (p : Nat) (v : Nat) : Statement (.pavWdtLock src p v) := fun _ _ h => nomatch h
theorem causewayLaneLost (n : Nat) : Statement (.causewayLaneLost n) := fun _ _ h => nomatch h
theorem causewayLaneTrained (n : Nat) : Statement (.causewayLaneTrained n) := fun _ _ h => nomatch h
theorem causewayDown : Statement (.causewayDown) := fun _ _ h => nomatch h
theorem heartbeatSend : Statement (.heartbeatSend) := fun _ _ h => nomatch h
theorem heartbeatReceive (valid : Bool) (f : Bytes) : Statement (.heartbeatReceive valid f) := fun _ _ h => nomatch h
theorem heartbeatLoss : Statement (.heartbeatLoss) := fun _ _ h => nomatch h
theorem causewayLoopback (lane : Nat) (ok : Bool) : Statement (.causewayLoopback lane ok) := fun _ _ h => nomatch h
theorem epochRecordReceive (f : Bytes) : Statement (.epochRecordReceive f) := fun _ _ h => nomatch h
theorem epochAckReceive (e : Nat) : Statement (.epochAckReceive e) := fun _ _ h => nomatch h
theorem epochNakReceive (e : Nat) : Statement (.epochNakReceive e) := fun _ _ h => nomatch h
theorem epochAckTimeout : Statement (.epochAckTimeout) := fun _ _ h => nomatch h
theorem nandCheckpointDue : Statement (.nandCheckpointDue) := fun _ _ h => nomatch h
theorem checkpointWriteComplete (ok : Bool) : Statement (.checkpointWriteComplete ok) := fun _ _ h => nomatch h
theorem refGrantReceive (path : Nat) (f : Bytes) (mac : Bool) : Statement (.refGrantReceive path f mac) := fun _ _ h => nomatch h
theorem refDenyReceive (path : Nat) (f : Bytes) (mac : Bool) : Statement (.refDenyReceive path f mac) := fun _ _ h => nomatch h
theorem refStatusSend : Statement (.refStatusSend) := fun _ _ h => nomatch h
theorem refRequestSend : Statement (.refRequestSend) := fun _ _ h => nomatch h
theorem refereeLost : Statement (.refereeLost) := fun _ _ h => nomatch h
theorem refLineStuck (held : Nat) : Statement (.refLineStuck held) := fun _ _ h => nomatch h
theorem roleLogicTick : Statement (.roleLogicTick) := fun _ _ h => nomatch h
theorem takeoverReqWrite (src : Path) (v : Nat) : Statement (.takeoverReqWrite src v) := fun _ _ h => nomatch h
theorem partnerTakeoverRequest (manual : Bool) : Statement (.partnerTakeoverRequest manual) := fun _ _ h => nomatch h
theorem takeoverLanesUp (ok : Bool) (fault : Nat) : Statement (.takeoverLanesUp ok fault) := fun _ _ h => nomatch h
theorem takeoverRestoreComplete (ok : Bool) (fault : Nat) : Statement (.takeoverRestoreComplete ok fault) := fun _ _ h => nomatch h
theorem safetyWordSend : Statement (.safetyWordSend) := fun _ _ h => nomatch h
theorem standbyTrestleBist (t : Nat) (bad : Nat) (part : Nat) (addr : Nat) : Statement (.standbyTrestleBist t bad part addr) := fun _ _ h => nomatch h
theorem storeScrub (errs : Nat) : Statement (.storeScrub errs) := fun _ _ h => nomatch h
theorem healthWordSend : Statement (.healthWordSend) := fun _ _ h => nomatch h
theorem handoverRequest (src : Path) (v : Nat) : Statement (.handoverRequest src v) := fun _ _ h => nomatch h
theorem handoverPrepareReceive : Statement (.handoverPrepareReceive) := fun _ _ h => nomatch h
theorem handoverSwapBoundary : Statement (.handoverSwapBoundary) := fun _ _ h => nomatch h
theorem handoverGrantTimeout : Statement (.handoverGrantTimeout) := fun _ _ h => nomatch h
theorem pairRejoin (src : Path) (v : Nat) : Statement (.pairRejoin src v) := fun _ _ h => nomatch h
theorem joinDictReceived (f : Bytes) (schemas : Bytes) : Statement (.joinDictReceived f schemas) := fun _ _ h => nomatch h
theorem spHeartbeat (valid : Bool) : Statement (.spHeartbeat valid) := fun _ _ h => nomatch h
theorem parapetWatchdogExpiry : Statement (.parapetWatchdogExpiry) := fun _ _ h => nomatch h
theorem islandSupplyCheck (railsOk : Bool) (vsens : Nat) (lowFor : Nat) : Statement (.islandSupplyCheck railsOk vsens lowFor) := fun _ _ h => nomatch h
theorem testPulse (x : Nat) (follows : Bool) (cross : List Nat) : Statement (.testPulse x follows cross) := fun _ _ h => nomatch h
theorem safeInputFilterExpiry (n : Nat) (a : Nat) (b : Nat) (held : Nat) : Statement (.safeInputFilterExpiry n a b held) := fun _ _ h => nomatch h
theorem safeInputDiscrepancyExpiry (n : Nat) : Statement (.safeInputDiscrepancyExpiry n) := fun _ _ h => nomatch h
theorem safeInputChannelDisagree (n : Nat) (held : Nat) : Statement (.safeInputChannelDisagree n held) := fun _ _ h => nomatch h
theorem encoderGate (e : Nat) (edges : Int) (speedSp : Int) (loss : Bool) (invalid : Bool) : Statement (.encoderGate e edges speedSp loss invalid) := fun _ _ h => nomatch h
theorem encoderFaultClear (e : Nat) (b : Nat) : Statement (.encoderFaultClear e b) := fun _ _ h => nomatch h
theorem groupEvaluation (ch : Nat) : Statement (.groupEvaluation ch) := fun _ _ h => nomatch h
theorem stoReset (g : Nat) (point : Bool) : Statement (.stoReset g point) := fun _ _ h => nomatch h
theorem enableSequenceStep (g : Nat) (rb : List Nat) : Statement (.enableSequenceStep g rb) := fun _ _ h => nomatch h
theorem crossLinkRemoval (ch : Nat) (g : Nat) : Statement (.crossLinkRemoval ch g) := fun _ _ h => nomatch h
theorem channelDiscrepancy (g : Nat) : Statement (.channelDiscrepancy g) := fun _ _ h => nomatch h
theorem offPulseSlotStart (swP : Bool) : Statement (.offPulseSlotStart swP) := fun _ _ h => nomatch h
theorem offPulseClose (o : Nat) : Statement (.offPulseClose o) := fun _ _ h => nomatch h
theorem offPulseVerdict (o : Nat) (fell : Bool) (rose : Bool) (fall : Nat) (mv : Nat) : Statement (.offPulseVerdict o fell rose fall mv) := fun _ _ h => nomatch h
theorem externalVoltage (o : Nat) (mv : Nat) (held : Nat) : Statement (.externalVoltage o mv held) := fun _ _ h => nomatch h
theorem safeOutputOverload (o : Nat) (held : Nat) : Statement (.safeOutputOverload o held) := fun _ _ h => nomatch h
theorem configCrcCheck (ch : Nat) (upset : Bool) : Statement (.configCrcCheck ch upset) := fun _ _ h => nomatch h
theorem statusBlockPublish : Statement (.statusBlockPublish) := fun _ _ h => nomatch h
theorem safetyStagedWrite (src : Path) (idx : Nat) (sub : Nat) (v : Bytes) : Statement (.safetyStagedWrite src idx sub v) := fun _ _ h => nomatch h
theorem safetyDiscard (src : Path) (v : Nat) : Statement (.safetyDiscard src v) := fun _ _ h => nomatch h
theorem safetyConfirm (src : Path) (v : Nat) : Statement (.safetyConfirm src v) := fun _ _ h => nomatch h
theorem safetyActivate (src : Path) (v : Nat) : Statement (.safetyActivate src v) := fun _ _ h => nomatch h
theorem safetyFaultAck (src : Path) (v : Nat) : Statement (.safetyFaultAck src v) := fun _ _ h => nomatch h
theorem sgroupAck (src : Path) (g : Nat) (v : Nat) : Statement (.sgroupAck src g v) := fun _ _ h => nomatch h
theorem soutAck (src : Path) (o : Nat) (v : Nat) : Statement (.soutAck src o v) := fun _ _ h => nomatch h
theorem islandStartupComplete (pass : Bool) (test : Nat) (dur : Nat) : Statement (.islandStartupComplete pass test dur) := fun _ _ h => nomatch h
theorem debounceComplete (n : Nat) (level : Bool) (held : Nat) : Statement (.debounceComplete n level held) := fun _ _ h => nomatch h
theorem diEdgesWrite (src : Path) (n : Nat) (v : Nat) : Statement (.diEdgesWrite src n v) := fun _ _ h => nomatch h
theorem diWakeSample (n : Nat) (level : Bool) : Statement (.diWakeSample n level) := fun _ _ h => nomatch h
theorem doOcTrip (o : Nat) (held : Nat) : Statement (.doOcTrip o held) := fun _ _ h => nomatch h
theorem doRetryExpiry (o : Nat) : Statement (.doRetryExpiry o) := fun _ _ h => nomatch h
theorem doOvertemp (o : Nat) (temp : Int) : Statement (.doOvertemp o temp) := fun _ _ h => nomatch h
theorem doNoDrive (o : Nat) (mv : Nat) : Statement (.doNoDrive o mv) := fun _ _ h => nomatch h
theorem doOffStateTest (o : Nat) (high : Bool) (stays : Bool) : Statement (.doOffStateTest o high stays) := fun _ _ h => nomatch h
theorem doAck (src : Path) (o : Nat) (v : Nat) : Statement (.doAck src o v) := fun _ _ h => nomatch h
theorem fieldSupplyChange (g : Nat) (mv : Nat) (held : Nat) : Statement (.fieldSupplyChange g mv held) := fun _ _ h => nomatch h
theorem blockHoldExpiry (b : Nat) : Statement (.blockHoldExpiry b) := fun _ _ h => nomatch h
theorem iolModeWrite (src : Path) (n : Nat) (v : Nat) : Statement (.iolModeWrite src n v) := fun _ _ h => nomatch h
theorem iolWakeupAttempt (n : Nat) (com : Nat) (low : Bool) (follow : Bool) : Statement (.iolWakeupAttempt n com low follow) := fun _ _ h => nomatch h
theorem iolDeviceAnswer (n : Nat) (vendor : Nat) (dev : Nat) (inl : Nat) (outl : Nat) (minc : Nat) : Statement (.iolDeviceAnswer n vendor dev inl outl minc) := fun _ _ h => nomatch h
theorem iolOperateConfirm (n : Nat) : Statement (.iolOperateConfirm n) := fun _ _ h => nomatch h
theorem iolCycleComplete (n : Nat) (ok : Bool) (invalid : Bool) (pd : Bytes) : Statement (.iolCycleComplete n ok invalid pd) := fun _ _ h => nomatch h
theorem iolLplusOverload (n : Nat) (ma : Nat) (held : Nat) : Statement (.iolLplusOverload n ma held) := fun _ _ h => nomatch h
theorem iolFaultRetry (n : Nat) : Statement (.iolFaultRetry n) := fun _ _ h => nomatch h
theorem iolIsduComplete (n : Nat) (ok : Bool) (err : Nat) (data : Bytes) : Statement (.iolIsduComplete n ok err data) := fun _ _ h => nomatch h
theorem iolDeviceEvent (n : Nat) (qual : Nat) (code : Nat) (appears : Bool) : Statement (.iolDeviceEvent n qual code appears) := fun _ _ h => nomatch h
theorem adcTriggerTimer (a : Nat) : Statement (.adcTriggerTimer a) := fun _ _ h => nomatch h
theorem adcStart (src : Path) (a : Nat) (v : Nat) : Statement (.adcStart src a v) := fun _ _ h => nomatch h
theorem adcConversionComplete (a : Nat) (ch : Nat) (code : Nat) (selftest : Bool) : Statement (.adcConversionComplete a ch code selftest) := fun _ _ h => nomatch h
theorem adcSelftestDue (a : Nat) : Statement (.adcSelftestDue a) := fun _ _ h => nomatch h
theorem adcRefSettled (a : Nat) (codes : List Nat) : Statement (.adcRefSettled a codes) := fun _ _ h => nomatch h
theorem adcRefFault (a : Nat) : Statement (.adcRefFault a) := fun _ _ h => nomatch h
theorem adc4Sequence (codes : List Nat) (pass : Bool) : Statement (.adc4Sequence codes pass) := fun _ _ h => nomatch h
theorem aiTick (limited : List Nat) : Statement (.aiTick limited) := fun _ _ h => nomatch h
theorem aiStale (n : Nat) : Statement (.aiStale n) := fun _ _ h => nomatch h
theorem aoRampTick : Statement (.aoRampTick) := fun _ _ h => nomatch h
theorem aoOpenLoop (j : Nat) (held : Nat) : Statement (.aoOpenLoop j held) := fun _ _ h => nomatch h
theorem aoReadbackFault (j : Nat) : Statement (.aoReadbackFault j) := fun _ _ h => nomatch h
theorem aoNoSource (j : Nat) : Statement (.aoNoSource j) := fun _ _ h => nomatch h
theorem aoOvertemp (j : Nat) (temp : Int) : Statement (.aoOvertemp j temp) := fun _ _ h => nomatch h
theorem aoAck (src : Path) (j : Nat) (v : Nat) : Statement (.aoAck src j v) := fun _ _ h => nomatch h
theorem hartEnableWrite (src : Path) (m : Nat) (v : Nat) : Statement (.hartEnableWrite src m v) := fun _ _ h => nomatch h
theorem hartRequestSend (m : Nat) : Statement (.hartRequestSend m) := fun _ _ h => nomatch h
theorem hartFrameReceive (m : Nat) (preamble : Nat) (f : Bytes) (err : Bool) : Statement (.hartFrameReceive m preamble f err) := fun _ _ h => nomatch h
theorem hartResponseTimeout (m : Nat) : Statement (.hartResponseTimeout m) := fun _ _ h => nomatch h
theorem hartAutoCmdDue (m : Nat) : Statement (.hartAutoCmdDue m) := fun _ _ h => nomatch h
theorem hartNoiseAbort (m : Nat) (cause : Nat) : Statement (.hartNoiseAbort m cause) := fun _ _ h => nomatch h
theorem hartNoiseClear (m : Nat) : Statement (.hartNoiseClear m) := fun _ _ h => nomatch h
theorem hartQueueTimeout (m : Nat) : Statement (.hartQueueTimeout m) := fun _ _ h => nomatch h
theorem hartNoDeviceRetry (m : Nat) : Statement (.hartNoDeviceRetry m) := fun _ _ h => nomatch h
theorem portLinkChange (n : Nat) (speed : Nat) : Statement (.portLinkChange n speed) := fun _ _ h => nomatch h
theorem frameReceive (n : Nat) (f : Bytes) (good : Bool) : Statement (.frameReceive n f good) := fun _ _ h => nomatch h
theorem fdbAgeing : Statement (.fdbAgeing) := fun _ _ h => nomatch h
theorem fdbFlush (src : Path) (v : Nat) : Statement (.fdbFlush src v) := fun _ _ h => nomatch h
theorem frerResetTimeout (h : Nat) : Statement (.frerResetTimeout h) := fun _ _ h => nomatch h
theorem ringTxPoll : Statement (.ringTxPoll) := fun _ _ h => nomatch h
theorem gateApply (src : Path) (n : Nat) (v : Nat) : Statement (.gateApply src n v) := fun _ _ h => nomatch h
theorem gateListSwitch (n : Nat) : Statement (.gateListSwitch n) := fun _ _ h => nomatch h
theorem gateIntervalEnd (n : Nat) : Statement (.gateIntervalEnd n) := fun _ _ h => nomatch h
theorem preemptVerify (n : Nat) (ok : Bool) : Statement (.preemptVerify n ok) := fun _ _ h => nomatch h
theorem redSupervisionSend (r : Nat) : Statement (.redSupervisionSend r) := fun _ _ h => nomatch h
theorem redLanDown (r : Nat) (side : Nat) : Statement (.redLanDown r side) := fun _ _ h => nomatch h
theorem tbStepWrite (src : Path) (n : Nat) (d : Int) : Statement (.tbStepWrite src n d) := fun _ _ h => nomatch h
theorem tbSetWrite (src : Path) (n : Nat) (t : Nat) : Statement (.tbSetWrite src n t) := fun _ _ h => nomatch h
theorem tbSourceChange (src : Path) (n : Nat) (sub : Nat) (v : Bytes) : Statement (.tbSourceChange src n sub v) := fun _ _ h => nomatch h
theorem tbDeclare (src : Path) (n : Nat) (v : Nat) : Statement (.tbDeclare src n v) := fun _ _ h => nomatch h
theorem ptpSyncReceive (k : Nat) (port : Nat) (offset : Int) (delay : Int) (gm : Bytes) (st : Nat) : Statement (.ptpSyncReceive k port offset delay gm st) := fun _ _ h => nomatch h
theorem ptpHoldoverExpiry (k : Nat) : Statement (.ptpHoldoverExpiry k) := fun _ _ h => nomatch h
theorem oscFailover : Statement (.oscFailover) := fun _ _ h => nomatch h
theorem rtcUpdate : Statement (.rtcUpdate) := fun _ _ h => nomatch h
theorem ppsInEdge (k : Nat) (width : Nat) : Statement (.ppsInEdge k width) := fun _ _ h => nomatch h
theorem ppsInLost (k : Nat) : Statement (.ppsInLost k) := fun _ _ h => nomatch h
theorem ppsOutEdge (k : Nat) : Statement (.ppsOutEdge k) := fun _ _ h => nomatch h
theorem canEnable (src : Path) (c : Nat) (v : Nat) (idle : Bool) (memok : Bool) : Statement (.canEnable src c v idle memok) := fun _ _ h => nomatch h
theorem canDisable (src : Path) (c : Nat) (v : Nat) : Statement (.canDisable src c v) := fun _ _ h => nomatch h
theorem canFrameReceived (c : Nat) (f : CanFrame) (err : Bool) : Statement (.canFrameReceived c f err) := fun _ _ h => nomatch h
theorem canErrorDetected (c : Nat) (kind : Nat) (transmitter : Bool) (heavy : Bool) : Statement (.canErrorDetected c kind transmitter heavy) := fun _ _ h => nomatch h
theorem canBusStuck (c : Nat) : Statement (.canBusStuck c) := fun _ _ h => nomatch h
theorem canStuckRecoveryAttempt (c : Nat) (ok : Bool) : Statement (.canStuckRecoveryAttempt c ok) := fun _ _ h => nomatch h
theorem canBusoffRecovered (c : Nat) : Statement (.canBusoffRecovered c) := fun _ _ h => nomatch h
theorem canRecover (src : Path) (c : Nat) (v : Nat) : Statement (.canRecover src c v) := fun _ _ h => nomatch h
theorem canControllerFault (c : Nat) (fault : Nat) : Statement (.canControllerFault c fault) := fun _ _ h => nomatch h
theorem canObjectReadWord0 (c : Nat) (o : Nat) (p : Nat) (x : Nat) (gate : Bool) (err : Bool) : Statement (.canObjectReadWord0 c o p x gate err) := fun _ _ h => nomatch h
theorem canObjectReadWord19 (c : Nat) (o : Nat) (p : Nat) (x : Nat) (gate : Bool) (err : Bool) : Statement (.canObjectReadWord19 c o p x gate err) := fun _ _ h => nomatch h
theorem canGatehouseLockTimeout (c : Nat) (o : Nat) : Statement (.canGatehouseLockTimeout c o) := fun _ _ h => nomatch h
theorem txBufferFill (c : Nat) : Statement (.txBufferFill c) := fun _ _ h => nomatch h
theorem txStart (c : Nat) : Statement (.txStart c) := fun _ _ h => nomatch h
theorem txComplete (c : Nat) (ok : Bool) : Statement (.txComplete c ok) := fun _ _ h => nomatch h
theorem txArbitrationLost (c : Nat) : Statement (.txArbitrationLost c) := fun _ _ h => nomatch h
theorem nmtCommand (c : Nat) (cs : Nat) (node : Nat) : Statement (.nmtCommand c cs node) := fun _ _ h => nomatch h
theorem canHbProduce (c : Nat) : Statement (.canHbProduce c) := fun _ _ h => nomatch h
theorem canHbConsumerTimeout (c : Nat) (j : Nat) : Statement (.canHbConsumerTimeout c j) := fun _ _ h => nomatch h
theorem syncReceive (c : Nat) (cnt : Nat) : Statement (.syncReceive c cnt) := fun _ _ h => nomatch h
theorem syncProduce (c : Nat) : Statement (.syncProduce c) := fun _ _ h => nomatch h
theorem rpdoReceive (c : Nat) (n : Nat) (data : Bytes) (fd : Bool) : Statement (.rpdoReceive c n data fd) := fun _ _ h => nomatch h
theorem rpdoEventTimeout (c : Nat) (n : Nat) : Statement (.rpdoEventTimeout c n) := fun _ _ h => nomatch h
theorem tpdoEventTimer (c : Nat) (n : Nat) : Statement (.tpdoEventTimer c n) := fun _ _ h => nomatch h
theorem nandBlockRead (k : Nat) (b : Nat) (die : Nat) (blk : Nat) (step : Nat) (level : Nat) (crc : Bool) : Statement (.nandBlockRead k b die blk step level crc) := fun _ _ h => nomatch h
theorem nandBlockWrite (k : Nat) (die : Nat) (blk : Nat) (new : Bool) : Statement (.nandBlockWrite k die blk new) := fun _ _ h => nomatch h
theorem nandProgramFail (die : Nat) (blk : Nat) : Statement (.nandProgramFail die blk) := fun _ _ h => nomatch h
theorem dieNotReadyTimeout (die : Nat) (chan : Bool) : Statement (.dieNotReadyTimeout die chan) := fun _ _ h => nomatch h
theorem rebuildStripe (lost : Bool) (total : Nat) : Statement (.rebuildStripe lost total) := fun _ _ h => nomatch h
theorem staticLevelling (die : Nat) (least : Nat) (most : Nat) (to_ : Nat) (phase : Nat) : Statement (.staticLevelling die least most to_ phase) := fun _ _ h => nomatch h
theorem blockRefresh (die : Nat) (blk : Nat) (to_ : Nat) (phase : Nat) : Statement (.blockRefresh die blk to_ phase) := fun _ _ h => nomatch h
theorem patrolScrubStep (die : Nat) (blk : Nat) (need : Bool) (total : Nat) : Statement (.patrolScrubStep die blk need total) := fun _ _ h => nomatch h
theorem pfailAssert (held : Nat) : Statement (.pfailAssert held) := fun _ _ h => nomatch h
theorem pfailFlushComplete (bytes : Nat) : Statement (.pfailFlushComplete bytes) := fun _ _ h => nomatch h
theorem pfailRelease : Statement (.pfailRelease) := fun _ _ h => nomatch h
theorem pfailStuck : Statement (.pfailStuck) := fun _ _ h => nomatch h
theorem storageMount (dies : List Nat) (models : Bytes) : Statement (.storageMount dies models) := fun _ _ h => nomatch h
theorem suspectBlockVerify (die : Nat) (blk : Nat) (ok : Bool) : Statement (.suspectBlockVerify die blk ok) := fun _ _ h => nomatch h
theorem partSizeWrite (src : Path) (k : Nat) (v : Nat) : Statement (.partSizeWrite src k v) := fun _ _ h => nomatch h
theorem pavstoreRequestComplete (p : Nat) (mirrored : Bool) : Statement (.pavstoreRequestComplete p mirrored) := fun _ _ h => nomatch h
theorem pavstoreMirrorCopy (p : Nat) (data : Bytes) : Statement (.pavstoreMirrorCopy p data) := fun _ _ h => nomatch h
theorem archiveCopy : Statement (.archiveCopy) := fun _ _ h => nomatch h
theorem recFreeze (src : Path) : Statement (.recFreeze src) := fun _ _ h => nomatch h
theorem recUnfreeze (src : Path) : Statement (.recUnfreeze src) := fun _ _ h => nomatch h
theorem recFreezeTimeout : Statement (.recFreezeTimeout) := fun _ _ h => nomatch h
theorem recClearToken (src : Path) (v : Bytes) (sig : Bool) : Statement (.recClearToken src v sig) := fun _ _ h => nomatch h
theorem recClearKeyswitch (src : Path) (v : Nat) (asserted : Bool) : Statement (.recClearKeyswitch src v asserted) := fun _ _ h => nomatch h
theorem recqQuery (src : Path) (v : Bytes) : Statement (.recqQuery src v) := fun _ _ h => nomatch h
theorem histqQuery (src : Path) (v : Bytes) : Statement (.histqQuery src v) := fun _ _ h => nomatch h
theorem histTagTableWrite (src : Path) (g : Nat) (j : Nat) (v : Bytes) : Statement (.histTagTableWrite src g j v) := fun _ _ h => nomatch h
theorem histBufferOverflow : Statement (.histBufferOverflow) := fun _ _ h => nomatch h
theorem histBufferDrained : Statement (.histBufferDrained) := fun _ _ h => nomatch h
theorem gatehouseFault (kind : Nat) : Statement (.gatehouseFault kind) := fun _ _ h => nomatch h
theorem serviceEnter (src : Path) : Statement (.serviceEnter src) := fun _ _ h => nomatch h
theorem serviceLeave (src : Path) : Statement (.serviceLeave src) := fun _ _ h => nomatch h
theorem serviceLimitExpiry : Statement (.serviceLimitExpiry) := fun _ _ h => nomatch h
theorem dormantRequest (src : Path) (v : Nat) : Statement (.dormantRequest src v) := fun _ _ h => nomatch h
theorem dormantFlushComplete : Statement (.dormantFlushComplete) := fun _ _ h => nomatch h
theorem dormantReached : Statement (.dormantReached) := fun _ _ h => nomatch h
theorem moduleResetCommand (src : Path) (v : Nat) : Statement (.moduleResetCommand src v) := fun _ _ h => nomatch h
theorem moduleReset : Statement (.moduleReset) := fun _ _ h => nomatch h
theorem wdtServiceKeyA : Statement (.wdtServiceKeyA) := fun _ _ h => nomatch h
theorem wdtServiceKeyB : Statement (.wdtServiceKeyB) := fun _ _ h => nomatch h
theorem wdtForeignService (dict : Bool) (src : Path) (master : Nat) : Statement (.wdtForeignService dict src master) := fun _ _ h => nomatch h
theorem wdtTimeout : Statement (.wdtTimeout) := fun _ _ h => nomatch h
theorem wdtKeyBTimeout : Statement (.wdtKeyBTimeout) := fun _ _ h => nomatch h
theorem wdtKeyWrite (src : Path) (v : Nat) : Statement (.wdtKeyWrite src v) := fun _ _ h => nomatch h
theorem wdtLockWrite (src : Path) (v : Nat) : Statement (.wdtLockWrite src v) := fun _ _ h => nomatch h
theorem wdtEnableWrite (src : Path) (v : Nat) : Statement (.wdtEnableWrite src v) := fun _ _ h => nomatch h
theorem temperatureSample (vals : List Int) : Statement (.temperatureSample vals) := fun _ _ h => nomatch h
theorem temperatureCritExpiry (k : Nat) : Statement (.temperatureCritExpiry k) := fun _ _ h => nomatch h
theorem railStateChange (k : Nat) (mv : Nat) (held : Nat) : Statement (.railStateChange k mv held) := fun _ _ h => nomatch h
theorem vibrationSpectrum (rms : List Nat) (total : List Nat) : Statement (.vibrationSpectrum rms total) := fun _ _ h => nomatch h
theorem shockStart (x : Nat) (y : Nat) (z : Nat) (mag : Nat) : Statement (.shockStart x y z mag) := fun _ _ h => nomatch h
theorem shockEnd (x : Nat) (y : Nat) (z : Nat) (above : Nat) : Statement (.shockEnd x y z above) := fun _ _ h => nomatch h
theorem humiditySample (rh : Nat) (lid : Nat) : Statement (.humiditySample rh lid) := fun _ _ h => nomatch h
theorem contactSenseMeasure (mohm : List Nat) : Statement (.contactSenseMeasure mohm) := fun _ _ h => nomatch h
theorem contactRebase (src : Path) (v : Nat) : Statement (.contactRebase src v) := fun _ _ h => nomatch h
theorem wearLedgerUpdate : Statement (.wearLedgerUpdate) := fun _ _ h => nomatch h
theorem serviceEthFrame (kind : Nat) : Statement (.serviceEthFrame kind) := fun _ _ h => nomatch h
theorem serviceLinkChange (link : Nat) : Statement (.serviceLinkChange link) := fun _ _ h => nomatch h
theorem optStatus (f : Bytes) : Statement (.optStatus f) := fun _ _ h => nomatch h
theorem optEvents (f : Bytes) : Statement (.optEvents f) := fun _ _ h => nomatch h
theorem optChallenge (f : Bytes) : Statement (.optChallenge f) := fun _ _ h => nomatch h
theorem optAuth (f : Bytes) (sig : Bool) : Statement (.optAuth f sig) := fun _ _ h => nomatch h
theorem optRead (f : Bytes) : Statement (.optRead f) := fun _ _ h => nomatch h
theorem optWrite (f : Bytes) (sig : Bool) (asserted : Bool) : Statement (.optWrite f sig asserted) := fun _ _ h => nomatch h
theorem optClose (f : Bytes) : Statement (.optClose f) := fun _ _ h => nomatch h
theorem optIdleTimeout : Statement (.optIdleTimeout) := fun _ _ h => nomatch h
theorem optFloodInterval (sat : Bool) (bad : Nat) (ambient : Nat) : Statement (.optFloodInterval sat bad ambient) := fun _ _ h => nomatch h
theorem vlogicGood (mv : Int) (held : Nat) (carrier : Bytes) (slot : Nat) (powerLost : Bool) : Statement (.vlogicGood mv held carrier slot powerLost) := fun _ _ h => nomatch h
theorem vlogicLost (mv : Int) (held : Nat) (vbat : Bool) : Statement (.vlogicLost mv held vbat) := fun _ _ h => nomatch h
theorem vlogicStateChange (mv : Int) (held : Nat) : Statement (.vlogicStateChange mv held) := fun _ _ h => nomatch h
theorem internalPfailWarning (mv : Int) (held : Nat) : Statement (.internalPfailWarning mv held) := fun _ _ h => nomatch h
theorem prechargeComplete (diff : Nat) : Statement (.prechargeComplete diff) := fun _ _ h => nomatch h
theorem seatedOpen (c : Nat) (held : Nat) : Statement (.seatedOpen c held) := fun _ _ h => nomatch h
theorem seatedMated (c : Nat) (held : Nat) : Statement (.seatedMated c held) := fun _ _ h => nomatch h
theorem pllLockLoss (d : Nat) (n : Nat) (cyc : Nat) : Statement (.pllLockLoss d n cyc) := fun _ _ h => nomatch h
theorem pllRelock (d : Nat) : Statement (.pllRelock d) := fun _ _ h => nomatch h
theorem droopThrottleOn (rail : Nat) (sag : Nat) : Statement (.droopThrottleOn rail sag) := fun _ _ h => nomatch h
theorem droopThrottleOff (sag : Nat) (held : Nat) : Statement (.droopThrottleOff sag held) := fun _ _ h => nomatch h
theorem stretchStart (rail : Nat) (sag : Nat) (copying : Bool) (chunk : Nat) : Statement (.stretchStart rail sag copying chunk) := fun _ _ h => nomatch h
theorem stretchEnd (rail : Nat) (sag : Nat) (held : Nat) : Statement (.stretchEnd rail sag held) := fun _ _ h => nomatch h
theorem stretchBudgetReset : Statement (.stretchBudgetReset) := fun _ _ h => nomatch h
theorem wakeRtc : Statement (.wakeRtc) := fun _ _ h => nomatch h
theorem wakeNetwork (port : Nat) (f : Bytes) : Statement (.wakeNetwork port f) := fun _ _ h => nomatch h
theorem wakeCan (c : Nat) (held : Nat) : Statement (.wakeCan c held) := fun _ _ h => nomatch h
theorem wakeReferee (f : Bytes) (mac : Bool) : Statement (.wakeReferee f mac) := fun _ _ h => nomatch h
theorem vbatMeasure (mv : Int) : Statement (.vbatMeasure mv) := fun _ _ h => nomatch h
theorem startupRailsGood : Statement (.startupRailsGood) := fun _ _ h => nomatch h
theorem gatehouseResetRelease : Statement (.gatehouseResetRelease) := fun _ _ h => nomatch h
theorem wipeComplete (ok : Bool) : Statement (.wipeComplete ok) := fun _ _ h => nomatch h
theorem trngSeeded (ok : Bool) : Statement (.trngSeeded ok) := fun _ _ h => nomatch h
theorem dramTrained (ok : Bool) : Statement (.dramTrained ok) := fun _ _ h => nomatch h
theorem dramZeroFillComplete : Statement (.dramZeroFillComplete) := fun _ _ h => nomatch h
theorem imagesVerified (part : Nat) (code : Nat) : Statement (.imagesVerified part code) := fun _ _ h => nomatch h
theorem bootLaneBistComplete (fails : List Nat) : Statement (.bootLaneBistComplete fails) := fun _ _ h => nomatch h
theorem dictLoad : Statement (.dictLoad) := fun _ _ h => nomatch h
theorem firstOperatingMode : Statement (.firstOperatingMode) := fun _ _ h => nomatch h
theorem claimVoucher (src : Path) (v : Bytes) (sig : Bool) : Statement (.claimVoucher src v sig) := fun _ _ h => nomatch h
theorem lcTokenRelease (src : Path) (v : Bytes) (sig : Bool) : Statement (.lcTokenRelease src v sig) := fun _ _ h => nomatch h
theorem lcTokenReturn (src : Path) (v : Bytes) (sig : Bool) : Statement (.lcTokenReturn src v sig) := fun _ _ h => nomatch h
theorem lcTokenScrap (src : Path) (v : Bytes) (sig : Bool) : Statement (.lcTokenScrap src v sig) := fun _ _ h => nomatch h
theorem lcTokenRefurbish (src : Path) (v : Bytes) (sig : Bool) : Statement (.lcTokenRefurbish src v sig) := fun _ _ h => nomatch h
theorem lcTokenFinalise (src : Path) (v : Bytes) (sig : Bool) : Statement (.lcTokenFinalise src v sig) := fun _ _ h => nomatch h
theorem icehouseMonitorSample (mesh : Bool) (lid : Nat) (temp : Int) (volt : Bool) (clock : Bool) : Statement (.icehouseMonitorSample mesh lid temp volt clock) := fun _ _ h => nomatch h
theorem tamperConfirm (mesh : Bool) (lid : Nat) (temp : Int) (volt : Bool) (clock : Bool) (mv : Nat) : Statement (.tamperConfirm mesh lid temp volt clock mv) := fun _ _ h => nomatch h
theorem sealedCopyDestroyed : Statement (.sealedCopyDestroyed) := fun _ _ h => nomatch h
theorem eraseResetExpiry : Statement (.eraseResetExpiry) := fun _ _ h => nomatch h
theorem alarmAck (src : Path) (v : Nat) : Statement (.alarmAck src v) := fun _ _ h => nomatch h
theorem servicePubWrite (src : Path) (v : Bytes) : Statement (.servicePubWrite src v) := fun _ _ h => nomatch h
theorem trngHealthFail (test : Nat) : Statement (.trngHealthFail test) := fun _ _ h => nomatch h
theorem drbgReseed : Statement (.drbgReseed) := fun _ _ h => nomatch h
theorem debugToken (src : Path) (v : Bytes) (sig : Bool) (jtag : Bool) : Statement (.debugToken src v sig jtag) := fun _ _ h => nomatch h
theorem debugClose (src : Path) (v : Nat) : Statement (.debugClose src v) := fun _ _ h => nomatch h
theorem debugExpiry : Statement (.debugExpiry) := fun _ _ h => nomatch h
theorem updStart (src : Path) (safety : Bool) (vendor : Bool) (owner : Bool) : Statement (.updStart src safety vendor owner) := fun _ _ h => nomatch h
theorem updCancel (src : Path) : Statement (.updCancel src) := fun _ _ h => nomatch h
theorem updPartImageWrite (src : Path) (k : Nat) (v : Bytes) (ok : Bool) : Statement (.updPartImageWrite src k v ok) := fun _ _ h => nomatch h
theorem updPartDownloadComplete (k : Nat) (data : Bytes) (ok : Bool) : Statement (.updPartDownloadComplete k data ok) := fun _ _ h => nomatch h
theorem updPartVerified (k : Nat) (ok : Bool) : Statement (.updPartVerified k ok) := fun _ _ h => nomatch h
theorem updActivateStandby (src : Path) : Statement (.updActivateStandby src) := fun _ _ h => nomatch h
theorem updActivateStop (src : Path) : Statement (.updActivateStop src) := fun _ _ h => nomatch h
theorem activationRecordWritten : Statement (.activationRecordWritten) := fun _ _ h => nomatch h
theorem trialCommit (ok : Bool) (part : Nat) : Statement (.trialCommit ok part) := fun _ _ h => nomatch h
theorem trialLimitExpiry : Statement (.trialLimitExpiry) := fun _ _ h => nomatch h
theorem updPreparedWrite (src : Path) (v : Nat) : Statement (.updPreparedWrite src v) := fun _ _ h => nomatch h
theorem illegalOpcode (l : Nat) (sub : Nat) : Statement (.illegalOpcode l sub) := fun _ _ h => nomatch h
theorem refLineRelease (held : Nat) : Statement (.refLineRelease held) := fun _ _ h => nomatch h
theorem lockstepFault : Statement (.lockstepFault) := fun _ _ h => nomatch h
theorem safetyWordReceive (w : Nat) (crc : Nat) (req : Nat) (rst : Nat) : Statement (.safetyWordReceive w crc req rst) := fun _ _ h => nomatch h
theorem healthWordReceive (f : Bytes) : Statement (.healthWordReceive f) := fun _ _ h => nomatch h
theorem partnerEventReceive (f : Bytes) : Statement (.partnerEventReceive f) := fun _ _ h => nomatch h
theorem pavstorePartnerWrite (p : Nat) (trim : Bool) (off : Nat) (len : Nat) (data : Bytes) : Statement (.pavstorePartnerWrite p trim off len data) := fun _ _ h => nomatch h
theorem partnerSyncHoldExpiry : Statement (.partnerSyncHoldExpiry) := fun _ _ h => nomatch h
theorem leapSecond : Statement (.leapSecond) := fun _ _ h => nomatch h
theorem frameTransmitComplete (n : Nat) : Statement (.frameTransmitComplete n) := fun _ _ h => nomatch h
theorem tpdoInhibitExpiry (c : Nat) (n : Nat) : Statement (.tpdoInhibitExpiry c n) := fun _ _ h => nomatch h
theorem garbageCollection (die : Nat) (blk : Nat) (to_ : Nat) (phase : Nat) : Statement (.garbageCollection die blk to_ phase) := fun _ _ h => nomatch h
theorem partitionResizeComplete : Statement (.partitionResizeComplete) := fun _ _ h => nomatch h
theorem status3Toggle : Statement (.status3Toggle) := fun _ _ h => nomatch h

end Sys2Proof.Laws.Rows
end

