-- ==== Sys2Proof/WellFormed.lean ====
section
/-! DEFINITION. R14: the instances a command names exist. A command about an instance that does not exist is
ill-formed; its meaning changes nothing. -/

namespace Sys2Proof

/-- R14: every instance number of the command lies in its range. -/
def Instr.wf : Instr → Bool
  | .classBoundary x => decide (x < 3)
  | .inputFreeze x => decide (x < 3)
  | .outputCommit x => decide (x < 3)
  | .frameBuild st => decide (st < 1024)
  | .launchTimeReached n => decide (n < 10)
  | .launchLateDrop n => decide (n < 10)
  | .classAWindowStart p => decide (p < 256)
  | .classAWindowEnd p => decide (p < 256)
  | .classBReady l => decide (l < 12)
  | .classCDispatch l => decide (l < 12)
  | .taskTimeBudgetExpiry p x => decide (p < 256) && decide (x < 3)
  | .taskDeadline p x => decide (p < 256) && decide (x < 3)
  | .laneUngate l => decide (l < 12)
  | .fabricAccess r _ _ _ _ => decide (r < 65)
  | .ledgerRoundEnd => true
  | .routerTakeEvent => true
  | .eventRateWindow => true
  | .eventConfigWrite _ n _ => decide (n < 1280)
  | .eventChannelPop p => decide (p < 256)
  | .eventOverflowClear p _ => decide (p < 256)
  | .dictWrite _ _ _ _ => true
  | .dictstoreCommit _ => true
  | .dictSectionRestore _ _ => true
  | .commErrorFieldClear _ c _ => decide (c < 8)
  | .dapHandshake _ _ => true
  | .dapRead n _ => decide (n < 1024)
  | .dapWrite n _ => decide (n < 1024)
  | .dapWriteAtomic n _ => decide (n < 1024)
  | .dapReadSeg n _ => decide (n < 1024)
  | .dapWriteSeg n _ => decide (n < 1024)
  | .dapSubscribe n _ => decide (n < 1024)
  | .dapEventPush n => decide (n < 1024)
  | .dapKeepalive n _ => decide (n < 1024)
  | .dapDescribe n _ => decide (n < 1024)
  | .dapClose n _ => decide (n < 1024)
  | .dapIdleTimeout n => decide (n < 1024)
  | .dapSegSequenceTimeout n => decide (n < 1024)
  | .dapTokenRefill n => decide (n < 1024)
  | .dapDisable _ _ => true
  | .sdoUpload c _ => decide (c < 8)
  | .sdoDownload c _ => decide (c < 8)
  | .sdoSegment c _ => decide (c < 8)
  | .sdoBlockUpload c _ => decide (c < 8)
  | .sdoBlockDownload c _ => decide (c < 8)
  | .sdoIdleTimeout c => decide (c < 8)
  | .scanRealign _ _ => true
  | .chgRequest _ _ => true
  | .chgCancel _ _ => true
  | .rioInputFrame _ => true
  | .pavStopHoldExpiry p => decide (p < 256)
  | .remoteHoldExpiry p => decide (p < 256)
  | .pavHoldLimitExpiry p => decide (p < 256)
  | .debugHalt p => decide (p < 256)
  | .debugResume p => decide (p < 256)
  | .debugSingleStep p => decide (p < 256)
  | .debugSessionLoss p => decide (p < 256)
  | .arbNop l => decide (l < 12)
  | .arbLd l _ _ _ => decide (l < 12)
  | .arbLdn l _ _ _ => decide (l < 12)
  | .arbAnd l _ _ _ => decide (l < 12)
  | .arbAndn l _ _ _ => decide (l < 12)
  | .arbOr l _ _ _ => decide (l < 12)
  | .arbOrn l _ _ _ => decide (l < 12)
  | .arbXor l _ _ _ => decide (l < 12)
  | .arbXorn l _ _ _ => decide (l < 12)
  | .arbSt l _ _ _ => decide (l < 12)
  | .arbStn l _ _ _ => decide (l < 12)
  | .arbSet l _ _ _ => decide (l < 12)
  | .arbRst l _ _ _ => decide (l < 12)
  | .arbEdgp l _ _ _ => decide (l < 12)
  | .arbEdgn l _ _ _ => decide (l < 12)
  | .arbNot l => decide (l < 12)
  | .arbSeta l => decide (l < 12)
  | .arbClra l => decide (l < 12)
  | .arbPush l _ => decide (l < 12)
  | .arbPopa l => decide (l < 12)
  | .arbPopo l => decide (l < 12)
  | .arbTon l _ _ => decide (l < 12)
  | .arbTof l _ _ => decide (l < 12)
  | .arbTp l _ _ => decide (l < 12)
  | .arbCtu l _ _ => decide (l < 12)
  | .arbCtd l _ _ => decide (l < 12)
  | .arbCtud l _ _ => decide (l < 12)
  | .arbLdw l _ _ _ _ _ => decide (l < 12)
  | .arbStw l _ _ _ _ => decide (l < 12)
  | .arbPutg l _ _ => decide (l < 12)
  | .arbAddg l _ _ _ => decide (l < 12)
  | .arbMovga l _ _ _ => decide (l < 12)
  | .arbXchw l => decide (l < 12)
  | .arbGets l _ _ => decide (l < 12)
  | .arbLdf l fl => decide (l < 12) && decide (fl < 7)
  | .arbClrf l => decide (l < 12)
  | .arbLdx l _ _ _ _ _ => decide (l < 12)
  | .arbStx l _ _ _ _ => decide (l < 12)
  | .arbMovb l _ _ _ => decide (l < 12)
  | .arbMux l _ _ _ _ _ => decide (l < 12)
  | .arbAdd l _ _ _ _ => decide (l < 12)
  | .arbSub l _ _ _ _ => decide (l < 12)
  | .arbMul l _ _ _ _ => decide (l < 12)
  | .arbDiv l _ _ _ _ => decide (l < 12)
  | .arbMod l _ _ _ _ => decide (l < 12)
  | .arbAluAnd l _ _ _ _ => decide (l < 12)
  | .arbAluOr l _ _ _ _ => decide (l < 12)
  | .arbAluXor l _ _ _ _ => decide (l < 12)
  | .arbMin l _ _ _ _ => decide (l < 12)
  | .arbMax l _ _ _ _ => decide (l < 12)
  | .arbLimit l _ _ _ _ => decide (l < 12)
  | .arbSel l _ _ _ _ => decide (l < 12)
  | .arbCmpeq l _ _ _ _ => decide (l < 12)
  | .arbCmpne l _ _ _ _ => decide (l < 12)
  | .arbCmplt l _ _ _ _ => decide (l < 12)
  | .arbCmple l _ _ _ _ => decide (l < 12)
  | .arbCmpgt l _ _ _ _ => decide (l < 12)
  | .arbCmpge l _ _ _ _ => decide (l < 12)
  | .arbShl l _ _ _ _ => decide (l < 12)
  | .arbShr l _ _ _ _ => decide (l < 12)
  | .arbSar l _ _ _ _ => decide (l < 12)
  | .arbRol l _ _ _ _ => decide (l < 12)
  | .arbRor l _ _ _ _ => decide (l < 12)
  | .arbMov l _ _ _ _ => decide (l < 12)
  | .arbFadd l _ _ _ => decide (l < 12)
  | .arbFsub l _ _ _ => decide (l < 12)
  | .arbFmul l _ _ _ => decide (l < 12)
  | .arbFdiv l _ _ _ => decide (l < 12)
  | .arbFsqrt l _ _ _ => decide (l < 12)
  | .arbFma l _ _ _ => decide (l < 12)
  | .arbFcmpeq l _ _ _ => decide (l < 12)
  | .arbFcmplt l _ _ _ => decide (l < 12)
  | .arbFcmple l _ _ _ => decide (l < 12)
  | .arbFcvti l _ _ _ _ _ => decide (l < 12)
  | .arbFcvtf l _ _ _ _ => decide (l < 12)
  | .arbFcvtp l _ _ _ => decide (l < 12)
  | .arbJmp l _ => decide (l < 12)
  | .arbJc l _ => decide (l < 12)
  | .arbJnc l _ => decide (l < 12)
  | .arbCall l _ => decide (l < 12)
  | .arbRet l => decide (l < 12)
  | .arbLoop l _ _ _ => decide (l < 12)
  | .arbEnd l => decide (l < 12)
  | .arbEvt l _ => decide (l < 12)
  | .arbRdtb l n => decide (l < 12) && decide (n < 8)
  | .arbFence l => decide (l < 12)
  | .fenceDrainComplete l => decide (l < 12)
  | .sysRecorderWrite l => decide (l < 12)
  | .sysWdtService l => decide (l < 12)
  | .sysDictTransfer l => decide (l < 12)
  | .sysDmaSubmit l => decide (l < 12)
  | .sysDmaStatus l => decide (l < 12)
  | .sysIsduRequest l => decide (l < 12)
  | .sysHartCommand l => decide (l < 12)
  | .sysPavstoreRead l => decide (l < 12)
  | .sysPavstoreWrite l => decide (l < 12)
  | .sysPavstoreTrim l => decide (l < 12)
  | .sysPavstoreSync l => decide (l < 12)
  | .sysCanDoorbell l => decide (l < 12)
  | .sysCanCancel l => decide (l < 12)
  | .sysServiceComplete l => decide (l < 12)
  | .voterRecordArrival t k _ _ _ _ _ _ => decide (t < 4) && decide (k < 3)
  | .voterLagExpiry t k _ => decide (t < 4) && decide (k < 3)
  | .laneLocalFault n _ _ => decide (n < 15)
  | .resyncComplete t => decide (t < 4)
  | .resyncStarved t => decide (t < 4)
  | .takeoverWaitExpiry t => decide (t < 4)
  | .trestleRebuildComplete t => decide (t < 4)
  | .rotationStart => true
  | .rotateNow _ _ => true
  | .spareLaneLocked n => decide (n < 15)
  | .laneBistComplete n _ _ _ => decide (n < 15)
  | .laneRetireWrite _ n _ => decide (n < 15)
  | .pavLoad _ p => decide (p < 256)
  | .pavUnload _ p => decide (p < 256)
  | .regionArm _ p => decide (p < 256)
  | .regionDisarm _ p => decide (p < 256)
  | .dmaTransferComplete p _ _ _ => decide (p < 256)
  | .pavWdtExpiry p => decide (p < 256)
  | .pavWdtKey _ p _ => decide (p < 256)
  | .pavWdtEnable _ p _ => decide (p < 256)
  | .pavWdtLock _ p _ => decide (p < 256)
  | .causewayLaneLost n => decide (n < 2)
  | .causewayLaneTrained n => decide (n < 2)
  | .causewayDown => true
  | .heartbeatSend => true
  | .heartbeatReceive _ _ => true
  | .heartbeatLoss => true
  | .causewayLoopback lane _ => decide (lane < 2)
  | .epochRecordReceive _ => true
  | .epochAckReceive _ => true
  | .epochNakReceive _ => true
  | .epochAckTimeout => true
  | .nandCheckpointDue => true
  | .checkpointWriteComplete _ => true
  | .refGrantReceive path _ _ => decide (path < 2)
  | .refDenyReceive path _ _ => decide (path < 2)
  | .refStatusSend => true
  | .refRequestSend => true
  | .refereeLost => true
  | .refLineStuck _ => true
  | .roleLogicTick => true
  | .takeoverReqWrite _ _ => true
  | .partnerTakeoverRequest _ => true
  | .takeoverLanesUp _ _ => true
  | .takeoverRestoreComplete _ _ => true
  | .safetyWordSend => true
  | .standbyTrestleBist t _ _ _ => decide (t < 4)
  | .storeScrub _ => true
  | .healthWordSend => true
  | .handoverRequest _ _ => true
  | .handoverPrepareReceive => true
  | .handoverSwapBoundary => true
  | .handoverGrantTimeout => true
  | .pairRejoin _ _ => true
  | .joinDictReceived _ _ => true
  | .spHeartbeat _ => true
  | .parapetWatchdogExpiry => true
  | .islandSupplyCheck _ _ _ => true
  | .testPulse _ _ _ => true
  | .safeInputFilterExpiry n _ _ _ => decide (n < 12)
  | .safeInputDiscrepancyExpiry n => decide (n < 12)
  | .safeInputChannelDisagree n _ => decide (n < 12)
  | .encoderGate e _ _ _ _ => decide (e < 6)
  | .encoderFaultClear e _ => decide (e < 6)
  | .groupEvaluation _ => true
  | .stoReset g _ => decide (g < 6)
  | .enableSequenceStep g _ => decide (g < 6)
  | .crossLinkRemoval _ g => decide (g < 6)
  | .channelDiscrepancy g => decide (g < 6)
  | .offPulseSlotStart _ => true
  | .offPulseClose o => decide (o < 12)
  | .offPulseVerdict o _ _ _ _ => decide (o < 12)
  | .externalVoltage o _ _ => decide (o < 12)
  | .safeOutputOverload o _ => decide (o < 12)
  | .configCrcCheck _ _ => true
  | .statusBlockPublish => true
  | .safetyStagedWrite _ _ _ _ => true
  | .safetyDiscard _ _ => true
  | .safetyConfirm _ _ => true
  | .safetyActivate _ _ => true
  | .safetyFaultAck _ _ => true
  | .sgroupAck _ g _ => decide (g < 6)
  | .soutAck _ o _ => decide (o < 12)
  | .islandStartupComplete _ _ _ => true
  | .debounceComplete n _ _ => decide (n < 128)
  | .diEdgesWrite _ n _ => decide (n < 128)
  | .diWakeSample n _ => decide (n < 128)
  | .doOcTrip o _ => decide (o < 96)
  | .doRetryExpiry o => decide (o < 96)
  | .doOvertemp o _ => decide (o < 96)
  | .doNoDrive o _ => decide (o < 96)
  | .doOffStateTest o _ _ => decide (o < 96)
  | .doAck _ o _ => decide (o < 96)
  | .fieldSupplyChange g _ _ => decide (g < 9)
  | .blockHoldExpiry b => decide (b < 56)
  | .iolModeWrite _ n _ => decide (n < 32)
  | .iolWakeupAttempt n _ _ _ => decide (n < 32)
  | .iolDeviceAnswer n _ _ _ _ _ => decide (n < 32)
  | .iolOperateConfirm n => decide (n < 32)
  | .iolCycleComplete n _ _ _ => decide (n < 32)
  | .iolLplusOverload n _ _ => decide (n < 32)
  | .iolFaultRetry n => decide (n < 32)
  | .iolIsduComplete n _ _ _ => decide (n < 32)
  | .iolDeviceEvent n _ _ _ => decide (n < 32)
  | .adcTriggerTimer a => decide (a < 6)
  | .adcStart _ a _ => decide (a < 6)
  | .adcConversionComplete a _ _ _ => decide (a < 6)
  | .adcSelftestDue a => decide (a < 6)
  | .adcRefSettled a _ => decide (a < 6)
  | .adcRefFault a => decide (a < 6)
  | .adc4Sequence _ _ => true
  | .aiTick _ => true
  | .aiStale n => decide (n < 32)
  | .aoRampTick => true
  | .aoOpenLoop j _ => decide (j < 16)
  | .aoReadbackFault j => decide (j < 16)
  | .aoNoSource j => decide (j < 16)
  | .aoOvertemp j _ => decide (j < 16)
  | .aoAck _ j _ => decide (j < 16)
  | .hartEnableWrite _ m _ => decide (m < 48)
  | .hartRequestSend m => decide (m < 48)
  | .hartFrameReceive m _ _ _ => decide (m < 48)
  | .hartResponseTimeout m => decide (m < 48)
  | .hartAutoCmdDue m => decide (m < 48)
  | .hartNoiseAbort m _ => decide (m < 48)
  | .hartNoiseClear m => decide (m < 48)
  | .hartQueueTimeout m => decide (m < 48)
  | .hartNoDeviceRetry m => decide (m < 48)
  | .portLinkChange n _ => decide (n < 10)
  | .frameReceive n _ _ => decide (n < 10)
  | .fdbAgeing => true
  | .fdbFlush _ _ => true
  | .frerResetTimeout h => decide (h < 4096)
  | .ringTxPoll => true
  | .gateApply _ n _ => decide (n < 10)
  | .gateListSwitch n => decide (n < 10)
  | .gateIntervalEnd n => decide (n < 10)
  | .preemptVerify n _ => decide (n < 10)
  | .redSupervisionSend r => decide (r < 2)
  | .redLanDown r side => decide (r < 2) && decide (side < 2)
  | .tbStepWrite _ n _ => decide (n < 8)
  | .tbSetWrite _ n _ => decide (n < 8)
  | .tbSourceChange _ n _ _ => decide (n < 8)
  | .tbDeclare _ n _ => decide (n < 8)
  | .ptpSyncReceive k _ _ _ _ _ => decide (k < 4)
  | .ptpHoldoverExpiry k => decide (k < 4)
  | .oscFailover => true
  | .rtcUpdate => true
  | .ppsInEdge k _ => decide (k < 2)
  | .ppsInLost k => decide (k < 2)
  | .ppsOutEdge k => decide (k < 2)
  | .canEnable _ c _ _ _ => decide (c < 8)
  | .canDisable _ c _ => decide (c < 8)
  | .canFrameReceived c _ _ => decide (c < 8)
  | .canErrorDetected c _ _ _ => decide (c < 8)
  | .canBusStuck c => decide (c < 8)
  | .canStuckRecoveryAttempt c _ => decide (c < 8)
  | .canBusoffRecovered c => decide (c < 8)
  | .canRecover _ c _ => decide (c < 8)
  | .canControllerFault c _ => decide (c < 8)
  | .canObjectReadWord0 c o p x _ _ => decide (c < 8) && decide (o < 2048) && decide (p < 256) && decide (x < 3)
  | .canObjectReadWord19 c o p x _ _ => decide (c < 8) && decide (o < 2048) && decide (p < 256) && decide (x < 3)
  | .canGatehouseLockTimeout c o => decide (c < 8) && decide (o < 2048)
  | .txBufferFill c => decide (c < 8)
  | .txStart c => decide (c < 8)
  | .txComplete c _ => decide (c < 8)
  | .txArbitrationLost c => decide (c < 8)
  | .nmtCommand c _ _ => decide (c < 8)
  | .canHbProduce c => decide (c < 8)
  | .canHbConsumerTimeout c _ => decide (c < 8)
  | .syncReceive c _ => decide (c < 8)
  | .syncProduce c => decide (c < 8)
  | .rpdoReceive c n _ _ => decide (c < 8) && decide (n < 64)
  | .rpdoEventTimeout c n => decide (c < 8) && decide (n < 64)
  | .tpdoEventTimer c n => decide (c < 8) && decide (n < 64)
  | .nandBlockRead _ _ _ _ _ _ _ => true
  | .nandBlockWrite _ _ _ _ => true
  | .nandProgramFail _ _ => true
  | .dieNotReadyTimeout _ _ => true
  | .rebuildStripe _ _ => true
  | .staticLevelling _ _ _ _ _ => true
  | .blockRefresh _ _ _ _ => true
  | .patrolScrubStep _ _ _ _ => true
  | .pfailAssert _ => true
  | .pfailFlushComplete _ => true
  | .pfailRelease => true
  | .pfailStuck => true
  | .storageMount _ _ => true
  | .suspectBlockVerify _ _ _ => true
  | .partSizeWrite _ _ _ => true
  | .pavstoreRequestComplete p _ => decide (p < 256)
  | .pavstoreMirrorCopy p _ => decide (p < 256)
  | .archiveCopy => true
  | .recFreeze _ => true
  | .recUnfreeze _ => true
  | .recFreezeTimeout => true
  | .recClearToken _ _ _ => true
  | .recClearKeyswitch _ _ _ => true
  | .recqQuery _ _ => true
  | .histqQuery _ _ => true
  | .histTagTableWrite _ _ _ _ => true
  | .histBufferOverflow => true
  | .histBufferDrained => true
  | .gatehouseFault _ => true
  | .serviceEnter _ => true
  | .serviceLeave _ => true
  | .serviceLimitExpiry => true
  | .dormantRequest _ _ => true
  | .dormantFlushComplete => true
  | .dormantReached => true
  | .moduleResetCommand _ _ => true
  | .moduleReset => true
  | .wdtServiceKeyA => true
  | .wdtServiceKeyB => true
  | .wdtForeignService _ _ _ => true
  | .wdtTimeout => true
  | .wdtKeyBTimeout => true
  | .wdtKeyWrite _ _ => true
  | .wdtLockWrite _ _ => true
  | .wdtEnableWrite _ _ => true
  | .temperatureSample _ => true
  | .temperatureCritExpiry _ => true
  | .railStateChange _ _ _ => true
  | .vibrationSpectrum _ _ => true
  | .shockStart _ _ _ _ => true
  | .shockEnd _ _ _ _ => true
  | .humiditySample _ _ => true
  | .contactSenseMeasure _ => true
  | .contactRebase _ _ => true
  | .wearLedgerUpdate => true
  | .serviceEthFrame _ => true
  | .serviceLinkChange _ => true
  | .optStatus _ => true
  | .optEvents _ => true
  | .optChallenge _ => true
  | .optAuth _ _ => true
  | .optRead _ => true
  | .optWrite _ _ _ => true
  | .optClose _ => true
  | .optIdleTimeout => true
  | .optFloodInterval _ _ _ => true
  | .vlogicGood _ _ _ _ _ => true
  | .vlogicLost _ _ _ => true
  | .vlogicStateChange _ _ => true
  | .internalPfailWarning _ _ => true
  | .prechargeComplete _ => true
  | .seatedOpen _ _ => true
  | .seatedMated _ _ => true
  | .pllLockLoss _ n _ => decide (n < 15)
  | .pllRelock _ => true
  | .droopThrottleOn _ _ => true
  | .droopThrottleOff _ _ => true
  | .stretchStart _ _ _ _ => true
  | .stretchEnd _ _ _ => true
  | .stretchBudgetReset => true
  | .wakeRtc => true
  | .wakeNetwork _ _ => true
  | .wakeCan c _ => decide (c < 8)
  | .wakeReferee _ _ => true
  | .vbatMeasure _ => true
  | .startupRailsGood => true
  | .gatehouseResetRelease => true
  | .wipeComplete _ => true
  | .trngSeeded _ => true
  | .dramTrained _ => true
  | .dramZeroFillComplete => true
  | .imagesVerified _ _ => true
  | .bootLaneBistComplete _ => true
  | .dictLoad => true
  | .firstOperatingMode => true
  | .claimVoucher _ _ _ => true
  | .lcTokenRelease _ _ _ => true
  | .lcTokenReturn _ _ _ => true
  | .lcTokenScrap _ _ _ => true
  | .lcTokenRefurbish _ _ _ => true
  | .lcTokenFinalise _ _ _ => true
  | .icehouseMonitorSample _ _ _ _ _ => true
  | .tamperConfirm _ _ _ _ _ _ => true
  | .sealedCopyDestroyed => true
  | .eraseResetExpiry => true
  | .alarmAck _ _ => true
  | .servicePubWrite _ _ => true
  | .trngHealthFail _ => true
  | .drbgReseed => true
  | .debugToken _ _ _ _ => true
  | .debugClose _ _ => true
  | .debugExpiry => true
  | .updStart _ _ _ _ => true
  | .updCancel _ => true
  | .updPartImageWrite _ k _ _ => decide (k < 9)
  | .updPartDownloadComplete k _ _ => decide (k < 9)
  | .updPartVerified k _ => decide (k < 9)
  | .updActivateStandby _ => true
  | .updActivateStop _ => true
  | .activationRecordWritten => true
  | .trialCommit _ _ => true
  | .trialLimitExpiry => true
  | .updPreparedWrite _ _ => true
  | .illegalOpcode l _ => decide (l < 12)
  | .refLineRelease _ => true
  | .lockstepFault => true
  | .safetyWordReceive _ _ _ _ => true
  | .healthWordReceive _ => true
  | .partnerEventReceive _ => true
  | .pavstorePartnerWrite p _ _ _ _ => decide (p < 256)
  | .partnerSyncHoldExpiry => true
  | .leapSecond => true
  | .frameTransmitComplete n => decide (n < 10)
  | .tpdoInhibitExpiry c n => decide (c < 8) && decide (n < 64)
  | .garbageCollection _ _ _ _ => true
  | .partitionResizeComplete => true
  | .status3Toggle => true

end Sys2Proof
end

