-- ==== Sys2Proof/Tests/Slice0.lean ====
section
/-! SUPPORT. Tests: ill-formed commands, a state that meets the hypotheses of each statement, and a few values of the spec. -/

open Sys2Proof Sys2Proof.Machine

namespace Sys2Proof.Tests

set_option Elab.async false

/-! ### States the tests stand in -/

/-- The state with dictionary values listed, key by key, be they defaults or not. -/
def put (l : List (Nat × Int)) (s : State) : State :=
  { s with dict := l.foldl (fun d e => Tab.put d e.1 e.2 (e.2 + 1)) s.dict }

/-- The module in ACTIVE, 10^15 ns after reset, dictionary loaded, with session 0 of an OWNER with the safety right. -/
def live : State := put [(K.modeNow, Mode.active)] { State.reset with
  now := 10 ^ 15, dictReady := true
  sessions := [(0, { isOpen := true, role := .owner, safety := true, tokens := 4, lastRefill := 1, lastFrame := 1 })] }

/-- Session 0 may write each of these values (R45). -/
def admits (l : List (Nat × Bytes)) (s : State) : Bool :=
  l.all (fun e => (s.caller (.dap 0)).isSome && s.checkWrite (.dap 0) (e.1 / 256) (e.1 % 256) e.2 = Err.ok && !s.writeHeld e.1)

/-- As `live`, in a pair. -/
def paired : State := { live with pair := { op := 1 } }

/-- What a read or a store answers, where it goes through. -/
def good {α : Type} (m : Arb α) (p : α → State → Bool) (s : State) : Bool :=
  match m s with
  | .ok v u => p v u
  | .error .. => false

/-- `Ready` as a test. -/
def readyB (c : Ctx) (words n : Nat) (s : State) : Bool :=
  let b := s.bank c.l c.x
  let at_ := s.rdN (K.pavCodeBase c.p) + b.pc.toNat
  s.ctx c.l = some c && (!b.pcOver && b.pc.toNat + 4 * words ≤ s.rdN (K.pavCodeSize c.p)) &&
  (List.range words).all (fun i => s.mayExec c.p (at_ + 4 * i)) &&
  ((List.range words).find? (fun i => inSram (at_ + 4 * i) && s.poisoned (at_ + 4 * i))).isNone &&
  (s.task c.p c.x).retired + n ≤ s.rdN (K.pavIbudget c.p c.x) && !(s.pav c.p).step

theorem ready_of {c : Ctx} {words n : Nat} {s : State} (h : readyB c words n s = true) : Ready c words n s := by
  simp only [readyB, Bool.and_eq_true, decide_eq_true_eq, Bool.not_eq_true', Option.isNone_iff_eq_none] at h
  obtain ⟨⟨⟨⟨⟨h1, h2, h3⟩, h4⟩, h5⟩, h6⟩, h7⟩ := h
  refine ⟨h1, ?_, h6, h7⟩
  have h2' : (!(s.bank c.l c.x).pcOver && decide ((s.bank c.l c.x).pc.toNat + 4 * words ≤ s.rdN (K.pavCodeSize c.p))) = true := by simp [h2, h3]
  simp only [fetchCheck, get, getThe, MonadStateOf.get, bind, EStateM.bind, EStateM.get, need, h2', h4, if_true, pure, EStateM.pure, h5]

/-- Lane 0 runs Class B of Pavilion 30, at byte 0x400 of its program: its regions hold the program, the D-TCM, 64 KiB of SRAM and both
images. -/
def base : State :=
  let p := 30
  let words : List Int := [4 * 2 ^ 40, 0xFFFF, 3 * 2 ^ 40 + 0x100000, 0x1FFFFF, 3 * 2 ^ 40 + 0x100400000, 0x10040FFFF,
    9 * 2 ^ 40 + 0x200000000, 0x20003FFFF, 11 * 2 ^ 40 + 0x200040000, 0x20007FFFF]
  let s := put ((List.range 128).map (fun i => (K.regionWord p i, words.getD i 0)))
    { State.reset with now := 10 ^ 15, dictReady := true }
  let s := put [(K.modeNow, Mode.active), (K.scanEngineState, 2), (K.trestleState 0, 1), (K.pavLane p, 0), (K.pavCodeBase p, 0),
    (K.pavCodeSize p, 0x1000), (K.pavCstackBase p, 0x100000), (K.pavMBase p, 0x110000), (K.pavTBase p, 0x120000),
    (K.pavDBase p, 0x130000), (K.pavRegionArm p, 1), (kPavState p, 1), (K.pavIbudget p 1, 1000)] s
  { s with
    lanes := [(0, { run := some (3 * p + 1) })]
    banks := [(1, { pc := 0x400, csp := 0x100000, pav := 30, g := (Vector.replicate 16 0).set 15 0x130000 })]
    scan := { tasks := [(3 * p + 1, { st := .running })] } }

/-- The context of that task. -/
def cx : Ctx := { l := 0, p := 30, x := 1 }

/-- Its register bank, changed. -/
def bank (f : Bank → Bank) (s : State) : State := setBank 0 1 (f (s.bank 0 1)) s

/-- A certificate whose chain is good. -/
def cert : Cert := { chainOk := true, revoked := false, notBeforeOk := true, notAfterOk := true, role := some .engineer, safety := true, scope := none }

/-! ### R14: a term for each check of WellFormed, out of its range by one, and the largest in range -/

theorem test_ill_formed_1 : (
    [.classBoundary 3, .inputFreeze 3, .outputCommit 3, .frameBuild 1024, .launchTimeReached 10, .launchLateDrop 10, .classAWindowStart 256,
     .classAWindowEnd 256, .classBReady 12, .classCDispatch 12, .taskTimeBudgetExpiry 256 0, .taskTimeBudgetExpiry 0 3, .taskDeadline 256 0,
     .taskDeadline 0 3, .laneUngate 12, .fabricAccess 65 [] 0 0 false, .eventConfigWrite .optical 1280 0, .eventChannelPop 256,
     .eventOverflowClear 256 0, .commErrorFieldClear .optical 8 0, .dapRead 1024 [], .dapWrite 1024 [], .dapWriteAtomic 1024 [], .dapReadSeg 1024 [],
     .dapWriteSeg 1024 [], .dapSubscribe 1024 [], .dapEventPush 1024, .dapKeepalive 1024 [], .dapDescribe 1024 [], .dapClose 1024 [],
     .dapIdleTimeout 1024, .dapSegSequenceTimeout 1024, .dapTokenRefill 1024, .sdoUpload 8 [], .sdoDownload 8 [], .sdoSegment 8 [],
     .sdoBlockUpload 8 [], .sdoBlockDownload 8 [], .sdoIdleTimeout 8, .pavStopHoldExpiry 256, .remoteHoldExpiry 256, .pavHoldLimitExpiry 256,
     .debugHalt 256, .debugResume 256, .debugSingleStep 256, .debugSessionLoss 256, .arbNop 12, .arbLd 12 .m 0 0, .arbLdn 12 .m 0 0,
     .arbAnd 12 .m 0 0, .arbAndn 12 .m 0 0, .arbOr 12 .m 0 0, .arbOrn 12 .m 0 0, .arbXor 12 .m 0 0, .arbXorn 12 .m 0 0, .arbSt 12 .m 0 0,
     .arbStn 12 .m 0 0, .arbSet 12 .m 0 0, .arbRst 12 .m 0 0, .arbEdgp 12 .m 0 0] : List Instr).all (fun i => !i.wf) = true := by decide +kernel

theorem test_ill_formed_2 : (
    [.arbEdgn 12 .m 0 0, .arbNot 12, .arbSeta 12, .arbClra 12, .arbPush 12 0, .arbPopa 12, .arbPopo 12, .arbTon 12 .m 0, .arbTof 12 .m 0,
     .arbTp 12 .m 0, .arbCtu 12 .m 0, .arbCtd 12 .m 0, .arbCtud 12 .m 0, .arbLdw 12 0 false false .m 0, .arbStw 12 0 false .m 0, .arbPutg 12 false 0,
     .arbAddg 12 0 0 0, .arbMovga 12 0 0 0, .arbXchw 12, .arbGets 12 false 0, .arbLdf 12 0, .arbLdf 0 7, .arbClrf 12, .arbLdx 12 0 false false 0 0,
     .arbStx 12 0 false 0 0, .arbMovb 12 0 0 0, .arbMux 12 false false false 0 0, .arbAdd 12 false false false .other,
     .arbSub 12 false false false .other, .arbMul 12 false false false .other, .arbDiv 12 false false false .other,
     .arbMod 12 false false false .other, .arbAluAnd 12 false false false .other, .arbAluOr 12 false false false .other,
     .arbAluXor 12 false false false .other, .arbMin 12 false false false .other, .arbMax 12 false false false .other,
     .arbLimit 12 false false false .other, .arbSel 12 false false false .other, .arbCmpeq 12 false false false .other,
     .arbCmpne 12 false false false .other, .arbCmplt 12 false false false .other, .arbCmple 12 false false false .other,
     .arbCmpgt 12 false false false .other, .arbCmpge 12 false false false .other, .arbShl 12 false false false .other,
     .arbShr 12 false false false .other, .arbSar 12 false false false .other, .arbRol 12 false false false .other,
     .arbRor 12 false false false .other, .arbMov 12 false false false .other, .arbFadd 12 false false .other, .arbFsub 12 false false .other,
     .arbFmul 12 false false .other, .arbFdiv 12 false false .other, .arbFsqrt 12 false false .other, .arbFma 12 false false 0,
     .arbFcmpeq 12 false false .other, .arbFcmplt 12 false false .other, .arbFcmple 12 false false .other] : List Instr).all (fun i => !i.wf) = true := by decide +kernel

theorem test_ill_formed_3 : (
    [.arbFcvti 12 false false false false .other, .arbFcvtf 12 false false false .other, .arbFcvtp 12 false false .other, .arbJmp 12 0, .arbJc 12 0,
     .arbJnc 12 0, .arbCall 12 0, .arbRet 12, .arbLoop 12 0 0 0, .arbEnd 12, .arbEvt 12 0, .arbRdtb 12 0, .arbRdtb 0 8, .arbFence 12,
     .fenceDrainComplete 12, .sysRecorderWrite 12, .sysWdtService 12, .sysDictTransfer 12, .sysDmaSubmit 12, .sysDmaStatus 12, .sysIsduRequest 12,
     .sysHartCommand 12, .sysPavstoreRead 12, .sysPavstoreWrite 12, .sysPavstoreTrim 12, .sysPavstoreSync 12, .sysCanDoorbell 12, .sysCanCancel 12,
     .sysServiceComplete 12, .voterRecordArrival 4 0 0 0 0 0 [] 0, .voterRecordArrival 0 3 0 0 0 0 [] 0, .voterLagExpiry 4 0 0,
     .voterLagExpiry 0 3 0, .laneLocalFault 15 0 0, .resyncComplete 4, .resyncStarved 4, .takeoverWaitExpiry 4, .trestleRebuildComplete 4,
     .spareLaneLocked 15, .laneBistComplete 15 false 0 0, .laneRetireWrite .optical 15 0, .pavLoad .optical 256, .pavUnload .optical 256,
     .regionArm .optical 256, .regionDisarm .optical 256, .dmaTransferComplete 256 0 false 0, .pavWdtExpiry 256, .pavWdtKey .optical 256 0,
     .pavWdtEnable .optical 256 0, .pavWdtLock .optical 256 0, .causewayLaneLost 2, .causewayLaneTrained 2, .causewayLoopback 2 false,
     .refGrantReceive 2 [] false, .refDenyReceive 2 [] false, .standbyTrestleBist 4 0 0 0, .safeInputFilterExpiry 12 0 0 0,
     .safeInputDiscrepancyExpiry 12, .safeInputChannelDisagree 12 0, .encoderGate 6 0 0 false false] : List Instr).all (fun i => !i.wf) = true := by decide +kernel

theorem test_ill_formed_4 : (
    [.encoderFaultClear 6 0, .stoReset 6 false, .enableSequenceStep 6 [], .crossLinkRemoval 0 6, .channelDiscrepancy 6, .offPulseClose 12,
     .offPulseVerdict 12 false false 0 0, .externalVoltage 12 0 0, .safeOutputOverload 12 0, .sgroupAck .optical 6 0, .soutAck .optical 12 0,
     .debounceComplete 128 false 0, .diEdgesWrite .optical 128 0, .diWakeSample 128 false, .doOcTrip 96 0, .doRetryExpiry 96, .doOvertemp 96 0,
     .doNoDrive 96 0, .doOffStateTest 96 false false, .doAck .optical 96 0, .fieldSupplyChange 9 0 0, .blockHoldExpiry 56,
     .iolModeWrite .optical 32 0, .iolWakeupAttempt 32 0 false false, .iolDeviceAnswer 32 0 0 0 0 0, .iolOperateConfirm 32,
     .iolCycleComplete 32 false false [], .iolLplusOverload 32 0 0, .iolFaultRetry 32, .iolIsduComplete 32 false 0 [], .iolDeviceEvent 32 0 0 false,
     .adcTriggerTimer 6, .adcStart .optical 6 0, .adcConversionComplete 6 0 0 false, .adcSelftestDue 6, .adcRefSettled 6 [], .adcRefFault 6,
     .aiStale 32, .aoOpenLoop 16 0, .aoReadbackFault 16, .aoNoSource 16, .aoOvertemp 16 0, .aoAck .optical 16 0, .hartEnableWrite .optical 48 0,
     .hartRequestSend 48, .hartFrameReceive 48 0 [] false, .hartResponseTimeout 48, .hartAutoCmdDue 48, .hartNoiseAbort 48 0, .hartNoiseClear 48,
     .hartQueueTimeout 48, .hartNoDeviceRetry 48, .portLinkChange 10 0, .frameReceive 10 [] false, .frerResetTimeout 4096, .gateApply .optical 10 0,
     .gateListSwitch 10, .gateIntervalEnd 10, .preemptVerify 10 false, .redSupervisionSend 2] : List Instr).all (fun i => !i.wf) = true := by decide +kernel

theorem test_ill_formed_5 : (
    [.redLanDown 2 0, .redLanDown 0 2, .tbStepWrite .optical 8 0, .tbSetWrite .optical 8 0, .tbSourceChange .optical 8 0 [], .tbDeclare .optical 8 0,
     .ptpSyncReceive 4 0 0 0 [] 0, .ptpHoldoverExpiry 4, .ppsInEdge 2 0, .ppsInLost 2, .ppsOutEdge 2, .canEnable .optical 8 0 false false,
     .canDisable .optical 8 0, .canFrameReceived 8 {} false, .canErrorDetected 8 0 false false, .canBusStuck 8, .canStuckRecoveryAttempt 8 false,
     .canBusoffRecovered 8, .canRecover .optical 8 0, .canControllerFault 8 0, .canObjectReadWord0 8 0 0 0 false false,
     .canObjectReadWord0 0 2048 0 0 false false, .canObjectReadWord0 0 0 256 0 false false, .canObjectReadWord0 0 0 0 3 false false,
     .canObjectReadWord19 8 0 0 0 false false, .canObjectReadWord19 0 2048 0 0 false false, .canObjectReadWord19 0 0 256 0 false false,
     .canObjectReadWord19 0 0 0 3 false false, .canGatehouseLockTimeout 8 0, .canGatehouseLockTimeout 0 2048, .txBufferFill 8, .txStart 8,
     .txComplete 8 false, .txArbitrationLost 8, .nmtCommand 8 0 0, .canHbProduce 8, .canHbConsumerTimeout 8 0, .syncReceive 8 0, .syncProduce 8,
     .rpdoReceive 8 0 [] false, .rpdoReceive 0 64 [] false, .rpdoEventTimeout 8 0, .rpdoEventTimeout 0 64, .tpdoEventTimer 8 0, .tpdoEventTimer 0 64,
     .pavstoreRequestComplete 256 false, .pavstoreMirrorCopy 256 [], .pllLockLoss 0 15 0, .wakeCan 8 0, .updPartImageWrite .optical 9 [] false,
     .updPartDownloadComplete 9 [] false, .updPartVerified 9 false, .illegalOpcode 12 0, .pavstorePartnerWrite 256 false 0 0 [],
     .frameTransmitComplete 10, .tpdoInhibitExpiry 8 0, .tpdoInhibitExpiry 0 64] : List Instr).all (fun i => !i.wf) = true := by decide +kernel

theorem test_well_formed_1 : (
    [.classBoundary 2, .inputFreeze 2, .outputCommit 2, .frameBuild 1023, .launchTimeReached 9, .launchLateDrop 9, .classAWindowStart 255,
     .classAWindowEnd 255, .classBReady 11, .classCDispatch 11, .taskTimeBudgetExpiry 255 2, .taskDeadline 255 2, .laneUngate 11,
     .fabricAccess 64 [] 0 0 false, .eventConfigWrite .optical 1279 0, .eventChannelPop 255, .eventOverflowClear 255 0,
     .commErrorFieldClear .optical 7 0, .dapRead 1023 [], .dapWrite 1023 [], .dapWriteAtomic 1023 [], .dapReadSeg 1023 [], .dapWriteSeg 1023 [],
     .dapSubscribe 1023 [], .dapEventPush 1023, .dapKeepalive 1023 [], .dapDescribe 1023 [], .dapClose 1023 [], .dapIdleTimeout 1023,
     .dapSegSequenceTimeout 1023, .dapTokenRefill 1023, .sdoUpload 7 [], .sdoDownload 7 [], .sdoSegment 7 [], .sdoBlockUpload 7 [],
     .sdoBlockDownload 7 [], .sdoIdleTimeout 7, .pavStopHoldExpiry 255, .remoteHoldExpiry 255, .pavHoldLimitExpiry 255, .debugHalt 255,
     .debugResume 255, .debugSingleStep 255, .debugSessionLoss 255, .arbNop 11, .arbLd 11 .m 0 0, .arbLdn 11 .m 0 0, .arbAnd 11 .m 0 0,
     .arbAndn 11 .m 0 0, .arbOr 11 .m 0 0, .arbOrn 11 .m 0 0, .arbXor 11 .m 0 0, .arbXorn 11 .m 0 0, .arbSt 11 .m 0 0, .arbStn 11 .m 0 0,
     .arbSet 11 .m 0 0, .arbRst 11 .m 0 0, .arbEdgp 11 .m 0 0, .arbEdgn 11 .m 0 0, .arbNot 11] : List Instr).all Instr.wf = true := by decide +kernel

theorem test_well_formed_2 : (
    [.arbSeta 11, .arbClra 11, .arbPush 11 0, .arbPopa 11, .arbPopo 11, .arbTon 11 .m 0, .arbTof 11 .m 0, .arbTp 11 .m 0, .arbCtu 11 .m 0,
     .arbCtd 11 .m 0, .arbCtud 11 .m 0, .arbLdw 11 0 false false .m 0, .arbStw 11 0 false .m 0, .arbPutg 11 false 0, .arbAddg 11 0 0 0,
     .arbMovga 11 0 0 0, .arbXchw 11, .arbGets 11 false 0, .arbLdf 11 6, .arbClrf 11, .arbLdx 11 0 false false 0 0, .arbStx 11 0 false 0 0,
     .arbMovb 11 0 0 0, .arbMux 11 false false false 0 0, .arbAdd 11 false false false .other, .arbSub 11 false false false .other,
     .arbMul 11 false false false .other, .arbDiv 11 false false false .other, .arbMod 11 false false false .other,
     .arbAluAnd 11 false false false .other, .arbAluOr 11 false false false .other, .arbAluXor 11 false false false .other,
     .arbMin 11 false false false .other, .arbMax 11 false false false .other, .arbLimit 11 false false false .other,
     .arbSel 11 false false false .other, .arbCmpeq 11 false false false .other, .arbCmpne 11 false false false .other,
     .arbCmplt 11 false false false .other, .arbCmple 11 false false false .other, .arbCmpgt 11 false false false .other,
     .arbCmpge 11 false false false .other, .arbShl 11 false false false .other, .arbShr 11 false false false .other,
     .arbSar 11 false false false .other, .arbRol 11 false false false .other, .arbRor 11 false false false .other,
     .arbMov 11 false false false .other, .arbFadd 11 false false .other, .arbFsub 11 false false .other, .arbFmul 11 false false .other,
     .arbFdiv 11 false false .other, .arbFsqrt 11 false false .other, .arbFma 11 false false 0, .arbFcmpeq 11 false false .other,
     .arbFcmplt 11 false false .other, .arbFcmple 11 false false .other, .arbFcvti 11 false false false false .other,
     .arbFcvtf 11 false false false .other, .arbFcvtp 11 false false .other] : List Instr).all Instr.wf = true := by decide +kernel

theorem test_well_formed_3 : (
    [.arbJmp 11 0, .arbJc 11 0, .arbJnc 11 0, .arbCall 11 0, .arbRet 11, .arbLoop 11 0 0 0, .arbEnd 11, .arbEvt 11 0, .arbRdtb 11 7, .arbFence 11,
     .fenceDrainComplete 11, .sysRecorderWrite 11, .sysWdtService 11, .sysDictTransfer 11, .sysDmaSubmit 11, .sysDmaStatus 11, .sysIsduRequest 11,
     .sysHartCommand 11, .sysPavstoreRead 11, .sysPavstoreWrite 11, .sysPavstoreTrim 11, .sysPavstoreSync 11, .sysCanDoorbell 11, .sysCanCancel 11,
     .sysServiceComplete 11, .voterRecordArrival 3 2 0 0 0 0 [] 0, .voterLagExpiry 3 2 0, .laneLocalFault 14 0 0, .resyncComplete 3,
     .resyncStarved 3, .takeoverWaitExpiry 3, .trestleRebuildComplete 3, .spareLaneLocked 14, .laneBistComplete 14 false 0 0,
     .laneRetireWrite .optical 14 0, .pavLoad .optical 255, .pavUnload .optical 255, .regionArm .optical 255, .regionDisarm .optical 255,
     .dmaTransferComplete 255 0 false 0, .pavWdtExpiry 255, .pavWdtKey .optical 255 0, .pavWdtEnable .optical 255 0, .pavWdtLock .optical 255 0,
     .causewayLaneLost 1, .causewayLaneTrained 1, .causewayLoopback 1 false, .refGrantReceive 1 [] false, .refDenyReceive 1 [] false,
     .standbyTrestleBist 3 0 0 0, .safeInputFilterExpiry 11 0 0 0, .safeInputDiscrepancyExpiry 11, .safeInputChannelDisagree 11 0,
     .encoderGate 5 0 0 false false, .encoderFaultClear 5 0, .stoReset 5 false, .enableSequenceStep 5 [], .crossLinkRemoval 0 5,
     .channelDiscrepancy 5, .offPulseClose 11] : List Instr).all Instr.wf = true := by decide +kernel

theorem test_well_formed_4 : (
    [.offPulseVerdict 11 false false 0 0, .externalVoltage 11 0 0, .safeOutputOverload 11 0, .sgroupAck .optical 5 0, .soutAck .optical 11 0,
     .debounceComplete 127 false 0, .diEdgesWrite .optical 127 0, .diWakeSample 127 false, .doOcTrip 95 0, .doRetryExpiry 95, .doOvertemp 95 0,
     .doNoDrive 95 0, .doOffStateTest 95 false false, .doAck .optical 95 0, .fieldSupplyChange 8 0 0, .blockHoldExpiry 55,
     .iolModeWrite .optical 31 0, .iolWakeupAttempt 31 0 false false, .iolDeviceAnswer 31 0 0 0 0 0, .iolOperateConfirm 31,
     .iolCycleComplete 31 false false [], .iolLplusOverload 31 0 0, .iolFaultRetry 31, .iolIsduComplete 31 false 0 [], .iolDeviceEvent 31 0 0 false,
     .adcTriggerTimer 5, .adcStart .optical 5 0, .adcConversionComplete 5 0 0 false, .adcSelftestDue 5, .adcRefSettled 5 [], .adcRefFault 5,
     .aiStale 31, .aoOpenLoop 15 0, .aoReadbackFault 15, .aoNoSource 15, .aoOvertemp 15 0, .aoAck .optical 15 0, .hartEnableWrite .optical 47 0,
     .hartRequestSend 47, .hartFrameReceive 47 0 [] false, .hartResponseTimeout 47, .hartAutoCmdDue 47, .hartNoiseAbort 47 0, .hartNoiseClear 47,
     .hartQueueTimeout 47, .hartNoDeviceRetry 47, .portLinkChange 9 0, .frameReceive 9 [] false, .frerResetTimeout 4095, .gateApply .optical 9 0,
     .gateListSwitch 9, .gateIntervalEnd 9, .preemptVerify 9 false, .redSupervisionSend 1, .redLanDown 1 1, .tbStepWrite .optical 7 0,
     .tbSetWrite .optical 7 0, .tbSourceChange .optical 7 0 [], .tbDeclare .optical 7 0, .ptpSyncReceive 3 0 0 0 [] 0] : List Instr).all Instr.wf = true := by decide +kernel

theorem test_well_formed_5 : (
    [.ptpHoldoverExpiry 3, .ppsInEdge 1 0, .ppsInLost 1, .ppsOutEdge 1, .canEnable .optical 7 0 false false, .canDisable .optical 7 0,
     .canFrameReceived 7 {} false, .canErrorDetected 7 0 false false, .canBusStuck 7, .canStuckRecoveryAttempt 7 false, .canBusoffRecovered 7,
     .canRecover .optical 7 0, .canControllerFault 7 0, .canObjectReadWord0 7 2047 255 2 false false, .canObjectReadWord19 7 2047 255 2 false false,
     .canGatehouseLockTimeout 7 2047, .txBufferFill 7, .txStart 7, .txComplete 7 false, .txArbitrationLost 7, .nmtCommand 7 0 0, .canHbProduce 7,
     .canHbConsumerTimeout 7 0, .syncReceive 7 0, .syncProduce 7, .rpdoReceive 7 63 [] false, .rpdoEventTimeout 7 63, .tpdoEventTimer 7 63,
     .pavstoreRequestComplete 255 false, .pavstoreMirrorCopy 255 [], .pllLockLoss 0 14 0, .wakeCan 7 0, .updPartImageWrite .optical 8 [] false,
     .updPartDownloadComplete 8 [] false, .updPartVerified 8 false, .illegalOpcode 11 0, .pavstorePartnerWrite 255 false 0 0 [],
     .frameTransmitComplete 9, .tpdoInhibitExpiry 7 63] : List Instr).all Instr.wf = true := by decide +kernel

/-! ### Values of the spec's worked examples -/

/-- spec/00: the configuration of EV 0073 stands at 0x2400, subindex 0x4A. -/
theorem test_example_event_place : K.evConfig (Ev.trestleDebugSplit 1) = 0x24004A ∧ eventOf 0x2400 0x4A = some 73 := by decide +kernel

/-- spec/02: a VIEWER reads the product code and the window error entry of Pavilion 12 with REQ_ID 42. -/
theorem test_example_dap_read :
    (match exec (.dapRead 0 [1, 1, 0, 0, 0x2A, 0, 0, 0, 0, 0, 2, 0, 0x10, 0, 0, 0, 0x18, 0x10, 2, 0, 0, 0, 0, 0, 0x46, 0x20, 0x0D, 0, 0, 0, 0, 0])
        (updSession 0 (fun x => { x with role := .viewer, safety := false }) live) with
      | .next t => t.sentOn (Wire.dap 0)
      | _ => []) =
    [1, 0x81, 0, 0, 0x2A, 0, 0, 0, 0x20, 0, 2, 0, 0x14, 0, 0, 0, 0x18, 0x10, 2, 4, 4, 0, 0, 0, 0x40, 0x71, 0, 0, 0x46, 0x20, 0x0D, 0, 0, 0, 2, 0] :=
  by decide +kernel

/-- spec/04: TON with PT 2,000 ms: a rising edge records START = TS, and Q becomes 1 when the elapsed time reaches PT. -/
theorem test_example_ton :
    let t := timerTon true 7200000000000 { start := 0, pt := 2000000000, state := 0 }
    t.start = 7200000000000 ∧ bitOf t.state 0 = false ∧ bitOf (timerTon true 7201990000000 t).state 0 = false ∧
    bitOf (timerTon true 7202000000000 t).state 0 = true ∧ bitOf (timerTon false 7201500000000 t).state 0 = false := by decide +kernel

/-- R126: a narrow signed ADD of 0x7FFF_FFFF and 1 wraps to the most negative value, sets N and V, and clears Z and C. -/
theorem test_add_wraps :
    (let s := bank (fun r => { r with wa := 0x7FFFFFFF, wb := 1 }) base
     match exec (.arbAdd 0 false true false .other) s with
      | .next t => decide ((t.bank 0 1).wa = 0xFFFFFFFF80000000) && (t.bank 0 1).status = 0xA
      | _ => false) = true := by decide +kernel

/-- Frames A, B and C of the worked example of spec/12. -/
def doorFrame (b : Byte) : CanFrame := { ide := true, fdf := true, brs := true, id := 0x18FF2A10, dlc := 8, data := b :: List.replicate 7 0 }

/-- spec/12: while object 300 is locked, B goes to the shadow and C over it; the release is consumed and C stands with NEW and LOST. -/
theorem test_example_can_object :
    (let s := storeFrame 2 300 (doorFrame 7) 2 (storeFrame 2 300 (doorFrame 3) 1 (updObj 2 300 (fun _ => { frame := doorFrame 1, new := true, holder := some 182 }) live))
     let o := s.obj 2 300
     let t := releaseObj 2 300 true s
     o.frame = doorFrame 1 ∧ o.shadow = some (doorFrame 7, 2) ∧ o.lostP = true ∧
     (t.obj 2 300).frame = doorFrame 7 ∧ (t.obj 2 300).new = true ∧ (t.obj 2 300).lost = true) ∧
    canPlace 0x1100085E0C = (2, 300, 76) := by decide +kernel

/-- The table gives its rows no bits: no word spells a command. -/
theorem test_decode_none : decodeTableWord 0 0 = none ∧ decodeTableWord 32 0xFFFFFFFF = none := by decide

/-! ### The Arbour statements: the task is ready, and each access of a statement goes through -/

theorem test_ready : Ready cx 1 1 base ∧ Ready cx 2 1 base := ⟨ready_of (by decide +kernel), ready_of (by decide +kernel)⟩

theorem test_witness_ArbourRegisters :
    Ready cx 1 1 (bank (fun r => { r with bstk := List.replicate 15 (true, 0) }) base) ∧
    Ready cx 1 1 (bank (fun r => { r with bstk := List.replicate 16 (true, 1) }) base) ∧
    Ready cx 1 1 (bank (fun r => { r with bstk := [(true, 2)] }) base) ∧ (base.bank 0 1).bstk = [] :=
  ⟨ready_of (by decide +kernel), ready_of (by decide +kernel), ready_of (by decide +kernel), by decide +kernel⟩

theorem test_witness_ArbourBits : Ready cx 1 1 base ∧
    good (loadBit cx .m 0x10 7) (fun v u => !v && !(u.pav 30).step) (Begun cx 1 base) = true ∧
    good (storeOp cx .m 0 (.bit 0 false)) (fun _ u => !(u.pav 30).step) (Begun cx 1 base) = true ∧
    good (edgeRun cx .m 0x100 0) (fun m u => !m && !(u.pav 30).step) (Begun cx 1 base) = true :=
  ⟨test_ready.1, by decide +kernel⟩

theorem test_witness_ArbourRecords : Ready cx 1 1 base ∧
    good (timerRun cx .t 16 timerTon) (fun _ u => !(u.pav 30).step) (Begun cx 1 base) = true ∧
    good (timerRun cx .d 0 timerTp) (fun _ u => !(u.pav 30).step) (Begun cx 1 base) = true ∧
    good (counterRun cx .d 32 (do return (some (← bankOf' cx).acc, none))) (fun _ u => !(u.pav 30).step) (Begun cx 1 base) = true ∧
    good (counterRun cx .d 32 (do return (some (← popBit cx (fun _ => false)), some (← bankOf' cx).acc))) (fun _ u => !(u.pav 30).step)
      (Begun cx 1 (bank (fun r => { r with bstk := [(true, 2)] }) base)) = true :=
  ⟨test_ready.1, by decide +kernel⟩

theorem test_witness_ArbourWordAccesses : Ready cx 1 1 base ∧
    good (loadOp cx .m 8 8) (fun _ u => !(u.pav 30).step) (Begun cx 1 base) = true ∧
    good (loadBytes cx false 0x100400000 4) (fun _ u => !(u.pav 30).step) (Begun cx 1 base) = true ∧
    good (storeData cx 0x10040FFF8 (.bytes (le 8 1))) (fun _ u => !(u.pav 30).step) (Begun cx 1 base) = true ∧
    (let s := Begun cx 1 base
     s.moveFrom 30 0x100400000 64 = true ∧ s.moveTo 30 1 0x110000 64 = true ∧
     good (readPieces cx (pieces 0x100400000 64)) (fun b u => good (writePieces cx (pieces 0x110000 64) b) (fun _ w => !(w.pav 30).step) u) s = true) :=
  ⟨test_ready.1, by decide +kernel⟩

theorem test_witness_ArbourIntegers : Ready cx (aluWords (.imm true 7)) 1 base ∧ Ready cx (aluWords .other) 1 base ∧
    good (aluOperand cx false true true (.imm true 7)) (fun v u => v = 7 && !(u.pav 30).step) (Begun cx 2 base) = true ∧
    good (aluOperand cx false false false .other) (fun _ u => !(u.pav 30).step) (Begun cx 1 base) = true :=
  ⟨ready_of (by decide +kernel), ready_of (by decide +kernel), by decide +kernel⟩

theorem test_witness_ArbourDivision : Ready cx (aluWords .other) 1 base ∧
    good (aluOperand cx false false false .other) (fun v u => v = 0 && !(u.pav 30).step) (Begun cx 1 base) = true ∧
    good (aluOperand cx false false false .other) (fun v u => keyOf false 64 (v.toNat % 2 ^ 64) = -1 && !(u.pav 30).step)
      (Begun cx 1 (bank (fun r => { r with wb := -1, wa := 0x8000000000000000 }) base)) = true ∧
    (let s := updTask 30 1 (fun t => { t with policy := 0x0301 }) base
     bitOf (s.task 30 1).policy 0 = true ∧ bitOf (base.task 30 1).policy 0 = false) :=
  ⟨ready_of (by decide +kernel), by decide +kernel⟩

theorem test_witness_ArbourFloats : Ready cx 1 1 base ∧
    good (floatOperand cx false .other) (fun _ u => !(u.pav 30).step && !u.quiet cx) (Begun cx 1 base) = true ∧
    (let s := updTask 30 1 (fun t => { t with policy := 0x0302 }) base
     good (floatOperand cx false .other) (fun _ u => !(u.pav 30).step && u.quiet cx) (Begun cx 1 s) = true) ∧
    (f32.sqrt 0xBF800000).2 = true ∧ (f32.add 0x3F800000 0x3F800000).2 = false :=
  ⟨test_ready.1, by decide +kernel⟩

theorem test_witness_ArbourJumps : Ready cx 1 1 base ∧ Ready cx 2 1 base ∧
    ((base.bank 0 1).pc = 0x400 ∧ base.rdN (K.pavCodeSize 30) = 4 * 0x400) ∧
    (base.bank 0 1).csp = 0x100000 ∧ good (storeData cx 0x100000 (.bytes (le 8 0x101))) (fun _ u => !(u.pav 30).step) (Begun cx 1 base) = true ∧
    Ready cx 1 1 (bank (fun r => { r with depth := 1, csp := r.csp + 8 }) base) ∧
    good (loadBytes cx false 0x100000 8)
      (fun _ u => !(u.pav 30).step) (Begun cx 1 (bank (fun r => { r with depth := 1, csp := r.csp + 8 }) base)) = true ∧
    Ready cx 1 1 (bank (fun r => { r with depth := 64 }) base) :=
  ⟨ready_of (by decide +kernel), ready_of (by decide +kernel), by decide +kernel, by decide +kernel, by decide +kernel,
    ready_of (by decide +kernel), by decide +kernel, ready_of (by decide +kernel)⟩

theorem test_witness_ArbourSystemInstructions : Ready cx 1 1 base ∧
    (base.bank 0 1).bstk = [] ∧ ((endTask 30 1 (Begun cx 1 base)).pav 30).step = false ∧ (base.bank 0 1).acc = false ∧
    (let s := fun (b : Byte) => { base with blob := [(K.tbPavRead 7, List.replicate 32 b)] }
     mapBit ((s 0).blobOf (K.tbPavRead 7)) 30 = false ∧ mapBit ((s 64).blobOf (K.tbPavRead 7)) 30 = true ∧
     readyB cx 1 1 (s 0) = true ∧ readyB cx 1 1 (s 64) = true) ∧
    readyB cx 1 1 (bank (fun r => { r with acc := true, bstk := [(true, 0)] }) base) = true :=
  ⟨ready_of (by decide +kernel), by decide +kernel⟩

/-- G registers 0 to 5 set. -/
def regs (l : List (Nat × Nat)) (s : State) : State :=
  bank (fun r => l.foldl (fun r e => r.setGr (BitVec.ofNat 4 e.1) (BitVec.ofNat 64 e.2)) r) s

theorem test_witness_SysRecorderWatchdogDictionary : Ready cx 1 1 base ∧
    (let s := Begun cx 1 (regs [(1, 0x110000), (2, 8), (3, 0x8000)] base)
     s.bufReadable 30 0x110000 8 = true ∧ good (bufRead cx 0x110000 8) (fun _ _ => true) s = true) ∧
    base.rdN (K.pavWdtState 30) = Wdt.disabled ∧
    (let s := put [(K.pavWdtState 30, Wdt.running), (K.pavWdtOpen 30, 10), (K.pavWdtTimeout 30, 20)] base
     let at_ := fun (ns : Nat) => updPav 30 (fun v => { v with wdtS := s.now - ns }) s
     readyB cx 1 1 s = true ∧ (Begun cx 1 (at_ 10000)).wdtTime 30 = 10000 ∧ (Begun cx 1 (at_ 9999)).wdtTime 30 = 9999 ∧
     (Begun cx 1 (at_ 20001)).wdtTime 30 = 20001) ∧
    (let s := Begun cx 1 base
     s.bufWritable 30 0x110000 4 = true ∧
     good (sysRead cx 0x200301 4 0x110000 4) (fun _ _ => true) s = true ∧
     good (sysWrite cx 0x200301 4 0x110000 1) (fun _ _ => true) s = true) :=
  ⟨ready_of (by decide +kernel), by decide +kernel⟩

theorem test_witness_SysServices : Ready cx 1 1 base ∧
    (let s := Begun cx 1 base
     s.dmaCode 30 1 (le 8 0x100400000 ++ le 8 0x10040FFF8 ++ le 4 8 ++ le 12 1) = Err.ok ∧ s.bufReadable 30 0x110000 32 = true ∧
     s.ticketState 30 0 = none ∧ s.ticketState 30 1 = none ∧
     (updPav 30 (fun v => { v with ticket := 1, dma := [{ ticket := 1 }] }) s).ticketState 30 1 = some 0) ∧
    (let s := put [(K.iolOwner 31, 30), (K.iolState 31, Iols.operate), (K.hartOwner 47, 30), (K.hartState 47, Hst.inService)] (Begun cx 1 base)
     s.isduCode 30 31 0 0x110000 8 = Err.ok ∧ s.hartCode 30 47 0 0x110000 8 = Err.ok) ∧
    (let s := put [(K.quotaStore 30, 4096), (K.partState 4, 0), (K.storState, Sto.ready)] base
     let at_ := fun (op : Nat) => { acc := false, g := ((((Vector.replicate 16 0).set 1 (BitVec.ofNat 64 op)).set 3 0x110000).set 4 4096).set 5 0x112000 : Bank }
     s.storeCode 30 0 (at_ 0) = Err.ok ∧ s.storeCode 30 1 (at_ 1) = Err.ok ∧ s.storeCode 30 2 (at_ 2) = Err.ok ∧ s.storeCode 30 3 (at_ 3) = Err.ok) ∧
    (put [(K.canqRing 7 15, 30 * 2 ^ 48)] base).queueOwner 7 15 = 30 ∧
    (let s := { base with banks := [], lanes := [(0, { run := some 90 })], scan := { tasks := [(90, { st := .running })] } }
     let c : Ctx := { l := 0, p := 30, x := 0 }
     readyB c 1 1 (put [(K.pavIbudget 30 0, 1000)] s) = true) :=
  ⟨ready_of (by decide +kernel), by decide +kernel⟩

theorem test_witness_ArbourWaiting : Ready cx 1 1 base ∧ (base.lane 0).egress = 0 ∧
    (let s := updLane 0 (fun x => { x with egress := 1 }) base
     readyB cx 1 1 s = true ∧ (s.lane 0).egress ≠ 0) ∧
    (let s := updTask 30 1 (fun t => { t with sysN := drainWait }) base
     let e := updLane 0 (fun x => { x with egress := 0 }) s
     e.waiter 0 (fun n => n = drainWait) = some cx ∧ (s.task 30 1).sysG = [] ∧ (s.pav 30).step = false) ∧
    (updLane 11 (fun x => { x with egress := 0 }) base).waiter 11 (fun n => n = drainWait) = none ∧
    (updTask 30 1 (fun t => { t with sysN := 1 }) base).waiter 0 (fun n => n ≠ 0 && n ≠ 256) = some cx :=
  ⟨ready_of (by decide +kernel), by decide +kernel⟩

theorem test_witness_ArbourTraps : Ready cx 1 1 base ∧
    (let s := updTask 30 1 (fun t => { t with retired := 1000 }) base
     readyB cx 1 0 s = true ∧ s.rdN (K.pavIbudget 30 1) < (s.task 30 1).retired + 1) ∧
    base.pavState 30 ≠ Prog.hold ∧ policyStops 0x0300 2 = false ∧ policyStops 0x0300 3 = true ∧ base.pavState 30 = Prog.run :=
  ⟨ready_of (by decide +kernel), by decide +kernel⟩

theorem test_witness_ArbourMemoryFrame : Ready cx 1 1 base ∧
    targetOf 0x110000 = .dtcm ∧ targetOf 0x100400000 = .sram ∧ targetOf 0x200040000 = .output ∧
    good (loadBytes cx false 0x110000 1) (fun _ _ => true) base = true ∧
    good (storeData cx 0x10040FFF8 (.bytes (le 8 1))) (fun _ _ => true) base = true ∧
    good (storeData cx 0x110000 (.bit 7 true)) (fun _ _ => true) base = true ∧
    good (addrOf cx .m 8 true) (fun a _ => a = 0x110008) (Begun cx 1 base) = true ∧
    ((inBase + 0x10) % 8 + 8 ≤ 8 ∧ base.mayRead 30 (inBase + 0x10) = true) :=
  ⟨ready_of (by decide +kernel), by decide +kernel⟩

/-! ### Scan, lanes and Pavilions -/

/-- A time base at a number of ns. -/
def tbAt (n ns : Nat) (s : State) : State := { s with tb := [(n, { val := ns * 65536 })] }

/-- The engine RUNNING, every class on, at `ns` of TB0; the latest boundary of every class at 0. -/
def scanning (ns : Nat) : State := tbAt 0 ns (put [(K.scanEngineState, 2), (K.scanEnable 0, 1), (K.scanEnable 1, 1), (K.scanEnable 2, 1),
  (K.scanTs 0, 0), (K.scanTs 1, 0), (K.scanTs 2, 0), (K.scanPeriod 0, 100), (K.scanPeriod 1, 1000), (K.scanPeriod 2, 10000), (K.scanStepSum, 0), (K.scanPhase, 0),
  (K.scanSampleAt 0, 5), (K.scanSampleAt 1, 10), (K.scanSampleAt 2, 10), (K.scanCommitAt 0, 90), (K.scanCommitAt 1, 900), (K.scanCommitAt 2, 9000),
  (K.trestleState 0, Tr.tmr), (K.trestleState 3, Tr.tmr), (K.trestleConfigNow 0, 0), (K.trestleConfigNow 3, 0), (K.pavLane 255, 9),
  (K.rioEnable, 1), (K.pavWindowA 255, 20 * 65536 + 10), (kPavState 255, Prog.run)] live)

theorem test_witness_ScanInstants :
    (scanning 100000).boundaryDue 0 = true ∧ (scanning 99999).boundaryDue 2 = false ∧
    (let s := scanning 5000
     s.engine ≠ 0 ∧ s.classOn 0 = true ∧ s.phase 0 = 0 ∧ 0 ≤ s.sinceOff 0 (s.rdN (K.scanSampleAt 0))) ∧
    (let s := { scanning 900000 with scan := { phase := [(1, 1)] } }
     s.dispatches = true ∧ s.classOn 1 = true ∧ s.phase 1 = 1 ∧ 0 ≤ s.sinceOff 1 (s.rdN (K.scanCommitAt 1))) ∧
    (let s := { scanning 90000 with blob := [(K.rioStationTable 3, List.replicate (32 * 255) 0 ++ [1, 30, 0, 0, 0, 0, 0, 0, 0, 0, 8] ++ List.replicate 21 0)] }
     let r := s.station 1023
     s.dispatches = true ∧ s.on K.rioEnable = true ∧ Sta.enabled r = true ∧ 0 < Sta.outLen r ∧ s.classOn (Sta.cls r) = true ∧
     s.buildAt 1023 ≤ s.scanTime - (s.boundaryAt 0 : Int)) ∧
    admits [(K.scanRealign, [1])] live = true := by decide +kernel

theorem test_witness_FreezeCopiesStaging :
    (let s := put [(K.rioEnable, 0)] (scanning 5000)
     s.engine ≠ 0 ∧ s.classOn 0 = true ∧ s.phase 0 = 0 ∧ 0 ≤ s.sinceOff 0 (s.rdN (K.scanSampleAt 0)) ∧ s.on K.rioEnable = false) ∧
    (let s := scanning 10000
     s.engine ≠ 0 ∧ s.classOn 1 = true ∧ s.phase 1 = 0 ∧ 0 ≤ s.sinceOff 1 (s.rdN (K.scanSampleAt 1))) := by decide +kernel

theorem test_witness_LaneInstants :
    (let s := scanning 20000
     s.dispatches = true ∧ s.classOn 0 = true ∧ s.laneOf 255 = 9 ∧ s.laneRuns 9 = true ∧ s.sinceOff 0 (s.winStart 255) = 0 ∧ s.winLen 255 = 10) ∧
    (let s := updLane 9 (fun x => { x with window := some 765 }) (scanning 30000)
     (s.lane (s.laneOf 255)).window = some (3 * 255) ∧ 0 ≤ s.sinceOff 0 (s.winStart 255 + s.winLen 255)) ∧
    (scanning 12000).sinceOff 1 ((scanning 12000).readyAt 1) = 0 ∧ (scanning 10000).sinceOff 2 ((scanning 10000).readyAt 2) = 0 ∧
    (let s := put [(K.pavTbudgetB 255, 50)] (updTask 255 1 (fun t => { t with st := .running, since := 10 ^ 15 - 50000 }) live)
     (s.task 255 1).st = .running ∧ s.rdN (K.pavTbudgetB 255) * us ≤ (s.task 255 1).used + (s.now - (s.task 255 1).since)) ∧
    (let s := put [(K.pavEntry 255 2, 0)] (scanning 9000000)
     s.pavBusy 255 = true ∧ s.hasTask 255 2 = true ∧ (s.task 255 2).scan ≠ s.scanNo 2 + 1 ∧ 0 ≤ s.sinceOff 2 (s.rdN (K.scanCommitAt 2))) ∧
    ((updLane 11 (fun x => { x with gated := true }) live).lane 11).gated = true := by decide +kernel

theorem test_witness_ProgramControl :
    (let s := put [(kPavState 255, Prog.stop), (K.rioHold, 3)] (updPav 255 (fun v => { v with lastCommit := 10 ^ 15 - 3 * ms }) live)
     s.pavState 255 = Prog.stop ∧ (s.pav 255).remoteSafe = false ∧ s.past (s.pav 255).lastCommit (s.rdN K.rioHold * ms) = true) ∧
    (let s := put [(K.dbgState, 1), (K.dbgScope, 1), (K.pavFlags 255, 2), (K.lcState, Lc.owned)] (scanning 0)
     s.mayDebug = true ∧ (put [(K.modeNow, Mode.service)] s).holdRefused 255 = none ∧ s.pavState 255 = Prog.run ∧
     (put [(K.pavFlags 255, 0)] s).holdRefused 255 = some 1 ∧ s.isSplit (s.laneOf 255 / 3) = false ∧
     (put [(kPavState 255, Prog.hold)] s).pavState 255 = Prog.hold ∧ (put [(K.dbgState, 0)] s).mayDebug = false) ∧
    admits [(K.chgRequest, List.replicate 96 0), (K.chgCancel, le 8 0)] live = true := by decide +kernel

theorem test_witness_PavilionCommands :
    admits [(K.pavLoad 255, [1]), (K.pavLoad 255, [2]), (K.pavRegionArm 255, [0]), (K.pavRegionArm 0, [1]), (K.pavWdtKey 0, [0, 0]),
      (K.pavWdtEnable 255, [1]), (K.pavWdtLock 255, [0])] live = true := by decide +kernel

theorem test_witness_PavilionHardware :
    (let s := put [(K.pavWdtState 255, Wdt.running), (K.pavWdtTimeout 255, 1)] (updPav 255 (fun v => { v with wdtS := 10 ^ 15 - 1001 }) live)
     s.rdN (K.pavWdtState 255) = Wdt.running ∧ (s.pav 255).wdtS + s.rdN (K.pavWdtTimeout 255) * us < s.now) ∧
    ((updPav 255 (fun v => { v with dma := [{ ticket := 1, st := 1 }] }) live).pav 255).dma.find? (fun d => d.ticket = 1 && d.st < 2) =
      some { ticket := 1, st := 1 } ∧
    inSram 0x100400000 = true ∧ inSram 0x110000 = false ∧ (live.pav 0).dma = [] ∧
    (let s := { live with fabric := { reqs := [{ resource := 64, account := 256, cls := 2 }] } }
     s.fabChoice 64 = some ({ resource := 64, account := 256, cls := 2 }, true) ∧ s.fabChoice 0 = none) := by decide +kernel

theorem test_witness_EventRouter :
    ({ live with router := { order := [1279, 7] } }).nextEvent = some 7 ∧ live.nextEvent = none ∧
    live.tbNs 4 / 1000000000 ≠ live.router.winAt ∧ bitOf 1 0 = true ∧
    admits [(K.evConfig 1279, le 4 0)] live = true := by decide +kernel

/-! ### Dictionary, DAP, optical port, recorder and historian -/

theorem test_witness_DictionaryCommands :
    (let s := put [(K.storState, Sto.ready), (K.partState 6, 0)] { live with journal := [0x200301] }
     s.ghRuns = true ∧ s.journal.contains 0x200301 = true ∧ s.pow.flushing = false ∧ s.writeCode 6 = Err.ok) ∧
    (let s := put [(K.storState, Sto.ready), (K.modeNow, Mode.boot), (K.lcState, 0)] { State.reset with pow := { verified := true, formed := true } }
     s.ghRuns = true ∧ s.starting = true ∧ s.dictReady = false ∧ s.pow.verified = true ∧ s.stor ≠ Sto.mounting ∧ s.stor ≠ Sto.held_) ∧
    (let s := { live with pow := { verified := true, status3At := 10 ^ 15 - 500 * ms } }
     s.ghRuns = true ∧ s.past s.pow.status3At (500 * ms) = true ∧ ({ s with now := s.now - 1 } : State).past s.pow.status3At (500 * ms) = false) ∧
    (let s := put [(K.canState 7, Can.active), (K.canNmtState 7, Nmt.preop), (K.lcState, Lc.owned), (K.keysStoreState, 1)] live
     s.sdoServes 7 = true) ∧
    (let s := { live with sdo := [(7, { kind := 1, lastActivity := 10 ^ 15 - 1000 * ms })] }
     (s.sdoOf 7).kind ≠ 0 ∧ s.past (s.sdoOf 7).lastActivity (1000 * ms) = true) ∧
    admits [(K.dictSectionDefaults, [0]), (K.commErrorField 7 0, le 4 0), (K.dictDapEnable, [0])] live = true := by decide +kernel

/-- A DAP request header with a body. -/
def dapReq (op count : Nat) (body : Bytes) : Bytes := le 1 1 ++ le 1 op ++ le 2 0 ++ le 4 7 ++ le 2 0 ++ le 2 count ++ le 4 body.length ++ body

/-- What `DapRequest` asks, as a test. -/
def reqB (op n : Nat) (f : Bytes) (s : State) : Bool :=
  s.dapServes && (s.session n).isOpen && byteAt f 1 = op && (s.session n).tokens ≠ 0 && dapFormed f &&
  ((s.session n).stored.find? (fun e => e.1 = fieldAt f 4 4)).isNone && (s.session n).unanswered < 8 && !s.holds (.dap n) (frameKeys f)

theorem test_witness_DapProtocol :
    (live.dapServes = true ∧ live.mode ≠ Mode.provision ∧ live.certFails cert = 0 ∧
     live.certFails { cert with revoked := true } = 3 ∧ ((live.sessions.map (·.2)).filter (·.isOpen)).length < 1016) ∧
    (let s := put [(K.dictDapIdle, 300), (K.dictDapRate, 200), (K.dictDapBurst, 4)]
      (updSession 1023 (fun _ => { isOpen := true, lastFrame := 10 ^ 15 - 300 * sec, segKey := some 0x200301, tokens := 3, pushes := [[1]] })
        live)
     let s := updSession 1023 (fun x => { x with segAt := 10 ^ 15 - 300 * sec, lastRefill := 10 ^ 15 - sec / 200 }) s
     s.past (s.session 1023).lastFrame (s.rdN K.dictDapIdle * sec) = true ∧ (s.session 1023).segKey.isSome = true ∧
     s.past (s.session 1023).lastRefill (sec / max 1 (s.rdN K.dictDapRate)) = true ∧ (s.session 1023).tokens < s.rdN K.dictDapBurst ∧
     (put [(K.dictDapBurst, 3)] s).rdN K.dictDapBurst ≤ (s.session 1023).tokens) ∧
    (reqB 1 0 (dapReq 1 1 (le 2 0x2003 ++ le 1 1 ++ le 1 0 ++ le 4 0)) live = true ∧ reqB 8 0 (dapReq 8 0 []) live = true ∧ reqB 10 0 (dapReq 10 0 []) live = true ∧
     reqB 2 0 (dapReq 2 1 (le 2 0x2003 ++ le 1 1 ++ le 1 2 ++ le 4 1 ++ [1, 0, 0, 0])) live = true ∧
     reqB 6 0 (dapReq 6 1 (le 2 0 ++ le 2 1)) live = true ∧ reqB 9 0 (dapReq 9 1 (le 2 0x2003 ++ le 1 1 ++ le 1 0 ++ le 4 0)) live = true ∧
     reqB 4 0 (dapReq 4 1 (le 2 0x2003 ++ le 1 1 ++ le 1 0 ++ le 2 0 ++ le 2 0 ++ le 4 0)) live = true ∧
     reqB 5 0 (dapReq 5 1 (le 2 0x2003 ++ le 1 1 ++ le 1 0 ++ le 2 0 ++ le 2 0 ++ le 4 0)) live = true ∧
     reqB 3 0 (dapReq 3 1 (le 2 0x2003 ++ le 1 1 ++ le 1 2 ++ le 4 1 ++ [1, 0, 0, 0])) live = true) ∧
    (updSession 0 (fun x => { x with tokens := 0 }) live).dapServes = true := by decide +kernel

theorem test_witness_OpticalPort :
    (let s := put [(K.optState, 1), (K.optIdle, 60), (K.optEnable, 1)] (updOpt (fun x => { x with isOpen := true, lastFrame := 10 ^ 15 - 60 * sec }) live)
     s.opt.isOpen = true ∧ s.rdN K.optState ≠ 2 ∧ s.past s.opt.lastFrame (s.rdN K.optIdle * sec) = true ∧ s.ghRuns = true ∧ s.on K.optEnable = true ∧
     s.opt.floodRun < 19) := by decide +kernel

theorem test_witness_Recorder :
    (let s := put [(K.storState, Sto.ready), (K.partState 2, 0)] { live with recd := { ring := [{ ty := Ty.pad }, { ty := 1, seq := 5 }] } }
     s.writeCode 2 = Err.ok ∧ s.recd.ring.find? (fun e => e.ty ≠ Ty.pad && !e.archived) = some { ty := 1, seq := 5 }) ∧
    (let s := put [(K.recFrozen, 1)] { live with recd := { frozenAt := 10 ^ 15 - 10000 * ms } }
     s.rdN K.recFrozen = 1 ∧ s.past s.recd.frozenAt (10000 * ms) = true) ∧
    admits [(K.recFreeze, [1]), (K.recFreeze, [0]), (K.recqQuery, List.replicate 16 0), (K.recClearToken, List.replicate 128 0)] live = true ∧
    (let s := put [(K.commIdSerial, 0), (K.recSeqNext, 1), (K.storState, Sto.ready)] live
     let v := List.replicate 4 0 ++ s.blobOf K.recClearNonce ++ List.replicate 108 0
     fieldAt v 0 4 = s.rdN K.commIdSerial ∧ slice v 4 16 = s.blobOf K.recClearNonce ∧ byteAt v 28 = 0 ∧ fieldAt v 29 3 = 0 ∧ fieldAt v 20 8 < s.rdN K.recSeqNext ∧
     s.clearable = true) ∧
    (let u := put [(K.recKeyswitch, 1), (K.recSeqNext, 1), (K.storState, Sto.ready)] { live with opt := { isOpen := true, role := .engineer } }
     (u.caller .optical).isSome = true ∧ u.checkWrite .optical (K.recClearKeyswitch / 256) (K.recClearKeyswitch % 256) (le 8 0) = Err.ok ∧
     0 < u.rdN K.recSeqNext ∧ u.clearable = true) := by decide +kernel

theorem test_witness_Historian :
    (let s := { live with hist := { overflow := some 1 } }
     s.hist.overflow.isSome = true ∧ s.hist.overflowing = false) ∧
    (let s := { live with hist := { overflow := some 1, overflowing := true } }
     s.hist.overflowing = true ∧ (histDrain s).rdN K.histBufferUsed < histBufferBytes / 2) ∧
    admits [(K.histTagTable 3 63, List.replicate 8192 0), (K.histqQuery, List.replicate 32 0)] live = true ∧
    (let v := le 2 5 ++ [0, 0] ++ le 2 0xFFFF ++ le 2 2000 ++ List.replicate 24 0
     let s := put [(K.storState, Sto.ready), (K.partState 3, 0)] live
     admits [(K.histqQuery, v)] s = true ∧ fieldAt v 6 2 = 2000 ∧ visibleTo { role := .owner, safety := true } (s.tagOwner 5) = true ∧ s.readCode 3 = Err.ok ∧
     s.mirrors = false) := by decide +kernel

/-! ### Keys, storage, updates, time, switch and CAN -/

theorem test_witness_KeysMonitorsAndEntropy :
    admits [(K.lcVoucher, List.replicate 312 0), (K.lcToken, List.replicate 128 0), (K.keysServicePub, List.replicate 97 0), (K.dbgToken, List.replicate 128 0),
      (K.dbgClose, [1]), (K.alarmAck, [1])] live = true ∧
    ({ live with opt := { isOpen := true } } : State).opt.isOpen = true ∧ byteAt (List.replicate 20 0 ++ [5]) 20 = 5 ∧
    (let s := put [(K.dbgState, 1)] { live with tb := [(3, { val := 7000000000 * 65536 })], sec := { dbgExpiry := 7 } }
     s.rdN K.dbgState = 1 ∧ s.sec.dbgExpiry ≤ s.tbNs 3 / 1000000000) ∧
    (let s := { live with sec := { eraseBy := some (0, true) } }
     s.ghRuns = true ∧ s.sec.eraseBy.isSome = true ∧ s.sec.destroyedAt = none) ∧
    (let s := { live with sec := { destroyedAt := some (10 ^ 15 - sec) } }
     s.mode ≠ Mode.icehouse ∧ s.past (10 ^ 15 - sec) sec = true) ∧
    (let s := put [(K.rngState, Rng.ready)] { live with sec := { reseedAt := 10 ^ 15 - 1000 * ms } }
     s.rdN K.rngState = Rng.ready ∧ s.reseedDue = true) := by decide +kernel

/-- The storage engine READY, die 63 with 16 blocks. -/
def stored : State := put [(K.storState, Sto.ready), (K.partState 0, 0), (K.partState 3, 0), (K.partState 4, 0), (K.partState 6, 0), (K.dieState 63, 1), (K.dieBlocks 63, 16),
  (K.diePageBytes 63, 16384), (K.storRebuildRate, 1024), (K.diePeLimit 63, 3000), (K.storReadDisturbLimit, 100), (K.storScrubInterval, 24),
  (K.storRetentionAge, 30), (K.quotaStore 255, 65536)] live

theorem test_witness_StorageEngine :
    (stored.readCode 0 = Err.ok ∧ stored.onDie 63 15 = true ∧ stored.writeCode 6 = Err.ok ∧ (stored.nblk 63 15).retired = false) ∧
    (put [(K.partState 0, 3)] stored).readCode 0 ≠ Err.ok ∧ stored.stoReads = true ∧ stored.mayMove = true ∧
    (let s := { stored with sto := { rebuild := [63], stripeAt := 0 } }
     s.sto.cursor + 1 < 2 ∧ s.past s.sto.stripeAt (s.rdN (K.diePageBytes 63) * 1000 / max 1 (s.rdN K.storRebuildRate)) = true) ∧
    (let s := { stored with sto := { blocks := [(63 * 65536 + 1, { valid := true, due := true })] } }
     s.rdN (K.diePeLimit 63) < 10 * (301 - (s.nblk 63 1).erases) ∧ 0 < s.rdN (K.dieBlocks 63)) ∧
    stored.past stored.sto.scrubAt (stored.rdN K.storScrubInterval * 3600 * sec / max 1 2) = true ∧
    (let s := put [(K.storState, Sto.held_)] { live with pow := { pfail := true }, sto := { stuckAt := some (10 ^ 15 - 100 * ms) } }
     s.stor = Sto.held_ ∧ s.pow.pfail = true ∧ s.sto.stuckRaised = false ∧ s.past (10 ^ 15 - 100 * ms) (100 * ms) = true) ∧
    (let s := put [(K.storState, Sto.mounting)] { live with pow := { verified := true } }
     s.stor = Sto.mounting ∧ s.pow.verified = true ∧ s.pow.pfail = false) := by decide +kernel

theorem test_witness_PartitionsAndStore :
    (let q : StoReq := { pav := 255, op := 3, off := 0, buf := 0, len := 4096, rec_ := 0 }
     let s := { stored with sto := { reqs := [q], resize := some (6, 1), incomplete := [(255, 1)] } }
     s.sto.resize = some (6, 1) ∧ s.mayMove = true ∧ s.sto.reqs.find? (fun q => q.pav = 255) = some q ∧ s.sto.reqs.find? (fun q => q.pav = 0) = none ∧
     s.readCode 4 = Err.ok ∧ s.writeCode 4 = Err.ok ∧ s.notCopied 0 0 4096 = false ∧ Tab.get s.sto.incomplete 255 0 = 1 ∧ Tab.get s.sto.incomplete 0 0 = 0 ∧
     s.mirrors = false ∧ 4096 * 1 < s.rdN (K.quotaStore 255)) ∧
    (let s := put [(K.modeNow, Mode.standby)] { stored with pair := { op := 1 } }
     s.pairOp = true ∧ s.mode = Mode.standby ∧ s.stoWrites = true ∧ s.pow.flushing = false) ∧
    base.rangeWritable 30 0x110000 8 = true ∧
    admits [(K.partSize 4, le 4 1)] live = true := by decide +kernel

theorem test_witness_FieldUpdate :
    admits [(K.updStart, [1]), (K.updStart, [2]), (K.updActivate, [1]), (K.updActivate, [2]), (K.updPrepared, le 4 0), (K.updPartImage 8, [0])] live = true ∧
    (let s := put [(K.updState, 1), (K.lcState, 2)] live
     let s := (List.range 8).foldl (fun s k => put [(K.updPartState k, 0)] s) (put [(K.updPartState 8, 2)] s)
     s.partTurn 8 = true ∧ (put [(K.updPartState 8, 4)] s).rdN (K.updPartState 8) = 4) ∧
    (let s := put [(K.modeNow, Mode.update)] { live with upd := { activating := some 1 } }
     s.mode = Mode.update ∧ s.upd.activating.isSome = true) ∧
    (let s := put [(K.updTrialLimit, 600)] { live with upd := { trial := true, trialAt := 10 ^ 15 - 600 * 1000 * ms } }
     s.upd.trial = true ∧ s.ghRuns = true ∧ s.trialEnd ≤ s.now ∧ s.now ≤ s.trialEnd ∧ s.trialPassed = false) ∧
    (let s := put ([6, 7, 8, 9, 10].map (fun k => (K.startupMilestone (k - 1), 1))) { stored with isl := { startupOk := true } }
     s.trialPassed = true) := by decide +kernel

theorem test_witness_TimeBases :
    admits [(K.tbStep 7, le 8 0), (K.tbSet 7, le 12 0), (256 * (0x4900 + 7) + 1, [0]), (256 * (0x4900 + 7) + 2, [0]), (256 * (0x4900 + 7) + 4, le 8 0),
      (K.tbDeclare 7, [1])] live = true ∧
    (let s := put [(K.ptpEnable 3, 1), (K.ptpPorts 3, 512), (K.ptpState 3, 3), (K.ptpHoldover 3, 5)]
      { live with net := { ptp := [(3, { locked := true, lastSync := 10 ^ 15 - 5 * ms })] } }
     s.timeRuns = true ∧ s.on (K.ptpEnable 3) = true ∧ bitOf (s.rdN (K.ptpPorts 3)) 9 = true ∧ bitOf (s.rdN (K.ptpPorts 3)) 0 = false ∧ s.rdN (K.ptpState 3) = 3 ∧
     (s.ptp 3).locked = true ∧ s.past (s.ptp 3).lastSync (s.rdN (K.ptpHoldover 3) * ms) = true) ∧
    live.past live.sec.rtcAt (1000 * ms) = true ∧
    (let s := { live with net := { pps := [(1, { seen := true, edgeAt := 10 ^ 15 - 1500 * ms })] } }
     (s.pps 1).seen = true ∧ s.past (s.pps 1).edgeAt (1500 * ms) = true) ∧
    (let s := put [(K.ppsoutTimeBase 1, 3), (K.ppsoutEnable 1, 1), (K.ppsoutOffsetNs 1, 999999999), (K.ppsoutGateUnsync 1, 0)] (tbAt 3 1999999999 live)
     s.mode ≠ Mode.boot ∧ s.on (K.ppsoutEnable 1) = true ∧ s.tbNs 3 % 1000000000 = s.rdN (K.ppsoutOffsetNs 1) ∧ Tab.get s.net.stepAt 3 0 ≠ s.now + 1 ∧
     s.on (K.ppsoutGateUnsync 1) = false) ∧
    (let s := put [(K.cwState, 0)] { live with pair := { op := 1, downAt := 10 ^ 15 - 1000 * ms } }
     s.pairOp = true ∧ s.rdN K.cwState = 0 ∧ s.past s.pair.downAt (1000 * ms) = true) ∧
    (let s := put [(K.timeLeap, 1), (K.timeUtcOffset, 37)] (tbAt 3 (86437 * 1000000000) live)
     s.rdN K.timeLeap = 1 ∧ ((s.tbNs 3 / 1000000000 : Nat) - s.rd K.timeUtcOffset) % 86400 = 0) := by decide +kernel

theorem test_witness_EthernetSwitch :
    (let s := put [(K.portSpeed 7, 3), (K.portEnable 9, 1), (K.portState 9, 0), (K.portEnable 7, 1), (K.portState 7, 0), (K.redMode 0, 0), (K.redMode 1, 0)] live
     s.swRuns = true ∧ s.rdN (K.portSpeed 7) ≠ 6 ∧ s.rdN (K.portSpeed 7) ≠ 0 ∧ (s.swPort 7).queue = [] ∧ (s.swPort 7).sending = none ∧ s.portUp 7 = true ∧
     s.rdN (K.portState 7) ≠ 1 ∧ s.redOf 7 = none) ∧
    (let s := { live with net := { streams := [(4095, { taken := true, takenAt := 10 ^ 15 - 100 * ms })], pollAt := 10 ^ 15 - 10 * us } }
     (s.strm 4095).taken = true ∧ s.past (s.strm 4095).takenAt (100 * ms) = true ∧ s.past s.net.pollAt (10 * us) = true) ∧
    (let s := put [(K.redMode 1, 1), (K.redLifeCheck 1, 2000)] live
     s.rdN (K.redMode 1) ≠ 0 ∧ s.past (s.red 1).superAt (s.rdN (K.redLifeCheck 1) * ms) = true ∧ s.past (s.red 1).heardB (3 * s.rdN (K.redLifeCheck 1) * ms) = true) ∧
    (let g : TxFrame := { bytes := List.replicate 60 0 }
     let s := put [(K.portSpeed 7, 3), (K.portPreemptState 7, 0), (K.portPreempt 7, 1)] { live with net := { ports := [(7, { sending := some g, startAt := 0 })] } }
     (s.swPort 7).sending = some g ∧ s.past (s.swPort 7).startAt (s.wireNs 7 g.len) = true ∧ s.rdN (K.portPreemptState 7) ≠ 2 ∧ s.rdN (K.portPreempt 7) ≠ 0) ∧
    (let g : GateList := { tb := 1, start := 5 }
     let s := fun (n : Nat) => tbAt 1 n { live with net := { ports := [(7, { pend := some g })] } }
     ((s 4).swPort 7).pend = some g ∧ (s 4).listTime g.tb < g.start ∧ g.start ≤ (s 5).listTime g.tb) ∧
    (live.swPort 9).sending = none ∧ (live.swPort 7).pend = none ∧
    admits [(K.swFdbFlush, [1]), (K.gateApply 7, [1])] live = true := by decide +kernel

theorem test_witness_CanControllers :
    admits [(K.canEnable 7, [1]), (K.canEnable 7, [0]), (K.canRecover 7, [1])] live = true ∧
    (let s := put [(K.canState 7, Can.passive), (K.canNodeId 7, 0), (K.modeNow, Mode.standby)]
      { live with pair := { op := 1 }, blob := [(K.canobjTable 7 7, List.replicate 2040 0 ++ [5, 0, 0, 128, 30, 0, 0, 0])] }
     (s.canSt 7).waiting = false ∧ s.canHears 7 = true ∧ s.restricted = true ∧ s.objsOn 7 = [2047] ∧
     (s.objsOn 7).find? (fun n => Ob.ide (s.objRec 7 n) = false && Ob.id (s.objRec 7 n) = 5) = some 2047 ∧
     (s.objsOn 7).find? (fun n => Ob.ide (s.objRec 7 n) = false && Ob.id (s.objRec 7 n) = 6) = none ∧ s.engineKeeps 7 { ide := false, id := 6 } = false ∧
     Ob.owner (s.objRec 7 2047) = 30) ∧
    (let s := put [(K.canState 7, Can.active)] live
     s.canHears 7 = true ∧ s.restricted = false ∧ s.canRuns = true ∧ 1 ≤ s.canSt8 7 ∧ s.canSt8 7 ≤ 3) ∧
    (let s := put [(K.canState 7, Can.stuck)] { live with can := [(7, { stuckAt := 10 ^ 15 - 10 * ms })] }
     s.canSt8 7 = Can.stuck ∧ s.past (s.canSt 7).stuckAt ((s.canSt 7).retryMs * ms) = true ∧ s.canSt8 7 ≠ Can.disabled ∧ s.canSt8 7 ≠ Can.fault) ∧
    (let s := put [(K.canState 7, Can.busOff), (K.canAutoRecover 7, 1)] live
     s.canSt8 7 = Can.busOff ∧ s.on (K.canAutoRecover 7) = true) ∧
    (let s := { live with can := [(7, { objs := [(2047, { holder := some 0, lockAt := 10 ^ 15 - 100 * us })] })] }
     (s.obj 7 2047).holder = some 0 ∧ s.past (s.obj 7 2047).lockAt (100 * us) = true) := by decide +kernel

theorem test_witness_CanEngine :
    (let t : TxBuf := { q := 15 }
     let s := put [(K.canState 7, Can.active), (K.canOrder 7, 0), (K.canNodeId 7, 127), (K.canNmtState 7, Nmt.preop)]
      { live with can := [(7, { heads := [(15, some t)], bufs := [(2, some t)] })] }
     (s.canSt 7).waiting = false ∧ s.canFeeds 7 = true ∧ (s.fillChoice 7).isSome = true ∧ s.canHears 7 = true ∧ s.restricted = false ∧ (s.canSt 7).sending = none ∧
     s.startChoice 7 = some (2, t) ∧ s.rdN (K.canNodeId 7) ≠ 0 ∧ s.rdN (K.canNmtState 7) ≠ Nmt.init) ∧
    ((updCan 7 (fun x => { x with sending := some 2 }) live).canSt 7).sending = some 2 ∧
    (let s := put [(K.canState 7, Can.active), (K.canNodeId 7, 127), (K.canNmtState 7, Nmt.operational), (K.commHbProducer 7, 1000), (K.commHbConsumer 7 7, 5 * 65536 + 100),
       (K.commSyncCobid 7, 2 ^ 30 + 128), (K.commCycle 7, 1000), (K.commRpdoCobid 511, 0x27F), (K.commRpdoType 511, 255), (K.commRpdoEvent 511, 10),
       (K.commTpdoType 511, 254), (K.commTpdoEvent 511, 10), (K.commTpdoInhibit 511, 0)] (updTpdo 7 63 (fun x => { x with changed := true }) live)
     let s := (List.range 64).foldl (fun s j => put [(K.commRpdoMap 511 j, if j = 0 then 0x20000108 else 0)] s) s
     s.past (s.canSt 7).hbAt (s.rdN (K.commHbProducer 7) * ms) = true ∧ bits (s.rdN (K.commHbConsumer 7 7)) 15 0 = 100 ∧
     s.past (Tab.get (s.canSt 7).heardAt 7 0) (100 * ms) = true ∧ Tab.get (s.canSt 7).lapsed 7 false = false ∧
     bitOf (s.rdN (K.commSyncCobid 7)) 30 = true ∧ s.past (s.canSt 7).syncAt (s.rdN (K.commCycle 7) * us) = true ∧
     cobValid (s.rdN (K.commRpdoCobid 511)) = true ∧ mapBytes (s.pdoMap (K.commRpdoMap 511)) = 1 ∧ 240 < s.rdN (K.commRpdoType 511) ∧
     (s.rpdo 7 63).timeout = false ∧ s.past (s.rpdo 7 63).at_ (s.rdN (K.commRpdoEvent 511) * ms) = true ∧ 254 ≤ s.rdN (K.commTpdoType 511) ∧
     s.past (s.tpdo 7 63).sentAt (s.rdN (K.commTpdoEvent 511) * ms) = true ∧ (s.tpdo 7 63).changed = true ∧ s.inhibitOver 7 63 = true) := by decide +kernel

/-! ### Field blocks -/

/-- The field outputs may be driven. -/
def driving : State := { live with fld := { cfgLoaded := true, mated := true } }

theorem test_witness_DigitalIo :
    (let s := put [(K.diState 127, 0), (K.diDebounce 127, 100)] live
     s.fieldPowered = true ∧ true ≠ bitOf (s.rdN (K.diState 127)) 0 ∧ s.rdN (K.diDebounce 127) * us ≤ 100000 ∧ 99999 < s.rdN (K.diDebounce 127) * us) ∧
    admits [(K.doAck 95, [1])] live = true ∧
    (put [(K.diOwner 127, 30)] live).checkWrite (.window 30) (K.diEdges 127 / 256) (K.diEdges 127 % 256) (le 4 0) = Err.ok ∧
    (let s := put [(K.doState 95, 2), (K.doOcDelay 95, 10), (K.doFault 95, 0), (K.doDiagEnable 95, 4), (K.fsupVoltage 7, 24000)] driving
     bitOf (s.rdN (K.doState 95)) 1 = true ∧ s.rdN (K.doOcDelay 95) ≤ 10 ∧ bitOf (s.rdN (K.doFault 95)) 5 = false ∧ bitOf (s.rdN (K.doState 95)) 2 = false ∧
     bitOf (s.rdN (K.doDiagEnable 95)) 2 = true ∧ s.past (s.doCh 95).cmdAt (200 * us) = true ∧ 20999 + 3000 < s.rdN (K.fsupVoltage (doGroup 95))) ∧
    (let s := put [(K.doRetry 95, 10), (K.doMode 95, 0), (K.doState 95, 0), (K.doFault 95, 0), (K.doDiagEnable 95, 1)] driving
     let s := updDo 95 (fun d => { d with wait := some (10 ^ 15 - 10 * ms) }) s
     s.rdN (K.doRetry 95) ≠ 0 ∧ (s.doCh 95).wait = some (10 ^ 15 - 10 * ms) ∧ s.past (10 ^ 15 - 10 * ms) (s.rdN (K.doRetry 95) * ms) = true ∧
     s.rdN (K.doMode 95) = 0 ∧ (s.doCh 95).hot = false ∧ (s.doCh 95).hotTimes = [] ∧ bitOf (s.rdN (K.doState 95)) 1 = false ∧ s.roleDrives = true ∧ s.fieldOn = true ∧
     bitOf (s.rdN (K.doDiagEnable 95)) 0 = true ∧ s.past (s.doCh 95).testAt (100 * ms) = true ∧ s.past (Tab.get s.fld.supAt (doGroup 95) 0) (3 * ms) = true) ∧
    (let s := put [(kSupState 8, 0), (K.adcStatus 4, 0)] live
     supplyState (s.rdN (kSupState 8)) 36000 = 3 ∧ supplyHold 0 3 ≤ 1000 ∧ 999 < supplyHold 0 3 ∧ bitOf (s.rdN (K.adcStatus 4)) 3 = false) ∧
    (let s := put [(K.aoHold 15, 10)] { live with fld := { hold := [(55, { committed := true, lc := 10 ^ 15 - 10 * ms })] } }
     s.blockDue 55 = true) ∧
    (let s := put [(kPavState 255, Prog.hold), (K.pavHoldLimit 255, 60)] (updPav 255 (fun v => { v with holdAt := 10 ^ 15 - 60 * ms }) live)
     s.pavState 255 = Prog.hold ∧ s.past (s.pav 255).holdAt (s.rdN (K.pavHoldLimit 255) * ms) = true ∧ (put [(kPavState 255, Prog.stop)] s).pavState 255 = Prog.stop) :=
  by decide +kernel

theorem test_witness_IoLinkPorts :
    admits [(K.iolMode 31, [1])] live = true ∧
    (let s := put [(K.iolState 31, Iols.startup), (K.iolCom 31, 0), (K.iolMode 31, 2), (K.iolVendorId 31, 5), (K.iolDeviceId 31, 6), (K.iolInLen 31, 4), (K.iolOutLen 31, 2),
       (K.iolCycle 31, 40)] live
     s.rdN (K.iolState 31) = Iols.startup ∧ s.rdN (K.iolCom 31) = 0 ∧ (s.iol 31).attempts = 0 ∧ (put [(K.iolCom 31, 3)] s).rdN (K.iolCom 31) ≠ 0 ∧
     s.rdN (K.iolMode 31) = 2 ∧ 5 = s.rdN (K.iolVendorId 31) ∧ 4 = s.rdN (K.iolInLen 31) ∧ 39 < s.rdN (K.iolCycle 31) ∧ 40 ≤ s.rdN (K.iolCycle 31)) ∧
    (put [(K.iolState 31, Iols.preoperate)] live).rdN (K.iolState 31) = Iols.preoperate ∧
    (put [(K.iolState 31, Iols.operate)] live).rdN (K.iolState 31) = Iols.operate ∧ (live.iol 31).fails < 2 ∧
    (let s := put [(K.iolState 31, Iols.fault)] (updIol 31 (fun x => { x with faultAt := 10 ^ 15 - sec, isdu := some { at_ := 10 ^ 15 - 5 * sec } }) live)
     s.rdN (K.iolState 31) = Iols.fault ∧ s.past (s.iol 31).faultAt sec = true ∧ (s.iol 31).isdu = some { at_ := 10 ^ 15 - 5 * sec }) := by decide +kernel

/-- A request in a modem's hand. -/
def req : BufReq := { at_ := 10 ^ 15 - 5 * sec }

theorem test_witness_HartModems :
    admits [(K.hartEnable 47, [1])] live = true ∧
    (let s := put [(K.hartState 47, Hst.acquiring), (K.hartFlags 47, 0)] (updHart 47 (fun h => { h with job := 1, quietUntil := 10 ^ 15 }) live)
     s.rdN (K.hartState 47) = Hst.acquiring ∧ (s.hart 47).waiting = false ∧ (s.hart 47).job = 1 ∧ s.rdN (K.hartFlags 47) % 2 = 0 ∧ (s.hart 47).quietUntil ≤ s.now ∧
     s.activeLike = true) ∧
    (let f : Bytes := [0x86, 0, 0, 0, 0, 1, 12, 2, 0, 0, 0x89]
     let al := if bitOf (byteAt f 0) 7 then 5 else 1
     let body := (f.drop (3 + al)).take (f.length - 4 - al)
     4 + al ≤ f.length ∧ byteAt f (2 + al) = body.length ∧ hartSum (f.take (f.length - 1)) = f.getD (f.length - 1) 0 ∧ byteAt f 0 % 8 = 6) ∧
    (let s := put [(K.hartState 47, Hst.inService), (K.hartFlags 47, 0), (K.hartAutoCmd 47, 0x8003), (K.hartAutoPeriod 47, 1000)]
      (updHart 47 (fun h => { h with waiting := true, sentAt := 10 ^ 15 - hartTime 28, job := 3, req := some req }) live)
     s.rdN (K.hartState 47) ≠ Hst.disabled ∧ (s.hart 47).waiting = true ∧ (s.hart 47).job = 3 ∧ (s.hart 47).req = some req ∧ s.past (s.hart 47).sentAt (hartTime 28) = true ∧
     bitOf (s.rdN (K.hartAutoCmd 47)) 15 = true ∧ s.past (s.hart 47).autoAt (s.rdN (K.hartAutoPeriod 47) * ms) = true ∧ s.past req.at_ (5 * sec) = true) ∧
    (let s := put [(K.hartState 47, Hst.noDevice), (K.hartFlags 47, 1)] (updHart 47 (fun h => { h with noisyAt := 10 ^ 15 - 50 * ms, stateAt := 10 ^ 15 - 10 * sec }) live)
     s.rdN (K.hartFlags 47) % 2 = 1 ∧ s.past (s.hart 47).noisyAt (50 * ms) = true ∧ s.rdN (K.hartState 47) = Hst.noDevice ∧ s.past (s.hart 47).stateAt (10 * sec) = true) :=
  by decide +kernel

theorem test_witness_AnalogChannels :
    admits [(K.adcStart 3, [1]), (K.aoAck 15, [1])] live = true ∧
    (let s := put [(K.adcTrigger 3, 1), (K.adcPeriod 3, 100), (K.adcStatus 3, 1), (K.adcSelftestInterval 3, 1000)]
      (updAdc 3 (fun x => { x with lastTrig := 10 ^ 15 - 100 * us, left := [12], settledAt := 10 ^ 15 - 2 * us, stPending := true, stNext := 12 }) live)
     s.rdN (K.adcTrigger 3) = 1 ∧ s.past (s.adc 3).lastTrig (s.rdN (K.adcPeriod 3) * us) = true ∧ (s.adc 3).left.head? = some 12 ∧ adcSettled (s.rdN (K.adcStatus 3)) = true ∧
     s.past (s.adc 3).settledAt (2 * us) = true ∧ (s.adc 3).stPending = true ∧ 12 = (s.adc 3).stNext ∧
     s.past (s.adc 3).lastSt (s.rdN (K.adcSelftestInterval 3) * ms) = true) ∧
    (let s := put [(K.adcStatus 3, 0), (K.adcRef 3, 1), (K.adcArefMv 3, 2500)] (updAdc 3 (fun x => { x with clearedAt := 10 ^ 15 - 200 * us }) live)
     adcSettled (s.rdN (K.adcStatus 3)) = false ∧ s.past (s.adc 3).clearedAt (200 * us) = true ∧ s.extSettled 3 (List.replicate 16 32768) = true ∧
     s.past (s.adc 3).refTestAt (100 * ms) = true) ∧
    ((List.replicate 32 4095).length = 32 ∧ (List.replicate 32 4095).all (· < 4096) = true) ∧
    (let s := put [(K.aiFlags 31, 0)] ((List.range 32).foldl (fun s k => put [(K.aiMode k, if k = 31 then 1 else 0)] s) live)
     s.rdN (K.aiMode 31) = 1 ∧ (∀ k < 32, k ≠ 31 → s.rdN (K.aiMode k) = 0) ∧ bitOf (s.rdN (K.aiFlags 31)) 1 = false ∧ s.past (s.ai 31).lastConv (100 * ms) = true ∧
     ∀ k < 32, (put [(K.aiMode 31, 0)] s).rdN (K.aiMode k) = 0) ∧
    (let s := put [(K.aoFault 15, 0), (K.aoOutPoint 15, 0x80000000), (K.adcStatus 4, 0), (K.aoOutMa 15, 0x41200000), (K.aoReadbackMa 15, 0x3F000000)]
       (updAo 15 (fun x => { x with fromOpen := false, target := 0x40600000, changedAt := 10 ^ 15 - 100 * ms, leftOpen := 10 ^ 15 - 100 * ms }) driving)
     s.aoOpen 15 = false ∧ bitOf (s.rdN (K.adcStatus 4)) 3 = false ∧ f32.lt (frat 1 2) (fsub (s.rdN (K.aoOutMa 15)) (s.rdN (K.aoReadbackMa 15))) = true ∧
     s.past (s.ao 15).changedAt (100 * ms) = true ∧ s.past (s.ao 15).leftOpen (100 * ms) = true ∧ s.aoOff 15 1 5 = true ∧ (s.ao 15).fromOpen = false ∧
     f32.le (frat 7 2) (s.ao 15).target = true ∧ f32.lt (s.rdN (K.aoReadbackMa 15)) (f32.ofInt 1) = true) := by decide +kernel

/-! ### Supplies, start-up and modes -/

theorem test_witness_Supplies :
    vlogicRated 36001 = false ∧ vlogicRated (-20001) = false ∧ vlogicRated 36000 = true ∧
    (let s := put [(K.modeNow, Mode.icehouse)] { live with pow := { precharged := true } }
     s.mode = Mode.icehouse ∧ s.pow.precharged = true ∧ s.sec.vbatLost = false) ∧
    (let s := put [(K.pwrVlogicState, 0), (K.pwrSeated, 3), (K.clkState 10, 1), (K.clkState 26, 1)] { live with fld := { mated := true }, pow := { stopped := [27] } }
     s.mode ≠ Mode.icehouse ∧ s.ghRuns = true ∧ s.rdN K.pwrVlogicState = 0 ∧ bitOf (s.rdN K.pwrSeated) 1 = true ∧ s.fld.mated = true ∧ pllDomain 11 = true ∧
     pllDomain 27 = true ∧ s.rdN (K.clkState 26) ≠ 4 ∧ Tab.get s.pow.lockLost 27 [] = [] ∧ s.pow.stopped.contains 27 = true) ∧
    (let s := put [(K.pwrSeated, 3)] { live with pow := { seat2At := some (10 ^ 15 - 100 * ms), heldReset := true } }
     s.fld.mated = false ∧ bitOf (s.rdN K.pwrSeated) 0 = true ∧ 100 * ms ≤ s.now ∧ s.pow.seat2At.any (fun t => s.past t (100 * ms)) = true) := by decide +kernel

theorem test_witness_DroopAndWake :
    (live.ghRuns = true ∧ live.mode ≠ Mode.dormant ∧ live.pow.throttle = false ∧ live.pow.stretch = false ∧ live.pow.usedNs < 5000 ∧ live.classOn 0 = true ∨
      live.past live.pow.budgetAt ms = true) ∧
    (updPow (fun p => { p with throttle := true, stretch := true }) live).pow.throttle = true ∧
    (let s := put [(K.modeNow, Mode.dormant), (K.wakeSources, 15), (K.wakeAlarm, 2 ^ 48), (K.wakeNetPorts, 16), (K.wakeCanMask, 128)]
      { live with blob := [(K.svcethMac, [1, 2, 3, 4, 5, 6])] }
     s.wakeArmed 0 = true ∧ s.rdN K.wakeAlarm ≠ 0 ∧ ofT96 (s.rdN K.wakeAlarm) ≤ s.rtcNow ∧ s.wakeArmed 1 = true ∧ bitOf (s.rdN K.wakeNetPorts) (8 - 4) = true ∧
     wakeFrame (s.blobOf K.svcethMac) ([1, 2, 3, 4, 5, 6, 9, 9, 9, 9, 9, 9, 8, 0x42] ++ List.replicate 6 255 ++ (List.replicate 16 [1, 2, 3, 4, 5, 6]).flatten) = true ∧
     s.wakeArmed 2 = true ∧ bitOf (s.rdN K.wakeCanMask) 7 = true ∧ s.wakeArmed 3 = true) ∧
    (put [(K.vbatState, 0)] live).rdN K.vbatState ≠ 2 := by decide +kernel

theorem test_witness_StartUp :
    (let s := State.reset
     s.mode = Mode.boot ∧ s.pow.good = true ∧ s.pow.heldReset = false ∧ s.pow.rails = false ∧ s.starting = true ∧ s.pow.seeded = false) ∧
    (let s := updPow (fun p => { p with rails := true }) State.reset
     s.mode = Mode.boot ∧ s.pow.rails = true ∧ s.pow.released = false) ∧
    (let s := updPow (fun p => { p with rails := true, released := true }) State.reset
     s.starting = true ∧ s.pow.released = true ∧ s.pow.wiped = false ∧ s.pow.seeded = false ∧ s.pow.verified = false ∧ s.pow.pfail = false ∧ s.pow.formed = false ∧
     s.upd.trial = false) ∧
    (let s := updPow (fun p => { p with released := true, seeded := true }) State.reset
     s.starting = true ∧ s.pow.seeded = true ∧ s.pow.trained = false) ∧
    (let s := updPow (fun p => { p with trained := true }) State.reset
     s.pow.trained = true ∧ s.pow.filled = false ∧ s.ghRuns = true) ∧
    (let s := put [(K.safetyState, Isl.startup)] live
     s.rdN K.safetyState = Isl.startup ∧ s.upd.trial = false) ∧
    (let s := put [(K.pwrPfail, 0)] { live with pow := { flushing := true } }
     s.pow.flushing = true ∧ s.sto.flushed = false ∧ s.pow.pfail = false ∧ s.ghRuns = true ∧ s.rdN K.pwrPfail = 0) := by decide +kernel

theorem test_witness_GatehouseModes :
    admits [(K.modecmdService, [1]), (K.modecmdService, [0]), (K.modecmdDormant, [1]), (K.modecmdReset, [0x5A])] live = true ∧ live.ghRuns = true ∧
    (let s := put [(K.modeNow, Mode.service), (K.modecmdServiceLimit, 60)] { live with gate := { serviceAt := 10 ^ 15 - 60 * 60 * sec } }
     s.mode = Mode.service ∧ s.past s.gate.serviceAt (s.rdN K.modecmdServiceLimit * 60 * sec) = true) ∧
    (updPow (fun p => { p with dormantStep := 1 }) live).pow.dormantStep = 1 ∧ (updPow (fun p => { p with dormantStep := 2 }) live).pow.dormantStep = 2 ∧
    (let s := { live with gate := { resetAt := some (10 ^ 15) } }
     s.sec.pendingLc = none ∧ s.mode ≠ Mode.icehouse ∧ s.gate.resetAt.any (fun t => t ≤ s.now) = true) := by decide +kernel

theorem test_witness_ModuleWatchdog :
    (let s := fun (ago : Nat) (b : Bool) (a : Nat) => put [(K.wdtState, Mwdt.running)]
      { live with gate := { wdtS := 10 ^ 15 - ago, expectB := b, keyAAt := 10 ^ 15 - a } }
     (s (20 * ms) false 0).ghRuns = true ∧ (s (20 * ms) false 0).rdN K.wdtState = Mwdt.running ∧
     (s (20 * ms) true ms).gate.wdtS + (s (20 * ms) true ms).gate.wOpen * ms ≤ (s (20 * ms) true ms).now ∧
     (s (20 * ms) true ms).now ≤ (s (20 * ms) true ms).gate.keyAAt + ms ∧ (s (20 * ms) true (ms + 1)).gate.keyAAt + ms < (s (20 * ms) true (ms + 1)).now ∧
     (s (20 * ms - 1) true 0).now < (s (20 * ms - 1) true 0).gate.wdtS + (s (20 * ms - 1) true 0).gate.wOpen * ms ∧
     (s (100 * ms + 1) true 0).gate.wdtS + (s (100 * ms + 1) true 0).gate.wTimeout * ms < (s (100 * ms + 1) true 0).now) ∧
    (live.caller (.dap 0)).isSome = true ∧ live.findEntry { role := .owner, safety := true } 0x2003 4 = Err.ok ∧
    admits [(K.wdtKey, le 2 0x0D1E), (K.wdtLock, [1]), (K.wdtEnable, [1])] live = true := by decide +kernel

theorem test_witness_Environment :
    (let s := { live with gate := { critAt := [(31, 10 ^ 15 - sec + 1)], wearAt := 10 ^ 15 - 60 * sec, rhRaised := true, shock := some (1, 1, []) } }
     let s := put [(K.vibAlert, 0x40A00000), (K.vibShockLevel, 50), (K.envRh, 0), (K.envRhWarn, 800), (K.svcethEnable, 1), (K.svcethLink, 1)] s
     s.ghRuns = true ∧ Tab.get s.gate.critAt 31 0 ≠ 0 ∧ Tab.get s.gate.critAt 31 0 - 1 + sec ≤ s.now ∧ s.past s.gate.wearAt (60 * sec) = true ∧ s.gate.rhRaised = true ∧
     s.gate.shock = some (1, 1, []) ∧ f32.lt (s.rdN K.vibAlert) 0x40A00000 = false ∧ f32.le (frat (s.rdN K.vibShockLevel) 10) 0x40A00000 = true ∧
     s.rdN K.envRhWarn < 801 ∧ s.on K.svcethEnable = true ∧ s.rdN K.svcethLink ≠ 0 ∧ s.past s.gate.svcAt sec = true ∧ s.gate.rebaseAt = none ∧ 2 ≠ s.rdN K.svcethLink) ∧
    railState 17 0 = 2 ∧ Tab.get live.gate.rail 17 0 < 2 ∧ live.gate.shock = none ∧ live.gate.shock.isNone = true ∧
    admits [(K.contRebase, [1])] live = true := by decide +kernel

/-! ### Safety island, Trestles and pair -/

/-- The island OPERATIONAL, with an active configuration of a few entries. -/
def island (l : List (Nat × Int)) : State :=
  put [(K.safetyState, Isl.operational), (K.safetyCpuModeNow, 0)] { live with isl := { active := l, activated := true } }

/-- No pair and no output belongs to anything but what is listed. -/
def quiet : List (Nat × Int) :=
  (List.range 12).flatMap (fun i => [(K.spairType i, 0), (K.spairSource i, 0), (K.soutGroup i, if i = 11 then 5 else 255), (K.soutPulseWidth i, 300)])

theorem test_witness_SafetyInputs :
    (let s := island quiet
     s.rdN K.safetyState ≠ Isl.off ∧ s.rdN K.safetyState ≠ Isl.startup ∧ s.past s.isl.hbAt (2 * ms) = true ∧ s.rdN K.safetyCpuModeNow = 0 ∧
     ∀ i < 12, s.activeN (K.spairType i) = 0 ∧ s.activeN (K.spairSource i) = 0) ∧
    (let s := put [(K.spairState 11, 2)] (island [(K.spairType 11, 1), (K.spairFilter 11, 1000), (K.spairDiscrepancy 11, 500)])
     let s := updPairIn 11 (fun p => { p with since := 10 ^ 15 - 500 * ms }) s
     s.activeN (K.spairType 11) ≠ 0 ∧ s.activeN (K.spairFilter 11) ≤ 1000 ∧ chanEnable 1 0 1 = true ∧ chanEnable 1 1 1 = true ∧ pairConsistent 1 1 1 = true ∧
     pairConsistent 1 0 1 = false ∧ chanDemand 1 0 0 = true ∧ pairConsistent 1 0 0 = true ∧ s.rdN (K.spairState 11) = 2 ∧
     s.past (s.pairIn 11).since (s.activeN (K.spairDiscrepancy 11) * ms) = true) ∧
    (let s := put [(K.sencPosition 5, 0), (K.sencSpeedPp 5, 0), (K.sencSpeedSp 5, 0), (K.sencFault 5, 8)] (island [(K.sencType 5, 1), (K.sencInvert 5, 0), (K.sencMaxRate 5, 1000)])
     s.activeN (K.sencType 5) ≠ 0 ∧ s.activeN (K.sencInvert 5) = 0 ∧ ((1 : Int) * 1000).natAbs ≤ s.activeN (K.sencMaxRate 5) ∧ bitOf (s.rdN (K.sencFault 5)) 3 = true ∧
     s.past (Tab.get s.isl.encBad 43 0) (100 * ms) = true) ∧
    (let s := { live with isl := { torqueS := 32, groups := [(5, { differSince := some (10 ^ 15 - 10 * ms - 1) })] } }
     bitOf s.isl.torqueS 5 ≠ bitOf s.isl.torqueP 5 ∧ (s.grp 5).differSince.any (fun t => t + 10 * ms < s.now) = true) ∧
    (let s := put [(K.soutState 11, 0)] (island [])
     s.rdN (K.soutState 11) = 0 ∧ (put [(K.soutState 11, 2)] s).rdN (K.soutState 11) = 2) := by decide +kernel

theorem test_witness_SafetyOutputs :
    (let s := put [(K.sgroupState 5, Grp.sto), (K.sgroupLatch 5, 8)]
      (island ([(K.sgroupEnable 5, 1), (K.sgroupStoMask 5, 0), (K.sgroupSs1Mask 5, 0), (K.sgroupReqPoint 5, 0), (K.sgroupEncoderUsed 5, 0)] ++ quiet))
     s.resetAllowed 5 = true ∧ ((updGrp 5 (fun x => { x with press := some (100 * ms) }) s).grp 5).press.any (fun d => 100 * ms ≤ d && d ≤ 5 * sec) = true) ∧
    (let s := put [(K.sgroupState 5, Grp.enabling)] (island quiet)
     let at_ := fun (n ago : Nat) => updGrp 5 (fun x => { x with phase := n, seqAt := 10 ^ 15 - ago }) s
     s.outsOf 5 = [11] ∧ s.rdN (K.sgroupState 5) = Grp.enabling ∧ ((at_ 1 (2 * ms)).grp 5).phase = 1 ∧ (at_ 1 (2 * ms)).past ((at_ 1 (2 * ms)).grp 5).seqAt (2 * ms) = true ∧
     (at_ 2 (4 * ms)).past ((at_ 2 (4 * ms)).grp 5).seqAt (4 * ms) = true ∧ ((at_ 3 0).grp 5).phase = 3) ∧
    (let s := { live with isl := { torqueS := 32, torqueP := 1, tests := [(11, { phase := 1, t0 := 10 ^ 15 - 300 * us }), (10, { phase := 2, t1 := 10 ^ 15 - 200 * us })] } }
     bitOf s.isl.torqueS 5 = true ∧ bitOf s.isl.torqueP 5 = false ∧ bitOf s.isl.torqueP 0 = true ∧ bitOf s.isl.torqueS 0 = false ∧ (s.outTest 11).phase = 1 ∧
     s.past (s.outTest 11).t0 (300 * us) = true ∧ (s.outTest 10).phase = 2 ∧ s.past (s.outTest 10).t1 (200 * us) = true) ∧
    (let s := island [(K.safetyPulsePeriod, 1000), (K.soutPulseWidth 11, 300)]
     s.rdN K.safetyState = Isl.operational ∧ false ≠ s.isl.slotP ∧ s.past s.isl.slotAt (s.activeN K.safetyPulsePeriod * ms / 2) = true ∧ s.activeN (K.soutPulseWidth 11) = 300) :=
  by decide +kernel

theorem test_witness_SafetyConfiguration :
    safetyKeys.contains (256 * 0x3410 + 5) = true ∧ safetyKeys.contains K.safetyStatusOffset = true ∧
    admits [(256 * 0x3410 + 5, le 2 0xFFFF), (K.safeverDiscard, [1]), (K.safeverConfirm, le 8 0), (K.safeverActivate, [1]), (K.safetyFaultAck, [1]), (K.sgroupAck 5, [1]),
      (K.soutAck 11, [1])] live = true ∧
    (let s := put [(K.cwState, 2)] { island [(K.safetyStatusOffset, 64)] with pair := { op := 1 } }
     s.isl.activated = true ∧ s.activeN K.safetyStatusOffset < 0x40000 ∧ s.pairOp = true ∧ s.rdN K.cwState ≠ 0 ∧ s.rdN K.safetyState ≠ Isl.off ∧
     s.rdN K.safetyState ≠ Isl.startup) ∧
    (∀ g < 6, bitOf ((put [(K.safecmpEnable, 0)] live).rdN K.safecmpEnable) g = false) := by decide +kernel

theorem test_witness_Trestles :
    admits [(K.spareRotateNow, [1]), (K.laneRetire 14, [1])] live = true ∧
    (let s := put [(K.trestleState 3, Tr.duplex), (K.trestleStatus 3, 4)]
      { live with trestles := [(3, { voter := { queue := [(1, 7, [1])] }, resync := { active := true, regs := true, target := 14, pos := 2 } })] }
     s.voting 3 = true ∧ s.fenced 3 2 = true ∧ s.fenced 3 0 = false ∧ s.healthy 3 = [0, 1] ∧ (s.trestle 3).voter.front 0 = none ∧
     (s.trestle 3).voter.front 1 = some (7, [1]) ∧ (s.trestle 3).resync.active = true ∧ (s.trestle 3).resync.regs = true ∧ (s.trestle 3).resync.both = false ∧
     s.trState 3 = Tr.duplex ∧ bitOf (s.rdN (K.trestleStatus 3)) 7 = false ∧ s.past (s.trestle 3).resync.lastChunk (1000 * ms) = true ∧ (s.trestle 3).takeoverAt = none) ∧
    (let s := put [(K.trestleState 3, Tr.debugSplit)] { live with pair := { reqAt := some (10 ^ 15 - 50 * ms, 1) } }
     s.trState 3 = Tr.debugSplit ∧ s.voting 3 = false ∧ s.activeLike = true ∧ s.pair.reqAt = some (10 ^ 15 - 50 * ms, 1) ∧ s.past (10 ^ 15 - 50 * ms) (50 * ms) = true) ∧
    (let s := put [(K.trestleState 3, Tr.rebuild), (K.laneRole 14, Rl.joining), (K.spareInterval, 3600), (K.spareTestLane, 255)]
      { live with trestles := [(3, { resync := { target := 14 } })] }
     s.trState 3 = Tr.rebuild ∧ s.role 14 = Rl.joining ∧ (List.range 4).find? (fun t => (s.trestle t).resync.target = 14 && !(s.trestle t).resync.active) = some 3 ∧
     s.past s.rotation.last (s.rdN K.spareInterval * sec) = true ∧ s.rdN K.spareTestLane ≠ 14 ∧
     ({ s with rotation := { last := 10 ^ 15 } } : State).past (10 ^ 15) (s.rdN K.spareInterval * sec) = false) ∧
    (let s := put [(K.spareTestLane, 14)] live
     s.rdN K.spareTestLane = 14 ∧ (s.pl 14).splitHome = false) := by decide +kernel

theorem test_witness_PairLink :
    (let s := put [(K.modeNow, Mode.standby), (K.cwLanes, 3), (K.cwState, 2), (K.cwLoopInterval, 60), (K.pairStatus, 0), (K.ckptNandInterval, 0)] paired
     s.pairRuns = true ∧ bitOf (s.rdN K.cwLanes) 1 = true ∧ s.rdN K.cwLanes = 3 ∧ s.past (s.pairSince s.pair.loopAt) (s.rdN K.cwLoopInterval * (1000 * ms)) = true ∧
     s.past s.pair.hbSentAt (250 * us) = true ∧ bitOf (s.rdN K.pairStatus) 0 = false ∧ s.past (s.pairSince (s.pair.hbAt.getD 0)) (1000 * us) = true ∧
     s.mode = Mode.standby ∧ s.rdN K.cwState ≠ 0 ∧ s.flightOf 1 = none) ∧
    (let s := put [(K.cwLanes, 0), (K.cwState, 1)] { paired with pair := { op := 1, laneLostAt := 10 ^ 15 - ms } }
     s.pairRuns = true ∧ s.rdN K.cwLanes = 0 ∧ s.rdN K.cwState ≠ 0 ∧ s.past s.pair.laneLostAt ms = true) ∧
    (let x : Flight := { epoch := 1, sentAt := 10 ^ 15 - 10 * ms }
     let s := { paired with pair := { op := 1, flight := some x } }
     s.pairRuns = true ∧ s.flightOf 1 = some x ∧ s.past x.sentAt (10 * ms) = true) ∧
    (let s := put [(K.ckptNandInterval, 60)] { paired with pow := { flushing := false }, sto := { writing := some (1, {}) } }
     s.ghRuns = true ∧ s.past (s.pairSince s.pair.ckptAt) (s.rdN K.ckptNandInterval * (1000 * ms)) = true ∧ s.sto.writing = some (1, {})) := by decide +kernel

theorem test_witness_PairRoles :
    (let s := put [(K.modeNow, Mode.standby), (K.cwState, 2), (K.refState, 0), (K.refLineStuck, 0), (K.healthTestInterval, 60)] paired
     s.pairRuns = true ∧ s.refPath 0 = true ∧ s.past s.pair.statusAt ms = true ∧ s.mode = Mode.standby ∧ s.rdN K.refState = 0 ∧ s.past (s.pair.refAt.getD 0) (50 * ms) = true ∧
     s.on K.refLineStuck = false ∧ s.rdN K.cwState ≠ 0 ∧ 0 = s.pair.bistTrestle ∧ s.pair.prepared = false ∧
     s.past (s.pairSince s.pair.bistAt) (s.rdN K.healthTestInterval * (1000 * ms)) = true ∧ s.past (s.pairSince s.pair.scrubAt) (10000 * ms) = true ∧
     s.past s.pair.healthAt (100 * ms) = true ∧ (put [(K.refLineStuck, 1)] s).on K.refLineStuck = true) ∧
    (let s := put [(K.modeNow, Mode.standby)] { paired with pair := { op := 1, requesting := true, reqSentAt := 10 ^ 15 - ms } }
     s.pair.requesting = true ∧ s.past s.pair.reqSentAt ms = true) ∧
    (let s := fun (n : Nat) => put [(K.modeNow, Mode.takeover)] { paired with pair := { op := 1, step := n } }
     (s 1).mode = Mode.takeover ∧ (s 1).pair.step = 1 ∧ (s 2).pair.step = 2) ∧
    (let s := put [(K.modeNow, Mode.handover)] { paired with pair := { op := 1, swapAt := some (10 ^ 15 - 20 * ms) } }
     s.mode = Mode.handover ∧ s.pair.swapAt.any (fun t => s.past t (20 * ms)) = true) ∧
    (let s := put [(K.modeNow, Mode.dormant), (K.wakeSources, 16)] paired
     s.wakeArmed 4 = true) ∧
    admits [(K.paircmdTakeoverReq, [1]), (K.paircmdHandover, [1]), (K.paircmdRejoin, [1])] paired = true := by decide +kernel

theorem test_witness_CanonicalKept : Canonical State.reset ∧ Steps State.reset (tick State.reset) := ⟨⟨rfl, rfl, rfl⟩, rfl⟩

theorem test_witness_QueueAndTimeKept : Steps State.reset (tick State.reset) ∧ State.reset.pending = [] ∧
    Steps { State.reset with pending := [.arbNop 12] } State.reset := ⟨rfl, rfl, rfl⟩

theorem test_witness_SafetyRelatedNeedsSafety :
    (let s := updSession 0 (fun x => { x with safety := false }) (put [(256 * (0x2800 + 255) + 1, 4)] live)
     s.caller (.dap 0) = some { role := .owner } ∧ s.checkWrite (.dap 0) (0x2800 + 255) 1 (le 2 0) = Err.ok ∧
     s.writeHeld (256 * (0x2800 + 255) + 1) = false ∧ bitOf (s.rdN (256 * (0x2800 + 255) + 1)) 2 = true ∧ bitOf (ofLe (le 2 0)) 2 = false) := by decide +kernel

theorem test_witness_HandoverRefused :
    (let s := put [(K.modeNow, Mode.standby)] paired
     (s.caller (.dap 0)).isSome = true ∧ s.checkWrite (.dap 0) (K.paircmdHandover / 256) (K.paircmdHandover % 256) (le 1 1) = Err.ok ∧
     s.writeHeld K.paircmdHandover = false ∧ s.mode ≠ Mode.active) := by decide +kernel

end Sys2Proof.Tests
end

section
/-! PROOFS of the family of spec/00_scope.md: where the event configuration stands (R10). -/

namespace Sys2Proof.Machine

/-! ### A read of an index without a row for the subindex -/

/-- Outside the PROGRAM scope, an entry that no table row holds reads the highest subindex of its index (R38). -/
theorem entryBytes_of_dictFind_eq_none {s : State} {c : Caller} {i j : Nat}
    (hi : i < 0xA000) (hrow : dictFind i j = none) : s.entryBytes c i j = le 1 (highestSub i) := by
  have hscope : ¬(0xA000 ≤ i ∧ i ≤ 0xAFFF) := by omega
  simp only [State.entryBytes, hrow, if_neg hscope]

/-- An entry that no table row holds and no query leaves its result in reads its stored bytes: no value is formed at the read. -/
theorem readBytes_of_dictFind_eq_none {s : State} {src : Path} {c : Caller} {i j : Nat}
    (hrec : 256 * i + j ≠ K.recqResult) (hhist : 256 * i + j ≠ K.histqResult) (hrow : dictFind i j = none) :
    s.readBytes src c i j = s.entryBytes c i j := by
  simp only [State.readBytes, if_neg hrec, if_neg hhist, hrow]
  cases s.live (256 * i + j) <;> rfl

/-! ### The indices 0x2400 to 0x2409 -/

/-- Each index of the event configuration has the highest subindex 128, and no row of its own for subindex 0. -/
theorem eventIndex_rows : ∀ d < 10, dictFind (0x2400 + d) 0 = none ∧ highestSub (0x2400 + d) = 128 := by decide +kernel

/-- Subindex 0 of an index of the event configuration holds the count 128, on every path and in every state. -/
theorem readBytes_eventIndex_count {s : State} {src : Path} {c : Caller} {i : Nat} (hlo : 0x2400 ≤ i) (hhi : i ≤ 0x2409) :
    s.readBytes src c i 0 = [128#8] := by
  obtain ⟨hrow, hcount⟩ : dictFind i 0 = none ∧ highestSub i = 128 := by
    simpa [Nat.add_sub_cancel' hlo] using eventIndex_rows (i - 0x2400) (by omega)
  have hrec : 256 * i + 0 ≠ K.recqResult := by simp only [K.recqResult]; omega
  have hhist : 256 * i + 0 ≠ K.histqResult := by simp only [K.histqResult]; omega
  calc s.readBytes src c i 0
      = s.entryBytes c i 0 := readBytes_of_dictFind_eq_none hrec hhist hrow
    _ = le 1 (highestSub i) := entryBytes_of_dictFind_eq_none (by omega) hrow
    _ = [128#8] := by rw [hcount]; rfl

/-- The event that an entry of 0x2400 to 0x2409 configures. -/
theorem eventOf_eventIndex {i j : Nat} (hlo : 0x2400 ≤ i) (hhi : i ≤ 0x2409) (hj : 1 ≤ j) (hj' : j ≤ 128) :
    eventOf i j = some ((i - 0x2400) * 128 + j - 1) := by
  rw [eventOf, if_pos ⟨hlo, hhi, hj, hj'⟩, Nat.mul_comm]

/-- The key of that event's configuration is the entry's own: the two directions of R10 are inverse. -/
theorem evConfig_eventIndex {i j : Nat} (hlo : 0x2400 ≤ i) (hj : 1 ≤ j) (hj' : j ≤ 128) :
    K.evConfig ((i - 0x2400) * 128 + j - 1) = 256 * i + j := by
  have hdiv : ((i - 0x2400) * 128 + j - 1) / 128 = i - 0x2400 := by omega
  have hmod : ((i - 0x2400) * 128 + j - 1) % 128 = j - 1 := by omega
  simp only [K.evConfig, hdiv, hmod]
  omega

/-- Settles O55: the two directions by the division of an event number by 128, the count by the rows of the indices. -/
theorem eventConfigurationPlace : Obligations.EventConfigurationPlace := by
  refine ⟨fun n _ => ?place, fun i j hlo hhi hj hj' => ?entry, fun i src c s hlo hhi => ?count⟩
  case place => exact Nat.add_assoc _ _ _
  case entry => exact ⟨eventOf_eventIndex hlo hhi hj hj', evConfig_eventIndex hlo hj hj'⟩
  case count => exact readBytes_eventIndex_count hlo hhi

end Sys2Proof.Machine
end

section
/-! PROOFS of the family of spec/01_one_scan_across_the_module.md: the instants of the scan (R16 to R19, R66, R69, R98), the event router
(R31 to R36, R406, R529) and the map of the CAN object stores (R26). -/

namespace Sys2Proof.Machine

/-! ### The instants of the scan (R16, R17, R19, R66, R69, R98) -/

section
variable (s : State)

theorem guarded_classBoundary (x : Nat) : Guarded (.classBoundary x) s (s.boundaryDue x = true) (boundary x) :=
  guarded_only rfl Iff.rfl

theorem guarded_inputFreeze (x : Nat) :
    Guarded (.inputFreeze x) s
      (s.engine ≠ 0 ∧ x < 2 ∧ s.classOn x = true ∧ s.phase x = 0 ∧ 0 ≤ s.sinceOff x (s.rdN (K.scanSampleAt x))) (freeze x) :=
  guarded_only rfl (by simp [and_assoc])

theorem guarded_outputCommit (x : Nat) :
    Guarded (.outputCommit x) s
      (s.dispatches = true ∧ x < 2 ∧ s.classOn x = true ∧ s.phase x = 1 ∧ 0 ≤ s.sinceOff x (s.rdN (K.scanCommitAt x))) (commit x) :=
  guarded_only rfl (by simp [and_assoc])

theorem guarded_frameBuild (st : Nat) :
    let r := s.station st
    let c := Sta.cls r
    Guarded (.frameBuild st) s (s.dispatches = true ∧ st < 1024 ∧ s.on K.rioEnable = true ∧ Sta.enabled r = true ∧ 0 < Sta.outLen r ∧
      s.classOn c = true ∧ Tab.get s.scan.built st 0 ≠ s.scanNo c + 1 ∧ s.buildAt st ≤ s.scanTime - (s.boundaryAt c : Int)) (frameBuild st) :=
  guarded_only rfl (by simp [and_assoc])

theorem guarded_rioInputFrame (f : Bytes) :
    Guarded (.rioInputFrame f) s (s.engine ≠ 0 ∧ s.on K.rioEnable = true) (rioInput f) :=
  guarded_only rfl (by simp)

theorem commanded_scanRealign (src : Path) (v : Nat) :
    Commanded1 (.scanRealign src v) src K.scanRealign v s
      (fun s => if (List.range 256).any s.pavBusy then (Err.state, s) else (Err.ok, wr K.scanStepSum 0 s)) :=
  commanded_command (f := fun s => if v = 1 then realignEffect s else (Err.value, s)) rfl rfl

end

/-- Settles O15: each instant is an effect under its condition, REALIGN a write to a command entry. -/
theorem scanInstants : Obligations.ScanInstants := fun x st src v f s =>
  ⟨guarded_classBoundary s x, guarded_inputFreeze s x, guarded_outputCommit s x, guarded_frameBuild s st,
    guarded_rioInputFrame s f, commanded_scanRealign s src v⟩

/-! ### A Class A freeze stages the areas of the HART modems (R16, R329) -/

/-- FREEZE_ONLY, at the sample instant of a Class A scan, without remote I/O. Modem 0, whose area lies at byte 0 of the Class A partition, is
IN_SERVICE and had a frame before the previous freeze: the area stands staged with DATA_VALID and FRESH, and that freeze has taken FRESH. -/
def freshTaken : State :=
  wrN K.scanEngineState 1 <| wrN (K.scanEnable 0) 1 <| wrN (K.hartPoint 0) 0x80000000 <| wrN (K.hartState 0) Hst.inService
    { State.reset with
      tb := [(0, { val := 1000000 * 65536 })]
      mem := [(cell Mem.staging 0, 2), (cell Mem.staging 1, 3)]
      fld := { hart := [(0, { frameAt := some 0, fresh := false })] } }

/-- The freeze is due, and remote I/O is off. -/
theorem freshTaken_freezeDue :
    (freshTaken.engine ≠ 0 ∧ 0 < 2 ∧ freshTaken.classOn 0 = true ∧ freshTaken.phase 0 = 0 ∧
      0 ≤ freshTaken.sinceOff 0 (freshTaken.rdN (K.scanSampleAt 0))) ∧ freshTaken.on K.rioEnable = false := by decide +kernel

/-- R329: the freeze stages the modem's area anew, and bit 1 of its byte 1, FRESH, falls. -/
theorem freeze_freshTaken_staging :
    freshTaken.byte Mem.staging 1 = 3 ∧ (freeze 0 freshTaken).byte Mem.staging 1 = 1 := by decide +kernel

/-- No byte of the staging copy is one of the frozen copy. -/
theorem cell_staging_ne_frozen (a i : Nat) (hi : i < 0x40000) : cell Mem.staging a ≠ cell Mem.fabric (inBase + i) := by
  simp only [cell, Mem.staging, Mem.fabric, inBase]
  omega

/-- Refutes O16: a Class A freeze stages the area of a HART modem before it copies (R329), so the staging copy may change too: in
`freshTaken` its byte 1 goes from 3 to 1. -/
theorem not_freezeCopiesStaging : ¬ Obligations.FreezeCopiesStaging := by
  unfold Obligations.FreezeCopiesStaging
  intro h
  have ⟨hdue, hrio⟩ := freshTaken_freezeDue
  have ⟨hengine, hx, hon, hphase, htime⟩ := hdue
  obtain ⟨t, hexec, -, -, hframe, -⟩ := h 0 freshTaken hengine hx hon hphase htime
  obtain rfl : freeze 0 freshTaken = t := by
    simpa [(guarded_inputFreeze freshTaken 0).1 hdue] using hexec
  obtain ⟨hbefore, hafter⟩ := freeze_freshTaken_staging
  have hkept : (freeze 0 freshTaken).byte Mem.staging 1 = freshTaken.byte Mem.staging 1 :=
    hframe rfl hrio Mem.staging 1 fun i hi => cell_staging_ne_frozen 1 i (by omega)
  rw [hbefore, hafter] at hkept
  exact absurd hkept (by decide)

/-! ### The event router (R31 to R36, R406, R529) -/

section
variable (s : State)

theorem exec_routerTakeEvent_of_some {m : Nat} (h : s.nextEvent = some m) : exec .routerTakeEvent s = .next (takeEvent m s) := by
  change execRouterTakeEvent s = _
  simp only [execRouterTakeEvent, h]

theorem exec_routerTakeEvent_of_none (h : s.nextEvent = none) : exec .routerTakeEvent s = .next s := by
  change execRouterTakeEvent s = _
  simp only [execRouterTakeEvent, h]

/-- R33: a window of RATE_CAP lasts one whole second of TB4. -/
theorem guarded_eventRateWindow :
    Guarded .eventRateWindow s (s.tbNs 4 / 1000000000 ≠ s.router.winAt) (fun s =>
      { s with router := { s.router with window := [], winAt := s.tbNs 4 / 1000000000 } }) :=
  guarded_only (b := s.tb4Sec ≠ s.router.winAt) (f := newWindow) rfl decide_eq_true_iff

theorem commanded_eventConfigWrite (src : Path) (v : Nat) {n : Nat} (h : n < 1280) :
    Commanded (.eventConfigWrite src n v) src (K.evConfig n) (le 4 v) s (eventCfgEffect n v) :=
  have hexec : exec (.eventConfigWrite src n v) s = .next (command src (K.evConfig n) (le 4 v) (eventCfgEffect n v) s) := by
    change execEventConfigWrite src n v s = _
    rw [execEventConfigWrite, decide_eq_true h, only_true]
  commanded_command hexec rfl

/-- The state with the event channel of Pavilion p changed. -/
def updChannel (p : Nat) (f : Channel → Channel) (s : State) : State :=
  updRouter (fun r => { r with chan := Tab.upd r.chan p {} f }) s

theorem updChannel_same (p : Nat) (f : Channel → Channel) :
    Tab.get (updChannel p f s).router.chan p {} = f (Tab.get s.router.chan p {}) := by
  simp [updChannel, updRouter, Tab.upd]

theorem updChannel_ne {p q : Nat} (f : Channel → Channel) (h : q ≠ p) :
    Tab.get (updChannel p f s).router.chan q {} = Tab.get s.router.chan q {} := by
  simp [updChannel, updRouter, Tab.upd, Tab.get_put_ne _ _ _ _ _ _ h]

/-- A command that changes the channel of Pavilion p by `f` leaves the channel of every other Pavilion. -/
theorem does_of_exec_updChannel {s : State} {i : Instr} {p : Nat} {f : Channel → Channel} (h : exec i s = .next (updChannel p f s)) :
    Does i s (fun t => Tab.get t.router.chan p {} = f (Tab.get s.router.chan p {}) ∧
      ∀ q, q ≠ p → Tab.get t.router.chan q {} = Tab.get s.router.chan q {}) :=
  ⟨_, h, updChannel_same s p f, fun _ hq => updChannel_ne s f hq⟩

theorem exec_eventChannelPop {p : Nat} (h : p < 256) :
    exec (.eventChannelPop p) s = .next (updChannel p (fun c => { c with entries := c.entries.drop 1 }) s) := by
  change execEventChannelPop p s = _
  rw [execEventChannelPop, decide_eq_true h, only_true, updChannel]

theorem exec_eventOverflowClear {p v : Nat} (h : p < 256) (hv : bitOf v 0 = true) :
    exec (.eventOverflowClear p v) s = .next (updChannel p (fun c => { c with overflow := false }) s) := by
  change execEventOverflowClear p v s = _
  rw [execEventOverflowClear, decide_eq_true h, hv, Bool.and_self, only_true, updChannel]

theorem exec_eventOverflowClear_of_clear (p : Nat) {v : Nat} (hv : bitOf v 0 = false) : exec (.eventOverflowClear p v) s = .next s := by
  change execEventOverflowClear p v s = _
  rw [execEventOverflowClear, hv, Bool.and_false, only_false]

end

/-- Settles O21: the router's answers by the event that is next, POP and OVERFLOW as changes of one channel. -/
theorem eventRouter : Obligations.EventRouter := fun _ p v src _ s =>
  ⟨fun _ => exec_routerTakeEvent_of_some s, exec_routerTakeEvent_of_none s, guarded_eventRateWindow s,
    fun hn => commanded_eventConfigWrite s src v hn,
    fun hp => does_of_exec_updChannel (exec_eventChannelPop s hp),
    fun hp hv => does_of_exec_updChannel (exec_eventOverflowClear s hp hv),
    exec_eventOverflowClear_of_clear s p, rfl⟩

/-! ### The object stores of the CAN controllers (R26) -/

/-- In the 0x20_0000 bytes of the eight stores an address is of a store or of nothing: no other range of R23 and R27 reaches them. -/
theorem targetOf_inCanStores {a : Nat} (hlo : canStoreBase ≤ a) (hhi : a < canStoreBase + 0x200000) :
    targetOf a = if (a - canStoreBase) % 0x40000 < 0x28000 then .can else .none := by
  have hlo' : 0x1100000000 ≤ a := hlo
  have hhi' : a < 0x1100200000 := hhi
  have hitcm : ¬a < 0x100000 := by omega
  have hdtcm : ¬a < 0x200000 := by omega
  have hsram : inSram a = false := by simp only [inSram, Bool.and_eq_false_iff, decide_eq_false_iff_not]; omega
  have hinput : ¬(inBase ≤ a ∧ a < outBase) := by simp only [outBase]; omega
  have houtput : ¬(outBase ≤ a ∧ a < outBase + 0x40000) := by simp only [outBase]; omega
  have hdram : inDram a = false := by simp only [inDram, Bool.and_eq_false_iff, decide_eq_false_iff_not]; omega
  have hwindow : ¬(windowBase ≤ a ∧ a < windowBase + 0x8000000) := by simp only [windowBase]; omega
  have hfast : ¬(fastBase ≤ a ∧ a < fastBase + 0x300000) := by simp only [fastBase]; omega
  simp [targetOf, hitcm, hdtcm, hsram, hinput, houtput, hdram, hwindow, hfast, hlo, hhi]

/-- Byte `o` of the store of a controller: an object's in the first 0x2_8000 bytes, unmapped behind them. -/
theorem targetOf_canStore {c o : Nat} (hc : c < 8) (ho : o < 0x40000) :
    targetOf (canStoreBase + c * 0x40000 + o) = if o < 0x28000 then .can else .none := by
  have hoff : (canStoreBase + c * 0x40000 + o - canStoreBase) % 0x40000 = o := by omega
  rw [targetOf_inCanStores (by omega) (by omega), hoff]

/-- The place of byte `y` of object `n` of controller `c`. -/
theorem canPlace_object {c n y : Nat} (hn : n < 2048) (hy : y < 80) :
    canPlace (canStoreBase + c * 0x40000 + (80 * n + y)) = (c, n, y) := by
  have hctl : (canStoreBase + c * 0x40000 + (80 * n + y) - canStoreBase) / 0x40000 = c := by omega
  have hoff : (canStoreBase + c * 0x40000 + (80 * n + y) - canStoreBase) % 0x40000 = 80 * n + y := by omega
  have hobj : (80 * n + y) / 80 = n := by omega
  have hbyte : (80 * n + y) % 80 = y := by omega
  rw [canPlace, hctl, hoff, hobj, hbyte]

/-- Settles O56: 2,048 objects of 80 bytes fill the first 0x2_8000 bytes of a store of 0x4_0000. -/
theorem canStoreMap : Obligations.CanStoreMap := by
  intro c hc
  refine ⟨fun n hn w hw b hb => ?object, fun o hlo hhi => ?tail⟩
  case object =>
    have haddr : 0x1100000000 + c * 0x40000 + 80 * n + 4 * w + b = canStoreBase + c * 0x40000 + (80 * n + (4 * w + b)) := by
      simp only [canStoreBase]; omega
    simp only [haddr]
    refine ⟨?_, canPlace_object hn (by omega)⟩
    rw [targetOf_canStore hc (by omega), if_pos (by omega)]
  case tail =>
    exact (targetOf_canStore hc hhi).trans (if_neg (by omega))

end Sys2Proof.Machine
end

section
/-! PROOFS of the family of spec/02_parameter_dictionary.md: dictionary writes, loading and the SDO server (R38, R45, R48 to R50, R56, R508),
and the Dictionary Access Protocol (R60 to R62, R482, R530, R531). -/

namespace Sys2Proof.Machine

/-! ### The dictionary and its command entries (R38, R45, R48, R49, R50, R60, R508) -/

section
variable (s : State)

theorem guarded_dictstoreCommit (k : Nat) :
    Guarded (.dictstoreCommit k) s (s.ghRuns = true ∧ s.journal.contains k = true ∧ s.pow.flushing = false ∧ s.writeCode 6 = Err.ok)
      (commitKey k) :=
  guarded_only rfl (by simp [and_assoc])

theorem guarded_dictLoad :
    Guarded .dictLoad s (s.ghRuns = true ∧ s.starting = true ∧ s.dictReady = false ∧ s.pow.verified = true ∧
      (s.pow.formed = true ∨ s.mode ≠ Mode.boot) ∧ s.stor ≠ Sto.mounting ∧ s.stor ≠ Sto.held_) dictLoad :=
  guarded_only rfl (by simp [and_assoc])

theorem commanded_dictSectionRestore (src : Path) (v : Nat) :
    Commanded (.dictSectionRestore src v) src K.dictSectionDefaults (le 1 v) s (fun s =>
      match s.caller src with
      | some c => restoreSection c (v % 256) s
      | none => (Err.state, s)) :=
  commanded_command rfl rfl

theorem commanded_commErrorFieldClear (src : Path) (v : Nat) {c : Nat} (hc : c < 8) :
    Commanded (.commErrorFieldClear src c v) src (K.commErrorField c 0) (le 4 v) s (fun s =>
      if v = 0 then (Err.ok, each (List.range 17) (fun j => wrN (K.commErrorField c j) 0) s) else (Err.value, s)) :=
  have hexec : exec (.commErrorFieldClear src c v) s = .next (command src (K.commErrorField c 0) (le 4 v)
      (fun s => if v ≠ 0 then (Err.value, s) else accept (commClear c s)) s) := by
    change execCommErrorFieldClear src c v s = _
    rw [execCommErrorFieldClear, decide_eq_true hc, only_true]
  commanded_command hexec (ite_not ..)

theorem commanded_dapDisable (src : Path) (v : Nat) :
    Commanded (.dapDisable src v) src K.dictDapEnable (le 1 v) s
      (writeThen K.dictDapEnable (le 1 v) (v = 0) Err.value (fun s => each (s.sessions.map (·.1)) closeSession s)) :=
  commanded_command rfl rfl

/-- R508: a half period of STATUS3 is 500 ms, once the firmware is verified. -/
theorem guarded_status3Toggle :
    Guarded .status3Toggle s (s.ghRuns = true ∧ s.pow.verified = true ∧ s.past s.pow.status3At (500 * ms) = true)
      (fun s => updPow (fun p => { p with status3 := !p.status3, status3At := s.now }) s) :=
  guarded_only rfl (by simp [and_assoc])

theorem exec_status3Toggle_of_not
    (h : s.ghRuns = false ∨ s.pow.verified = false ∨ s.past s.pow.status3At (500 * ms) = false) :
    exec .status3Toggle s = .next s := by
  refine (guarded_status3Toggle s).2 ?_
  rintro ⟨hruns, hverified, hpast⟩
  simp [hruns, hverified, hpast] at h

/-! ### The SDO server (R56) -/

/-- R56: where the server serves, a frame of 8 bytes reaches it. -/
theorem sdoFrame_of_serves {c : Nat} {f : Bytes} (hlen : f.length = 8) (hserves : s.sdoServes c = true)
    (run : Nat → Bytes → State → State) : sdoFrame c f run s = run c f s := by
  rw [sdoFrame, hserves, decide_eq_true hlen, Bool.and_self, only_true]

/-- R56: a frame that one client command specifier opens. -/
theorem exec_sdo_of_specifier {i : Instr} {c cs : Nat} {f : Bytes} {run : Nat → Bytes → State → State}
    (hexec : exec i s = .next (only (byteAt f 0 / 32 = cs) (sdoFrame c f run) s)) (hlen : f.length = 8)
    (hserves : s.sdoServes c = true) (hcs : byteAt f 0 / 32 = cs) : exec i s = .next (run c f s) := by
  rw [hexec, decide_eq_true hcs, only_true, sdoFrame_of_serves s hlen hserves]

theorem guarded_sdoIdleTimeout (c : Nat) :
    Guarded (.sdoIdleTimeout c) s (c < 8 ∧ (s.sdoOf c).kind ≠ 0 ∧ s.past (s.sdoOf c).lastActivity (1000 * ms) = true)
      (sdoAbort c (s.sdoOf c).idx (s.sdoOf c).sub 0x05040000) :=
  guarded_only rfl (by simp [and_assoc])

end

/-- Settles O22: each command of the dictionary is an effect under its condition or a write to a command entry; the SDO server runs a frame
of 8 bytes. -/
theorem dictionaryCommands : Obligations.DictionaryCommands := by
  refine ⟨fun src i j k v c b s => ⟨rfl, guarded_dictstoreCommit s k, guarded_dictLoad s, commanded_dictSectionRestore s src v,
    fun hc => commanded_commErrorFieldClear s src v hc, commanded_dapDisable s src v, ?toggle, exec_status3Toggle_of_not s⟩,
    fun c f s => ⟨fun hlen hserves => ?sdo, guarded_sdoIdleTimeout s c⟩⟩
  case toggle =>
    exact fun hruns hverified hpast => ⟨_, (guarded_status3Toggle s).1 ⟨hruns, hverified, hpast⟩, rfl, rfl, rfl⟩
  case sdo =>
    have hframe := sdoFrame_of_serves s hlen hserves
    exact ⟨exec_sdo_of_specifier s rfl hlen hserves, exec_sdo_of_specifier s rfl hlen hserves,
      congrArg _ (hframe sdoSegment), congrArg _ (hframe sdoBlockUpload), congrArg _ (hframe sdoBlockDownload)⟩

/-! ### Two writes to one entry of a table -/

/-- A write that leaves an entry is overwritten whole by the next write of its key, in any table. -/
theorem Tab.put_put {α : Type} [DecidableEq α] (t : Sparse α) (k : Nat) {v d : α} (w : α) (hv : v ≠ d) :
    Tab.put (Tab.put t k v d) k w d = Tab.put t k w d := by
  induction t with
  | nil => simp [Tab.put, hv]
  | cons e r ih =>
    obtain ⟨k', v'⟩ := e
    rcases lt_trichotomy k k' with hlt | rfl | hgt
    · by_cases hw : w = d <;> simp [Tab.put, hv, hlt, hw]
    · simp [Tab.put, hv]
    · simp [Tab.put, ih, hgt.not_gt, hgt.ne']

/-! ### Sessions (R60, R482) -/

section
variable (s : State)

@[simp] theorem session_updSession_same (n : Nat) (f : Session → Session) : (updSession n f s).session n = f (s.session n) := by
  simp [State.session, updSession, Tab.upd]

/-- Two changes of a session that is open between them are one. -/
theorem updSession_updSession (n : Nat) (f g : Session → Session) (hopen : (f (s.session n)).isOpen = true) :
    updSession n g (updSession n f s) = updSession n (fun x => g (f x)) s := by
  have hne : f (Tab.get s.sessions n {}) ≠ {} := fun h => by
    rw [State.session, h] at hopen
    exact Bool.false_ne_true hopen
  simp [updSession, Tab.upd, Tab.put_put _ _ _ hne]

@[simp] theorem session_send (n l : Nat) (b : Bytes) : (send l b s).session n = s.session n := rfl
@[simp] theorem session_raise (n e : Nat) (p : Bytes) : (raise e p s).session n = s.session n := rfl
@[simp] theorem session_drawn (n : Nat) : (drawn s).session n = s.session n := rfl
@[simp] theorem session_countSessions (n : Nat) : (countSessions s).session n = s.session n := rfl

/-- A change of session n that keeps who calls keeps what a flush holds of its writes (R44, R398). -/
theorem holds_updSession {n : Nat} {f : Session → Session} (ks : List Nat)
    (hf : ∀ x, (f x).isOpen = x.isOpen ∧ (f x).role = x.role ∧ (f x).safety = x.safety ∧ (f x).scope = x.scope) :
    (updSession n f s).holds (.dap n) ks = s.holds (.dap n) ks := by
  have hcaller : (updSession n f s).caller (.dap n) = s.caller (.dap n) := by simp [State.caller, hf]
  simp only [State.holds, hcaller]
  rfl

/-- R60, R482: the session an accepted client certificate opens outside PROVISION. -/
def openedSession (peer : Bytes) (cert : Cert) : Session :=
  { isOpen := true, role := cert.role.getD .viewer, safety := cert.safety, scope := cert.scope
    cert := s.freeBytes 48, peer := padTo 18 peer, tokens := s.rdN K.dictDapBurst, lastFrame := s.now, lastRefill := s.now }

/-- R60: fewer than 1,016 sessions leave room for one of any role. -/
theorem exec_dapHandshake_of_accepted (peer : Bytes) {cert : Cert} (hserves : s.dapServes = true) (hmode : s.mode ≠ Mode.provision)
    (hcert : s.certFails cert = 0) (hroom : ((s.sessions.map (·.2)).filter (·.isOpen)).length < 1016) :
    exec (.dapHandshake peer cert) s =
      .next (countSessions (drawn (updSession s.freeSession (fun _ => openedSession s peer cert) s))) := by
  have hplain (p : Session → Bool) : (((s.sessions.map (·.2)).filter (·.isOpen)).filter p).length < 1016 :=
    (List.length_filter_le ..).trans_lt hroom
  have hlive : ¬1024 ≤ ((s.sessions.map (·.2)).filter (·.isOpen)).length := by omega
  change execDapHandshake peer cert s = _
  simp only [execDapHandshake, hserves, only_true, hmode, decide_false, Bool.false_eq_true, if_false, hcert, ne_eq, not_true_eq_false,
    Bool.not_false, Bool.true_and]
  rw [if_neg (fun h => h.elim hlive fun h => (hplain _).not_ge h.2)]
  rfl

theorem exec_dapHandshake_of_certFails (peer : Bytes) {cert : Cert} (hserves : s.dapServes = true) (hmode : s.mode ≠ Mode.provision)
    (hcert : s.certFails cert ≠ 0) :
    exec (.dapHandshake peer cert) s =
      .next (authFailure (raise Ev.dapAuthFailed (padTo 18 peer ++ le 1 (s.certFails cert)) (drawn s))) := by
  change execDapHandshake peer cert s = _
  simp [execDapHandshake, hserves, hmode, hcert]

theorem guarded_dapIdleTimeout (n : Nat) :
    Guarded (.dapIdleTimeout n) s ((s.session n).isOpen = true ∧ s.past (s.session n).lastFrame (s.rdN K.dictDapIdle * sec) = true)
      (closeSession n) :=
  guarded_only rfl (by simp)

theorem guarded_dapSegSequenceTimeout (n : Nat) :
    Guarded (.dapSegSequenceTimeout n) s ((s.session n).isOpen = true ∧ (s.session n).segKey.isSome = true ∧
      s.past (s.session n).segAt (s.rdN K.dictDapIdle * sec) = true) (dropSeg n) :=
  guarded_only rfl (by simp [and_assoc])

/-- R60: the bucket after a refill: one token more, or full from now on. -/
def refilled (x : Session) : Session :=
  if s.rdN K.dictDapBurst ≤ x.tokens then { x with tokens := s.rdN K.dictDapBurst, lastRefill := s.now }
  else { x with tokens := x.tokens + 1, lastRefill := x.lastRefill + sec / max 1 (s.rdN K.dictDapRate) }

theorem does_dapTokenRefill {n : Nat} (hopen : (s.session n).isOpen = true)
    (hpast : s.past (s.session n).lastRefill (sec / max 1 (s.rdN K.dictDapRate)) = true) :
    Does (.dapTokenRefill n) s (fun t => t.session n = refilled s (s.session n)) := by
  refine ⟨updSession n (refilled s) s, ?_, session_updSession_same ..⟩
  change execDapTokenRefill n s = _
  rw [execDapTokenRefill, hopen, hpast, Bool.and_self, only_true]
  rfl

/-- R62: the oldest push is sent, with the number of those dropped before it. -/
theorem exec_dapEventPush_of_cons {n : Nat} {b : Bytes} {r : List Bytes} (hserves : s.dapServes = true)
    (hopen : (s.session n).isOpen = true) (hpushes : (s.session n).pushes = b :: r) :
    exec (.dapEventPush n) s =
      .next (send (Wire.dap n)
        (dapBytes 0x87 (if (s.session n).dropped = 0 then 0 else 4 + 256 * min 255 (s.session n).dropped) 0 0 1 b)
        (updSession n (fun x => { x with pushes := r, dropped := 0 }) s)) := by
  change execDapEventPush n s = _
  simp [execDapEventPush, hserves, hopen, hpushes]

end

/-! ### Request frames (R60, R61, R530) -/

section
variable {s : State} {n op : Nat} {f : Bytes}

/-- R60, R530: a request that passes each test of a frame takes its token and is run: taking the token changes none of what the later
tests read. -/
theorem dapFrame_of_request (h : DapRequest op n f s) (run : Nat → Bytes → State → DapAnswer × State) :
    dapFrame op n f run s = dapRun n f run (dapTaken n s) := by
  obtain ⟨hserves, hopen, hop, htokens, hformed, hfresh, hroom, hfree⟩ := h
  simp [dapFrame, dapTaken, updSession_updSession, holds_updSession, hserves, hopen, hop, htokens, hformed, hfresh, hroom.not_ge, hfree]
  -- the two sides read the bucket's size before and after the frame is counted, which is the same
  rfl

/-- R60: a request that finds the bucket empty is refused and counted, whatever it asks. -/
theorem dapFrame_of_noToken (run : Nat → Bytes → State → DapAnswer × State) (hserves : s.dapServes = true)
    (hopen : (s.session n).isOpen = true) (hop : byteAt f 1 = op) (htokens : (s.session n).tokens = 0) :
    dapFrame op n f run s =
      send (Wire.dap n) (DapAnswer.bytes f { st := Err.rateLimited })
        (raise Ev.dapRateLimited (le 2 n ++ le 4 (satInc U32.max (s.session n).limited))
          (updSession n (fun x => { x with lastFrame := s.now, limited := satInc U32.max (s.session n).limited }) s)) := by
  simp [dapFrame, updSession_updSession, hserves, hopen, hop, htokens]

/-- R61: the response to a request is kept under its REQ_ID, and sent. -/
def keepResponse (n : Nat) (f : Bytes) (a : DapAnswer) (s : State) : State :=
  send (Wire.dap n) (a.bytes f) (updSession n (fun x => { x with stored := pushFront 8 (fieldAt f 4 4, a.bytes f) x.stored }) s)

theorem sentOn_keepResponse (a : DapAnswer) : (keepResponse n f a s).sentOn (Wire.dap n) = a.bytes f := wire_send_same ..

/-- R39, R61: the response to an operation that changes nothing waits for no epoch. -/
theorem dapRun_of_kept {run : Nat → Bytes → State → DapAnswer × State} (hkept : (run n f s).2 = s) (hopen : (s.session n).isOpen = true) :
    dapRun n f run s = keepResponse n f (run n f s).1 s := by
  simp [dapRun, keepResponse, hkept, hopen]

/-- A request that may be served, of an operation that changes nothing: a token goes, and the response. -/
theorem dapFrame_of_kept {run : Nat → Bytes → State → DapAnswer × State} (h : DapRequest op n f s) (hkept : ∀ t, (run n f t).2 = t) :
    dapFrame op n f run s = keepResponse n f (run n f (dapTaken n s)).1 (dapTaken n s) := by
  have hopen : ((dapTaken n s).session n).isOpen = true := by simpa [dapTaken] using h.live
  rw [dapFrame_of_request h run, dapRun_of_kept (hkept _) hopen]

/-- READ leaves the state as it is. -/
theorem readRun_snd (n : Nat) (f : Bytes) (s : State) : (readRun n f s).2 = s := by
  unfold readRun
  cases s.caller (.dap n) <;> rfl

/-- The bytes of an answer without items to a request of code `op`. -/
theorem DapAnswer.bytes_of_code (st : Nat) (hop : byteAt f 1 = op) (hlt : op < 128) :
    DapAnswer.bytes f { st := st } = dapBytes (op + 128) 0 (fieldAt f 4 4) st 0 [] := by
  rw [DapAnswer.bytes, hop, Nat.mod_eq_of_lt hlt]

theorem does_dapRead_of_noToken (hserves : s.dapServes = true) (hopen : (s.session n).isOpen = true) (hop : byteAt f 1 = 1)
    (htokens : (s.session n).tokens = 0) :
    Does (.dapRead n f) s (fun t => t.sentOn (Wire.dap n) = dapBytes 0x81 0 (fieldAt f 4 4) Err.rateLimited 0 [] ∧
      (t.session n).limited = satInc U32.max (s.session n).limited ∧ t.dict = s.dict) := by
  refine ⟨_, congrArg Host.Outcome.next (dapFrame_of_noToken readRun hserves hopen hop htokens), ?sent, ?limited, rfl⟩
  case sent => exact (wire_send_same ..).trans (DapAnswer.bytes_of_code _ hop (by decide))
  case limited => simp

theorem does_dapRead_of_request (h : DapRequest 1 n f s) :
    Does (.dapRead n f) s (fun t => t.dict = s.dict ∧ t.blob = s.blob ∧ t.mem = s.mem ∧
      (t.session n).tokens = (s.session n).tokens - 1) :=
  ⟨_, congrArg Host.Outcome.next (dapFrame_of_kept h (readRun_snd n f)), rfl, rfl, rfl, by simp [keepResponse, dapTaken]⟩

theorem does_dapKeepalive_of_request (h : DapRequest 8 n f s) :
    Does (.dapKeepalive n f) s (fun t => t.sentOn (Wire.dap n) = dapBytes 0x88 0 (fieldAt f 4 4) Err.ok 0 [] ∧ t.dict = s.dict) :=
  ⟨_, congrArg Host.Outcome.next (dapFrame_of_kept (run := keepaliveRun) h fun _ => rfl),
    (sentOn_keepResponse _).trans (DapAnswer.bytes_of_code _ h.kind (by decide)), rfl⟩

end

/-- Settles O23: the session after a handshake, a refill or a push, and the frame that a session with a token has run. -/
theorem dapProtocol : Obligations.DapProtocol := by
  refine ⟨fun peer cert n s => ⟨?accepted, fun hserves hmode hcert => exec_dapHandshake_of_certFails s peer hserves hmode hcert,
    guarded_dapIdleTimeout s n, guarded_dapSegSequenceTimeout s n, ⟨?token, ?full⟩, ?push⟩,
    fun n f s => ⟨?runs, does_dapRead_of_noToken, does_dapRead_of_request, does_dapKeepalive_of_request⟩⟩
  case accepted =>
    intro hserves hmode hcert hroom
    refine ⟨_, exec_dapHandshake_of_accepted s peer hserves hmode hcert hroom, ?_⟩
    simp only [session_countSessions, session_drawn, session_updSession_same]
    exact ⟨rfl, rfl, rfl, rfl, rfl, rfl⟩
  case token =>
    intro hopen hpast hless
    simpa only [refilled, if_neg hless.not_ge] using does_dapTokenRefill s hopen hpast
  case full =>
    intro hopen hpast hfull
    simpa only [refilled, if_pos hfull] using does_dapTokenRefill s hopen hpast
  case push =>
    intro b r hserves hopen hpushes
    exact ⟨_, exec_dapEventPush_of_cons s hserves hopen hpushes, by simp, wire_send_same ..⟩
  case runs =>
    have hrun (op : Nat) (run : Nat → Bytes → State → DapAnswer × State) (h : DapRequest op n f s) :
        Host.Outcome.next (dapFrame op n f run s) = (.next (dapRun n f run (dapTaken n s)) : Out) :=
      congrArg _ (dapFrame_of_request h run)
    exact ⟨hrun _ _, hrun _ _, hrun _ _, hrun _ _, hrun _ _, hrun _ _, hrun _ _, hrun _ _, hrun _ _⟩

end Sys2Proof.Machine
end

section
/-! PROOFS of the family of spec/03_scan_classes_and_program_states.md: the instants of the lanes (R76, R77, R81, R460), the program states
changed from outside (R85, R86, R88, R103, R105, R175), and the digital inputs and outputs with their field supplies and output holds
(R86, R87, R285 to R297). -/

namespace Sys2Proof.Machine

/-! ### The shapes of a command -/

/-- An effect under a decided proposition, as a case distinction. -/
theorem only_decide {P : Prop} [Decidable P] (f : State → State) (s : State) : only (decide P) f s = if P then f s else s := by
  simp [only]

/-- The effect of a command under a condition may be written as any that agrees with it where the condition holds. -/
theorem guarded_congr {i : Instr} {s : State} {g : Prop} {f f' : State → State} (h : Guarded i s g f) (hf : g → f s = f' s) :
    Guarded i s g f' :=
  ⟨fun hg => hf hg ▸ h.1 hg, h.2⟩

/-- R14: a write to a command entry of an instance that exists. -/
theorem commanded_only {i : Instr} {src : Path} {k : Nat} {v : Bytes} {s : State} {b : Bool} {f g : State → Nat × State}
    (h : exec i s = .next (only b (command src k v f) s)) (hb : b = true) (hf : f s = g s) : Commanded i src k v s g :=
  commanded_command (h.trans (by rw [hb, only_true])) hf

/-! ### The instants of the lanes (R76, R77, R81, R460) -/

/-- Settles O17: each instant is an effect under its condition. -/
theorem laneInstants : Obligations.LaneInstants := by
  refine fun p l x s => ⟨?windowStart, ?windowEnd, ?readyB, ?readyC, ?budget, ?deadline, ?ungate⟩
  case windowStart => exact guarded_only rfl (by simp [and_assoc])
  case windowEnd => exact guarded_congr (guarded_only rfl (by simp [and_assoc])) fun _ => by simp only [only_decide]
  case readyB => exact guarded_only rfl (by simp [and_assoc])
  case readyC => exact guarded_only rfl (by simp [and_assoc])
  case budget => exact guarded_only rfl (by simp [and_assoc])
  case deadline =>
    refine guarded_congr (guarded_only rfl (by simp [and_assoc, imp_iff_not_or])) fun _ => ?_
    simp only [← Bool.decide_or, only_decide]
  case ungate => exact guarded_only rfl (by simp)

/-! ### Program states changed from outside (R85, R86, R88, R103, R105, R175) -/

section
variable {s : State} {p : Nat}

/-- R490: without a debug session that covers holds, a halt is refused. -/
theorem exec_debugHalt_of_not_mayDebug (hp : p < 256) (hdebug : s.mayDebug = false) :
    exec (.debugHalt p) s = .next (reply Err.state [] s) := by
  change execDebugHalt p s = _
  simp [execDebugHalt, hp, hdebug]

theorem exec_debugHalt_of_holdRefused {r : Nat} (hp : p < 256) (hdebug : s.mayDebug = true) (hrefused : s.holdRefused p = some r)
    (hsplit : s.isSplit (s.laneOf p / 3) = false) :
    exec (.debugHalt p) s = .next (reply Err.state [] (raise Ev.debugRefused (le 1 p ++ le 1 r) s)) := by
  change execDebugHalt p s = _
  simp [execDebugHalt, hp, hdebug, hrefused, hsplit]

theorem exec_debugHalt_of_run (hp : p < 256) (hdebug : s.mayDebug = true) (hadmits : s.holdRefused p = none)
    (hrun : s.pavState p = Prog.run) : exec (.debugHalt p) s = .next (reply Err.ok [] (enterHold p s)) := by
  change execDebugHalt p s = _
  simp [execDebugHalt, hp, hdebug, hadmits, hrun]

/-- R175: an answer after an event keeps the event's raise. -/
theorem raises_reply_raise (n c : Nat) (payload d : Bytes) (s : State) : Raises n payload s (reply c d (raise n payload s)) :=
  pend_raiseWith ..

/-- R88: a resume and a single step go to a Pavilion in HOLD alone, and within a debug session. -/
theorem exec_debugContinue (hp : p < 256) (hdebug : s.mayDebug = true) (hhold : s.pavState p = Prog.hold) :
    exec (.debugResume p) s = .next (reply Err.ok [] (updPav p (fun v => { v with go := true, step := false }) s)) ∧
    exec (.debugSingleStep p) s = .next (reply Err.ok [] (updPav p (fun v => { v with step := true, go := false }) s)) := by
  change execDebugResume p s = _ ∧ execDebugSingleStep p s = _
  simp [execDebugResume, execDebugSingleStep, hp, hdebug, hhold]

theorem exec_debugContinue_of_not (hp : p < 256) (hnot : s.mayDebug = false ∨ s.pavState p ≠ Prog.hold) :
    exec (.debugResume p) s = .next (reply Err.state [] s) ∧ exec (.debugSingleStep p) s = .next (reply Err.state [] s) := by
  change execDebugResume p s = _ ∧ execDebugSingleStep p s = _
  simp [execDebugResume, execDebugSingleStep, hp, hnot]

end

/-- Settles O18: a coordinated change is a write to a command entry; the debugger's requests by what admits them. -/
theorem programControl : Obligations.ProgramControl := by
  refine fun p id src v s hp => ⟨commanded_command rfl rfl, commanded_command rfl rfl, ?holdExpiry, exec_debugHalt_of_run hp, ?refused,
    exec_debugContinue hp, exec_debugContinue_of_not hp, exec_debugHalt_of_not_mayDebug hp, ?loss⟩
  case holdExpiry => exact guarded_only rfl (by simp [hp, and_assoc])
  case refused =>
    exact fun r hdebug hrefused hsplit =>
      ⟨_, exec_debugHalt_of_holdRefused hp hdebug hrefused hsplit, raises_reply_raise .., reply_answer .., rfl⟩
  case loss => exact guarded_only rfl (by simp [hp])

/-! ### Digital inputs (R285, R286) -/

/-- R352: a time base follows its own entries, from 0x4900 on, and those of its sources: a write below them leaves its time. -/
theorem tbThrough_wrN_of_lt {k : Nat} (hk : k < 0x490000) (v fuel n : Nat) (s : State) :
    (wrN k v s).tbThrough fuel n = s.tbThrough fuel n := by
  induction fuel generalizing n with
  | zero => rfl
  | succ fuel ih =>
    have hsource : K.tbSource n ≠ k := by simp only [K.tbSource]; omega
    have harg : K.tbSrcArg n ≠ k := by simp only [K.tbSrcArg]; omega
    have hoffset : K.tbOffset n ≠ k := by simp only [K.tbOffset]; omega
    simp only [State.tbThrough, rdN_wrN_ne _ _ _ _ hsource, rdN_wrN_ne _ _ _ _ harg, rd_wrN_ne _ _ _ _ hoffset, ih]
    rfl

theorem tbNs_wrN_diState {i : Nat} (hi : i < 128) (v n : Nat) (s : State) : (wrN (K.diState i) v s).tbNs n = s.tbNs n :=
  congrArg (· / 65536) (tbThrough_wrN_of_lt (by simp only [K.diState]; omega) v 8 n s)

/-- R285: a level is taken when it differs from the present one and has been held for D. -/
theorem guarded_debounceComplete (i : Nat) (level : Bool) (held : Nat) (s : State) :
    Guarded (.debounceComplete i level held) s
      (i < 128 ∧ s.fieldPowered = true ∧ level ≠ bitOf (s.rdN (K.diState i)) 0 ∧ s.rdN (K.diDebounce i) * us ≤ held)
      (fun s =>
        let sel := s.rdN (K.diEdge i)
        let w := wrN (K.diLastEdge i) ((s.tbNs 0 - held) % 2 ^ 64) (wrN (K.diState i) (if level then 3 else 0) s)
        stageDi i (if (if level then bitOf sel 0 else bitOf sel 1) then wrN (K.diEdges i) ((w.rdN (K.diEdges i) + 1) % 2 ^ 32) w else w)) :=
  guarded_congr (guarded_only rfl (by simp [and_assoc])) fun ⟨hi, _⟩ => by simp only [only, tbNs_wrN_diState hi]

theorem exec_debounceComplete_of_not {i : Nat} {level : Bool} {held : Nat} {s : State}
    (h : s.fieldPowered = false ∨ level = bitOf (s.rdN (K.diState i)) 0 ∨ held < s.rdN (K.diDebounce i) * us) :
    exec (.debounceComplete i level held) s = .next s := by
  refine (guarded_debounceComplete i level held s).2 ?_
  rintro ⟨-, hpowered, hlevel, hheld⟩
  simp [hpowered, hlevel, hheld.not_gt] at h

/-! ### Faults of digital outputs (R289, R290, R292) -/

section
variable {s : State} {o : Nat} {temp : Int}

theorem exec_doRetryExpiry_of_past {t0 : Nat} (ho : o < 96) (hretry : s.rdN (K.doRetry o) ≠ 0) (hwait : (s.doCh o).wait = some t0)
    (hpast : s.past t0 (s.rdN (K.doRetry o) * ms) = true) :
    exec (.doRetryExpiry o) s = .next (driveDo o (updDo o (fun d => { d with wait := none, retryAt := some s.now }) s)) := by
  have hdue : (s.doCh o).wait.any (fun t => s.past t (s.rdN (K.doRetry o) * ms)) = true := by rw [hwait, Option.any_some, hpast]
  change execDoRetryExpiry o s = _
  rw [execDoRetryExpiry, decide_eq_true ho, decide_eq_true hretry, hdue, Bool.and_self, Bool.and_self, only_true]

/-- R292: the first over-temperature of an output, at 150 °C, sets the fault and latches nothing. -/
theorem exec_doOvertemp_of_first (ho : o < 96) (hmode : s.rdN (K.doMode o) = 0) (hsupply : bitOf (s.rdN (K.doFault o)) 5 = false)
    (htemp : 1500 ≤ temp) (hcool : (s.doCh o).hot = false) (htimes : (s.doCh o).hotTimes = []) :
    exec (.doOvertemp o temp) s =
      .next (driveDo o (doFaultSet o 1 (updDo o (fun d => { d with hot := true, hotTimes := [s.now] }) s))) := by
  change execDoOvertemp o temp s = _
  simp [execDoOvertemp, pushFront, ho, hmode, hsupply, htemp, hcool, htimes]

/-- R292: between 135 °C and 150 °C an output stays as it is. -/
theorem exec_doOvertemp_of_between (hlo : 1350 ≤ temp) (hhi : temp < 1500) : exec (.doOvertemp o temp) s = .next s := by
  change execDoOvertemp o temp s = _
  simp [execDoOvertemp, only, hlo.not_gt, hhi.not_ge]

end

/-! ### Field supplies (R294) -/

section
variable {s : State} {g mv held old new : Nat}

/-- A field voltage above 36 V lies outside the ratings. -/
theorem exec_fieldSupplyChange_of_outside (h : 36000 < mv) :
    exec (.fieldSupplyChange g mv held) s = .fault (.outsideRatings "VFIELD") :=
  if_pos h

/-- R294: a supply that keeps its state, whose condition has not held for its time, or whose converter has failed, changes nothing. -/
theorem exec_fieldSupplyChange_of_not (hold : s.rdN (kSupState g) = old) (hnew : supplyState old mv = new) (hmv : mv ≤ 36000)
    (h : 9 ≤ g ∨ new = old ∨ held < supplyHold old new ∨ bitOf (s.rdN (K.adcStatus 4)) 3 = true) :
    exec (.fieldSupplyChange g mv held) s = .next s := by
  change execFieldSupplyChange g mv held s = _
  rw [execFieldSupplyChange, if_neg hmv.not_gt, hold, hnew]
  refine congrArg _ (if_neg ?_)
  simp only [Bool.and_eq_true, decide_eq_true_eq, Bool.not_eq_true']
  rintro ⟨⟨⟨hg, hchanged⟩, hheld⟩, hadc⟩
  simp [hg.not_ge, hchanged, hheld.not_gt, hadc] at h

/-- R294, R324: VSENS changes to a state other than MISSING: SUPPLY of every current-loop output clears, no port falls. -/
theorem exec_fieldSupplyChange_vsens (hold : s.rdN (kSupState 8) = old) (hnew : supplyState old mv = new) (hmv : mv ≤ 36000)
    (hchanged : new ≠ old) (hheld : supplyHold old new ≤ held) (hadc : bitOf (s.rdN (K.adcStatus 4)) 3 = false) (hpresent : new ≠ 2) :
    let w := wrN (kSupVoltage 8) (mv % 65536) (wrN (kSupState 8) new s)
    exec (.fieldSupplyChange 8 mv held) s = .next (each (List.range 16) (aoSupply false)
      (raiseSev Ev.vsensSupply (le 1 new ++ le 2 mv) (if new = 3 then 4 else if new = 1 then 3 else 2)
        { w with fld := { w.fld with supAt := Tab.put w.fld.supAt 8 s.now 0 } })) := by
  change execFieldSupplyChange 8 mv held s = _
  simp [execFieldSupplyChange, hmv.not_gt, hold, hnew, hchanged, hheld, hadc, hpresent]

end

/-- Settles O35: each command of the digital channels and their supplies is an effect under its condition, or a write to a command
entry. -/
theorem digitalIo : Obligations.DigitalIo := by
  refine fun src i o g held v p b mv level high stays temp s => ⟨?debounce, exec_debounceComplete_of_not, ?edges, ?ocTrip,
    fun t0 => exec_doRetryExpiry_of_past, fun ho hmode hsupply => ⟨exec_doOvertemp_of_first ho hmode hsupply, exec_doOvertemp_of_between⟩,
    ?noDrive, ?offTest, ?ack, exec_fieldSupplyChange_of_outside, exec_fieldSupplyChange_of_not rfl rfl,
    exec_fieldSupplyChange_vsens rfl rfl, ?blockHold, ?stopHold, ?holdLimit⟩
  case debounce =>
    exact fun hi hpowered hlevel hheld => (guarded_debounceComplete i level held s).1 ⟨hi, hpowered, hlevel, hheld⟩
  case edges => exact fun hi => commanded_only rfl (decide_eq_true hi) rfl
  case ocTrip => exact guarded_only rfl (by simp [and_assoc])
  case noDrive => exact guarded_only rfl (by simp [and_assoc])
  case offTest => exact guarded_only rfl (by simp [and_assoc])
  case ack => exact fun ho => commanded_only rfl (decide_eq_true ho) rfl
  case blockHold => exact guarded_only rfl (by simp)
  case stopHold => exact guarded_only rfl (by simp)
  case holdLimit => exact guarded_only rfl (by simp [and_assoc])

end Sys2Proof.Machine
end

section
/-! PROOFS of the family of spec/04_arbour_instruction_set.md: the Arbour instruction set (R108 to R142), its system calls (R133) and what
its loads and stores do to memory (R113 to R115, R188, R190). This part: the frame of an instruction. -/

namespace Sys2Proof.Machine

/-! ### Bits of a word -/

/-- Setting bit i of a number that is split at bit i. -/
theorem setBit_split (h r i : Nat) (a b : Bool) (hr : r < 2 ^ i) :
    setBit (2 ^ i * (2 * h + b2n a) + r) i b = 2 ^ i * (2 * h + b2n b) + r := by
  have hbit : bitOf (2 ^ i * (2 * h + b2n a) + r) i = a := by
    rw [bitOf, Nat.testBit_two_pow_mul_add _ hr, if_neg (lt_irrefl i), Nat.sub_self, Nat.testBit_zero]
    cases a <;> simp [b2n]
  rw [setBit, hbit]
  cases a <;> cases b <;> simp [b2n, Nat.mul_add] <;> omega

/-- Bit i of a word becomes the bit set, every other bit stays. -/
theorem bitOf_setBit (v i j : Nat) (b : Bool) : bitOf (setBit v i b) j = if j = i then b else bitOf v j := by
  have hr : v % 2 ^ i < 2 ^ i := Nat.mod_lt _ (by positivity)
  obtain ⟨h, a, hv⟩ : ∃ h a, v / 2 ^ i = 2 * h + b2n a :=
    ⟨v / 2 ^ i / 2, bitOf (v / 2 ^ i) 0, by simp [bitOf, Nat.testBit_zero, b2n]; split <;> omega⟩
  have hsplit : v = 2 ^ i * (2 * h + b2n a) + v % 2 ^ i := by rw [← hv, Nat.div_add_mod]
  generalize v % 2 ^ i = r at hr hsplit
  subst hsplit
  rw [setBit_split h r i a b hr]
  simp only [bitOf, Nat.testBit_two_pow_mul_add _ hr]
  rcases lt_trichotomy j i with hj | rfl | hj
  · simp [hj, hj.ne]
  · cases b <;> simp [b2n]
  · obtain ⟨k, rfl⟩ := Nat.exists_eq_add_of_lt hj
    have hk : i + k + 1 - i = k + 1 := by omega
    have hne : i + k + 1 ≠ i := by omega
    have half (x : Bool) : (2 * h + b2n x) / 2 = h := by cases x <;> simp [b2n]; omega
    simp [hj.not_gt, hk, hne, Nat.testBit_succ, half]

theorem setBit_lt {v i n : Nat} (b : Bool) (hv : v < 2 ^ n) (hi : i < n) : setBit v i b < 2 ^ n := by
  refine Nat.lt_pow_two_of_testBit _ fun j hj => ?_
  have hne : j ≠ i := by omega
  have hbit := bitOf_setBit v i j b
  rw [if_neg hne] at hbit
  exact hbit.trans (Nat.testBit_lt_two_pow (hv.trans_le (Nat.pow_le_pow_right (by omega) hj)))

/-! ### Runs of `Arb` -/

theorem run_bind_of_ok {α β : Type} {m : Arb α} {k : α → Arb β} {s u : State} {v : α}
    (h : m s = .ok v u) : (m >>= k) s = k v u := by
  simp only [bind, EStateM.bind, h]

theorem run_bind_of_error {α β : Type} {m : Arb α} {k : α → Arb β} {s u : State} {e : Halt} (h : m s = .error e u) :
    (m >>= k) s = .error e u := by
  simp only [bind, EStateM.bind, h]

/-- A run of two parts that goes through went through the first. -/
theorem run_bind_eq_ok {α β : Type} {m : Arb α} {k : α → Arb β} {s t : State} {w : β} (h : (m >>= k) s = .ok w t) :
    ∃ v u, m s = .ok v u ∧ k v u = .ok w t := by
  cases hm : m s with
  | ok v u => exact ⟨v, u, rfl, by rwa [run_bind_of_ok hm] at h⟩
  | error e u => rw [run_bind_of_error hm] at h; cases h

theorem run_get (s : State) : (get : Arb State) s = .ok s s := rfl

theorem run_bankOf (c : Ctx) (s : State) : bankOf' c s = .ok (s.bank c.l c.x) s := rfl

theorem need_false {b : Bool} (h : b = false) (k sub a : Nat) : need b k sub a = trap k sub a := by
  simp [need, h]

/-- A check that goes through holds, and changes nothing. -/
theorem need_eq_ok {b : Bool} {k sub a : Nat} {s t : State} (h : need b k sub a s = .ok () t) : b = true ∧ t = s := by
  cases b with
  | false => cases h
  | true => cases h; exact ⟨rfl, rfl⟩

theorem run_need_bind_eq_ok {β : Type} {b : Bool} {k sub a : Nat} {m : Arb β} {s t : State} {w : β}
    (h : (need b k sub a >>= fun _ => m) s = .ok w t) : b = true ∧ m s = .ok w t := by
  obtain ⟨_, u, hneed, hm⟩ := run_bind_eq_ok h
  obtain ⟨hb, rfl⟩ := need_eq_ok hneed
  exact ⟨hb, hm⟩

theorem run_need_bind_of_true {β : Type} {b : Bool} (h : b = true) {k sub a : Nat} {m : Arb β} {s : State} :
    (need b k sub a >>= fun _ => m) s = m s := by
  rw [need_true _ _ _ _ h, pure_bind]

theorem run_need_bind_of_false {β : Type} {b : Bool} (h : b = false) {k sub a : Nat} {m : Arb β} {s : State} :
    (need b k sub a >>= fun _ => m) s = .error (.trap k sub a) s := by
  rw [need_false h]
  rfl

theorem run_get_bind {β : Type} (k : State → Arb β) (s : State) : (get >>= k) s = k s s := rfl

/-! ### What changes one register bank -/

section
variable {c : Ctx} {words n : Nat} {f g : Bank → Bank} {s t u w : State}

theorem writes_refl : Writes c 0 id u u where
  bank := rfl
  others _ _ _ := rfl
  task := rfl
  tasks _ _ _ := rfl
  rest := rfl

theorem writes_setRegs (f : Bank → Bank) (u : State) : Writes c 0 f u (setBank c.l c.x (f (u.bank c.l c.x)) u) where
  bank := bank_setBank_same ..
  others _ _ h := bank_setBank_ne _ _ _ _ _ _ h
  task := rfl
  tasks _ _ _ := rfl
  rest := rfl

/-- The change of the bank may be written as any that agrees with it on the bank at hand. -/
theorem writes_congr (h : Writes c n f u t) (hfg : f (u.bank c.l c.x) = g (u.bank c.l c.x)) : Writes c n g u t :=
  { h with bank := h.bank.trans hfg }

theorem writes_trans (h : Writes c 0 f u t) (h' : Writes c n g t w) : Writes c n (fun r => g (f r)) u w where
  bank := by rw [h'.bank, h.bank]
  others l x hne := (h'.others l x hne).trans (h.others l x hne)
  task := by rw [h'.task, h.task]; rfl
  tasks p x hne := (h'.tasks p x hne).trans (h.tasks p x hne)
  rest := by
    conv_lhs => rw [h'.rest, h.rest]

theorem writes_fresh (h : Writes c n f u t) (k : Nat) : Writes c n f { u with fresh := k } { t with fresh := k } where
  bank := h.bank
  others := h.others
  task := h.task
  tasks := h.tasks
  rest := by
    conv_lhs => rw [h.rest]

/-- R139: retiring counts the instructions, and leaves the registers. -/
theorem writes_retire_id (u : State) : Writes c n id u (retire c n u) where
  bank := rfl
  others _ _ _ := rfl
  task := by simp [retire, updTask, State.task, Tab.upd]
  tasks _ _ h := Tab.get_put_ne _ _ _ _ _ _ h
  rest := rfl

/-- A change of registers leaves the Pavilions. -/
theorem writes_pavs (h : Writes c n f u t) : t.pavs = u.pavs := by rw [h.rest]

end

/-! ### An instruction that runs (R108, R139) -/

section
variable {c : Ctx} {words n : Nat} {illegal : Bank → State → Nat} {body : Ctx → Arb Unit} {i : Instr} {f : Bank → Bank}
  {s t u : State}

@[simp] theorem bank_begun (c : Ctx) (words : Nat) (s : State) : (Begun c words s).bank c.l c.x = (s.bank c.l c.x).next (4 * words) :=
  bank_setBank_same ..

theorem step_begun (h : Ready c words n s) : ((Begun c words s).pav c.p).step = false := h.free

/-- An instruction that is ready and legal runs its body where PC stands behind it. -/
theorem instruction_of_ready (h : Ready c words n s) (hi : illegal (s.bank c.l c.x) s = 0) :
    instruction c words n illegal (body c) s = (body c >>= fun _ => modify (retire c n)) (Begun c words s) := by
  have hlegal : need (decide (illegal (s.bank c.l c.x) s = 0)) Cause.illegal (illegal (s.bank c.l c.x) s) 0 = pure () :=
    need_true _ _ _ _ (decide_eq_true hi)
  have hbudget : need (decide ((s.task c.p c.x).retired + n ≤ s.rdN (K.pavIbudget c.p c.x))) Cause.budget 1 0 = pure () :=
    need_true _ _ _ _ (decide_eq_true h.budget)
  rw [instruction, run_bind_of_ok h.fetch, run_bind_of_ok (run_get s), hlegal, hbudget]
  rfl

/-- An instruction whose body traps takes the trap at its own PC. -/
theorem executing_trap (h : Ready c words n s) (hi : illegal (s.bank c.l c.x) s = 0) {cause sub addr : Nat}
    (hb : body c (Begun c words s) = .error (.trap cause sub addr) t) :
    executing c.l words n illegal body s = .next (takeTrap c (s.bank c.l c.x).pc.toNat cause sub addr t) := by
  simp only [executing, h.ctx, instruction_of_ready h hi, run_bind_of_error hb, conclude]

theorem trapsAt_of_body (hexec : exec i s = executing c.l words n illegal body s) (h : Ready c words n s)
    (hi : illegal (s.bank c.l c.x) s = 0) {cause sub addr : Nat}
    (hb : body c (Begun c words s) = .error (.trap cause sub addr) (Begun c words s)) : TrapsAt i c words cause sub addr s :=
  hexec.trans (executing_trap h hi hb)

/-- R133, R136: an instruction that waits leaves what its body has left. -/
theorem executing_wait (h : Ready c words n s) (hi : illegal (s.bank c.l c.x) s = 0) (hb : body c (Begun c words s) = .error .wait t) :
    executing c.l words n illegal body s = .next t := by
  simp only [executing, h.ctx, instruction_of_ready h hi, run_bind_of_error hb, conclude]

/-- R118, R140: an instruction whose own fields make it illegal takes the illegal-opcode trap, and does nothing else. -/
theorem executing_illegal (h : Ready c words n s) {k : Nat} (hi : illegal (s.bank c.l c.x) s = k) (hk : k ≠ 0) :
    executing c.l words n illegal body s = .next (takeTrap c (s.bank c.l c.x).pc.toNat Cause.illegal k 0 s) := by
  have hlegal : need (decide (illegal (s.bank c.l c.x) s = 0)) Cause.illegal (illegal (s.bank c.l c.x) s) 0 = trap Cause.illegal k 0 := by
    rw [hi]; exact need_false (decide_eq_false hk) ..
  have hr : instruction c words n illegal (body c) s = .error (.trap Cause.illegal k 0) s := by
    rw [instruction, run_bind_of_ok h.fetch, run_bind_of_ok (run_get s), hlegal]
    rfl
  simp only [executing, h.ctx, hr, conclude]

/-- An instruction whose body goes through retires: its registers change as those of the body. -/
theorem does_of_body (hexec : exec i s = executing c.l words n illegal body s) (h : Ready c words n s)
    (hi : illegal (s.bank c.l c.x) s = 0) (hb : body c (Begun c words s) = .ok () t) (hw : Writes c 0 f u t)
    (hs : (u.pav c.p).step = false) : Does i s (Writes c n f u) := by
  have hstep : ((retire c n t).pav c.p).step = false := by
    simpa [retire, updTask, State.pav, writes_pavs hw] using hs
  exact ⟨_, hexec.trans (by rw [executing_ok h illegal body hi hb, stepped_of_free hstep]),
    writes_trans (g := id) hw (writes_retire_id t)⟩

/-- An instruction of one word whose body changes registers alone. -/
theorem does_of_registers (hexec : exec i s = executing c.l words n illegal body s) (h : Ready c words n s)
    (hi : illegal (s.bank c.l c.x) s = 0) (hb : body c (Begun c words s) = .ok () t) (hw : Writes c 0 f (Begun c words s) t) :
    Does i s (Writes c n f (Begun c words s)) :=
  does_of_body hexec h hi hb hw (step_begun h)

/-- The body of the instruction is one change of registers. -/
theorem registersOnly_of_setRegs (hexec : ∀ s, exec i s = executing c.l words 1 illegal body s)
    (hi : ∀ s, illegal (s.bank c.l c.x) s = 0) (hbody : body c = setRegs c f) : RegistersOnly i c words f := fun s h =>
  does_of_registers (hexec s) h (hi s) (congrFun hbody _) (writes_setRegs f _)

/-- The body of the instruction is a read or a store by `m`, and what follows changes registers alone. -/
theorem result_of_bind {α : Type} {m : Arb α} {k : α → Arb Unit} {f : α → Bank → Bank}
    (hexec : ∀ s, exec i s = executing c.l words 1 illegal body s) (hi : ∀ s, illegal (s.bank c.l c.x) s = 0)
    (hbody : body c = m >>= k) (hk : ∀ v u, ∃ t, k v u = .ok () t ∧ Writes c 0 (f v) u t) :
    Result i c words m f := fun s v u h hm hs => by
  obtain ⟨t, hkt, hw⟩ := hk v u
  exact does_of_body (hexec s) h (hi s) (by rw [hbody, run_bind_of_ok hm, hkt]) hw hs

/-- As `result_of_bind`, where what follows is one change of registers. -/
theorem result_of_setRegs {α : Type} {m : Arb α} {k : α → Arb Unit} {f : α → Bank → Bank}
    (hexec : ∀ s, exec i s = executing c.l words 1 illegal body s) (hi : ∀ s, illegal (s.bank c.l c.x) s = 0)
    (hbody : body c = m >>= k) (hk : ∀ v u, k v u = setRegs c (f v) u) : Result i c words m f :=
  result_of_bind hexec hi hbody fun v u => ⟨_, hk v u, writes_setRegs (f v) u⟩

end

end Sys2Proof.Machine
end

section
/-! PROOFS of the family of spec/04_arbour_instruction_set.md, second part: registers. -/

namespace Sys2Proof.Machine

/-! ### Registers and the branch stack (R109, R119, R121) -/

/-- R109: CLRF clears bit 4 of STATUS. -/
theorem flag_fi_false (st : BitVec 16) : flag st 4 false = st &&& ~~~(BitVec.ofNat 16 0x10) := by
  refine BitVec.eq_of_getLsbD_eq fun i hi => ?_
  have h16 : (BitVec.ofNat 16 0x10).getLsbD i = decide (4 = i) := by
    rw [BitVec.getLsbD_ofNat, decide_eq_true hi, Bool.true_and]
    exact Nat.testBit_two_pow (n := 4)
  have hset := bitOf_setBit st.toNat 4 i false
  rw [bitOf] at hset
  rw [flag, BitVec.getLsbD_ofNat, hset, BitVec.getLsbD_and, BitVec.getLsbD_not, h16]
  by_cases h : i = 4
  · simp [h]
  · simp [h, hi, bitOf, Ne.symm h, BitVec.getElem_eq_testBit_toNat]

theorem zeroExtend_append (hi : BitVec 8) (ext : BitVec 32) :
    (hi ++ ext).zeroExtend 64 = BitVec.ofNat 64 (hi.toNat * 2 ^ 32 + ext.toNat) := by
  have hlt : hi.toNat * 2 ^ 32 + ext.toNat < 2 ^ 64 := by omega
  apply BitVec.eq_of_toNat_eq
  change ((hi ++ ext).setWidth 64).toNat = _
  rw [BitVec.toNat_setWidth, BitVec.toNat_append, ← Nat.shiftLeft_add_eq_or_of_lt ext.isLt, Nat.shiftLeft_eq,
    BitVec.toNat_ofNat]

theorem eq_of_bitVec2 (x : BitVec 2) : x = 0 ∨ x = 1 ∨ x = 2 ∨ x = 3 := by revert x; decide

section
variable {c : Ctx} {s : State} {tag : BitVec 2} {v : Bool} {rest : List (Bool × BitVec 2)} {bad : BitVec 2 → Bool}

/-- R121: a pop takes the top entry off. -/
theorem popBit_of_cons (h : (s.bank c.l c.x).bstk = (v, tag) :: rest) (htag : bad tag = false) :
    popBit c bad s = .ok v (setBank c.l c.x { s.bank c.l c.x with bstk := rest } s) := by
  simp only [popBit, bankOf', bind_assoc, pure_bind, run_bind_of_ok (run_get s), h]
  rw [htag]
  rfl

theorem popBit_of_nil (h : (s.bank c.l c.x).bstk = []) : popBit c bad s = .error (.trap Cause.bstk 2 0) s := by
  simp only [popBit, bankOf', bind_assoc, pure_bind, run_bind_of_ok (run_get s), h]
  rfl

theorem popBit_of_bad (h : (s.bank c.l c.x).bstk = (v, tag) :: rest) (htag : bad tag = true) :
    popBit c bad s = .error (.trap Cause.bstk 3 0) s := by
  simp only [popBit, bankOf', bind_assoc, pure_bind, run_bind_of_ok (run_get s), h]
  rw [htag]
  rfl

/-- What the pop of an instruction meets, by the branch stack before it. -/
theorem begun_bstk (c : Ctx) (s : State) : ((Begun c 1 s).bank c.l c.x).bstk = (s.bank c.l c.x).bstk := by
  rw [bank_begun]; rfl

/-- R121: an instruction that pops a bit and combines it with ACC. -/
theorem does_pop {i : Instr} {f : Bool → Bool → Bool}
    (hexec : exec i s = plain c.l (fun c => popBit c bad >>= fun v => setRegs c (fun r => r.setAcc (f r.acc v))) s) (h : Ready c 1 1 s)
    (hstk : (s.bank c.l c.x).bstk = (v, tag) :: rest) (htag : bad tag = false) :
    Does i s (Writes c 1 (fun r => { r with bstk := rest, acc := f r.acc v }) (Begun c 1 s)) :=
  does_of_registers hexec h rfl (run_bind_of_ok (popBit_of_cons ((begun_bstk c s).trans hstk) htag))
    (writes_trans (f := fun r => { r with bstk := rest }) (g := fun r => r.setAcc (f r.acc v)) (writes_setRegs _ _) (writes_setRegs _ _))

theorem trapsAt_pop_of_nil {i : Instr} {k : Ctx → Bool → Arb Unit} (hexec : exec i s = plain c.l (fun c => popBit c bad >>= k c) s)
    (h : Ready c 1 1 s) (hstk : (s.bank c.l c.x).bstk = []) : TrapsAt i c 1 Cause.bstk 2 0 s :=
  trapsAt_of_body hexec h rfl (run_bind_of_error (popBit_of_nil ((begun_bstk c s).trans hstk)))

theorem trapsAt_pop_of_bad {i : Instr} {k : Ctx → Bool → Arb Unit} (hexec : exec i s = plain c.l (fun c => popBit c bad >>= k c) s)
    (h : Ready c 1 1 s) (hstk : (s.bank c.l c.x).bstk = (v, tag) :: rest) (htag : bad tag = true) : TrapsAt i c 1 Cause.bstk 3 0 s :=
  trapsAt_of_body hexec h rfl (run_bind_of_error (popBit_of_bad ((begun_bstk c s).trans hstk) htag))

/-- R121: PUSH takes the check of the room on the branch stack, and puts ACC on it. -/
theorem does_push (h : Ready c 1 1 s) (htag : tag ≠ 3) (hroom : (s.bank c.l c.x).bstk.length < 16) :
    Does (.arbPush c.l tag) s (Writes c 1 (fun r => { r with bstk := (r.acc, tag) :: r.bstk }) (Begun c 1 s)) := by
  have hneed := need_true (decide (((Begun c 1 s).bank c.l c.x).bstk.length < 16)) Cause.bstk 1 0
    (decide_eq_true (by rwa [begun_bstk]))
  refine does_of_registers rfl h (if_neg htag) ?_ (writes_setRegs _ _)
  exact (run_bind_of_ok (run_bankOf c _)).trans (run_bind_of_ok (congrFun hneed _))

theorem trapsAt_push (h : Ready c 1 1 s) (htag : tag ≠ 3) (hfull : 16 ≤ (s.bank c.l c.x).bstk.length) :
    TrapsAt (.arbPush c.l tag) c 1 Cause.bstk 1 0 s := by
  have hneed := need_false (b := decide (((Begun c 1 s).bank c.l c.x).bstk.length < 16)) 
    (decide_eq_false (by rw [begun_bstk]; exact hfull.not_gt)) Cause.bstk 1 0
  refine trapsAt_of_body rfl h (if_neg htag) ?_
  exact (run_bind_of_ok (run_bankOf c _)).trans (run_bind_of_error (congrFun hneed _))

end

/-- Settles O1: each instruction is one change of registers; PUSH, POPA and POPO by what the branch stack holds. -/
theorem arbourRegisters : Obligations.ArbourRegisters := by
  refine ⟨fun c a ga gb imm hi ext sel fl => ⟨?nop, ?not, ?seta, ?clra, ?putg, ?addg, ?movga, ?xchw, ?gets, ?ldf, ?clrf⟩,
    fun c s h => ⟨fun tag => does_push h, fun tag => trapsAt_push h, ?popa, ?popo, ?empty, ?orTag, ?andTag⟩⟩
  case nop => exact registersOnly_of_setRegs (fun _ => rfl) (fun _ => rfl) rfl
  case not => exact registersOnly_of_setRegs (fun _ => rfl) (fun _ => rfl) rfl
  case seta => exact registersOnly_of_setRegs (fun _ => rfl) (fun _ => rfl) rfl
  case clra => exact registersOnly_of_setRegs (fun _ => rfl) (fun _ => rfl) rfl
  case putg => exact registersOnly_of_setRegs (fun _ => rfl) (fun _ => rfl) rfl
  case addg => exact registersOnly_of_setRegs (fun _ => rfl) (fun _ => rfl) rfl
  case movga =>
    rw [← zeroExtend_append]
    exact registersOnly_of_setRegs (fun _ => rfl) (fun _ => rfl) rfl
  case xchw => exact registersOnly_of_setRegs (fun _ => rfl) (fun _ => rfl) rfl
  case gets =>
    rcases eq_of_bitVec2 sel with rfl | rfl | rfl | rfl
    all_goals exact registersOnly_of_setRegs (fun _ => rfl) (fun _ => rfl) rfl
  case ldf => exact fun hfl => registersOnly_of_setRegs (fun _ => rfl) (fun _ => if_pos hfl) rfl
  case clrf =>
    simp only [← flag_fi_false]
    exact registersOnly_of_setRegs (fun _ => rfl) (fun _ => rfl) rfl
  case popa => exact fun v tag rest hstk htag => does_pop (f := fun a v => a && v) rfl h hstk (decide_eq_false htag)
  case popo => exact fun v tag rest hstk htag => does_pop (f := fun a v => a || v) rfl h hstk (decide_eq_false htag)
  case empty => exact fun hstk => ⟨trapsAt_pop_of_nil rfl h hstk, trapsAt_pop_of_nil rfl h hstk⟩
  case orTag => exact fun v rest hstk => trapsAt_pop_of_bad rfl h hstk rfl
  case andTag => exact fun v rest hstk => trapsAt_pop_of_bad rfl h hstk rfl

end Sys2Proof.Machine
end

section
/-! PROOFS of the family of spec/04_arbour_instruction_set.md, third part: what loads and stores of a task leave (R113 to R115, R188). -/

namespace Sys2Proof.Machine

/-! ### Stores of plain memory (R113 to R115, R136) -/

/-- Memory behind an address that a store writes byte by byte: D-TCM, shared SRAM, DRAM and the output image. -/
def IsPlain (a : Nat) : Prop := targetOf a = .dtcm ∨ targetOf a = .sram ∨ targetOf a = .dram ∨ targetOf a = .output

/-- The space of bytes that holds plain memory at `a`, as the lane sees it. -/
def spaceOf (c : Ctx) (a : Nat) : Nat := if targetOf a = .dtcm then Mem.tcm c.l else Mem.fabric

section
variable {c : Ctx} {a : Nat} {d : Data} {s u : State}

/-- A store that goes through passed its checks, and changed the state as `putData` does. -/
theorem storeData_eq_ok (h : storeData c a d s = .ok () u) : putData c a d s = .ok () u := by
  obtain ⟨-, h⟩ := run_need_bind_eq_ok h
  obtain ⟨-, h⟩ := run_need_bind_eq_ok h
  rw [run_get_bind] at h
  exact (run_need_bind_eq_ok h).2

/-- The state that a plain store writes in: only its egress buffer and its marks of poisoned words may differ. -/
structure SameMemory (s t : State) : Prop where
  mem : t.mem = s.mem
  dict : t.dict = s.dict
  banks : t.banks = s.banks

theorem sameMemory_only_unpoison (whole : Bool) (h : SameMemory s u) : SameMemory s (only whole (unpoison a) u) := by
  cases whole
  · exact h
  · exact ⟨h.mem, h.dict, h.banks⟩

/-- R30: a store to shared SRAM goes through unless it meets the error. -/
theorem sramStore_eq_ok (h : sramStore c a d s = .ok () u) : ∃ t, SameMemory s t ∧ u = d.write Mem.fabric a t := by
  unfold sramStore at h
  rw [run_get_bind] at h
  cases d with
  | bytes b =>
    dsimp only at h
    split at h
    · cases h
    · cases h
      refine ⟨_, ?_, rfl⟩
      exact sameMemory_only_unpoison _ ⟨rfl, rfl, rfl⟩
  | bit i v =>
    dsimp only at h
    split at h
    · cases h
    · cases h
      refine ⟨_, ?_, rfl⟩
      exact ⟨rfl, rfl, rfl⟩

theorem putData_eq_ok (hp : IsPlain a) (h : putData c a d s = .ok () u) : ∃ t, SameMemory s t ∧ u = d.write (spaceOf c a) a t := by
  unfold putData at h
  rw [run_get_bind] at h
  rcases hp with hp | hp | hp | hp
  · simp only [hp, spaceOf] at h ⊢
    cases h
    exact ⟨s, ⟨rfl, rfl, rfl⟩, rfl⟩
  · simp only [hp, spaceOf] at h ⊢
    exact sramStore_eq_ok h
  · simp only [hp, spaceOf] at h ⊢
    cases h
    refine ⟨_, ?_, rfl⟩
    exact ⟨rfl, rfl, rfl⟩
  · simp only [hp, spaceOf] at h ⊢
    obtain ⟨-, h⟩ := run_need_bind_eq_ok h
    obtain ⟨-, h⟩ := run_need_bind_eq_ok h
    cases h
    refine ⟨_, ?_, rfl⟩
    exact ⟨rfl, rfl, rfl⟩

theorem write_dict (d : Data) (sp a : Nat) (s : State) : (d.write sp a s).dict = s.dict := by
  cases d <;> simp only [Data.write, storeBit] <;> rw [store_rest]

theorem write_banks (d : Data) (sp a : Nat) (s : State) : (d.write sp a s).banks = s.banks := by
  cases d <;> simp only [Data.write, storeBit] <;> rw [store_rest]

end

/-! ### A store of one byte through the dictionary window (R45, R51, R526) -/

section
variable {k x : Nat}

theorem key_ne_of_lt (hk : 0xA00000 ≤ k) (hx : x < 0xA00000) : (k = x) = False := eq_false (by omega)
theorem index_not_le (hk : 0xA00000 ≤ k) (hx : x < 0xA000) : (k / 256 ≤ x) = False := eq_false (by omega)
theorem index_not_lt (hk : 0xA00000 ≤ k) (hx : x ≤ 0xA000) : (k / 256 < x) = False := eq_false (by omega)
theorem index_ne (hk : 0xA00000 ≤ k) (hx : x < 0xA000) : (k / 256 = x) = False := eq_false (by omega)
theorem safetyKeys_lt : ∀ k ∈ safetyKeys, k < 0xA00000 := by decide +kernel

theorem contains_safetyKeys (hk : 0xA00000 ≤ k) : safetyKeys.contains k = false := by
  rw [Bool.eq_false_iff, ne_eq, List.contains_iff_mem]
  exact fun h => absurd (safetyKeys_lt k h) hk.not_gt

theorem rowOf_declared (hk : 0xA00000 ≤ k) (s : State) (src : Path) (v : Bytes) : s.rowOf src k v = none := by
  simp (disch := decide) only [State.rowOf, key_ne_of_lt hk, index_not_le hk, index_not_lt hk, index_ne hk, contains_safetyKeys hk,
    Bool.false_eq_true, if_false, false_and, and_false]

end

section
variable {p i j n : Nat} {src : Path} {v : Bytes} {s u : State}

theorem banks_answerWrite (k code : Nat) (v : Bytes) (s : State) : (answerWrite k v code s).banks = s.banks := by
  unfold answerWrite
  split <;> rfl

theorem banks_journalKey (k : Nat) (s : State) : (journalKey k s).banks = s.banks := by
  unfold journalKey
  split <;> rfl

theorem banks_writeDeclared (k : Nat) (v : Bytes) (s : State) : (writeDeclared k v s).2.banks = s.banks := by
  unfold writeDeclared
  split
  · rfl
  · exact banks_journalKey ..

/-- R526: a write of an entry that a program declares changes no register bank. -/
theorem banks_plainWrite_declared {k : Nat} (hk : 0xA00000 ≤ k) : (plainWrite src k v s).banks = s.banks := by
  unfold plainWrite
  split
  · rfl
  · simp only [plainEffect, if_pos hk]
    split
    · rfl
    · split
      · rfl
      · rw [banks_answerWrite, banks_writeDeclared]

theorem banks_writeOutcome_declared (hi : 0xA000 ≤ i) : (writeOutcome src i j v s).2.banks = s.banks := by
  have hk : 0xA00000 ≤ 256 * i + j := by omega
  have happly (s : State) : (applyWrite src i j v s).banks = s.banks := by
    simp only [applyWrite, rowOf_declared hk, key_ne_of_lt hk (x := 0x200304) (by decide), if_false]
    split
    · rfl
    · split
      · rfl
      · exact banks_plainWrite_declared hk
  unfold writeOutcome
  dsimp only
  split <;> rw [happly]

/-- R6: every entry of the tables that a Pavilion's own code may write is longer than one byte. -/
theorem pavilionRow_size : ∀ r ∈ dictRows, r.role = .pavilion → r.size ≠ 1 := by decide +kernel

@[simp] theorem special_size (i j : Nat) (e : Entry) : (special i j e).size = e.size := by
  unfold special
  split_ifs <;> rfl

theorem role_of_special {e : Entry} (h : (special i j e).role = .pavilion) : e.role = .pavilion := by
  unfold special at h
  split_ifs at h
  exact h

/-- R44: code of a Pavilion may write an entry of one byte only where its program declares it. -/
theorem declared_of_accessCode {x : Entry} {q : Option Nat} (hentry : s.entryFor { scope := some p, code := true } i j = some x)
    (hsize : x.size = 1) (haccess : accessCode { scope := some p, code := true } x i j q = Err.ok) : 0xA000 ≤ i := by
  by_contra hi
  have hscope : ¬(0xA000 ≤ i ∧ i ≤ 0xAFFF) := fun h => hi h.1
  rw [State.entryFor, if_neg hscope] at hentry
  have ⟨hacc, hrole⟩ : x.acc ≠ .ro ∧ x.role = .pavilion := by
    unfold accessCode at haccess
    split at haccess
    · simp [Err.writeDenied, Err.ok] at haccess
    · split at haccess
      · exact ⟨‹_›, ‹_›⟩
      · simp [Err.scopeDenied, Err.ok] at haccess
  unfold tableEntry at hentry
  split at hentry
  next r hrow =>
    have hmem : r ∈ dictRows := List.mem_of_find?_eq_some hrow
    cases hentry
    exact pavilionRow_size r hmem (role_of_special hrole) (by simpa using hsize)
  next =>
    split at hentry
    · cases hentry
      exact hacc rfl
    · cases hentry

/-- R51, R52: a write of code that is answered with OK passed the checks of the window. -/
theorem codeWrite_eq_ok {width : Nat} (h : codeWrite p i j width v s = .ok Err.ok u) :
    s.mayWriteEntry (.window p) i j = Err.ok ∧ width = Err.ok ∧ u = (writeOutcome (.window p) i j v s).2 := by
  unfold codeWrite at h
  rw [run_get_bind] at h
  dsimp only at h
  split at h
  next he => injection h with hok _; exact absurd hok he
  next he =>
    split at h
    next hw => injection h with hok _; exact absurd hok hw
    next hw =>
      split at h
      · cases h
      · injection h with _ h
        exact ⟨not_not.mp he, not_not.mp hw, h.symm⟩

/-- R45, R51: a store of one byte through the window writes an entry that the program declares. -/
theorem declared_of_window {o : Nat} (hmay : s.mayWriteEntry (.window p) i j = Err.ok) (hwidth : s.widthCode p i j o 1 = Err.ok) :
    0xA000 ≤ i := by
  simp only [State.widthCode, State.caller, Option.bind] at hwidth
  simp only [State.mayWriteEntry, State.caller] at hmay
  split at hwidth
  · simp [Err.unknownIndex, Err.ok] at hwidth
  next x hentry =>
    have hsize : x.size = 1 := by
      by_contra hne
      simp [Ne.symm hne, Err.length, Err.ok] at hwidth
    refine declared_of_accessCode hentry hsize (q := s.belongsTo i j) (not_not.mp fun haccess => ?_)
    simp only [hentry, if_pos haccess] at hmay
    split at hmay
    next hfind => exact hfind hmay
    next => exact haccess hmay

/-- A store of one byte through the window changes no register bank. -/
theorem banks_winStore {c : Ctx} {a : Nat} {v : Bytes} (hv : v.length = 1) (h : winStore c a v s = .ok () u) : u.banks = s.banks := by
  unfold winStore at h
  rw [run_get_bind, hv] at h
  obtain ⟨e, w, hcode, h⟩ := run_bind_eq_ok h
  split at h
  · cases h
  next he =>
    cases h
    obtain rfl := not_not.mp he
    obtain ⟨hmay, hwidth, rfl⟩ := codeWrite_eq_ok hcode
    exact banks_writeOutcome_declared (declared_of_window hmay hwidth)

/-- A read through the window that is not refused changes nothing. -/
theorem winLoad_eq_ok {c : Ctx} {a n : Nat} {v : Bytes} (h : winLoad c a n s = .ok v u) : u = s := by
  unfold winLoad at h
  rw [run_get_bind] at h
  simp only [State.caller] at h
  split at h
  · cases h
  · cases h; rfl

/-- R113, R114: a store of one bit, wherever it goes through, changes no register bank. -/
theorem banks_storeData_bit {c : Ctx} {a i : Nat} {x : Bool} (h : storeData c a (.bit i x) s = .ok () u) : u.banks = s.banks := by
  have hput := storeData_eq_ok h
  by_cases hp : IsPlain a
  · obtain ⟨t, hsame, rfl⟩ := putData_eq_ok hp hput
    rw [write_banks, hsame.banks]
  · unfold putData at hput
    rw [run_get_bind] at hput
    cases htarget : targetOf a <;> simp only [IsPlain, htarget, reduceCtorEq, or_false, false_or, not_true_eq_false] at hp
    all_goals simp only [htarget] at hput
    case window =>
      obtain ⟨old, w, hload, hstore⟩ := run_bind_eq_ok hput
      obtain rfl := winLoad_eq_ok hload
      exact banks_winStore rfl hstore
    case fast => cases (run_need_bind_eq_ok hput).2; rfl
    all_goals cases hput

end
/-! ### Loads, and stores byte by byte (R113 to R115, R188, R190) -/

section
variable {c : Ctx} {a n i : Nat} {b v : Bytes} {x : Bool} {s t u : State}

theorem byte_of_mem_eq (h : t.mem = s.mem) (sp y : Nat) : t.byte sp y = s.byte sp y := by
  simp only [State.byte, h]

/-- R188: a load of memory or of an image leaves the state; the CAN stores and the fast pages have rules of their own. -/
theorem loadBytes_eq_ok {k : Bool} (hcan : targetOf a ≠ .can) (hfast : targetOf a ≠ .fast)
    (h : loadBytes c k a n s = .ok v u) : u = s := by
  obtain ⟨-, h⟩ := run_need_bind_eq_ok h
  rw [run_get_bind] at h
  obtain ⟨-, h⟩ := run_need_bind_eq_ok h
  unfold fetchData at h
  rw [run_get_bind] at h
  cases htarget : targetOf a <;> simp only [htarget] at h
  case itcm => split at h <;> cases h; rfl
  case sram => split at h <;> cases h; rfl
  case window => exact winLoad_eq_ok h
  case can => exact absurd htarget hcan
  case fast => exact absurd htarget hfast
  case none => cases h
  all_goals (cases h; rfl)

/-- What a store of bytes leaves: the bytes at its address, and every other byte, the dictionary and the registers as they were. -/
structure StoredBytes (sp a : Nat) (b : Bytes) (s u : State) : Prop where
  stored : ∀ j < b.length, u.byte sp (a + j) = b.getD j 0
  kept : ∀ sp' y, (∀ j < b.length, cell sp' y ≠ cell sp (a + j)) → u.byte sp' y = s.byte sp' y
  dict : u.dict = s.dict
  banks : u.banks = s.banks

theorem storedBytes_store (h : SameMemory s t) (sp a : Nat) (b : Bytes) : StoredBytes sp a b s (store sp a b t) where
  stored j hj := byte_store sp a j b t hj
  kept sp' y hy := (byte_store_ne sp a sp' y b t hy).trans (byte_of_mem_eq h.mem sp' y)
  dict := (write_dict (.bytes b) sp a t).trans h.dict
  banks := (write_banks (.bytes b) sp a t).trans h.banks

theorem storedBytes_of_storeData (hp : IsPlain a) (h : storeData c a (.bytes b) s = .ok () u) : StoredBytes (spaceOf c a) a b s u := by
  obtain ⟨t, hsame, rfl⟩ := putData_eq_ok hp (storeData_eq_ok h)
  exact storedBytes_store hsame ..

/-- R114: a bit store is a store of its byte with the one bit set. -/
theorem storedBytes_of_storeData_bit (hp : IsPlain a) (h : storeData c a (.bit i x) s = .ok () u) :
    StoredBytes (spaceOf c a) a [BitVec.ofNat 8 (setBit (s.byte (spaceOf c a) a).toNat i x)] s u := by
  obtain ⟨t, hsame, rfl⟩ := putData_eq_ok hp (storeData_eq_ok h)
  rw [← byte_of_mem_eq hsame.mem]
  exact storedBytes_store hsame ..

/-- R114: the bits of a byte in which one bit was set. -/
theorem bitOf_byte_setBit (y : Byte) (hi : i < 8) (x : Bool) (j : Nat) :
    bitOf (BitVec.ofNat 8 (setBit y.toNat i x)).toNat j = if j = i then x else bitOf y.toNat j := by
  rw [BitVec.toNat_ofNat, Nat.mod_eq_of_lt (setBit_lt x y.isLt hi), bitOf_setBit]

/-- A store instruction leaves in memory what its store leaves. -/
theorem does_storedBytes {ins : Instr} {sp : Nat} {f : Bank → Bank} (h : Does ins s (Writes c 1 f u))
    (hstored : StoredBytes sp a b (Begun c 1 s) u) :
    Does ins s (fun t => (∀ j < b.length, t.byte sp (a + j) = b.getD j 0) ∧
      (∀ sp' y, (∀ j < b.length, cell sp' y ≠ cell sp (a + j)) → t.byte sp' y = s.byte sp' y) ∧ t.dict = s.dict) := by
  obtain ⟨t, hexec, hw⟩ := h
  have hmem : t.mem = u.mem := by rw [hw.rest]
  have hdict : t.dict = u.dict := by rw [hw.rest]
  refine ⟨t, hexec, fun j hj => ?_, fun sp' y hy => ?_, hdict.trans hstored.dict⟩
  · rw [byte_of_mem_eq hmem, hstored.stored j hj]
  · rw [byte_of_mem_eq hmem, hstored.kept sp' y hy]
    rfl

/-- R115: STX stores at G[GA] + IMM12. -/
theorem does_stx {w : BitVec 2} {acc : Bool} {ga : BitVec 4} {imm : BitVec 12} (h : Ready c 1 1 s)
    (hstore : storeData c (((Begun c 1 s).bank c.l c.x).indexed ga imm)
      (.bytes (le (widthOf w) (((Begun c 1 s).bank c.l c.x).accu acc).toNat)) (Begun c 1 s) = .ok () u)
    (hstep : (u.pav c.p).step = false) : Does (.arbStx c.l w acc ga imm) s (Writes c 1 id u) :=
  does_of_body rfl h rfl ((run_bind_of_ok (run_bankOf c _)).trans hstore) writes_refl hstep

/-- R112: STW stores at its operand. -/
theorem does_stw {w : BitVec 2} {acc : Bool} {o : Space} {off : BitVec 18} (h : Ready c 1 1 s)
    (hstore : storeOp c o off (.bytes (le (widthOf w) (((Begun c 1 s).bank c.l c.x).accu acc).toNat)) (Begun c 1 s) = .ok () u)
    (hstep : (u.pav c.p).step = false) : Does (.arbStw c.l w acc o off) s (Writes c 1 id u) :=
  does_of_body rfl h rfl ((run_bind_of_ok (run_bankOf c _)).trans hstore) writes_refl hstep

/-- R23: the bytes of the input image are a target of their own. -/
theorem targetOf_input {o : Nat} (h : o < 0x40000) : targetOf (inBase + o) = .input := by
  have hsram : inSram (inBase + o) = false := by
    rw [inSram, decide_eq_false (p := inBase + o ≤ 0x010BFFFFFF) (by unfold inBase; omega), Bool.and_false]
  have hitcm : ¬inBase + o < 0x100000 := by simp only [inBase]; omega
  have hdtcm : ¬inBase + o < 0x200000 := by simp only [inBase]; omega
  have hinput : inBase ≤ inBase + o ∧ inBase + o < outBase := by simp only [inBase, outBase]; omega
  simp [targetOf, hitcm, hdtcm, hsram, hinput]

theorem addrOf_input (c : Ctx) (off : BitVec 18) (s : State) : addrOf c .i off false s = .ok (inBase + off.toNat) s := by
  have ha : (inBase + off.toNat) % 2 ^ 64 = inBase + off.toNat := by simp only [inBase]; omega
  have hrun : addrOf c .i off false s = .ok ((inBase + off.toNat) % 2 ^ 64) s := rfl
  rw [hrun, ha]

/-- R113, R190: a read of the input image. -/
theorem loadOp_input {off : BitVec 18} (halign : (inBase + off.toNat) % 8 + n ≤ 8) (hmay : s.mayRead c.p (inBase + off.toNat) = true) :
    loadOp c .i off n s = .ok (ofLe (s.imageBytes c (inBase + off.toNat) n)) s := by
  have htarget := targetOf_input (o := off.toNat) (by omega)
  have hload : loadBytes c (decide (Space.i = .k)) (inBase + off.toNat) n s = .ok (s.imageBytes c (inBase + off.toNat) n) s := by
    unfold loadBytes fetchData
    rw [need_true _ _ _ _ (decide_eq_true halign), pure_bind, run_get_bind, need_true _ _ _ _ (by simp [hmay]), pure_bind, run_get_bind]
    simp only [htarget]
    rfl
  unfold loadOp
  rw [run_bind_of_ok (addrOf_input c off s), run_bind_of_ok hload]
  rfl

end

/-- Settles O14: a plain store writes its bytes in a state with the same memory, and an instruction retires around it. -/
theorem arbourMemoryFrame : Obligations.ArbourMemoryFrame := by
  refine ⟨fun c k a n v b i x s u => ⟨?load, ?bytes, ?bit, ?stx, ?stw⟩, fun c off n s => loadOp_input⟩
  case load => exact loadBytes_eq_ok
  case bytes =>
    intro hp h
    obtain ⟨hstored, hkept, hdict, hbanks⟩ := storedBytes_of_storeData hp h
    exact ⟨hstored, hkept, hdict, hbanks⟩
  case bit =>
    intro hp hi h
    obtain ⟨hstored, hkept, hdict, hbanks⟩ := storedBytes_of_storeData_bit hp h
    have hbyte := hstored 0 (by simp)
    have hbit (j : Nat) := congrArg (fun y : Byte => bitOf y.toNat j) hbyte
    simp only [Nat.add_zero, List.getD_cons_zero, bitOf_byte_setBit _ hi] at hbit
    refine ⟨(hbit i).trans (if_pos rfl), fun j _ hj => (hbit j).trans (if_neg hj),
      fun sp' y hy => hkept sp' y fun j hj => ?_, hdict, hbanks⟩
    obtain rfl : j = 0 := by simpa using hj
    exact hy
  case stx =>
    rintro w acc ga imm h rfl rfl hp hstore hstep
    exact does_storedBytes (does_stx h hstore hstep) (storedBytes_of_storeData hp hstore)
  case stw =>
    rintro w acc o off h haddr rfl hp hstore hstep
    exact does_storedBytes (does_stw h ((run_bind_of_ok haddr).trans hstore) hstep) (storedBytes_of_storeData hp hstore)

end Sys2Proof.Machine
end

section
/-! PROOFS of the family of spec/04_arbour_instruction_set.md, fourth part: bits, timers, counters, words and moves. -/

namespace Sys2Proof.Machine

/-! ### Bits and edges (R114, R119, R120, R122) -/

section
variable {c : Ctx} {sp : Space} {off : BitVec 18} {b : BitVec 3} {i : Instr} {x : Bool} {s u : State}

/-- R114: an instruction that stores a bit computed from ACC. -/
theorem does_bitStore {f : Bool → Option Bool} (hexec : exec i s = bitStore c.l sp off b f s) (h : Ready c 1 1 s)
    (hf : f (s.bank c.l c.x).acc = some x) (hstore : storeOp c sp off (.bit b.toNat x) (Begun c 1 s) = .ok () u)
    (hstep : (u.pav c.p).step = false) : Does i s (Writes c 1 id u) := by
  have hacc : f ((Begun c 1 s).bank c.l c.x).acc = some x := by rw [bank_begun]; exact hf
  refine does_of_body hexec h rfl ((run_bind_of_ok (run_bankOf c _)).trans ?_) writes_refl hstep
  simp only [hacc]
  exact hstore

/-- R114: no store is issued. -/
theorem does_bitStore_none {f : Bool → Option Bool} (hexec : exec i s = bitStore c.l sp off b f s) (h : Ready c 1 1 s)
    (hf : f (s.bank c.l c.x).acc = none) : Does i s (Writes c 1 id (Begun c 1 s)) := by
  have hacc : f ((Begun c 1 s).bank c.l c.x).acc = none := by rw [bank_begun]; exact hf
  refine does_of_registers hexec h rfl ((run_bind_of_ok (run_bankOf c _)).trans ?_) writes_refl
  simp only [hacc]
  rfl

/-- R122: the registers that an edge instruction reads after its store are those it stored ACC from. -/
theorem result_edge {f : Bool → Bool → Bool} (hexec : ∀ s, exec i s = edge c.l sp off b f s) :
    Result i c 1 (edgeRun c sp off b) (fun m r => { r with acc := f r.acc m }) := fun s m u h hrun hstep => by
  obtain ⟨a, s1, haddr, hrun⟩ := run_bind_eq_ok hrun
  obtain ⟨v, s2, hload, hrun⟩ := run_bind_eq_ok hrun
  rw [run_bind_of_ok (run_bankOf c s2)] at hrun
  obtain ⟨_, s3, hstore, hrun⟩ := run_bind_eq_ok hrun
  cases hrun
  have hbank : u.bank c.l c.x = s2.bank c.l c.x := by simp only [State.bank, banks_storeData_bit hstore]
  refine does_of_body (hexec s) h rfl ?_
    (writes_congr (writes_setRegs (fun r => r.setAcc (f (s2.bank c.l c.x).acc (bitOf (ofLe v) b.toNat))) u) ?_) hstep
  · rw [run_bind_of_ok haddr, run_bind_of_ok hload, run_bind_of_ok (run_bankOf c s2), run_bind_of_ok hstore]
    rfl
  · rw [hbank]
    rfl

end

/-- Settles O2: bit loads as a read and a change of ACC, bit stores by what is stored, edges by the registers a bit store keeps. -/
theorem arbourBits : Obligations.ArbourBits := by
  refine ⟨fun c sp off b => ⟨?ld, ?ldn, ?and, ?andn, ?or, ?orn, ?xor, ?xorn⟩,
    fun c sp off b s u h hstep => ⟨?st, ?stn, ?set, ?rst, ?setNone, ?rstNone⟩,
    fun c sp off b => ⟨?edgp, ?edgn⟩⟩
  case st => exact fun hstore => does_bitStore (f := fun a => some a) rfl h rfl hstore hstep
  case stn => exact fun hstore => does_bitStore (f := fun a => some !a) rfl h rfl hstore hstep
  case set =>
    exact fun hacc hstore => does_bitStore rfl h (f := fun a => if a then some true else none) (x := true) (by simp [hacc]) hstore hstep
  case rst =>
    exact fun hacc hstore => does_bitStore rfl h (f := fun a => if a then some false else none) (x := false) (by simp [hacc]) hstore hstep
  case setNone => exact fun hacc => does_bitStore_none rfl h (f := fun a => if a then some true else none) (by simp [hacc])
  case rstNone => exact fun hacc => does_bitStore_none rfl h (f := fun a => if a then some false else none) (by simp [hacc])
  case edgp => exact result_edge (f := fun a m => a && !m) fun _ => rfl
  case edgn => exact result_edge (f := fun a m => !a && m) fun _ => rfl
  all_goals exact result_of_setRegs (fun _ => rfl) (fun _ => rfl) rfl (fun _ _ => rfl)

/-! ### Timers and counters (R123 to R125) -/

section
variable {c : Ctx} {sp : Space} {off : BitVec 18} {i : Instr}

theorem ite_bind {α β : Type} (p : Prop) [Decidable p] (x y : Arb α) (k : α → Arb β) :
    (if p then x else y) >>= k = if p then x >>= k else y >>= k := by
  split <;> rfl

theorem result_timer {f : Bool → Nat → Timer → Timer} (hsp : sp = .t ∨ sp = .d) (hoff : off.toNat % 16 = 0)
    (hexec : ∀ s, exec i s = timer c.l sp off f s) :
    Result i c 1 (timerRun c sp off f) (fun t r => { r with acc := bitOf t.state 0 }) := by
  refine result_of_setRegs hexec (fun _ => if_pos (by simpa using hsp)) ?_ (fun _ _ => rfl)
  simp only [need_true _ _ _ _ (decide_eq_true hoff), timerRun, timerAt, putTimer, bind_assoc, pure_bind, ite_bind]
  rfl

theorem result_counter {inputs : Ctx → Arb (Option Bool × Option Bool)} {qd : Bool} (hsp : sp = .c ∨ sp = .d)
    (hoff : off.toNat % 16 = 0)
    (hexec : ∀ s, exec i s = counter c.l sp off inputs qd s) :
    Result i c 1 (counterRun c sp off (inputs c)) (fun n r => { r with acc := bitOf n.2 (b2n qd) }) := by
  refine result_of_setRegs hexec (fun _ => if_pos (by simpa using hsp)) ?_ (fun _ _ => rfl)
  simp only [need_true _ _ _ _ (decide_eq_true hoff), counterRun, counterAt, bind_assoc, pure_bind, ite_bind]
  rfl
end

/-- Settles O3: a record is read and stepped by one run, after which ACC takes a bit of what was written. -/
theorem arbourRecords : Obligations.ArbourRecords := by
  refine ⟨fun c sp off hsp hoff => ⟨?ton, ?tof, ?tp⟩, fun c sp off hsp hoff => ⟨?ctu, ?ctd, ?ctud⟩⟩
  case ton => exact result_timer hsp hoff fun _ => rfl
  case tof => exact result_timer hsp hoff fun _ => rfl
  case tp => exact result_timer hsp hoff fun _ => rfl
  case ctu => exact result_counter (inputs := fun c => do return (some (← bankOf' c).acc, none)) (qd := false) hsp hoff fun _ => rfl
  case ctd => exact result_counter (inputs := fun c => do return (none, some (← bankOf' c).acc)) (qd := true) hsp hoff fun _ => rfl
  case ctud =>
    exact result_counter (qd := false)
      (inputs := fun c => do
        let up ← popBit c (fun _ => false)
        return (some up, some (← bankOf' c).acc))
      hsp hoff fun _ => rfl

/-! ### Words (R109, R115, R119, R126, R137) -/

section
variable {c : Ctx}

/-- R115, R119: a load of a word, by `m`. -/
theorem result_loaded {i : Instr} {a u : Bool} {n : Nat} {m : Ctx → Arb Nat}
    (hexec : ∀ s, exec i s = plain c.l (fun c => m c >>= loaded c a u n) s) : Result i c 1 (m c) (fun v r =>
      { r.setAccu a (extendTo u (8 * n) v) with status := intFlags r.status 64 (extendTo u (8 * n) v).toNat false false }) :=
  result_of_setRegs (k := loaded c a u n) hexec (fun _ => rfl) rfl (fun _ _ => rfl)

/-- An instruction whose body is a store by `m`. -/
theorem result_store {i : Instr} {m : Ctx → Arb Unit} (hexec : ∀ s, exec i s = plain c.l m s) :
    Result i c 1 (m c) (fun _ r => r) :=
  result_of_bind (k := fun _ => pure ()) hexec (fun _ => rfl) (bind_pure_unit).symm (fun _ u => ⟨u, rfl, writes_refl⟩)

/-- R137, R139: MOVB over two ranges that pass their checks. -/
theorem does_movb {ga gb : BitVec 4} {imm : BitVec 12} {s u u' : State} {b : Bytes} :
    let n := imm.toNat + 1
    let src := ((s.bank c.l c.x).gr ga).toNat
    let dst := ((s.bank c.l c.x).gr gb).toNat
    Ready c 1 ((n + 63) / 64) s → (dst + n ≤ inBase ∨ outBase ≤ dst) →
    (Begun c 1 s).moveFrom c.p src n = true → (Begun c 1 s).moveTo c.p c.x dst n = true →
    readPieces c (pieces src n) (Begun c 1 s) = .ok b u → writePieces c (pieces dst n) b u = .ok () u' → (u'.pav c.p).step = false →
    Does (.arbMovb c.l ga gb imm) s (Writes c ((n + 63) / 64) id u') := by
  intro n src dst h himage hfrom hto hread hwrite hstep
  have hout : (!(decide (dst < outBase) && decide (inBase < dst + n))) = true := by
    simp only [Bool.not_eq_true', Bool.and_eq_false_iff, decide_eq_false_iff_not]
    omega
  refine does_of_body rfl h rfl ((run_bind_of_ok (run_bankOf c _)).trans ?_) writes_refl hstep
  rw [bank_begun]
  refine (run_need_bind_of_true hout).trans ?_
  rw [run_get_bind]
  exact (run_need_bind_of_true hfrom).trans <| (run_need_bind_of_true hto).trans <| (run_bind_of_ok hread).trans hwrite

end

/-- Settles O4 -/
theorem arbourWordAccesses : Obligations.ArbourWordAccesses := by
  refine ⟨fun c w a u sp off ga imm => ⟨?ldw, ?ldx, ?stw, ?stx⟩, fun c ga gb imm s u u' b => does_movb, ?mux⟩
  case ldw => exact result_loaded (m := fun c => loadOp c sp off (2 ^ w.toNat)) fun _ => rfl
  case ldx =>
    refine result_of_setRegs (k := loaded c a u (2 ^ w.toNat)) (fun _ => rfl) (fun _ => rfl) ?_ (fun _ _ => rfl)
    simp only [bind_assoc, pure_bind]
    rfl
  case stw => exact result_store (m := fun c => do storeOp c sp off (.bytes (le (2 ^ w.toNat) ((← bankOf' c).accu a).toNat))) fun _ => rfl
  case stx => exact result_store (m := fun c => do
    let r ← bankOf' c
    storeData c (r.indexed ga imm) (.bytes (le (widthOf w) (r.accu a).toNat))) fun _ => rfl
  case mux =>
    intro c a nar u ga imm himm w
    refine result_of_setRegs (fun _ => rfl) (fun _ => if_neg himm)
      (k := fun v => setRegs c (fun r => withInt a nar u v.1 false (imm.toNat ≤ v.2) r)) ?_ ?_
    · simp only [bind_assoc, pure_bind]
      rfl
    · exact fun _ _ => rfl


end Sys2Proof.Machine
end

section
/-! PROOFS of the family of spec/04_arbour_instruction_set.md, fifth part: integers (R109, R119, R126). -/

namespace Sys2Proof.Machine

/-! ### Integer operations that state every flag, and comparisons (R109, R119, R126) -/

section
variable {c : Ctx} {i : Instr} {a nar u : Bool} {op : AluOp}

/-- R109: an operation whose result `g` states C and V. -/
theorem result_alu (g : Nat → Nat → Nat → Nat → IntRes)
    (hexec : ∀ s, exec i s = alu c.l a nar u op 0 (fun _ w x z y => some (g w x z y)) s)
    (hc : ∀ w x z y, (g w x z y).c.isSome) (hv : ∀ w x z y, (g w x z y).v.isSome) :
    Result i c (aluWords op) (aluOperand c a nar u op) (fun v r =>
      let x := g (aluWidth nar) (r.narrow a nar) (r.narrow (!a) nar) (v.toNat % 2 ^ aluWidth nar)
      withInt a nar u x.r (x.c.getD false) (x.v.getD false) r) := by
  refine result_of_setRegs hexec (fun _ => rfl) rfl fun v t => ?_
  rw [run_bind_of_ok (run_bankOf c t), run_get_bind]
  obtain ⟨cf, hcf⟩ := Option.isSome_iff_exists.mp (hc (aluWidth nar) ((t.bank c.l c.x).narrow a nar) ((t.bank c.l c.x).narrow (!a) nar)
    (v.toNat % 2 ^ aluWidth nar))
  obtain ⟨vf, hvf⟩ := Option.isSome_iff_exists.mp (hv (aluWidth nar) ((t.bank c.l c.x).narrow a nar) ((t.bank c.l c.x).narrow (!a) nar)
    (v.toNat % 2 ^ aluWidth nar))
  simp only [Bank.narrow] at hcf hvf
  simp only [intResult, hcf, hvf, setRegs_run, Bank.narrow, Option.getD_some]
  rfl

/-- A comparison. -/
theorem result_compare {f : Int → Int → Bool} (hexec : ∀ s, exec i s = compareOp c.l a nar u op f s) :
    Result i c (aluWords op) (aluOperand c a nar u op) (fun v r =>
      { r with acc := f (keyOf u (aluWidth nar) (r.narrow a nar)) (keyOf u (aluWidth nar) (v.toNat % 2 ^ aluWidth nar)) }) :=
  result_of_setRegs hexec (fun _ => rfl) rfl (fun _ _ => rfl)

/-- R119: SEL by ACC: the operand in the accumulator, or the flags of the value it holds. -/
theorem result_sel : Result (.arbSel c.l a nar u op) c (aluWords op) (aluOperand c a nar u op) (fun v r =>
    if r.acc then withInt a nar u (v.toNat % 2 ^ aluWidth nar) false false r
    else { r with status := intFlags r.status (aluWidth nar) (r.narrow a nar) false false }) := by
  have hsel (v : Word) (r : Bank) :
      (if r.acc then withInt a nar u (v.toNat % 2 ^ aluWidth nar) false false r
        else { r with status := intFlags r.status (aluWidth nar) (r.narrow a nar) false false }) =
      let y := if r.acc then v.toNat % 2 ^ aluWidth nar else r.narrow a nar
      { (if r.acc then r.setAccu a (extendTo u (aluWidth nar) y) else r) with
          status := intFlags r.status (aluWidth nar) y false false } := by
    by_cases hacc : r.acc
    · simp only [if_pos hacc]
      rfl
    · simp only [if_neg hacc]
  simp only [hsel]
  exact result_of_setRegs (fun _ => rfl) (fun _ => rfl) rfl (fun _ _ => rfl)

end

/-- Settles O5: each operation is a read of its operand, and then one change of registers. -/
theorem arbourIntegers : Obligations.ArbourIntegers := by
  refine ⟨fun c a nar u op => ⟨?add, ?sub, ?and, ?or, ?xor, ?mov, ?min, ?max, ?limit⟩,
    fun c a nar u op => ⟨?eq, ?ne, ?lt, ?le, ?gt, ?ge, ?sel⟩⟩
  case add => exact result_alu (fun w x _ y => aluAdd w x y) (fun _ => rfl) (fun _ _ _ _ => rfl) (fun _ _ _ _ => rfl)
  case sub => exact result_alu (fun w x _ y => aluSub w x y) (fun _ => rfl) (fun _ _ _ _ => rfl) (fun _ _ _ _ => rfl)
  case and => exact result_alu (fun _ x _ y => { r := x &&& y }) (fun _ => rfl) (fun _ _ _ _ => rfl) (fun _ _ _ _ => rfl)
  case or => exact result_alu (fun _ x _ y => { r := x ||| y }) (fun _ => rfl) (fun _ _ _ _ => rfl) (fun _ _ _ _ => rfl)
  case xor => exact result_alu (fun _ x _ y => { r := x ^^^ y }) (fun _ => rfl) (fun _ _ _ _ => rfl) (fun _ _ _ _ => rfl)
  case mov => exact result_alu (fun _ _ _ y => { r := y }) (fun _ => rfl) (fun _ _ _ _ => rfl) (fun _ _ _ _ => rfl)
  case min => exact result_alu (fun w x _ y => { r := aluMin u w x y }) (fun _ => rfl) (fun _ _ _ _ => rfl) (fun _ _ _ _ => rfl)
  case max => exact result_alu (fun w x _ y => { r := aluMax u w x y }) (fun _ => rfl) (fun _ _ _ _ => rfl) (fun _ _ _ _ => rfl)
  case limit =>
    exact result_alu (fun w x z y => { r := aluMin u w (aluMax u w x z) y }) (fun _ => rfl) (fun _ _ _ _ => rfl) (fun _ _ _ _ => rfl)
  case eq => exact result_compare (f := fun x y => x = y) fun _ => rfl
  case ne => exact result_compare (f := fun x y => x ≠ y) fun _ => rfl
  case lt => exact result_compare (f := fun x y => x < y) fun _ => rfl
  case le => exact result_compare (f := fun x y => x ≤ y) fun _ => rfl
  case gt => exact result_compare (f := fun x y => y < x) fun _ => rfl
  case ge => exact result_compare (f := fun x y => y ≤ x) fun _ => rfl
  case sel => exact result_sel

end Sys2Proof.Machine
end

section
/-! PROOFS of the family of spec/04_arbour_instruction_set.md, sixth part: multiplication, shifts, division (R126, R127). -/

namespace Sys2Proof.Machine

/-! ### Results with flags that no rule states (R109, R126) -/

section
variable {c : Ctx} {i : Instr} {a nar u : Bool} {op : AluOp} {sub : Nat} {v : Word} {s t : State}
  {f : Bool → Nat → Nat → Nat → Nat → Option IntRes}

/-- A flag of a result: the one stated, or a free one. -/
def Agrees (o : Option Bool) (b : Bool) : Prop := ∀ x, o = some x → b = x

theorem agrees_some (b : Bool) : Agrees (some b) b := fun _ h => Option.some.inj h

theorem agrees_none (b : Bool) : Agrees none b := nofun

/-- R109: a flag without a stated value is drawn; the others are the result's. -/
theorem run_intResult (c : Ctx) (a nar u : Bool) (x : IntRes) (s : State) : ∃ cf vf k t,
    intResult c a nar u x s = .ok () t ∧ Writes c 0 (withInt a nar u x.r cf vf) { s with fresh := s.fresh + k } t ∧
      Agrees x.c cf ∧ Agrees x.v vf := by
  obtain ⟨r, xc, xv⟩ := x
  cases xc with
  | some cf =>
    cases xv with
    | some vf => exact ⟨cf, vf, 0, _, rfl, writes_setRegs _ s, agrees_some cf, agrees_some vf⟩
    | none => exact ⟨cf, _, 1, _, rfl, writes_setRegs _ (drawn s), agrees_some cf, agrees_none _⟩
  | none =>
    cases xv with
    | some vf => exact ⟨_, vf, 1, _, rfl, writes_setRegs _ (drawn s), agrees_none _, agrees_some vf⟩
    | none => exact ⟨_, _, 2, _, rfl, writes_setRegs _ (drawn (drawn s)), agrees_none _, agrees_none _⟩

/-- An ALU instruction whose operation answers a result. -/
theorem does_alu {x : IntRes} (hexec : exec i s = alu c.l a nar u op sub f s) (h : Ready c (aluWords op) 1 s)
    (hv : aluOperand c a nar u op (Begun c (aluWords op) s) = .ok v t) (hstep : (t.pav c.p).step = false)
    (hf : f (bitOf (t.task c.p c.x).policy 0) (aluWidth nar) ((t.bank c.l c.x).narrow a nar) ((t.bank c.l c.x).narrow (!a) nar)
      (v.toNat % 2 ^ aluWidth nar) = some x) :
    ∃ cf vf k, Agrees x.c cf ∧ Agrees x.v vf ∧ Does i s (Writes c 1 (withInt a nar u x.r cf vf) { t with fresh := t.fresh + k }) := by
  obtain ⟨cf, vf, k, w, hrun, hw, hcf, hvf⟩ := run_intResult c a nar u x t
  refine ⟨cf, vf, k, hcf, hvf, does_of_body hexec h rfl ?_ hw hstep⟩
  refine (run_bind_of_ok hv).trans ((run_bind_of_ok (run_bankOf c t)).trans ?_)
  rw [run_get_bind]
  simp only [Bank.narrow] at hf
  simp only [hf]
  exact hrun

/-- R127: an operation that leaves C free and states V. -/
theorem leaves_alu {z : Nat} {vf : Bool} (hexec : exec i s = alu c.l a nar u op sub f s) (h : Ready c (aluWords op) 1 s)
    (hv : aluOperand c a nar u op (Begun c (aluWords op) s) = .ok v t) (hstep : (t.pav c.p).step = false)
    (hf : f (bitOf (t.task c.p c.x).policy 0) (aluWidth nar) ((t.bank c.l c.x).narrow a nar) ((t.bank c.l c.x).narrow (!a) nar)
      (v.toNat % 2 ^ aluWidth nar) = some { r := z, c := none, v := some vf }) :
    ∃ cf k, Does i s (Writes c 1 (withInt a nar u z cf vf) { t with fresh := t.fresh + k }) := by
  obtain ⟨cf, vf', k, -, hvf, hdoes⟩ := does_alu hexec h hv hstep hf
  obtain rfl := hvf _ rfl
  exact ⟨cf, k, hdoes⟩

/-- R127: an ALU instruction whose operation answers none. -/
theorem traps_alu (hexec : exec i s = alu c.l a nar u op sub f s) (h : Ready c (aluWords op) 1 s)
    (hv : aluOperand c a nar u op (Begun c (aluWords op) s) = .ok v t)
    (hf : f (bitOf (t.task c.p c.x).policy 0) (aluWidth nar) ((t.bank c.l c.x).narrow a nar) ((t.bank c.l c.x).narrow (!a) nar)
      (v.toNat % 2 ^ aluWidth nar) = none) :
    exec i s = .next (takeTrap c (s.bank c.l c.x).pc.toNat Cause.div0 sub 0 t) := by
  refine hexec.trans (executing_trap h rfl ?_)
  refine (run_bind_of_ok hv).trans ((run_bind_of_ok (run_bankOf c t)).trans ?_)
  rw [run_get_bind]
  simp only [Bank.narrow] at hf
  simp only [hf]
  rfl

theorem does_congr {n : Nat} {f g : Bank → Bank} (h : Does i s (Writes c n f t)) (hfg : f (t.bank c.l c.x) = g (t.bank c.l c.x)) :
    Does i s (Writes c n g t) :=
  h.imp fun _ ⟨hexec, hw⟩ => ⟨hexec, writes_congr hw hfg⟩

/-- An operation that always answers a result, some of whose flags are free. -/
theorem openResult_alu (g : Nat → Nat → Nat → IntRes) {F : Word → Bool → Bool → Bank → Bank}
    (hexec : ∀ s, exec i s = alu c.l a nar u op 0 (fun _ w x _ y => some (g w x y)) s)
    (hF : ∀ v cf vf r, Agrees (g (aluWidth nar) (r.narrow a nar) (v.toNat % 2 ^ aluWidth nar)).c cf →
      Agrees (g (aluWidth nar) (r.narrow a nar) (v.toNat % 2 ^ aluWidth nar)).v vf →
      withInt a nar u (g (aluWidth nar) (r.narrow a nar) (v.toNat % 2 ^ aluWidth nar)).r cf vf r = F v cf vf r) :
    OpenResult i c (aluWords op) (aluOperand c a nar u op) F := fun s v t h hv hstep => by
  obtain ⟨cf, vf, k, hcf, hvf, hdoes⟩ := does_alu (hexec s) h hv hstep rfl
  exact ⟨cf, vf, k, does_congr hdoes (hF v cf vf _ hcf hvf)⟩

theorem aluWidth_dvd (nar : Bool) : aluWidth nar ∣ 2 ^ aluWidth nar := by
  cases nar
  · exact ⟨2 ^ 58, rfl⟩
  · exact ⟨2 ^ 27, rfl⟩

/-- A shift or a rotate: its amount is taken modulo the width, and with a shift by 0 C is free too. -/
theorem openResult_shift (g : Nat → Nat → Nat → Nat × Bool)
    (hexec : ∀ s, exec i s = alu c.l a nar u op 0
      (fun _ w x _ y => some { r := (g w x (y % w)).1, c := outBit (y % w) (g w x (y % w)).2, v := none }) s) :
    OpenResult i c (aluWords op) (aluOperand c a nar u op) (fun v cf vf r =>
      let n := v.toNat % aluWidth nar
      let x := g (aluWidth nar) (r.narrow a nar) n
      withInt a nar u x.1 (if n = 0 then cf else x.2) vf r) := by
  refine openResult_alu (fun w x y => { r := (g w x (y % w)).1, c := outBit (y % w) (g w x (y % w)).2, v := none }) hexec
    fun v cf vf r hcf _ => ?_
  simp only [Nat.mod_mod_of_dvd _ (aluWidth_dvd nar)] at hcf ⊢
  congr 1
  split
  · rfl
  next hn => exact hcf _ (if_neg hn)

end

/-! ### Quotients and remainders (R127) -/

section
variable {u nar sat : Bool} {w a b : Nat}

/-- The signed or unsigned reading is 0 for 0 alone. -/
theorem keyOf_eq_zero_iff (hb : b < 2 ^ w) : keyOf u w b = 0 ↔ b = 0 := by
  have hcast : ((2 ^ w : Nat) : Int) = 2 ^ w := by push_cast; rfl
  cases u with
  | true => simp [keyOf]
  | false =>
    simp only [keyOf, sgn, Bool.false_eq_true, if_false]
    split
    next h =>
      have : 0 < 2 ^ (w - 1) := by positivity
      omega
    next => omega

/-- A signed reading lies in the range of its width. -/
theorem sgn_bounds (hw : 0 < w) (hb : b < 2 ^ w) : -(2 ^ (w - 1) : Int) ≤ sgn w b ∧ sgn w b < 2 ^ (w - 1) := by
  have hpow : (2 : Int) ^ w = 2 * 2 ^ (w - 1) := by rw [← pow_succ', Nat.sub_add_cancel hw]
  have hcast : ((2 ^ w : Nat) : Int) = 2 ^ w := by push_cast; rfl
  have hcast' : ((2 ^ (w - 1) : Nat) : Int) = 2 ^ (w - 1) := by push_cast; rfl
  unfold sgn
  split <;> omega

/-- The quotient of two numbers of a signed range lies in it, but for the smallest divided by −1. -/
theorem tdiv_bounds {p x y : Int} (hlo : -p ≤ x) (hhi : x < p) (hmin : y ≠ -1 ∨ x ≠ -p) : -p ≤ x.tdiv y ∧ x.tdiv y < p := by
  by_cases hone : y = 1
  · subst hone
    simpa using ⟨hlo, hhi⟩
  by_cases hneg : y = -1
  · subst hneg
    simp only [Int.tdiv_neg, Int.tdiv_one]
    omega
  have hhalf : (x.tdiv y).natAbs ≤ x.natAbs / 2 := by
    rw [Int.natAbs_tdiv]
    change x.natAbs / y.natAbs ≤ _
    rcases Nat.eq_zero_or_pos y.natAbs with hy | hy
    · simp [hy]
    · exact Nat.div_le_div_left (by omega) (by decide)
  omega

theorem overflows_eq_false {x : Int} (hlo : -(2 ^ (w - 1) : Int) ≤ x) (hhi : x < 2 ^ (w - 1)) : overflows w x = false := by
  simp [overflows, hlo, hhi]

/-- R127: a quotient that the width holds. -/
theorem aluDiv_of_fits (hw : 0 < w) (ha : a < 2 ^ w) (hb : b < 2 ^ w) (hy : keyOf u w b ≠ 0)
    (hmin : u = true ∨ keyOf u w b ≠ -1 ∨ keyOf u w a ≠ -(2 ^ (w - 1) : Int)) :
    aluDiv sat u w a b = some { r := wrap w ((keyOf u w a).tdiv (keyOf u w b)), c := none, v := some false } := by
  have hfits : (!u && overflows w ((keyOf u w a).tdiv (keyOf u w b))) = false := by
    cases u with
    | true => rfl
    | false =>
      obtain ⟨hlo, hhi⟩ := sgn_bounds hw ha
      obtain ⟨hqlo, hqhi⟩ := tdiv_bounds hlo hhi (hmin.resolve_left Bool.false_ne_true)
      exact overflows_eq_false hqlo hqhi
  rw [aluDiv, if_neg ((keyOf_eq_zero_iff hb).not.mp hy)]
  simp only [hfits, Bool.false_eq_true, if_false]

/-- R127: the smallest value divided by −1. -/
theorem aluDiv_smallest (hb : b < 2 ^ w) (hx : keyOf false w a = -(2 ^ (w - 1) : Int)) (hy : keyOf false w b = -1) :
    aluDiv sat false w a b = some { r := 2 ^ (w - 1) - 1, c := none, v := some true } := by
  have hb0 : b ≠ 0 := (keyOf_eq_zero_iff (u := false) hb).not.mp (by rw [hy]; decide)
  have hover : overflows w ((keyOf false w a).tdiv (keyOf false w b)) = true := by
    rw [hx, hy]
    simp [overflows]
  rw [aluDiv, if_neg hb0]
  simp only [hover, Bool.not_false, Bool.and_self, if_true]
  rfl

theorem aluMod_of_ne (hb : b ≠ 0) :
    aluMod sat u w a b = some { r := wrap w ((keyOf u w a).tmod (keyOf u w b)), c := none, v := some false } := if_neg hb

/-- R127: a divisor of 0 under SATURATE. -/
theorem aluDiv_zero_of_saturate (hb : b = 0) (hsat : sat = true) :
    aluDiv sat u w a b = some { r := if 0 ≤ keyOf u w a then maxOf u w else minOf u w, c := none, v := some true } :=
  (if_pos hb).trans (if_pos hsat)

theorem aluMod_zero_of_saturate (hb : b = 0) (hsat : sat = true) : aluMod sat u w a b = some { r := 0, c := none, v := some true } :=
  (if_pos hb).trans (if_pos hsat)

/-- R127: a divisor of 0 under TRAP. -/
theorem aluDiv_zero_of_trap (hb : b = 0) (hsat : sat = false) : aluDiv sat u w a b = none :=
  (if_pos hb).trans (if_neg (Bool.eq_false_iff.mp hsat))

theorem aluMod_zero_of_trap (hb : b = 0) (hsat : sat = false) : aluMod sat u w a b = none :=
  (if_pos hb).trans (if_neg (Bool.eq_false_iff.mp hsat))

end

theorem exec_arbDiv (c : Ctx) (a nar u : Bool) (op : AluOp) (s : State) :
    exec (.arbDiv c.l a nar u op) s = alu c.l a nar u op 1 (fun sat w x _ y => aluDiv sat u w x y) s := rfl

theorem exec_arbMod (c : Ctx) (a nar u : Bool) (op : AluOp) (s : State) :
    exec (.arbMod c.l a nar u op) s = alu c.l a nar u op 2 (fun sat w x _ y => aluMod sat u w x y) s := rfl

theorem aluWidth_pos (nar : Bool) : 0 < aluWidth nar := by cases nar <;> decide

/-- Settles O6: MUL and the shifts by the flags they state, DIV and MOD by the value of the divisor. -/
theorem arbourDivision : Obligations.ArbourDivision := by
  refine ⟨fun c a nar u op => ⟨?mul, ?shl, ?shr, ?sar, ?rol, ?ror⟩, fun c a nar u op s v t h hv hstep => ?division⟩
  case mul => 
    exact openResult_alu aluMul (fun _ => rfl) fun v cf vf r _ hvf => by
      rw [hvf _ rfl]
      rfl
  case shl => exact openResult_shift (fun w x n => (x * 2 ^ n % 2 ^ w, bitOf x (w - n))) fun _ => rfl
  case shr => exact openResult_shift (fun w x n => (x / 2 ^ n, bitOf x (n - 1))) fun _ => rfl
  case sar => exact openResult_shift (fun w x n => (wrap w (sgn w x / (2 ^ n : Int)), bitOf x (n - 1))) fun _ => rfl
  case rol => exact openResult_shift (fun w x n => ((x * 2 ^ n + x / 2 ^ (w - n)) % 2 ^ w, bitOf x (w - n))) fun _ => rfl
  case ror => exact openResult_shift (fun w x n => ((x / 2 ^ n + x * 2 ^ (w - n)) % 2 ^ w, bitOf x (n - 1))) fun _ => rfl
  case division =>
    have hw := aluWidth_pos nar
    have hx : (t.bank c.l c.x).narrow a nar < 2 ^ aluWidth nar := Nat.mod_lt _ (by positivity)
    have hy : v.toNat % 2 ^ aluWidth nar < 2 ^ aluWidth nar := Nat.mod_lt _ (by positivity)
    have hdiv := exec_arbDiv c a nar u op s
    have hmod := exec_arbMod c a nar u op s
    refine ⟨fun hne hmin => ?fits, fun hne => ?remainder, fun hu hneg hmin => ?smallest, fun hzero hsat => ?saturates,
      fun hzero hsat => ?traps⟩
    case fits => exact leaves_alu hdiv h hv hstep (aluDiv_of_fits hw hx hy hne hmin)
    case remainder => exact leaves_alu hmod h hv hstep (aluMod_of_ne ((keyOf_eq_zero_iff hy).not.mp hne))
    case smallest =>
      subst hu
      exact leaves_alu hdiv h hv hstep (aluDiv_smallest hy hmin hneg)
    case saturates =>
      have hy0 := (keyOf_eq_zero_iff hy).mp hzero
      exact ⟨leaves_alu hdiv h hv hstep (aluDiv_zero_of_saturate hy0 hsat),
        leaves_alu hmod h hv hstep (aluMod_zero_of_saturate hy0 hsat)⟩
    case traps =>
      have hy0 := (keyOf_eq_zero_iff hy).mp hzero
      exact ⟨traps_alu hdiv h hv (aluDiv_zero_of_trap hy0 hsat), traps_alu hmod h hv (aluMod_zero_of_trap hy0 hsat)⟩

end Sys2Proof.Machine
end

section
/-! PROOFS of the family of spec/04_arbour_instruction_set.md, seventh part: floats (R119, R128). -/

namespace Sys2Proof.Machine

/-! ### Invalid operations and free NaNs (R128) -/

section
variable {c : Ctx} {i : Instr} {bad : Bool} {f : Fmt} {r : FRes} {a : Bool} {s t u : State}

/-- R128: what an operation leaves in STATUS: FI where it was invalid. -/
def withInvalid (bad : Bool) (r : Bank) : Bank := { r with status := if bad then flag r.status 4 true else r.status }

theorem run_invalid (h : bad = true → u.quiet c = true) : ∃ t, invalid c bad u = .ok () t ∧ Writes c 0 (withInvalid bad) u t := by
  cases bad with
  | false => exact ⟨u, rfl, writes_refl⟩
  | true =>
    refine ⟨_, ?_, writes_setRegs (withInvalid true) u⟩
    exact (run_get_bind _ u).trans (run_need_bind_of_true (h rfl))

theorem run_invalid_trap (hbad : bad = true) (hquiet : u.quiet c = false) :
    invalid c bad u = .error (.trap Cause.finv 1 0) u := by
  subst hbad
  exact (run_get_bind _ u).trans (run_need_bind_of_false hquiet)

/-- R128: the sign and payload of a quiet NaN are free. -/
theorem run_nanFree (f : Fmt) (r : FRes) (u : State) :
    ∃ z k, nanFree f r u = .ok z { u with fresh := u.fresh + k } ∧ FloatValue f r z := by
  by_cases h : r.1 = f.qnan ∧ r.2 = false
  · have hnan : (decide (r.1 = f.qnan) && !r.2) = true := by simp [h]
    refine ⟨_, 1, ?_, (if_pos h).mpr ⟨bitOf (u.free 64) 63, u.free 64, rfl⟩⟩
    rw [nanFree, if_pos hnan]
    rfl
  · have hnan : ¬(decide (r.1 = f.qnan) && !r.2) = true := by simpa using h
    refine ⟨r.1, 0, ?_, (if_neg h).mpr rfl⟩
    rw [nanFree, if_neg hnan]
    rfl

/-- R128: the accumulator takes a float result that is valid, or that the policy lets pass. -/
theorem run_floatResult (a : Bool) (f : Fmt) (h : r.2 = true → u.quiet c = true) : ∃ z k t, FloatValue f r z ∧
    floatResult c a f r u = .ok () t ∧
    Writes c 0 (fun b => (withInvalid r.2 b).setAccu a (BitVec.ofNat 64 z)) { u with fresh := u.fresh + k } t := by
  obtain ⟨t, hinvalid, hw⟩ := run_invalid h
  obtain ⟨z, k, hnan, hz⟩ := run_nanFree f r t
  have hfresh : t.fresh = u.fresh := by rw [hw.rest]
  rw [hfresh] at hnan
  exact ⟨z, k, _, hz, (run_bind_of_ok hinvalid).trans ((run_bind_of_ok hnan).trans rfl),
    writes_trans (writes_fresh hw _) (writes_setRegs (fun b => b.setAccu a (BitVec.ofNat 64 z)) _)⟩

/-- R128: a float instruction that reads by `m` and answers the result `g`. -/
theorem floatResult_of_bind {α : Type} {body : Ctx → Arb Unit} {m : Arb α} {g : α → FRes}
    (hexec : ∀ s, exec i s = plain c.l body s)
    (hbody : body c = m >>= fun v => floatResult c a f (g v)) : FloatResult i c a f m g := fun s v u h hm hstep => by
  refine ⟨fun hquiet => ?_, fun hbad hquiet => ?_⟩
  · obtain ⟨z, k, t, hz, hrun, hw⟩ := run_floatResult a f hquiet
    exact ⟨z, k, hz, does_of_body (hexec s) h rfl (by rw [hbody, run_bind_of_ok hm, hrun]) hw hstep⟩
  · refine (hexec s).trans (executing_trap h rfl ?_)
    rw [hbody, run_bind_of_ok hm]
    exact run_bind_of_error (run_invalid_trap hbad hquiet)

/-- R128: a float instruction that reads by `m`, may be invalid, and then changes registers by `g`. -/
theorem floatWrites_of_bind {α : Type} {body : Ctx → Arb Unit} {m : Arb α} {bad : α → Bool} {g : α → Bank → Bank}
    (hexec : ∀ s, exec i s = plain c.l body s)
    (hbody : body c = m >>= fun v => invalid c (bad v) >>= fun _ => setRegs c (g v)) : FloatWrites i c m bad g := fun s v u h hm hstep => by
  refine ⟨fun hquiet => ?_, fun hbad hquiet => ?_⟩
  · obtain ⟨t, hinvalid, hw⟩ := run_invalid hquiet
    refine does_of_body (hexec s) h rfl ?_ (writes_trans hw (writes_setRegs (g v) t)) hstep
    rw [hbody, run_bind_of_ok hm, run_bind_of_ok hinvalid]
    rfl
  · refine (hexec s).trans (executing_trap h rfl ?_)
    rw [hbody, run_bind_of_ok hm]
    exact run_bind_of_error (run_invalid_trap hbad hquiet)

theorem floatWrites_congr {α : Type} {m : Arb α} {bad : α → Bool} {g g' : α → Bank → Bank} (h : FloatWrites i c m bad g)
    (hg : ∀ v r, g v r = g' v r) : FloatWrites i c m bad g' := by
  obtain rfl : g = g' := funext₂ hg
  exact h

end

/-! ### The float instructions -/

section
variable {c : Ctx} {i : Instr} {a nar u : Bool} {op : FOp}

/-- The accumulator and the operand of a float instruction, in its format. -/
theorem floatResult_floatOp {g : Fmt → Nat → Nat → FRes} (hexec : ∀ s, exec i s = floatOp c.l a nar op g s) :
    FloatResult i c a (fmtOf nar) (do
      let y ← floatOperand c a op
      return (floatIn nar ((← bankOf' c).accu a), floatIn nar y)) (fun v => g (fmtOf nar) v.1 v.2) :=
  floatResult_of_bind hexec (by simp only [bind_assoc, pure_bind])

/-- R128: a float comparison; with a NaN ACC becomes 0. -/
theorem floatWrites_floatCmp {ok : Ordering → Bool} (hexec : ∀ s, exec i s = floatCmp c.l a nar op ok s) :
    FloatWrites i c (do
      let y ← floatOperand c a op
      return (floatIn nar ((← bankOf' c).accu a), floatIn nar y)) (fun v => ((fmtOf nar).cmp v.1 v.2).2)
      (fun v r => { r with acc := (((fmtOf nar).cmp v.1 v.2).1.map ok).getD false }) :=
  floatWrites_of_bind hexec (by simp only [bind_assoc, pure_bind])

/-- R128: an operand of 64 bits read as a signed or an unsigned integer. -/
theorem keyOf_toNat (u : Bool) (y : Word) : keyOf u 64 y.toNat = if u then (y.toNat : Int) else y.toInt := by
  cases u with
  | true => rfl
  | false =>
    simp only [keyOf, sgn, Bool.false_eq_true, if_false, BitVec.toInt_eq_toNat_cond]
    split <;> split <;> omega

/-- A read of the registers that is not used. -/
theorem bankOf_bind_const {β : Type} (c : Ctx) (m : Arb β) : (bankOf' c >>= fun _ => m) = m := rfl

end

/-- Settles O7: every float instruction reads, may be invalid, and then changes registers. -/
theorem arbourFloats : Obligations.ArbourFloats := by
  refine ⟨fun c a nar op gb => ⟨?add, ?sub, ?mul, ?div, ?sqrt, ?fma, ?cvtp⟩, fun c a nar u rne op => ⟨?eq, ?lt, ?le, ?cvti, ?cvtf⟩⟩
  case add => exact floatResult_floatOp fun _ => rfl
  case sub => exact floatResult_floatOp fun _ => rfl
  case mul => exact floatResult_floatOp fun _ => rfl
  case div => exact floatResult_floatOp fun _ => rfl
  case sqrt => exact floatResult_floatOp (g := fun f _ y => f.sqrt y) fun _ => rfl
  case fma => exact floatResult_of_bind (fun _ => rfl) (by simp only [bind_assoc, pure_bind])
  case cvtp => exact floatResult_of_bind (fun _ => rfl) (by simp only [bind_assoc, pure_bind, bankOf_bind_const])
  case eq =>
    exact floatWrites_congr (floatWrites_floatCmp (ok := fun o => o = .eq) fun _ => rfl) fun v r => by
      dsimp only
      cases ((fmtOf nar).cmp v.1 v.2).1 <;> rfl
  case lt =>
    exact floatWrites_congr (floatWrites_floatCmp (ok := fun o => o = .lt) fun _ => rfl) fun v r => by
      dsimp only
      cases ((fmtOf nar).cmp v.1 v.2).1 <;> rfl
  case le =>
    exact floatWrites_congr (floatWrites_floatCmp (ok := fun o => o ≠ .gt) fun _ => rfl) fun v r => by
      dsimp only
      cases ((fmtOf nar).cmp v.1 v.2).1 <;> rfl
  case cvti => exact floatWrites_of_bind (fun _ => rfl) rfl
  case cvtf =>
    simp only [← keyOf_toNat]
    exact result_of_setRegs (fun _ => rfl) (fun _ => rfl) rfl (fun _ _ => rfl)

end Sys2Proof.Machine
end

section
/-! PROOFS of the family of spec/04_arbour_instruction_set.md, eighth part: jumps, loops and calls (R119, R129 to R131). -/

namespace Sys2Proof.Machine

/-! ### Jumps (R129) -/

section
variable {c : Ctx} {i : Instr} {t : BitVec 18} {gr : BitVec 4} {bound : BitVec 32} {s u : State}

/-- The Pavilion whose task executes on a lane is that of its context. -/
theorem tenant_of_ctx (h : s.ctx c.l = some c) : s.tenant c.l = c.p := by
  unfold State.ctx at h
  split at h
  · split at h
    next r hrun =>
      split at h
      · have hp : r / 3 = c.p := congrArg Ctx.p (Option.some.inj h)
        rw [State.tenant, hrun, Option.getD_some, hp]
      · cases h
    · cases h
  · cases h

theorem jumpCheck_eq_zero (h : Ready c 1 1 s) (hbehind : (s.bank c.l c.x).pc.toNat < 4 * t.toNat)
    (hinside : 4 * t.toNat < s.rdN (K.pavCodeSize c.p)) : jumpCheck (s.tenant c.l) t (s.bank c.l c.x) s = 0 := by
  simp [jumpCheck, tenant_of_ctx h.ctx, hbehind, hinside]

theorem jumpCheck_eq_three (h : Ready c 1 1 s)
    (ht : 4 * t.toNat ≤ (s.bank c.l c.x).pc.toNat ∨ s.rdN (K.pavCodeSize c.p) ≤ 4 * t.toNat) :
    jumpCheck (s.tenant c.l) t (s.bank c.l c.x) s = 3 := by
  refine if_neg ?_
  simp only [tenant_of_ctx h.ctx, Bool.and_eq_true, decide_eq_true_eq]
  omega

/-- R129: a jump that is taken or not, by ACC. -/
theorem does_jump (f : Bool → Bool) (hexec : exec i s = jump c.l t f s) (h : Ready c 1 1 s)
    (hbehind : (s.bank c.l c.x).pc.toNat < 4 * t.toNat) (hinside : 4 * t.toNat < s.rdN (K.pavCodeSize c.p)) :
    Does i s (Writes c 1 (fun r => if f (s.bank c.l c.x).acc then r.goto t.toNat else r) (Begun c 1 s)) := by
  have hacc : ((Begun c 1 s).bank c.l c.x).acc = (s.bank c.l c.x).acc := by rw [bank_begun]; rfl
  refine does_of_registers hexec h (jumpCheck_eq_zero h hbehind hinside) (setRegs_run ..) (writes_congr (writes_setRegs _ _) ?_)
  rw [hacc]

theorem traps_jump {f : Bool → Bool} (hexec : exec i s = jump c.l t f s) (h : Ready c 1 1 s)
    (ht : 4 * t.toNat ≤ (s.bank c.l c.x).pc.toNat ∨ s.rdN (K.pavCodeSize c.p) ≤ 4 * t.toNat) :
    exec i s = .next (takeTrap c (s.bank c.l c.x).pc.toNat Cause.illegal 3 0 s) :=
  hexec.trans (executing_illegal h (jumpCheck_eq_three h ht) (by decide))

/-! ### LOOP (R130) -/

theorem begun_gr (c : Ctx) (words : Nat) (gr : BitVec 4) (s : State) :
    ((Begun c words s).bank c.l c.x).gr gr = (s.bank c.l c.x).gr gr := by
  rw [bank_begun]; rfl

/-- R130: LOOP with a counter that BOUND allows. -/
theorem does_loop (h : Ready c 2 1 s) (hbehind : 4 * t.toNat < (s.bank c.l c.x).pc.toNat)
    (hbound : ((s.bank c.l c.x).gr gr).toNat ≤ bound.toNat) :
    Does (.arbLoop c.l gr t bound) s (Writes c 1 (fun r =>
      if ((s.bank c.l c.x).gr gr).toNat ≤ 1 then r.setGr gr 0
      else (r.setGr gr (BitVec.ofNat 64 (((s.bank c.l c.x).gr gr).toNat - 1))).goto t.toNat) (Begun c 2 s)) := by
  refine does_of_registers rfl h (if_pos hbehind) ((run_bind_of_ok (run_bankOf c _)).trans ?_) (writes_setRegs _ _)
  rw [begun_gr]
  exact run_need_bind_of_true (decide_eq_true hbound)

theorem trapsAt_loop (h : Ready c 2 1 s) (hbehind : 4 * t.toNat < (s.bank c.l c.x).pc.toNat)
    (hbound : bound.toNat < ((s.bank c.l c.x).gr gr).toNat) : TrapsAt (.arbLoop c.l gr t bound) c 2 Cause.illegal 4 0 s := by
  refine trapsAt_of_body rfl h (if_pos hbehind) ((run_bind_of_ok (run_bankOf c _)).trans ?_)
  rw [begun_gr]
  exact run_need_bind_of_false (decide_eq_false hbound.not_ge)

/-! ### CALL and RET (R131) -/

/-- R131: the word index that CALL writes is that of the word behind it, past the last byte that a PC can name too. -/
theorem returnIndex_next (r : Bank) : (r.next 4).pc.toNat + b2n (r.next 4).pcOver * 2 ^ 20 = r.pc.toNat + 4 := by
  have hpc := r.pc.isLt
  simp only [Bank.next, b2n, BitVec.toNat_ofNat, decide_eq_true_eq]
  split <;> omega

theorem does_call (h : Ready c 1 1 s) (hinside : 4 * t.toNat < s.rdN (K.pavCodeSize c.p)) (hdepth : (s.bank c.l c.x).depth < 64)
    (hstore : storeData c (s.bank c.l c.x).csp.toNat (.bytes (le 8 (((s.bank c.l c.x).pc.toNat + 4) / 4 % 2 ^ 18)))
      (Begun c 1 s) = .ok () u)
    (hstep : (u.pav c.p).step = false) :
    Does (.arbCall c.l t) s (Writes c 1 (fun r => ({ r with csp := r.csp + 8, depth := r.depth + 1 }).goto t.toNat) u) := by
  refine does_of_body rfl h ?_ ((run_bind_of_ok (run_bankOf c _)).trans ?_) (writes_setRegs _ u) hstep
  · exact if_pos (by rw [tenant_of_ctx h.ctx]; exact hinside)
  · rw [bank_begun, returnIndex_next]
    exact (run_need_bind_of_true (decide_eq_true hdepth)).trans (run_bind_of_ok hstore)

theorem trapsAt_call (h : Ready c 1 1 s) (hinside : 4 * t.toNat < s.rdN (K.pavCodeSize c.p)) (hdepth : 64 ≤ (s.bank c.l c.x).depth) :
    TrapsAt (.arbCall c.l t) c 1 Cause.cstk 1 0 s := by
  refine trapsAt_of_body rfl h ?_ ((run_bind_of_ok (run_bankOf c _)).trans ?_)
  · exact if_pos (by rw [tenant_of_ctx h.ctx]; exact hinside)
  · rw [bank_begun]
    exact run_need_bind_of_false (decide_eq_false hdepth.not_gt)

theorem traps_call (h : Ready c 1 1 s) (houtside : s.rdN (K.pavCodeSize c.p) ≤ 4 * t.toNat) :
    exec (.arbCall c.l t) s = .next (takeTrap c (s.bank c.l c.x).pc.toNat Cause.illegal 3 0 s) :=
  executing_illegal h (if_neg (by rw [tenant_of_ctx h.ctx]; exact houtside.not_gt)) (by decide)

theorem does_ret {b : Bytes} (h : Ready c 1 1 s) (hdepth : 0 < (s.bank c.l c.x).depth)
    (hload : loadBytes c false ((s.bank c.l c.x).csp - 8).toNat 8 (Begun c 1 s) = .ok b u) (hstep : (u.pav c.p).step = false) :
    Does (.arbRet c.l) s (Writes c 1 (fun r => ({ r with csp := r.csp - 8, depth := r.depth - 1 }).goto (ofLe b % 2 ^ 18)) u) := by
  refine does_of_body rfl h rfl ((run_bind_of_ok (run_bankOf c _)).trans ?_) (writes_setRegs _ u) hstep
  rw [bank_begun]
  exact (run_need_bind_of_true (decide_eq_true hdepth)).trans (run_bind_of_ok hload)

theorem trapsAt_ret (h : Ready c 1 1 s) (hdepth : (s.bank c.l c.x).depth = 0) : TrapsAt (.arbRet c.l) c 1 Cause.cstk 2 0 s := by
  refine trapsAt_of_body rfl h rfl ((run_bind_of_ok (run_bankOf c _)).trans ?_)
  rw [bank_begun]
  exact run_need_bind_of_false (decide_eq_false (by change ¬0 < (s.bank c.l c.x).depth; omega))

end

/-- Settles O8: jumps by ACC and their target, LOOP by its counter, CALL and RET by the call depth. -/
theorem arbourJumps : Obligations.ArbourJumps := by
  refine ⟨fun c t s h => ⟨fun hbehind hinside => ⟨?jmp, ?jc, ?jnc⟩, ?illegal⟩,
    fun c gr t bound s h => ⟨fun hbehind hend hbound => ?last, fun hbehind hgoes hbound => ?again, trapsAt_loop h, ?ahead⟩,
    fun c t s h => ⟨fun u hinside hdepth => does_call h hinside hdepth, fun f u hdepth => does_ret h hdepth, trapsAt_call h,
      trapsAt_ret h, traps_call h⟩⟩
  case jmp => exact does_jump (fun _ => true) rfl h hbehind hinside
  case jc => exact does_jump (fun a => a) rfl h hbehind hinside
  case jnc => exact does_jump (fun a => !a) rfl h hbehind hinside
  case illegal =>
    intro ht i hi
    simp only [List.mem_cons, List.not_mem_nil, or_false] at hi
    rcases hi with rfl | rfl | rfl
    · exact traps_jump (f := fun _ => true) rfl h ht
    · exact traps_jump (f := fun a => a) rfl h ht
    · exact traps_jump (f := fun a => !a) rfl h ht
  case last =>
    have hdoes := does_loop h hbehind hbound
    simpa only [if_pos hend] using hdoes
  case again =>
    have hdoes := does_loop h hbehind hbound
    simpa only [if_neg hgoes.not_ge] using hdoes
  case ahead => exact fun hahead => executing_illegal h (if_neg hahead.not_gt) (by decide)

end Sys2Proof.Machine
end

section
/-! PROOFS of the family of spec/04_arbour_instruction_set.md, ninth part: END, EVT and RDTB (R132, R134, R135). -/

namespace Sys2Proof.Machine

section
variable {c : Ctx} {code : BitVec 16} {n : Nat} {s : State}

/-- An instruction whose body goes through retires. -/
theorem exec_of_body {i : Instr} {words : Nat} {illegal : Bank → State → Nat} {body : Ctx → Arb Unit} {t : State}
    (hexec : exec i s = executing c.l words n illegal body s) (h : Ready c words n s) (hi : illegal (s.bank c.l c.x) s = 0)
    (hb : body c (Begun c words s) = .ok () t) (hstep : (t.pav c.p).step = false) : exec i s = .next (retire c n t) := by
  have hretired : ((retire c n t).pav c.p).step = false := hstep
  rw [hexec, executing_ok h illegal body hi hb, stepped_of_free hretired]

/-- R132: END with an empty branch stack. -/
theorem exec_end (h : Ready c 1 1 s) (hstk : (s.bank c.l c.x).bstk = []) (hstep : ((endTask c.p c.x (Begun c 1 s)).pav c.p).step = false) :
    exec (.arbEnd c.l) s = .next (retire c 1 (endTask c.p c.x (Begun c 1 s))) := by
  refine exec_of_body rfl h rfl ((run_bind_of_ok (run_bankOf c _)).trans ?_) hstep
  rw [begun_bstk]
  exact run_need_bind_of_true (decide_eq_true hstk)

theorem trapsAt_end (h : Ready c 1 1 s) (hstk : (s.bank c.l c.x).bstk ≠ []) : TrapsAt (.arbEnd c.l) c 1 Cause.bstk 4 0 s := by
  refine trapsAt_of_body rfl h rfl ((run_bind_of_ok (run_bankOf c _)).trans ?_)
  rw [begun_bstk]
  exact run_need_bind_of_false (decide_eq_false hstk)

/-- R134: EVT with ACC 1 raises EV 0192+p. -/
theorem exec_evt (h : Ready c 1 1 s) (hacc : (s.bank c.l c.x).acc = true) :
    exec (.arbEvt c.l code) s = .next (retire c 1
      (raiseOwned (Ev.pavilion c.p) (evtPayload c.x (s.scanNo c.x) code.toNat (s.bank c.l c.x).wa) c.p (Begun c 1 s))) := by
  refine exec_of_body rfl h rfl ((run_bind_of_ok (run_bankOf c _)).trans ?_) h.free
  rw [run_get_bind, bank_begun]
  exact congrFun (if_pos hacc) _

theorem does_evt_of_not (h : Ready c 1 1 s) (hacc : (s.bank c.l c.x).acc = false) :
    Does (.arbEvt c.l code) s (Writes c 1 id (Begun c 1 s)) := by
  refine does_of_registers rfl h rfl ((run_bind_of_ok (run_bankOf c _)).trans ?_) writes_refl
  rw [run_get_bind, bank_begun]
  exact congrFun (if_neg (Bool.eq_false_iff.mp hacc)) _

/-- R352: the time bases do not read the register banks. -/
theorem tbThrough_begun (c : Ctx) (words fuel n : Nat) (s : State) : (Begun c words s).tbThrough fuel n = s.tbThrough fuel n := by
  induction fuel generalizing n with
  | zero => rfl
  | succ fuel ih =>
    simp only [State.tbThrough, ih]
    rfl

/-- R135: RDTB of a base that the Pavilion may read. -/
theorem does_rdtb (h : Ready c 1 1 s) (hn : n < 8) (hread : mapBit (s.blobOf (K.tbPavRead n)) c.p = true) :
    Does (.arbRdtb c.l n) s (Writes c 1 (fun r => { r with wa := BitVec.ofNat 64 (s.tb64 n), wb := BitVec.ofNat 64 (s.tbQuality n) })
      (Begun c 1 s)) := by
  have htime : (Begun c 1 s).tbVal n = s.tbVal n := tbThrough_begun ..
  have hfree : (Begun c 1 s).tb64 n = s.tb64 n := by simp only [State.tb64, State.tbNs, htime]
  have hquality : (Begun c 1 s).tbQuality n = s.tbQuality n := by
    simp only [State.tbQuality, htime]
    rfl
  rw [← hfree, ← hquality]
  refine does_of_registers rfl h (if_pos hn) ?_ (writes_setRegs _ _)
  rw [run_get_bind]
  exact run_need_bind_of_true hread

theorem trapsAt_rdtb (h : Ready c 1 1 s) (hn : n < 8) (hread : mapBit (s.blobOf (K.tbPavRead n)) c.p = false) :
    TrapsAt (.arbRdtb c.l n) c 1 Cause.protection 8 0 s := by
  refine trapsAt_of_body rfl h (if_pos hn) ?_
  rw [run_get_bind]
  exact run_need_bind_of_false hread

end

/-- Settles O9: END by the branch stack, EVT by ACC, RDTB by the map of the Pavilions that may read the base. -/
theorem arbourSystemInstructions : Obligations.ArbourSystemInstructions := by
  refine fun c code n s h => ⟨exec_end h, trapsAt_end h, ?evt, does_evt_of_not h, does_rdtb h, trapsAt_rdtb h⟩
  case evt =>
    intro hacc
    refine ⟨_, exec_evt h hacc, pend_raiseWith .., ?_, rfl, rfl⟩
    exact bank_begun c 1 s

end Sys2Proof.Machine
end

section
/-! PROOFS of the family of spec/04_arbour_instruction_set.md, tenth part: the system calls (R133). -/

namespace Sys2Proof.Machine

/-! ### A call -/

section
variable {c : Ctx} {i : Instr} {n : Nat} {classA : Bool} {mine : Bank → Bool} {err : List (Nat × Nat)}
  {f : Ctx → Bank → Arb (List (Nat × Nat))} {s u : State}

/-- R133: a call of this row that its class is served has its effect now, and the lane waits with the results. -/
theorem exec_sysCall {g : List (Nat × Nat)} (hexec : exec i s = sysCall c.l n classA mine err f s) (h : Ready c 1 1 s)
    (hmine : mine ((s.bank c.l c.x).next 4) = true) (hserved : (c.x = 0 && !classA) = false)
    (hf : f c ((s.bank c.l c.x).next 4) (Begun c 1 s) = .ok g u) : exec i s = .next (waiting c n g u) := by
  refine hexec.trans (executing_wait h rfl ((run_bind_of_ok (run_bankOf c _)).trans ?_))
  rw [bank_begun]
  simp only [hmine, hserved, Bool.not_true, Bool.false_eq_true, if_false]
  exact (run_bind_of_ok hf).trans rfl

/-- R133: Class A is not served the call. -/
theorem exec_sysCall_of_classA (hexec : exec i s = sysCall c.l n false mine err f s) (h : Ready c 1 1 s)
    (hmine : mine ((s.bank c.l c.x).next 4) = true) (hx : c.x = 0) :
    exec i s = .next (waiting c n ((0, Err.state) :: err) (Begun c 1 s)) := by
  refine hexec.trans (executing_wait h rfl ((run_bind_of_ok (run_bankOf c _)).trans ?_))
  rw [bank_begun]
  have hdenied : (decide (c.x = 0) && !false) = true := by simp [hx]
  simp only [hmine, hdenied, Bool.not_true, Bool.false_eq_true, if_false, if_true]
  rfl

end

theorem served_of_ne {c : Ctx} {classA : Bool} (hx : c.x ≠ 0) : (decide (c.x = 0) && !classA) = false := by simp [hx]

theorem served_of_classA (c : Ctx) : (decide (c.x = 0) && !true) = false := Bool.and_false _

theorem run_ite_of_pos {α : Type} {p : Prop} [Decidable p] {x y : Arb α} {s : State} (h : p) : (if p then x else y) s = x s :=
  congrFun (if_pos h) s

theorem run_ite_of_neg {α : Type} {p : Prop} [Decidable p] {x y : Arb α} {s : State} (h : ¬p) : (if p then x else y) s = y s :=
  congrFun (if_neg h) s

theorem not_not_eq_true {b : Bool} (h : b = true) : ¬(!b) = true := by simp [h]

/-- R55: arguments of SYS 6 that its table accepts. -/
theorem dictTransfer_accepts {k op n : Nat} (hlo : 1 ≤ n) (hhi : n ≤ 4096) (hkey : k < 2 ^ 24) (hop : op ≤ 1) :
    ¬(n = 0 ∨ 4096 < n ∨ 1 < op ∨ 2 ^ 24 ≤ k) := by omega

/-- Settles O10: each call by the checks of its table. -/
theorem sysRecorderWatchdogDictionary : Obligations.SysRecorderWatchdogDictionary := by
  refine fun c s h => ⟨?recorded, ?unrecorded, ?disabled, ?serviced, ?early, ?late, ?read, ?written⟩
  case recorded =>
    intro d u htype hlen hbuf hread
    refine exec_sysCall rfl h rfl (served_of_classA c) ?_
    rw [run_get_bind]
    refine (run_ite_of_neg (not_or.mpr ⟨htype.not_gt, hlen.not_gt⟩)).trans ?_
    refine (run_ite_of_neg (not_not_eq_true hbuf)).trans ?_
    exact (run_bind_of_ok hread).trans rfl
  case unrecorded =>
    intro hrefused
    refine exec_sysCall rfl h rfl (served_of_classA c) ?_
    rw [run_get_bind]
    exact run_ite_of_pos hrefused
  case disabled =>
    intro hlive
    refine exec_sysCall rfl h rfl (served_of_classA c) ?_
    rw [run_get_bind]
    exact run_ite_of_pos (not_not.mp hlive)
  case serviced =>
    intro hlive hopen htimeout
    refine exec_sysCall rfl h rfl (served_of_classA c) ?_
    rw [run_get_bind]
    exact (run_ite_of_neg hlive).trans <| (run_ite_of_neg hopen.not_gt).trans <| run_ite_of_pos htimeout
  case early =>
    intro hlive hearly
    refine exec_sysCall rfl h rfl (served_of_classA c) ?_
    rw [run_get_bind]
    exact (run_ite_of_neg hlive).trans <| run_ite_of_pos hearly
  case late =>
    intro hlive hopen hlate
    refine exec_sysCall rfl h rfl (served_of_classA c) ?_
    rw [run_get_bind]
    exact (run_ite_of_neg hlive).trans <| (run_ite_of_neg hopen.not_gt).trans <| run_ite_of_neg hlate.not_ge
  case read =>
    intro r u hx hlo hhi hkey hop hbuf hread
    refine exec_sysCall rfl h rfl (served_of_ne hx) ?_
    rw [run_get_bind]
    have hargs := dictTransfer_accepts hlo hhi hkey (hop.trans_le (Nat.zero_le 1))
    exact (run_ite_of_neg hargs).trans <| (run_ite_of_neg (not_not_eq_true ((if_pos hop).trans hbuf))).trans <|
      (run_ite_of_pos hop).trans hread
  case written =>
    intro r u hx hlo hhi hkey hop hbuf hwrite
    refine exec_sysCall rfl h rfl (served_of_ne hx) ?_
    rw [run_get_bind]
    have hargs := dictTransfer_accepts hlo hhi hkey hop.le
    have hne := hop.trans_ne Nat.one_ne_zero
    exact (run_ite_of_neg hargs).trans <| (run_ite_of_neg (not_not_eq_true ((if_neg hne).trans hbuf))).trans <|
      (run_ite_of_neg hne).trans hwrite

end Sys2Proof.Machine
end

section
/-! PROOFS of the family of spec/04_arbour_instruction_set.md, eleventh part: the services of DMA, ISDU, HART, store and CAN
(R133, R193, R194, R304, R331, R369, R372, R394). -/

namespace Sys2Proof.Machine

/-! ### The argument words of SYS 13 (R369, R372) -/

theorem not_bitOf_doorbell {g : Nat} (h : g ≤ 15) : (!bitOf g 8) = true := by
  rw [bitOf, Nat.testBit_lt_two_pow (by omega), Bool.not_false]

/-- R372: the fields of a cancel: queue q, the mark in bit 8, entry e. -/
theorem cancel_fields {g q e : Nat} (hq : q ≤ 15) (he : e < 1024) (hg : g = q + 256 + e * 65536) :
    bitOf g 8 = true ∧ g % 256 = q ∧ g < 2 ^ 26 ∧ bits g 15 9 = 0 ∧ bits g 25 16 = e := by
  refine ⟨?_, by omega, by omega, by simp only [bits]; omega, by simp only [bits]; omega⟩
  rw [bitOf, Nat.testBit_eq_decide_div_mod_eq]
  simp only [decide_eq_true_eq]
  omega

/-- R394: a store operation that its checks accept. -/
theorem exec_pavstoreCall {c : Ctx} {i : Instr} {op : Nat} {s : State} (hexec : exec i s = pavstoreCall c.l op s) (h : Ready c 1 1 s)
    (hx : c.x ≠ 0) (hop : (s.bank c.l c.x).arg 1 = op) (hlt : op < 4)
    (hcode : (Begun c 1 s).storeCode c.p op ((Begun c 1 s).bank c.l c.x) = Err.ok) :
    let b := s.bank c.l c.x
    let n := if op = 3 then 0 else b.arg 4
    let q : StoReq := { pav := c.p, op := op, off := b.arg 2, buf := b.arg 3, len := n, rec_ := b.arg 5 }
    exec i s = .next (waiting c 12 [(0, Err.ok), (4, n)]
      (bufPut c.p (b.arg 5) (le 2 0) (updSto (fun x => { x with reqs := x.reqs ++ [q] }) (Begun c 1 s)))) := by
  refine exec_sysCall hexec h (decide_eq_true ?_) (served_of_ne hx) ?_
  · exact (congrArg (· % 4) hop).trans (Nat.mod_eq_of_lt hlt)
  · rw [bank_begun] at hcode
    rw [run_get_bind]
    exact (run_ite_of_neg (not_not.mpr hcode)).trans rfl

theorem exec_pavstoreCall_of_classA {c : Ctx} {i : Instr} {op : Nat} {s : State} (hexec : exec i s = pavstoreCall c.l op s)
    (h : Ready c 1 1 s) (hx : c.x = 0) (hop : (s.bank c.l c.x).arg 1 = op) (hlt : op < 4) :
    exec i s = .next (waiting c 12 [(0, Err.state), (4, 0)] (Begun c 1 s)) :=
  exec_sysCall_of_classA hexec h (decide_eq_true ((congrArg (· % 4) hop).trans (Nat.mod_eq_of_lt hlt))) hx

/-- Settles O11: each service by the checks of its table, a store operation by `exec_pavstoreCall` for each of its four codes. -/
theorem sysServices : Obligations.SysServices := by
  refine ⟨fun c s h => ⟨?submit, ?status, ?unknown, ?isdu, ?hart⟩,
    fun c s h => ⟨?storeRead, ?storeWrite, ?storeTrim, ?storeSync, ?doorbell, ?cancel, ?classA⟩⟩
  case submit =>
    intro d u halign hbuf hread hcode
    refine exec_sysCall rfl h rfl (served_of_classA c) ?_
    rw [run_get_bind]
    refine (run_ite_of_neg (not_not.mpr halign)).trans <| (run_ite_of_neg (not_not_eq_true hbuf)).trans <| (run_bind_of_ok hread).trans ?_
    exact (run_ite_of_neg (not_not.mpr hcode)).trans rfl
  case status =>
    intro st hst
    refine exec_sysCall rfl h rfl (served_of_classA c) ?_
    have hticket : (Begun c 1 s).ticketState c.p (((s.bank c.l c.x).next 4).arg 1) = some st := hst
    rw [run_get_bind, hticket]
    rfl
  case unknown =>
    intro hst
    refine ⟨(Begun c 1 s).free 64, exec_sysCall rfl h rfl (served_of_classA c) ?_⟩
    have hticket : (Begun c 1 s).ticketState c.p (((s.bank c.l c.x).next 4).arg 1) = none := hst
    rw [run_get_bind, hticket]
    rfl
  case isdu =>
    intro d u hx hcode hread
    refine exec_sysCall rfl h rfl (served_of_ne hx) ?_
    rw [run_get_bind]
    exact (run_ite_of_neg (not_not.mpr hcode)).trans <| (run_bind_of_ok hread).trans rfl
  case hart =>
    intro d u hx hcode hread
    refine exec_sysCall rfl h rfl (served_of_ne hx) ?_
    rw [run_get_bind]
    exact (run_ite_of_neg (not_not.mpr hcode)).trans <| (run_bind_of_ok hread).trans rfl
  case storeRead => exact fun hx hop hcode => exec_pavstoreCall rfl h hx hop (by decide) hcode
  case storeWrite => exact fun hx hop hcode => exec_pavstoreCall rfl h hx hop (by decide) hcode
  case storeTrim => exact fun hx hop hcode => exec_pavstoreCall rfl h hx hop (by decide) hcode
  case storeSync => exact fun hx hop hcode => exec_pavstoreCall rfl h hx hop (by decide) hcode
  case doorbell =>
    intro hctl hqueue howner
    refine exec_sysCall rfl h (not_bitOf_doorbell hqueue) (served_of_classA c) ?_
    rw [run_get_bind]
    exact (run_ite_of_neg (not_or.mpr ⟨hctl.not_gt, hqueue.not_gt⟩)).trans <| (run_ite_of_neg (not_not.mpr howner)).trans rfl
  case cancel =>
    intro e q hctl hqueue hentry hargs howner
    obtain ⟨hmark, rfl, hlt, hzero, rfl⟩ := cancel_fields hqueue hentry hargs
    refine exec_sysCall rfl h hmark (served_of_classA c) ?_
    rw [run_get_bind]
    have haccepts := not_or.mpr ⟨hctl.not_gt, not_or.mpr ⟨hqueue.not_gt, not_or.mpr ⟨hlt.not_ge, not_not.mpr hzero⟩⟩⟩
    exact (run_ite_of_neg haccepts).trans <| (run_ite_of_neg (not_not.mpr howner)).trans rfl
  case classA =>
    intro hx
    refine ⟨exec_sysCall_of_classA rfl h rfl hx, exec_sysCall_of_classA rfl h rfl hx, exec_sysCall_of_classA rfl h rfl hx,
      fun e he hop => ?_⟩
    simp only [List.mem_cons, List.not_mem_nil, or_false] at he
    rcases he with rfl | rfl | rfl | rfl
    all_goals exact exec_pavstoreCall_of_classA rfl h hx hop (by decide)

end Sys2Proof.Machine
end

section
/-! PROOFS of the family of spec/04_arbour_instruction_set.md, twelfth part: FENCE and the completion of a SYS service (R133, R136). -/

namespace Sys2Proof.Machine

section
variable {c : Ctx} {s : State}

theorem task_updTask (p x : Nat) (f : Task → Task) (s : State) : (updTask p x f s).task p x = f (s.task p x) := by
  simp [State.task, updTask, Tab.upd]

/-- A change of a task may be written as any that agrees with it on the task at hand. -/
theorem updTask_congr {p x : Nat} {f g : Task → Task} (h : f (s.task p x) = g (s.task p x)) : updTask p x f s = updTask p x g s := by
  simp only [State.task] at h
  simp only [updTask, Tab.upd, h]

/-- R136: FENCE with an empty egress buffer completes. -/
theorem does_fence (h : Ready c 1 1 s) (hempty : (s.lane c.l).egress = 0) : Does (.arbFence c.l) s (Writes c 1 id (Begun c 1 s)) := by
  refine does_of_registers rfl h rfl ?_ writes_refl
  rw [run_get_bind]
  exact run_ite_of_neg (not_not.mpr hempty)

/-- R136: with a store in the egress buffer the lane waits. -/
theorem exec_fence_of_pending (h : Ready c 1 1 s) (hstore : (s.lane c.l).egress ≠ 0) :
    exec (.arbFence c.l) s = .next (waiting c drainWait (s.task c.p c.x).sysG (Begun c 1 s)) := by
  have hwait : updTask c.p c.x (fun t => { t with sysN := drainWait }) (Begun c 1 s) =
      waiting c drainWait (s.task c.p c.x).sysG (Begun c 1 s) := updTask_congr rfl
  rw [← hwait]
  refine executing_wait h rfl ?_
  rw [run_get_bind]
  exact (run_ite_of_pos hstore).trans rfl

/-- R133, R136: where no instruction is single-stepped, the results go to the G registers and the waiting instruction retires. -/
theorem resume_of_free (hstep : (s.pav c.p).step = false) :
    resume c s = retire c 1 (waiting c 0 []
      (setBank c.l c.x ((s.task c.p c.x).sysG.foldl (fun b e => b.setGr (BitVec.ofNat 4 e.1) (BitVec.ofNat 64 e.2)) (s.bank c.l c.x)) s)) :=
  stepped_of_free hstep

/-- R136: the egress buffer of the lane is empty. -/
theorem exec_fenceDrainComplete_of_some {l : Nat} (hl : l < 12)
    (hwaiter : (updLane l (fun x => { x with egress := 0 }) s).waiter l (fun n => n = drainWait) = some c) :
    exec (.fenceDrainComplete l) s = .next (resume c (updLane l (fun x => { x with egress := 0 }) s)) := by
  change execFenceDrainComplete l s = _
  simp only [execFenceDrainComplete, only, hl, hwaiter, decide_true, if_true]

theorem exec_fenceDrainComplete_of_none {l : Nat} (hl : l < 12)
    (hwaiter : (updLane l (fun x => { x with egress := 0 }) s).waiter l (fun n => n = drainWait) = none) :
    exec (.fenceDrainComplete l) s = .next (updLane l (fun x => { x with egress := 0 }) s) := by
  change execFenceDrainComplete l s = _
  simp only [execFenceDrainComplete, only, hl, hwaiter, decide_true, if_true]

/-- A drain leaves no results. -/
theorem resume_of_drained (hstep : (s.pav c.p).step = false) (hnone : (s.task c.p c.x).sysG = []) :
    resume c s = retire c 1 (waiting c 0 [] (setBank c.l c.x (s.bank c.l c.x) s)) := by
  rw [resume_of_free hstep, hnone]
  rfl

theorem exec_sysServiceComplete {l : Nat} (hl : l < 12) (hwaiter : s.waiter l (fun n => n ≠ 0 && n ≠ 256) = some c) :
    exec (.sysServiceComplete l) s = .next (resume c s) := by
  change execSysServiceComplete l s = _
  simp only [execSysServiceComplete, only, hl, hwaiter, decide_true, if_true]

end

/-- Settles O12: FENCE by its egress buffer; a wait ends with `resume`, which puts the results of the service, none for a drain, in the G
registers and retires the instruction. -/
theorem arbourWaiting : Obligations.ArbourWaiting := by
  refine ⟨fun c s => ⟨does_fence, exec_fence_of_pending, fun hl hstep => ⟨?drained, ?unawaited⟩⟩, fun c s hl hwaiter hstep => ?answered⟩
  case drained =>
    intro hwaiter hnone
    exact (exec_fenceDrainComplete_of_some hl hwaiter).trans (congrArg Host.Outcome.next (resume_of_drained hstep hnone))
  case unawaited => exact exec_fenceDrainComplete_of_none hl
  case answered =>
    refine ⟨resume c s, exec_sysServiceComplete hl hwaiter, ?_⟩
    rw [resume_of_free hstep]
    refine ⟨bank_setBank_same .., ?_, rfl⟩
    rw [retire, waiting, task_updTask, task_updTask]
    rfl

end Sys2Proof.Machine
end

section
/-! PROOFS of the family of spec/04_arbour_instruction_set.md, thirteenth part: what taking a trap leaves (R141, R142). -/

namespace Sys2Proof.Machine

/-- A context of class 34, which no lane executes: the SCAN entries of that class would lie on the entries PAV.STATE. -/
def class34 : Ctx := { l := 0, p := 7, x := 34 }

/-- The BUSY_MAX of class 34 is the state of Pavilion 7. -/
theorem scanBusyMax_class34 : K.scanBusyMax class34.x = kPavState class34.p := by decide

/-- Pavilion 7 in RUN, 1 ms after the start, with a running task of class 34 whose policy stops the Pavilion at a trap. -/
def class34Running : State :=
  wrN (kPavState 7) Prog.run
    { State.reset with
      tb := [(0, { val := 1000000 * 65536 })]
      scan := { State.reset.scan with tasks := [(3 * 7 + 34, { st := .running, policy := 4 })] } }

theorem class34Running_stops :
    class34Running.pavState class34.p = Prog.run ∧
      policyStops (class34Running.task class34.p class34.x).policy ((class34Running.task class34.p class34.x).trapped + 1) = true := by
  decide +kernel

/-- R81, R85: cutting the task writes the BUSY_MAX of its class over the state RUN, so the fault of the Pavilion makes no STOP due. -/
theorem takeTrap_class34Running_stopDue :
    ((takeTrap class34 0 Cause.illegal 1 0 class34Running).pav class34.p).stopDue = none := by decide +kernel

/-- Refutes O13: its clause about R141 and R142 takes any context, and the class of `class34` is none of 0 to 2. There the BUSY_MAX that
the cut of R81 writes is the entry of the Pavilion's own state, which `pavFault` then does not find in RUN: no STOP is due in
`class34Running`. The counterexample turns on that class alone; no lane executes such a task. -/
theorem not_arbourTraps : ¬ Obligations.ArbourTraps := by
  unfold Obligations.ArbourTraps
  intro ⟨_, _, htaken⟩
  obtain ⟨hrun, hstops⟩ := class34Running_stops
  have hhold : class34Running.pavState class34.p ≠ Prog.hold := by rw [hrun]; decide
  obtain ⟨-, hdue⟩ := htaken class34 0 Cause.illegal 1 0 class34Running (by decide) hhold
  have hsome := hdue hstops hrun
  rw [takeTrap_class34Running_stopDue] at hsome
  exact absurd hsome (by simp)

end Sys2Proof.Machine
end

section
/-! PROOFS of the family of spec/05_trestles.md: the voter, lane faults, resynchronisation, the wait for a takeover, rebuild,
rotation and the test slot of the lanes (R152 to R154, R160, R161, R164 to R167, R170, R173). -/

namespace Sys2Proof.Machine

/-! ### The voter (R152, R153, R177) -/

section
variable {s : State} {t k : Nat}

/-- R177: a split Trestle has no voter. -/
theorem voting_of_debugSplit (h : s.trState t = Tr.debugSplit) : s.voting t = false := by
  rw [State.voting, h]
  decide

/-- R152: the record of a position in the vote joins the voter's queue, and the slots are settled as far as they can be. -/
theorem exec_voterRecordArrival_of_voting {kind pav cls addr cyc : Nat} {data : Bytes} (ht : t < 4) (hk : k < 3) (hlo : 1 ≤ kind)
    (hhi : kind ≤ 7) (hvoting : s.voting t = true) (hfenced : s.fenced t k = false) :
    let r := le 1 kind ++ le 1 pav ++ le 1 cls ++ le 8 addr ++ data
    let u := updVoter t (fun v => { v with queue := v.queue ++ [(k, cyc, r)] }) s
    exec (.voterRecordArrival t k kind pav cls addr data cyc) s = .next (vote t cyc (2 * (u.trestle t).voter.queue.length + 2) u) := by
  change execVoterRecordArrival t k kind pav cls addr data cyc s = _
  simp [execVoterRecordArrival, ht, hk, hlo, hhi, hvoting, hfenced]

/-- R177: position 0 of a split Trestle is released without a vote. -/
theorem exec_voterRecordArrival_of_debugSplit {kind pav cls addr cyc : Nat} {data : Bytes} (ht : t < 4) (hlo : 1 ≤ kind) (hhi : kind ≤ 7)
    (hsplit : s.trState t = Tr.debugSplit) :
    exec (.voterRecordArrival t 0 kind pav cls addr data cyc) s = .next (updVoter t (fun v =>
      { v with slot := v.slot + 1, out := le 1 kind ++ le 1 pav ++ le 1 cls ++ le 8 addr ++ data }) s) := by
  change execVoterRecordArrival t 0 kind pav cls addr data cyc s = _
  simp [execVoterRecordArrival, ht, hlo, hhi, voting_of_debugSplit hsplit, hsplit]

theorem exec_voterRecordArrival_of_fenced {kind pav cls addr cyc : Nat} {data : Bytes} (hfenced : s.fenced t k = true)
    (hsplit : s.trState t ≠ Tr.debugSplit) : exec (.voterRecordArrival t k kind pav cls addr data cyc) s = .next s := by
  change execVoterRecordArrival t k kind pav cls addr data cyc s = _
  simp [execVoterRecordArrival, only, hfenced, hsplit]

/-- R153: a position that has presented its record does not lag. -/
theorem exec_voterLagExpiry_of_presented {cyc : Nat} {f : Nat × Bytes} (hfront : (s.trestle t).voter.front k = some f) :
    exec (.voterLagExpiry t k cyc) s = .next s := by
  change execVoterLagExpiry t k cyc s = _
  simp [execVoterLagExpiry, only, hfront]

/-- R153: position k lags behind the one other healthy position m, whose record is then the first of the slot. -/
theorem exec_voterLagExpiry_of_lagging {cyc m c : Nat} {r : Bytes} (ht : t < 4) (hk : k < 3) (hvoting : s.voting t = true)
    (hfenced : s.fenced t k = false) (hhealthy : s.healthy t = [k, m]) (hown : (s.trestle t).voter.front k = none)
    (hfirst : (s.trestle t).voter.front m = some (c, r)) :
    exec (.voterLagExpiry t k cyc) s = .next (if c + 2 * k + 64 < cyc + 2 * m then
      vote t cyc (2 * (s.trestle t).voter.queue.length + 2) (posOdd t k 2 cyc (egressOf r) false false s) else s) := by
  change execVoterLagExpiry t k cyc s = _
  simp [execVoterLagExpiry, ht, hk, hvoting, hfenced, hhealthy, hown, hfirst]

end

/-! ### The wait for a takeover (R164, R433) -/

section
variable {s : State} {t : Nat}

theorem exec_takeoverWaitExpiry_of_none (hwait : (s.trestle t).takeoverAt = none) (hreq : s.pair.reqAt = none) :
    exec (.takeoverWaitExpiry t) s = .next s := by
  change execTakeoverWaitExpiry t s = _
  simp [execTakeoverWaitExpiry, only, hwait, hreq]

/-- R433: a takeover requested with a HALT_CAUSE ends in SAFE-HALT where it has not begun within 50 ms. -/
theorem exec_takeoverWaitExpiry_of_some {a h : Nat} (ht : t < 4) (hactive : s.activeLike = true)
    (hwait : (s.trestle t).takeoverAt = none) (hreq : s.pair.reqAt = some (a, h)) :
    exec (.takeoverWaitExpiry t) s = .next (if s.past a (50 * ms) then safeHalt h s else s) := by
  change execTakeoverWaitExpiry t s = _
  simp [execTakeoverWaitExpiry, ht, hactive, hwait, hreq, only]

end

/-! ### Rotation (R166, R167) -/

section
variable {s : State}

theorem exec_rotationStart_of_past (h : s.past s.rotation.last (s.rdN K.spareInterval * sec) = true) :
    exec .rotationStart s = .next (tryRotate false (updRot (fun r => { r with last := s.now, deferred := false }) s)) := by
  change execRotationStart s = _
  simp only [execRotationStart, h, if_true]

/-- R166: within the interval, a deferred rotation or an extra one may start. -/
theorem exec_rotationStart_of_not_past (h : s.past s.rotation.last (s.rdN K.spareInterval * sec) = false) :
    exec .rotationStart s = .next (if s.rotation.deferred then tryRotate s.rotation.extra s
      else if s.extraLane.isSome then tryRotate true s else s) := by
  change execRotationStart s = _
  simp only [execRotationStart, h, Bool.false_eq_true, if_false, only]

/-- R167: the copy toward a joining lane begins at the Trestle that waits for its lock. -/
theorem exec_spareLaneLocked_of_some {n q : Nat} (hn : n < 15) (hrole : s.role n = Rl.joining)
    (hwaits : (List.range 4).find? (fun t => (s.trestle t).resync.target = n && !(s.trestle t).resync.active) = some q) :
    exec (.spareLaneLocked n) s = .next (startCopy q (s.trestle q).resync.pos n true true s) := by
  change execSpareLaneLocked n s = _
  simp only [execSpareLaneLocked, hn, hrole, decide_true, Bool.and_self, only_true, hwaits]

end

/-! ### The test slot (R170) -/

section
variable {s : State} {n part addr : Nat}

theorem exec_laneBistComplete_of_ne (pass : Bool) (h : s.rdN K.spareTestLane ≠ n) :
    exec (.laneBistComplete n pass part addr) s = .next s := by
  change execLaneBistComplete n pass part addr s = _
  simp [execLaneBistComplete, only, h]

/-- R170: a lane that passes, and has no SPLIT position to return to, becomes a spare. -/
theorem exec_laneBistComplete_pass (hn : n < 15) (htest : s.rdN K.spareTestLane = n) :
    let u := wrN (K.laneLastBist n) (s.tb96 3) (inc (K.laneBistCount n) U32.max s)
    let w := updPl n (fun x => { x with consecFails := 0, lastBistTb4 := u.now }) (fromTest n u)
    (w.pl n).splitHome = false → exec (.laneBistComplete n true part addr) s = .next (serveSpares (setRole n Rl.spare w)) := by
  intro u w hhome
  change execLaneBistComplete n true part addr s = _
  rw [execLaneBistComplete, decide_eq_true hn, decide_eq_true htest, Bool.and_self, only_true]
  exact congrArg Host.Outcome.next (if_neg (Bool.eq_false_iff.mp hhome))

/-- R170: a lane that fails is retired at the limit of consecutive failures, and is tested again below it. -/
theorem exec_laneBistComplete_fail (hn : n < 15) (htest : s.rdN K.spareTestLane = n) :
    let u := raise (Ev.laneBistFailed n) (le 1 n ++ le 1 part ++ le 8 addr)
      (updPl n (fun x => { x with consecFails := x.consecFails + 1 }) (inc (K.laneBistFails n) U16.max s))
    exec (.laneBistComplete n false part addr) s = .next (if u.rdN K.spareBistLimit ≤ (u.pl n).consecFails then
      serveSpares (retireLane n 1 (unplaceLane n (fromTest n (updPl n (fun x => { x with splitHome := false }) u)))) else u) := by
  change execLaneBistComplete n false part addr s = _
  rw [execLaneBistComplete, decide_eq_true hn, decide_eq_true htest, Bool.and_self, only_true]
  rfl

end

/-- Settles O48: the voter by what a position has presented, the copies and the rebuild as effects under their conditions, the rotation by
what is due, the test slot by the lane in it, ROTATE_NOW and RETIRE as writes to command entries. -/
theorem trestles : Obligations.Trestles := by
  refine fun src t k n v kind pav cls addr cyc part data s => ⟨fun ht hk hlo hhi => ⟨?vote, ?split, ?fenced⟩, ?presented, ?lagging,
    ?localFault, ?copied, ?starved, ?takeover, ?rebuilt, exec_rotationStart_of_past, exec_rotationStart_of_not_past, ?rotateNow, ?locked,
    ?untested, ?tested, ?retire⟩
  case vote => exact exec_voterRecordArrival_of_voting ht hk hlo hhi
  case split =>
    rintro hsplit - rfl
    exact exec_voterRecordArrival_of_debugSplit ht hlo hhi hsplit
  case fenced => exact fun _ => exec_voterRecordArrival_of_fenced
  case presented => exact fun ⟨_, hfront⟩ => exec_voterLagExpiry_of_presented hfront
  case lagging => exact fun _ _ => exec_voterLagExpiry_of_lagging
  case localFault => rfl
  case copied =>
    exact guarded_only rfl (by simp only [Bool.and_eq_true, decide_eq_true_eq, Bool.not_eq_true', Bool.and_eq_false_iff, and_assoc])
  case starved => exact guarded_only rfl (by simp [and_assoc])
  case takeover =>
    exact fun ht hactive hwait =>
      ⟨exec_takeoverWaitExpiry_of_none hwait, fun _ _ => exec_takeoverWaitExpiry_of_some ht hactive hwait⟩
  case rebuilt => exact guarded_only rfl (by simp [and_assoc])
  case rotateNow => exact commanded_command rfl rfl
  case locked => exact fun hn hrole _ => exec_spareLaneLocked_of_some hn hrole
  case untested => exact fun h => ⟨exec_laneBistComplete_of_ne true h, exec_laneBistComplete_of_ne false h⟩
  case tested => exact fun hn htest => ⟨exec_laneBistComplete_pass hn htest, exec_laneBistComplete_fail hn htest⟩
  case retire =>
    exact fun hn => commanded_only rfl (decide_eq_true hn) (by simp only [accept, refuse, Bool.and_eq_true, decide_eq_true_eq])

end Sys2Proof.Machine
end

section
/-! PROOFS of the family of spec/06_pavilions.md: SAFETY_RELATED (R182), the commands of a Pavilion (R180, R184, R206, R207), and what the
hardware does for it (R192, R194, R195, R196, R204). -/

namespace Sys2Proof.Machine

/-! ### FLAGS of a Pavilion (R182) -/

/-- The key is that of PAV.p.FLAGS for some Pavilion p. -/
def isPavFlags (k : Nat) : Bool := decide (0x2800 ≤ k / 256) && decide (k / 256 ≤ 0x28FF) && decide (k % 256 = 1)

section
variable {k x : Nat}

theorem isPavFlags_iff : isPavFlags k = true ↔ 0x2800 ≤ k / 256 ∧ k / 256 ≤ 0x28FF ∧ k % 256 = 1 := by
  simp [isPavFlags, and_assoc]

theorem isPavFlags_key {p : Nat} (hp : p < 256) : isPavFlags (256 * (0x2800 + p) + 1) = true := by
  rw [isPavFlags_iff]
  omega

theorem pavFlags_key_ne (hk : isPavFlags k = true) (hx : isPavFlags x = false) : (k = x) = False :=
  eq_false fun h => by simp [h, hx] at hk

theorem pavFlags_index_not_ge (hk : isPavFlags k = true) (hx : 0x28FF < x) : (x ≤ k / 256) = False :=
  eq_false (by rw [isPavFlags_iff] at hk; omega)
theorem pavFlags_index_not_le (hk : isPavFlags k = true) (hx : x < 0x2800) : (k / 256 ≤ x) = False :=
  eq_false (by rw [isPavFlags_iff] at hk; omega)
theorem pavFlags_index_not_lt (hk : isPavFlags k = true) (hx : x ≤ 0x2800) : (k / 256 < x) = False :=
  eq_false (by rw [isPavFlags_iff] at hk; omega)
theorem pavFlags_index_ne (hk : isPavFlags k = true) (hx : x < 0x2800) : (k / 256 = x) = False :=
  eq_false (by rw [isPavFlags_iff] at hk; omega)
theorem pavFlags_sub_ne (hk : isPavFlags k = true) (hx : x ≠ 1) : (k % 256 = x) = False :=
  eq_false (by rw [isPavFlags_iff] at hk; omega)

theorem safetyKeys_not_pavFlags : ∀ k ∈ safetyKeys, isPavFlags k = false := by decide +kernel

theorem contains_safetyKeys_pavFlags (hk : isPavFlags k = true) : safetyKeys.contains k = false := by
  rw [Bool.eq_false_iff, ne_eq, List.contains_iff_mem]
  exact fun h => by simp [safetyKeys_not_pavFlags k h] at hk

/-- No command of its own stands at FLAGS. -/
theorem rowOf_pavFlags (hk : isPavFlags k = true) (s : State) (src : Path) (v : Bytes) : s.rowOf src k v = none := by
  simp (disch := decide) only [State.rowOf, pavFlags_key_ne hk, pavFlags_index_not_ge hk, pavFlags_index_not_le hk,
    pavFlags_index_not_lt hk, pavFlags_index_ne hk, pavFlags_sub_ne hk, contains_safetyKeys_pavFlags hk,
    Bool.false_eq_true, if_false, false_and, and_false, or_self]

end

/-- R182: FLAGS of every Pavilion is a number without a sign. -/
theorem dictFind_pavFlags : ∀ p < 256, (dictFind (0x2800 + p) 1).map (·.ty) = some .u16 := by decide +kernel

/-- A write of FLAGS puts the number its bytes spell. -/
theorem rdN_putValue_pavFlags {k : Nat} (hk : isPavFlags k = true) (v : Bytes) (s : State) :
    (putValue k v s).rdN k = ofLe v := by
  obtain ⟨hlo, hhi, hsub⟩ := isPavFlags_iff.mp hk
  have htype : (dictFind (k / 256) (k % 256)).map (·.ty) = some .u16 := by
    simpa only [Nat.add_sub_cancel' hlo, hsub] using dictFind_pavFlags (k / 256 - 0x2800) (by omega)
  obtain ⟨r, hrow, hty⟩ := Option.map_eq_some_iff.mp htype
  have hdeclared : ¬0xA00000 ≤ k := by omega
  simp [putValue, putBytes, hdeclared, hrow, hty, DType.isLong, DType.isSigned, State.rdN]

/-! ### A write of an entry without a command of its own (R45) -/

section
variable {src : Path} {c : Caller} {i j k e : Nat} {v : Bytes} {s : State}

theorem applyWrite_of_rowOf_eq_none (hcaller : s.caller src = some c) (hforeign : 256 * i + j ≠ 0x200304)
    (hcheck : s.checkWrite src i j v = Err.ok) (hrow : s.rowOf src (256 * i + j) v = none) :
    applyWrite src i j v s = plainWrite src (256 * i + j) v s := by
  simp [applyWrite, hcaller, hforeign, hcheck, hrow]

/-- R45 step 7: a write that the entry's own rules refuse is answered with their code and changes nothing else. -/
theorem plainWrite_of_ownRule (hcaller : s.caller src = some c) (hk : k < 0xA00000)
    (hcheck : s.checkWrite src (k / 256) (k % 256) v = Err.ok) (hheld : s.writeHeld k = false)
    (hrule : s.ownRule (putValue k v s) src k = e) (he : e ≠ Err.ok) : plainWrite src k v s = reply e [] s := by
  simp [plainWrite, plainEffect, ownKey, answerWrite, hcaller, hk.not_ge, hcheck, hheld, hrule, he]

/-- R182: the rule of SAFETY_RELATED comes before every other rule of FLAGS. -/
theorem ownRule_pavFlags_of_not_safety (hk : isPavFlags k = true) (hcaller : s.caller src = some c) (hrole : c.safety = false)
    (hset : bitOf (s.rdN k) 2 = true) (hclear : bitOf (ofLe v) 2 = false) :
    s.ownRule (putValue k v s) src k = Err.roleDenied := by
  have hlacks : s.lacksSafety src (putValue k v s) k = true := by
    simp [State.lacksSafety, pfSafety, isPavFlags_iff.mp hk, rdN_putValue_pavFlags hk, hcaller, hrole, hset, hclear]
  rw [State.ownRule, if_pos hlacks]

end

/-- Settles O57: FLAGS has no command of its own, so the write meets its own rules, of which the SAFETY rule is the first. -/
theorem safetyRelatedNeedsSafety : Obligations.SafetyRelatedNeedsSafety := by
  intro src c p v s hp hcaller hrole hcheck hheld hset hclear
  have hk : isPavFlags (256 * (0x2800 + p) + 1) = true := isPavFlags_key hp
  have hindex : (256 * (0x2800 + p) + 1) / 256 = 0x2800 + p := by omega
  have hsub : (256 * (0x2800 + p) + 1) % 256 = 1 := by omega
  have hwrite : applyWrite src (0x2800 + p) 1 v s = reply Err.roleDenied [] s :=
    calc applyWrite src (0x2800 + p) 1 v s
        = plainWrite src (256 * (0x2800 + p) + 1) v s :=
          applyWrite_of_rowOf_eq_none hcaller (by omega) hcheck (rowOf_pavFlags hk s src v)
      _ = reply Err.roleDenied [] s :=
          plainWrite_of_ownRule hcaller (by omega) (by rwa [hindex, hsub]) hheld
            (ownRule_pavFlags_of_not_safety hk hcaller hrole hset hclear) (by decide)
  exact congrArg Host.Outcome.next hwrite

/-! ### The third key of a watchdog in a pair (R39, R206) -/

/-- A pair whose STANDBY partner mirrors the writes of the dictionary, and Pavilion 0 after two keys of its watchdog's sequence. -/
def lastKeyDue : State :=
  wrN K.modeNow Mode.active <| wrN K.cwState 1 <|
    updPav 0 (fun x => { x with keyPos := 2, keyBy := some (.dap 0) })
      { State.reset with
        dictReady := true
        sessions := [(0, { isOpen := true, role := .engineer })]
        pair := { op := 1, pRole := 2 } }

/-- The third key passes the checks of R45. -/
theorem lastKeyDue_admits :
    (lastKeyDue.caller (.dap 0)).isSome = true ∧
    lastKeyDue.checkWrite (.dap 0) (K.pavWdtKey 0 / 256) (K.pavWdtKey 0 % 256) (le 2 0x00FF) = Err.ok ∧
    lastKeyDue.writeHeld (K.pavWdtKey 0) = false := by decide +kernel

/-- R39, R206: the partner is owed two writes of the entry: the byte that says that the sequence is complete, and the key itself. -/
theorem does_pavWdtKey_lastKeyDue : Does (.pavWdtKey (.dap 0) 0 0x00FF) lastKeyDue (fun t =>
    t.pair.writes = [(K.pavWdtKey 0, [1]), (K.pavWdtKey 0, le 2 0x00FF)]) :=
  ⟨_, rfl, by decide +kernel⟩

/-- Refutes O19: the third key also tells the STANDBY partner, by a write of one byte, that the sequence is complete, and the statement leaves
this write out: from `lastKeyDue` it owes the partner the key alone. -/
theorem not_pavilionCommands : ¬ Obligations.PavilionCommands := by
  unfold Obligations.PavilionCommands
  intro h
  obtain ⟨-, -, -, -, hkey, -, -⟩ := h 0 0x00FF (.dap 0) lastKeyDue (by decide)
  obtain ⟨hcaller, hcheck, hheld⟩ := lastKeyDue_admits
  obtain ⟨t, hexec, hwrites⟩ := does_pavWdtKey_lastKeyDue
  have hstated := hkey.done hcaller hcheck hheld
  rw [hexec] at hstated
  injection hstated with hstated
  rw [hstated] at hwrites
  exact absurd hwrites (by decide +kernel)

/-! ### The watchdog's expiry (R204) -/

/-- R204: the watchdog fails when its time has run out while it is RUNNING. -/
theorem guarded_pavWdtExpiry (s : State) (p : Nat) :
    Guarded (.pavWdtExpiry p) s
      (p < 256 ∧ s.rdN (K.pavWdtState p) = Wdt.running ∧ (s.pav p).wdtS + s.rdN (K.pavWdtTimeout p) * us < s.now) (wdtFail p 0x32) :=
  guarded_only rfl (by simp [and_assoc])

/-! ### The end of a DMA transfer (R194) -/

section
variable {s : State} {p ticket addr : Nat} {d : Dma}

theorem exec_dmaTransferComplete_of_none (h : (s.pav p).dma.find? (fun d => d.ticket = ticket && d.st < 2) = none) (ok : Bool) :
    exec (.dmaTransferComplete p ticket ok addr) s = .next s := by
  change execDmaTransferComplete p ticket ok addr s = _
  simp only [execDmaTransferComplete, h]

theorem exec_dmaTransferComplete_of_ok (h : (s.pav p).dma.find? (fun d => d.ticket = ticket && d.st < 2) = some d) :
    exec (.dmaTransferComplete p ticket true addr) s = .next (dmaTo p ticket 2
      (store Mem.fabric d.dst (if d.zero then List.replicate d.len 0 else s.readMasked p d.src d.len) s)) := by
  change execDmaTransferComplete p ticket true addr s = _
  simp only [execDmaTransferComplete, h, if_true]

theorem exec_dmaTransferComplete_of_error (h : (s.pav p).dma.find? (fun d => d.ticket = ticket && d.st < 2) = some d) :
    exec (.dmaTransferComplete p ticket false addr) s = .next (
      let u := raiseDma p ticket 4 (dmaTo p ticket 4 s)
      if inSram addr then sramLost addr p d.cls u else pavFault p 6 u) := by
  change execDmaTransferComplete p ticket false addr s = _
  simp only [execDmaTransferComplete, h, Bool.false_eq_true, if_false]

theorem dmaTo_mem (p ticket st : Nat) (s : State) : (dmaTo p ticket st s).mem = s.mem := rfl

theorem pav_dmaTo (p ticket st : Nat) (s : State) :
    ((dmaTo p ticket st s).pav p).dma = (s.pav p).dma.map (fun d => if d.ticket = ticket then { d with st := st } else d) :=
  congrArg Pav.dma (pav_updPav_same p (fun v => { v with
    dma := v.dma.map (fun d => if d.ticket = ticket then { d with st := st } else d) }) s)

theorem rdN_quotaDmaOpen_dmaTo (p ticket st : Nat) (s : State) :
    (dmaTo p ticket st s).rdN (K.quotaDmaOpen p) = openDma ((dmaTo p ticket st s).pav p).dma :=
  rdN_wrN_same ..

theorem pav_store (sp a q : Nat) (b : Bytes) (s : State) : (store sp a b s).pav q = s.pav q := by
  rw [store_rest]
  rfl

end

/-! ### A fabric cycle (R195) -/

section
variable (r err syn : Nat) (s : State)

theorem exec_fabricAccess_of_le (arrivals : List FabArrival) (ovf : Bool) (h : 65 ≤ r) :
    exec (.fabricAccess r arrivals err syn ovf) s = .next s := by
  change execFabricAccess r arrivals err syn ovf s = _
  rw [execFabricAccess, decide_eq_false h.not_gt, only_false]

/-- R196: the accounts that wait at resource r are marked for the ledger round. -/
def markWaiting (r : Nat) (s : State) : State :=
  updFab (fun f => { f with waited := (s.waiting r).foldl (fun w q => Tab.put w q.account true false) f.waited }) s

/-- R195: the kind of a cycle of resource r goes into the record of its latest 15. -/
def recordCycle (r : Nat) (s : State) : State :=
  updFab (fun f => { f with served := Tab.upd f.served r [] (fun l => (cycleKind (s.fabChoice r) :: l).take 15) }) s

/-- R195: a cycle at which nothing arrives serves what waits, or nothing. -/
theorem exec_fabricAccess_of_no_arrivals (h : r < 65) :
    exec (.fabricAccess r [] err syn false) s = .next (
      match (markWaiting r s).fabChoice r with
      | some c => fabServe r err syn c (recordCycle r (markWaiting r s))
      | none => recordCycle r (markWaiting r s)) := by
  have hqueue : updFab (fun f => { f with reqs := f.reqs ++ [] }) s = s := by simp [updFab]
  change execFabricAccess r [] err syn false s = _
  rw [execFabricAccess, decide_eq_true h, only_true]
  simp only [List.filter_nil, List.map_nil, each_nil, hqueue, only_false]
  rfl

end

/-! ### The end of a ledger round (R196) -/

/-- A table after a write at each of some keys, of a value that the key alone gives: the value at a key written, as before at another. -/
theorem Tab.get_foldl_put {α : Type} [DecidableEq α] (d : α) (f : Nat → α) (l : List Nat) (t : Sparse α) (j : Nat) :
    Tab.get (l.foldl (fun t e => Tab.put t e (f e) d) t) j d = if j ∈ l then f j else Tab.get t j d := by
  induction l generalizing t with
  | nil => simp
  | cons e l ih =>
    rw [List.foldl_cons, ih, Tab.get_put]
    by_cases hl : j ∈ l
    · simp [hl]
    · by_cases he : j = e <;> simp [hl, he]

/-- R196: the credits that the end of a round leaves. -/
def State.roundCredits (s : State) : Sparse Int :=
  (List.range 257).foldl (fun t e => Tab.put t e
    (roundCredit (Tab.get s.fabric.waited e false) (s.ledgerWeight e) (Tab.get s.fabric.credit e 0)) 0) s.fabric.credit

theorem get_roundCredits (s : State) {e : Nat} (h : e < 257) : Tab.get s.roundCredits e 0 =
    roundCredit (Tab.get s.fabric.waited e false) (s.ledgerWeight e) (Tab.get s.fabric.credit e 0) := by
  rw [State.roundCredits, Tab.get_foldl_put, if_pos (List.mem_range.mpr h)]

/-- R196: the credits shown in the dictionary are written apart from the ledger. -/
theorem fabric_each_wr (f : Nat → Nat) (g : Nat → Int) (l : List Nat) (s : State) :
    (each l (fun p s => wr (f p) (g p) s) s).fabric = s.fabric :=
  each_induct (fun t => t.fabric = s.fabric) _ l s (fun _ _ _ h => h) rfl

theorem does_ledgerRoundEnd (s : State) : Does .ledgerRoundEnd s (fun t => t.fabric.credit = s.roundCredits) :=
  ⟨_, rfl, by beta_reduce; rw [fabric_each_wr, updFab_fabric, State.roundCredits]⟩

/-- Settles O20: the watchdog as an effect under its condition, a transfer by how it ended, a cycle by what it serves, a round by the credit
of each account. -/
theorem pavilionHardware : Obligations.PavilionHardware := by
  refine fun p ticket addr d s => ⟨guarded_pavWdtExpiry s p, fun hopen => ⟨?moved, ?lost, ?sram⟩, exec_dmaTransferComplete_of_none,
    fun r err syn ovf hr arrivals => exec_fabricAccess_of_le r err syn s arrivals ovf hr,
    fun r err syn hr => ⟨fun c hchoice => ?served, fun hchoice => ?idle⟩, ?round⟩
  case moved =>
    refine ⟨_, exec_dmaTransferComplete_of_ok hopen, dmaTo_mem .., ?_, rdN_quotaDmaOpen_dmaTo ..⟩
    rw [pav_dmaTo, pav_store]
  case lost => exact fun hsram => by simp [exec_dmaTransferComplete_of_error hopen, hsram]
  case sram => exact fun hsram => by simp [exec_dmaTransferComplete_of_error hopen, hsram]
  case served =>
    rw [exec_fabricAccess_of_no_arrivals r err syn s hr, show (markWaiting r s).fabChoice r = some c from hchoice]
    rfl
  case idle =>
    rw [exec_fabricAccess_of_no_arrivals r err syn s hr, show (markWaiting r s).fabChoice r = none from hchoice]
    rfl
  case round =>
    obtain ⟨t, hexec, hcredit⟩ := does_ledgerRoundEnd s
    exact ⟨t, hexec, fun e he => by rw [hcredit, get_roundCredits s he]⟩

end Sys2Proof.Machine
end

section
/-! PROOFS of the family of spec/07_redundant_pair.md, first part: the handover and the other commands of PAIRCMD (R230, R242, R246). -/

namespace Sys2Proof.Machine

/-! ### The shapes of a command -/

/-- A command whose condition holds runs its effect. -/
theorem exec_of_only {i : Instr} {s : State} {b : Bool} {f : State → State} (h : exec i s = .next (only b f s)) (hb : b = true) :
    exec i s = .next (f s) := by
  rw [h, hb, only_true]

/-- A write to a command entry that admits the value 1 alone. -/
theorem commanded1_command1 {i : Instr} {src : Path} {k v : Nat} {s : State} {f g : State → Nat × State}
    (h : exec i s = .next (command1 src k v f s)) (hf : f s = g s) : Commanded1 i src k v s g :=
  commanded_command h (if_congr Iff.rfl hf rfl)

/-! ### Writes to the command entries of the pair (R230, R242, R246) -/

/-- R39: a write that the entry's own rules refuse waits for no epoch of the pair: it is answered at once, and changes nothing else. -/
theorem exec_commanded_of_refused {i : Instr} {src : Path} {k code : Nat} {v : Bytes} {s : State} {f : State → Nat × State}
    (h : Commanded i src k v s f) (hf : f s = (code, s)) (hcode : code ≠ Err.ok) (hcaller : (s.caller src).isSome)
    (hcheck : s.checkWrite src (k / 256) (k % 256) v = Err.ok) (hheld : s.writeHeld k = false) :
    exec i s = .next (reply code [] s) := by
  rw [h.done hcaller hcheck hheld, hf]
  simp [answerWrite, hcode]

/-- A change of mode takes no time. -/
theorem setMode_now (m cause : Nat) (s : State) : (setMode m cause s).now = s.now := by
  simp only [setMode, apply_ite State.now, raise_now, wrN_now, ite_self]

section
variable (s : State) (src : Path) (v : Nat)

theorem commanded_takeoverReqWrite : Commanded1 (.takeoverReqWrite src v) src K.paircmdTakeoverReq v s (fun s =>
    if s.pairOp = true ∧ s.activeLike = true then (Err.ok, send Wire.control (le 1 1 ++ le 1 1) (requestTakeover 0 false s))
    else (Err.state, s)) := by
  refine commanded1_command1 rfl ?_
  by_cases h : s.pairOp = true ∧ s.activeLike = true
  · simp [accept, h]
  · simp [refuse, h]

theorem commanded_handoverRequest : Commanded1 (.handoverRequest src v) src K.paircmdHandover v s (fun s =>
    if s.mayHandover then
      let u := updPair (fun p => { p with hoAt := s.now, swapAt := none }) (setMode Mode.handover 25 (wrN K.paircmdHandoverState 1 s))
      (Err.ok, fieldFollow (send Wire.handover (le 1 4) u))
    else (Err.state, s)) := by
  refine commanded1_command1 rfl ?_
  simp only [accept, refuse, setMode_now, wrN_now]
  cases s.mayHandover <;> rfl

theorem commanded_pairRejoin : Commanded1 (.pairRejoin src v) src K.paircmdRejoin v s (fun s =>
    if s.pairOp = true ∧ s.mode = Mode.standby then (Err.ok, pairFollow (joinStart s)) else (Err.state, s)) := by
  refine commanded1_command1 rfl ?_
  simp only [accept, refuse, ne_eq]
  cases s.pairOp <;> simp

end

/-- R242: each of the five conditions bars a handover. -/
theorem mayHandover_eq_false {s : State} (h : s.mode ≠ Mode.active ∨ s.partnerReady = false ∨ s.rdN K.refState = 1 ∨
    (∃ t < 4, s.trState t = Tr.debugSplit) ∨ s.mode = Mode.handover) : s.mayHandover = false := by
  rw [Bool.eq_false_iff]
  intro hmay
  simp only [State.mayHandover, Bool.and_eq_true, decide_eq_true_eq, List.all_eq_true, List.mem_range] at hmay
  obtain ⟨⟨⟨⟨⟨⟨-, hactive⟩, hready⟩, href⟩, -⟩, hsplit⟩, -⟩ := hmay
  rcases h with h | h | h | ⟨t, ht, h⟩ | h
  · exact h hactive
  · simp [h] at hready
  · simp [h] at href
  · exact hsplit t ht h
  · exact absurd (h.symm.trans hactive) (by decide)

/-- Settles O58: each condition bars the handover, and the write that is refused is answered with STATE_ERROR alone. -/
theorem handoverRefused : Obligations.HandoverRefused := by
  intro src s hcaller hcheck hheld hbarred
  have hrefuses := mayHandover_eq_false hbarred
  exact exec_commanded_of_refused (commanded_handoverRequest s src 1) (by simp [hrefuses]) (by decide) hcaller hcheck hheld

end Sys2Proof.Machine
end

section
/-! PROOFS of the family of spec/07_redundant_pair.md, second part: the configuration of the safety island and its acknowledgements (R264,
R273 to R275, R277), and the safety words of the pair (R235, R265, R276). -/

namespace Sys2Proof.Machine

/-! ### Configuration and acknowledgements (R264, R274, R277) -/

section
variable (s : State)

/-- R274: the staged value of an entry of section 12, by the index and the subindex that make its key. -/
theorem safetyStagedEffect_of_key (idx sub : Nat) (data : Bytes) (hsub : sub < 256) :
    let k := 256 * idx + sub
    let own := (0x3410 ≤ idx ∧ idx < 0x341C ∧ sub = 5) ∨ (0x3420 ≤ idx ∧ idx < 0x342C ∧ sub = 3)
      ∨ (0x3430 ≤ idx ∧ idx < 0x3436 ∧ sub = 14) ∨ (0x3440 ≤ idx ∧ idx < 0x3446 ∧ sub = 5) ∨ k = K.safetyStatusOwner
    let o := ofLe data
    let rule := if own then s.ownerRule k o
      else if k = K.safetyStatusOffset ∧ o ≠ 0xFFFFFFFF ∧ (o % 8 ≠ 0 ∨ 0x40000 < o + 64 ∨ (o < 0x8000 ∧ 0x8000 < o + 64)) then Err.value
      else Err.ok
    safetyStagedEffect k data s = writeThen k data (rule = Err.ok) rule stagedChanged s := by
  have hindex : (256 * idx + sub) / 256 = idx := by omega
  have hmod : (256 * idx + sub) % 256 = sub := by omega
  simp only [safetyStagedEffect, hindex, hmod, Bool.or_eq_true, Bool.and_eq_true, decide_eq_true_eq, and_assoc, or_assoc]

/-- R277: a channel that recomputes its CRC remembers whether it agrees, and faults where it does not. -/
theorem exec_configCrcCheck {ch : Nat} (upset : Bool) (hch : ch = 1 ∨ ch = 2) (hon : s.rdN K.safetyState ≠ Isl.off)
    (hactivated : s.isl.activated = true) :
    exec (.configCrcCheck ch upset) s = .next (if upset = true ∨ s.activeCrc ≠ s.isl.crcRecord
      then islandFault 5 ch (updIsl (fun x => { x with crcBad := true }) s) else updIsl (fun x => { x with crcBad := false }) s) := by
  refine (exec_of_only rfl (by simp [hch, hon, hactivated])).trans ?_
  by_cases hbad : upset = true ∨ s.activeCrc ≠ s.isl.crcRecord
  · have hfound : (upset || decide (s.activeCrc ≠ s.isl.crcRecord)) = true := by simpa using hbad
    simp only [if_pos hbad, hfound, only_true]
  · have hfound : (upset || decide (s.activeCrc ≠ s.isl.crcRecord)) = false := by simpa using hbad
    simp only [if_neg hbad, hfound, only_false]

/-- R264: an output's ACK clears its fault, but not one whose cause is still present. -/
theorem soutAckEffect_eq (o : Nat) : soutAckEffect o s =
    (Err.ok, if s.rdN (K.soutState o) = 3 ∧ ¬(s.rdN (K.soutCause o) = 4 ∧ 5000 ≤ s.rdN (K.soutReadback o)) then
      emcyFollow (unlatch (Ev.safeOutputFault o) (wrN (K.soutCause o) 0 (wrN (K.soutState o) 0 s))) else s) := by
  simp [soutAckEffect, accept, imp_iff_not_or]

end

/-! ### The safety words of the pair (R235, R265, R276) -/

section
variable {s : State}

/-- Where none of the instances is meant, nothing changes. -/
theorem each_filter_of_none {α : Type} {p : α → Bool} {f : α → State → State} {l : List α} (h : ∀ a ∈ l, p a = false) :
    each (l.filter p) f s = s := by
  rw [List.filter_eq_nil_iff.mpr fun a ha => Bool.eq_false_iff.mp (h a ha), each_nil]

/-- Of two passes over the instances, the second over those that the state after the first means: where the state means none, neither
changes it. -/
theorem each_each_filter_of_none {α : Type} {p q : State → α → Bool} {f g : α → State → State} {l : List α}
    (hp : ∀ a ∈ l, p s a = false) (hq : ∀ a ∈ l, q s a = false) :
    each (l.filter (q (each (l.filter (p s)) f s))) g (each (l.filter (p s)) f s) = s := by
  rw [each_filter_of_none hp, each_filter_of_none hq]

/-- R235, R236: where no group is compared, the island publishes its word and changes no group. -/
theorem exec_safetyWordSend_of_uncompared (hpair : s.pairOp = true) (hoff : s.rdN K.safetyState ≠ Isl.off)
    (hstartup : s.rdN K.safetyState ≠ Isl.startup)
    (huncompared : ∀ g < 6, bitOf (s.rdN K.safecmpEnable) g = false ∧ bitOf (s.rdN K.safecmpDiffer) g = false) :
    let pts (f : Group → Bool) : Nat := (List.range 6).foldl (fun a g => if f (s.grp g) then a + 2 ^ g else a) 0
    exec .safetyWordSend s = .next (send Wire.safety (le 4 s.decisionWord ++ le 4 s.activeCrc ++ le 1 (pts (·.req)) ++ le 1 (pts (·.rst)))
      (wrN K.safecmpOwn s.decisionWord s)) := by
  intro pts
  let w := send Wire.safety (le 4 s.decisionWord ++ le 4 s.activeCrc ++ le 1 (pts (·.req)) ++ le 1 (pts (·.rst)))
    (wrN K.safecmpOwn s.decisionWord s)
  have henable : w.rdN K.safecmpEnable = s.rdN K.safecmpEnable := rdN_wrN_ne _ _ _ _ (by decide)
  have hdiffer : w.rdN K.safecmpDiffer = s.rdN K.safecmpDiffer := rdN_wrN_ne _ _ _ _ (by decide)
  refine (exec_of_only rfl (by simp [hpair, hoff, hstartup])).trans (congrArg Host.Outcome.next ?_)
  refine each_each_filter_of_none (s := w)
    (p := fun t g => !bitOf (t.rdN K.safecmpEnable) g && bitOf (t.rdN K.safecmpDiffer) g)
    (q := fun t g => bitOf (t.rdN K.safecmpEnable) g) (fun g hg => ?_) (fun g hg => ?_)
  · rw [henable, hdiffer, (huncompared g (List.mem_range.mp hg)).2, Bool.and_false]
  · rw [henable, (huncompared g (List.mem_range.mp hg)).1]

/-- R265, R276: the word of a partner whose active configuration agrees ends the mismatch. -/
theorem exec_safetyWordReceive_of_agree {crc : Nat} (w req rst : Nat) (hpair : s.pairOp = true) (hcw : s.rdN K.cwState ≠ 0)
    (hoff : s.rdN K.safetyState ≠ Isl.off) (hcrc : crc = s.activeCrc) :
    let u := wrN K.safecmpPartner (w % 2 ^ 32) (updIsl (fun x => { x with
      partnerAt := some s.now, partnerReq := req % 64, partnerRst := rst % 64 }) s)
    exec (.safetyWordReceive w crc req rst) s = .next (wrN K.safetyFaults (setBit (u.rdN K.safetyFaults) 7 false) u) := by
  intro u
  have hagree : crc = u.activeCrc := hcrc
  refine (exec_of_only rfl (by simp [hpair, hcw, hoff])).trans ?_
  exact congrArg Host.Outcome.next (if_pos hagree)

end

/-- Settles O47: the writes of the configuration and the acknowledgements as writes to command entries, the status block as an effect under
its condition, the CRC and the words of the pair by what they find. -/
theorem safetyConfiguration : Obligations.SafetyConfiguration := by
  refine fun src idx sub v g o ch w crc req rst data upset s => ⟨?staged, ?discard, ?confirm, ?activate, exec_configCrcCheck s upset,
    ?publish, ?faultAck, ?groupAck, ?outputAck, exec_safetyWordSend_of_uncompared, exec_safetyWordReceive_of_agree w req rst⟩
  case staged =>
    exact fun hkey hsub => commanded_only rfl (by simp only [hkey, hsub, decide_true, Bool.and_self])
      (safetyStagedEffect_of_key s idx sub data hsub)
  case discard => exact commanded1_command1 rfl rfl
  case confirm => exact commanded_command rfl rfl
  case activate => exact commanded1_command1 rfl rfl
  case publish => exact guarded_only rfl (by simp)
  case faultAck =>
    refine commanded1_command1 rfl ?_
    simp [safetyFaultAckEffect, accept, only]
  case groupAck => exact fun hg => commanded_only rfl (decide_eq_true hg) rfl
  case outputAck => exact fun ho => commanded_only rfl (decide_eq_true ho) (if_congr Iff.rfl (soutAckEffect_eq s o) rfl)

end Sys2Proof.Machine
end

section
/-! PROOFS of the family of spec/07_redundant_pair.md, third part: the Causeway with its lanes and heartbeats (R214 to R216), the answers to
epochs (R222), and the checkpoints in NAND (R223, R397). -/

namespace Sys2Proof.Machine

/-! ### Lanes and heartbeats (R214, R216) -/

section
variable {s : State}

/-- R216: the loopback of lane 0 stops its traffic and takes it up again, and its result is kept. -/
theorem exec_causewayLoopback_zero (ok : Bool) (hpair : s.pairRuns = true) (hlanes : s.rdN K.cwLanes = 3)
    (hdue : s.past (s.pairSince s.pair.loopAt) (s.rdN K.cwLoopInterval * (1000 * ms)) = true) :
    let u := updPair (fun p => { p with loopNext := 1, loopAt := s.now }) s
    let w := cwTo 2 (wrN K.cwLanes 3 (cwTo 1 (wrN K.cwLanes 2 u)))
    let x := wrN K.cwLoopResult (setBit (w.rdN K.cwLoopResult) 0 ok) w
    exec (.causewayLoopback 0 ok) s =
      .next (if ok = false ∧ x.mode = Mode.standby then raise Ev.standbyTestFailed (le 1 2 ++ le 1 0) x else x) := by
  intro u w x
  refine (exec_of_only rfl (by simp [hpair, hlanes, hdue])).trans ?_
  have hfails : (!ok && decide (x.mode = Mode.standby)) = decide (ok = false ∧ x.mode = Mode.standby) := by simp
  exact congrArg Host.Outcome.next ((congrArg (only · _ x) hfails).trans (only_decide ..))

/-- R216: a valid heartbeat is taken in; one that is not valid counts as a CRC error. -/
theorem exec_heartbeatReceive (valid : Bool) (f : Bytes) (hpair : s.pairRuns = true) (hlanes : s.rdN K.cwLanes ≠ 0) :
    exec (.heartbeatReceive valid f) s =
      .next (if valid = true ∧ f.length = 216 then heartbeatIn f s else inc K.cwCrcErrors U32.max s) :=
  (exec_of_only rfl (by simp [hpair, hlanes])).trans rfl

end

/-! ### Answers to epochs (R222) -/

section
variable {s : State} {e : Nat} {x : Flight}

/-- R222: an answer that does not name the epoch in flight changes nothing. -/
theorem exec_epochAnswer_of_none (h : s.pairRuns = false ∨ s.flightOf e = none) :
    exec (.epochAckReceive e) s = .next s ∧ exec (.epochNakReceive e) s = .next s := by
  have hnone : (if s.pairRuns then s.flightOf e else none) = none := by
    rcases h with h | h <;> simp [h]
  change execEpochAckReceive e s = _ ∧ execEpochNakReceive e s = _
  simp only [execEpochAckReceive, execEpochNakReceive, hnone, and_self]

/-- R222: a partner that refuses the epoch in flight loses it. -/
theorem exec_epochNakReceive_of_some (hpair : s.pairRuns = true) (hflight : s.flightOf e = some x) :
    exec (.epochNakReceive e) s = .next (raise Ev.epochAbandoned (le 8 e ++ le 1 2) (epochLost x s)) := by
  change execEpochNakReceive e s = _
  simp only [execEpochNakReceive, hpair, hflight, if_true]

/-- R222, R39: the pages of the epoch the partner holds become the reference image, and the answers that waited for it are given. -/
theorem exec_epochAckReceive_of_some (hpair : s.pairRuns = true) (hflight : s.flightOf e = some x) :
    let u := wrN K.ckptEpoch x.epoch (updPair (fun p => { p with
      flight := none, cur := x, joinDue := p.joinDue && !x.join
      ref := if x.join then x.pages else x.pages.foldl (fun t y => Tab.put t y.1 y.2 zeroPage) p.ref }) s)
    exec (.epochAckReceive e) s = .next (pairFollow (payOwed e (if x.join then inc K.ckptJoins U32.max u else u))) := by
  intro u
  change execEpochAckReceive e s = _
  simp only [execEpochAckReceive, hpair, hflight, if_true]
  rfl

/-- R222: an epoch that is not answered within 10 ms is lost. -/
theorem exec_epochAckTimeout_of_some (hflight : s.pair.flight = some x) :
    exec .epochAckTimeout s = .next (if s.pairRuns = true ∧ s.past x.sentAt (10 * ms) = true then epochLost x s else s) := by
  change execEpochAckTimeout s = _
  simp only [execEpochAckTimeout, hflight, only, Bool.and_eq_true]

end

/-! ### Checkpoints in NAND (R223, R397) -/

section
variable {s : State}

/-- R223, R397: when the interval has elapsed a checkpoint begins, unless one is still being written. -/
theorem exec_nandCheckpointDue_of_some {x : Flight} (hinterval : s.rdN K.ckptNandInterval ≠ 0) (hruns : s.ghRuns = true)
    (hflushing : s.pow.flushing = false)
    (hdue : s.past (s.pairSince s.pair.ckptAt) (s.rdN K.ckptNandInterval * (1000 * ms)) = true) (hepoch : s.ckptEpochNow = some x) :
    let u := updPair (fun p => { p with ckptAt := s.now }) s
    exec .nandCheckpointDue s = .next (if u.sto.writing.isSome then u else ckptStart x u) := by
  intro u
  refine (exec_of_only rfl (by simp [hinterval, hruns, hflushing, hdue])).trans ?_
  simp only [hepoch]
  rfl

/-- R397: a write that fails leaves its slot invalid; one that ends well fills it. -/
theorem exec_checkpointWriteComplete {j : Nat} {c : CkSlot} (hwriting : s.sto.writing = some (j, c)) :
    let u := closeIntent 4 j (updSto (fun x => { x with writing := none }) s)
    exec (.checkpointWriteComplete false) s = .next (raise Ev.nandCheckpointFailed (le 2 Err.hardware) u) ∧
    (let w := updSto (fun x => { x with slots := Tab.put x.slots j c {} }) u
     exec (.checkpointWriteComplete true) s = .next (ckUsed (wrN (K.partWritten 1) (w.rdN (K.partWritten 1) + (64 + fieldAt c.head 28 4))
      (wrN K.ckptNandLast (fieldAt c.head 16 12) w)))) := by
  intro u
  change execCheckpointWriteComplete false s = _ ∧ execCheckpointWriteComplete true s = _
  simp only [execCheckpointWriteComplete, hwriting]
  exact ⟨rfl, rfl⟩

end

/-- Settles O49: lanes, heartbeats and records as effects under their conditions, an answer by the epoch in flight, a checkpoint by what is
due and how its write ended. -/
theorem pairLink : Obligations.PairLink := by
  refine fun n e lane f ok s => ⟨?trained, ?lost, ?down, ?loopback, ?send, ?receive, ?loss, ?record, ?answer, exec_epochAnswer_of_none,
    fun _ => exec_epochAckTimeout_of_some, fun hinterval hruns hflushing hdue _ => exec_nandCheckpointDue_of_some hinterval hruns hflushing hdue,
    fun _ _ => exec_checkpointWriteComplete⟩
  case trained => exact guarded_only rfl (by simp)
  case lost => exact guarded_only rfl (by simp [and_assoc])
  case down => exact guarded_only rfl (by simp [and_assoc])
  case loopback =>
    rintro hpair hlanes rfl hdue
    exact exec_causewayLoopback_zero ok hpair hlanes hdue
  case send => exact guarded_only rfl (by simp [and_assoc])
  case receive =>
    refine fun hpair hlanes => ⟨fun hlength => ?_, ?_⟩
    · simp [exec_heartbeatReceive true f hpair hlanes, hlength]
    · simp [exec_heartbeatReceive false f hpair hlanes]
  case loss => exact guarded_only rfl (by simp [and_assoc])
  case record => exact guarded_only rfl (by simp [and_assoc])
  case answer =>
    exact fun hpair x hflight => ⟨exec_epochNakReceive_of_some hpair hflight, exec_epochAckReceive_of_some hpair hflight⟩

end Sys2Proof.Machine
end

section
/-! PROOFS of the family of spec/07_redundant_pair.md, fourth part: the referee's frames (R225, R226), the role logic and takeovers (R227,
R230 to R232), the STANDBY module's self-tests and the health words (R237, R239), the handover and the joining of a partner (R242, R243, R246). -/

namespace Sys2Proof.Machine

/-! ### The referee's frames (R225) -/

section
variable {s : State} {path : Nat} {f : Bytes} {mac : Bool}

/-- R225: a GRANT that passes the checks of a frame is taken in, and another counts as bad. -/
theorem exec_refGrantReceive_of_kind (hpair : s.pairRuns = true) (hpath : s.refPath path = true) (hmagic : byteAt f 0 = 0xA5)
    (hkind : byteAt f 1 = 1) : exec (.refGrantReceive path f mac) s =
      .next (if s.refFrameOk path f mac 16 then grantIn f s else inc K.refFramesBad U32.max s) :=
  (exec_of_only rfl (by simp [hpair, hpath, hmagic, hkind])).trans rfl

/-- R225: a DENY that passes the checks of a frame is heard, counted and recorded, and its epoch seen. -/
theorem exec_refDenyReceive_of_frameOk (hpair : s.pairRuns = true) (hpath : s.refPath path = true) (hmagic : byteAt f 0 = 0xA5)
    (hkind : byteAt f 1 = 2) (hok : s.refFrameOk path f mac 12 = true) :
    let u := raise Ev.refereeDeny (le 1 (byteAt f 20) ++ le 4 (fieldAt f 16 4)) (inc K.refDenies U32.max (refereeHeard f s))
    exec (.refDenyReceive path f mac) s = .next (roleLogic (seeEpoch (fieldAt f 16 4) none u)) := by
  intro u
  refine (exec_of_only rfl (by simp [hpair, hpath, hmagic, hkind])).trans ?_
  exact congrArg Host.Outcome.next (if_pos hok)

end

/-! ### The self-tests of the STANDBY module (R237) -/

section
variable {s : State} {t bad part addr : Nat}

/-- R237: the test of a Trestle, of whose lanes those in `bad` fail. -/
theorem exec_standbyTrestleBist_of_due (hpair : s.pairRuns = true) (hmode : s.mode = Mode.standby) (hturn : t = s.pair.bistTrestle)
    (hprepared : s.pair.prepared = false)
    (hdue : s.past (s.pairSince s.pair.bistAt) (s.rdN K.healthTestInterval * (1000 * ms)) = true) :
    let u := each ((List.range 3).filter (fun k => s.laneAt t k < 15)) (fun k s =>
      if bitOf bad k then bistFail t k (s.laneAt t k) part addr s else bistPass (s.laneAt t k) s) s
    exec (.standbyTrestleBist t bad part addr) s = .next (pairFollow (if bad % 8 = 0 then
        updPair (fun p => { p with bistBad := p.bistBad.filter (· ≠ t), bistTrestle := (t + 1) % 4, bistAt := u.now }) u
      else raise Ev.standbyTestFailed (le 1 1 ++ le 1 t) (updPair (fun p => { p with bistBad := t :: p.bistBad.filter (· ≠ t) }) u))) := by
  intro u
  exact (exec_of_only rfl (by simp [hpair, hmode, ← hturn, hprepared, hdue])).trans rfl

end

/-- Settles O50: the frames of the referee by the checks they pass, the test of a Trestle by the lanes that fail, every other event of the
pair as an effect under its condition, the entries of PAIRCMD as writes to command entries. -/
theorem pairRoles : Obligations.PairRoles := by
  refine fun src v path held t bad part addr fault errs f schemas mac manual s => ⟨fun hpair hpath hmagic =>
    ⟨exec_refGrantReceive_of_kind hpair hpath hmagic, exec_refDenyReceive_of_frameOk hpair hpath hmagic⟩,
    ?status, ?request, ?lost, ?stuck, ?release, ?tick, ?first, ?wake, ?partner, ?lanesUp, ?lanesFail, ?restored, ?restoreFail, ?bist,
    ?scrub, ?healthSend, ?healthReceive, ?prepare, ?swap, ?timeout, ?join, commanded_takeoverReqWrite s src v,
    commanded_handoverRequest s src v, commanded_pairRejoin s src v⟩
  case status => exact guarded_only rfl (by simp)
  case request => exact guarded_only rfl (by simp [and_assoc])
  case lost => exact guarded_only rfl (by simp [and_assoc])
  case stuck => exact guarded_only rfl (by simp [and_assoc])
  case release => exact guarded_only rfl (by simp [and_assoc])
  case tick => exact guarded_only rfl Iff.rfl
  case first => exact guarded_only rfl Iff.rfl
  case wake => exact guarded_only rfl (by simp [and_assoc])
  case partner => exact guarded_only rfl (by simp [and_assoc])
  case lanesUp => exact guarded_only rfl (by simp)
  case lanesFail => exact guarded_only rfl (by simp)
  case restored => exact guarded_only rfl (by simp)
  case restoreFail => exact guarded_only rfl (by simp)
  case bist =>
    intro hpair hmode hturn hprepared hdue
    rw [exec_standbyTrestleBist_of_due hpair hmode hturn hprepared hdue]
    exact ⟨fun hpass => by rw [if_pos hpass], fun hfail => by rw [if_neg hfail]⟩
  case scrub =>
    refine guarded_congr (guarded_only rfl (by simp [and_assoc])) fun _ => ?_
    simp only [only_decide]
  case healthSend => exact guarded_only rfl (by simp)
  case healthReceive => exact guarded_only rfl (by simp [and_assoc])
  case prepare => exact guarded_only rfl (by simp [and_assoc])
  case swap => exact guarded_only rfl (by simp)
  case timeout => exact guarded_only rfl (by simp)
  case join => exact guarded_only rfl (by simp [and_assoc])

end Sys2Proof.Machine
end

section
/-! PROOFS of the family of spec/08_safety_island.md, first part: the safe outputs: the reset with restart interlock (R263), the enabling
sequence (R267), the cross-link (R248), and the off pulses (R268, R269). -/

namespace Sys2Proof.Machine

/-! ### The reset with restart interlock (R263) -/

/-- R263: a reset event of group g has come: a press of RESET_PAIR of 100 ms to 5 s, or a rise of RESET_POINT. -/
def State.resetEvent (s : State) (g : Nat) (point : Bool) : Bool :=
  if point then (s.grp g).pointRose else (s.grp g).press.any (fun d => 100 * ms ≤ d && d ≤ 5 * Machine.sec)

/-- R263: the reset event of group g is used up. -/
def useReset (g : Nat) (point : Bool) (s : State) : State :=
  updGrp g (fun x => if point then { x with pointRose := false } else { x with press := none }) s

section
variable {s : State} {g : Nat} {point : Bool}

/-- R263: without a reset event, or where a condition of the reset fails, the event is used up and nothing else changes. -/
theorem exec_stoReset_of_refused (hg : g < 6) (h : s.resetEvent g point = false ∨ s.resetAllowed g = false) :
    exec (.stoReset g point) s = .next (useReset g point s) := by
  have hrefused : (!(s.resetEvent g point && s.resetAllowed g)) = true := by simpa [Bool.and_eq_false_iff] using h
  refine (exec_of_only rfl (decide_eq_true hg)).trans (congrArg Host.Outcome.next ?_)
  exact if_pos hrefused

/-- R263, R267: an accepted reset clears the latches of the group, closes P and opens S of its outputs, and starts the enabling sequence. -/
theorem exec_stoReset_of_accepted (hg : g < 6) (hevent : s.resetEvent g point = true) (hallowed : s.resetAllowed g = true) :
    let u := wrN (K.sgroupLatch g) 0 (useReset g point s)
    let w := wrN K.safecmpLatched (setBit (u.rdN K.safecmpLatched) g false) u
    let x := each (w.outsOf g) (fun o t =>
      wrN (K.soutState o) 1 (updIsl (fun i => { i with swP := setBit i.swP o true, swS := setBit i.swS o false }) t)) w
    exec (.stoReset g point) s =
      .next (grpTo g Grp.enabling (updGrp g (fun y => { y with phase := 1, seqAt := x.now, cmpSince := none }) x)) := by
  intro u w x
  have haccepted : ¬(!(s.resetEvent g point && s.resetAllowed g)) = true := by simp [hevent, hallowed]
  refine (exec_of_only rfl (decide_eq_true hg)).trans (congrArg Host.Outcome.next ?_)
  exact if_neg haccepted

end

/-! ### The enabling sequence (R267) -/

/-- R267: the readbacks `rb` of the outputs of group g are kept. -/
def keepReadbacks (g : Nat) (rb : List Nat) (s : State) : State :=
  each (s.outsOf g) (fun o t => wrN (K.soutReadback o) (rb.getD o 0 % 65536) t) s

section
variable {s : State} {g : Nat} {rb : List Nat}

/-- R267: where all outputs of the group read low, none fails the test of a switch. -/
theorem outsReadHigh_eq_nil (hlow : ∀ o ∈ s.outsOf g, rb.getD o 0 < 5000) :
    (s.outsOf g).filter (fun o => decide (5000 ≤ rb.getD o 0)) = [] :=
  List.filter_eq_nil_iff.mpr fun o ho => by simpa using hlow o ho

/-- R267: while S is tested, a group all of whose outputs read low goes on at 2 ms: P opens and S closes. -/
theorem exec_enableSequenceStep_of_testing_s (hg : g < 6) (hstate : s.rdN (K.sgroupState g) = Grp.enabling) (hphase : (s.grp g).phase = 1)
    (hlow : ∀ o ∈ s.outsOf g, rb.getD o 0 < 5000) (hdue : (keepReadbacks g rb s).past (s.grp g).seqAt (2 * ms) = true) :
    exec (.enableSequenceStep g rb) s = .next (each (s.outsOf g)
      (fun o => updIsl (fun i => { i with swP := setBit i.swP o false, swS := setBit i.swS o true }))
      (updGrp g (fun x => { x with phase := 2 }) (keepReadbacks g rb s))) := by
  refine (exec_of_only rfl (by simp [hg, hstate])).trans (congrArg Host.Outcome.next ?_)
  refine (if_pos (Or.inl hphase)).trans ((if_neg (not_not.mpr (outsReadHigh_eq_nil hlow))).trans ((if_pos hphase).trans ?_))
  exact if_pos hdue

/-- R267: while P is tested, a group all of whose outputs read low goes on at 4 ms: P closes as well. -/
theorem exec_enableSequenceStep_of_testing_p (hg : g < 6) (hstate : s.rdN (K.sgroupState g) = Grp.enabling) (hphase : (s.grp g).phase = 2)
    (hlow : ∀ o ∈ s.outsOf g, rb.getD o 0 < 5000) (hdue : (keepReadbacks g rb s).past (s.grp g).seqAt (4 * ms) = true) :
    exec (.enableSequenceStep g rb) s = .next (each (s.outsOf g) (fun o => updIsl (fun i => { i with swP := setBit i.swP o true }))
      (updGrp g (fun x => { x with phase := 3 }) (keepReadbacks g rb s))) := by
  refine (exec_of_only rfl (by simp [hg, hstate])).trans (congrArg Host.Outcome.next ?_)
  refine (if_pos (Or.inr hphase)).trans ((if_neg (not_not.mpr (outsReadHigh_eq_nil hlow))).trans ((if_neg (by simp [hphase])).trans ?_))
  exact if_pos hdue

/-- R267: with both switches closed, a group all of whose outputs read high has its outputs ON and torque in both channels, and is in RUN. -/
theorem exec_enableSequenceStep_of_closed (hg : g < 6) (hstate : s.rdN (K.sgroupState g) = Grp.enabling) (hphase : (s.grp g).phase = 3)
    (hhigh : ∀ o ∈ s.outsOf g, 15000 < rb.getD o 0) :
    exec (.enableSequenceStep g rb) s = .next (grpTo g Grp.run (updGrp g (fun x => { x with phase := 0, differSince := none })
      (updIsl (fun i => { i with torqueS := setBit i.torqueS g true, torqueP := setBit i.torqueP g true })
        (each (s.outsOf g) (fun o => wrN (K.soutState o) 2) (keepReadbacks g rb s))))) := by
  have hshort : (s.outsOf g).filter (fun o => decide (rb.getD o 0 ≤ 15000)) = [] :=
    List.filter_eq_nil_iff.mpr fun o ho => by simpa using hhigh o ho
  refine (exec_of_only rfl (by simp [hg, hstate])).trans (congrArg Host.Outcome.next ?_)
  exact (if_neg (by simp [hphase])).trans (if_pos hshort)

end

/-! ### The off pulses (R269) -/

/-- R269: the end of the recovery window ends the test and keeps what it read: an output that did not fall faults with the switch under
test, one that did not rise again with cause 3, and one that did both has passed a test. -/
theorem exec_offPulseVerdict_of_due {s : State} {o : Nat} (fell rose : Bool) (fall mv : Nat) (ho : o < 12)
    (hphase : (s.outTest o).phase = 2) (hdue : s.past (s.outTest o).t1 (200 * us) = true) :
    let u := wrN (K.soutReadback o) (mv % 65536) (wrN (K.soutLastFall o) (if fell then min fall 254 else 255) (updTest o (fun _ => {}) s))
    exec (.offPulseVerdict o fell rose fall mv) s = .next (
      if !fell then outFault o (if (s.outTest o).swP then 2 else 1) u
      else if !rose then outFault o 3 u
      else inc (K.soutTests o) U32.max u) :=
  (exec_of_only rfl (by simp [ho, hphase, hdue])).trans rfl

/-- Settles O46: the reset by its event and its conditions, the enabling sequence by its phase, the verdict of a test by what it read, the
cross-link and the off pulses as effects under their conditions. -/
theorem safetyOutputs : Obligations.SafetyOutputs := by
  refine fun g o fall mv point rb s =>
    ⟨fun hg => ⟨exec_stoReset_of_refused hg, exec_stoReset_of_accepted hg⟩,
      fun hg hstate => ⟨exec_enableSequenceStep_of_testing_s hg hstate, exec_enableSequenceStep_of_testing_p hg hstate,
        exec_enableSequenceStep_of_closed hg hstate⟩,
      ?linkS, ?linkP, fun swP => ?slot, ?close, fun ho hphase hdue =>
        ⟨exec_offPulseVerdict_of_due true true fall mv ho hphase hdue, exec_offPulseVerdict_of_due true false fall mv ho hphase hdue,
          exec_offPulseVerdict_of_due false true fall mv ho hphase hdue⟩⟩
  case linkS => exact guarded_only rfl (by simp [and_assoc])
  case linkP => exact guarded_only rfl (by simp [and_assoc])
  case slot => exact guarded_only rfl (by simp [and_assoc])
  case close => exact guarded_only rfl (by simp [and_assoc])

end Sys2Proof.Machine
end

section
/-! PROOFS of the family of spec/08_safety_island.md, second part: the island watches itself (R249, R250), its test pulses and safe input
pairs (R254 to R256), and its encoders (R257, R258). -/

namespace Sys2Proof.Machine

/-! ### Self-monitoring (R249, R250) -/

section
variable {s : State}

/-- R249: a heartbeat in sequence is kept; one that breaks it is a fault. -/
theorem exec_spHeartbeat_of_running (valid : Bool) (hon : s.rdN K.safetyState ≠ Isl.off) (hstarted : s.rdN K.safetyState ≠ Isl.startup) :
    exec (.spHeartbeat valid) s = .next (if valid then updIsl (fun x => { x with hbAt := s.now }) s else islandFault 0 2 s) :=
  (exec_of_only rfl (by simp [hon, hstarted])).trans rfl

/-- R250: the island remembers whether its supplies are bad, and faults where they are. -/
theorem exec_islandSupplyCheck_of_on {railsOk : Bool} {vsens low : Nat} (bad : Bool) (hon : s.rdN K.safetyState ≠ Isl.off)
    (hbad : (!railsOk || (vsens < 18000 && 10 < low)) = bad) :
    let u := updIsl (fun x => { x with supplyBad := bad }) s
    exec (.islandSupplyCheck railsOk vsens low) s = .next (if bad then islandFault 4 1 u else u) := by
  subst hbad
  exact (exec_of_only rfl (decide_eq_true hon)).trans rfl

end

/-! ### Test pulses and safe input pairs (R254 to R256) -/

/-- The active configuration is the same after a change to a pair. -/
@[simp] theorem activeN_updPairIn (i k : Nat) (f : PairIn → PairIn) (s : State) : (updPairIn i f s).activeN k = s.activeN k := rfl

/-- The active configuration is the same after a write to the dictionary. -/
@[simp] theorem activeN_wr (k j : Nat) (v : Int) (s : State) : (wr k v s).activeN j = s.activeN j := rfl

/-- Two effects that agree on the states of an invariant that the second keeps agree over a list of instances. -/
theorem each_congr_of_invariant {α : Type} (P : State → Prop) {f f' : α → State → State} {l : List α} {s : State} (hs : P s)
    (hkeeps : ∀ a ∈ l, ∀ t, P t → P (f' a t)) (hagree : ∀ a ∈ l, ∀ t, P t → f a t = f' a t) : each l f s = each l f' s := by
  induction l generalizing s with
  | nil => rfl
  | cons a l ih =>
    rw [each_cons, each_cons, hagree a List.mem_cons_self s hs]
    exact ih (hkeeps a List.mem_cons_self s hs) (fun b hb => hkeeps b (List.mem_cons_of_mem a hb))
      (fun b hb => hagree b (List.mem_cons_of_mem a hb))

/-- No pair is in use, and no pair names a test-pulse output. -/
def State.pairsUnused (s : State) : Prop := ∀ i < 12, s.activeN (K.spairType i) = 0 ∧ s.activeN (K.spairSource i) = 0

/-- R255: a test-pulse output that follows its pattern is good, and with no pair in use no channel shows a cross fault. -/
theorem exec_testPulse_of_pairsUnused {s : State} {x : Nat} (hx : x < 4) (hon : s.rdN K.safetyState ≠ Isl.off) (hunused : s.pairsUnused) :
    exec (.testPulse x true []) s = .next (each (List.range 12) (fun i => updPairIn i (fun p => { p with cross := false }))
      (wrN K.safetyFaults (setBit (s.rdN K.safetyFaults) (8 + x) false) s)) := by
  refine (exec_of_only rfl (by simp [hx, hon])).trans (congrArg Host.Outcome.next ?_)
  refine each_congr_of_invariant State.pairsUnused hunused (fun i _ t ht => ht) (fun i hi t ht => ?_)
  obtain ⟨htype, hsource⟩ := ht i (List.mem_range.mp hi)
  obtain ⟨-, hunnamed⟩ := hunused i (List.mem_range.mp hi)
  simp [htype, hsource, hunnamed, bits]

/-- R256: entry into DISCREPANCY. -/
def toDiscrepancy (i : Nat) (s : State) : State := updPairIn i (fun p => { p with since := s.now }) (wrN (K.spairState i) 2 s)

section
variable {s : State} {i a b held : Nat}

/-- R256: the filter time of a pair in use, of an island that is on, has passed. -/
structure FilterDue (i held : Nat) (s : State) : Prop where
  pair : i < 12
  used : s.activeN (K.spairType i) ≠ 0
  filtered : s.activeN (K.spairFilter i) ≤ held
  on : s.rdN K.safetyState ≠ Isl.off

/-- The condition of the command is `FilterDue`. -/
theorem FilterDue.holds (h : FilterDue i held s) : (decide (i < 12) && decide (s.activeN (K.spairType i) ≠ 0) &&
    decide (s.activeN (K.spairFilter i) ≤ held) && decide (s.rdN K.safetyState ≠ Isl.off)) = true := by
  simp [h.pair, h.used, h.filtered, h.on]

/-- R256: out of DEMAND a pair goes to ENABLE where both channels show it, and to DISCREPANCY where they do not agree. -/
theorem exec_safeInputFilterExpiry_of_demand (hdue : FilterDue i held s) (hstate : s.rdN (K.spairState i) = 0) :
    let ty := s.activeN (K.spairType i)
    exec (.safeInputFilterExpiry i a b held) s = .next (
      if chanEnable ty 0 a && chanEnable ty 1 b && pairConsistent ty a b then toEnable i s
      else if !pairConsistent ty a b then toDiscrepancy i s else s) := by
  intro ty
  refine (exec_of_only rfl hdue.holds).trans ?_
  simp only [hstate]
  rfl

/-- R256: out of ENABLE a pair goes to DEMAND as soon as a channel shows it, and from there to DISCREPANCY where they do not agree. -/
theorem exec_safeInputFilterExpiry_of_enable (hdue : FilterDue i held s) (hstate : s.rdN (K.spairState i) = 1) :
    let ty := s.activeN (K.spairType i)
    exec (.safeInputFilterExpiry i a b held) s = .next (
      if chanDemand ty 0 a || chanDemand ty 1 b then
        (if pairConsistent ty a b then toDemand i s else toDiscrepancy i (toDemand i s))
      else s) := by
  intro ty
  refine (exec_of_only rfl hdue.holds).trans ?_
  simp only [hstate]
  rfl

/-- R256: out of DISCREPANCY a pair whose channels agree goes to the state they show. -/
theorem exec_safeInputFilterExpiry_of_discrepancy (hdue : FilterDue i held s) (hstate : s.rdN (K.spairState i) = 2) :
    let ty := s.activeN (K.spairType i)
    exec (.safeInputFilterExpiry i a b held) s = .next (
      if pairConsistent ty a b then (if chanEnable ty 0 a && chanEnable ty 1 b then toEnable i s else toDemand i s) else s) := by
  intro ty
  refine (exec_of_only rfl hdue.holds).trans ?_
  simp only [hstate]
  rfl

end

/-! ### Encoders (R257, R258) -/

/-- R257, R258: an encoder, not inverted, whose two channels measure the same speed within its greatest rate, has its position and speeds
kept and shows no fault. -/
theorem exec_encoderGate_of_agree {s : State} {e : Nat} {edges speed : Int} (he : e < 6) (htype : s.activeN (K.sencType e) ≠ 0)
    (hinvert : s.activeN (K.sencInvert e) = 0) (hon : s.rdN K.safetyState ≠ Isl.off) (hstarted : s.rdN K.safetyState ≠ Isl.startup) :
    let u := wr (K.sencPosition e) (signed 8 (unsigned 8 (s.rd (K.sencPosition e) + edges))) s
    let w := wr (K.sencSpeedPp e) (edges * 1000) (wr (K.sencSpeedSp e) speed u)
    (edges * 1000).natAbs ≤ w.activeN (K.sencMaxRate e) → speed.natAbs ≤ w.activeN (K.sencMaxRate e) → speed = edges * 1000 →
      exec (.encoderGate e edges speed false false) s =
        .next (updIsl (fun x => { x with encCross := Tab.put x.encCross e none none }) w) := by
  intro u w hrate _ hagree
  have hslow : ¬s.activeN (K.sencMaxRate e) < (edges * 1000).natAbs := Nat.not_lt.mpr hrate
  refine (exec_of_only rfl (by simp [he, htype, hon, hstarted])).trans (congrArg Host.Outcome.next ?_)
  subst hagree
  simp [hinvert, hslow, u, w]

/-- Settles O45: heartbeat and supplies by what they find, the pairs by their state, the encoder whose channels agree, and every other event
of the island's inputs as an effect under its condition. -/
theorem safetyInputs : Obligations.SafetyInputs := by
  refine fun i a b held e g o ch x vsens low edges speed s => ⟨fun hon hstarted =>
      ⟨exec_spHeartbeat_of_running true hon hstarted, exec_spHeartbeat_of_running false hon hstarted⟩,
    ?watchdog, ?supply, ?lockstep, exec_testPulse_of_pairsUnused, ?filter, ?discrepancy, ?disagree, exec_encoderGate_of_agree,
    ?encoderClear, ?evaluation, ?channels, ?external, ?overload⟩
  case watchdog => exact guarded_only rfl (by simp [and_assoc])
  case supply =>
    refine fun hon => ⟨fun hgood => ?_, fun hlow hheld => ?_, exec_islandSupplyCheck_of_on true hon rfl⟩
    · exact exec_islandSupplyCheck_of_on false hon (by simpa [imp_iff_not_or] using hgood)
    · exact exec_islandSupplyCheck_of_on true hon (by simp [hlow, hheld])
  case lockstep => exact guarded_only rfl (by simp)
  case filter =>
    intro ty hi htype hheld hon en dem disc
    have hdue : FilterDue i held s := ⟨hi, htype, hheld, hon⟩
    refine ⟨fun hstate hen hcons => ?_, fun hstate hcons => ?_, fun hstate hdem hcons => ?_, fun hstate hdem => ?_, fun hstate hcons => ?_⟩
    · exact (exec_safeInputFilterExpiry_of_demand hdue hstate).trans
        (congrArg Host.Outcome.next (if_pos (Bool.and_eq_true_iff.mpr ⟨hen, hcons⟩)))
    · rw [exec_safeInputFilterExpiry_of_demand hdue hstate, hcons, Bool.and_false]
      rfl
    · rw [exec_safeInputFilterExpiry_of_enable hdue hstate, hcons]
      exact congrArg Host.Outcome.next (if_pos hdem)
    · exact (exec_safeInputFilterExpiry_of_enable hdue hstate).trans
        (congrArg Host.Outcome.next (if_neg (Bool.eq_false_iff.mp hdem)))
    · exact (exec_safeInputFilterExpiry_of_discrepancy hdue hstate).trans (congrArg Host.Outcome.next (if_pos hcons))
  case discrepancy => exact guarded_only rfl (by simp [and_assoc])
  case disagree => exact guarded_only rfl (by simp [and_assoc])
  case encoderClear => exact guarded_only rfl (by simp [and_assoc])
  case evaluation => exact guarded_only rfl (by simp [and_assoc])
  case channels => exact guarded_only rfl (by simp [and_assoc])
  case external => exact guarded_only rfl (by simp [and_assoc])
  case overload => exact guarded_only rfl (by simp [and_assoc])

end Sys2Proof.Machine
end

section
/-! PROOFS of the family of spec/09_digital_io_and_io_link.md, second part: the IO-Link ports (R299 to R305). -/

namespace Sys2Proof.Machine

/-! ### The record of a port -/

@[simp] theorem iol_updIol_same (n : Nat) (f : Iol → Iol) (s : State) : (updIol n f s).iol n = f (s.iol n) := by
  simp [updIol, State.iol, Tab.upd]

@[simp] theorem iol_wrN (k v n : Nat) (s : State) : (wrN k v s).iol n = s.iol n := rfl

@[simp] theorem iol_inc (k cap n : Nat) (s : State) : (inc k cap s).iol n = s.iol n := rfl

section
variable {s : State} {n : Nat}

/-! ### Wake-up (R301) -/

/-- The record of a port after an attempt of its wake-up sequence. -/
def Iol.attempted (x : Iol) (now : Nat) (low follow : Bool) : Iol :=
  { x with attempts := x.attempts + 1, lastAttempt := now, low := x.low && low, follow := x.follow && follow }

/-- R301: the first attempt waits for no other, and leaves two more where it is not answered. -/
theorem exec_iolWakeupAttempt_of_first {com : Nat} {low follow : Bool} (hn : n < 32) (hstate : s.rdN (K.iolState n) = Iols.startup)
    (hcom : s.rdN (K.iolCom n) = 0) (hfirst : (s.iol n).attempts = 0) :
    let u := updIol n (fun x => x.attempted s.now low follow) s
    exec (.iolWakeupAttempt n com low follow) s = .next (if 1 ≤ com ∧ com ≤ 3 then wrN (K.iolCom n) com u else u) := by
  refine (exec_of_only rfl (by simp [hn, hstate, hcom, hfirst])).trans ?_
  simp [hfirst, Iol.attempted]

/-! ### The device's answer (R300) -/

/-- R300: a device's answer is compared with the configuration as it stood: first its identity, then its process data lengths, then its
cycle time. -/
theorem exec_iolDeviceAnswer_of_startup (vendor dev inl outl minc : Nat) (hn : n < 32) (hstate : s.rdN (K.iolState n) = Iols.startup)
    (hcom : s.rdN (K.iolCom n) ≠ 0) :
    let u := wrN (K.iolDevVendor n) (vendor % 65536) (wrN (K.iolDevId n) (dev % 2 ^ 24) s)
    let cyc := s.rdN (K.iolCycle n)
    exec (.iolDeviceAnswer n vendor dev inl outl minc) s = .next (
      if s.rdN (K.iolMode n) = 2 ∧ ¬(vendor = s.rdN (K.iolVendorId n) ∧ dev = s.rdN (K.iolDeviceId n)) then iolFault n 3 u
      else if ¬(inl = s.rdN (K.iolInLen n) ∧ outl = s.rdN (K.iolOutLen n)) then iolFault n 4 u
      else if cyc ≠ 0 ∧ cyc < minc then iolFault n 8 u
      else iolTo n Iols.preoperate (wrN (K.iolActCycle n) (if cyc = 0 then minc % 65536 else cyc) u)) := by
  refine (exec_of_only rfl (by simp [hn, hstate, hcom])).trans ?_
  simp (disch := (simp only [K.iolMode, K.iolVendorId, K.iolDeviceId, K.iolCycle, K.iolInLen, K.iolOutLen, K.iolDevVendor, K.iolDevId]
                  omega)) only
    [rdN_wrN_ne, not_and_or, ne_eq]

/-! ### Cycles (R302) -/

/-- R302: a cycle that completes in OPERATE brings the device's input process data. -/
theorem exec_iolCycleComplete_of_answer (invalid : Bool) (data : Bytes) (hn : n < 32) (hstate : s.rdN (K.iolState n) = Iols.operate) :
    exec (.iolCycleComplete n true invalid data) s = .next (updIol n (fun x => { x with
      cycles := (x.cycles + 1) % 2 ^ 32, fresh := true, fails := 0, pdValid := !invalid, pdIn := padTo (s.rdN (K.iolInLen n)) data }) s) :=
  congrArg Host.Outcome.next (if_pos ⟨hn, hstate⟩)

/-- R300, R302: a cycle that fails in OPERATE, and is not the third in succession, is counted and no more. -/
theorem exec_iolCycleComplete_of_failure (invalid : Bool) (data : Bytes) (hn : n < 32) (hstate : s.rdN (K.iolState n) = Iols.operate)
    (hfails : (s.iol n).fails < 2) :
    exec (.iolCycleComplete n false invalid data) s =
      .next (inc (K.iolErrors n) U32.max (updIol n (fun x => { x with fails := x.fails + 1 }) s)) := by
  refine congrArg Host.Outcome.next ((if_pos ⟨hn, hstate⟩).trans ?_)
  simp only [Bool.false_eq_true, if_false]
  refine if_pos ?_
  simp only [iol_inc, iol_updIol_same]
  omega

/-! ### ISDUs and device events (R304, R305) -/

/-- R304: an ISDU that fails carries the device's error, or that of the 5 s timeout. -/
theorem exec_iolIsduComplete_of_error {q : BufReq} (err : Nat) (data : Bytes) (hn : n < 32) (hreq : (s.iol n).isdu = some q) :
    exec (.iolIsduComplete n false err data) s =
      .next (isduClose n 2 (if s.past q.at_ (5 * sec) then le 2 0xFF01 else le 2 err) [] s) := by
  change execIolIsduComplete n false err data s = _
  rw [execIolIsduComplete, decide_eq_true hn, only_true, if_neg Bool.false_ne_true, hreq, Option.any_some]

/-- R305: an event that appears is raised for the port's owner. -/
theorem exec_iolDeviceEvent_of_appears (qual code : Nat) (hn : n < 32)
    (hstate : s.rdN (K.iolState n) = Iols.operate ∨ s.rdN (K.iolState n) = Iols.preoperate) :
    exec (.iolDeviceEvent n qual code true) s = .next (raiseOwned (Ev.iolDeviceEvent n) (le 1 n ++ le 1 qual ++ le 2 code)
      (s.rdN (K.iolOwner n)) (updIol n (fun x => { x with devEvent := true }) s)) :=
  (exec_of_only rfl (by simp [hn, hstate])).trans rfl

/-- R305: an event that disappears is not reported. -/
theorem exec_iolDeviceEvent_of_disappears (n qual code : Nat) (s : State) : exec (.iolDeviceEvent n qual code false) s = .next s := by
  change execIolDeviceEvent n qual code false s = _
  rw [execIolDeviceEvent, Bool.and_false, only_false]

end

/-- Settles O36: a write to MODE, and each event of a port as an effect under its condition; a device's answer by what it disagrees in. -/
theorem ioLinkPorts : Obligations.IoLinkPorts := by
  refine fun src n v com vendor dev inl outl minc ma held err qual code low follow invalid data s hn => ⟨?mode, ?wakeup, ?answer, ?confirm,
    ?cycle, ?overload, ?retry, ?isdu, fun q => exec_iolIsduComplete_of_error err data hn, ?event,
    exec_iolDeviceEvent_of_disappears n qual code s⟩
  case mode =>
    exact commanded_only rfl (decide_eq_true hn) (by simp only [iolModeEffect, Bool.not_eq_true', ← Bool.not_eq_true, ite_not])
  case wakeup =>
    refine fun hstate hcom hfirst => ⟨fun hlo hhi => ⟨_, exec_iolWakeupAttempt_of_first hn hstate hcom hfirst, ?_⟩,
      fun hnone => ⟨_, exec_iolWakeupAttempt_of_first hn hstate hcom hfirst, ?_⟩⟩
    · simp [hlo, hhi, Iol.attempted, hfirst]
    · simp [hnone, Iol.attempted, hfirst]
  case answer =>
    intro hstate hcom u cyc bad lengths
    have hexec := exec_iolDeviceAnswer_of_startup vendor dev inl outl minc hn hstate hcom
    refine ⟨fun hbad => ?_, fun hgood hlengths => ?_, fun hgood hlengths hcyc hslow => ?_, fun hgood hlengths hcyc => ?_⟩
    · exact hexec.trans (congrArg Host.Outcome.next (if_pos hbad))
    · rw [hexec, if_neg hgood, if_pos hlengths]
    · rw [hexec, if_neg hgood, if_neg (not_not.mpr hlengths), if_pos ⟨hcyc, hslow⟩]
    · have hfast : ¬(cyc ≠ 0 ∧ cyc < minc) := by omega
      rw [hexec, if_neg hgood, if_neg (not_not.mpr hlengths), if_neg hfast]
  case confirm => exact guarded_only rfl (by simp [hn])
  case cycle =>
    refine fun hstate => ⟨⟨_, exec_iolCycleComplete_of_answer invalid data hn hstate, iol_updIol_same ..⟩,
      fun hfails => ⟨_, exec_iolCycleComplete_of_failure invalid data hn hstate hfails, ?_, ?_, ?_⟩⟩
    · simp
    · simp
    · rw [rdN_inc_ne _ _ _ _ (by simp [K.iolState, K.iolErrors]), updIol_rdN, hstate]
  case overload => exact guarded_only rfl (by simp [hn, and_assoc])
  case retry => exact guarded_only rfl (by simp [hn])
  case isdu => exact exec_of_only rfl (decide_eq_true hn)
  case event =>
    refine fun hstate => ⟨_, exec_iolDeviceEvent_of_appears qual code hn hstate, ?_, pend_raiseWith ..⟩
    exact congrArg Iol.devEvent (iol_updIol_same ..)

end Sys2Proof.Machine
end

section
/-! PROOFS of the family of spec/10_converters_loops_and_hart.md, first part: the HART modems (R327 to R330). -/

namespace Sys2Proof.Machine

/-! ### The record of a modem -/

@[simp] theorem hart_updHart_same (m : Nat) (f : Hart → Hart) (s : State) : (updHart m f s).hart m = f (s.hart m) := by
  simp [updHart, State.hart, Tab.upd]

section
variable {s : State} {m : Nat}

/-! ### Requests (R327, R328, R330) -/

/-- R328: a modem in ACQUIRING sends command 0 in a short frame, and waits for its answer. -/
theorem exec_hartRequestSend_of_acquiring (hm : m < 48) (hstate : s.rdN (K.hartState m) = Hst.acquiring)
    (hidle : (s.hart m).waiting = false) (hjob : (s.hart m).job = 1) (hclear : s.rdN (K.hartFlags m) % 2 = 0)
    (hquiet : (s.hart m).quietUntil ≤ s.now) (hactive : s.activeLike = true) :
    exec (.hartRequestSend m) s =
      .next (updHart m (fun h => { h with job := 1, waiting := true, sentAt := s.now })
        (send (Wire.hart m) (s.hartFrame m 0 false []) s)) := by
  refine (exec_of_only rfl (by simp [hm, hstate, hidle, hjob, hclear, hquiet, hactive])).trans ?_
  simp [hjob]

/-- R327: a modem that waits for an answer sends nothing. -/
theorem exec_hartRequestSend_of_waiting (hwaiting : (s.hart m).waiting = true) : exec (.hartRequestSend m) s = .next s := by
  change execHartRequestSend m s = _
  simp [execHartRequestSend, hwaiting]

/-- R330: a request in the queue is closed 5 s after it was queued, and not before. -/
theorem exec_hartQueueTimeout_of_queued {q : BufReq} (hm : m < 48) (hidle : (s.hart m).waiting = false) (hreq : (s.hart m).req = some q) :
    exec (.hartQueueTimeout m) s = .next (only (s.past q.at_ (5 * sec)) (fun s => closeBuf q 2 (le 2 0xFF02) [] (updHart m (fun h =>
      { h with req := none, job := if h.job = 3 then 0 else h.job, tries := 0 }) s)) s) := by
  change execHartQueueTimeout m s = _
  simp [execHartQueueTimeout, hm, hidle, hreq]

/-! ### Frames received (R327, R329) -/

/-- R327: the length of a frame's address. -/
def hartAddrLen (f : Bytes) : Nat := if bitOf (byteAt f 0) 7 then 5 else 1

/-- R327: what a frame carries between its byte count and its checksum. -/
def hartBody (f : Bytes) : Bytes := (f.drop (3 + hartAddrLen f)).take (f.length - 4 - hartAddrLen f)

/-- R327: a frame's byte count and checksum are right. -/
def hartSound (f : Bytes) : Bool :=
  4 + hartAddrLen f ≤ f.length && byteAt f (2 + hartAddrLen f) = (hartBody f).length &&
    hartSum (f.take (f.length - 1)) = f.getD (f.length - 1) 0

theorem hartSound_iff {f : Bytes} : hartSound f = true ↔ 4 + hartAddrLen f ≤ f.length ∧
    byteAt f (2 + hartAddrLen f) = (hartBody f).length ∧ hartSum (f.take (f.length - 1)) = f.getD (f.length - 1) 0 := by
  simp [hartSound, and_assoc]

/-- R327, R330: a frame with `preamble` bytes in front reaches a modem that is on and sees no noise. -/
structure HartHears (m preamble : Nat) (s : State) : Prop where
  modem : m < 48
  on : s.rdN (K.hartState m) ≠ Hst.disabled
  preamble : 2 ≤ preamble
  clear : s.rdN (K.hartFlags m) % 2 = 0

variable {preamble : Nat}

/-- The condition of the command is `HartHears`. -/
theorem HartHears.holds (h : HartHears m preamble s) : (decide (m < 48) && decide (s.rdN (K.hartState m) ≠ Hst.disabled) &&
    decide (2 ≤ preamble) && decide (s.rdN (K.hartFlags m) % 2 = 0)) = true := by
  simp [h.modem, h.on, h.preamble, h.clear]

/-- R327: a parity or framing error is counted, and while the modem waits for no answer that is all. -/
theorem exec_hartFrameReceive_of_parityError (f : Bytes) (h : HartHears m preamble s) (hidle : (s.hart m).waiting = false) :
    exec (.hartFrameReceive m preamble f true) s = .next (inc (K.hartParityErrors m) U32.max s) := by
  refine (exec_of_only rfl h.holds).trans ?_
  simp [hidle]

/-- R327: a frame with a wrong byte count or checksum is counted, and while the modem waits for no answer that is all. -/
theorem exec_hartFrameReceive_of_not_sound {f : Bytes} (h : HartHears m preamble s) (hsound : hartSound f = false)
    (hidle : (s.hart m).waiting = false) :
    exec (.hartFrameReceive m preamble f false) s = .next (inc (K.hartChecksumErrors m) U32.max s) := by
  have hbad : (false || !hartSound f) = true := by simp [hsound]
  refine (exec_of_only rfl h.holds).trans (congrArg Host.Outcome.next ?_)
  refine (if_pos hbad).trans ?_
  simp [hidle]

/-- R327, R329: the answer to a SYS 11 request is counted, and closes the request. -/
theorem exec_hartFrameReceive_of_answer {f : Bytes} {q : BufReq} (h : HartHears m preamble s) (hsound : hartSound f = true)
    (hkind : byteAt f 0 % 8 = 6) (hwaiting : (s.hart m).waiting = true) (hjob : (s.hart m).job = 3) (hreq : (s.hart m).req = some q) :
    let u := updHart m (fun h =>
      { h with waiting := false, tries := 0, exhausted := 0, job := 0, quietUntil := s.now + hartTime 8 }) (inc (K.hartFramesOk m) U32.max s)
    exec (.hartFrameReceive m preamble f false) s =
      .next (closeBuf q 1 ((hartBody f).take 2) ((hartBody f).drop 2) (updHart m (fun h => { h with req := none }) u)) := by
  have hgood : ¬(false || !hartSound f) = true := by simp [hsound]
  refine (exec_of_only rfl h.holds).trans (congrArg Host.Outcome.next ?_)
  refine (if_neg hgood).trans ((if_pos ⟨hkind, hwaiting⟩).trans ?_)
  simp only [hjob, hreq]
  rfl

end

/-- Settles O37: a write to ENABLE, a request and a frame by the state of the modem that sends or hears it, and every other event as an effect
under its condition. -/
theorem hartModems : Obligations.HartModems := by
  refine fun src m v preamble cause f s hm => ⟨?enable, ?send, exec_hartRequestSend_of_waiting, ?frame, ?response, ?auto, ?noise, ?clear,
    ?queue, ?retry⟩
  case enable => exact commanded_only rfl (decide_eq_true hm) rfl
  case send =>
    intro hstate hidle hjob hclear hquiet hactive
    refine ⟨_, exec_hartRequestSend_of_acquiring hm hstate hidle hjob hclear hquiet hactive, ?_, ?_⟩
    · exact wire_send_same ..
    · simp
  case frame =>
    intro hon hpreamble hclear
    have hears : HartHears m preamble s := ⟨hm, hon, hpreamble, hclear⟩
    exact ⟨fun hidle => ⟨_, exec_hartFrameReceive_of_parityError f hears hidle, rdN_inc_same .., inc_mem ..⟩,
      fun hsound hidle => exec_hartFrameReceive_of_not_sound hears (Bool.eq_false_iff.mpr (mt hartSound_iff.mp hsound)) hidle,
      fun q hsound hkind hwaiting hjob hreq => exec_hartFrameReceive_of_answer hears (hartSound_iff.mpr hsound) hkind hwaiting hjob hreq⟩
  case response => exact guarded_only rfl (by simp [hm])
  case auto => exact guarded_only rfl (by simp [hm, and_assoc])
  case noise => exact guarded_only rfl (by simp [hm])
  case clear => exact guarded_only rfl (by simp [hm])
  case queue =>
    refine fun q hidle hreq => ⟨fun hpast => ?_, fun hfresh => ?_⟩
    · rw [exec_hartQueueTimeout_of_queued hm hidle hreq, hpast, only_true]
    · rw [exec_hartQueueTimeout_of_queued hm hidle hreq, hfresh, only_false]
  case retry => exact guarded_only rfl (by simp [hm])

end Sys2Proof.Machine
end

section
/-! PROOFS of the family of spec/10_converters_loops_and_hart.md, second part: the converters (R309 to R313) and the analog inputs and
outputs (R316 to R324). -/

namespace Sys2Proof.Machine

/-! ### The record and the status of a converter -/

@[simp] theorem adc_updAdc_same (a : Nat) (f : Adc → Adc) (s : State) : (updAdc a f s).adc a = f (s.adc a) := by
  simp [updAdc, State.adc, Tab.upd]

@[simp] theorem adc_wrN (k v a : Nat) (s : State) : (wrN k v s).adc a = s.adc a := rfl

/-- A bit of STATUS after another is written. -/
theorem bitOf_adcStatus_adcBit_ne {i j : Nat} (a : Nat) (b : Bool) (s : State) (h : j ≠ i) :
    bitOf ((adcBit a i b s).rdN (K.adcStatus a)) j = bitOf (s.rdN (K.adcStatus a)) j := by
  rw [adcBit, rdN_wrN_same, bitOf_setBit, if_neg h]

/-! ### Conversions (R310) -/

section
variable {s : State} {a ch code : Nat}

/-- R310: a conversion that ends 2 µs or more after REF_SETTLED was set started after it. -/
theorem unsettled_eq_false (hsettled : adcSettled (s.rdN (K.adcStatus a)) = true) (hpast : s.past (s.adc a).settledAt (2 * us) = true) :
    s.unsettled a = false := by
  simp [State.unsettled, hsettled, hpast]

/-- R310: a conversion of a channel without an analog input leaves its result word, and is counted. -/
theorem exec_adcConversionComplete_of_next (ha : a < 4) (hlo : 8 ≤ ch) (hhi : ch ≤ 12) (hcode : code < 65536)
    (hnext : (s.adc a).left.head? = some ch) (hsettled : adcSettled (s.rdN (K.adcStatus a)) = true)
    (hpast : s.past (s.adc a).settledAt (2 * us) = true) :
    let q := updAdc a (fun x => { x with left := x.left.tail }) s
    let u := adcBit a 1 ((q.adc a).left ≠ []) q
    let w := wrN (K.adcResult a ch) ((if code = 0 ∨ code = 65535 then 2 ^ 30 else 0) + ch * 65536 + code) u
    exec (.adcConversionComplete a ch code false) s =
      .next (wrN (K.adcConversions a) ((w.rdN (K.adcConversions a) + 1) % 2 ^ 64) w) := by
  intro q u w
  have hu : u.unsettled a = false := by
    refine unsettled_eq_false ?_ ?_
    · exact (bitOf_adcStatus_adcBit_ne a _ q (by decide)).trans hsettled
    · simpa [u, q, adcBit, State.past] using hpast
  have hword : adcWord a ch code u = w := by
    by_cases hend : code = 0 ∨ code = 65535 <;> simp [adcWord, hu, hend, b2n, w]
  refine (exec_of_only rfl (by simp [ha, hhi, hcode])).trans (congrArg Host.Outcome.next ?_)
  refine (if_neg Bool.false_ne_true).trans ?_
  rw [decide_eq_true hnext, only_true, if_neg (by omega), ← hword]

/-- R312: the conversion of the self-test that is pending leaves its result word, and is judged. -/
theorem exec_adcConversionComplete_of_selftest (ha : a < 4) (hhi : ch ≤ 12) (hcode : code < 65536) (hpending : (s.adc a).stPending = true)
    (hnext : ch = (s.adc a).stNext) (hsettled : adcSettled (s.rdN (K.adcStatus a)) = true) :
    exec (.adcConversionComplete a ch code true) s = .next (selftest a ch code (adcWord a ch code s)) := by
  refine (exec_of_only rfl (by simp [ha, hhi, hcode])).trans ?_
  simp [hpending, hnext, hsettled]

end

/-! ### The loop converter (R313) -/

/-- R313: the loop converter's status and result words after a run of its sequence. -/
def adc4Words (codes : List Nat) (pass : Bool) (s : State) : State :=
  let u := adcBit 4 0 true s
  let x := if pass then adcBit 4 3 false u
    else if bitOf (u.rdN (K.adcStatus 4)) 3 then u
    else inc (K.adcSelftestFails 4) U32.max (raiseAdc 4 11 0 (adcBit 4 3 true u))
  let y := each (List.range 32) (fun j t => wrN (0x430410 + j) (j * 65536 + codes.getD j 0) t) x
  wrN (K.adcConversions 4) ((y.rdN (K.adcConversions 4) + 32) % 2 ^ 64) y

/-- R313: the values that a run of the loop converter's sequence reads back: the currents of the outputs, and the field supplies. -/
def adc4Readback (codes : List Nat) (s : State) : State :=
  each (List.range 9) (fun g t => wrN (kSupVoltage g) (Config.supplyMv (codes.getD (16 + g) 0)).toNat t)
    (each (List.range 16) (fun j t => stageAo j (wrN (K.aoReadbackMa j) (Config.readbackMa (codes.getD j 0)).toNat t)) s)

/-- R313: a run of the sequence leaves its words, and is read back where the self-test has not failed. -/
theorem exec_adc4Sequence_of_codes {codes : List Nat} (pass : Bool) (s : State) (hlength : codes.length = 32)
    (hcodes : codes.all (· < 4096) = true) :
    exec (.adc4Sequence codes pass) s =
      .next (only (!bitOf ((adc4Words codes pass s).rdN (K.adcStatus 4)) 3) (adc4Readback codes) (adc4Words codes pass s)) :=
  (exec_of_only rfl (by simp [hlength, hcodes])).trans rfl

/-! ### Analog inputs (R316) -/

/-- A filter that admits one number alone of those below a bound. -/
theorem filter_range_eq_singleton {n i : Nat} {p : Nat → Bool} (hi : i < n) (hp : ∀ k < n, p k = true ↔ k = i) :
    (List.range n).filter p = [i] := by
  have hfilter : (List.range n).filter p = (List.range n).filter (· = i) :=
    List.filter_congr fun k hk => by simp [← hp k (List.mem_range.mp hk)]
  rw [hfilter, List.filter_eq, List.count_eq_one_of_mem List.nodup_range (List.mem_range.mpr hi), List.replicate_one]

section
variable {s : State}

/-- R316: with no analog input in use, the tick changes nothing. -/
theorem exec_aiTick_of_unused (limited : List Nat) (hunused : ∀ i < 32, s.rdN (K.aiMode i) = 0) :
    exec (.aiTick limited) s = .next s := by
  have hnone : (List.range 32).filter (fun i => s.rdN (K.aiMode i) ≠ 0) = [] := by simpa using hunused
  change execAiTick limited s = _
  rw [execAiTick, hnone, each_nil]

/-- R316: the tick of the one analog input in use, with no supply of its own, that is not stale. -/
theorem exec_aiTick_of_one {i : Nat} (limited : List Nat) (hi : i < 32) (hmode : s.rdN (K.aiMode i) = 1)
    (hothers : ∀ k < 32, k ≠ i → s.rdN (K.aiMode k) = 0) (hfresh : bitOf (s.rdN (K.aiFlags i)) 1 = false) :
    exec (.aiTick limited) s = .next (aiTick i (aiFlag i 3 false s)) := by
  have hone : (List.range 32).filter (fun i => s.rdN (K.aiMode i) ≠ 0) = [i] := by
    refine filter_range_eq_singleton hi fun k hk => ?_
    rw [decide_eq_true_eq]
    refine ⟨fun hused => by_contra fun hne => hused (hothers k hk hne), ?_⟩
    rintro rfl
    simp [hmode]
  have hflag : bitOf ((aiFlag i 3 false s).rdN (K.aiFlags i)) 1 = false := by
    rw [aiFlag, rdN_wrN_same, bitOf_setBit, if_neg (by decide), hfresh]
  change execAiTick limited s = _
  rw [execAiTick, hone, each_cons, each_nil]
  simp [hmode, hflag]

end

/-! ### Analog outputs (R324) -/

section
variable {s : State} {j : Nat}

/-- R324: a source at its voltage limit with a low readback is an open loop once it has been so for 10 ms. -/
theorem exec_aoOpenLoop_of_low (held : Nat) (hj : j < 16) (hopen : s.aoOpen j = false) (hadc : bitOf (s.rdN (K.adcStatus 4)) 3 = false)
    (hlow : f32.lt (frat 1 2) (fsub (s.rdN (K.aoOutMa j)) (s.rdN (K.aoReadbackMa j))) = true) :
    exec (.aoOpenLoop j held) s = .next (if 10000 ≤ held then aoFaultSet j 0 s else s) := by
  refine (exec_of_only rfl (by simp [hj, hopen, hadc])).trans (congrArg Host.Outcome.next ?_)
  exact (if_pos hlow).trans (only_decide ..)

/-- R324: at 150 °C the source faults, and is driven anew at once. -/
theorem exec_aoOvertemp_of_hot {temp : Int} (hj : j < 16) (htemp : 1500 ≤ temp) :
    exec (.aoOvertemp j temp) s = .next (aoTick j (aoFaultSet j 2 s)) := by
  refine (exec_of_only rfl (decide_eq_true hj)).trans (congrArg Host.Outcome.next ?_)
  exact if_pos htemp

/-- R324: between 135 °C and 150 °C an output stays as it is. -/
theorem exec_aoOvertemp_of_between {temp : Int} (hj : j < 16) (hlo : 1350 ≤ temp) (hhi : temp < 1500) :
    exec (.aoOvertemp j temp) s = .next s := by
  refine (exec_of_only rfl (decide_eq_true hj)).trans ?_
  simp [hlo.not_gt, hhi.not_ge]

end

/-- Settles O38: a conversion by what it converts, the loop converter's sequence by the verdict of its self-test, the tick of the analog inputs
by which are in use, START and ACK as writes of 1, and every other event as an effect under its condition. -/
theorem analogChannels : Obligations.AnalogChannels := by
  refine ⟨fun src a v ch code codes pass s => ⟨?timer, ?start, exec_adcConversionComplete_of_next,
      exec_adcConversionComplete_of_selftest, ?due, ?refSettled, ?refFault, ?sequence⟩,
    fun src i j held v limited temp s => ⟨rfl, exec_aiTick_of_unused limited, exec_aiTick_of_one limited, ?stale, exec_aoOpenLoop_of_low held,
      ?readback, ?noSource, exec_aoOvertemp_of_hot, exec_aoOvertemp_of_between, ?ack⟩⟩
  case timer => exact guarded_only rfl (by simp [and_assoc])
  case start => exact fun ha => commanded1_command1 (exec_of_only rfl (decide_eq_true ha)) (by simp only [adcStartEffect, accept, only_decide])
  case due => exact guarded_only rfl (by simp)
  case refSettled => exact guarded_only rfl (by simp [and_assoc])
  case refFault => exact guarded_only rfl (by simp [and_assoc])
  case sequence =>
    intro hlength hcodes
    have hexec := exec_adc4Sequence_of_codes pass s hlength hcodes
    refine ⟨fun hfailed => ?_, fun hpassed => ?_⟩
    · rwa [show bitOf ((adc4Words codes pass s).rdN (K.adcStatus 4)) 3 = true from hfailed, Bool.not_true, only_false] at hexec
    · rwa [show bitOf ((adc4Words codes pass s).rdN (K.adcStatus 4)) 3 = false from hpassed, Bool.not_false, only_true] at hexec
  case stale => exact guarded_only rfl (by simp [and_assoc])
  case readback => exact guarded_only rfl (by simp [and_assoc])
  case noSource => exact guarded_only rfl (by simp [and_assoc])
  case ack => exact fun hj => commanded1_command1 (exec_of_only rfl (decide_eq_true hj)) rfl

end Sys2Proof.Machine
end

section
/-! PROOFS of the invariants of every step (CanonicalKept, QueueAndTimeKept), first part: what a command keeps, and one rule for each way
in which the model builds a state. -/

namespace Sys2Proof.Machine

/-- From `s₀` to `s` the queue and the time stand as they are, and the canonical form of memory and dictionary is kept. -/
structure Kept (s₀ s : State) : Prop where
  pending : s.pending = s₀.pending
  now : s.now = s₀.now
  canonical : Canonical s₀ → Canonical s

/-- As `Kept`, for an effect that answers a value and a state. -/
structure KeptPair {α : Type} (s₀ : State) (r : α × State) : Prop where
  intro ::
  snd : Kept s₀ r.2

/-- As `Kept`, for an effect that answers two values and a state. -/
structure KeptTriple {α β : Type} (s₀ : State) (r : α × β × State) : Prop where
  intro ::
  third : Kept s₀ r.2.2

/-- As `Kept`, for what a command answers. -/
structure KeptOut (s₀ : State) (o : Out) : Prop where
  kept : ∀ {t}, o = .next t → Kept s₀ t

/-- What an option holds, if it holds anything, satisfies `P`. -/
structure KeptOpt {α : Type} (P : α → Prop) (o : Option α) : Prop where
  holds : ∀ {x}, o = some x → P x

/-- The state in which an Arbour action ends, whether it answers or halts. -/
def endState {α : Type} : EStateM.Result Halt State α → State
  | .ok _ t => t
  | .error _ t => t

/-- As `Kept`, for the state in which an Arbour action ends that begins in `s`. -/
structure KeptBy {α : Type} (s₀ : State) (m : Arb α) (s : State) : Prop where
  ends : Kept s₀ (endState (m s))

section
variable {s₀ s t : State}

theorem Kept.refl (s : State) : Kept s s := ⟨rfl, rfl, id⟩

/-- A change of the canonical parts that keeps their form. -/
theorem Kept.canonicalStep (h : Kept s₀ s) (hpending : t.pending = s.pending) (hnow : t.now = s.now) (hwf : Canonical s → Canonical t) :
    Kept s₀ t :=
  ⟨hpending.trans h.pending, hnow.trans h.now, hwf ∘ h.canonical⟩

/-- A change of other fields. -/
theorem Kept.same (h : Kept s₀ s)
    (hfields : (t.pending, t.now, t.mem, t.dict, t.blob) = (s.pending, s.now, s.mem, s.dict, s.blob) := by rfl) : Kept s₀ t := by
  simp only [Prod.mk.injEq] at hfields
  obtain ⟨hpending, hnow, hmem, hdict, hblob⟩ := hfields
  exact h.canonicalStep hpending hnow fun hwf => by simpa only [Canonical, hmem, hdict, hblob] using hwf

/-- Some entries and some cells stand, the others return to their defaults. -/
theorem Kept.keepsSome (h : Kept s₀ s) (hpending : t.pending = s.pending) (hnow : t.now = s.now)
    (cells : Host.Cell → Bool) (hmem : t.mem = s.mem.filter cells) (entries : Nat × Int → Bool) (hdict : t.dict = s.dict.filter entries)
    (blobs : Nat × Bytes → Bool) (hblob : t.blob = s.blob.filter blobs) : Kept s₀ t := by
  refine h.canonicalStep hpending hnow fun ⟨hmemWf, hdictWf, hblobWf⟩ => ⟨?_, ?_, ?_⟩
  · exact hmem ▸ Memory.filter_wf _ _ hmemWf
  · exact hdict ▸ Tab.filter_wf _ _ _ hdictWf
  · exact hblob ▸ Tab.filter_wf _ _ _ hblobWf

/-- Some entries of the dictionary stand, the others return to their defaults. -/
theorem Kept.keepsEntries (h : Kept s₀ s) (hpending : t.pending = s.pending) (hnow : t.now = s.now) (hmem : t.mem = s.mem)
    (entries : Nat × Int → Bool) (hdict : t.dict = s.dict.filter entries) (blobs : Nat × Bytes → Bool)
    (hblob : t.blob = s.blob.filter blobs) : Kept s₀ t :=
  h.keepsSome hpending hnow (fun _ => true) (by rw [hmem, List.filter_true]) entries hdict blobs hblob

/-- Some cells of memory stand, the others are cleared. -/
theorem Kept.keepsCells (h : Kept s₀ s) (hpending : t.pending = s.pending) (hnow : t.now = s.now) (cells : Host.Cell → Bool)
    (hmem : t.mem = s.mem.filter cells) (hdict : t.dict = s.dict) (hblob : t.blob = s.blob) : Kept s₀ t :=
  h.keepsSome hpending hnow cells hmem (fun _ => true) (by rw [hdict, List.filter_true]) (fun _ => true) (by rw [hblob, List.filter_true])

/-! ### Fields of other units -/

theorem withLanes_kept {v : Sparse Lane} (h : Kept s₀ s) : Kept s₀ { s with lanes := v } := .same h
theorem withJournal_kept {v : List Nat} (h : Kept s₀ s) : Kept s₀ { s with journal := v } := .same h
theorem withSessions_kept {v : Sparse Session} (h : Kept s₀ s) : Kept s₀ { s with sessions := v } := .same h
theorem withSdo_kept {v : Sparse Sdo} (h : Kept s₀ s) : Kept s₀ { s with sdo := v } := .same h
theorem withDirty_kept {v : Sparse Bool} (h : Kept s₀ s) : Kept s₀ { s with dirty := v } := .same h
theorem withDictReady_kept {v : Bool} (h : Kept s₀ s) : Kept s₀ { s with dictReady := v } := .same h
theorem withFld_kept {v : Field} (h : Kept s₀ s) : Kept s₀ { s with fld := v } := .same h

/-! ### Branches, and states that are used twice -/

theorem Kept.ite {c : Prop} {_ : Decidable c} (hs : Kept s₀ s) (ht : Kept s₀ t) : Kept s₀ (if c then s else t) := by
  split <;> assumption

/-- What is kept by a state that several branches begin with is proved once. -/
theorem Kept.share {P : Prop} (rest : Kept s₀ s → P) (h : Kept s₀ s) : P := rest h

theorem KeptPair.mk {α : Type} {x : α} (h : Kept s₀ s) : KeptPair s₀ (x, s) := ⟨h⟩

theorem KeptTriple.mk {α β : Type} {x : α} {y : β} (h : Kept s₀ s) : KeptTriple s₀ (x, y, s) := ⟨h⟩

theorem KeptTriple.ite {α β : Type} {c : Prop} {_ : Decidable c} {x y : α × β × State} (hx : KeptTriple s₀ x) (hy : KeptTriple s₀ y) :
    KeptTriple s₀ (if c then x else y) := by
  split <;> assumption

theorem KeptPair.ite {α : Type} {c : Prop} {_ : Decidable c} {x y : α × State} (hx : KeptPair s₀ x) (hy : KeptPair s₀ y) :
    KeptPair s₀ (if c then x else y) := by
  split <;> assumption

theorem KeptOut.ite {c : Prop} {_ : Decidable c} {x y : Out} (hx : KeptOut s₀ x) (hy : KeptOut s₀ y) :
    KeptOut s₀ (if c then x else y) := by
  split <;> assumption

theorem KeptOut.next (h : Kept s₀ s) : KeptOut s₀ (.next s) := ⟨fun heq => Host.Outcome.next.inj heq ▸ h⟩

theorem KeptOut.fault {r : Fault} : KeptOut s₀ (.fault r) := ⟨fun heq => nomatch heq⟩

theorem KeptOpt.ite {α : Type} {P : α → Prop} {c : Prop} {_ : Decidable c} {x y : Option α} (hx : KeptOpt P x) (hy : KeptOpt P y) :
    KeptOpt P (if c then x else y) := by
  split <;> assumption

theorem KeptOpt.some {α : Type} {P : α → Prop} {x : α} (h : P x) : KeptOpt P (some x) := ⟨fun heq => Option.some.inj heq ▸ h⟩

theorem KeptOpt.none {α : Type} {P : α → Prop} : KeptOpt P (none : Option α) := ⟨fun heq => nomatch heq⟩

/-! ### Arbour actions -/

variable {α β : Type} {m : Arb α}

theorem KeptBy.ite {c : Prop} {_ : Decidable c} {x y : Arb α} (hx : KeptBy s₀ x s) (hy : KeptBy s₀ y s) :
    KeptBy s₀ (if c then x else y) s := by
  split <;> assumption

theorem KeptBy.pure {x : α} (h : Kept s₀ s) : KeptBy s₀ (pure x : Arb α) s := ⟨h⟩

theorem KeptBy.throw {e : Halt} (h : Kept s₀ s) : KeptBy s₀ (throw e : Arb α) s := ⟨h⟩

theorem KeptBy.set (h : Kept s₀ t) : KeptBy s₀ (set t : Arb PUnit) s := ⟨h⟩

theorem KeptBy.modify {f : State → State} (h : Kept s₀ (f s)) : KeptBy s₀ (modify f : Arb PUnit) s := ⟨h⟩

theorem KeptBy.bind {f : α → Arb β} (hm : KeptBy s₀ m s) (hf : ∀ {a s}, Kept s₀ s → KeptBy s₀ (f a) s) : KeptBy s₀ (m >>= f) s := by
  obtain ⟨hends⟩ := hm
  constructor
  simp only [Bind.bind, EStateM.bind]
  revert hends
  cases m s with
  | ok a t => exact fun hends => (hf hends).ends
  | error e t => exact id

/-- An action that begins by reading the state. -/
theorem KeptBy.get {f : State → Arb α} (hf : KeptBy s₀ (f s) s) : KeptBy s₀ (get >>= f) s := ⟨hf.ends⟩

end

end Sys2Proof.Machine
end

section
/-! PROOFS of the invariants of every step, second part: one rule for each function of the model that answers a state, in the order of the
model's files. -/

namespace Sys2Proof.Machine

-- The rules are many and quick: one after another they take fewer threads than side by side.
set_option Elab.async false

section
variable {s₀ s old : State} {i j k l m n o p q r : Nat} {b b' b'' : Bytes} {t t' t'' t₃ t₄ : Bool} {g g' g'' : Int} {src : Path}

/-! ### Machine/Ops -/

theorem only_kept {f : State → State} (h : Kept s₀ s) (hf : ∀ {s}, Kept s₀ s → Kept s₀ (f s)) : Kept s₀ (only t f s) := .ite (hf h) h

theorem each_kept {α : Type} {l : List α} {f : α → State → State} (h : Kept s₀ s) (hf : ∀ {a s}, Kept s₀ s → Kept s₀ (f a s)) : Kept s₀ (each l f s) :=
  each_induct (Kept s₀) f l s (fun _ _ _ => hf) h

theorem wr_kept (h : Kept s₀ s) : Kept s₀ (wr i g s) := h.canonicalStep rfl rfl fun ⟨hmem, hdict, hblob⟩ => ⟨hmem, Tab.put_wf _ _ _ _ hdict, hblob⟩

theorem wrN_kept (h : Kept s₀ s) : Kept s₀ (wrN i j s) := wr_kept h

theorem wrB_kept (h : Kept s₀ s) : Kept s₀ (wrB i t s) := wrN_kept h

theorem inc_kept (h : Kept s₀ s) : Kept s₀ (inc i j s) := wrN_kept h

theorem wrBlob_kept (h : Kept s₀ s) : Kept s₀ (wrBlob i b s) :=
  h.canonicalStep rfl rfl fun ⟨hmem, hdict, hblob⟩ => ⟨hmem, hdict, Tab.put_wf _ _ _ _ hblob⟩

theorem reply_kept (h : Kept s₀ s) : Kept s₀ (reply i b s) := .same h

theorem send_kept (h : Kept s₀ s) : Kept s₀ (send i b s) := .same h

theorem drawn_kept (h : Kept s₀ s) : Kept s₀ (drawn s) := .same h

theorem markDirty_kept (h : Kept s₀ s) : Kept s₀ (markDirty i j k s) := .ite h (.same h)

theorem store_kept (h : Kept s₀ s) : Kept s₀ (store i j b s) :=
  markDirty_kept (h.canonicalStep rfl rfl fun ⟨hmem, hdict, hblob⟩ => ⟨Mem.putAll_wf _ _ _ _ hmem, hdict, hblob⟩)

theorem storeBit_kept (h : Kept s₀ s) : Kept s₀ (storeBit i j k t s) := store_kept h

theorem copyMem_kept (h : Kept s₀ s) : Kept s₀ (copyMem i j k l m s) :=
  markDirty_kept (h.canonicalStep rfl rfl fun ⟨hmem, hdict, hblob⟩ => ⟨Mem.copy_wf _ _ _ _ hmem, hdict, hblob⟩)

theorem clearMem_kept (h : Kept s₀ s) : Kept s₀ (clearMem i j k s) := markDirty_kept (h.keepsCells rfl rfl _ rfl rfl rfl)

theorem stage_kept (h : Kept s₀ s) : Kept s₀ (stage i b s) := store_kept h

theorem stagePoint_kept (h : Kept s₀ s) : Kept s₀ (stagePoint i t s) := only_kept h storeBit_kept

theorem stageArea_kept (h : Kept s₀ s) : Kept s₀ (stageArea i b s) := only_kept h stage_kept

theorem raiseWith_kept {sev : Option Nat} {owner : Option Nat} (h : Kept s₀ s) : Kept s₀ (raiseWith i b sev owner s) := .same h

theorem raise_kept (h : Kept s₀ s) : Kept s₀ (raise i b s) := raiseWith_kept h

theorem raiseSev_kept (h : Kept s₀ s) : Kept s₀ (raiseSev i b j s) := raiseWith_kept h

theorem raiseOwned_kept (h : Kept s₀ s) : Kept s₀ (raiseOwned i b j s) := raiseWith_kept h

theorem unlatch_kept (h : Kept s₀ s) : Kept s₀ (unlatch i s) := .same h

theorem updPav_kept {f' : Pav → Pav} (h : Kept s₀ s) : Kept s₀ (updPav i f' s) := .same h

theorem updTask_kept {f' : Task → Task} (h : Kept s₀ s) : Kept s₀ (updTask i j f' s) := .same h

theorem updLane_kept {f' : Lane → Lane} (h : Kept s₀ s) : Kept s₀ (updLane i f' s) := .same h

theorem setBank_kept {b : Bank} (h : Kept s₀ s) : Kept s₀ (setBank i j b s) := .same h

theorem updScan_kept {f' : Scan → Scan} (h : Kept s₀ s) : Kept s₀ (updScan f' s) := .same h

theorem updSession_kept {f' : Session → Session} (h : Kept s₀ s) : Kept s₀ (updSession i f' s) := .same h

theorem updTrestle_kept {f' : Trestle → Trestle} (h : Kept s₀ s) : Kept s₀ (updTrestle i f' s) := .same h

theorem updPl_kept {f' : PLane → PLane} (h : Kept s₀ s) : Kept s₀ (updPl i f' s) := .same h

theorem updRot_kept {f' : Rotation → Rotation} (h : Kept s₀ s) : Kept s₀ (updRot f' s) := .same h

/-! ### Machine/Image -/

theorem setStaStatus_kept (h : Kept s₀ s) : Kept s₀ (setStaStatus i j k l s) := wrBlob_kept h

/-! ### Machine/HistOps -/

theorem updHist_kept {f' : HistSt → HistSt} (h : Kept s₀ s) : Kept s₀ (updHist f' s) := .same h

theorem updTag_kept {f' : TagSt → TagSt} (h : Kept s₀ s) : Kept s₀ (updTag i f' s) := updHist_kept h

theorem updTot_kept {f' : TotSt → TotSt} (h : Kept s₀ s) : Kept s₀ (updTot i f' s) := updHist_kept h

theorem histCount_kept (h : Kept s₀ s) : Kept s₀ (histCount s) := wrN_kept (wrN_kept h)

theorem histDrain_kept (h : Kept s₀ s) : Kept s₀ (histDrain s) := .ite (wrN_kept (wrN_kept (wrN_kept (updHist_kept h)))) h

theorem histStore_kept (h : Kept s₀ s) : Kept s₀ (histStore i j b k s) :=
  Kept.share (fun h => .ite (updHist_kept h) (wrN_kept (wrN_kept (updHist_kept h)))) (updTag_kept h)

theorem tagClose_kept (h : Kept s₀ s) : Kept s₀ (tagClose i b s) := by
  dsimp only [tagClose]
  split
  · exact h
  · exact updTag_kept (histStore_kept h)

theorem analogSample_kept (h : Kept s₀ s) : Kept s₀ (analogSample i b j k l s) :=
  .ite (Kept.share (fun h => updTag_kept (.ite (histStore_kept h) h)) (.ite (tagClose_kept h) h)) <|
    .ite (updTag_kept (histStore_kept h)) (updTag_kept (.ite (tagClose_kept h) h))

theorem losslessSample_kept (h : Kept s₀ s) : Kept s₀ (losslessSample i b j b' k s) :=
  .ite (updTag_kept (histStore_kept h)) (updTag_kept h)

theorem endSegment_kept (h : Kept s₀ s) : Kept s₀ (endSegment i j s) := .ite (updTag_kept (.ite (tagClose_kept h) h)) h

theorem endSegments_kept (h : Kept s₀ s) : Kept s₀ (endSegments i s) := each_kept h endSegment_kept

theorem totClose_kept (h : Kept s₀ s) : Kept s₀ (totClose i j k l m n s) :=
  Kept.share (fun h => .ite h (raiseWith_kept h)) (updHist_kept (wrBlob_kept (inc_kept (updTot_kept h))))

theorem totSample_kept (h : Kept s₀ s) : Kept s₀ (totSample i b j t g s) :=
  wrN_kept (wrN_kept (updTot_kept (.ite (wrN_kept (wrN_kept (wrN_kept h))) <|
    .ite (wrN_kept (wrN_kept (wrN_kept (totClose_kept h)))) <|
    .ite (wrN_kept (wrN_kept (wrN_kept (totClose_kept h)))) <|
    .ite (Kept.share (fun h => wrN_kept (wrN_kept (wrN_kept (.ite (totClose_kept h) h)))) (totClose_kept h)) h)))

theorem sampleTag_kept (h : Kept s₀ s) : Kept s₀ (sampleTag i s) :=
  each_kept
      (.ite (updHist_kept (wrN_kept h)) <|
      .ite (Kept.share (fun h => .ite (analogSample_kept h) (losslessSample_kept h)) (updTag_kept (wrN_kept h))) (wrN_kept h))
      totSample_kept

theorem histBoundary_kept (h : Kept s₀ s) : Kept s₀ (histBoundary i s) :=
  only_kept h (fun h => each_kept (only_kept h histDrain_kept) sampleTag_kept)

theorem histStep_kept (h : Kept s₀ s) : Kept s₀ (histStep t s) :=
  only_kept (endSegments_kept h) (fun h => each_kept h (fun h => .ite (updTot_kept h) h))

/-! ### Machine/Rights -/

theorem answerWrite_kept (h : Kept s₀ s) : Kept s₀ (answerWrite i b j s) := .ite (.same h) (reply_kept h)

theorem command_kept {f : State → Nat × State} (h : Kept s₀ s) (hf : ∀ {s}, Kept s₀ s → KeptPair s₀ (f s)) :
    Kept s₀ (command src i b f s) := by
  dsimp only [command]
  split
  · exact h
  · exact .ite (reply_kept h) <| .ite (.same h) (answerWrite_kept (hf h).snd)

theorem command1_kept {f : State → Nat × State} (h : Kept s₀ s) (hf : ∀ {s}, Kept s₀ s → KeptPair s₀ (f s)) :
    Kept s₀ (command1 src i j f s) :=
  command_kept h (fun h => .ite (hf h) (.mk h))

theorem refuse_kept (h : Kept s₀ s) : KeptPair s₀ (refuse i s) := .mk h

theorem accept_kept (h : Kept s₀ s) : KeptPair s₀ (accept s) := .mk h

/-! ### Machine/Persist -/

theorem putBytes_kept (h : Kept s₀ s) : Kept s₀ (putBytes i b s) := by
  dsimp only [putBytes]
  split
  · exact .ite (wrBlob_kept h) (wr_kept h)
  · exact h

theorem journalKey_kept (h : Kept s₀ s) : Kept s₀ (journalKey i s) := wrN_kept (.ite (.same h) h)

theorem copyEra_kept (h : Kept s₀ s) : Kept s₀ (copyEra i s) := .same h

theorem dictFull_kept (h : Kept s₀ s) : Kept s₀ (dictFull i s) := raise_kept (wrN_kept (raise_kept h))

theorem writeEntry_kept (h : Kept s₀ s) : KeptPair s₀ (writeEntry i b s) :=
  .ite (.mk (dictFull_kept h)) (.mk (journalKey_kept (putBytes_kept h)))

theorem setEntry_kept (h : Kept s₀ s) : Kept s₀ (setEntry i g s) := journalKey_kept (wr_kept h)

theorem setEntryN_kept (h : Kept s₀ s) : Kept s₀ (setEntryN i j s) := setEntry_kept h

theorem resetSection_kept (h : Kept s₀ s) : Kept s₀ (resetSection i j k s) :=
  raise_kept (inc_kept (wrN_kept (h.keepsEntries rfl rfl rfl _ rfl _ rfl)))

theorem writeThen_kept {f : State → State} (h : Kept s₀ s) (hf : ∀ {s}, Kept s₀ s → Kept s₀ (f s)) :
    KeptPair s₀ (writeThen i b t j f s) :=
  .ite (.mk h) <| .ite (.mk (hf (writeEntry_kept h).snd)) (writeEntry_kept h)

/-! ### Machine/RecOps -/

theorem updRec_kept {f' : RecSt → RecSt} (h : Kept s₀ s) : Kept s₀ (updRec f' s) := .same h

theorem takeSeq_kept (h : Kept s₀ s) : KeptPair s₀ (takeSeq s) := .mk (only_kept (wrN_kept h) updRec_kept)

theorem ringEdges_kept (h : Kept s₀ s) : Kept s₀ (ringEdges s) := by
  dsimp only [ringEdges]
  split <;> exact wrN_kept (wrN_kept (updRec_kept h))

theorem makeRoom_kept {lost : List RecEnt} (h : Kept s₀ s) : KeptPair s₀ (makeRoom i j k lost s) := by
  induction i generalizing lost s with
  | zero => exact .mk h
  | succ i ih =>
    unfold makeRoom
    split
    · exact .mk h
    · exact .ite (ih (updRec_kept h)) (.mk h)

theorem ringPut_kept {e : RecEnt} (h : Kept s₀ s) : KeptPair s₀ (ringPut e s) :=
  .mk (ringEdges_kept (wrN_kept (updRec_kept (store_kept (makeRoom_kept (KeptPair.ite (.mk h)
      (Kept.share (fun h => .mk (wrN_kept (.ite (store_kept (updRec_kept h)) (clearMem_kept h)))) (makeRoom_kept h).snd)).snd).snd))))

theorem archivePut_kept {e : RecEnt} (h : Kept s₀ s) : Kept s₀ (archivePut e s) :=
  wrN_kept (wrN_kept (wrN_kept (wrN_kept (updRec_kept h))))

theorem ringWrite_kept {e : RecEnt} (h : Kept s₀ s) : Kept s₀ (ringWrite e s) :=
  .ite (ringPut_kept h).snd (raise_kept (inc_kept (wrN_kept (ringPut_kept (drawn_kept (takeSeq_kept (ringPut_kept h).snd).snd)).snd)))

theorem recPut_kept {e : RecEnt} (h : Kept s₀ s) : Kept s₀ (recPut e s) :=
  .ite (ringWrite_kept h) <| .ite (wrN_kept (updRec_kept h)) (updRec_kept h)

theorem recMerge_kept (h : Kept s₀ s) : Kept s₀ (recMerge s) :=
  Kept.share (fun h => raise_kept (.ite h (inc_kept (ringWrite_kept (drawn_kept (takeSeq_kept h).snd)))))
      (each_kept (wrN_kept (wrN_kept (updRec_kept h))) ringWrite_kept)

theorem holderGone_kept (h : Kept s₀ s) : Kept s₀ (holderGone src s) := only_kept h recMerge_kept

/-! ### Machine/Buffers -/

theorem bufPut_kept (h : Kept s₀ s) : Kept s₀ (bufPut i j b s) := store_kept h

theorem closeBuf_kept {q : BufReq} (h : Kept s₀ s) : Kept s₀ (closeBuf q i b b' s) := only_kept h bufPut_kept

theorem abortBuf_kept {q : BufReq} (h : Kept s₀ s) : Kept s₀ (abortBuf q s) := only_kept h bufPut_kept

theorem updIol_kept {f' : Iol → Iol} (h : Kept s₀ s) : Kept s₀ (updIol i f' s) := .same h

theorem updHart_kept {f' : Hart → Hart} (h : Kept s₀ s) : Kept s₀ (updHart i f' s) := .same h

theorem isduAbort_kept (h : Kept s₀ s) : Kept s₀ (isduAbort i s) := by
  dsimp only [isduAbort]
  split
  · exact abortBuf_kept (updIol_kept h)
  · exact h

theorem hartAbort_kept (h : Kept s₀ s) : Kept s₀ (hartAbort i s) := by
  dsimp only [hartAbort]
  split
  · exact abortBuf_kept (updHart_kept h)
  · exact h

theorem closeStore_kept {q : StoReq} (h : Kept s₀ s) : Kept s₀ (closeStore q i j k s) := only_kept h bufPut_kept

theorem abortStore_kept (h : Kept s₀ s) : Kept s₀ (abortStore i s) := .same (each_kept h closeStore_kept)

theorem abortBuffers_kept (h : Kept s₀ s) : Kept s₀ (abortBuffers i s) :=
  each_kept (each_kept (abortStore_kept h) isduAbort_kept) hartAbort_kept

theorem sweepBuffers_kept (h : Kept s₀ s) : Kept s₀ (sweepBuffers s) := each_kept (each_kept h isduAbort_kept) hartAbort_kept

/-! ### Machine/CanBase -/

theorem updCan_kept {f' : CanSt → CanSt} (h : Kept s₀ s) : Kept s₀ (updCan i f' s) := .same h

theorem updObj_kept {f' : CanObj → CanObj} (h : Kept s₀ s) : Kept s₀ (updObj i j f' s) := updCan_kept h

theorem objLost_kept (h : Kept s₀ s) : Kept s₀ (objLost i j s) := raiseOwned_kept (inc_kept h)

theorem storeFrame_kept {f' : CanFrame} (h : Kept s₀ s) : Kept s₀ (storeFrame i j f' k s) :=
  .ite (only_kept (updObj_kept h) objLost_kept) (updObj_kept h)

theorem releaseObj_kept (h : Kept s₀ s) : Kept s₀ (releaseObj i j t s) := only_kept (updObj_kept h) objLost_kept

theorem releaseLocks_kept (h : Kept s₀ s) : Kept s₀ (releaseLocks i j s) := each_kept h (fun h => each_kept h releaseObj_kept)

theorem objError_kept (h : Kept s₀ s) : Kept s₀ (objError i j s) := raise_kept (objLost_kept (updObj_kept h))

theorem readWord0_kept (h : Kept s₀ s) : KeptPair s₀ (readWord0 i j k s) := by
  dsimp only [readWord0]
  split
  · exact .mk h
  · exact .mk (updObj_kept h)

theorem readWord19_kept (h : Kept s₀ s) : KeptPair s₀ (readWord19 i j k s) := .ite (.mk (releaseObj_kept h)) (.mk h)

theorem putEntry_kept {time : Option Nat} (h : Kept s₀ s) : Kept s₀ (putEntry i j k l m n time s) :=
  .ite h (bufPut_kept (bufPut_kept (by split; exacts [bufPut_kept h, h])))

theorem readHead_kept (h : Kept s₀ s) : Kept s₀ (readHead i j k s) := by
  induction i generalizing s with
  | zero => exact h
  | succ i ih => exact .ite h <| .ite (updCan_kept h) (ih (putEntry_kept (updCan_kept h)))

theorem doorbell_kept (h : Kept s₀ s) : Kept s₀ (doorbell i j s) := readHead_kept h

theorem setTxb_kept {v : Option TxBuf} (h : Kept s₀ s) : Kept s₀ (setTxb i j v s) := updCan_kept h

theorem stopQueue_kept (h : Kept s₀ s) : Kept s₀ (stopQueue i j s) :=
  only_kept (updCan_kept (each_kept h (fun h => (by split; exacts [.ite (putEntry_kept (setTxb_kept h)) h, h])))) (fun h =>
      each_kept h (fun h => .ite (putEntry_kept h) h))

theorem canStop_kept (h : Kept s₀ s) : Kept s₀ (canStop i s) :=
  each_kept (each_kept h releaseLocks_kept) (fun h => each_kept h stopQueue_kept)

theorem cancelEntry_kept (h : Kept s₀ s) : KeptPair s₀ (cancelEntry i j k s) :=
  .ite (.mk h) <|
    .ite (Kept.share (fun h => .mk (inc_kept (.ite (readHead_kept (updCan_kept h)) h))) (putEntry_kept h)) <|
    .ite (by split; exacts [.ite (.mk (inc_kept h)) (.mk (inc_kept (readHead_kept (putEntry_kept (setTxb_kept h))))), .mk h]) (.mk h)

theorem canRestore_kept (h : Kept s₀ s) : Kept s₀ (canRestore s) :=
  each_kept h (fun h => each_kept h (fun h => updCan_kept (each_kept h (fun h => .ite (bufPut_kept h) h))))

/-! ### Machine/PavOps -/

theorem raiseScan_kept (h : Kept s₀ s) : Kept s₀ (raiseScan i j k l s) := raiseOwned_kept h

theorem raiseProt_kept (h : Kept s₀ s) : Kept s₀ (raiseProt i j k l m n s) := Kept.share (fun h => .ite (.same h) h) (raiseOwned_kept h)

theorem setLaneAt_kept (h : Kept s₀ s) : Kept s₀ (setLaneAt i j k s) := wrN_kept h

theorem admitProgram_kept (h : Kept s₀ s) : Kept s₀ (admitProgram i s) := by
  dsimp only [admitProgram]
  split
  · exact wrN_kept (wrN_kept h)
  · exact wrN_kept h

theorem offLane_kept (h : Kept s₀ s) : Kept s₀ (offLane i j s) := updLane_kept h

theorem updResync_kept {f' : Resync → Resync} (h : Kept s₀ s) : Kept s₀ (updResync i f' s) := updTrestle_kept h

theorem gapCopy_kept (h : Kept s₀ s) : Kept s₀ (gapCopy i j s) := .ite h <| .ite (updResync_kept h) (only_kept h updResync_kept)

theorem gapStart_kept (h : Kept s₀ s) : Kept s₀ (gapStart i s) := updLane_kept (only_kept h gapCopy_kept)

theorem taskEntry_kept (h : Kept s₀ s) : Kept s₀ (taskEntry i j s) := updTask_kept (setBank_kept h)

theorem runTask_kept (h : Kept s₀ s) : Kept s₀ (runTask i j s) :=
  updTask_kept (updLane_kept (wrN_kept (drawn_kept (.ite (taskEntry_kept h) h))))

theorem preempt_kept (h : Kept s₀ s) : Kept s₀ (preempt i s) := by
  dsimp only [preempt]
  split
  · exact h
  · exact updLane_kept (updTask_kept h)

theorem laneNext_kept (h : Kept s₀ s) : Kept s₀ (laneNext i s) := .ite h (by split; exacts [runTask_kept h, gapStart_kept h])

theorem busyMark_kept (h : Kept s₀ s) : Kept s₀ (busyMark i s) := wrN_kept h

theorem cutOne_kept (h : Kept s₀ s) : Kept s₀ (cutOne i j s) := .ite h (busyMark_kept (releaseLocks_kept (updTask_kept (offLane_kept h))))

theorem cutAll_kept (h : Kept s₀ s) : Kept s₀ (cutAll i s) := laneNext_kept (each_kept h cutOne_kept)

theorem raiseDma_kept (h : Kept s₀ s) : Kept s₀ (raiseDma i j k s) := raiseProt_kept (wrN_kept h)

theorem abortDma_kept (h : Kept s₀ s) : Kept s₀ (abortDma i s) := wrN_kept (each_kept (updPav_kept h) raiseDma_kept)

theorem wdtFollow_kept (h : Kept s₀ s) : Kept s₀ (wdtFollow i j s) := wrN_kept h

theorem enterStop_kept (h : Kept s₀ s) : Kept s₀ (enterStop i j s) :=
  .ite (updPav_kept h)
      (raiseScan_kept (updPav_kept (wdtFollow_kept (wrN_kept (wrN_kept (canStop_kept (abortBuffers_kept (abortDma_kept (cutAll_kept h)))))))))

theorem pavFault_kept (h : Kept s₀ s) : Kept s₀ (pavFault i j s) := .ite (enterStop_kept h) <| .ite (updPav_kept (cutAll_kept h)) h

theorem zeroSpaces_kept (h : Kept s₀ s) : Kept s₀ (zeroSpaces i s) :=
  Kept.share (fun h => .ite h (each_kept h clearMem_kept)) (each_kept h (fun h => .ite h (clearMem_kept h)))

theorem enterRun_kept (h : Kept s₀ s) : Kept s₀ (enterRun i s) :=
  unlatch_kept (raiseScan_kept (each_kept (wdtFollow_kept (updPav_kept (wrN_kept (zeroSpaces_kept h)))) updTask_kept))

theorem stopAll_kept (h : Kept s₀ s) : Kept s₀ (stopAll s) := each_kept h enterStop_kept

theorem chgReplace_kept (h : Kept s₀ s) : Kept s₀ (chgReplace i b s) := by
  dsimp only [chgReplace]
  split <;> exact wrBlob_kept h

theorem chgOutcome_kept {c : Change} (h : Kept s₀ s) : Kept s₀ (chgOutcome c i j k l s) := raiseSev_kept (chgReplace_kept h)

theorem chgDrop_kept (h : Kept s₀ s) : Kept s₀ (chgDrop i s) := wrN_kept (updScan_kept h)

theorem chgAbortAll_kept (h : Kept s₀ s) : Kept s₀ (chgAbortAll s) := each_kept h (fun h => chgDrop_kept (chgOutcome_kept h))

/-! ### Machine/Drive -/

theorem updDo_kept {f' : DoCh → DoCh} (h : Kept s₀ s) : Kept s₀ (updDo i f' s) := .same h

theorem updHold_kept {f' : HoldBlk → HoldBlk} (h : Kept s₀ s) : Kept s₀ (updHold i f' s) := .same h

theorem updAo_kept {f' : Ao → Ao} (h : Kept s₀ s) : Kept s₀ (updAo i f' s) := .same h

theorem updAi_kept {f' : Ai → Ai} (h : Kept s₀ s) : Kept s₀ (updAi i f' s) := .same h

theorem updAdc_kept {f' : Adc → Adc} (h : Kept s₀ s) : Kept s₀ (updAdc i f' s) := .same h

theorem stageDiag_kept (h : Kept s₀ s) : Kept s₀ (stageDiag i s) := stageArea_kept h

theorem doStateBit_kept (h : Kept s₀ s) : Kept s₀ (doStateBit i j t s) := wrN_kept h

theorem doFaultSet_kept (h : Kept s₀ s) : Kept s₀ (doFaultSet i j s) := .ite h (stageDiag_kept (raiseOwned_kept (wrN_kept h)))

theorem doFaultClear_kept (h : Kept s₀ s) : Kept s₀ (doFaultClear i j s) := .ite h (stageDiag_kept (updDo_kept (wrN_kept h)))

theorem driveDo_kept (h : Kept s₀ s) : Kept s₀ (driveDo i s) :=
  Kept.share (fun h => Kept.share (fun h => wrN_kept (.ite (inc_kept h) h)) (.ite (doFaultClear_kept (updDo_kept h)) h))
      (.ite h (updDo_kept h))

theorem driveIol_kept (h : Kept s₀ s) : Kept s₀ (driveIol i s) := only_kept h updIol_kept

theorem iolRaise_kept (h : Kept s₀ s) : Kept s₀ (iolRaise i j k s) := raiseWith_kept h

theorem iolTo_kept (h : Kept s₀ s) : Kept s₀ (iolTo i j s) :=
  .ite h (Kept.share (fun h => .ite (iolRaise_kept h) h) (updIol_kept (wrN_kept h)))

theorem iolStart_kept (h : Kept s₀ s) : Kept s₀ (iolStart i s) := .ite h (iolTo_kept (wrN_kept h))

theorem iolFault_kept (h : Kept s₀ s) : Kept s₀ (iolFault i j s) :=
  Kept.share (fun h => .ite (updIol_kept (wrN_kept (inc_kept h))) (iolTo_kept h)) (isduAbort_kept (updIol_kept (wrN_kept h)))

theorem iolPassiveAll_kept (h : Kept s₀ s) : Kept s₀ (iolPassiveAll s) := each_kept h iolTo_kept

theorem iolResumeAll_kept (h : Kept s₀ s) : Kept s₀ (iolResumeAll s) := each_kept h iolStart_kept

theorem evalDo_kept (h : Kept s₀ s) : Kept s₀ (evalDo i s) :=
  .ite (driveDo_kept h) (by
      split
      · exact driveDo_kept h
      · exact driveDo_kept (only_kept h doStateBit_kept)
      · exact driveDo_kept (doStateBit_kept (.ite h (by split; exacts [storeBit_kept h, storeBit_kept h, h]))))

theorem evalIol_kept (h : Kept s₀ s) : Kept s₀ (evalIol i s) :=
  .ite h (by split; exacts [h, driveIol_kept (only_kept h updIol_kept), driveIol_kept (updIol_kept (.ite h (store_kept h)))])

theorem evalAo_kept (h : Kept s₀ s) : Kept s₀ (evalAo i s) := by
  dsimp only [evalAo]
  split
  · exact updAo_kept h
  · exact h

theorem evalBlock_kept (h : Kept s₀ s) : Kept s₀ (evalBlock i s) :=
  .ite (stageDiag_kept (each_kept h evalDo_kept)) <| .ite (evalIol_kept h) (evalAo_kept h)

theorem outSafeIf_kept (h : Kept s₀ s) : Kept s₀ (outSafeIf i s) := only_kept h (fun h => raiseScan_kept (updPav_kept h))

theorem expireBlock_kept (h : Kept s₀ s) : Kept s₀ (expireBlock i s) :=
  .ite h (each_kept (evalBlock_kept (raise_kept (only_kept (updHold_kept h) (fun h => inc_kept (wrN_kept h))))) outSafeIf_kept)

theorem expireAll_kept (h : Kept s₀ s) : Kept s₀ (expireAll s) := each_kept h expireBlock_kept

theorem driveAll_kept (h : Kept s₀ s) : Kept s₀ (driveAll s) := each_kept h driveDo_kept

theorem stageHart_kept (h : Kept s₀ s) : Kept s₀ (stageHart i s) := stageArea_kept h

theorem hartFreeze_kept (h : Kept s₀ s) : Kept s₀ (hartFreeze i s) := each_kept h (fun h => updHart_kept (stageHart_kept h))

theorem hartTo_kept (h : Kept s₀ s) : Kept s₀ (hartTo i j t s) :=
  .ite h (stageHart_kept (only_kept (updHart_kept (wrN_kept (.ite (hartAbort_kept h) h))) raiseOwned_kept))

theorem hartListenAll_kept (h : Kept s₀ s) : Kept s₀ (hartListenAll s) := each_kept h hartTo_kept

theorem hartResumeAll_kept (h : Kept s₀ s) : Kept s₀ (hartResumeAll s) := each_kept h hartTo_kept

theorem commitBlocks_kept {ends : List Nat} (h : Kept s₀ s) : Kept s₀ (commitBlocks ends s) :=
  each_kept (each_kept (each_kept h (fun h => Kept.share (fun h => .ite (wrN_kept h) h) (updHold_kept h))) updAo_kept) evalBlock_kept

/-! ### Machine/SafetyOps -/

theorem updIsl_kept {f' : Island → Island} (h : Kept s₀ s) : Kept s₀ (updIsl f' s) := .same h

theorem updGrp_kept {f' : Group → Group} (h : Kept s₀ s) : Kept s₀ (updGrp i f' s) := updIsl_kept h

theorem updPairIn_kept {f' : PairIn → PairIn} (h : Kept s₀ s) : Kept s₀ (updPairIn i f' s) := updIsl_kept h

theorem updTest_kept {f' : OutTest → OutTest} (h : Kept s₀ s) : Kept s₀ (updTest i f' s) := updIsl_kept h

theorem grpTo_kept (h : Kept s₀ s) : Kept s₀ (grpTo i j s) := .ite h (raiseOwned_kept (wrN_kept h))

theorem grpLatch_kept (h : Kept s₀ s) : Kept s₀ (grpLatch i j s) := .ite h (raiseOwned_kept (wrN_kept h))

theorem openSwitch_kept (h : Kept s₀ s) : Kept s₀ (openSwitch t t' i s) := updTest_kept (updIsl_kept h)

theorem removeTorque_kept (h : Kept s₀ s) : Kept s₀ (removeTorque i j k t s) :=
  grpTo_kept (updGrp_kept (updIsl_kept (each_kept (each_kept (only_kept h (fun h => inc_kept (wrBlob_kept h))) openSwitch_kept) (fun h =>
      .ite h (wrN_kept h)))))

theorem islandFault_kept (h : Kept s₀ s) : Kept s₀ (islandFault i j s) :=
  .ite h (Kept.share (fun h => .ite (each_kept (each_kept (wrN_kept h) removeTorque_kept) grpLatch_kept) h) (raise_kept (wrN_kept h)))

theorem outFault_kept (h : Kept s₀ s) : Kept s₀ (outFault i j s) :=
  .ite h (Kept.share (fun h => .ite (grpLatch_kept (removeTorque_kept h)) h) (raiseOwned_kept (wrN_kept (wrN_kept (openSwitch_kept h)))))

theorem pairFault_kept (h : Kept s₀ s) : Kept s₀ (pairFault i j k s) := .ite h (raiseOwned_kept (wrN_kept (wrN_kept h)))

theorem islandForce_kept (h : Kept s₀ s) : Kept s₀ (islandForce s) := each_kept h (fun h => .ite h (removeTorque_kept h))

theorem islandReset_kept (h : Kept s₀ s) : Kept s₀ (islandReset i s) :=
  wrN_kept (wrN_kept (wrN_kept (updIsl_kept (each_kept
      (each_kept (each_kept h (fun h => wrN_kept (wrN_kept h))) (fun h => wrN_kept (wrN_kept h))) (fun h => wrN_kept (wrN_kept h))))))

theorem stagedChanged_kept (h : Kept s₀ s) : Kept s₀ (stagedChanged s) := wrN_kept h

/-! ### Machine/TrestleOps -/

theorem countLanes_kept (h : Kept s₀ s) : Kept s₀ (countLanes s) := wrN_kept (wrN_kept (wrN_kept (wrN_kept h)))

theorem spareFell_kept (h : Kept s₀ s) : Kept s₀ (spareFell i s) := only_kept h (fun h => raise_kept (raise_kept h))

theorem trStatus_kept (h : Kept s₀ s) : Kept s₀ (trStatus i j t s) := wrN_kept h

theorem coverage_kept (h : Kept s₀ s) : Kept s₀ (coverage s) := each_kept h (fun h => only_kept (trStatus_kept h) raise_kept)

theorem setRole_kept (h : Kept s₀ s) : Kept s₀ (setRole i j s) :=
  Kept.share (fun h => .ite (coverage_kept h) h) (spareFell_kept (countLanes_kept (wrN_kept h)))

theorem placeLane_kept (h : Kept s₀ s) : Kept s₀ (placeLane i j k s) := wrN_kept (wrN_kept (setLaneAt_kept h))

theorem unplaceLane_kept (h : Kept s₀ s) : Kept s₀ (unplaceLane i s) := wrN_kept (wrN_kept h)

theorem trTo_kept (h : Kept s₀ s) : Kept s₀ (trTo i j s) :=
  Kept.share (fun h => Kept.share (fun h => .ite (updTrestle_kept h) h) (.ite (trStatus_kept (only_kept h wrN_kept)) h))
      (trStatus_kept (wrN_kept h))

theorem abandonRotation_kept (h : Kept s₀ s) : Kept s₀ (abandonRotation s) :=
  .ite h (Kept.share (fun h => .ite (setRole_kept (unplaceLane_kept h)) h) (updRot_kept (updTrestle_kept (trStatus_kept h))))

theorem lanesDown_kept (h : Kept s₀ s) : Kept s₀ (lanesDown s) :=
  withLanes_kept (each_kept (each_kept (abandonRotation_kept h) fun h => .ite (wrN_kept h) h) fun h =>
    updTrestle_kept (trTo_kept (trStatus_kept (wrN_kept h))))

theorem lanesUp_kept (h : Kept s₀ s) : Kept s₀ (lanesUp s) :=
  coverage_kept (countLanes_kept (each_kept h (fun h =>
      .ite h <| .ite (wrN_kept (trTo_kept h)) (trTo_kept (each_kept h (fun h => .ite (wrN_kept h) h))))))

theorem formTrestles_kept (h : Kept s₀ s) : Kept s₀ (formTrestles s) :=
  countLanes_kept (each_kept
      (each_kept
        (each_kept (each_kept (each_kept h unplaceLane_kept) (fun h => wrN_kept (wrN_kept h))) (fun h => wrN_kept (placeLane_kept h)))
        wrN_kept) (fun h => wrN_kept (trTo_kept h)))

theorem retireLane_kept (h : Kept s₀ s) : Kept s₀ (retireLane i j s) := raise_kept (raise_kept (wrN_kept (setRole_kept h)))

/-! ### Machine/Modes -/

theorem updGate_kept {f' : Gate → Gate} (h : Kept s₀ s) : Kept s₀ (updGate f' s) := .same h

theorem updPow_kept {f' : Power → Power} (h : Kept s₀ s) : Kept s₀ (updPow f' s) := .same h

theorem updPair_kept {f' : PairSt → PairSt} (h : Kept s₀ s) : Kept s₀ (updPair f' s) := .same h

theorem updSec_kept {f' : Sec → Sec} (h : Kept s₀ s) : Kept s₀ (updSec f' s) := .same h

theorem updUpd_kept {f' : Upd → Upd} (h : Kept s₀ s) : Kept s₀ (updUpd f' s) := .same h

theorem updSto_kept {f' : Sto → Sto} (h : Kept s₀ s) : Kept s₀ (updSto f' s) := .same h

theorem engineTo_kept (h : Kept s₀ s) : Kept s₀ (engineTo i s) :=
  .ite h
      (Kept.share (fun h => Kept.share (fun h => wrN_kept (.ite (wr_kept h) h)) (.ite (chgAbortAll_kept h) h))
        (.ite (endSegments_kept h) h))

theorem setMode_kept (h : Kept s₀ s) : Kept s₀ (setMode i j s) :=
  .ite h (Kept.share (fun h => .ite h (raise_kept (wrN_kept h))) (raise_kept (wrN_kept (wrN_kept (wrN_kept h)))))

theorem fieldFollow_kept (h : Kept s₀ s) : Kept s₀ (fieldFollow s) :=
  Kept.share
      (fun h =>
        driveAll_kept (.ite (.ite (hartResumeAll_kept (iolResumeAll_kept h)) h) <| .ite (hartListenAll_kept (iolPassiveAll_kept h)) h))
      (.ite (islandReset_kept h) <| .ite (islandForce_kept h) h)

theorem quiet_kept (h : Kept s₀ s) : Kept s₀ (quiet i j s) := lanesDown_kept (engineTo_kept (setMode_kept (stopAll_kept h)))

theorem lockout_kept (h : Kept s₀ s) : Kept s₀ (lockout i j s) := fieldFollow_kept (expireAll_kept (quiet_kept h))

theorem safeHalt_kept (h : Kept s₀ s) : Kept s₀ (safeHalt i s) := .ite h (raise_kept (wrN_kept (lockout_kept (updPair_kept h))))

theorem debugEnd_kept (h : Kept s₀ s) : Kept s₀ (debugEnd s) := .ite h (raise_kept (wrN_kept (wrN_kept (wrN_kept h))))

theorem enterAlarm_kept (h : Kept s₀ s) : Kept s₀ (enterAlarm s) := .ite h (lockout_kept (debugEnd_kept h))

theorem commitKey_kept (h : Kept s₀ s) : Kept s₀ (commitKey i s) := wrN_kept (.same h)

theorem commitAll_kept (h : Kept s₀ s) : Kept s₀ (commitAll s) := each_kept h commitKey_kept

theorem moduleReset_kept (h : Kept s₀ s) : Kept s₀ (moduleReset i s) := by
  unfold moduleReset
  extract_lets _ _ stopped _ _ _ _ keep _ _ kept _ _ _ _ _ standing _ _ _ followed
  have hstopped : Kept s₀ stopped := islandReset_kept (commitAll_kept (stopAll_kept h))
  clear_value keep stopped
  have hkept : Kept s₀ kept := hstopped.keepsSome rfl rfl keptCell rfl (fun e => keep e.1) rfl (fun e => keep e.1) rfl
  clear_value kept
  have hstanding : Kept s₀ standing := by
    refine only_kept (wrN_kept (wrN_kept (wrN_kept (only_kept ?_ wrN_kept)))) wrN_kept
    exact .ite (wrN_kept (wrN_kept hkept)) (wrN_kept (wrN_kept (wrN_kept (wrN_kept hkept))))
  clear_value standing
  have hfollowed : Kept s₀ followed :=
    each_kept (countLanes_kept (each_kept (wrN_kept hstanding) fun h => .ite h (wrN_kept (unplaceLane_kept h)))) wdtFollow_kept
  clear_value followed
  exact driveAll_kept (only_kept (raiseSev_kept (raise_kept (wrN_kept (wrN_kept (wrN_kept hfollowed))))) raise_kept)

theorem requestTakeover_kept (h : Kept s₀ s) : Kept s₀ (requestTakeover i t s) := send_kept (updPair_kept h)

theorem settleFault_kept (h : Kept s₀ s) : Kept s₀ (settleFault i t s) :=
  .ite (requestTakeover_kept h) <| .ite (safeHalt_kept h) <| .ite (moduleReset_kept h) (safeHalt_kept h)

theorem demote_kept (h : Kept s₀ s) : Kept s₀ (demote i s) := fieldFollow_kept (updPair_kept (quiet_kept h))

/-! ### Machine/CanOps -/

theorem canStatus_kept (h : Kept s₀ s) : Kept s₀ (canStatus i s) := stageArea_kept h

theorem canTo_kept (h : Kept s₀ s) : Kept s₀ (canTo i j s) :=
  .ite h
      (canStatus_kept (raiseSev_kept (only_kept
        (only_kept (only_kept (.ite (wrN_kept (wrN_kept (wrN_kept h))) (wrN_kept h)) updCan_kept) inc_kept) updCan_kept)))

theorem canByCounters_kept (h : Kept s₀ s) : Kept s₀ (canByCounters i s) :=
  .ite h <| .ite (canTo_kept h) <| .ite (canTo_kept h) (canTo_kept h)

theorem fill_kept {t : TxBuf} (h : Kept s₀ s) : Kept s₀ (fill i j k t s) :=
  Kept.share (fun h => .ite (updCan_kept h) (only_kept (updCan_kept h) bufPut_kept)) (setTxb_kept (updCan_kept h))

theorem endBuffer_kept (h : Kept s₀ s) : Kept s₀ (endBuffer i j k l s) := by
  dsimp only [endBuffer]
  split
  · exact h
  · exact Kept.share (fun h => .ite h (readHead_kept (only_kept (putEntry_kept h) raiseOwned_kept))) (setTxb_kept (updCan_kept h))

theorem sendingFailed_kept (h : Kept s₀ s) : Kept s₀ (sendingFailed i s) := by
  dsimp only [sendingFailed]
  split
  · exact h
  · exact .ite (endBuffer_kept h) (updCan_kept h)

theorem sysSend_kept {tpdo : Option Nat} (h : Kept s₀ s) : Kept s₀ (sysSend i j b tpdo k s) :=
  .ite h (by dsimp only; split; exacts [updCan_kept h, (by split; exacts [setTxb_kept h, updCan_kept h])])

theorem nmtTo_kept (h : Kept s₀ s) : Kept s₀ (nmtTo i j s) := .ite h (raiseSev_kept (.ite (updCan_kept (wrN_kept h)) (wrN_kept h)))

theorem nmtStart_kept (h : Kept s₀ s) : Kept s₀ (nmtStart i s) :=
  .ite h (only_kept (updCan_kept (nmtTo_kept (sysSend_kept h))) nmtTo_kept)

theorem canStart_kept (h : Kept s₀ s) : Kept s₀ (canStart i s) := nmtStart_kept (canTo_kept (updCan_kept h))

theorem updRpdo_kept {f' : Rpdo → Rpdo} (h : Kept s₀ s) : Kept s₀ (updRpdo i j f' s) := updCan_kept h

theorem updTpdo_kept {f' : Tpdo → Tpdo} (h : Kept s₀ s) : Kept s₀ (updTpdo i j f' s) := updCan_kept h

theorem sendTpdo_kept (h : Kept s₀ s) : Kept s₀ (sendTpdo i j s) := .ite h (updTpdo_kept (sysSend_kept h))

theorem tpdoCommit_kept (h : Kept s₀ s) : Kept s₀ (tpdoCommit i s) := each_kept h (fun h => only_kept (updTpdo_kept h) sendTpdo_kept)

theorem onSync_kept (h : Kept s₀ s) : Kept s₀ (onSync i j s) :=
  .ite h
      (each_kept (updCan_kept h) (fun h =>
        .ite (only_kept h sendTpdo_kept) <|
        .ite (.ite h <| .ite (sendTpdo_kept (updTpdo_kept h)) (only_kept (updTpdo_kept h) sendTpdo_kept)) h))

theorem rpdoFreeze_kept (h : Kept s₀ s) : Kept s₀ (rpdoFreeze i s) := updCan_kept (canStatus_kept (each_kept h stageArea_kept))

theorem emcySend_kept {body : Nat → Bytes} (h : Kept s₀ s) : Kept s₀ (emcySend body s) :=
  each_kept h (fun h => updCan_kept (sysSend_kept h))

theorem errorField_kept (h : Kept s₀ s) : Kept s₀ (errorField i j s) := wrN_kept (wrN_kept (each_kept h (fun h => .ite (wr_kept h) h)))

theorem emcyFollow_kept (h : Kept s₀ s) : Kept s₀ (emcyFollow s) := only_kept (.same h) emcySend_kept

/-! ### Machine/Dio -/

theorem updDi_kept {f' : Di → Di} (h : Kept s₀ s) : Kept s₀ (updDi i f' s) := .same h

theorem stageDi_kept (h : Kept s₀ s) : Kept s₀ (stageDi i s) := stageArea_kept (stagePoint_kept h)

theorem execDebounceComplete_kept (h : Kept s₀ s) : KeptOut s₀ (execDebounceComplete i t j s) :=
  .next (only_kept h (fun h => stageDi_kept (only_kept (wrN_kept (wrN_kept h)) wrN_kept)))

theorem execDiEdgesWrite_kept (h : Kept s₀ s) : KeptOut s₀ (execDiEdgesWrite src i j s) :=
  .next (only_kept h (fun h => command_kept h (fun h => accept_kept (stageDi_kept (wrN_kept h)))))

theorem wakeDi_kept {f : State → State} (h : Kept s₀ s) (hf : ∀ {s}, Kept s₀ s → Kept s₀ (f s)) : Kept s₀ (wakeDi i t f s) :=
  only_kept h (fun h => only_kept (updDi_kept h) (fun h => raise_kept (hf h)))

theorem execDoOcTrip_kept (h : Kept s₀ s) : KeptOut s₀ (execDoOcTrip i j s) :=
  .next (only_kept h (fun h =>
      .ite (stageDiag_kept (doStateBit_kept h)) (stageDiag_kept (driveDo_kept (doFaultSet_kept (updDo_kept (inc_kept h)))))))

theorem execDoRetryExpiry_kept (h : Kept s₀ s) : KeptOut s₀ (execDoRetryExpiry i s) :=
  .next (only_kept h (fun h => driveDo_kept (updDo_kept h)))

theorem execDoOvertemp_kept (h : Kept s₀ s) : KeptOut s₀ (execDoOvertemp i g s) :=
  .next (only_kept h (fun h =>
      .ite (driveDo_kept (doFaultSet_kept (updDo_kept h))) <|
      .ite (Kept.share (fun h => driveDo_kept (.ite h (doFaultClear_kept h))) (updDo_kept h)) h))

theorem execDoNoDrive_kept (h : Kept s₀ s) : KeptOut s₀ (execDoNoDrive i j s) :=
  .next (only_kept h (fun h => driveDo_kept (doFaultSet_kept (updDo_kept h))))

theorem offTest_kept (h : Kept s₀ s) : Kept s₀ (offTest i j k l t s) := .ite (only_kept h doFaultSet_kept) (only_kept h doFaultClear_kept)

theorem execDoOffStateTest_kept (h : Kept s₀ s) : KeptOut s₀ (execDoOffStateTest i t t' s) :=
  .next (only_kept h (fun h => offTest_kept (offTest_kept (updDo_kept h))))

theorem doAckEffect_kept (h : Kept s₀ s) : KeptPair s₀ (doAckEffect i s) :=
  Kept.share (fun h => accept_kept (driveDo_kept (.ite (updDo_kept h) h)))
      (.ite (doFaultClear_kept (.ite (doFaultClear_kept (.ite (doFaultClear_kept h) h)) <| .ite (doFaultClear_kept h) h)) <|
      .ite (doFaultClear_kept (.ite (doFaultClear_kept h) h)) <|
      .ite (doFaultClear_kept h) h)

theorem execDoAck_kept (h : Kept s₀ s) : KeptOut s₀ (execDoAck src i j s) :=
  .next (only_kept h (fun h => command1_kept h doAckEffect_kept))

theorem aoSupply_kept (h : Kept s₀ s) : Kept s₀ (aoSupply t i s) :=
  .ite (raiseOwned_kept (updAo_kept (wrN_kept h))) <| .ite (wrN_kept h) h

theorem execFieldSupplyChange_kept (h : Kept s₀ s) : KeptOut s₀ (execFieldSupplyChange i j k s) :=
  .ite .fault
      (.next (only_kept h (fun h =>
        Kept.share
          (fun h =>
            .ite (only_kept (each_kept (raiseSev_kept (.same h)) aoSupply_kept) (fun h => each_kept h iolFault_kept))
              (stageDiag_kept (each_kept (raiseSev_kept (inc_kept (.same h))) (fun h =>
                .ite h <| .ite (doFaultSet_kept h) <| .ite (doFaultClear_kept h) h)))) (wrN_kept (wrN_kept h)))))

theorem execBlockHoldExpiry_kept (h : Kept s₀ s) : KeptOut s₀ (execBlockHoldExpiry i s) := .next (only_kept h expireBlock_kept)

theorem execPavStopHoldExpiry_kept (h : Kept s₀ s) : KeptOut s₀ (execPavStopHoldExpiry i s) :=
  .next (only_kept h (fun h => outSafeIf_kept (each_kept h evalBlock_kept)))

theorem execPavHoldLimitExpiry_kept (h : Kept s₀ s) : KeptOut s₀ (execPavHoldLimitExpiry i s) :=
  .next (only_kept h (fun h => outSafeIf_kept (each_kept (updPav_kept h) evalBlock_kept)))

/-! ### Machine/IoLink -/

theorem stageIol_kept (h : Kept s₀ s) : Kept s₀ (stageIol i s) := updIol_kept (stageArea_kept h)

theorem stageIolAll_kept (h : Kept s₀ s) : Kept s₀ (stageIolAll s) := each_kept h stageIol_kept

theorem iolModeEffect_kept (h : Kept s₀ s) : KeptPair s₀ (iolModeEffect i j s) :=
  writeThen_kept h (fun h =>
      Kept.share (fun h => .ite (iolTo_kept (isduAbort_kept h)) <| .ite h <| .ite (iolTo_kept h) (iolStart_kept h)) (updIol_kept h))

theorem execIolModeWrite_kept (h : Kept s₀ s) : KeptOut s₀ (execIolModeWrite src i j s) :=
  .next (only_kept h (fun h => command_kept h iolModeEffect_kept))

theorem execIolWakeupAttempt_kept (h : Kept s₀ s) : KeptOut s₀ (execIolWakeupAttempt i j t t' s) :=
  .next (only_kept h (fun h => Kept.share (fun h => .ite (wrN_kept h) <| .ite h (iolFault_kept h)) (updIol_kept h)))

theorem execIolDeviceAnswer_kept (h : Kept s₀ s) : KeptOut s₀ (execIolDeviceAnswer i j k l m n s) :=
  .next (only_kept h (fun h =>
      Kept.share (fun h => .ite (iolFault_kept h) <| .ite (iolFault_kept h) <| .ite (iolFault_kept h) (iolTo_kept (wrN_kept h)))
        (wrN_kept (wrN_kept h))))

theorem execIolOperateConfirm_kept (h : Kept s₀ s) : KeptOut s₀ (execIolOperateConfirm i s) :=
  .next (only_kept h (fun h => iolTo_kept (updIol_kept h)))

theorem isduClose_kept (h : Kept s₀ s) : Kept s₀ (isduClose i j b b' s) := by
  dsimp only [isduClose]
  split
  · exact closeBuf_kept (updIol_kept h)
  · exact h

theorem execIolCycleComplete_kept (h : Kept s₀ s) : KeptOut s₀ (execIolCycleComplete i t t' b s) :=
  .next (.ite (.ite (updIol_kept h)
        (Kept.share (fun h => .ite h (iolTo_kept (wrN_kept (inc_kept (isduClose_kept h))))) (inc_kept (updIol_kept h)))) <|
    .ite (updIol_kept h) h)

theorem execIolLplusOverload_kept (h : Kept s₀ s) : KeptOut s₀ (execIolLplusOverload i j k s) :=
  .next (only_kept h (fun h => iolFault_kept (wrN_kept h)))

theorem execIolFaultRetry_kept (h : Kept s₀ s) : KeptOut s₀ (execIolFaultRetry i s) :=
  .next (only_kept h (fun h => Kept.share (fun h => .ite (iolFault_kept h) (iolStart_kept h)) (updIol_kept h)))

theorem execIolIsduComplete_kept (h : Kept s₀ s) : KeptOut s₀ (execIolIsduComplete i t j b s) :=
  .next (only_kept h (fun h => .ite (isduClose_kept h) (isduClose_kept h)))

theorem execIolDeviceEvent_kept (h : Kept s₀ s) : KeptOut s₀ (execIolDeviceEvent i j k t s) :=
  .next (only_kept h (fun h => raiseOwned_kept (updIol_kept h)))

/-! ### Machine/Analog -/

theorem adcBit_kept (h : Kept s₀ s) : Kept s₀ (adcBit i j t s) := wrN_kept h

theorem raiseAdc_kept (h : Kept s₀ s) : Kept s₀ (raiseAdc i j k s) := raise_kept h

theorem adcRestart_kept (h : Kept s₀ s) : Kept s₀ (adcRestart i s) := adcBit_kept (updAdc_kept h)

theorem adcTrigger_kept (h : Kept s₀ s) : Kept s₀ (adcTrigger i s) :=
  Kept.share (fun h => .ite (.ite (inc_kept h) (adcBit_kept (updAdc_kept h))) (adcBit_kept (updAdc_kept h))) (updAdc_kept h)

theorem execAdcTriggerTimer_kept (h : Kept s₀ s) : KeptOut s₀ (execAdcTriggerTimer i s) := .next (only_kept h adcTrigger_kept)

theorem adcStartEffect_kept (h : Kept s₀ s) : KeptPair s₀ (adcStartEffect i s) := accept_kept (only_kept h adcTrigger_kept)

theorem execAdcStart_kept (h : Kept s₀ s) : KeptOut s₀ (execAdcStart src i j s) :=
  .next (only_kept h (fun h => command1_kept h adcStartEffect_kept))

theorem stageAi_kept (h : Kept s₀ s) : Kept s₀ (stageAi i s) := only_kept h stageArea_kept

theorem aiFlag_kept (h : Kept s₀ s) : Kept s₀ (aiFlag i j t s) := wrN_kept h

theorem raiseAi_kept (h : Kept s₀ s) : Kept s₀ (raiseAi i j s) := raiseWith_kept h

theorem selftest_kept (h : Kept s₀ s) : Kept s₀ (selftest i j k s) :=
  Kept.share
      (fun h =>
        .ite (.ite h (each_kept (raiseAdc_kept (inc_kept (adcBit_kept (updAdc_kept h)))) (fun h => stageAi_kept (aiFlag_kept h)))) <|
        .ite (each_kept (adcBit_kept h) (fun h => stageAi_kept (aiFlag_kept h))) h) (updAdc_kept h)

theorem adcWord_kept (h : Kept s₀ s) : Kept s₀ (adcWord i j k s) := wrN_kept h

theorem execAdcConversionComplete_kept (h : Kept s₀ s) : KeptOut s₀ (execAdcConversionComplete i j k t s) :=
  .next (only_kept h (fun h =>
      .ite (only_kept h (fun h => selftest_kept (adcWord_kept h)))
        (only_kept h (fun h =>
          Kept.share (fun h => .ite (stageAi_kept (aiFlag_kept (aiFlag_kept (updAi_kept (wrN_kept (wrN_kept h)))))) (wrN_kept h))
            (adcWord_kept (adcBit_kept (updAdc_kept h)))))))

theorem execAdcSelftestDue_kept (h : Kept s₀ s) : KeptOut s₀ (execAdcSelftestDue i s) := .next (only_kept h updAdc_kept)

theorem execAdcRefSettled_kept {codes : List Nat} (h : Kept s₀ s) : KeptOut s₀ (execAdcRefSettled i codes s) :=
  .next (only_kept h (fun h => adcBit_kept (adcBit_kept (wrN_kept (updAdc_kept h)))))

theorem execAdcRefFault_kept (h : Kept s₀ s) : KeptOut s₀ (execAdcRefFault i s) :=
  .next (only_kept h (fun h => Kept.share (fun h => .ite h (raiseAdc_kept (adcBit_kept h))) (updAdc_kept h)))

theorem aiTick_kept (h : Kept s₀ s) : Kept s₀ (aiTick i s) :=
  Kept.share (fun h => stageAi_kept (.ite (raiseAi_kept (updAi_kept (inc_kept (wrN_kept h)))) h)) (updAi_kept (wrN_kept h))

theorem execAiTick_kept {limited : List Nat} (h : Kept s₀ s) : KeptOut s₀ (execAiTick limited s) :=
  .next (each_kept h (fun h => Kept.share (fun h => .ite (stageAi_kept h) (aiTick_kept h)) (only_kept (aiFlag_kept h) raiseAi_kept)))

theorem execAiStale_kept (h : Kept s₀ s) : KeptOut s₀ (execAiStale i s) :=
  .next (only_kept h (fun h => stageAi_kept (raiseAi_kept (aiFlag_kept h))))

theorem stageAo_kept (h : Kept s₀ s) : Kept s₀ (stageAo i s) := stageArea_kept h

theorem aoTick_kept (h : Kept s₀ s) : Kept s₀ (aoTick i s) :=
  .ite (stageAo_kept (updAo_kept (wrN_kept (wrN_kept h)))) (stageAo_kept (wrN_kept (wrN_kept (updAo_kept h))))

theorem execAoRampTick_kept (h : Kept s₀ s) : KeptOut s₀ (execAoRampTick s) := .next (each_kept h aoTick_kept)

theorem aoFaultSet_kept (h : Kept s₀ s) : Kept s₀ (aoFaultSet i j s) := .ite h (stageAo_kept (raiseOwned_kept (wrN_kept h)))

theorem aoFaultClear_kept (h : Kept s₀ s) : Kept s₀ (aoFaultClear i j s) := stageAo_kept (wrN_kept h)

theorem execAoOpenLoop_kept (h : Kept s₀ s) : KeptOut s₀ (execAoOpenLoop i j s) :=
  .next (only_kept h (fun h => .ite (only_kept h aoFaultSet_kept) (only_kept h aoFaultClear_kept)))

theorem execAoReadbackFault_kept (h : Kept s₀ s) : KeptOut s₀ (execAoReadbackFault i s) := .next (only_kept h aoFaultSet_kept)

theorem execAoNoSource_kept (h : Kept s₀ s) : KeptOut s₀ (execAoNoSource i s) := .next (only_kept h aoFaultSet_kept)

theorem execAoOvertemp_kept (h : Kept s₀ s) : KeptOut s₀ (execAoOvertemp i g s) :=
  .next (only_kept h (fun h => .ite (aoTick_kept (aoFaultSet_kept h)) <| .ite (aoFaultClear_kept h) h))

theorem aoAckEffect_kept (h : Kept s₀ s) : KeptPair s₀ (aoAckEffect i s) :=
  Kept.share (fun h => accept_kept (emcyFollow_kept (unlatch_kept (.ite h (aoFaultClear_kept h))))) (.ite h (aoFaultClear_kept h))

theorem execAoAck_kept (h : Kept s₀ s) : KeptOut s₀ (execAoAck src i j s) :=
  .next (only_kept h (fun h => command1_kept h aoAckEffect_kept))

theorem execAdc4Sequence_kept {codes : List Nat} (h : Kept s₀ s) : KeptOut s₀ (execAdc4Sequence codes t s) :=
  .next (only_kept h (fun h =>
      Kept.share
        (fun h =>
          only_kept (wrN_kept (each_kept (.ite (adcBit_kept h) <| .ite h (inc_kept (raiseAdc_kept (adcBit_kept h)))) wrN_kept)) (fun h =>
            each_kept (each_kept h (fun h => stageAo_kept (wrN_kept h))) wrN_kept)) (adcBit_kept h)))

/-! ### Machine/Can -/

theorem canEnableEffect_kept (h : Kept s₀ s) : Kept s₀ (canEnableEffect i t t' s) :=
  .ite h <| .ite (canTo_kept h) (only_kept (updCan_kept h) canStart_kept)

theorem canDisableEffect_kept (h : Kept s₀ s) : Kept s₀ (canDisableEffect i s) :=
  canTo_kept (wrN_kept (updCan_kept (each_kept h (fun h =>
      (by split; exacts [Kept.share (fun h => .ite h (putEntry_kept h)) (setTxb_kept h), h])))))

theorem canAwake_kept (h : Kept s₀ s) : Kept s₀ (canAwake i s) := only_kept h canStart_kept

theorem execCanEnable_kept (h : Kept s₀ s) : KeptOut s₀ (execCanEnable src i j t t' s) :=
  .next (command_kept h (fun h => writeThen_kept h canEnableEffect_kept))

theorem execCanDisable_kept (h : Kept s₀ s) : KeptOut s₀ (execCanDisable src i j s) :=
  .next (command_kept h (fun h => writeThen_kept h canDisableEffect_kept))

theorem canHeard_kept {f' : CanFrame} (h : Kept s₀ s) : Kept s₀ (canHeard i f' s) := each_kept h updCan_kept

theorem execCanFrameReceived_kept {f' : CanFrame} (h : Kept s₀ s) : KeptOut s₀ (execCanFrameReceived i f' t s) :=
  .next (only_kept (updCan_kept (canAwake_kept h)) (fun h =>
      Kept.share (fun h => only_kept (by split; exacts [storeFrame_kept (only_kept h objError_kept), only_kept h inc_kept]) canHeard_kept)
        (only_kept (wrN_kept (updCan_kept h)) (fun h => canByCounters_kept (wrN_kept h)))))

theorem execCanErrorDetected_kept (h : Kept s₀ s) : KeptOut s₀ (execCanErrorDetected i j t t' s) :=
  .next (only_kept h (fun h =>
      Kept.share
        (fun h => canStatus_kept (canByCounters_kept (only_kept (.ite h <| .ite (only_kept h wrN_kept) (wrN_kept h)) sendingFailed_kept)))
        (wrN_kept (inc_kept h))))

theorem execCanBusStuck_kept (h : Kept s₀ s) : KeptOut s₀ (execCanBusStuck i s) :=
  .next (only_kept h (fun h => canTo_kept (updCan_kept (inc_kept (sendingFailed_kept h)))))

theorem execCanStuckRecoveryAttempt_kept (h : Kept s₀ s) : KeptOut s₀ (execCanStuckRecoveryAttempt i t s) :=
  .next (only_kept h (fun h => .ite (canTo_kept h) (updCan_kept h)))

theorem execCanBusoffRecovered_kept (h : Kept s₀ s) : KeptOut s₀ (execCanBusoffRecovered i s) :=
  .next (only_kept h (fun h => canTo_kept (updCan_kept h)))

theorem canRecoverEffect_kept (h : Kept s₀ s) : Kept s₀ (canRecoverEffect i s) := only_kept h updCan_kept

theorem execCanRecover_kept (h : Kept s₀ s) : KeptOut s₀ (execCanRecover src i j s) :=
  .next (command1_kept h (fun h => accept_kept (canRecoverEffect_kept h)))

theorem execCanControllerFault_kept (h : Kept s₀ s) : KeptOut s₀ (execCanControllerFault i j s) :=
  .next (only_kept h (fun h => raise_kept (canTo_kept (updCan_kept h))))

theorem objRead_kept {f : Nat → State → Nat × State} (h : Kept s₀ s) (hf : ∀ {a0 s}, Kept s₀ s → KeptPair s₀ (f a0 s)) :
    Kept s₀ (objRead i j k l t t' f s) :=
  only_kept h (fun h => reply_kept (hf (only_kept h objError_kept)).snd)

theorem execCanObjectReadWord0_kept (h : Kept s₀ s) : KeptOut s₀ (execCanObjectReadWord0 i j k l t t' s) :=
  .next (objRead_kept h readWord0_kept)

theorem execCanObjectReadWord19_kept (h : Kept s₀ s) : KeptOut s₀ (execCanObjectReadWord19 i j k l t t' s) :=
  .next (objRead_kept h readWord19_kept)

theorem execCanGatehouseLockTimeout_kept (h : Kept s₀ s) : KeptOut s₀ (execCanGatehouseLockTimeout i j s) :=
  .next (only_kept h releaseObj_kept)

theorem execTxBufferFill_kept (h : Kept s₀ s) : KeptOut s₀ (execTxBufferFill i s) :=
  .next (only_kept (canAwake_kept h) (fun h => (by split; exacts [fill_kept h, h])))

theorem execTxStart_kept (h : Kept s₀ s) : KeptOut s₀ (execTxStart i s) :=
  .next (only_kept (canAwake_kept h) (fun h => (by split; exacts [send_kept (setTxb_kept (updCan_kept h)), h])))

theorem execTxComplete_kept (h : Kept s₀ s) : KeptOut s₀ (execTxComplete i t s) :=
  .next (only_kept h (fun h =>
      (by split; exacts [h, .ite (endBuffer_kept (canByCounters_kept (wrN_kept (wrN_kept h)))) (sendingFailed_kept h)])))

theorem execTxArbitrationLost_kept (h : Kept s₀ s) : KeptOut s₀ (execTxArbitrationLost i s) :=
  .next (only_kept h (fun h => sendingFailed_kept (inc_kept h)))

theorem execNmtCommand_kept (h : Kept s₀ s) : KeptOut s₀ (execNmtCommand i j k s) :=
  .next (only_kept (canAwake_kept h) (fun h =>
      .ite (nmtTo_kept h) <| .ite (nmtTo_kept h) <| .ite (nmtTo_kept h) <| .ite (nmtStart_kept (nmtTo_kept h)) h))

theorem execCanHbProduce_kept (h : Kept s₀ s) : KeptOut s₀ (execCanHbProduce i s) :=
  .next (only_kept h (fun h => sysSend_kept (updCan_kept h)))

theorem execCanHbConsumerTimeout_kept (h : Kept s₀ s) : KeptOut s₀ (execCanHbConsumerTimeout i j s) :=
  .next (only_kept h (fun h => raiseSev_kept (updCan_kept h)))

theorem execSyncReceive_kept (h : Kept s₀ s) : KeptOut s₀ (execSyncReceive i j s) := .next (only_kept (canAwake_kept h) onSync_kept)

theorem execSyncProduce_kept (h : Kept s₀ s) : KeptOut s₀ (execSyncProduce i s) :=
  .next (only_kept h (fun h => onSync_kept (sysSend_kept (updCan_kept h))))

theorem rpdoEvent_kept (h : Kept s₀ s) : Kept s₀ (rpdoEvent i j k s) := raiseOwned_kept h

theorem execRpdoReceive_kept (h : Kept s₀ s) : KeptOut s₀ (execRpdoReceive i j b t s) :=
  .next (only_kept h (fun h => .ite (rpdoEvent_kept (inc_kept h)) (canStatus_kept (.ite (updRpdo_kept h) (updRpdo_kept h)))))

theorem execRpdoEventTimeout_kept (h : Kept s₀ s) : KeptOut s₀ (execRpdoEventTimeout i j s) :=
  .next (only_kept h (fun h => rpdoEvent_kept (canStatus_kept (updRpdo_kept h))))

theorem execTpdoEventTimer_kept (h : Kept s₀ s) : KeptOut s₀ (execTpdoEventTimer i j s) := .next (only_kept h sendTpdo_kept)

theorem execTpdoInhibitExpiry_kept (h : Kept s₀ s) : KeptOut s₀ (execTpdoInhibitExpiry i j s) := .next (only_kept h sendTpdo_kept)

/-! ### Machine/Loader -/

theorem placeCode_kept (h : Kept s₀ s) : Kept s₀ (placeCode i b s) := store_kept h

theorem dropValues_kept {ds : List Decl} (h : Kept s₀ s) : Kept s₀ (dropValues i t ds s) := .same h

theorem loadProgram_kept (h : Kept s₀ s) : Kept s₀ (loadProgram i b b' s) :=
  .ite (raiseProt_kept (wrN_kept (updPav_kept h))) (by
      split
      · exact raiseProt_kept (wrN_kept (updPav_kept h))
      · exact .ite (raiseProt_kept (wrN_kept (updPav_kept h)))
            (admitProgram_kept (wrN_kept (updPav_kept (only_kept (dropValues_kept (placeCode_kept h)) (fun h =>
              inc_kept (raise_kept h)))))))

theorem unloadProgram_kept (h : Kept s₀ s) : Kept s₀ (unloadProgram i s) := wrN_kept (updPav_kept h)

theorem importSweep_kept (h : Kept s₀ s) : Kept s₀ (importSweep i s) := each_kept h (fun h => each_kept (updPav_kept h) raiseProt_kept)

theorem regionFault_kept {f' : Nat × Nat × Nat × Nat} (h : Kept s₀ s) : Kept s₀ (regionFault i f' s) := by
  dsimp only [regionFault]
  split <;> exact sweepBuffers_kept (importSweep_kept (raiseProt_kept (abortDma_kept (pavFault_kept (wrN_kept (wrBlob_kept h))))))

theorem armTable_kept (h : Kept s₀ s) : Kept s₀ (armTable i s) := by
  dsimp only [armTable]
  split
  · exact regionFault_kept (wrN_kept h)
  · exact importSweep_kept (updPav_kept (wrN_kept (wrN_kept h)))

theorem disarmTable_kept (h : Kept s₀ s) : Kept s₀ (disarmTable i s) := sweepBuffers_kept (importSweep_kept (wrN_kept (updPav_kept h)))

theorem tableWritten_kept (h : Kept s₀ s) : Kept s₀ (tableWritten i t s) :=
  Kept.share (fun h => .ite h (by split; exacts [regionFault_kept h, sweepBuffers_kept (only_kept h importSweep_kept)]))
      (only_kept (wrN_kept h) abortDma_kept)

/-! ### Machine/TimeOps -/

theorem updBase_kept {f' : TBase → TBase} (h : Kept s₀ s) : Kept s₀ (updBase i f' s) := .same h

theorem updNet_kept {f' : Net → Net} (h : Kept s₀ s) : Kept s₀ (updNet f' s) := .same h

theorem updPtp_kept {f' : Ptp → Ptp} (h : Kept s₀ s) : Kept s₀ (updPtp i f' s) := updNet_kept h

theorem updPps_kept {f' : Pps → Pps} (h : Kept s₀ s) : Kept s₀ (updPps i f' s) := updNet_kept h

theorem rtcWrite_kept (h : Kept s₀ s) : Kept s₀ (rtcWrite s) := wrB_kept (updSec_kept h)

theorem recordStep_kept (h : Kept s₀ s) : Kept s₀ (recordStep i j g s) :=
  Kept.share (fun h => Kept.share (fun h => .ite (histStep_kept (rtcWrite_kept h)) h) (.ite (only_kept (wr_kept h) raise_kept) h))
      (raiseSev_kept (updNet_kept (inc_kept (wr_kept (.ite (copyEra_kept (wrN_kept h)) h)))))

theorem stepWith_kept {f : State → State} (h : Kept s₀ s) (hf : ∀ {s}, Kept s₀ s → Kept s₀ (f s)) : Kept s₀ (stepWith i j f s) :=
  each_kept (hf h) recordStep_kept

theorem setBase_kept (h : Kept s₀ s) : Kept s₀ (setBase i g s) := updBase_kept h

theorem syncFollow_kept (h : Kept s₀ s) : Kept s₀ (syncFollow s) := each_kept h (fun h => .ite h (raiseSev_kept (wrN_kept h)))

theorem capture_kept (h : Kept s₀ s) : Kept s₀ (capture i s) := updNet_kept h

theorem tbStepEffect_kept (h : Kept s₀ s) : KeptPair s₀ (tbStepEffect i g s) :=
  .ite (.mk h) <| .ite (.mk h) (.mk (syncFollow_kept (stepWith_kept h setBase_kept)))

theorem tbSetEffect_kept (h : Kept s₀ s) : KeptPair s₀ (tbSetEffect i j s) :=
  .ite (.mk h) <| .ite (.mk h) (.mk (syncFollow_kept (stepWith_kept h setBase_kept)))

theorem tbSourceEffect_kept (h : Kept s₀ s) : KeptPair s₀ (tbSourceEffect i j b s) :=
  .ite (.mk h) <|
    .ite (.mk h) <|
    .ite (.mk (dictFull_kept h))
        (.mk (.ite (journalKey_kept (putBytes_kept h))
          (syncFollow_kept (stepWith_kept h (fun h => journalKey_kept (putBytes_kept (setBase_kept h)))))))

theorem tbDeclareEffect_kept (h : Kept s₀ s) : KeptPair s₀ (tbDeclareEffect i j s) :=
  .ite (.mk h) (.mk (syncFollow_kept (updBase_kept h)))

theorem partnerBase_kept (h : Kept s₀ s) : Kept s₀ (partnerBase i j k s) :=
  only_kept (.ite (wr_kept (stepWith_kept h setBase_kept)) (drawn_kept (wr_kept (wr_kept h)))) (fun h => copyEra_kept (wrN_kept h))

theorem partnerFree_kept (h : Kept s₀ s) : Kept s₀ (partnerFree s) := each_kept h updBase_kept

/-! ### Machine/NetOps -/

theorem updPort_kept {f' : SwPort → SwPort} (h : Kept s₀ s) : Kept s₀ (updPort i f' s) := updNet_kept h

theorem updStrm_kept {f' : Stream → Stream} (h : Kept s₀ s) : Kept s₀ (updStrm i f' s) := updNet_kept h

theorem updRed_kept {f' : RedPair → RedPair} (h : Kept s₀ s) : Kept s₀ (updRed i f' s) := updNet_kept h

theorem incStream_kept (h : Kept s₀ s) : Kept s₀ (incStream i j s) := wrBlob_kept h

theorem settleCredit_kept (h : Kept s₀ s) : Kept s₀ (settleCredit i s) := updPort_kept h

theorem cutSending_kept (h : Kept s₀ s) : Kept s₀ (cutSending i s) := by
  dsimp only [cutSending]
  split
  · exact h
  · exact .ite (updPort_kept h) h

theorem expressFirst_kept (h : Kept s₀ s) : Kept s₀ (expressFirst i s) := only_kept h cutSending_kept

theorem startNext_kept (h : Kept s₀ s) : Kept s₀ (startNext i s) :=
  Kept.share
      (fun h =>
        .ite h (by split; exacts [h, (by split; exacts [h, send_kept (updPort_kept (by split; exacts [setStaStatus_kept h, h]))])]))
      (expressFirst_kept (settleCredit_kept h))

theorem setRingState_kept (h : Kept s₀ s) : Kept s₀ (setRingState b i j s) := bufPut_kept h

theorem ringFollow_kept (h : Kept s₀ s) : Kept s₀ (ringFollow i s) := .ite h (only_kept (updStrm_kept h) raiseOwned_kept)

theorem ringEnd_kept {f' : TxFrame} (h : Kept s₀ s) : Kept s₀ (ringEnd f' i j s) := by
  dsimp only [ringEnd]
  split
  · exact .ite h (setRingState_kept (only_kept h (fun h => bufPut_kept (bufPut_kept h))))
  · exact h

theorem dropLate_kept {f' : TxFrame} (h : Kept s₀ s) : Kept s₀ (dropLate i g f' s) :=
  raiseOwned_kept (by split; exacts [setStaStatus_kept (inc_kept h), ringEnd_kept (inc_kept h)])

theorem enqueueOne_kept {f' : TxFrame} (h : Kept s₀ s) : Kept s₀ (enqueueOne i f' s) :=
  .ite (only_kept (inc_kept h) dropLate_kept) <| .ite (dropLate_kept h) (startNext_kept (updPort_kept h))

theorem egress_kept {e : Eth} {f' : TxFrame} (h : Kept s₀ s) : Kept s₀ (egress i t e f' s) := by
  dsimp only [egress]
  split
  · exact enqueueOne_kept h
  · exact enqueueOne_kept (enqueueOne_kept (updRed_kept h))

theorem sendStream_kept {e : Eth} {f' : TxFrame} (h : Kept s₀ s) : Kept s₀ (sendStream i e f' s) :=
  each_kept (incStream_kept (only_kept h updStrm_kept)) egress_kept

theorem learn_kept (h : Kept s₀ s) : Kept s₀ (learn i j b s) := .ite h <| .ite (raise_kept h) (wrN_kept (updNet_kept h))

theorem forward_kept {e : Eth} (h : Kept s₀ s) : Kept s₀ (forward i e s) := each_kept h egress_kept

theorem toInternal_kept {e : Eth} (h : Kept s₀ s) : Kept s₀ (toInternal i e s) := enqueueOne_kept h

/-! ### Machine/SecOps -/

theorem newNonce_kept (h : Kept s₀ s) : Kept s₀ (newNonce i s) := drawn_kept (wrBlob_kept h)

theorem reseed_kept (h : Kept s₀ s) : Kept s₀ (reseed s) := wrN_kept (updSec_kept h)

theorem rngUse_kept (h : Kept s₀ s) : Kept s₀ (rngUse t i s) := each_kept h (fun h => updSec_kept (.ite (reseed_kept h) h))

theorem writeStore_kept (h : Kept s₀ s) : Kept s₀ (writeStore b s) := wrN_kept (wrN_kept (updSec_kept h))

theorem createKeys_kept (h : Kept s₀ s) : Kept s₀ (createKeys b b' s) :=
  wrBlob_kept (wrBlob_kept (wrBlob_kept (writeStore_kept (drawn_kept (drawn_kept (drawn_kept (drawn_kept (drawn_kept (drawn_kept (rngUse_kept h))))))))))

theorem lockParts_kept (h : Kept s₀ s) : Kept s₀ (lockParts t s) := each_kept h (fun h => .ite (wrN_kept h) <| .ite (wrN_kept h) h)

theorem zeroise_kept (h : Kept s₀ s) : Kept s₀ (zeroise s) := lockParts_kept (wrN_kept (updSec_kept h))

theorem destroySealed_kept (h : Kept s₀ s) : Kept s₀ (destroySealed s) :=
  wrN_kept (wrBlob_kept (wrBlob_kept (wrBlob_kept (updSec_kept h))))

theorem cryptoErase_kept (h : Kept s₀ s) : Kept s₀ (cryptoErase s) := by
  unfold cryptoErase
  extract_lets emptied
  have hemptied : Kept s₀ emptied := each_kept (each_kept h wrN_kept) wrN_kept
  clear_value emptied
  exact hemptied.keepsCells rfl rfl (fun c => c.1 / 2 ^ 40 < 100 || 356 ≤ c.1 / 2 ^ 40) rfl rfl rfl

theorem lcTo_kept (h : Kept s₀ s) : Kept s₀ (lcTo i s) :=
  Kept.share (fun h => .ite h (Kept.share (fun h => raise_kept (wrN_kept (.ite (updSec_kept h) h))) (.ite (wrN_kept h) h)))
      (updSec_kept h)

theorem dropKeys_kept (h : Kept s₀ s) : Kept s₀ (dropKeys s) := cryptoErase_kept (destroySealed_kept (zeroise_kept h))

theorem resetIn_kept (h : Kept s₀ s) : Kept s₀ (resetIn i j s) := updGate_kept h

theorem logAlarm_kept (h : Kept s₀ s) : Kept s₀ (logAlarm b s) := wrN_kept (inc_kept (wrBlob_kept h))

theorem eraseResponse_kept (h : Kept s₀ s) : Kept s₀ (eraseResponse i t s) :=
  Kept.share
      (fun h =>
        Kept.share (fun h => .ite h (Kept.share (fun h => enterAlarm_kept (debugEnd_kept (.ite (wrN_kept h) h))) (raise_kept h)))
          (updSec_kept (.ite (updGate_kept h) h))) (wrN_kept (zeroise_kept h))

theorem raiseSource_kept (h : Kept s₀ s) : Kept s₀ (raiseSource i j s) :=
  Kept.share
      (fun h => Kept.share (fun h => .ite (eraseResponse_kept h) <| .ite (enterAlarm_kept h) h) (.ite (updSec_kept h) (raise_kept h)))
      (logAlarm_kept (wrN_kept h))

theorem authFailure_kept (h : Kept s₀ s) : Kept s₀ (authFailure s) := .ite (raiseSource_kept (updSec_kept h)) (updSec_kept h)

theorem restoreStore_kept (h : Kept s₀ s) : Kept s₀ (restoreStore s) := .ite h (raise_kept (wrN_kept (lockParts_kept (updSec_kept h))))

theorem keystoreCheck_kept (h : Kept s₀ s) : Kept s₀ (keystoreCheck s) :=
  .ite h <|
    .ite (wrN_kept h) <|
    .ite (by split; exacts [.ite (restoreStore_kept h) (wrN_kept h), wrN_kept h, lcTo_kept (dropKeys_kept h)])
        (lcTo_kept (dropKeys_kept (raiseSource_kept h)))

theorem pendingSettle_kept (h : Kept s₀ s) : Kept s₀ (pendingSettle s) := by
  dsimp only [pendingSettle]
  split
  · exact h
  · exact .ite (.ite (updSec_kept (destroySealed_kept (zeroise_kept h))) <|
        .ite (updSec_kept h) <|
        .ite (updSec_kept (restoreStore_kept h)) (raise_kept (lcTo_kept (dropKeys_kept h)))) <|
      .ite (lcTo_kept (dropKeys_kept h)) (lcTo_kept h)

theorem latchSettle_kept (h : Kept s₀ s) : Kept s₀ (latchSettle s) :=
  Kept.share
      (fun h =>
        .ite h
          (Kept.share (fun h => wrN_kept (updSec_kept (.ite (lcTo_kept (dropKeys_kept h)) (destroySealed_kept (zeroise_kept h)))))
            (.ite (raise_kept h) h))) (updSec_kept (each_kept h raise_kept))

/-! ### Machine/VoteOps -/

theorem updVoter_kept {f' : Voter → Voter} (h : Kept s₀ s) : Kept s₀ (updVoter i f' s) := updTrestle_kept h

theorem countMismatch_kept (h : Kept s₀ s) : Kept s₀ (countMismatch i s) := wrN_kept (updPl_kept (inc_kept h))

theorem startCopy_kept (h : Kept s₀ s) : Kept s₀ (startCopy i j k t t' s) := updResync_kept h

theorem joinSpare_kept (h : Kept s₀ s) : Kept s₀ (joinSpare i j k s) := by
  unfold joinSpare
  exact updResync_kept (setRole_kept h)

theorem resyncPos_kept (h : Kept s₀ s) : Kept s₀ (resyncPos i j t t' s) :=
  .ite (startCopy_kept h) (by split; exacts [joinSpare_kept h, updResync_kept h])

theorem testSlot_kept (h : Kept s₀ s) : Kept s₀ (testSlot s) := wrN_kept h

theorem toTest_kept (h : Kept s₀ s) : Kept s₀ (toTest i s) := testSlot_kept (updRot_kept (setRole_kept h))

theorem fromTest_kept (h : Kept s₀ s) : Kept s₀ (fromTest i s) := testSlot_kept (updRot_kept h)

theorem fillRebuild_kept (h : Kept s₀ s) : Kept s₀ (fillRebuild i s) :=
  .ite h (only_kept (each_kept h (fun h => placeLane_kept (setRole_kept h))) (fun h => wrN_kept (trTo_kept h)))

theorem startRebuild_kept (h : Kept s₀ s) : Kept s₀ (startRebuild i s) := fillRebuild_kept (trTo_kept h)

theorem trSettle_kept (h : Kept s₀ s) : Kept s₀ (trSettle i s) := .ite (safeHalt_kept h) (startRebuild_kept h)

theorem dropTarget_kept (h : Kept s₀ s) : Kept s₀ (dropTarget i s) :=
  only_kept (updResync_kept h) (fun h => setRole_kept (unplaceLane_kept h))

theorem trFail_kept {ks : List Nat} (h : Kept s₀ s) : Kept s₀ (trFail i j ks s) :=
  .ite h
      (Kept.share (fun h => .ite (requestTakeover_kept (updTrestle_kept h)) (trSettle_kept h))
        (updVoter_kept (trTo_kept (trStatus_kept (wrN_kept (wrN_kept (each_kept
          (each_kept (raise_kept (wrN_kept (dropTarget_kept (.ite (abandonRotation_kept h) h)))) pavFault_kept) (fun h =>
          toTest_kept (unplaceLane_kept h)))))))))

theorem fence_kept {e : Egress} (h : Kept s₀ s) : Kept s₀ (fence i j k e t t' s) :=
  Kept.share
      (fun h =>
        Kept.share (fun h => .ite h (resyncPos_kept (.ite (abandonRotation_kept h) h)))
          (.ite (retireLane_kept (setLaneAt_kept (unplaceLane_kept h))) (setRole_kept h)))
      (raise_kept (updVoter_kept (trTo_kept (trStatus_kept (countMismatch_kept (inc_kept (wrBlob_kept h)))))))

theorem posOdd_kept {e : Egress} (h : Kept s₀ s) : Kept s₀ (posOdd i j k l e t t' s) :=
  Kept.share (fun h => .ite (fence_kept h) <| .ite (trFail_kept h) h) (updVoter_kept h)

theorem vote_kept (h : Kept s₀ s) : Kept s₀ (vote i j k s) := by
  induction k generalizing s with
  | zero => exact h
  | succ k ih =>
    refine .ite (updVoter_kept h) ?_
    split
    · exact ih (posOdd_kept (updVoter_kept h))
    · exact .ite (ih (updVoter_kept (updVoter_kept h))) (updVoter_kept h)
    · exact .ite (updVoter_kept h) (trFail_kept (updVoter_kept h))

theorem rotate_kept (h : Kept s₀ s) : Kept s₀ (rotate i t s) := by
  dsimp only [rotate]
  split
  · exact coverage_kept h
  · exact joinSpare_kept (trStatus_kept (updRot_kept h))

theorem tryRotate_kept (h : Kept s₀ s) : Kept s₀ (tryRotate t s) :=
  .ite h <| .ite (.ite h (raise_kept (inc_kept (updRot_kept h)))) (by split; exacts [rotate_kept h, updRot_kept h])

theorem serveSpares_kept (h : Kept s₀ s) : Kept s₀ (serveSpares s) :=
  each_kept (each_kept h (fun h => (by split; exacts [.ite h (resyncPos_kept h), h]))) fillRebuild_kept

/-! ### Machine/GateOps -/

theorem moduleWdtFail_kept (h : Kept s₀ s) : Kept s₀ (moduleWdtFail i s) := raise_kept (moduleReset_kept (inc_kept (inc_kept h)))

theorem raiseWdt_kept (h : Kept s₀ s) : Kept s₀ (raiseWdt s) := raise_kept h

theorem wdtLock_kept (h : Kept s₀ s) : Kept s₀ (wdtLock s) := raiseWdt_kept (wrN_kept h)

theorem splitEnd_kept (h : Kept s₀ s) : Kept s₀ (splitEnd i s) :=
  .ite h (updResync_kept (startCopy_kept (each_kept h (fun h => only_kept h setRole_kept))))

theorem splitEndAll_kept (h : Kept s₀ s) : Kept s₀ (splitEndAll s) := each_kept h splitEnd_kept

theorem leaveService_kept (h : Kept s₀ s) : Kept s₀ (leaveService s) :=
  .ite h (splitEndAll_kept (each_kept (setMode_kept h) enterStop_kept))

theorem seatFollow_kept (h : Kept s₀ s) : Kept s₀ (seatFollow s) := driveAll_kept (wrN_kept h)

theorem flushStart_kept (h : Kept s₀ s) : Kept s₀ (flushStart s) := .ite h (wrN_kept (updSto_kept (updPow_kept h)))

theorem powerWarning_kept (h : Kept s₀ s) : Kept s₀ (powerWarning i t s) := raise_kept (wrN_kept h)

theorem milestone_kept (h : Kept s₀ s) : Kept s₀ (milestone i s) := .ite h <| .ite (raise_kept (wrN_kept (wrN_kept h))) (wrN_kept h)

theorem trialFail_kept (h : Kept s₀ s) : Kept s₀ (trialFail i s) := moduleReset_kept (updUpd_kept h)

theorem startupFail_kept (h : Kept s₀ s) : Kept s₀ (startupFail i j s) := .ite (trialFail_kept h) (safeHalt_kept h)

theorem wakeUp_kept (h : Kept s₀ s) : Kept s₀ (wakeUp i j s) := moduleReset_kept (inc_kept (wrN_kept (wrN_kept h)))

theorem updOpt_kept {f' : Opt → Opt} (h : Kept s₀ s) : Kept s₀ (updOpt f' s) := .same h

theorem optFrame_kept {f : Bytes → State → Nat × Bytes × State} (h : Kept s₀ s) (hf : ∀ {a s}, Kept s₀ s → KeptTriple s₀ (f a s)) :
    Kept s₀ (optFrame i b f s) :=
  only_kept h fun h => .ite (inc_kept h) (by
    split
    · exact inc_kept h
    · exact only_kept h fun h => .share (fun h => .ite (only_kept h send_kept) (send_kept (updOpt_kept (hf h).third)))
        (inc_kept (updOpt_kept h)))

theorem optEnd_kept (h : Kept s₀ s) : Kept s₀ (optEnd s) :=
  only_kept h fun h => holderGone_kept (by split; exacts [wrN_kept (updOpt_kept h), updOpt_kept h])

theorem optRefused_kept (h : Kept s₀ s) : Kept s₀ (optRefused i s) := authFailure_kept (raise_kept h)

/-! ### Machine/StoOps -/

theorem storjCount_kept (h : Kept s₀ s) : Kept s₀ (storjCount s) := wrN_kept h

theorem openIntent_kept (h : Kept s₀ s) : Kept s₀ (openIntent i j s) := .ite h (storjCount_kept (updSto_kept h))

theorem closeIntent_kept (h : Kept s₀ s) : Kept s₀ (closeIntent i j s) := storjCount_kept (updSto_kept h)

theorem markIntent_kept (h : Kept s₀ s) : Kept s₀ (markIntent i j s) := updSto_kept h

theorem stagingFail_kept (h : Kept s₀ s) : Kept s₀ (stagingFail s) := .ite h (raiseSev_kept (wrN_kept (wrN_kept h)))

theorem storTo_kept (h : Kept s₀ s) : Kept s₀ (storTo i s) :=
  .ite h (Kept.share (fun h => .ite (stagingFail_kept h) h) (raiseSev_kept (wrN_kept h)))

theorem storFollow_kept (h : Kept s₀ s) : Kept s₀ (storFollow s) := .ite (storTo_kept h) h

theorem marginFollow_kept (h : Kept s₀ s) : Kept s₀ (marginFollow s) :=
  storFollow_kept (only_kept (only_kept (wrN_kept (wrN_kept h)) (fun h => raise_kept (raiseSev_kept h))) (fun h =>
      raise_kept (raiseSev_kept h)))

theorem spareLess_kept (h : Kept s₀ s) : Kept s₀ (spareLess i s) := marginFollow_kept (wrN_kept h)

theorem updBlk_kept {f' : NBlk → NBlk} (h : Kept s₀ s) : Kept s₀ (updBlk i j f' s) := updSto_kept h

theorem rawFollow_kept (h : Kept s₀ s) : Kept s₀ (rawFollow s) := wrN_kept (wrN_kept h)

theorem dieFailed_kept (h : Kept s₀ s) : Kept s₀ (dieFailed i j s) :=
  .ite h (storFollow_kept (wrN_kept (spareLess_kept (openIntent_kept (updSto_kept (raise_kept (rawFollow_kept (wrN_kept h))))))))

theorem retireBlock_kept (h : Kept s₀ s) : Kept s₀ (retireBlock i j k s) :=
  .ite h
      (Kept.share (fun h => .ite (dieFailed_kept h) h)
        (spareLess_kept (updSto_kept (raise_kept (rawFollow_kept (inc_kept (inc_kept (updBlk_kept h))))))))

theorem peFollow_kept (h : Kept s₀ s) : Kept s₀ (peFollow i s) := wrN_kept (wrN_kept h)

theorem eraseBlock_kept (h : Kept s₀ s) : Kept s₀ (eraseBlock i j s) := peFollow_kept (updBlk_kept h)

theorem relocate_kept (h : Kept s₀ s) : Kept s₀ (relocate i j k l s) :=
  .ite (only_kept h (fun h => closeIntent_kept (eraseBlock_kept h)))
      (Kept.share
        (fun h =>
          .ite h <|
          .ite (markIntent_kept (updBlk_kept (updBlk_kept h)))
              (closeIntent_kept (eraseBlock_kept (markIntent_kept (updBlk_kept (updBlk_kept h)))))) (openIntent_kept h))

theorem setHeld_kept (h : Kept s₀ s) : Kept s₀ (setHeld i j t s) := updSto_kept h

theorem storeUsage_kept (h : Kept s₀ s) : Kept s₀ (storeUsage i s) := wrN_kept (wrN_kept h)

theorem storePut_kept {data : Option Bytes} (h : Kept s₀ s) : Kept s₀ (storePut i j k data s) := by
  have hdone : ∀ {u : State}, Kept s₀ u → Kept s₀ (match data with
      | some d => store (Mem.pavstore i) j (padTo k d) u
      | none => clearMem (Mem.pavstore i) j k u) := fun h => by split; exacts [store_kept h, clearMem_kept h]
  exact storeUsage_kept (wrN_kept (wrN_kept (only_kept (each_kept (hdone (updSto_kept h)) setHeld_kept) updSto_kept)))

theorem storePlace_kept (h : Kept s₀ s) : Kept s₀ (storePlace i s) := Kept.share (fun h => .ite (wrN_kept h) h) (updSto_kept h)

theorem journalLost_kept (h : Kept s₀ s) : Kept s₀ (journalLost s) := by
  unfold journalLost
  exact updSto_kept (withJournal_kept (each_kept h fun h =>
    storeUsage_kept (store_kept (each_kept (each_kept h setHeld_kept) setHeld_kept))))

/-! ### Machine/FabricOps -/

theorem updFab_kept {f' : Fabric → Fabric} (h : Kept s₀ s) : Kept s₀ (updFab f' s) := .same h

theorem spareRow_kept (h : Kept s₀ s) : Kept s₀ (spareRow i j s) := .ite h (raise_kept (updFab_kept h))

theorem sramCorrect_kept (h : Kept s₀ s) : Kept s₀ (sramCorrect i j s) :=
  Kept.share (fun h => .ite (spareRow_kept h) (updFab_kept h)) (raise_kept (updFab_kept h))

theorem sramLost_kept (h : Kept s₀ s) : Kept s₀ (sramLost i j k s) :=
  Kept.share (fun h => .ite (pavFault_kept h) (settleFault_kept h)) (spareRow_kept (updFab_kept (raise_kept h)))

theorem unpoison_kept (h : Kept s₀ s) : Kept s₀ (unpoison i s) := updFab_kept h

/-! ### Machine/Trestles -/

theorem execVoterRecordArrival_kept (h : Kept s₀ s) : KeptOut s₀ (execVoterRecordArrival i j k l m n b o s) :=
  .next (only_kept h (fun h => .ite (vote_kept (updVoter_kept h)) (only_kept h updVoter_kept)))

theorem execVoterLagExpiry_kept (h : Kept s₀ s) : KeptOut s₀ (execVoterLagExpiry i j k s) :=
  .next (only_kept h (fun h => (by dsimp only; split; exacts [.ite (vote_kept (posOdd_kept h)) h, h])))

theorem laneLocalFault_kept (h : Kept s₀ s) : Kept s₀ (laneLocalFault i j k s) :=
  only_kept h (fun h =>
      .ite (inc_kept h) <|
      .ite (toTest_kept (setLaneAt_kept (updPl_kept (each_kept (raise_kept h) pavFault_kept)))) <|
      .ite (trFail_kept h) <|
      .ite (trFail_kept h) <|
      .ite (posOdd_kept h) <|
      .ite (wrBlob_kept h) <|
      .ite
          (Kept.share
            (fun h =>
              .ite
                (Kept.share (fun h => .ite (abandonRotation_kept h) (resyncPos_kept h))
                  (retireLane_kept (.ite (setLaneAt_kept (unplaceLane_kept h)) h))) (only_kept h startCopy_kept)) (countMismatch_kept h))
          h)

theorem execLaneLocalFault_kept (h : Kept s₀ s) : KeptOut s₀ (execLaneLocalFault i j k s) := .next (laneLocalFault_kept h)

theorem copyDone_kept (h : Kept s₀ s) : Kept s₀ (copyDone i s) :=
  Kept.share
      (fun h =>
        Kept.share
          (fun h =>
            Kept.share
              (fun h =>
                .ite (Kept.share (fun h => .ite h (Kept.share (fun h => .ite (retireLane_kept h) (toTest_kept h)) (unplaceLane_kept h)))
                    (updPl_kept (raise_kept (trStatus_kept (inc_kept (updRot_kept h)))))) <|
                .ite (updPl_kept h) h) (raise_kept (trTo_kept (.ite (trStatus_kept h) (trStatus_kept h)))))
          (.ite (each_kept h (fun h => only_kept h setRole_kept)) (setRole_kept (placeLane_kept h))))
      (inc_kept (updVoter_kept (updResync_kept h)))

theorem execResyncComplete_kept (h : Kept s₀ s) : KeptOut s₀ (execResyncComplete i s) := .next (only_kept h copyDone_kept)

theorem execResyncStarved_kept (h : Kept s₀ s) : KeptOut s₀ (execResyncStarved i s) :=
  .next (only_kept h (fun h => raise_kept (trStatus_kept h)))

theorem execTakeoverWaitExpiry_kept (h : Kept s₀ s) : KeptOut s₀ (execTakeoverWaitExpiry i s) :=
  .next (only_kept h (fun h =>
      (by
        dsimp only
        split
        · exact only_kept (only_kept h (fun h => trSettle_kept (updTrestle_kept h))) safeHalt_kept
        · exact only_kept h (fun h => trSettle_kept (updTrestle_kept h)))))

theorem reloadTcm_kept (h : Kept s₀ s) : Kept s₀ (reloadTcm i s) := each_kept (each_kept h clearMem_kept) placeCode_kept

theorem execTrestleRebuildComplete_kept (h : Kept s₀ s) : KeptOut s₀ (execTrestleRebuildComplete i s) :=
  .next (only_kept h (fun h => coverage_kept (raise_kept (updVoter_kept (trTo_kept (each_kept (reloadTcm_kept h) setRole_kept))))))

theorem execRotationStart_kept (h : Kept s₀ s) : KeptOut s₀ (execRotationStart s) :=
  .next (.ite (tryRotate_kept (updRot_kept h)) <| .ite (tryRotate_kept h) (only_kept h tryRotate_kept))

theorem execRotateNow_kept (h : Kept s₀ s) : KeptOut s₀ (execRotateNow src i s) :=
  .next (command1_kept h (fun h => accept_kept (tryRotate_kept (updRot_kept h))))

theorem execSpareLaneLocked_kept (h : Kept s₀ s) : KeptOut s₀ (execSpareLaneLocked i s) :=
  .next (only_kept h (fun h => (by split; exacts [startCopy_kept h, h])))

theorem execLaneBistComplete_kept (h : Kept s₀ s) : KeptOut s₀ (execLaneBistComplete i t j k s) :=
  .next (only_kept h (fun h =>
      .ite
        (Kept.share
          (fun h =>
            .ite (each_kept (clearMem_kept (updPl_kept (setLaneAt_kept (setRole_kept h)))) placeCode_kept)
              (serveSpares_kept (setRole_kept h))) (updPl_kept (fromTest_kept (wrN_kept (inc_kept h)))))
        (Kept.share (fun h => .ite (serveSpares_kept (retireLane_kept (unplaceLane_kept (fromTest_kept (updPl_kept h))))) h)
          (raise_kept (updPl_kept (inc_kept h))))))

theorem execLaneRetireWrite_kept (h : Kept s₀ s) : KeptOut s₀ (execLaneRetireWrite src i j s) :=
  .next (only_kept h (fun h =>
      command1_kept h (fun h =>
        .ite (.ite (refuse_kept h) (Kept.share (fun h => accept_kept (.ite (tryRotate_kept h) h)) (updPl_kept h))) <|
        .ite (accept_kept (retireLane_kept h)) <|
        .ite (accept_kept (serveSpares_kept (retireLane_kept (unplaceLane_kept (fromTest_kept h))))) <|
        .ite (accept_kept h) (refuse_kept h))))

/-! ### Machine/PairOps -/

theorem putPage_kept (h : Kept s₀ s) : Kept s₀ (putPage i b s) := store_kept h

theorem lagFollow_kept (h : Kept s₀ s) : Kept s₀ (lagFollow s) := wrN_kept h

theorem pairFollow_kept (h : Kept s₀ s) : Kept s₀ (pairFollow s) :=
  Kept.share
      (fun h =>
        only_kept
          (wrN_kept (.ite h (by
            split
            · exact raiseSev_kept (wrN_kept h)
            · exact (by split; exacts [raiseSev_kept (wrN_kept h), raise_kept (wrN_kept h)])))) raise_kept) (lagFollow_kept (wrN_kept h))

theorem keepWrites_kept {f' : Flight} (h : Kept s₀ s) : Kept s₀ (keepWrites f' s) := updPair_kept h

theorem closeNow_kept (h : Kept s₀ s) : Kept s₀ (closeNow t s) := send_kept (wrN_kept (wrN_kept (updPair_kept (.same h))))

theorem epochClose_kept (h : Kept s₀ s) : Kept s₀ (epochClose s) :=
  .ite h <|
    .ite (only_kept h (fun h => closeNow_kept (updPair_kept h))) (by
        split
        · exact raise_kept (inc_kept (updPair_kept h))
        · exact closeNow_kept h)

theorem swapNow_kept (h : Kept s₀ s) : Kept s₀ (swapNow s) := epochClose_kept (wrN_kept (updPair_kept h))

theorem captureOverflow_kept (h : Kept s₀ s) : Kept s₀ (captureOverflow s) := by
  unfold captureOverflow
  split
  · exact h
  · exact raise_kept (inc_kept (keepWrites_kept (updPair_kept (withDirty_kept (send_kept h)))))

theorem epochLost_kept {f' : Flight} (h : Kept s₀ s) : Kept s₀ (epochLost f' s) := keepWrites_kept (updPair_kept h)

theorem payOne_kept {o : Owed} (h : Kept s₀ s) : Kept s₀ (payOne o s) :=
  .ite (reply_kept h) <|
    .ite (Kept.share (fun h => .ite h (send_kept h)) (.ite (.same h) h)) <|
    .ite (sysSend_kept h) <|
    .ite h (send_kept (updSession_kept h))

theorem payOwed_kept (h : Kept s₀ s) : Kept s₀ (payOwed i s) := each_kept (updPair_kept h) payOne_kept

theorem oweFrame_kept (h : Kept s₀ s) : Kept s₀ (oweFrame i j b s) := by
  dsimp only [oweFrame]
  split
  · exact h
  · exact updPair_kept h

theorem dropPartner_kept (h : Kept s₀ s) : Kept s₀ (dropPartner s) := by
  unfold dropPartner
  exact updPair_kept (payOwed_kept h)

theorem applyCarried_kept (h : Kept s₀ s) : Kept s₀ (applyCarried i b s) :=
  .ite h <|
    .ite (journalKey_kept (.same h)) <|
    .ite (.ite (loadProgram_kept h) (unloadProgram_kept h)) <|
    .ite (Kept.share (fun h => .ite (armTable_kept h) (disarmTable_kept h)) (journalKey_kept (putBytes_kept h))) (by
        split
        · exact .ite h (journalKey_kept (putBytes_kept h))
        · exact h)

theorem refSend_kept (h : Kept s₀ s) : Kept s₀ (refSend i b s) := only_kept (only_kept (updPair_kept h) send_kept) send_kept

theorem pairStatusBit_kept (h : Kept s₀ s) : Kept s₀ (pairStatusBit i t s) := wrN_kept h

theorem startRequest_kept (h : Kept s₀ s) : Kept s₀ (startRequest i s) := refSend_kept (updPair_kept h)

theorem seeEpoch_kept {holder : Option Nat} (h : Kept s₀ s) : Kept s₀ (seeEpoch i holder s) :=
  .ite (by split <;> exact wrN_kept (wrN_kept h)) <| .ite (by split; exacts [wrN_kept h, h]) h

theorem enterTakeover_kept (h : Kept s₀ s) : Kept s₀ (enterTakeover s) :=
  raise_kept (fieldFollow_kept (updPair_kept (setMode_kept (updPair_kept (partnerFree_kept (pairStatusBit_kept h))))))

theorem takeoverFail_kept (h : Kept s₀ s) : Kept s₀ (takeoverFail i j s) := safeHalt_kept (raise_kept (updPair_kept h))

theorem restoreValue_kept (h : Kept s₀ s) : Kept s₀ (restoreValue i b s) :=
  .ite (updTot_kept h) <| .ite (updTask_kept h) (putBytes_kept h)

theorem warmRestart_kept (h : Kept s₀ s) : Kept s₀ (warmRestart s) :=
  .ite h (by dsimp only; split; exacts [h, each_kept (each_kept (each_kept h putPage_kept) wrN_kept) restoreValue_kept])

theorem enterActive_kept (h : Kept s₀ s) : Kept s₀ (enterActive i s) :=
  milestone_kept (fieldFollow_kept (updPair_kept (updScan_kept (lanesUp_kept (engineTo_kept (updPair_kept (setMode_kept (warmRestart_kept h))))))))

theorem joinStart_kept (h : Kept s₀ s) : Kept s₀ (joinStart s) := send_kept (updPair_kept h)

theorem enterStandby_kept (h : Kept s₀ s) : Kept s₀ (enterStandby s) :=
  milestone_kept (pairFollow_kept (joinStart_kept (fieldFollow_kept (engineTo_kept (setMode_kept h)))))

theorem firstMode_kept (h : Kept s₀ s) : Kept s₀ (firstMode s) :=
  .ite h <|
    .ite (enterAlarm_kept h) <|
    .ite (milestone_kept (fieldFollow_kept (setMode_kept h))) <|
    .ite (enterActive_kept h) <|
    .ite (enterStandby_kept h) <|
    .ite (enterActive_kept h) h

theorem giveUp_kept (h : Kept s₀ s) : Kept s₀ (giveUp s) :=
  Kept.share
      (fun h =>
        Kept.share (fun h => pairFollow_kept (.ite (moduleReset_kept h) h)) (syncFollow_kept (.ite (wrN_kept h) (joinStart_kept h))))
      (updPair_kept (demote_kept (raise_kept h)))

theorem roleLogic_kept (h : Kept s₀ s) : Kept s₀ (roleLogic s) :=
  Kept.share
      (fun h =>
        .ite (.ite (.ite (enterTakeover_kept h) <| .ite h (raise_kept (pairStatusBit_kept h))) (pairStatusBit_kept h)) <|
        .ite (.ite (giveUp_kept h) <| .ite (pairStatusBit_kept (updPair_kept h)) (pairStatusBit_kept h)) <|
        .ite (firstMode_kept h) h) (only_kept h updPair_kept)

theorem restoreEpoch_kept (h : Kept s₀ s) : Kept s₀ (restoreEpoch s) :=
  canRestore_kept (each_kept
      (wrN_kept (updScan_kept (each_kept
        (wr_kept (each_kept
          (each_kept
            (.same (each_kept (clearMem_kept (clearMem_kept (clearMem_kept (clearMem_kept (each_kept (lanesUp_kept h) reloadTcm_kept)))))
              putPage_kept)) updTask_kept) wrN_kept)) restoreValue_kept))) abortDma_kept)

theorem resumePav_kept (h : Kept s₀ s) : Kept s₀ (resumePav i j s) :=
  .ite h <|
    .ite (raiseScan_kept (wrN_kept (updPav_kept h))) <|
    .ite (raiseScan_kept (wrN_kept (updPav_kept h))) (wdtFollow_kept (wrN_kept (updPav_kept h)))

theorem takeoverDone_kept (h : Kept s₀ s) : Kept s₀ (takeoverDone s) :=
  fieldFollow_kept (pairFollow_kept (updScan_kept (updPair_kept (only_kept
      (raise_kept (inc_kept (wrBlob_kept (each_kept (each_kept (engineTo_kept (setMode_kept h)) resumePav_kept) (fun h =>
        each_kept h doorbell_kept))))) raise_kept))))

/-! ### Machine/RouterOps -/

theorem updRouter_kept {f' : Router → Router} (h : Kept s₀ s) : Kept s₀ (updRouter f' s) := .same h

theorem toRing_kept (h : Kept s₀ s) : Kept s₀ (toRing i j k b l s) := .ite (updRouter_kept h) (recPut_kept (updRouter_kept h))

theorem toChannel_kept {e : RecEnt} (h : Kept s₀ s) : Kept s₀ (toChannel i e s) := updRouter_kept h

theorem toSessions_kept {owner : Option Nat} {e : RecEnt} (h : Kept s₀ s) : Kept s₀ (toSessions i owner e s) := .same h

theorem toEmcy_kept (h : Kept s₀ s) : Kept s₀ (toEmcy i j k s) := each_kept (emcySend_kept h) errorField_kept

theorem takeEvent_kept (h : Kept s₀ s) : Kept s₀ (takeEvent i s) :=
  Kept.share
      (fun h =>
        .ite h
          (Kept.share
            (fun h =>
              emcyFollow_kept (only_kept
                (only_kept (only_kept (by split; exacts [only_kept h toChannel_kept, h]) toEmcy_kept) toSessions_kept) send_kept))
            (only_kept (only_kept (takeSeq_kept (updRouter_kept h)).snd updRouter_kept) toRing_kept))) (updRouter_kept h)

theorem newWindow_kept (h : Kept s₀ s) : Kept s₀ (newWindow s) := updRouter_kept h

theorem eventCfgEffect_kept (h : Kept s₀ s) : KeptPair s₀ (eventCfgEffect i j s) :=
  .ite (.mk h) <| .ite (writeEntry_kept h) (.mk (updRouter_kept (writeEntry_kept h).snd))

theorem fromPartner_kept (h : Kept s₀ s) : Kept s₀ (fromPartner b s) := by
  unfold fromPartner
  exact only_kept h (fun h => recPut_kept (takeSeq_kept h).snd)

/-! ### Machine/HartOps -/

theorem hartExhaust_kept (h : Kept s₀ s) : Kept s₀ (hartExhaust i s) :=
  .ite (hartTo_kept h)
      (Kept.share (fun h => .ite (hartTo_kept h) h) (updHart_kept (by split; exacts [.ite (closeBuf_kept (updHart_kept h)) h, h])))

theorem hartFail_kept (h : Kept s₀ s) : Kept s₀ (hartFail i t s) := Kept.share (fun h => .ite (hartExhaust_kept h) h) (updHart_kept h)

theorem hartEnableEffect_kept (h : Kept s₀ s) : KeptPair s₀ (hartEnableEffect i j s) :=
  writeThen_kept h (fun h => .ite (hartTo_kept h) <| .ite h <| .ite (hartTo_kept h) h)

theorem execHartEnableWrite_kept (h : Kept s₀ s) : KeptOut s₀ (execHartEnableWrite src i j s) :=
  .next (only_kept h (fun h => command_kept h hartEnableEffect_kept))

theorem execHartRequestSend_kept (h : Kept s₀ s) : KeptOut s₀ (execHartRequestSend i s) :=
  .next (only_kept h (fun h => updHart_kept (send_kept h)))

theorem execHartFrameReceive_kept (h : Kept s₀ s) : KeptOut s₀ (execHartFrameReceive i j b t s) :=
  .next (only_kept h (fun h =>
      .ite (only_kept (.ite (inc_kept h) (inc_kept h)) hartFail_kept) <|
      .ite (Kept.share
          (fun h =>
            .ite (hartTo_kept (wrBlob_kept h)) <|
            .ite (stageHart_kept (updHart_kept h)) (by split; exacts [closeBuf_kept (updHart_kept h), h])) (updHart_kept (inc_kept h))) <|
      .ite (only_kept (updHart_kept (inc_kept h)) (fun h => stageHart_kept (updHart_kept h))) (updHart_kept (inc_kept h))))

theorem execHartResponseTimeout_kept (h : Kept s₀ s) : KeptOut s₀ (execHartResponseTimeout i s) :=
  .next (only_kept h (fun h => hartFail_kept (inc_kept h)))

theorem execHartAutoCmdDue_kept (h : Kept s₀ s) : KeptOut s₀ (execHartAutoCmdDue i s) :=
  .next (only_kept h (fun h => stageHart_kept (updHart_kept h)))

theorem execHartNoiseAbort_kept (h : Kept s₀ s) : KeptOut s₀ (execHartNoiseAbort i j s) :=
  .next (only_kept h (fun h => stageHart_kept (only_kept (raiseOwned_kept (updHart_kept (wrN_kept (inc_kept h)))) hartFail_kept)))

theorem execHartNoiseClear_kept (h : Kept s₀ s) : KeptOut s₀ (execHartNoiseClear i s) :=
  .next (only_kept h (fun h => stageHart_kept (updHart_kept (wrN_kept (wrN_kept h)))))

theorem execHartQueueTimeout_kept (h : Kept s₀ s) : KeptOut s₀ (execHartQueueTimeout i s) :=
  .next (only_kept h (fun h => (by split; exacts [only_kept h (fun h => closeBuf_kept (updHart_kept h)), h])))

theorem execHartNoDeviceRetry_kept (h : Kept s₀ s) : KeptOut s₀ (execHartNoDeviceRetry i s) := .next (only_kept h hartTo_kept)

/-! ### Machine/Time -/

theorem execTbStepWrite_kept (h : Kept s₀ s) : KeptOut s₀ (execTbStepWrite src i g s) :=
  .next (only_kept h (fun h => command_kept h tbStepEffect_kept))

theorem execTbSetWrite_kept (h : Kept s₀ s) : KeptOut s₀ (execTbSetWrite src i j s) :=
  .next (only_kept h (fun h => command_kept h tbSetEffect_kept))

theorem execTbSourceChange_kept (h : Kept s₀ s) : KeptOut s₀ (execTbSourceChange src i j b s) :=
  .next (only_kept h (fun h => command_kept h tbSourceEffect_kept))

theorem execTbDeclare_kept (h : Kept s₀ s) : KeptOut s₀ (execTbDeclare src i j s) :=
  .next (only_kept h (fun h => command_kept h tbDeclareEffect_kept))

theorem ptpTo_kept (h : Kept s₀ s) : Kept s₀ (ptpTo i j s) := .ite h (raise_kept (only_kept (wrN_kept h) updPtp_kept))

theorem execPtpSyncReceive_kept (h : Kept s₀ s) : KeptOut s₀ (execPtpSyncReceive i j g g' b k s) :=
  .next (only_kept h (fun h =>
      Kept.share
        (fun h =>
          .ite (syncFollow_kept h)
            (Kept.share (fun h => syncFollow_kept (by split; exacts [h, .ite (stepWith_kept h setBase_kept) (drawn_kept (wr_kept h))]))
              (updPtp_kept h))) (ptpTo_kept (updPtp_kept (wrBlob_kept (wrN_kept (wr_kept (wr_kept h))))))))

theorem execPtpHoldoverExpiry_kept (h : Kept s₀ s) : KeptOut s₀ (execPtpHoldoverExpiry i s) :=
  .next (only_kept h (fun h => syncFollow_kept (updPtp_kept h)))

theorem execOscFailover_kept (h : Kept s₀ s) : KeptOut s₀ (execOscFailover s) :=
  .next (only_kept h (fun h => raise_kept (inc_kept (wrN_kept (each_kept (drawn_kept h) setBase_kept)))))

theorem execRtcUpdate_kept (h : Kept s₀ s) : KeptOut s₀ (execRtcUpdate s) := .next (only_kept h rtcWrite_kept)

theorem execPpsInEdge_kept (h : Kept s₀ s) : KeptOut s₀ (execPpsInEdge i j s) :=
  .next (only_kept h (fun h => updPps_kept (wrN_kept (wrN_kept (capture_kept h)))))

theorem execPpsInLost_kept (h : Kept s₀ s) : KeptOut s₀ (execPpsInLost i s) := .next (only_kept h (fun h => raise_kept (updPps_kept h)))

theorem execPpsOutEdge_kept (h : Kept s₀ s) : KeptOut s₀ (execPpsOutEdge i s) := .next (only_kept h updPps_kept)

theorem execPartnerSyncHoldExpiry_kept (h : Kept s₀ s) : KeptOut s₀ (execPartnerSyncHoldExpiry s) := .next (only_kept h syncFollow_kept)

theorem execLeapSecond_kept (h : Kept s₀ s) : KeptOut s₀ (execLeapSecond s) := .next (only_kept h (fun h => wrN_kept (setEntry_kept h)))

/-! ### Machine/DictOps -/

theorem pavWritten_kept (h : Kept s₀ s) : Kept s₀ (pavWritten i j s) :=
  only_kept (only_kept h admitProgram_kept) (fun h => sweepBuffers_kept (importSweep_kept h))

theorem nodeWritten_kept (h : Kept s₀ s) : Kept s₀ (nodeWritten i s) := only_kept (wrN_kept (updCan_kept h)) nmtStart_kept

theorem writeEffect_kept (h : Kept s₀ s) : Kept s₀ (writeEffect old i s) :=
  .ite (pavWritten_kept h) <|
    .ite (only_kept (.ite (each_kept h (fun h => .ite h (setEntryN_kept h))) h) stageDi_kept) <|
    .ite (only_kept h evalDo_kept) <|
    .ite (stageDiag_kept h) <|
    .ite (only_kept (only_kept h stageIol_kept) evalIol_kept) <|
    .ite (only_kept h adcRestart_kept) <|
    .ite (only_kept h stageAi_kept) <|
    .ite (stageAo_kept (only_kept h evalAo_kept)) <|
    .ite (only_kept h stageHart_kept) <|
    .ite (wrN_kept h) <|
    .ite (wrN_kept h) <|
    .ite (each_kept h (fun h => only_kept h ringFollow_kept)) <|
    .ite (syncFollow_kept (ptpTo_kept h)) <|
    .ite (.ite (.ite h (nodeWritten_kept h)) (only_kept h canStatus_kept)) <|
    .ite (only_kept (histCount_kept h) endSegments_kept) <|
    .ite (only_kept (only_kept h updTot_kept) updTot_kept) <|
    .ite (only_kept h optEnd_kept) <|
    .ite (wrN_kept h) h

theorem afterWrites_kept {ks : List Nat} (h : Kept s₀ s) : Kept s₀ (afterWrites ks s) :=
  only_kept (each_kept h tableWritten_kept) pairFollow_kept

theorem writeDeclared_kept (h : Kept s₀ s) : KeptPair s₀ (writeDeclared i b s) :=
  .ite (.mk (dictFull_kept h)) (.mk (journalKey_kept (.same h)))

theorem putValue_kept (h : Kept s₀ s) : Kept s₀ (putValue i b s) := .ite h (putBytes_kept h)

theorem writeValue_kept (h : Kept s₀ s) : KeptPair s₀ (writeValue i b s) := .ite (writeDeclared_kept h) (writeEntry_kept h)

theorem plainEffect_kept {c : Caller} (h : Kept s₀ s) : KeptPair s₀ (plainEffect src c i b s) :=
  .ite (writeDeclared_kept h) <|
    .ite (.mk h) <|
    .ite (writeValue_kept h) (.mk (afterWrites_kept (writeEffect_kept (writeValue_kept h).snd)))

theorem plainWrite_kept (h : Kept s₀ s) : Kept s₀ (plainWrite src i b s) := by
  dsimp only [plainWrite]
  split
  · exact h
  · exact .ite (reply_kept h) <| .ite (.same h) (answerWrite_kept (plainEffect_kept h).snd)

/-! ### Machine/Gatehouse -/

theorem execGatehouseFault_kept (h : Kept s₀ s) : KeptOut s₀ (execGatehouseFault i s) :=
  .next (only_kept h (fun h => .ite (inc_kept h) (moduleReset_kept h)))

theorem execServiceEnter_kept (h : Kept s₀ s) : KeptOut s₀ (execServiceEnter src s) :=
  .next (command_kept h (fun h => .ite (refuse_kept h) (accept_kept (setMode_kept (updGate_kept h)))))

theorem execServiceLeave_kept (h : Kept s₀ s) : KeptOut s₀ (execServiceLeave src s) :=
  .next (command_kept h (fun h => accept_kept (leaveService_kept h)))

theorem execServiceLimitExpiry_kept (h : Kept s₀ s) : KeptOut s₀ (execServiceLimitExpiry s) := .next (only_kept h leaveService_kept)

theorem execDormantRequest_kept (h : Kept s₀ s) : KeptOut s₀ (execDormantRequest src i s) :=
  .next (command1_kept h (fun h =>
      .ite (refuse_kept h)
        (accept_kept (driveAll_kept (each_kept
          (each_kept (hartListenAll_kept (iolPassiveAll_kept (lanesDown_kept (engineTo_kept (updPow_kept h))))) updAo_kept)
          updDi_kept)))))

theorem execDormantFlushComplete_kept (h : Kept s₀ s) : KeptOut s₀ (execDormantFlushComplete s) :=
  .next (only_kept h (fun h => commitAll_kept (updPow_kept h)))

theorem execDormantReached_kept (h : Kept s₀ s) : KeptOut s₀ (execDormantReached s) :=
  .next (only_kept h (fun h => raise_kept (optEnd_kept (.same (fieldFollow_kept (only_kept (setMode_kept (updPow_kept h)) wrN_kept))))))

theorem execModuleResetCommand_kept (h : Kept s₀ s) : KeptOut s₀ (execModuleResetCommand src i s) :=
  .next (command_kept h (fun h => .ite (refuse_kept h) (accept_kept (resetIn_kept h))))

theorem execModuleReset_kept (h : Kept s₀ s) : KeptOut s₀ (execModuleReset s) :=
  .next (only_kept h (fun h => (by dsimp only; split; exacts [lcTo_kept (moduleReset_kept h), moduleReset_kept h])))

theorem execWdtServiceKeyA_kept (h : Kept s₀ s) : KeptOut s₀ (execWdtServiceKeyA s) :=
  .next (only_kept h (fun h => .ite (moduleWdtFail_kept h) (updGate_kept h)))

theorem execWdtServiceKeyB_kept (h : Kept s₀ s) : KeptOut s₀ (execWdtServiceKeyB s) :=
  .next (only_kept h (fun h => .ite (moduleWdtFail_kept h) (updGate_kept (wrN_kept h))))

theorem execWdtForeignService_kept (h : Kept s₀ s) : KeptOut s₀ (execWdtForeignService t src i s) :=
  .next (only_kept h (fun h => .ite (by split; exacts [h, .ite (reply_kept h) (raise_kept (reply_kept h))]) (raise_kept h)))

theorem execWdtTimeout_kept (h : Kept s₀ s) : KeptOut s₀ (execWdtTimeout s) := .next (only_kept h moduleWdtFail_kept)

theorem execWdtKeyBTimeout_kept (h : Kept s₀ s) : KeptOut s₀ (execWdtKeyBTimeout s) := .next (only_kept h moduleWdtFail_kept)

theorem execWdtKeyWrite_kept (h : Kept s₀ s) : KeptOut s₀ (execWdtKeyWrite src i s) :=
  .next (command_kept h (fun h =>
      .ite (refuse_kept h) <|
      .ite (accept_kept (only_kept (updGate_kept h) (fun h => raiseWdt_kept (wrN_kept h)))) (accept_kept (updGate_kept h))))

theorem execWdtLockWrite_kept (h : Kept s₀ s) : KeptOut s₀ (execWdtLockWrite src i s) :=
  .next (command_kept h (fun h => .ite (accept_kept (wdtLock_kept h)) (refuse_kept h)))

theorem execWdtEnableWrite_kept (h : Kept s₀ s) : KeptOut s₀ (execWdtEnableWrite src i s) :=
  .next (command1_kept h (fun h => accept_kept (only_kept h (fun h => wrN_kept (updGate_kept h)))))

theorem readTemp_kept (h : Kept s₀ s) : Kept s₀ (readTemp i g s) :=
  Kept.share (fun h => .ite h (raiseSev_kept (wrN_kept (wrN_kept (updGate_kept h))))) (only_kept (wr_kept h) wr_kept)

theorem execTemperatureSample_kept {vals : List Int} (h : Kept s₀ s) : KeptOut s₀ (execTemperatureSample vals s) :=
  .next (only_kept h (fun h => each_kept h readTemp_kept))

theorem execTemperatureCritExpiry_kept (h : Kept s₀ s) : KeptOut s₀ (execTemperatureCritExpiry i s) :=
  .next (only_kept h (fun h => settleFault_kept (updGate_kept h)))

theorem execRailStateChange_kept (h : Kept s₀ s) : KeptOut s₀ (execRailStateChange i j k s) :=
  .next (only_kept h (fun h =>
      only_kept (wrN_kept h) (fun h => only_kept (raiseSev_kept (wrN_kept (wrN_kept (updGate_kept h)))) settleFault_kept)))

theorem execVibrationSpectrum_kept {rms : List Nat} {total : List Nat} (h : Kept s₀ s) : KeptOut s₀ (execVibrationSpectrum rms total s) :=
  .next (only_kept h (fun h => each_kept (wrBlob_kept (wrBlob_kept h)) raise_kept))

theorem execShockStart_kept (h : Kept s₀ s) : KeptOut s₀ (execShockStart i j k l s) := .next (only_kept h updGate_kept)

theorem execShockEnd_kept (h : Kept s₀ s) : KeptOut s₀ (execShockEnd i j k l s) :=
  .next (only_kept h (fun h => (by split; exacts [h, raise_kept (wrBlob_kept (wrBlob_kept (inc_kept (updGate_kept h))))])))

theorem execHumiditySample_kept (h : Kept s₀ s) : KeptOut s₀ (execHumiditySample i j s) :=
  .next (only_kept h (fun h =>
      Kept.share (fun h => .ite (updGate_kept h) (only_kept (updGate_kept h) (fun h => raise_kept (updGate_kept h))))
        (wrN_kept (wrN_kept h))))

theorem contCheck_kept (h : Kept s₀ s) : Kept s₀ (contCheck i j k l s) := .ite (raiseSev_kept (wrN_kept h)) <| .ite (wrN_kept h) h

theorem execContactSenseMeasure_kept {mohm : List Nat} (h : Kept s₀ s) : KeptOut s₀ (execContactSenseMeasure mohm s) :=
  .next (only_kept h (fun h =>
      (by
        dsimp only
        split
        · exact only_kept (each_kept (each_kept h (fun h => wrN_kept (updGate_kept h))) updGate_kept) (fun h =>
              updGate_kept (each_kept h wrN_kept))
        · exact each_kept (each_kept h (fun h => wrN_kept (updGate_kept h))) (fun h => contCheck_kept (contCheck_kept h)))))

theorem rebase_kept (h : Kept s₀ s) : Kept s₀ (rebase s) := updGate_kept h

theorem execContactRebase_kept (h : Kept s₀ s) : KeptOut s₀ (execContactRebase src i s) :=
  .next (command1_kept h (fun h => accept_kept (rebase_kept h)))

theorem execWearLedgerUpdate_kept (h : Kept s₀ s) : KeptOut s₀ (execWearLedgerUpdate s) :=
  .next (only_kept h (fun h =>
      wrN_kept (wrN_kept (each_kept (only_kept (updSec_kept (only_kept (updSec_kept (updGate_kept h)) inc_kept)) wrBlob_kept) (fun h =>
        only_kept (updSec_kept h) inc_kept)))))

theorem execServiceEthFrame_kept (h : Kept s₀ s) : KeptOut s₀ (execServiceEthFrame i s) :=
  .next (only_kept h (fun h => Kept.share (fun h => .ite (wrN_kept h) (inc_kept h)) (updGate_kept (.ite (updGate_kept h) h))))

theorem execServiceLinkChange_kept (h : Kept s₀ s) : KeptOut s₀ (execServiceLinkChange i s) :=
  .next (only_kept h (fun h => raise_kept (wrN_kept h)))

theorem execOptStatus_kept (h : Kept s₀ s) : KeptOut s₀ (execOptStatus b s) := .next (optFrame_kept h (fun h => .mk h))

theorem execOptChallenge_kept (h : Kept s₀ s) : KeptOut s₀ (execOptChallenge b s) :=
  .next (optFrame_kept h (fun h => .ite (.mk h) (.mk (rngUse_kept (drawn_kept (updOpt_kept h))))))

theorem execOptAuth_kept (h : Kept s₀ s) : KeptOut s₀ (execOptAuth b t s) :=
  .next (optFrame_kept h (fun h => .ite (.mk h) <| .ite (.mk (optRefused_kept h)) <| .ite (.mk h) (.mk (wrN_kept (updOpt_kept h)))))

theorem execOptClose_kept (h : Kept s₀ s) : KeptOut s₀ (execOptClose b s) := .next (optFrame_kept h (fun h => .mk (optEnd_kept h)))

theorem execOptIdleTimeout_kept (h : Kept s₀ s) : KeptOut s₀ (execOptIdleTimeout s) := .next (only_kept h optEnd_kept)

theorem execOptFloodInterval_kept (h : Kept s₀ s) : KeptOut s₀ (execOptFloodInterval t i j s) :=
  .next (only_kept h (fun h =>
      .ite (only_kept (updOpt_kept (wrN_kept (wrN_kept h))) (fun h => raise_kept (wrN_kept (updOpt_kept h))))
        (only_kept (updOpt_kept (wrN_kept h)) (fun h => raise_kept (wrN_kept (updOpt_kept h))))))

/-! ### Machine/Net -/

theorem execPortLinkChange_kept (h : Kept s₀ s) : KeptOut s₀ (execPortLinkChange i j s) :=
  .next (only_kept h (fun h =>
      startNext_kept (raiseSev_kept (only_kept
        (.ite (wrN_kept h) (each_kept (wrN_kept (wrN_kept (updPort_kept (wrN_kept h)))) dropLate_kept)) wrN_kept))))

theorem ringReceive_kept (h : Kept s₀ s) : Kept s₀ (ringReceive i j b s) :=
  Kept.share
      (fun h =>
        .ite h <|
        .ite (raiseOwned_kept (incStream_kept h))
            (setRingState_kept (updStrm_kept (bufPut_kept (bufPut_kept (bufPut_kept (bufPut_kept h))))))) (ringFollow_kept h)

theorem streamDrop_kept (h : Kept s₀ s) : Kept s₀ (streamDrop i j k s) := raiseOwned_kept (incStream_kept h)

theorem inStream_kept {e : Eth} (h : Kept s₀ s) : Kept s₀ (inStream i j b e s) :=
  .ite (streamDrop_kept h) <|
    .ite (streamDrop_kept h)
        (Kept.share
          (fun h =>
            .ite (streamDrop_kept h)
              (Kept.share
                (fun h =>
                  .ite (incStream_kept h)
                    (Kept.share (fun h => .ite (forward_kept h) <| .ite (toInternal_kept h) (ringReceive_kept h)) (incStream_kept h)))
                (.ite (updStrm_kept h) h))) (.ite (updStrm_kept h) h))

theorem redTo_kept (h : Kept s₀ s) : Kept s₀ (redTo i j k l s) := .ite h (raiseSev_kept (wrN_kept h))

theorem redReceive_kept {e : Eth} (h : Kept s₀ s) : KeptPair s₀ (redReceive i j k e s) :=
  Kept.share
      (fun h =>
        .ite (.mk h)
          (Kept.share
            (fun h =>
              Kept.share
                (fun h => .ite (.mk (wrN_kept h)) <| .ite (.mk (wrN_kept (wrN_kept h))) (.mk (only_kept (wrN_kept h) enqueueOne_kept)))
                (.ite (updRed_kept h) h)) (updRed_kept (only_kept h inc_kept)))) (redTo_kept (updRed_kept h))

theorem execFrameReceive_kept (h : Kept s₀ s) : KeptOut s₀ (execFrameReceive i b t s) := by
  have hred : ∀ {r : Option (Nat × Nat)} {e : Eth} {u : State}, Kept s₀ u → KeptPair s₀ (match r with
      | some (r, side) => redReceive r side i e u
      | none => (some e, u)) := fun h => by split; exacts [redReceive_kept h, .mk h]
  refine .next (only_kept h fun h => .ite (inc_kept h) <| .ite (wrN_kept h) ?_)
  dsimp only
  split
  · exact (hred (wrN_kept h)).snd
  · split
    · exact inStream_kept (hred (wrN_kept h)).snd
    · exact .share (fun h => .ite (toInternal_kept h) (forward_kept h)) (.ite (learn_kept (hred (wrN_kept h)).snd) (hred (wrN_kept h)).snd)

theorem execFdbAgeing_kept (h : Kept s₀ s) : KeptOut s₀ (execFdbAgeing s) := .next (only_kept h (fun h => wrN_kept (updNet_kept h)))

theorem execFdbFlush_kept (h : Kept s₀ s) : KeptOut s₀ (execFdbFlush src i s) :=
  .next (command1_kept h (fun h => accept_kept (wrN_kept (updNet_kept h))))

theorem execFrerResetTimeout_kept (h : Kept s₀ s) : KeptOut s₀ (execFrerResetTimeout i s) := .next (only_kept h updStrm_kept)

theorem pollRing_kept (h : Kept s₀ s) : Kept s₀ (pollRing i s) :=
  Kept.share (fun h => .ite h (Kept.share (fun h => .ite (setRingState_kept h) (sendStream_kept h)) (updStrm_kept h))) (ringFollow_kept h)

theorem execRingTxPoll_kept (h : Kept s₀ s) : KeptOut s₀ (execRingTxPoll s) :=
  .next (only_kept h (fun h => each_kept (updNet_kept h) pollRing_kept))

theorem execGateApply_kept (h : Kept s₀ s) : KeptOut s₀ (execGateApply src i j s) :=
  .next (only_kept h (fun h => command1_kept h (fun h => .ite (.mk h) (accept_kept (wrN_kept (updPort_kept h))))))

theorem execGateListSwitch_kept (h : Kept s₀ s) : KeptOut s₀ (execGateListSwitch i s) :=
  .next (only_kept h (fun h =>
      (by split; exacts [only_kept h (fun h => startNext_kept (raise_kept (wrN_kept (wrN_kept (updPort_kept h))))), h])))

theorem execGateIntervalEnd_kept (h : Kept s₀ s) : KeptOut s₀ (execGateIntervalEnd i s) :=
  .next (only_kept h (fun h =>
      (by
        dsimp only
        split
        · exact .ite (startNext_kept (cutSending_kept (settleCredit_kept h))) <| .ite (startNext_kept h) h
        · exact startNext_kept h)))

theorem execPreemptVerify_kept (h : Kept s₀ s) : KeptOut s₀ (execPreemptVerify i t s) :=
  .next (only_kept h (fun h => .ite (startNext_kept (wrN_kept h)) (raise_kept (wrN_kept h))))

theorem execRedSupervisionSend_kept (h : Kept s₀ s) : KeptOut s₀ (execRedSupervisionSend i s) :=
  .next (only_kept h (fun h => egress_kept (updRed_kept h)))

theorem execRedLanDown_kept (h : Kept s₀ s) : KeptOut s₀ (execRedLanDown i j s) := .next (only_kept h redTo_kept)

theorem execFrameTransmitComplete_kept (h : Kept s₀ s) : KeptOut s₀ (execFrameTransmitComplete i s) :=
  .next (only_kept h (fun h =>
      (by
        dsimp only
        split
        · exact only_kept h (fun h => startNext_kept (ringEnd_kept (wrN_kept (updPort_kept (settleCredit_kept h)))))
        · exact h)))

theorem execLaunchTimeReached_kept (h : Kept s₀ s) : KeptOut s₀ (execLaunchTimeReached i s) :=
  .next (only_kept h (fun h => startNext_kept (updPort_kept h)))

theorem execLaunchLateDrop_kept (h : Kept s₀ s) : KeptOut s₀ (execLaunchLateDrop i s) :=
  .next (only_kept h (fun h => each_kept (updPort_kept h) dropLate_kept))

/-! ### Machine/PairCmd -/

theorem execTakeoverReqWrite_kept (h : Kept s₀ s) : KeptOut s₀ (execTakeoverReqWrite src i s) :=
  .next (command1_kept h (fun h => .ite (refuse_kept h) (accept_kept (send_kept (requestTakeover_kept h)))))

theorem execHandoverRequest_kept (h : Kept s₀ s) : KeptOut s₀ (execHandoverRequest src i s) :=
  .next (command1_kept h (fun h =>
      .ite (refuse_kept h) (accept_kept (fieldFollow_kept (send_kept (updPair_kept (setMode_kept (wrN_kept h))))))))

theorem execPairRejoin_kept (h : Kept s₀ s) : KeptOut s₀ (execPairRejoin src i s) :=
  .next (command1_kept h (fun h => .ite (refuse_kept h) (accept_kept (pairFollow_kept (joinStart_kept h)))))

/-! ### Machine/Pavilions -/

theorem execPavLoad_kept (h : Kept s₀ s) : KeptOut s₀ (execPavLoad src i s) :=
  .next (only_kept h (fun h => command_kept h (fun h => .ite (refuse_kept h) (accept_kept (loadProgram_kept h)))))

theorem execPavUnload_kept (h : Kept s₀ s) : KeptOut s₀ (execPavUnload src i s) :=
  .next (only_kept h (fun h => command_kept h (fun h => .ite (refuse_kept h) (accept_kept (unloadProgram_kept h)))))

theorem execRegionArm_kept (h : Kept s₀ s) : KeptOut s₀ (execRegionArm src i s) :=
  .next (only_kept h (fun h => command_kept h (fun h => writeThen_kept h armTable_kept)))

theorem execRegionDisarm_kept (h : Kept s₀ s) : KeptOut s₀ (execRegionDisarm src i s) :=
  .next (only_kept h (fun h => command_kept h (fun h => writeThen_kept h disarmTable_kept)))

theorem dmaTo_kept (h : Kept s₀ s) : Kept s₀ (dmaTo i j k s) := wrN_kept (updPav_kept h)

theorem execDmaTransferComplete_kept (h : Kept s₀ s) : KeptOut s₀ (execDmaTransferComplete i j t k s) :=
  .next (by
      split
      · exact h
      · exact .ite (dmaTo_kept (store_kept h))
            (Kept.share (fun h => .ite (sramLost_kept h) (pavFault_kept h)) (raiseDma_kept (dmaTo_kept h))))

theorem wdtFail_kept (h : Kept s₀ s) : Kept s₀ (wdtFail i j s) := raiseProt_kept (pavFault_kept (inc_kept h))

theorem execPavWdtExpiry_kept (h : Kept s₀ s) : KeptOut s₀ (execPavWdtExpiry i s) := .next (only_kept h wdtFail_kept)

theorem pavWdtStop_kept (h : Kept s₀ s) : Kept s₀ (pavWdtStop i s) := by
  unfold pavWdtStop
  exact raiseProt_kept (wdtFollow_kept (updPav_kept h))

theorem execPavWdtKey_kept (h : Kept s₀ s) : KeptOut s₀ (execPavWdtKey src i j s) :=
  .next (only_kept h (fun h =>
      command_kept h (fun h =>
        .ite (refuse_kept h) <|
        .ite (accept_kept (only_kept (pavWdtStop_kept (updPav_kept h)) (fun h => .same h))) (accept_kept (updPav_kept h)))))

theorem pavWdtEnableEffect_kept (h : Kept s₀ s) : KeptPair s₀ (pavWdtEnableEffect i s) :=
  .ite (accept_kept h) (accept_kept (wdtFollow_kept (updPav_kept h)))

theorem execPavWdtEnable_kept (h : Kept s₀ s) : KeptOut s₀ (execPavWdtEnable src i j s) :=
  .next (only_kept h (fun h => command1_kept h pavWdtEnableEffect_kept))

theorem execPavWdtLock_kept (h : Kept s₀ s) : KeptOut s₀ (execPavWdtLock src i j s) :=
  .next (only_kept h (fun h =>
      command_kept h (fun h => .ite (writeThen_kept h (fun h => h)) <| .ite (refuse_kept h) (writeThen_kept h (fun h => h)))))

/-! ### Machine/Records -/

theorem execArchiveCopy_kept (h : Kept s₀ s) : KeptOut s₀ (execArchiveCopy s) :=
  .next (only_kept h (fun h => (by split; exacts [h, archivePut_kept (updRec_kept h)])))

theorem execRecFreeze_kept (h : Kept s₀ s) : KeptOut s₀ (execRecFreeze src s) :=
  .next (command_kept h (fun h => .ite (.mk h) <| .ite (.mk h) (accept_kept (raise_kept (wrN_kept (updRec_kept h))))))

theorem execRecUnfreeze_kept (h : Kept s₀ s) : KeptOut s₀ (execRecUnfreeze src s) :=
  .next (command_kept h (fun h => .ite (accept_kept h) <| .ite (accept_kept (recMerge_kept h)) (.mk h)))

theorem execRecFreezeTimeout_kept (h : Kept s₀ s) : KeptOut s₀ (execRecFreezeTimeout s) := .next (only_kept h recMerge_kept)

theorem ringClear_kept {f' : RecEnt → Bool} (h : Kept s₀ s) : Kept s₀ (ringClear f' s) :=
  ringEdges_kept (updRec_kept (each_kept h store_kept))

theorem doClear_kept (h : Kept s₀ s) : Kept s₀ (doClear i j k l b s) :=
  inc_kept (wrBlob_kept (ringWrite_kept (drawn_kept (takeSeq_kept (wrN_kept (wrN_kept (wrN_kept (updRec_kept (ringClear_kept h)))))).snd)))

theorem clearAttempt_kept {check : State → Nat} (h : Kept s₀ s) : Kept s₀ (clearAttempt i src j b check k l s) := by
  dsimp only [clearAttempt]
  split
  · exact h
  · exact .ite (reply_kept (newNonce_kept (doClear_kept h))) <| .ite (reply_kept (newNonce_kept (raise_kept (inc_kept h)))) (reply_kept h)

theorem execRecClearToken_kept (h : Kept s₀ s) : KeptOut s₀ (execRecClearToken src b t s) := .next (clearAttempt_kept h)

theorem execRecClearKeyswitch_kept (h : Kept s₀ s) : KeptOut s₀ (execRecClearKeyswitch src i t s) :=
  .next (clearAttempt_kept (wrB_kept h))

theorem execRecqQuery_kept (h : Kept s₀ s) : KeptOut s₀ (execRecqQuery src b s) :=
  .next (command_kept h (fun h => (by dsimp only; split; exacts [.mk h, .ite (.mk h) (accept_kept (updRec_kept h))])))

theorem execHistqQuery_kept (h : Kept s₀ s) : KeptOut s₀ (execHistqQuery src b s) :=
  .next (command_kept h (fun h =>
      (by dsimp only; split; exacts [.mk h, .ite (.mk h) <| .ite (.mk h) <| .ite (.mk h) (accept_kept (updRec_kept h))])))

theorem histTagTableEffect_kept (h : Kept s₀ s) : KeptPair s₀ (histTagTableEffect i j b s) :=
  .ite (.mk h) (writeThen_kept (each_kept h endSegment_kept) histCount_kept)

theorem execHistTagTableWrite_kept (h : Kept s₀ s) : KeptOut s₀ (execHistTagTableWrite src i j b s) :=
  .next (only_kept h (fun h => command_kept h histTagTableEffect_kept))

theorem execHistBufferOverflow_kept (h : Kept s₀ s) : KeptOut s₀ (execHistBufferOverflow s) :=
  .next (only_kept h (fun h => endSegments_kept (inc_kept (updHist_kept h))))

theorem execHistBufferDrained_kept (h : Kept s₀ s) : KeptOut s₀ (execHistBufferDrained s) :=
  .next (only_kept h (fun h => only_kept (histDrain_kept h) (fun h => updHist_kept (raise_kept h))))

/-! ### Machine/Router -/

theorem execRouterTakeEvent_kept (h : Kept s₀ s) : KeptOut s₀ (execRouterTakeEvent s) := .next (by split; exacts [takeEvent_kept h, h])

theorem execEventRateWindow_kept (h : Kept s₀ s) : KeptOut s₀ (execEventRateWindow s) := .next (only_kept h newWindow_kept)

theorem execEventConfigWrite_kept (h : Kept s₀ s) : KeptOut s₀ (execEventConfigWrite src i j s) :=
  .next (only_kept h (fun h => command_kept h eventCfgEffect_kept))

theorem execEventChannelPop_kept (h : Kept s₀ s) : KeptOut s₀ (execEventChannelPop i s) := .next (only_kept h updRouter_kept)

theorem execEventOverflowClear_kept (h : Kept s₀ s) : KeptOut s₀ (execEventOverflowClear i j s) := .next (only_kept h updRouter_kept)

theorem execPartnerEventReceive_kept (h : Kept s₀ s) : KeptOut s₀ (execPartnerEventReceive b s) := .next (fromPartner_kept h)

/-! ### Machine/Safety -/

theorem execSpHeartbeat_kept (h : Kept s₀ s) : KeptOut s₀ (execSpHeartbeat t s) :=
  .next (only_kept h (fun h => .ite (updIsl_kept h) (islandFault_kept h)))

theorem execParapetWatchdogExpiry_kept (h : Kept s₀ s) : KeptOut s₀ (execParapetWatchdogExpiry s) := .next (only_kept h islandFault_kept)

theorem execIslandSupplyCheck_kept (h : Kept s₀ s) : KeptOut s₀ (execIslandSupplyCheck t i j s) :=
  .next (only_kept h (fun h => only_kept (updIsl_kept h) islandFault_kept))

theorem execLockstepFault_kept (h : Kept s₀ s) : KeptOut s₀ (execLockstepFault s) := .next (only_kept h islandFault_kept)

theorem execTestPulse_kept {cross : List Nat} (h : Kept s₀ s) : KeptOut s₀ (execTestPulse i t cross s) :=
  .next (only_kept h (fun h =>
      each_kept (.ite (wrN_kept h) (islandFault_kept h)) (fun h =>
        Kept.share (fun h => .ite h <| .ite (pairFault_kept h) <| .ite (pairFault_kept h) h) (updPairIn_kept h))))

theorem toDemand_kept (h : Kept s₀ s) : Kept s₀ (toDemand i s) :=
  Kept.share (fun h => Kept.share (fun h => .ite (each_kept h updGrp_kept) h) (.ite (inc_kept h) h)) (wrN_kept (wrN_kept h))

theorem toEnable_kept (h : Kept s₀ s) : Kept s₀ (toEnable i s) := wrN_kept (updPairIn_kept h)

theorem execSafeInputFilterExpiry_kept (h : Kept s₀ s) : KeptOut s₀ (execSafeInputFilterExpiry i j k l s) :=
  .next (only_kept h (fun h =>
      (by
        dsimp only
        split
        · exact .ite (Kept.share (fun h => .ite h (updPairIn_kept (wrN_kept h))) (toDemand_kept h)) h
        · exact .ite (toEnable_kept h) <| .ite (updPairIn_kept (wrN_kept h)) h
        · exact .ite (.ite (toEnable_kept h) (toDemand_kept h)) h
        · exact .ite (toDemand_kept h) h)))

theorem execSafeInputDiscrepancyExpiry_kept (h : Kept s₀ s) : KeptOut s₀ (execSafeInputDiscrepancyExpiry i s) :=
  .next (only_kept h pairFault_kept)

theorem execSafeInputChannelDisagree_kept (h : Kept s₀ s) : KeptOut s₀ (execSafeInputChannelDisagree i j s) :=
  .next (only_kept h pairFault_kept)

theorem encFault_kept (h : Kept s₀ s) : Kept s₀ (encFault i j k s) :=
  Kept.share (fun h => .ite h (only_kept (raiseOwned_kept (wrN_kept h)) (fun h => grpLatch_kept (removeTorque_kept h)))) (updIsl_kept h)

theorem execEncoderGate_kept (h : Kept s₀ s) : KeptOut s₀ (execEncoderGate i g g' t t' s) :=
  .next (only_kept h (fun h =>
      only_kept
        (updIsl_kept (only_kept (only_kept (only_kept (wr_kept (wr_kept (wr_kept h))) encFault_kept) encFault_kept) encFault_kept))
        encFault_kept))

theorem execEncoderFaultClear_kept (h : Kept s₀ s) : KeptOut s₀ (execEncoderFaultClear i j s) := .next (only_kept h wrN_kept)

theorem enterSs1_kept (h : Kept s₀ s) : Kept s₀ (enterSs1 i s) := grpTo_kept (updGrp_kept h)

theorem ss1Check_kept (h : Kept s₀ s) : Kept s₀ (ss1Check i j s) :=
  .ite (only_kept h removeTorque_kept)
      (Kept.share
        (fun h =>
          .ite (grpLatch_kept (removeTorque_kept h)) <|
          .ite (removeTorque_kept h) (Kept.share (fun h => .ite (removeTorque_kept h) (only_kept h removeTorque_kept)) (updGrp_kept h)))
        (updGrp_kept h))

theorem evalGroup_kept (h : Kept s₀ s) : Kept s₀ (evalGroup i j s) :=
  Kept.share
      (fun h =>
        .ite h <|
        .ite (removeTorque_kept h) (by
            split
            · exact removeTorque_kept h
            · exact .ite (only_kept h removeTorque_kept) <| .ite (only_kept h enterSs1_kept) (ss1Check_kept h))) (.ite (updGrp_kept h) h)

theorem execGroupEvaluation_kept (h : Kept s₀ s) : KeptOut s₀ (execGroupEvaluation i s) :=
  .next (only_kept h (fun h => each_kept h evalGroup_kept))

theorem execStoReset_kept (h : Kept s₀ s) : KeptOut s₀ (execStoReset i t s) :=
  .next (only_kept h (fun h =>
      Kept.share (fun h => .ite h (grpTo_kept (updGrp_kept (each_kept (wrN_kept (wrN_kept h)) (fun h => wrN_kept (updIsl_kept h))))))
        (updGrp_kept h)))

theorem execEnableSequenceStep_kept {rb : List Nat} (h : Kept s₀ s) : KeptOut s₀ (execEnableSequenceStep i rb s) :=
  .next (only_kept h (fun h =>
      Kept.share
        (fun h =>
          .ite (.ite (removeTorque_kept (each_kept h outFault_kept)) <|
            .ite (only_kept h (fun h => each_kept (updGrp_kept h) updIsl_kept))
                (only_kept h (fun h => each_kept (updGrp_kept h) updIsl_kept))) <|
          .ite (grpTo_kept (updGrp_kept (updIsl_kept (each_kept h wrN_kept))))
              (only_kept h (fun h => removeTorque_kept (each_kept h outFault_kept)))) (each_kept h wrN_kept)))

theorem execCrossLinkRemoval_kept (h : Kept s₀ s) : KeptOut s₀ (execCrossLinkRemoval i j s) :=
  .next (only_kept h (fun h => updGrp_kept (updIsl_kept (each_kept h openSwitch_kept))))

theorem execChannelDiscrepancy_kept (h : Kept s₀ s) : KeptOut s₀ (execChannelDiscrepancy i s) := .next (only_kept h islandFault_kept)

theorem execOffPulseSlotStart_kept (h : Kept s₀ s) : KeptOut s₀ (execOffPulseSlotStart t s) :=
  .next (only_kept h (fun h => each_kept (updIsl_kept h) (fun h => updTest_kept (updIsl_kept h))))

theorem execOffPulseClose_kept (h : Kept s₀ s) : KeptOut s₀ (execOffPulseClose i s) :=
  .next (only_kept h (fun h => updTest_kept (updIsl_kept h)))

theorem execOffPulseVerdict_kept (h : Kept s₀ s) : KeptOut s₀ (execOffPulseVerdict i t t' j k s) :=
  .next (only_kept h (fun h =>
      Kept.share (fun h => .ite (outFault_kept h) <| .ite (outFault_kept h) (inc_kept h)) (wrN_kept (wrN_kept (updTest_kept h)))))

theorem execExternalVoltage_kept (h : Kept s₀ s) : KeptOut s₀ (execExternalVoltage i j k s) :=
  .next (only_kept h (fun h => outFault_kept (wrN_kept h)))

theorem execSafeOutputOverload_kept (h : Kept s₀ s) : KeptOut s₀ (execSafeOutputOverload i j s) := .next (only_kept h outFault_kept)

theorem execConfigCrcCheck_kept (h : Kept s₀ s) : KeptOut s₀ (execConfigCrcCheck i t s) :=
  .next (only_kept h (fun h => only_kept (updIsl_kept h) islandFault_kept))

theorem execStatusBlockPublish_kept (h : Kept s₀ s) : KeptOut s₀ (execStatusBlockPublish s) := .next (only_kept h stage_kept)

theorem safetyStagedEffect_kept (h : Kept s₀ s) : KeptPair s₀ (safetyStagedEffect i b s) := writeThen_kept h stagedChanged_kept

theorem execSafetyStagedWrite_kept (h : Kept s₀ s) : KeptOut s₀ (execSafetyStagedWrite src i j b s) :=
  .next (only_kept h (fun h => command_kept h safetyStagedEffect_kept))

theorem safetyDiscardEffect_kept (h : Kept s₀ s) : KeptPair s₀ (safetyDiscardEffect s) :=
  accept_kept (stagedChanged_kept (each_kept h (fun h => .ite h (setEntry_kept h))))

theorem execSafetyDiscard_kept (h : Kept s₀ s) : KeptOut s₀ (execSafetyDiscard src i s) :=
  .next (command1_kept h safetyDiscardEffect_kept)

theorem safetyConfirmEffect_kept (h : Kept s₀ s) : KeptPair s₀ (safetyConfirmEffect i s) :=
  Kept.share (fun h => accept_kept (.ite h (raise_kept h))) (wrN_kept (wrN_kept h))

theorem execSafetyConfirm_kept (h : Kept s₀ s) : KeptOut s₀ (execSafetyConfirm src i s) := .next (command_kept h safetyConfirmEffect_kept)

theorem safetyActivateEffect_kept (h : Kept s₀ s) : KeptPair s₀ (safetyActivateEffect s) :=
  .ite (refuse_kept h) <|
    .ite (refuse_kept (wrN_kept h)) (accept_kept (raise_kept (wrN_kept (wrN_kept (wrN_kept (updIsl_kept (updIsl_kept h)))))))

theorem execSafetyActivate_kept (h : Kept s₀ s) : KeptOut s₀ (execSafetyActivate src i s) :=
  .next (command1_kept h safetyActivateEffect_kept)

theorem safetyFaultAckEffect_kept (h : Kept s₀ s) : KeptPair s₀ (safetyFaultAckEffect s) :=
  accept_kept (only_kept (emcyFollow_kept (unlatch_kept (wrN_kept h))) (fun h => each_kept (wrN_kept h) wrN_kept))

theorem execSafetyFaultAck_kept (h : Kept s₀ s) : KeptOut s₀ (execSafetyFaultAck src i s) :=
  .next (command1_kept h safetyFaultAckEffect_kept)

theorem sgroupAckEffect_kept (h : Kept s₀ s) : KeptPair s₀ (sgroupAckEffect i s) :=
  accept_kept (emcyFollow_kept (unlatch_kept (wrN_kept h)))

theorem execSgroupAck_kept (h : Kept s₀ s) : KeptOut s₀ (execSgroupAck src i j s) :=
  .next (only_kept h (fun h => command1_kept h sgroupAckEffect_kept))

theorem soutAckEffect_kept (h : Kept s₀ s) : KeptPair s₀ (soutAckEffect i s) :=
  accept_kept (.ite (emcyFollow_kept (unlatch_kept (wrN_kept (wrN_kept h)))) h)

theorem execSoutAck_kept (h : Kept s₀ s) : KeptOut s₀ (execSoutAck src i j s) :=
  .next (only_kept h (fun h => command1_kept h soutAckEffect_kept))

theorem islandStarted_kept (h : Kept s₀ s) : Kept s₀ (islandStarted t i j s) :=
  only_kept h (fun h =>
      Kept.share
        (fun h =>
          Kept.share (fun h => .ite (wrN_kept h) (islandFault_kept (only_kept (only_kept h islandFault_kept) islandFault_kept)))
            (updIsl_kept (.ite (raise_kept h) h))) (raiseSev_kept (wrN_kept h)))

theorem compareTrip_kept (h : Kept s₀ s) : Kept s₀ (compareTrip i j k s) :=
  .ite h (grpLatch_kept (removeTorque_kept (raise_kept (inc_kept (wrN_kept h)))))

theorem execSafetyWordSend_kept (h : Kept s₀ s) : KeptOut s₀ (execSafetyWordSend s) :=
  .next (only_kept h (fun h =>
      each_kept (each_kept (send_kept (wrN_kept h)) (fun h => wrN_kept (updGrp_kept h))) (fun h =>
        only_kept (wrN_kept (updGrp_kept h)) compareTrip_kept)))

theorem execSafetyWordReceive_kept (h : Kept s₀ s) : KeptOut s₀ (execSafetyWordReceive i j k l s) :=
  .next (only_kept h (fun h =>
      Kept.share
        (fun h =>
          .ite (wrN_kept (wrN_kept h)) (each_kept (islandFault_kept (.ite (wrN_kept h) (wrN_kept (wrN_kept h)))) removeTorque_kept))
        (updIsl_kept h)))

/-! ### Machine/ScanOps -/

theorem setPhase_kept (h : Kept s₀ s) : Kept s₀ (setPhase i j s) := updScan_kept h

theorem park_kept (h : Kept s₀ s) : Kept s₀ (park i j s) := laneNext_kept (updPav_kept (updTask_kept (offLane_kept h)))

theorem overrun_kept (h : Kept s₀ s) : Kept s₀ (overrun i j k s) :=
  .ite (park_kept h) (laneNext_kept (only_kept (updPav_kept (updTask_kept (raiseScan_kept (inc_kept (cutOne_kept h))))) pavFault_kept))

theorem holdEnd_kept (h : Kept s₀ s) : Kept s₀ (holdEnd i s) :=
  splitEndAll_kept (raiseScan_kept (wdtFollow_kept (wrN_kept (updPav_kept h))))

theorem endTask_kept (h : Kept s₀ s) : Kept s₀ (endTask i j s) :=
  laneNext_kept (only_kept (updPav_kept (updTask_kept (releaseLocks_kept (busyMark_kept (offLane_kept h))))) holdEnd_kept)

theorem cSnapshot_kept (h : Kept s₀ s) : Kept s₀ (cSnapshot s) := by
  dsimp only [cSnapshot]
  split
  · exact h
  · exact only_kept h copyMem_kept

theorem chgApply_kept {c : Change} (h : Kept s₀ s) : Kept s₀ (chgApply c s) :=
  chgOutcome_kept (inc_kept (each_kept
      (splitEndAll_kept (each_kept (each_kept h (fun h => .ite (enterRun_kept h) (raiseScan_kept h))) (fun h =>
        .ite (enterStop_kept h) (raiseScan_kept h)))) updPav_kept))

theorem chgBoundary_kept {faulted : List Nat} (h : Kept s₀ s) : Kept s₀ (chgBoundary i faulted s) :=
  each_kept h (fun h => (by dsimp only; split; exacts [chgOutcome_kept (chgDrop_kept h), chgApply_kept (chgDrop_kept h)]))

theorem autostart_kept (h : Kept s₀ s) : Kept s₀ (autostart s) := .ite h (each_kept (updScan_kept h) (fun h => only_kept h enterRun_kept))

theorem boundary_kept (h : Kept s₀ s) : Kept s₀ (boundary i s) :=
  Kept.share
      (fun h =>
        only_kept
          (only_kept
            (splitEndAll_kept (each_kept (only_kept (histBoundary_kept (.ite (swapNow_kept h) (epochClose_kept h))) takeoverDone_kept) (fun h =>
              (by split; exacts [enterStop_kept h, h])))) (fun h => autostart_kept (chgBoundary_kept h))) milestone_kept)
      (updPair_kept (only_kept (capture_kept (setPhase_kept (wrN_kept (wrN_kept (only_kept h cSnapshot_kept))))) (fun h =>
        each_kept h updTask_kept)))

theorem stationsFreeze_kept (h : Kept s₀ s) : Kept s₀ (stationsFreeze i s) :=
  .ite (wrN_kept h)
      (wrN_kept (updScan_kept (each_kept h (fun h =>
        .ite (setStaStatus_kept (setStaStatus_kept h))
          (only_kept (only_kept (setStaStatus_kept (setStaStatus_kept (inc_kept h))) raiseOwned_kept) (fun h =>
            raiseWith_kept (setStaStatus_kept h)))))))

theorem rioBad_kept {st : Option Nat} (h : Kept s₀ s) : Kept s₀ (rioBad st i s) := by
  dsimp only [rioBad]
  split
  · exact raiseOwned_kept (setStaStatus_kept h)
  · exact raise_kept h

theorem rioInput_kept (h : Kept s₀ s) : Kept s₀ (rioInput b s) :=
  .ite (rioBad_kept h) <|
    .ite (rioBad_kept h) <|
    .ite (rioBad_kept h)
        (only_kept (setStaStatus_kept (setStaStatus_kept (setStaStatus_kept (updScan_kept (stage_kept h))))) raiseWith_kept)

theorem frameBuild_kept (h : Kept s₀ s) : Kept s₀ (frameBuild i s) := sendStream_kept (updScan_kept (.ite (copyMem_kept h) h))

theorem commitArea_kept {a : Area} (h : Kept s₀ s) : Kept s₀ (commitArea i a s) := each_kept h (fun h => .ite h (store_kept h))

theorem commitPav_kept (h : Kept s₀ s) : Kept s₀ (commitPav i j s) := each_kept h commitArea_kept

theorem freeze_kept (h : Kept s₀ s) : Kept s₀ (freeze i s) :=
  Kept.share (fun h => setPhase_kept (updPair_kept (.ite (copyMem_kept h) (copyMem_kept h))))
      (stationsFreeze_kept (hartFreeze_kept (only_kept h (fun h => stageIolAll_kept (each_kept h rpdoFreeze_kept)))))

theorem commit_kept (h : Kept s₀ s) : Kept s₀ (commit i s) :=
  setPhase_kept (only_kept
      (commitBlocks_kept (each_kept
        (each_kept (each_kept (each_kept h commitPav_kept) commitPav_kept) (fun h => updTask_kept (updPav_kept h))) (fun h =>
        updTask_kept (updPav_kept h)))) (fun h => each_kept h tpdoCommit_kept))

theorem chgRequestEffect_kept (h : Kept s₀ s) : KeptPair s₀ (chgRequestEffect b s) :=
  .ite (.mk h) <|
    .ite (.mk h) <|
    .ite (.mk (chgOutcome_kept h)) <|
    .ite (.mk (chgOutcome_kept h)) <|
    .ite (.mk (chgOutcome_kept h)) (by
        split
        · exact .mk (chgOutcome_kept h)
        · exact .ite (.mk (chgOutcome_kept (inc_kept h))) <|
            .ite (.mk (chgOutcome_kept h)) (by split; exacts [.mk (chgOutcome_kept h), .mk (wrN_kept (chgReplace_kept (updScan_kept h)))]))

theorem chgCancelEffect_kept (h : Kept s₀ s) : KeptPair s₀ (chgCancelEffect i s) := by
  dsimp only [chgCancelEffect]
  split
  · exact .ite (.mk h) (.mk (chgDrop_kept (chgOutcome_kept h)))
  · exact .mk h

theorem realignEffect_kept (h : Kept s₀ s) : KeptPair s₀ (realignEffect s) := .ite (.mk h) (.mk (wr_kept h))

theorem debugSplit_kept (h : Kept s₀ s) : Kept s₀ (debugSplit i j s) :=
  .ite h
      (raise_kept (updTrestle_kept (each_kept (trStatus_kept (trTo_kept (.ite (abandonRotation_kept h) h))) (fun h =>
        only_kept h setRole_kept))))

theorem enterHold_kept (h : Kept s₀ s) : Kept s₀ (enterHold i s) :=
  Kept.share
      (fun h =>
        laneNext_kept (raiseScan_kept (wdtFollow_kept (updPav_kept (wrN_kept (each_kept
          (by split; exacts [h, updTask_kept (offLane_kept (.ite h (taskEntry_kept h)))]) cutOne_kept)))))) (debugSplit_kept h)

theorem unpark_kept (h : Kept s₀ s) : Kept s₀ (unpark i j s) := only_kept h updTask_kept

theorem makeReady_kept (h : Kept s₀ s) : Kept s₀ (makeReady i j s) := only_kept (unpark_kept h) updTask_kept

/-! ### Machine/Scan -/

theorem execClassBoundary_kept (h : Kept s₀ s) : KeptOut s₀ (execClassBoundary i s) := .next (only_kept h boundary_kept)

theorem execInputFreeze_kept (h : Kept s₀ s) : KeptOut s₀ (execInputFreeze i s) := .next (only_kept h freeze_kept)

theorem execOutputCommit_kept (h : Kept s₀ s) : KeptOut s₀ (execOutputCommit i s) := .next (only_kept h commit_kept)

theorem execFrameBuild_kept (h : Kept s₀ s) : KeptOut s₀ (execFrameBuild i s) := .next (only_kept h frameBuild_kept)

theorem execClassAWindowStart_kept (h : Kept s₀ s) : KeptOut s₀ (execClassAWindowStart i s) :=
  .next (only_kept h (fun h => only_kept (makeReady_kept h) (fun h => runTask_kept (updLane_kept (preempt_kept h)))))

theorem execClassAWindowEnd_kept (h : Kept s₀ s) : KeptOut s₀ (execClassAWindowEnd i s) :=
  .next (only_kept h (fun h => laneNext_kept (only_kept (updLane_kept h) overrun_kept)))

theorem execClassBReady_kept (h : Kept s₀ s) : KeptOut s₀ (execClassBReady i s) :=
  .next (only_kept h (fun h => laneNext_kept (only_kept (each_kept h makeReady_kept) preempt_kept)))

theorem execClassCDispatch_kept (h : Kept s₀ s) : KeptOut s₀ (execClassCDispatch i s) :=
  .next (only_kept h (fun h => laneNext_kept (each_kept h makeReady_kept)))

theorem execTaskTimeBudgetExpiry_kept (h : Kept s₀ s) : KeptOut s₀ (execTaskTimeBudgetExpiry i j s) := .next (only_kept h overrun_kept)

theorem execTaskDeadline_kept (h : Kept s₀ s) : KeptOut s₀ (execTaskDeadline i j s) :=
  .next (only_kept h (fun h => .ite (only_kept h park_kept) (overrun_kept h)))

theorem execLaneUngate_kept (h : Kept s₀ s) : KeptOut s₀ (execLaneUngate i s) := .next (only_kept h updLane_kept)

theorem execScanRealign_kept (h : Kept s₀ s) : KeptOut s₀ (execScanRealign src i s) := .next (command1_kept h realignEffect_kept)

theorem execChgRequest_kept (h : Kept s₀ s) : KeptOut s₀ (execChgRequest src b s) := .next (command_kept h chgRequestEffect_kept)

theorem execChgCancel_kept (h : Kept s₀ s) : KeptOut s₀ (execChgCancel src i s) := .next (command_kept h chgCancelEffect_kept)

theorem execRioInputFrame_kept (h : Kept s₀ s) : KeptOut s₀ (execRioInputFrame b s) := .next (only_kept h rioInput_kept)

theorem execRemoteHoldExpiry_kept (h : Kept s₀ s) : KeptOut s₀ (execRemoteHoldExpiry i s) := .next (only_kept h updPav_kept)

theorem execDebugHalt_kept (h : Kept s₀ s) : KeptOut s₀ (execDebugHalt i s) :=
  .next (only_kept h (fun h =>
      .ite (reply_kept h) (by split; exacts [reply_kept (only_kept h raise_kept), .ite (reply_kept h) (reply_kept (enterHold_kept h))])))

theorem execDebugResume_kept (h : Kept s₀ s) : KeptOut s₀ (execDebugResume i s) :=
  .next (only_kept h (fun h => .ite (reply_kept h) (reply_kept (updPav_kept h))))

theorem execDebugSingleStep_kept (h : Kept s₀ s) : KeptOut s₀ (execDebugSingleStep i s) :=
  .next (only_kept h (fun h => .ite (reply_kept h) (reply_kept (updPav_kept h))))

theorem execDebugSessionLoss_kept (h : Kept s₀ s) : KeptOut s₀ (execDebugSessionLoss i s) :=
  .next (only_kept h (fun h => splitEndAll_kept (enterStop_kept (raiseScan_kept (debugEnd_kept h)))))

/-! ### Machine/Security -/

theorem voucher_kept (h : Kept s₀ s) : KeptPair s₀ (voucher b t s) :=
  .ite (.mk (authFailure_kept (raise_kept (wrN_kept h))))
      (.mk (resetIn_kept (updSec_kept (createKeys_kept (cryptoErase_kept (wrN_kept h))))))

theorem execClaimVoucher_kept (h : Kept s₀ s) : KeptOut s₀ (execClaimVoucher src b t s) :=
  .next (.ite (only_kept h (fun h => .ite (reply_kept h) (reply_kept (voucher_kept h).snd))) (command_kept h voucher_kept))

theorem lcRefuse_kept (h : Kept s₀ s) : KeptPair s₀ (lcRefuse i s) := .mk (authFailure_kept (newNonce_kept h))

theorem lcToken_kept (h : Kept s₀ s) : Kept s₀ (lcToken i src b t s) :=
  only_kept h (fun h =>
      command_kept h (fun h =>
        (by
          split
          · exact lcRefuse_kept h
          · exact .ite (lcRefuse_kept h) <|
              .ite (lcRefuse_kept h) <|
              .ite (lcRefuse_kept h) (Kept.share (fun h => .mk (resetIn_kept (.ite (dropKeys_kept h) h))) (updSec_kept (newNonce_kept h))))))

theorem execLcTokenRelease_kept (h : Kept s₀ s) : KeptOut s₀ (execLcTokenRelease src b t s) := .next (lcToken_kept h)

theorem execLcTokenReturn_kept (h : Kept s₀ s) : KeptOut s₀ (execLcTokenReturn src b t s) := .next (lcToken_kept h)

theorem execLcTokenScrap_kept (h : Kept s₀ s) : KeptOut s₀ (execLcTokenScrap src b t s) := .next (lcToken_kept h)

theorem execLcTokenRefurbish_kept (h : Kept s₀ s) : KeptOut s₀ (execLcTokenRefurbish src b t s) := .next (lcToken_kept h)

theorem execLcTokenFinalise_kept (h : Kept s₀ s) : KeptOut s₀ (execLcTokenFinalise src b t s) := .next (lcToken_kept h)

theorem execIcehouseMonitorSample_kept (h : Kept s₀ s) : KeptOut s₀ (execIcehouseMonitorSample t i g t' t'' s) :=
  Kept.share (fun h => .next (updSec_kept (.ite (wrN_kept h) (wrN_kept (wrN_kept h))))) (wr_kept (wrN_kept h))

theorem execTamperConfirm_kept (h : Kept s₀ s) : KeptOut s₀ (execTamperConfirm t i g t' t'' j s) :=
  .next (each_kept (updSec_kept (.ite (wrN_kept h) h)) raiseSource_kept)

theorem execSealedCopyDestroyed_kept (h : Kept s₀ s) : KeptOut s₀ (execSealedCopyDestroyed s) :=
  .next (only_kept h (fun h => updSec_kept (.ite (lcTo_kept (dropKeys_kept h)) (destroySealed_kept h))))

theorem execEraseResetExpiry_kept (h : Kept s₀ s) : KeptOut s₀ (execEraseResetExpiry s) :=
  .next (only_kept h (fun h => moduleReset_kept (updSec_kept h)))

theorem execAlarmAck_kept (h : Kept s₀ s) : KeptOut s₀ (execAlarmAck src i s) :=
  .next (command1_kept h (fun h =>
      Kept.share (fun h => accept_kept (.ite (restoreStore_kept h) h))
        (emcyFollow_kept (unlatch_kept (unlatch_kept (wrN_kept (wrBlob_kept h)))))))

theorem execServicePubWrite_kept (h : Kept s₀ s) : KeptOut s₀ (execServicePubWrite src b s) :=
  .next (command_kept h (fun h => .ite (refuse_kept h) (accept_kept (wrBlob_kept (writeStore_kept h)))))

theorem execTrngHealthFail_kept (h : Kept s₀ s) : KeptOut s₀ (execTrngHealthFail i s) :=
  .next (only_kept h (fun h => raise_kept (wrN_kept (wrN_kept (inc_kept (updSec_kept h))))))

theorem execDrbgReseed_kept (h : Kept s₀ s) : KeptOut s₀ (execDrbgReseed s) := .next (only_kept h reseed_kept)

theorem debugToken_kept (h : Kept s₀ s) : KeptPair s₀ (debugToken i b t s) :=
  Kept.share (fun h => .ite (.mk (authFailure_kept (raise_kept h))) (.mk (raise_kept (wrN_kept (wrN_kept (updSec_kept h))))))
      (newNonce_kept h)

theorem execDebugToken_kept (h : Kept s₀ s) : KeptOut s₀ (execDebugToken src b t t' s) :=
  .next (.ite (only_kept h (fun h => (debugToken_kept h).snd)) (command_kept h debugToken_kept))

theorem execDebugClose_kept (h : Kept s₀ s) : KeptOut s₀ (execDebugClose src i s) :=
  .next (command1_kept h (fun h => accept_kept (debugEnd_kept h)))

theorem execDebugExpiry_kept (h : Kept s₀ s) : KeptOut s₀ (execDebugExpiry s) := .next (only_kept h debugEnd_kept)

/-! ### Machine/Storage -/

theorem execNandBlockRead_kept (h : Kept s₀ s) : KeptOut s₀ (execNandBlockRead i j k l m n t s) :=
  .next (only_kept h (fun h =>
      .ite (reply_kept h)
        (only_kept h (fun h =>
          Kept.share (fun h => .ite (reply_kept (raise_kept (wrN_kept h))) <| .ite (reply_kept (raise_kept (inc_kept h))) (reply_kept h))
            (only_kept
              (only_kept (.ite h (only_kept (only_kept (updBlk_kept (updSto_kept h)) wrN_kept) updBlk_kept)) (fun h =>
                raise_kept (inc_kept h))) wrN_kept)))))

theorem partFull_kept (h : Kept s₀ s) : Kept s₀ (partFull i s) := raise_kept (wrN_kept h)

theorem partGrow_kept (h : Kept s₀ s) : Kept s₀ (partGrow i j s) := wrN_kept h

theorem writeBlock_kept (h : Kept s₀ s) : Kept s₀ (writeBlock i j k t s) :=
  .ite (reply_kept h) <|
    .ite (reply_kept (partFull_kept h)) (reply_kept (updSto_kept (updBlk_kept (wrN_kept (only_kept h partGrow_kept)))))

theorem execNandBlockWrite_kept (h : Kept s₀ s) : KeptOut s₀ (execNandBlockWrite i j k t s) :=
  .next (only_kept h (fun h => .ite (updSto_kept h) (writeBlock_kept h)))

theorem execNandProgramFail_kept (h : Kept s₀ s) : KeptOut s₀ (execNandProgramFail i j s) := .next (only_kept h retireBlock_kept)

theorem execDieNotReadyTimeout_kept (h : Kept s₀ s) : KeptOut s₀ (execDieNotReadyTimeout i t s) :=
  .next (only_kept h (fun h =>
      Kept.share (fun h => .ite (storFollow_kept (each_kept (raise_kept (wrN_kept h)) dieFailed_kept)) (only_kept h dieFailed_kept))
        (inc_kept (updSto_kept h))))

theorem execRebuildStripe_kept (h : Kept s₀ s) : KeptOut s₀ (execRebuildStripe t i s) := by
  dsimp only [execRebuildStripe]
  split
  · exact .next h
  · exact .next (only_kept h (fun h =>
        Kept.share (fun h => .ite (wrN_kept h) (storFollow_kept (updSto_kept (closeIntent_kept (raise_kept (wrN_kept h))))))
          (updSto_kept h)))

theorem moveBlock_kept (h : Kept s₀ s) : Kept s₀ (moveBlock i j k l t s) := only_kept h relocate_kept

theorem execStaticLevelling_kept (h : Kept s₀ s) : KeptOut s₀ (execStaticLevelling i j k l m s) := .next (moveBlock_kept h)

theorem execBlockRefresh_kept (h : Kept s₀ s) : KeptOut s₀ (execBlockRefresh i j k l s) := .next (moveBlock_kept h)

theorem execGarbageCollection_kept (h : Kept s₀ s) : KeptOut s₀ (execGarbageCollection i j k l s) := .next (moveBlock_kept h)

theorem execPatrolScrubStep_kept (h : Kept s₀ s) : KeptOut s₀ (execPatrolScrubStep i j t k s) :=
  .next (only_kept h (fun h =>
      Kept.share (fun h => .ite (wrN_kept h) (updSto_kept (raise_kept (wrN_kept (wrN_kept h))))) (updSto_kept (updBlk_kept h))))

theorem execSuspectBlockVerify_kept (h : Kept s₀ s) : KeptOut s₀ (execSuspectBlockVerify i j t s) :=
  .next (only_kept h (fun h => raise_kept (only_kept (eraseBlock_kept (inc_kept h)) retireBlock_kept)))

theorem execPfailStuck_kept (h : Kept s₀ s) : KeptOut s₀ (execPfailStuck s) := .next (only_kept h (fun h => raise_kept (updSto_kept h)))

theorem discover_kept {x : DieInfo} (h : Kept s₀ s) : Kept s₀ (discover x b s) :=
  .ite h
      (Kept.share
        (fun h =>
          .ite (raise_kept (wrN_kept h))
            (rawFollow_kept (wrN_kept (wrN_kept (wrN_kept (wrBlob_kept (wrN_kept (wrN_kept (only_kept (wrN_kept h) updSto_kept)))))))))
        (wrN_kept (wrN_kept h)))

theorem firstMount_kept (h : Kept s₀ s) : Kept s₀ (firstMount s) := .ite h (wrN_kept (wrN_kept (wrN_kept h)))

theorem historianSize_kept (h : Kept s₀ s) : Kept s₀ (historianSize s) := wrN_kept h

theorem settleIntents_kept (h : Kept s₀ s) : KeptTriple s₀ (settleIntents s) :=
  List.foldlRecOn (motive := KeptTriple s₀) _ _ (.mk h) fun _ ⟨ha⟩ _ _ =>
    .ite (.ite (.mk (eraseBlock_kept (closeIntent_kept ha))) (.mk (closeIntent_kept ha))) <|
    .ite (.ite (.mk (updSto_kept (closeIntent_kept ha))) (.mk (commitKey_kept (setEntryN_kept (updSto_kept (closeIntent_kept ha)))))) <|
    .ite (.mk (closeIntent_kept ha)) (.mk ha)

theorem execStorageMount_kept {dies : List Nat} (h : Kept s₀ s) : KeptOut s₀ (execStorageMount dies b s) :=
  .next (only_kept h (fun h =>
      Kept.share
        (fun h =>
          .ite (milestone_kept (storTo_kept h))
            (only_kept
              (milestone_kept (storTo_kept (only_kept
                (only_kept (updSto_kept (historianSize_kept (settleIntents_kept (lockParts_kept (firstMount_kept h))).third)) (fun h =>
                  raiseSev_kept (wrBlob_kept h))) (fun h => each_kept h (fun h => only_kept h wrN_kept))))) trialFail_kept))
        (each_kept
          (rawFollow_kept (each_kept (each_kept (updSto_kept (.ite (storTo_kept (updUpd_kept h)) h)) (fun h => wrN_kept (wrN_kept h))) (fun h =>
            wrN_kept (only_kept h updSto_kept)))) discover_kept)))

theorem execPartSizeWrite_kept (h : Kept s₀ s) : KeptOut s₀ (execPartSizeWrite src i j s) :=
  .next (only_kept h (fun h =>
      command_kept h (fun h =>
        .ite (.mk h) <|
        .ite (.mk h) <|
        .ite (.mk h) <|
        .ite (accept_kept h) (writeThen_kept h (fun h => wrN_kept (wrN_kept (openIntent_kept (updSto_kept h))))))))

theorem execPartitionResizeComplete_kept (h : Kept s₀ s) : KeptOut s₀ (execPartitionResizeComplete s) := by
  dsimp only [execPartitionResizeComplete]
  split
  · exact .next h
  · exact .next (only_kept h (fun h => historianSize_kept (updSto_kept (wrN_kept (wrN_kept (closeIntent_kept (markIntent_kept h)))))))

theorem storeDone_kept {q : StoReq} (h : Kept s₀ s) : Kept s₀ (storeDone q i j s) := closeStore_kept (updSto_kept h)

theorem execPavstoreRequestComplete_kept (h : Kept s₀ s) : KeptOut s₀ (execPavstoreRequestComplete i t s) := by
  dsimp only [execPavstoreRequestComplete]
  split
  · exact .next h
  · exact .next (.ite
        (.ite (storeDone_kept h) <|
        .ite (raiseOwned_kept (storeDone_kept h)) <|
        .ite (storeDone_kept (bufPut_kept h)) (closeStore_kept (updSto_kept h)))
        (only_kept h (fun h =>
          .ite (storeDone_kept h) <|
          .ite (storeDone_kept (storePlace_kept h))
              (Kept.share (fun h => .ite (.ite h (send_kept (updSto_kept h))) (storeDone_kept h)) (.ite h (storePut_kept h))))))

theorem execPavstoreMirrorCopy_kept (h : Kept s₀ s) : KeptOut s₀ (execPavstoreMirrorCopy i b s) := by
  dsimp only [execPavstoreMirrorCopy]
  split
  · exact .next h
  · exact .next (only_kept h (fun h =>
        Kept.share (fun h => .ite (updSto_kept h) (only_kept (closeIntent_kept (updSto_kept h)) (fun h => wrN_kept (updSto_kept h))))
          (storeUsage_kept (wrN_kept (.ite (setHeld_kept (clearMem_kept h)) (setHeld_kept (store_kept h)))))))

theorem execPavstorePartnerWrite_kept (h : Kept s₀ s) : KeptOut s₀ (execPavstorePartnerWrite i t j k b s) :=
  .next (only_kept h (fun h => send_kept (storePut_kept h)))

/-! ### Machine/Power -/

theorem readVlogic_kept (h : Kept s₀ s) : Kept s₀ (readVlogic g s) := wrN_kept h

theorem execVlogicGood_kept (h : Kept s₀ s) : KeptOut s₀ (execVlogicGood g i b j t s) :=
  .ite .fault
      (.next (only_kept h (fun h =>
        Kept.share
          (fun h =>
            only_kept
              (only_kept
                (readVlogic_kept (moduleReset_kept (updPow_kept (wrB_kept (inc_kept (.ite (drawn_kept (wrN_kept (updSec_kept h))) h)))))) (fun h =>
                each_kept h copyEra_kept)) rebase_kept) (only_kept (updSec_kept (wrN_kept h)) (fun h => each_kept h wrN_kept)))))

theorem powerDown_kept (h : Kept s₀ s) : Kept s₀ (powerDown t s) := by
  unfold powerDown
  extract_lets _ fallen _ down
  have hfallen : Kept s₀ fallen := fieldFollow_kept (quiet_kept (debugEnd_kept (.ite (commitAll_kept h) (journalLost_kept h))))
  have hdown : Kept s₀ down := updPow_kept (updSec_kept hfallen)
  exact optEnd_kept hdown.same

theorem execVlogicLost_kept (h : Kept s₀ s) : KeptOut s₀ (execVlogicLost g i t s) :=
  .ite .fault (.next (only_kept h (fun h => powerDown_kept (readVlogic_kept h))))

theorem execVlogicStateChange_kept (h : Kept s₀ s) : KeptOut s₀ (execVlogicStateChange g i s) :=
  .ite .fault (.next (only_kept h (fun h => only_kept (readVlogic_kept h) (fun h => raiseSev_kept (wrN_kept h)))))

theorem execPrechargeComplete_kept (h : Kept s₀ s) : KeptOut s₀ (execPrechargeComplete i s) := .next (only_kept h updPow_kept)

theorem seatLift_kept (h : Kept s₀ s) : Kept s₀ (seatLift i s) := by
  unfold seatLift
  exact updPow_kept (wrN_kept (.same h))

theorem execSeatedOpen_kept (h : Kept s₀ s) : KeptOut s₀ (execSeatedOpen i j s) :=
  .next (only_kept h (fun h =>
      Kept.share
        (fun h =>
          .ite h
            (flushStart_kept (seatFollow_kept (each_kept
              (hartListenAll_kept (iolPassiveAll_kept (islandForce_kept (updPow_kept (raiseSev_kept (inc_kept h)))))) updAo_kept))))
        (seatLift_kept h)))

theorem execSeatedMated_kept (h : Kept s₀ s) : KeptOut s₀ (execSeatedMated i j s) :=
  .next (only_kept h (fun h =>
      only_kept (updPow_kept (.ite (wrN_kept h) (raiseSev_kept (wrN_kept h)))) (fun h =>
        Kept.share (fun h => seatFollow_kept (.ite (updGate_kept (updPow_kept h)) h)) (inc_kept (.same (.ite (moduleReset_kept h) h))))))

theorem execPllLockLoss_kept (h : Kept s₀ s) : KeptOut s₀ (execPllLockLoss i j k s) :=
  .ite (.next (laneLocalFault_kept h))
      (.next (only_kept h (fun h =>
        Kept.share (fun h => .ite (settleFault_kept (raise_kept (wrN_kept h))) (updPow_kept h)) (updPow_kept h))))

theorem execPllRelock_kept (h : Kept s₀ s) : KeptOut s₀ (execPllRelock i s) :=
  .next (only_kept h (fun h => raise_kept (inc_kept (updPow_kept h))))

theorem droopLast_kept (h : Kept s₀ s) : Kept s₀ (droopLast i j k l s) := wrBlob_kept h

theorem execDroopThrottleOn_kept (h : Kept s₀ s) : KeptOut s₀ (execDroopThrottleOn i j s) :=
  .next (only_kept h (fun h => raise_kept (droopLast_kept (wrN_kept (updPow_kept h)))))

theorem execDroopThrottleOff_kept (h : Kept s₀ s) : KeptOut s₀ (execDroopThrottleOff i j s) :=
  .next (only_kept h (fun h => updPow_kept (only_kept (wrN_kept h) wrBlob_kept)))

theorem stretchCopies_kept (h : Kept s₀ s) : Kept s₀ (stretchCopies i s) := only_kept (each_kept h updResync_kept) updResync_kept

theorem stretchOn_kept (h : Kept s₀ s) : Kept s₀ (stretchOn i j k l s) := stretchCopies_kept (wrN_kept (updPow_kept h))

theorem execStretchStart_kept (h : Kept s₀ s) : KeptOut s₀ (execStretchStart i j t k s) :=
  .next (only_kept h (fun h =>
      .ite (raise_kept (inc_kept (stretchOn_kept h))) <| .ite (.ite (inc_kept h) (raise_kept (stretchOn_kept h))) h))

theorem stretchCount_kept (h : Kept s₀ s) : Kept s₀ (stretchCount s) := by
  unfold stretchCount
  exact updPow_kept (wrN_kept (wrN_kept h))

theorem execStretchEnd_kept (h : Kept s₀ s) : KeptOut s₀ (execStretchEnd i j k s) :=
  .next (only_kept h (fun h =>
      only_kept h (fun h => only_kept (updPow_kept (droopLast_kept (stretchCount_kept h))) (fun h => raise_kept (inc_kept h)))))

theorem execStretchBudgetReset_kept (h : Kept s₀ s) : KeptOut s₀ (execStretchBudgetReset s) :=
  .next (only_kept h (fun h => updPow_kept (.ite (stretchCount_kept h) h)))

theorem execWakeRtc_kept (h : Kept s₀ s) : KeptOut s₀ (execWakeRtc s) := .next (only_kept h wakeUp_kept)

theorem execWakeNetwork_kept (h : Kept s₀ s) : KeptOut s₀ (execWakeNetwork i b s) := .next (only_kept h wakeUp_kept)

theorem execWakeCan_kept (h : Kept s₀ s) : KeptOut s₀ (execWakeCan i j s) := .next (only_kept h wakeUp_kept)

theorem execDiWakeSample_kept (h : Kept s₀ s) : KeptOut s₀ (execDiWakeSample i t s) :=
  .next (only_kept h (fun h => wakeDi_kept h wakeUp_kept))

theorem execVbatMeasure_kept (h : Kept s₀ s) : KeptOut s₀ (execVbatMeasure g s) :=
  .ite .fault (.next (only_kept h (fun h => only_kept (wrN_kept (wrN_kept h)) (fun h => raiseSev_kept (wrN_kept h)))))

theorem execStartupRailsGood_kept (h : Kept s₀ s) : KeptOut s₀ (execStartupRailsGood s) :=
  .next (only_kept h (fun h => milestone_kept (updPow_kept h)))

theorem writeAct_kept {f' : Nat → Bytes} (h : Kept s₀ s) : Kept s₀ (writeAct f' s) := by
  dsimp only [writeAct]
  split <;> exact wrBlob_kept h

theorem bootSelect_kept (h : Kept s₀ s) : Kept s₀ (bootSelect s) := by
  dsimp only [bootSelect]
  split
  · exact raise_kept (updUpd_kept h)
  · exact .ite (wrN_kept (updUpd_kept (writeAct_kept h))) <|
      .ite (wrN_kept (wrN_kept (wrN_kept (wrN_kept (updUpd_kept (each_kept (raise_kept (writeAct_kept h)) wrN_kept))))))
          (only_kept h wrN_kept)

theorem execGatehouseResetRelease_kept (h : Kept s₀ s) : KeptOut s₀ (execGatehouseResetRelease s) :=
  .next (only_kept h (fun h =>
      milestone_kept (keystoreCheck_kept (only_kept
        (latchSettle_kept (pendingSettle_kept (bootSelect_kept (only_kept (updGate_kept (updPow_kept h)) wdtLock_kept))))
        raiseSource_kept))))

theorem execWipeComplete_kept (h : Kept s₀ s) : KeptOut s₀ (execWipeComplete t s) :=
  .next (only_kept h (fun h => .ite (milestone_kept (updPow_kept h)) (startupFail_kept h)))

theorem execTrngSeeded_kept (h : Kept s₀ s) : KeptOut s₀ (execTrngSeeded t s) :=
  .next (.ite (only_kept h (fun h => reseed_kept (wrN_kept h)))
      (only_kept h (fun h =>
        .ite (milestone_kept (newNonce_kept (newNonce_kept (newNonce_kept (updSec_kept (wrN_kept (updPow_kept h)))))))
          (only_kept (updPow_kept h) startupFail_kept))))

theorem execDramTrained_kept (h : Kept s₀ s) : KeptOut s₀ (execDramTrained t s) :=
  .next (only_kept h (fun h => .ite (milestone_kept (updPow_kept h)) (only_kept (updPow_kept h) startupFail_kept)))

theorem execDramZeroFillComplete_kept (h : Kept s₀ s) : KeptOut s₀ (execDramZeroFillComplete s) := .next (only_kept h updPow_kept)

theorem execImagesVerified_kept (h : Kept s₀ s) : KeptOut s₀ (execImagesVerified i j s) :=
  .next (only_kept h (fun h =>
      .ite (only_kept (milestone_kept (updPow_kept (wrN_kept h))) (fun h => storTo_kept (updSto_kept h)))
        (startupFail_kept (raise_kept (wrN_kept h)))))

theorem bootBistFail_kept (h : Kept s₀ s) : Kept s₀ (bootBistFail i j k s) := retireLane_kept (raise_kept (updPl_kept (inc_kept h)))

theorem execBootLaneBistComplete_kept {fails : List Nat} (h : Kept s₀ s) : KeptOut s₀ (execBootLaneBistComplete fails s) :=
  .next (only_kept h (fun h =>
      only_kept
        (milestone_kept (formTrestles_kept (updPow_kept (each_kept
          (each_kept h (fun h => (by dsimp only; split; exacts [bootBistFail_kept (inc_kept h), updPl_kept (wrN_kept (inc_kept h))])))
          wrN_kept)))) startupFail_kept))

theorem execIslandStartupComplete_kept (h : Kept s₀ s) : KeptOut s₀ (execIslandStartupComplete t i j s) :=
  .next (only_kept h (fun h => only_kept (milestone_kept (islandStarted_kept h)) trialFail_kept))

/-! ### Machine/Update -/

theorem stagedCheck_kept (h : Kept s₀ s) : Kept s₀ (stagedCheck s) := .ite (raise_kept (closeIntent_kept (wrN_kept h))) h

theorem stagingProgress_kept (h : Kept s₀ s) : Kept s₀ (stagingProgress s) := wrN_kept h

theorem execUpdStart_kept (h : Kept s₀ s) : KeptOut s₀ (execUpdStart src t t' t'' s) :=
  .next (command_kept h (fun h =>
      .ite (.mk h) <|
      .ite (accept_kept (stagedCheck_kept (each_kept (openIntent_kept (wrN_kept h)) wrN_kept)))
          (Kept.share
            (fun h =>
              .ite (.mk h)
                (accept_kept (stagedCheck_kept (stagingProgress_kept (openIntent_kept (each_kept (wrN_kept (wrN_kept (updUpd_kept h)))
                  wrN_kept)))))) (raiseSev_kept (wrN_kept h)))))

theorem releaseImages_kept (h : Kept s₀ s) : Kept s₀ (releaseImages s) :=
  wrN_kept (wrN_kept (wrN_kept (each_kept (updUpd_kept h) wrN_kept)))

theorem execUpdCancel_kept (h : Kept s₀ s) : KeptOut s₀ (execUpdCancel src s) :=
  .next (command_kept h (fun h =>
      .ite (.mk h) <| .ite (accept_kept (wrN_kept (closeIntent_kept (releaseImages_kept h)))) (accept_kept h)))

theorem partReceived_kept (h : Kept s₀ s) : Kept s₀ (partReceived i b t s) :=
  .ite (stagingProgress_kept (wrN_kept (wrN_kept (updUpd_kept (wrN_kept h))))) (raiseSev_kept (wrN_kept (wrN_kept (wrN_kept h))))

theorem execUpdPartImageWrite_kept (h : Kept s₀ s) : KeptOut s₀ (execUpdPartImageWrite src i b t s) :=
  .next (only_kept h (fun h => command_kept h (fun h => .ite (accept_kept (partReceived_kept h)) (.mk h))))

theorem execUpdPartDownloadComplete_kept (h : Kept s₀ s) : KeptOut s₀ (execUpdPartDownloadComplete i b t s) :=
  .next (only_kept h partReceived_kept)

theorem execUpdPartVerified_kept (h : Kept s₀ s) : KeptOut s₀ (execUpdPartVerified i t s) :=
  .next (only_kept h (fun h => .ite (stagedCheck_kept (wrN_kept (updUpd_kept h))) (raiseSev_kept (wrN_kept (wrN_kept h)))))

theorem activate_kept (h : Kept s₀ s) : Kept s₀ (activate i s) :=
  flushStart_kept (fieldFollow_kept (quiet_kept (updUpd_kept (raise_kept (wrN_kept h)))))

theorem execUpdActivateStandby_kept (h : Kept s₀ s) : KeptOut s₀ (execUpdActivateStandby src s) :=
  .next (command_kept h (fun h => .ite (accept_kept (activate_kept h)) (.mk h)))

theorem execUpdActivateStop_kept (h : Kept s₀ s) : KeptOut s₀ (execUpdActivateStop src s) :=
  .next (command_kept h (fun h => .ite (accept_kept (activate_kept h)) (.mk h)))

theorem execActivationRecordWritten_kept (h : Kept s₀ s) : KeptOut s₀ (execActivationRecordWritten s) :=
  .next (only_kept h (fun h => moduleReset_kept (writeAct_kept (commitAll_kept h))))

theorem commitSet_kept (h : Kept s₀ s) : Kept s₀ (commitSet s) :=
  wrN_kept (releaseImages_kept (updUpd_kept (raise_kept (wrN_kept (each_kept
      (each_kept (each_kept (writeAct_kept h) (fun h => only_kept h (fun h => raise_kept (wrN_kept h)))) (fun h =>
        only_kept h (fun h => only_kept (resetSection_kept (wrN_kept h)) stagedChanged_kept))) (fun h =>
      Kept.share (fun h => .ite (wrBlob_kept (wrN_kept h)) <| .ite (wrN_kept h) <| .ite (wrN_kept (updUpd_kept h)) h)
        (wrN_kept (updUpd_kept h))))))))

theorem execTrialCommit_kept (h : Kept s₀ s) : KeptOut s₀ (execTrialCommit t i s) :=
  .next (only_kept h (fun h => .ite (trialFail_kept h) (only_kept h commitSet_kept)))

theorem execTrialLimitExpiry_kept (h : Kept s₀ s) : KeptOut s₀ (execTrialLimitExpiry s) := .next (only_kept h trialFail_kept)

theorem execUpdPreparedWrite_kept (h : Kept s₀ s) : KeptOut s₀ (execUpdPreparedWrite src i s) :=
  .next (command_kept h (fun h => .ite (.mk h) <| .ite (.mk h) (accept_kept (wrN_kept h))))

/-! ### Machine/DictApply -/

theorem restoredRow_kept (h : Kept s₀ s) : Kept s₀ (restoredRow old i s) :=
  .ite (only_kept h canDisableEffect_kept) <|
    .ite (iolTo_kept (isduAbort_kept h)) <|
    .ite (only_kept h hartTo_kept) <|
    .ite (syncFollow_kept (only_kept h (fun h => stepWith_kept h setBase_kept))) <|
    .ite (histCount_kept (endSegments_kept h)) h

theorem restoreSection_kept {c : Caller} (h : Kept s₀ s) : KeptPair s₀ (restoreSection c i s) :=
  .ite (.mk h) <|
    .ite (.mk h)
        (Kept.share
          (fun h =>
            Kept.share
              (fun h =>
                .mk (afterWrites_kept (each_kept (.ite (stagedChanged_kept h) h) (fun h => restoredRow_kept (writeEffect_kept h)))))
              (.ite (each_kept h (fun h => .ite (.ite (disarmTable_kept h) (tableWritten_kept h)) h)) h)) (resetSection_kept (.same h)))

theorem execDictSectionRestore_kept (h : Kept s₀ s) : KeptOut s₀ (execDictSectionRestore src i s) :=
  .next (command_kept h (fun h => (by split; exacts [restoreSection_kept h, .mk h])))

theorem commClear_kept (h : Kept s₀ s) : Kept s₀ (commClear i s) := each_kept h wrN_kept

theorem execCommErrorFieldClear_kept (h : Kept s₀ s) : KeptOut s₀ (execCommErrorFieldClear src i j s) :=
  .next (only_kept h (fun h => command_kept h (fun h => .ite (.mk h) (accept_kept (commClear_kept h)))))

theorem countSessions_kept (h : Kept s₀ s) : Kept s₀ (countSessions s) := wrN_kept h

theorem closeSession_kept (h : Kept s₀ s) : Kept s₀ (closeSession i s) := holderGone_kept (countSessions_kept (.same h))

theorem execDapDisable_kept (h : Kept s₀ s) : KeptOut s₀ (execDapDisable src i s) :=
  .next (command_kept h (fun h => writeThen_kept h (fun h => each_kept h closeSession_kept)))

theorem took_kept {o : Out} (h : Kept s₀ s) (ho : KeptOut s₀ o) : Kept s₀ (took o s) := by
  unfold took
  split
  · exact ho.kept rfl
  · exact h

theorem State.rowOf_kept (h : Kept s₀ s) : KeptOpt (KeptOut s₀) (State.rowOf s src i b) :=
  Kept.share
      (fun h₁ =>
        .ite (.some (execCommErrorFieldClear_kept h)) <|
        .ite (.some (.ite (execServiceEnter_kept h) (execServiceLeave_kept h))) <|
        .ite (.some (execDormantRequest_kept h)) <|
        .ite (.some (execModuleResetCommand_kept h)) <|
        .ite (.some (execWdtKeyWrite_kept h)) <|
        .ite (.some (execWdtLockWrite_kept h)) <|
        .ite (.some (execWdtEnableWrite_kept h)) <|
        .ite (.some (execContactRebase_kept h)) <|
        .ite (.some (execDictSectionRestore_kept h)) <|
        .ite (.some (execDapDisable_kept h)) <|
        .ite (.some (execRecqQuery_kept h)) <|
        .ite (.some (execHistqQuery_kept h)) <|
        .ite (.some (.ite (execRecFreeze_kept h) (execRecUnfreeze_kept h))) <|
        .ite (.some (execRecClearToken_kept h₁)) <|
        .ite (.some (execRecClearKeyswitch_kept h)) <|
        .ite (.some (execClaimVoucher_kept h₁)) <|
        .ite (.some (by
            split
            · exact execLcTokenRelease_kept h₁
            · exact execLcTokenReturn_kept h₁
            · exact execLcTokenScrap_kept h₁
            · exact execLcTokenRefurbish_kept h₁
            · exact execLcTokenFinalise_kept h₁
            · exact .next (command_kept h lcRefuse_kept))) <|
        .ite (.some (execServicePubWrite_kept h)) <|
        .ite (.some (execAlarmAck_kept h)) <|
        .ite (.some (execDebugToken_kept h₁)) <|
        .ite (.some (execDebugClose_kept h)) <|
        .ite (.some (.ite (execUpdStart_kept (drawn_kept (drawn_kept h₁))) (execUpdCancel_kept h))) <|
        .ite (.some (.ite (execUpdActivateStandby_kept h) (execUpdActivateStop_kept h))) <|
        .ite (.some (execUpdPartImageWrite_kept h₁)) <|
        .ite (.some (execUpdPreparedWrite_kept h)) <|
        .ite (.some (execEventConfigWrite_kept h)) <|
        .ite (.some (execScanRealign_kept h)) <|
        .ite (.some (execChgRequest_kept h)) <|
        .ite (.some (execChgCancel_kept h)) <|
        .ite (.some (execLaneRetireWrite_kept h)) <|
        .ite (.some (execRotateNow_kept h)) <|
        .ite (.some (.ite (execPavLoad_kept h) (execPavUnload_kept h))) <|
        .ite (.some (.ite (execRegionArm_kept h) (execRegionDisarm_kept h))) <|
        .ite (.some (execPavWdtKey_kept h)) <|
        .ite (.some (execPavWdtEnable_kept h)) <|
        .ite (.some (execPavWdtLock_kept h)) <|
        .ite (.some (execHandoverRequest_kept h)) <|
        .ite (.some (execTakeoverReqWrite_kept h)) <|
        .ite (.some (execPairRejoin_kept h)) <|
        .ite (.some (execSafetyStagedWrite_kept h)) <|
        .ite (.some (execSafetyFaultAck_kept h)) <|
        .ite (.some (execSafetyConfirm_kept h)) <|
        .ite (.some (execSafetyActivate_kept h)) <|
        .ite (.some (execSafetyDiscard_kept h)) <|
        .ite (.some (execSoutAck_kept h)) <|
        .ite (.some (execSgroupAck_kept h)) <|
        .ite (.some (execDiEdgesWrite_kept h)) <|
        .ite (.some (execDoAck_kept h)) <|
        .ite (.some (execIolModeWrite_kept h)) <|
        .ite (.some (execAdcStart_kept h)) <|
        .ite (.some (execAoAck_kept h)) <|
        .ite (.some (execHartEnableWrite_kept h)) <|
        .ite (.some (execFdbFlush_kept h)) <|
        .ite (.some (execGateApply_kept h)) <|
        .ite (.some (execTbStepWrite_kept h)) <|
        .ite (.some (execTbSetWrite_kept h)) <|
        .ite (.some (execTbSourceChange_kept h)) <|
        .ite (.some (execTbDeclare_kept h)) <|
        .ite (.some (.ite (execCanEnable_kept h₁) (execCanDisable_kept h))) <|
        .ite (.some (execCanRecover_kept h)) <|
        .ite (.some (execPartSizeWrite_kept h)) <|
        .ite (.some (execHistTagTableWrite_kept h)) .none) (drawn_kept h)

theorem applyWrite_kept (h : Kept s₀ s) : Kept s₀ (applyWrite src i j b s) := by
  unfold applyWrite
  split
  · exact h
  · refine .ite (took_kept h (execWdtForeignService_kept h)) <| .ite (reply_kept h) ?_
    split
    · rename_i hrow
      exact took_kept h ((State.rowOf_kept h).holds hrow)
    · exact plainWrite_kept h

/-! ### Machine/Dict -/

theorem execDictWrite_kept (h : Kept s₀ s) : KeptOut s₀ (execDictWrite src i j b s) := .next (applyWrite_kept h)

theorem execDictstoreCommit_kept (h : Kept s₀ s) : KeptOut s₀ (execDictstoreCommit i s) := .next (only_kept h commitKey_kept)

theorem execStatus3Toggle_kept (h : Kept s₀ s) : KeptOut s₀ (execStatus3Toggle s) := .next (only_kept h updPow_kept)

theorem writeOutcome_kept (h : Kept s₀ s) : KeptPair s₀ (writeOutcome src i j b s) :=
  Kept.share (fun h => .ite (.mk (.same h)) (.mk h)) (applyWrite_kept (.same h))

theorem writeItem_kept {x : Item} (h : Kept s₀ s) : KeptPair s₀ (writeItem src x s) := .ite (.mk h) (writeOutcome_kept h)

theorem holdFrame_kept (h : Kept s₀ s) : Kept s₀ (holdFrame i b s) := updSto_kept h

theorem execOptEvents_kept (h : Kept s₀ s) : KeptOut s₀ (execOptEvents b s) :=
  .next (optFrame_kept h (fun h =>
      .ite (.mk h) (Kept.share (fun h => .ite (.mk h) (.mk h)) (took_kept h (execRecqQuery_kept (.same h))))))

theorem execOptRead_kept (h : Kept s₀ s) : KeptOut s₀ (execOptRead b s) := .next (optFrame_kept h (fun h => (by split <;> exact .mk h)))

theorem opticalWrite_kept {x : Item} (h : Kept s₀ s) : KeptPair s₀ (opticalWrite x t t' s) :=
  .ite (.mk h) <|
    .ite (Kept.share (fun h => .ite (.mk (.same h)) (.mk h)) (took_kept h (execRecClearToken_kept (.same h)))) <|
    .ite (Kept.share (fun h => .ite (.mk (.same h)) (.mk h)) (took_kept h (execRecClearKeyswitch_kept (.same h)))) <|
    .ite (Kept.share (fun h => .ite (.mk (.same h)) (.mk h)) (took_kept h (execClaimVoucher_kept (.same h)))) <|
    .ite (Kept.share (fun h => .ite (.mk (.same h)) (.mk h)) (took_kept h (execDebugToken_kept (.same h)))) <|
    .ite (Kept.share (fun h => .ite (.mk (.same h)) (.mk h)) (took_kept h (execLcTokenRelease_kept (.same h)))) <|
    .ite (Kept.share (fun h => .ite (.mk (.same h)) (.mk h)) (took_kept h (execLcTokenReturn_kept (.same h)))) <|
    .ite (Kept.share (fun h => .ite (.mk (.same h)) (.mk h)) (took_kept h (execLcTokenScrap_kept (.same h)))) <|
    .ite (Kept.share (fun h => .ite (.mk (.same h)) (.mk h)) (took_kept h (execLcTokenRefurbish_kept (.same h)))) <|
    .ite (Kept.share (fun h => .ite (.mk (.same h)) (.mk h)) (took_kept h (execLcTokenFinalise_kept (.same h)))) (writeItem_kept h)

theorem opticalWriteFrame_kept (h : Kept s₀ s) : Kept s₀ (opticalWriteFrame b t t' s) :=
  .ite (.ite h (holdFrame_kept h))
      (Kept.share (fun h => .ite h (oweFrame_kept (.same h)))
        (optFrame_kept h (fun h => (by split; exacts [.mk h, .ite (.mk h) (.mk (opticalWrite_kept h).snd)]))))

theorem execOptWrite_kept (h : Kept s₀ s) : KeptOut s₀ (execOptWrite b t t' s) := .next (opticalWriteFrame_kept h)

theorem revertKey_kept (h : Kept s₀ s) : Kept s₀ (revertKey i s) := raise_kept (.same (.ite h (putBytes_kept h)))

theorem loadValue_kept {e : Nat × Bytes} {a : List Nat × State} (ha : KeptPair s₀ a) : KeptPair s₀ (loadValue old e a) := by
  dsimp only [loadValue]
  split
  · exact ha
  · exact .ite (.mk (revertKey_kept ha.snd)) <| .ite (.mk ha.snd) (.mk (putBytes_kept ha.snd))

theorem settleSet_kept {ks : List Nat} (h : Kept s₀ s) : KeptPair s₀ (settleSet i ks s) := by
  induction i generalizing ks s with
  | zero => exact .mk h
  | succ i ih => exact .ite (.mk h) (ih (each_kept h revertKey_kept))

theorem loadDeclared_kept {e : Nat × Bytes} (h : Kept s₀ s) : Kept s₀ (loadDeclared e s) := by
  dsimp only [loadDeclared]
  split
  · exact .ite h <| .ite (revertKey_kept h) (.same h)
  · exact h

theorem startConfigured_kept (h : Kept s₀ s) : Kept s₀ (startConfigured s) :=
  each_kept (each_kept (each_kept h (fun h => .ite (iolStart_kept h) (iolTo_kept h))) canEnableEffect_kept) ptpTo_kept

theorem dictLoad_kept (h : Kept s₀ s) : Kept s₀ (dictLoad s) :=
  milestone_kept (syncFollow_kept (pairFollow_kept (withDictReady_kept (stagedChanged_kept (wrN_kept (wrN_kept (histCount_kept
    (startConfigured_kept (seatFollow_kept (withFld_kept (updPair_kept (each_kept (each_kept (each_kept (each_kept
      (settleSet_kept (List.foldlRecOn (motive := KeptPair s₀) _ _ (.mk h) fun _ ha _ _ => loadValue_kept ha).snd).snd
      loadProgram_kept) loadDeclared_kept) writeEffect_kept) armTable_kept))))))))))))

theorem execDictLoad_kept (h : Kept s₀ s) : KeptOut s₀ (execDictLoad s) := .next (only_kept h dictLoad_kept)

/-! ### Machine/Operands -/

theorem trap_kept {α : Type} (h : Kept s₀ s) : KeptBy s₀ (trap i j k : Arb α) s := .throw h

theorem need_kept (h : Kept s₀ s) : KeptBy s₀ (need t i j k) s := .ite (.pure h) (trap_kept h)

theorem bankOf'_kept {c : Ctx} (h : Kept s₀ s) : KeptBy s₀ (bankOf' c) s := .get (.pure h)

theorem setRegs_kept {c : Ctx} {f' : Bank → Bank} (h : Kept s₀ s) : KeptBy s₀ (setRegs c f') s := .modify (setBank_kept h)

theorem drawBits_kept (h : Kept s₀ s) : KeptBy s₀ (drawBits i) s := .get (.bind (.modify (drawn_kept h)) .pure)

theorem fastLoad_kept {c : Ctx} (h : Kept s₀ s) : KeptBy s₀ (fastLoad c i j) s := .bind (need_kept h) fun h => .get (.pure h)

theorem fastStore_kept {c : Ctx} (h : Kept s₀ s) : KeptBy s₀ (fastStore c i b t) s :=
  .bind (need_kept h) fun h => .modify (updRouter_kept h)

theorem canWords_kept {o : Nat × Nat} (h : Kept s₀ s) : KeptPair s₀ (canWords o i j k s) := by
  induction k generalizing j s with
  | zero => exact .mk h
  | succ k ih => exact .mk (ih (KeptPair.ite (readWord0_kept h) <| .ite (readWord19_kept h) (.mk h)).snd).snd

theorem canLoad_kept {c : Ctx} (h : Kept s₀ s) : KeptBy s₀ (canLoad c i j) s :=
  .get (.bind (need_kept h) fun _ => .bind (.set (canWords_kept h).snd) .pure)

theorem winRefused_kept {α : Type} {c : Ctx} (h : Kept s₀ s) : KeptBy s₀ (winRefused c i j k l : Arb α) s :=
  .bind (.modify (wrN_kept h)) trap_kept

theorem winLoad_kept {c : Ctx} (h : Kept s₀ s) : KeptBy s₀ (winLoad c i j) s :=
  .get (by split; exacts [winRefused_kept h, .ite (winRefused_kept h) (.pure h)])

theorem codeWrite_kept (h : Kept s₀ s) : KeptBy s₀ (codeWrite i j k l b) s :=
  .get (.ite (.pure h) <| .ite (.pure h) <| .ite (.throw h) (.bind (.set (writeOutcome_kept h).snd) .pure))

theorem winStore_kept {c : Ctx} (h : Kept s₀ s) : KeptBy s₀ (winStore c i b) s :=
  .get (.bind (codeWrite_kept h) fun h => .ite (winRefused_kept h) (.pure h))

theorem fetchData_kept {c : Ctx} (h : Kept s₀ s) : KeptBy s₀ (fetchData c t i j) s :=
  .get (by
      split
      · exact .ite (.pure h) (trap_kept h)
      · exact .pure h
      · exact .ite (.throw h) (.pure h)
      · exact .pure h
      · exact .pure h
      · exact .pure h
      · exact winLoad_kept h
      · exact canLoad_kept h
      · exact fastLoad_kept h
      · exact trap_kept h)

theorem loadBytes_kept {c : Ctx} (h : Kept s₀ s) : KeptBy s₀ (loadBytes c t i j) s :=
  .bind (need_kept h) fun h => .get (.bind (need_kept h) fetchData_kept)

theorem Data.write_kept {d : Data} (h : Kept s₀ s) : Kept s₀ (Data.write d i j s) := by
  dsimp only [Data.write]
  split
  · exact store_kept h
  · exact storeBit_kept h

theorem issue_kept {c : Ctx} (h : Kept s₀ s) : KeptBy s₀ (issue c) s := .modify (updLane_kept h)

theorem sramStore_kept {c : Ctx} {d : Data} (h : Kept s₀ s) : KeptBy s₀ (sramStore c i d) s :=
  .get (.ite (.throw h) (.bind (issue_kept h) fun h => .modify (Data.write_kept (only_kept h unpoison_kept))))

theorem putData_kept {c : Ctx} {d : Data} (h : Kept s₀ s) : KeptBy s₀ (putData c i d) s :=
  .get (by
      split
      · exact .modify (Data.write_kept h)
      · exact sramStore_kept h
      · exact .bind (issue_kept h) fun h => .modify (Data.write_kept h)
      · exact .bind (need_kept h) fun h => .bind (need_kept h) fun h => .bind (issue_kept h) fun h => .modify (Data.write_kept h)
      · exact (by split; exacts [winStore_kept h, .bind (winLoad_kept h) winStore_kept])
      · exact (by split <;> exact fastStore_kept h)
      · exact trap_kept h
      · exact trap_kept h
      · exact trap_kept h
      · exact trap_kept h)

theorem storeData_kept {c : Ctx} {d : Data} (h : Kept s₀ s) : KeptBy s₀ (storeData c i d) s :=
  .bind (need_kept h) fun h => .bind (need_kept h) fun h => .get (.bind (need_kept h) putData_kept)

theorem readPieces_kept {c : Ctx} {l : List (Nat × Nat)} (h : Kept s₀ s) : KeptBy s₀ (readPieces c l) s := by
  induction l generalizing s with
  | nil => exact .pure h
  | cons e r ih => exact .bind (fetchData_kept h) fun h => .bind (ih h) .pure

theorem writePieces_kept {c : Ctx} {l : List (Nat × Nat)} (h : Kept s₀ s) : KeptBy s₀ (writePieces c l b) s := by
  induction l generalizing b s with
  | nil => exact .pure h
  | cons e r ih => exact .bind (putData_kept h) ih

theorem addrOf_kept {c : Ctx} {sp : Space} {off : BitVec 18} (h : Kept s₀ s) : KeptBy s₀ (addrOf c sp off t) s :=
  .get (by split; exacts [trap_kept h, .bind (need_kept h) .pure])

theorem loadOp_kept {c : Ctx} {sp : Space} {off : BitVec 18} (h : Kept s₀ s) : KeptBy s₀ (loadOp c sp off i) s :=
  .bind (addrOf_kept h) fun h => .bind (loadBytes_kept h) .pure

theorem loadBit_kept {c : Ctx} {sp : Space} {off : BitVec 18} {b : BitVec 3} (h : Kept s₀ s) : KeptBy s₀ (loadBit c sp off b) s :=
  .bind (loadOp_kept h) .pure

theorem storeOp_kept {c : Ctx} {sp : Space} {off : BitVec 18} {d : Data} (h : Kept s₀ s) : KeptBy s₀ (storeOp c sp off d) s :=
  .bind (addrOf_kept h) storeData_kept

theorem aluOperand_kept {c : Ctx} {op : AluOp} (h : Kept s₀ s) : KeptBy s₀ (aluOperand c t t' t'' op) s := by
  dsimp only [aluOperand]
  split
  · exact .bind (loadOp_kept h) .pure
  · exact .bind (bankOf'_kept h) .pure
  · exact .bind (bankOf'_kept h) .pure
  · exact .pure h

theorem floatOperand_kept {c : Ctx} {op : FOp} (h : Kept s₀ s) : KeptBy s₀ (floatOperand c t op) s := by
  dsimp only [floatOperand]
  split <;> exact .bind (bankOf'_kept h) .pure

/-! ### Machine/ArbOps -/

theorem fetchCheck_kept {c : Ctx} (h : Kept s₀ s) : KeptBy s₀ (fetchCheck c i) s :=
  .get (.bind (need_kept h) fun h => .bind (need_kept h) fun h => (by split; exacts [.throw h, .pure h]))

theorem retire_kept {c : Ctx} (h : Kept s₀ s) : Kept s₀ (retire c i s) := updTask_kept h

theorem instruction_kept {c : Ctx} {illegal : Bank → State → Nat} {body : Sys2Proof.Machine.Arb Unit} (h : Kept s₀ s) (hbody : ∀ {s}, Kept s₀ s → KeptBy s₀ body s) :
    KeptBy s₀ (instruction c i j illegal body) s :=
  .bind (fetchCheck_kept h) fun h =>
      .get (.bind (need_kept h) fun h =>
        .bind (need_kept h) fun h => .bind (setRegs_kept h) fun h => .bind (hbody h) fun h => .modify (retire_kept h))

theorem takeTrap_kept {c : Ctx} (h : Kept s₀ s) : Kept s₀ (takeTrap c i j k l s) :=
  .ite (updTask_kept (overrun_kept h))
      (Kept.share (fun h => laneNext_kept (.ite (pavFault_kept h) (only_kept h (fun h => updPav_kept (updTask_kept (taskEntry_kept h))))))
        (wrBlob_kept (raiseOwned_kept (updTask_kept (cutOne_kept (only_kept h setBank_kept))))))

theorem stepped_kept {c : Ctx} (h : Kept s₀ s) : Kept s₀ (stepped c s) := only_kept h park_kept

theorem conclude_kept {c : Ctx} {m : Arb Unit} (h : Kept s₀ s) (hm : KeptBy s₀ m s) : Kept s₀ (conclude c i s (m s)) := by
  have hr := hm.ends
  unfold conclude
  revert hr
  generalize m s = r
  intro hr
  split
  · exact stepped_kept hr
  · exact takeTrap_kept hr
  · exact sramLost_kept hr
  · exact h
  · exact hr

theorem executing_kept {illegal : Bank → State → Nat} {f : Ctx → Arb Unit} (h : Kept s₀ s) (hf : ∀ {a s}, Kept s₀ s → KeptBy s₀ (f a) s) :
    KeptOut s₀ (executing i j k illegal f s) :=
  .next (by split; exacts [h, conclude_kept h (instruction_kept h hf)])

theorem plain_kept {f : Ctx → Arb Unit} (h : Kept s₀ s) (hf : ∀ {a0 s}, Kept s₀ s → KeptBy s₀ (f a0) s) : KeptOut s₀ (plain i f s) :=
  executing_kept h hf

theorem onRegs_kept {f' : Bank → Bank} (h : Kept s₀ s) : KeptOut s₀ (onRegs i f' s) := plain_kept h setRegs_kept

theorem resume_kept {c : Ctx} (h : Kept s₀ s) : Kept s₀ (resume c s) := stepped_kept (retire_kept (updTask_kept (setBank_kept h)))

/-! ### Machine/ArbBits -/

theorem bitLogic_kept {sp : Space} {off : BitVec 18} {b : BitVec 3} {f' : Bool → Bool → Bool} (h : Kept s₀ s) :
    KeptOut s₀ (bitLogic i sp off b f' s) :=
  plain_kept h (fun h => .bind (loadBit_kept h) setRegs_kept)

theorem bitStore_kept {sp : Space} {off : BitVec 18} {b : BitVec 3} {f' : Bool → Option Bool} (h : Kept s₀ s) :
    KeptOut s₀ (bitStore i sp off b f' s) :=
  plain_kept h (fun h => .bind (bankOf'_kept h) fun h => (by split; exacts [storeOp_kept h, .pure h]))

theorem execArbNop_kept (h : Kept s₀ s) : KeptOut s₀ (execArbNop i s) := onRegs_kept h

theorem execArbLd_kept {sp : Space} {off : BitVec 18} {b : BitVec 3} (h : Kept s₀ s) : KeptOut s₀ (execArbLd i sp off b s) :=
  bitLogic_kept h

theorem execArbLdn_kept {sp : Space} {off : BitVec 18} {b : BitVec 3} (h : Kept s₀ s) : KeptOut s₀ (execArbLdn i sp off b s) :=
  bitLogic_kept h

theorem execArbAnd_kept {sp : Space} {off : BitVec 18} {b : BitVec 3} (h : Kept s₀ s) : KeptOut s₀ (execArbAnd i sp off b s) :=
  bitLogic_kept h

theorem execArbAndn_kept {sp : Space} {off : BitVec 18} {b : BitVec 3} (h : Kept s₀ s) : KeptOut s₀ (execArbAndn i sp off b s) :=
  bitLogic_kept h

theorem execArbOr_kept {sp : Space} {off : BitVec 18} {b : BitVec 3} (h : Kept s₀ s) : KeptOut s₀ (execArbOr i sp off b s) :=
  bitLogic_kept h

theorem execArbOrn_kept {sp : Space} {off : BitVec 18} {b : BitVec 3} (h : Kept s₀ s) : KeptOut s₀ (execArbOrn i sp off b s) :=
  bitLogic_kept h

theorem execArbXor_kept {sp : Space} {off : BitVec 18} {b : BitVec 3} (h : Kept s₀ s) : KeptOut s₀ (execArbXor i sp off b s) :=
  bitLogic_kept h

theorem execArbXorn_kept {sp : Space} {off : BitVec 18} {b : BitVec 3} (h : Kept s₀ s) : KeptOut s₀ (execArbXorn i sp off b s) :=
  bitLogic_kept h

theorem execArbSt_kept {sp : Space} {off : BitVec 18} {b : BitVec 3} (h : Kept s₀ s) : KeptOut s₀ (execArbSt i sp off b s) :=
  bitStore_kept h

theorem execArbStn_kept {sp : Space} {off : BitVec 18} {b : BitVec 3} (h : Kept s₀ s) : KeptOut s₀ (execArbStn i sp off b s) :=
  bitStore_kept h

theorem execArbSet_kept {sp : Space} {off : BitVec 18} {b : BitVec 3} (h : Kept s₀ s) : KeptOut s₀ (execArbSet i sp off b s) :=
  bitStore_kept h

theorem execArbRst_kept {sp : Space} {off : BitVec 18} {b : BitVec 3} (h : Kept s₀ s) : KeptOut s₀ (execArbRst i sp off b s) :=
  bitStore_kept h

theorem edge_kept {sp : Space} {off : BitVec 18} {b : BitVec 3} {f' : Bool → Bool → Bool} (h : Kept s₀ s) :
    KeptOut s₀ (edge i sp off b f' s) :=
  plain_kept h (fun h =>
      .bind (addrOf_kept h) fun h =>
        .bind (loadBytes_kept h) fun h => .bind (bankOf'_kept h) fun h => .bind (storeData_kept h) setRegs_kept)

theorem execArbEdgp_kept {sp : Space} {off : BitVec 18} {b : BitVec 3} (h : Kept s₀ s) : KeptOut s₀ (execArbEdgp i sp off b s) :=
  edge_kept h

theorem execArbEdgn_kept {sp : Space} {off : BitVec 18} {b : BitVec 3} (h : Kept s₀ s) : KeptOut s₀ (execArbEdgn i sp off b s) :=
  edge_kept h

theorem execArbNot_kept (h : Kept s₀ s) : KeptOut s₀ (execArbNot i s) := onRegs_kept h

theorem execArbSeta_kept (h : Kept s₀ s) : KeptOut s₀ (execArbSeta i s) := onRegs_kept h

theorem execArbClra_kept (h : Kept s₀ s) : KeptOut s₀ (execArbClra i s) := onRegs_kept h

theorem execArbPush_kept {tag : BitVec 2} (h : Kept s₀ s) : KeptOut s₀ (execArbPush i tag s) :=
  executing_kept h (fun h => .bind (bankOf'_kept h) fun h => .bind (need_kept h) setRegs_kept)

theorem popBit_kept {c : Ctx} {bad : BitVec 2 → Bool} (h : Kept s₀ s) : KeptBy s₀ (popBit c bad) s :=
  .bind (bankOf'_kept h) fun h => (by split; exacts [trap_kept h, .bind (need_kept h) fun h => .bind (setRegs_kept h) .pure])

theorem execArbPopa_kept (h : Kept s₀ s) : KeptOut s₀ (execArbPopa i s) := plain_kept h (fun h => .bind (popBit_kept h) setRegs_kept)

theorem execArbPopo_kept (h : Kept s₀ s) : KeptOut s₀ (execArbPopo i s) := plain_kept h (fun h => .bind (popBit_kept h) setRegs_kept)

theorem timer_kept {sp : Space} {off : BitVec 18} {f' : Bool → Nat → Timer → Timer} (h : Kept s₀ s) : KeptOut s₀ (timer i sp off f' s) :=
  executing_kept h (fun h =>
      .bind (need_kept h) fun h =>
        .bind (addrOf_kept h) fun h =>
          .bind (loadBytes_kept h) fun h =>
            .bind (loadBytes_kept h) fun h =>
              .bind (bankOf'_kept h) fun h =>
                .ite (.bind (storeData_kept h) fun h => .bind (storeData_kept h) setRegs_kept) (.bind (storeData_kept h) setRegs_kept))

theorem execArbTon_kept {sp : Space} {off : BitVec 18} (h : Kept s₀ s) : KeptOut s₀ (execArbTon i sp off s) := timer_kept h

theorem execArbTof_kept {sp : Space} {off : BitVec 18} (h : Kept s₀ s) : KeptOut s₀ (execArbTof i sp off s) := timer_kept h

theorem execArbTp_kept {sp : Space} {off : BitVec 18} (h : Kept s₀ s) : KeptOut s₀ (execArbTp i sp off s) := timer_kept h

theorem counter_kept {sp : Space} {off : BitVec 18} {f : Ctx → Arb (Option Bool × Option Bool)} (h : Kept s₀ s) (hf : ∀ {a0 s}, Kept s₀ s → KeptBy s₀ (f a0) s) :
    KeptOut s₀ (counter i sp off f t s) :=
  executing_kept h (fun h =>
      .bind (need_kept h) fun h =>
        .bind (addrOf_kept h) fun h =>
          .bind (loadBytes_kept h) fun h =>
            .bind (loadBytes_kept h) fun h =>
              .bind (hf h) fun h =>
                .ite (.bind (storeData_kept h) fun h => .bind (storeData_kept h) setRegs_kept) (.bind (storeData_kept h) setRegs_kept))

theorem execArbCtu_kept {sp : Space} {off : BitVec 18} (h : Kept s₀ s) : KeptOut s₀ (execArbCtu i sp off s) :=
  counter_kept h (fun h => .bind (bankOf'_kept h) .pure)

theorem execArbCtd_kept {sp : Space} {off : BitVec 18} (h : Kept s₀ s) : KeptOut s₀ (execArbCtd i sp off s) :=
  counter_kept h (fun h => .bind (bankOf'_kept h) .pure)

theorem execArbCtud_kept {sp : Space} {off : BitVec 18} (h : Kept s₀ s) : KeptOut s₀ (execArbCtud i sp off s) :=
  counter_kept h (fun h => .bind (popBit_kept h) fun h => .bind (bankOf'_kept h) .pure)

/-! ### Machine/ArbFloat -/

theorem invalid_kept {c : Ctx} (h : Kept s₀ s) : KeptBy s₀ (invalid c t) s := .ite (.get (.bind (need_kept h) setRegs_kept)) (.pure h)

theorem nanFree_kept {f' : Fmt} {r : FRes} (h : Kept s₀ s) : KeptBy s₀ (nanFree f' r) s := .ite (.bind (drawBits_kept h) .pure) (.pure h)

theorem floatResult_kept {c : Ctx} {f' : Fmt} {r : FRes} (h : Kept s₀ s) : KeptBy s₀ (floatResult c t f' r) s :=
  .bind (invalid_kept h) fun h => .bind (nanFree_kept h) setRegs_kept

theorem floatOp_kept {op : FOp} {f' : Fmt → Nat → Nat → FRes} (h : Kept s₀ s) : KeptOut s₀ (floatOp i t t' op f' s) :=
  plain_kept h (fun h => .bind (floatOperand_kept h) fun h => .bind (bankOf'_kept h) floatResult_kept)

theorem execArbFadd_kept {op : FOp} (h : Kept s₀ s) : KeptOut s₀ (execArbFadd i t t' op s) := floatOp_kept h

theorem execArbFsub_kept {op : FOp} (h : Kept s₀ s) : KeptOut s₀ (execArbFsub i t t' op s) := floatOp_kept h

theorem execArbFmul_kept {op : FOp} (h : Kept s₀ s) : KeptOut s₀ (execArbFmul i t t' op s) := floatOp_kept h

theorem execArbFdiv_kept {op : FOp} (h : Kept s₀ s) : KeptOut s₀ (execArbFdiv i t t' op s) := floatOp_kept h

theorem execArbFsqrt_kept {op : FOp} (h : Kept s₀ s) : KeptOut s₀ (execArbFsqrt i t t' op s) := floatOp_kept h

theorem execArbFma_kept {gb : BitVec 4} (h : Kept s₀ s) : KeptOut s₀ (execArbFma i t t' gb s) :=
  plain_kept h (fun h => .bind (bankOf'_kept h) floatResult_kept)

theorem floatCmp_kept {op : FOp} {f' : Ordering → Bool} (h : Kept s₀ s) : KeptOut s₀ (floatCmp i t t' op f' s) :=
  plain_kept h (fun h => .bind (floatOperand_kept h) fun h => .bind (bankOf'_kept h) fun h => .bind (invalid_kept h) setRegs_kept)

theorem execArbFcmpeq_kept {op : FOp} (h : Kept s₀ s) : KeptOut s₀ (execArbFcmpeq i t t' op s) := floatCmp_kept h

theorem execArbFcmplt_kept {op : FOp} (h : Kept s₀ s) : KeptOut s₀ (execArbFcmplt i t t' op s) := floatCmp_kept h

theorem execArbFcmple_kept {op : FOp} (h : Kept s₀ s) : KeptOut s₀ (execArbFcmple i t t' op s) := floatCmp_kept h

theorem execArbFcvti_kept {op : FOp} (h : Kept s₀ s) : KeptOut s₀ (execArbFcvti i t t' t'' t₃ op s) :=
  plain_kept h (fun h => .bind (floatOperand_kept h) fun h => .bind (invalid_kept h) setRegs_kept)

theorem execArbFcvtf_kept {op : FOp} (h : Kept s₀ s) : KeptOut s₀ (execArbFcvtf i t t' t'' op s) :=
  plain_kept h (fun h => .bind (floatOperand_kept h) setRegs_kept)

theorem execArbFcvtp_kept {op : FOp} (h : Kept s₀ s) : KeptOut s₀ (execArbFcvtp i t t' op s) :=
  plain_kept h (fun h => .bind (floatOperand_kept h) floatResult_kept)

/-! ### Machine/ArbFlow -/

theorem jump_kept {t : BitVec 18} {f' : Bool → Bool} (h : Kept s₀ s) : KeptOut s₀ (jump i t f' s) := executing_kept h setRegs_kept

theorem execArbJmp_kept {t : BitVec 18} (h : Kept s₀ s) : KeptOut s₀ (execArbJmp i t s) := jump_kept h

theorem execArbJc_kept {t : BitVec 18} (h : Kept s₀ s) : KeptOut s₀ (execArbJc i t s) := jump_kept h

theorem execArbJnc_kept {t : BitVec 18} (h : Kept s₀ s) : KeptOut s₀ (execArbJnc i t s) := jump_kept h

theorem execArbCall_kept {t : BitVec 18} (h : Kept s₀ s) : KeptOut s₀ (execArbCall i t s) :=
  executing_kept h (fun h => .bind (bankOf'_kept h) fun h => .bind (need_kept h) fun h => .bind (storeData_kept h) setRegs_kept)

theorem execArbRet_kept (h : Kept s₀ s) : KeptOut s₀ (execArbRet i s) :=
  plain_kept h (fun h => .bind (bankOf'_kept h) fun h => .bind (need_kept h) fun h => .bind (loadBytes_kept h) setRegs_kept)

theorem execArbLoop_kept {gr : BitVec 4} {t : BitVec 18} {bound : BitVec 32} (h : Kept s₀ s) :
    KeptOut s₀ (execArbLoop i gr t bound s) :=
  executing_kept h (fun h => .bind (bankOf'_kept h) fun h => .bind (need_kept h) setRegs_kept)

theorem execArbEnd_kept (h : Kept s₀ s) : KeptOut s₀ (execArbEnd i s) :=
  plain_kept h (fun h => .bind (bankOf'_kept h) fun h => .bind (need_kept h) fun h => .modify (endTask_kept h))

theorem execArbEvt_kept {code : BitVec 16} (h : Kept s₀ s) : KeptOut s₀ (execArbEvt i code s) :=
  plain_kept h (fun h => .bind (bankOf'_kept h) fun h => .get (.ite (.set (raiseOwned_kept h)) (.pure h)))

theorem execArbRdtb_kept (h : Kept s₀ s) : KeptOut s₀ (execArbRdtb i j s) :=
  executing_kept h (fun h => .get (.bind (need_kept h) setRegs_kept))

theorem execArbFence_kept (h : Kept s₀ s) : KeptOut s₀ (execArbFence i s) :=
  plain_kept h (fun h => .get (.ite (.bind (.modify (updTask_kept h)) .throw) (.pure h)))

theorem execFenceDrainComplete_kept (h : Kept s₀ s) : KeptOut s₀ (execFenceDrainComplete i s) :=
  .next (only_kept h (fun h => (by dsimp only; split; exacts [resume_kept (updLane_kept h), updLane_kept h])))

theorem execIllegalOpcode_kept (h : Kept s₀ s) : KeptOut s₀ (execIllegalOpcode i j s) := executing_kept h (fun h => .pure h)

/-! ### Machine/ArbSys -/

theorem sysCall_kept {mine : Bank → Bool} {err : List (Nat × Nat)} {f : Ctx → Bank → Arb (List (Nat × Nat))} (h : Kept s₀ s) (hf : ∀ {a0 a1 s}, Kept s₀ s → KeptBy s₀ (f a0 a1) s) :
    KeptOut s₀ (sysCall i j t mine err f s) :=
  plain_kept h (fun h =>
      .bind (bankOf'_kept h) fun h =>
        .ite (.bind (.throw h) fun h =>
            .ite (.bind (.pure h) fun h => .bind (.modify (updTask_kept h)) .throw)
              (.bind (hf h) fun h => .bind (.modify (updTask_kept h)) .throw)) <|
        .ite (.bind (.pure h) fun h => .bind (.modify (updTask_kept h)) .throw)
            (.bind (hf h) fun h => .bind (.modify (updTask_kept h)) .throw))

theorem bufRead_kept {c : Ctx} (h : Kept s₀ s) : KeptBy s₀ (bufRead c i j) s := readPieces_kept h

theorem bufWrite_kept {c : Ctx} (h : Kept s₀ s) : KeptBy s₀ (bufWrite c i b) s := writePieces_kept h

theorem pavRecord_kept (h : Kept s₀ s) : Kept s₀ (pavRecord i j b s) := recPut_kept (takeSeq_kept h).snd

theorem execSysRecorderWrite_kept (h : Kept s₀ s) : KeptOut s₀ (execSysRecorderWrite i s) :=
  sysCall_kept h (fun h =>
      .get (.ite (.pure h) <| .ite (.pure h) (.bind (bufRead_kept h) fun h => .bind (.modify (pavRecord_kept h)) .pure)))

theorem execSysWdtService_kept (h : Kept s₀ s) : KeptOut s₀ (execSysWdtService i s) :=
  sysCall_kept h (fun h =>
      .get (.ite (.pure h) <|
      .ite (.bind (.set (wdtFail_kept h)) .pure) <|
      .ite (.bind (.set (updPav_kept h)) .pure) (.bind (.set (wdtFail_kept h)) .pure)))

theorem sysRead_kept {c : Ctx} (h : Kept s₀ s) : KeptBy s₀ (sysRead c i j k l) s :=
  .get (by split; exacts [.pure h, .ite (.pure h) <| .ite (.pure h) (.bind (bufWrite_kept h) .pure)])

theorem sysWrite_kept {c : Ctx} (h : Kept s₀ s) : KeptBy s₀ (sysWrite c i j k l) s :=
  .bind (bufRead_kept h) fun h => .bind (codeWrite_kept h) .pure

theorem execSysDictTransfer_kept (h : Kept s₀ s) : KeptOut s₀ (execSysDictTransfer i s) :=
  sysCall_kept h (fun h => .get (.ite (.pure h) <| .ite (.pure h) <| .ite (sysRead_kept h) (sysWrite_kept h)))

theorem dmaSubmit_kept (h : Kept s₀ s) : Kept s₀ (dmaSubmit i b s) := wrN_kept (updPav_kept h)

theorem execSysDmaSubmit_kept (h : Kept s₀ s) : KeptOut s₀ (execSysDmaSubmit i s) :=
  sysCall_kept h (fun h =>
      .get (.ite (.bind (.modify (wrN_kept h)) .pure) <|
      .ite (.bind (.modify (wrN_kept h)) .pure)
          (.bind (bufRead_kept h) fun h => .ite (.bind (.modify (wrN_kept h)) .pure) (.bind (.modify (dmaSubmit_kept h)) .pure))))

theorem execSysDmaStatus_kept (h : Kept s₀ s) : KeptOut s₀ (execSysDmaStatus i s) :=
  sysCall_kept h (fun h => .get (by split; exacts [.pure h, .bind (drawBits_kept h) .pure]))

theorem queued_kept (h : Kept s₀ s) : Kept s₀ (queued i j s) := bufPut_kept h

theorem execSysIsduRequest_kept (h : Kept s₀ s) : KeptOut s₀ (execSysIsduRequest i s) :=
  sysCall_kept h (fun h => .get (.ite (.pure h) (.bind (bufRead_kept h) fun h => .bind (.modify (queued_kept (updIol_kept h))) .pure)))

theorem execSysHartCommand_kept (h : Kept s₀ s) : KeptOut s₀ (execSysHartCommand i s) :=
  sysCall_kept h (fun h => .get (.ite (.pure h) (.bind (bufRead_kept h) fun h => .bind (.modify (queued_kept (updHart_kept h))) .pure)))

theorem pavstoreCall_kept (h : Kept s₀ s) : KeptOut s₀ (pavstoreCall i j s) :=
  sysCall_kept h (fun h =>
      .get (.ite (.bind (.set (only_kept h raiseOwned_kept)) .pure) (.bind (.set (queued_kept (updSto_kept h))) .pure)))

theorem execSysPavstoreRead_kept (h : Kept s₀ s) : KeptOut s₀ (execSysPavstoreRead i s) := pavstoreCall_kept h

theorem execSysPavstoreWrite_kept (h : Kept s₀ s) : KeptOut s₀ (execSysPavstoreWrite i s) := pavstoreCall_kept h

theorem execSysPavstoreTrim_kept (h : Kept s₀ s) : KeptOut s₀ (execSysPavstoreTrim i s) := pavstoreCall_kept h

theorem execSysPavstoreSync_kept (h : Kept s₀ s) : KeptOut s₀ (execSysPavstoreSync i s) := pavstoreCall_kept h

theorem execSysCanDoorbell_kept (h : Kept s₀ s) : KeptOut s₀ (execSysCanDoorbell i s) :=
  sysCall_kept h (fun h => .get (.ite (.pure h) <| .ite (.pure h) (.bind (.set (doorbell_kept h)) .pure)))

theorem execSysCanCancel_kept (h : Kept s₀ s) : KeptOut s₀ (execSysCanCancel i s) :=
  sysCall_kept h (fun h => .get (.ite (.pure h) <| .ite (.pure h) (.bind (.set (cancelEntry_kept h).snd) .pure)))

theorem execSysServiceComplete_kept (h : Kept s₀ s) : KeptOut s₀ (execSysServiceComplete i s) :=
  .next (only_kept h (fun h => (by split; exacts [resume_kept h, h])))

/-! ### Machine/ArbWord -/

theorem loaded_kept {c : Ctx} (h : Kept s₀ s) : KeptBy s₀ (loaded c t t' i j) s := by
  unfold loaded
  exact setRegs_kept h

theorem execArbLdw_kept {w : BitVec 2} {sp : Space} {off : BitVec 18} (h : Kept s₀ s) : KeptOut s₀ (execArbLdw i w t t' sp off s) :=
  plain_kept h (fun h => .bind (loadOp_kept h) loaded_kept)

theorem execArbStw_kept {w : BitVec 2} {sp : Space} {off : BitVec 18} (h : Kept s₀ s) : KeptOut s₀ (execArbStw i w t sp off s) :=
  plain_kept h (fun h => .bind (bankOf'_kept h) storeOp_kept)

theorem execArbPutg_kept {ga : BitVec 4} (h : Kept s₀ s) : KeptOut s₀ (execArbPutg i t ga s) := onRegs_kept h

theorem execArbAddg_kept {ga : BitVec 4} {gb : BitVec 4} {imm : BitVec 12} (h : Kept s₀ s) : KeptOut s₀ (execArbAddg i ga gb imm s) :=
  onRegs_kept h

theorem execArbMovga_kept {ga : BitVec 4} {hi : BitVec 8} {ext : BitVec 32} (h : Kept s₀ s) :
    KeptOut s₀ (execArbMovga i ga hi ext s) :=
  executing_kept h setRegs_kept

theorem execArbXchw_kept (h : Kept s₀ s) : KeptOut s₀ (execArbXchw i s) := onRegs_kept h

theorem execArbGets_kept {sel : BitVec 2} (h : Kept s₀ s) : KeptOut s₀ (execArbGets i t sel s) := onRegs_kept h

theorem execArbLdf_kept (h : Kept s₀ s) : KeptOut s₀ (execArbLdf i j s) := executing_kept h setRegs_kept

theorem execArbClrf_kept (h : Kept s₀ s) : KeptOut s₀ (execArbClrf i s) := onRegs_kept h

theorem execArbLdx_kept {w : BitVec 2} {ga : BitVec 4} {imm : BitVec 12} (h : Kept s₀ s) : KeptOut s₀ (execArbLdx i w t t' ga imm s) :=
  plain_kept h (fun h => .bind (bankOf'_kept h) fun h => .bind (loadBytes_kept h) loaded_kept)

theorem execArbStx_kept {w : BitVec 2} {ga : BitVec 4} {imm : BitVec 12} (h : Kept s₀ s) : KeptOut s₀ (execArbStx i w t ga imm s) :=
  plain_kept h (fun h => .bind (bankOf'_kept h) storeData_kept)

theorem execArbMovb_kept {ga : BitVec 4} {gb : BitVec 4} {imm : BitVec 12} (h : Kept s₀ s) : KeptOut s₀ (execArbMovb i ga gb imm s) :=
  executing_kept h (fun h =>
      .bind (bankOf'_kept h) fun h =>
        .bind (need_kept h) fun h =>
          .get (.bind (need_kept h) fun h => .bind (need_kept h) fun h => .bind (readPieces_kept h) writePieces_kept))

theorem execArbMux_kept {ga : BitVec 4} {imm : BitVec 12} (h : Kept s₀ s) : KeptOut s₀ (execArbMux i t t' t'' ga imm s) :=
  executing_kept h (fun h => .bind (bankOf'_kept h) fun h => .bind (loadBytes_kept h) setRegs_kept)

theorem intResult_kept {c : Ctx} {x : IntRes} (h : Kept s₀ s) : KeptBy s₀ (intResult c t t' t'' x) s := by
  unfold intResult
  extract_lets carry
  have hcarry : ∀ {cf s}, Kept s₀ s → KeptBy s₀ (carry cf) s := fun h => by
    dsimp only [carry]
    split
    · exact .bind (.pure h) setRegs_kept
    · exact .bind (drawBits_kept h) fun h => .bind (.pure h) setRegs_kept
  split
  · exact .bind (.pure h) hcarry
  · exact .bind (drawBits_kept h) fun h => .bind (.pure h) hcarry

theorem alu_kept {op : AluOp} {f' : Bool → Nat → Nat → Nat → Nat → Option IntRes} (h : Kept s₀ s) : KeptOut s₀ (alu i t t' t'' op j f' s) :=
  executing_kept h (fun h =>
      .bind (aluOperand_kept h) fun h => .bind (bankOf'_kept h) fun h => .get (by split; exacts [intResult_kept h, trap_kept h]))

theorem compareOp_kept {op : AluOp} {f' : Int → Int → Bool} (h : Kept s₀ s) : KeptOut s₀ (compareOp i t t' t'' op f' s) :=
  executing_kept h (fun h => .bind (aluOperand_kept h) setRegs_kept)

theorem execArbAdd_kept {op : AluOp} (h : Kept s₀ s) : KeptOut s₀ (execArbAdd i t t' t'' op s) := alu_kept h

theorem execArbSub_kept {op : AluOp} (h : Kept s₀ s) : KeptOut s₀ (execArbSub i t t' t'' op s) := alu_kept h

theorem execArbMul_kept {op : AluOp} (h : Kept s₀ s) : KeptOut s₀ (execArbMul i t t' t'' op s) := alu_kept h

theorem execArbDiv_kept {op : AluOp} (h : Kept s₀ s) : KeptOut s₀ (execArbDiv i t t' t'' op s) := alu_kept h

theorem execArbMod_kept {op : AluOp} (h : Kept s₀ s) : KeptOut s₀ (execArbMod i t t' t'' op s) := alu_kept h

theorem execArbAluAnd_kept {op : AluOp} (h : Kept s₀ s) : KeptOut s₀ (execArbAluAnd i t t' t'' op s) := alu_kept h

theorem execArbAluOr_kept {op : AluOp} (h : Kept s₀ s) : KeptOut s₀ (execArbAluOr i t t' t'' op s) := alu_kept h

theorem execArbAluXor_kept {op : AluOp} (h : Kept s₀ s) : KeptOut s₀ (execArbAluXor i t t' t'' op s) := alu_kept h

theorem execArbMin_kept {op : AluOp} (h : Kept s₀ s) : KeptOut s₀ (execArbMin i t t' t'' op s) := alu_kept h

theorem execArbMax_kept {op : AluOp} (h : Kept s₀ s) : KeptOut s₀ (execArbMax i t t' t'' op s) := alu_kept h

theorem execArbLimit_kept {op : AluOp} (h : Kept s₀ s) : KeptOut s₀ (execArbLimit i t t' t'' op s) := alu_kept h

theorem execArbSel_kept {op : AluOp} (h : Kept s₀ s) : KeptOut s₀ (execArbSel i t t' t'' op s) :=
  executing_kept h (fun h => .bind (aluOperand_kept h) setRegs_kept)

theorem execArbCmpeq_kept {op : AluOp} (h : Kept s₀ s) : KeptOut s₀ (execArbCmpeq i t t' t'' op s) := compareOp_kept h

theorem execArbCmpne_kept {op : AluOp} (h : Kept s₀ s) : KeptOut s₀ (execArbCmpne i t t' t'' op s) := compareOp_kept h

theorem execArbCmplt_kept {op : AluOp} (h : Kept s₀ s) : KeptOut s₀ (execArbCmplt i t t' t'' op s) := compareOp_kept h

theorem execArbCmple_kept {op : AluOp} (h : Kept s₀ s) : KeptOut s₀ (execArbCmple i t t' t'' op s) := compareOp_kept h

theorem execArbCmpgt_kept {op : AluOp} (h : Kept s₀ s) : KeptOut s₀ (execArbCmpgt i t t' t'' op s) := compareOp_kept h

theorem execArbCmpge_kept {op : AluOp} (h : Kept s₀ s) : KeptOut s₀ (execArbCmpge i t t' t'' op s) := compareOp_kept h

theorem execArbShl_kept {op : AluOp} (h : Kept s₀ s) : KeptOut s₀ (execArbShl i t t' t'' op s) := alu_kept h

theorem execArbShr_kept {op : AluOp} (h : Kept s₀ s) : KeptOut s₀ (execArbShr i t t' t'' op s) := alu_kept h

theorem execArbSar_kept {op : AluOp} (h : Kept s₀ s) : KeptOut s₀ (execArbSar i t t' t'' op s) := alu_kept h

theorem execArbRol_kept {op : AluOp} (h : Kept s₀ s) : KeptOut s₀ (execArbRol i t t' t'' op s) := alu_kept h

theorem execArbRor_kept {op : AluOp} (h : Kept s₀ s) : KeptOut s₀ (execArbRor i t t' t'' op s) := alu_kept h

theorem execArbMov_kept {op : AluOp} (h : Kept s₀ s) : KeptOut s₀ (execArbMov i t t' t'' op s) := alu_kept h

/-! ### Machine/Dap -/

theorem execDapHandshake_kept {cert : Cert} (h : Kept s₀ s) : KeptOut s₀ (execDapHandshake b cert s) :=
  .next (only_kept h (fun h =>
      .ite (authFailure_kept (raise_kept (drawn_kept h))) <|
      .ite (raise_kept (inc_kept (send_kept h))) (countSessions_kept (drawn_kept (updSession_kept h)))))

theorem execDapIdleTimeout_kept (h : Kept s₀ s) : KeptOut s₀ (execDapIdleTimeout i s) := .next (only_kept h closeSession_kept)

theorem dropSeg_kept (h : Kept s₀ s) : Kept s₀ (dropSeg i s) := updSession_kept h

theorem execDapSegSequenceTimeout_kept (h : Kept s₀ s) : KeptOut s₀ (execDapSegSequenceTimeout i s) := .next (only_kept h dropSeg_kept)

theorem execDapTokenRefill_kept (h : Kept s₀ s) : KeptOut s₀ (execDapTokenRefill i s) := .next (only_kept h updSession_kept)

theorem execDapEventPush_kept (h : Kept s₀ s) : KeptOut s₀ (execDapEventPush i s) :=
  .next (only_kept h (fun h => (by split; exacts [h, send_kept (updSession_kept h)])))

theorem dapRun_kept {f : Nat → Bytes → State → DapAnswer × State} (h : Kept s₀ s) (hf : ∀ {a0 a1 s}, Kept s₀ s → KeptPair s₀ (f a0 a1 s)) :
    Kept s₀ (dapRun i b f s) :=
  .ite (send_kept (only_kept (hf h).snd updSession_kept)) <|
    .ite (oweFrame_kept (updSession_kept (hf h).snd)) (send_kept (.same (hf h).snd))

theorem dapFrame_kept {f : Nat → Bytes → State → DapAnswer × State} (h : Kept s₀ s)
    (hf : ∀ {n b s}, Kept s₀ s → KeptPair s₀ (f n b s)) : Kept s₀ (dapFrame i j b f s) := by
  unfold dapFrame
  refine only_kept h fun h => ?_
  extract_lets _ _ _ _ taken
  refine .ite (send_kept (raise_kept (updSession_kept (updSession_kept h)))) ?_
  refine .share (s := taken) (fun h => ?_) (updSession_kept (updSession_kept h))
  refine .ite (send_kept h) ?_
  split
  · exact .ite h (send_kept h)
  · exact .ite (send_kept h) <| .ite (holdFrame_kept (updSession_kept h)) (dapRun_kept h hf)

theorem readRun_kept (h : Kept s₀ s) : KeptPair s₀ (readRun i b s) := by
  dsimp only [readRun]
  split <;> exact .mk h

theorem describeRun_kept (h : Kept s₀ s) : KeptPair s₀ (describeRun i b s) := by
  dsimp only [describeRun]
  split <;> exact .mk h

theorem readSegRun_kept (h : Kept s₀ s) : KeptPair s₀ (readSegRun i b s) := by
  dsimp only [readSegRun]
  split
  · exact .mk h
  · exact .ite (.mk h) (.mk h)

theorem writeRun_kept (h : Kept s₀ s) : KeptPair s₀ (writeRun i b s) :=
  .mk (List.foldlRecOn (motive := KeptPair s₀) _ _ (.mk h) fun _ ha _ _ => .mk (writeItem_kept ha.snd).snd).snd

theorem atomicRun_kept (h : Kept s₀ s) : KeptPair s₀ (atomicRun i b s) := by
  dsimp only [atomicRun]
  split
  · exact .mk h
  · refine .ite (.mk h) <| .ite (.mk (each_kept h dictFull_kept)) <| .ite (.mk h) (.mk ?_)
    refine (List.foldlRecOn (motive := KeptPair s₀) _ _ (.mk ?_) fun _ ha _ _ => ?_).snd
    · refine each_kept (afterWrites_kept (each_kept ?_ writeEffect_kept)) answerWrite_kept
      exact (List.foldlRecOn (motive := KeptPair s₀) _ _ (.mk h) fun _ ha _ _ => .mk (writeValue_kept ha.snd).snd).snd
    · exact .ite (.mk ha.snd) (.mk (writeOutcome_kept ha.snd).snd)

theorem writeSegRun_kept (h : Kept s₀ s) : KeptPair s₀ (writeSegRun i b s) :=
  .ite (.mk (dropSeg_kept h)) <| .ite (.mk (writeItem_kept (dropSeg_kept h)).snd) <| .ite (.mk (dropSeg_kept h)) (.mk (updSession_kept h))

theorem subscribeRun_kept (h : Kept s₀ s) : KeptPair s₀ (subscribeRun i b s) := .ite (.mk h) (.mk (updSession_kept h))

theorem keepaliveRun_kept (h : Kept s₀ s) : KeptPair s₀ (keepaliveRun i b s) := .mk h

theorem closeRun_kept (h : Kept s₀ s) : KeptPair s₀ (closeRun i b s) := .mk (closeSession_kept h)

theorem execDapRead_kept (h : Kept s₀ s) : KeptOut s₀ (execDapRead i b s) := .next (dapFrame_kept h readRun_kept)

theorem execDapWrite_kept (h : Kept s₀ s) : KeptOut s₀ (execDapWrite i b s) := .next (dapFrame_kept h writeRun_kept)

theorem execDapWriteAtomic_kept (h : Kept s₀ s) : KeptOut s₀ (execDapWriteAtomic i b s) := .next (dapFrame_kept h atomicRun_kept)

theorem execDapReadSeg_kept (h : Kept s₀ s) : KeptOut s₀ (execDapReadSeg i b s) := .next (dapFrame_kept h readSegRun_kept)

theorem execDapWriteSeg_kept (h : Kept s₀ s) : KeptOut s₀ (execDapWriteSeg i b s) := .next (dapFrame_kept h writeSegRun_kept)

theorem execDapSubscribe_kept (h : Kept s₀ s) : KeptOut s₀ (execDapSubscribe i b s) := .next (dapFrame_kept h subscribeRun_kept)

theorem execDapKeepalive_kept (h : Kept s₀ s) : KeptOut s₀ (execDapKeepalive i b s) := .next (dapFrame_kept h keepaliveRun_kept)

theorem execDapDescribe_kept (h : Kept s₀ s) : KeptOut s₀ (execDapDescribe i b s) := .next (dapFrame_kept h describeRun_kept)

theorem execDapClose_kept (h : Kept s₀ s) : KeptOut s₀ (execDapClose i b s) := .next (dapFrame_kept h closeRun_kept)

theorem dapHeld_kept (h : Kept s₀ s) : Kept s₀ (dapHeld i b s) :=
  only_kept h (fun h =>
      dapRun_kept (updSession_kept h) (fun h =>
        (by split; exacts [writeSegRun_kept h, (by split; exacts [atomicRun_kept h, writeRun_kept h])])))

/-! ### Machine/Fabric -/

theorem busError_kept {m : FabArrival} (h : Kept s₀ s) : Kept s₀ (busError m s) := raise_kept h

theorem sramServe_kept {q : FabReq} (h : Kept s₀ s) : Kept s₀ (sramServe q i j s) :=
  .ite h <| .ite (unpoison_kept h) <| .ite (sramLost_kept h) <| .ite (sramCorrect_kept h) h

theorem fabServe_kept {c : FabReq × Bool} (h : Kept s₀ s) : Kept s₀ (fabServe i j k c s) :=
  sramServe_kept (only_kept (only_kept (updFab_kept h) updFab_kept) inc_kept)

theorem execFabricAccess_kept {arrivals : List FabArrival} (h : Kept s₀ s) : KeptOut s₀ (execFabricAccess i arrivals j k t s) :=
  .next (only_kept h (fun h =>
      Kept.share (fun h => only_kept (by split; exacts [fabServe_kept h, h]) captureOverflow_kept)
        (updFab_kept (updFab_kept (updFab_kept (each_kept h busError_kept))))))

theorem execLedgerRoundEnd_kept (h : Kept s₀ s) : KeptOut s₀ (execLedgerRoundEnd s) := .next (each_kept (updFab_kept h) wr_kept)

/-! ### Machine/Pair -/

theorem cwTo_kept (h : Kept s₀ s) : Kept s₀ (cwTo i s) := .ite h (raiseSev_kept (wrN_kept h))

theorem cwFollow_kept (h : Kept s₀ s) : Kept s₀ (cwFollow s) := .ite h (pairFollow_kept (cwTo_kept h))

theorem execCausewayLaneTrained_kept (h : Kept s₀ s) : KeptOut s₀ (execCausewayLaneTrained i s) :=
  .next (only_kept h (fun h => cwFollow_kept (wrN_kept h)))

theorem execCausewayLaneLost_kept (h : Kept s₀ s) : KeptOut s₀ (execCausewayLaneLost i s) :=
  .next (only_kept h (fun h => Kept.share (fun h => .ite (updPair_kept h) (cwFollow_kept h)) (inc_kept (wrN_kept h))))

theorem execCausewayDown_kept (h : Kept s₀ s) : KeptOut s₀ (execCausewayDown s) :=
  .next (only_kept h (fun h =>
      Kept.share (fun h => syncFollow_kept (pairFollow_kept (.ite (dropPartner_kept h) h))) (cwTo_kept (updPair_kept h))))

theorem execCausewayLoopback_kept (h : Kept s₀ s) : KeptOut s₀ (execCausewayLoopback i t s) :=
  .next (only_kept h (fun h => only_kept (wrN_kept (cwTo_kept (wrN_kept (cwTo_kept (wrN_kept (updPair_kept h)))))) raise_kept))

theorem execHeartbeatSend_kept (h : Kept s₀ s) : KeptOut s₀ (execHeartbeatSend s) :=
  .next (only_kept h (fun h => send_kept (updPair_kept h)))

theorem schemaFollow_kept (h : Kept s₀ s) : Kept s₀ (schemaFollow i j s) := only_kept (wrN_kept (wrN_kept h)) raise_kept

theorem partnerJoins_kept (h : Kept s₀ s) : Kept s₀ (partnerJoins i s) := .ite (send_kept (updPair_kept h)) h

theorem timeFollow_kept (h : Kept s₀ s) : Kept s₀ (timeFollow b s) := syncFollow_kept (each_kept (updPair_kept h) partnerBase_kept)

theorem heartbeatIn_kept (h : Kept s₀ s) : Kept s₀ (heartbeatIn b s) :=
  pairFollow_kept (roleLogic_kept (timeFollow_kept (only_kept
      (only_kept (seeEpoch_kept (partnerJoins_kept (schemaFollow_kept (wrN_kept (wrN_kept (pairStatusBit_kept (updPair_kept h))))))) (fun h =>
        raise_kept (pairStatusBit_kept h))) (fun h => lanesDown_kept (updPair_kept h)))))

theorem execHeartbeatReceive_kept (h : Kept s₀ s) : KeptOut s₀ (execHeartbeatReceive t b s) :=
  .next (only_kept h (fun h => .ite (heartbeatIn_kept h) (inc_kept h)))

theorem execHeartbeatLoss_kept (h : Kept s₀ s) : KeptOut s₀ (execHeartbeatLoss s) :=
  .next (only_kept h (fun h =>
      Kept.share (fun h => pairFollow_kept (.ite (startRequest_kept h) <| .ite (dropPartner_kept h) h))
        (raise_kept (wrN_kept (pairStatusBit_kept h)))))

theorem epochNak_kept (h : Kept s₀ s) : Kept s₀ (epochNak i s) := send_kept (updPair_kept h)

theorem inputAgree_kept (h : Kept s₀ s) : Kept s₀ (inputAgree b b' s) :=
  .ite h (each_kept (updPair_kept h) (fun h => raise_kept (inc_kept h)))

theorem State.carriedRow_kept (h : Kept s₀ s) : KeptOpt (Kept s₀) (State.carriedRow s i b) :=
  .ite (.some h) <|
    .ite (.some (commClear_kept h)) <|
    .ite (.some (eventCfgEffect_kept h).snd) <|
    .ite (.some (realignEffect_kept h).snd) <|
    .ite (.some (only_kept h pavWdtStop_kept)) <|
    .ite (.some (pavWdtEnableEffect_kept h).snd) <|
    .ite (.some (safetyStagedEffect_kept h).snd) <|
    .ite (.some (safetyFaultAckEffect_kept h).snd) <|
    .ite (.some (safetyConfirmEffect_kept h).snd) <|
    .ite (.some (safetyActivateEffect_kept h).snd) <|
    .ite (.some (safetyDiscardEffect_kept h).snd) <|
    .ite (.some (soutAckEffect_kept h).snd) <|
    .ite (.some (sgroupAckEffect_kept h).snd) <|
    .ite (.some (stageDi_kept (wrN_kept h))) <|
    .ite (.some (doAckEffect_kept h).snd) <|
    .ite (.some (iolModeEffect_kept h).snd) <|
    .ite (.some (adcStartEffect_kept h).snd) <|
    .ite (.some (aoAckEffect_kept h).snd) <|
    .ite (.some (hartEnableEffect_kept h).snd) <|
    .ite (.some (tbStepEffect_kept h).snd) <|
    .ite (.some (tbSetEffect_kept h).snd) <|
    .ite (.some (tbSourceEffect_kept h).snd) <|
    .ite (.some (tbDeclareEffect_kept h).snd) <|
    .ite (.some (writeThen_kept (drawn_kept h) (fun h => (by split; exacts [canEnableEffect_kept h, canDisableEffect_kept h]))).snd) <|
    .ite (.some (canRecoverEffect_kept h)) <|
    .ite (.some (histTagTableEffect_kept h).snd) .none

theorem carriedWrite_kept {w : Nat × Bytes} (h : Kept s₀ s) : Kept s₀ (carriedWrite w s) := by
  unfold carriedWrite
  split
  · rename_i hrow
    exact .ite h ((State.carriedRow_kept h).holds hrow)
  · exact .ite (applyCarried_kept h) (afterWrites_kept (writeEffect_kept (applyCarried_kept h)))

theorem mirrorStart_kept (h : Kept s₀ s) : Kept s₀ (mirrorStart s) := by
  unfold mirrorStart
  exact only_kept (updSto_kept h) (fun h => wrN_kept (each_kept h openIntent_kept))

theorem epochCurrent_kept (h : Kept s₀ s) : Kept s₀ (epochCurrent s) :=
  only_kept
      (pairFollow_kept (inputAgree_kept (only_kept
        (only_kept (send_kept (each_kept (wrN_kept (wrN_kept (updPair_kept h))) carriedWrite_kept)) inc_kept) (fun h =>
        raise_kept (mirrorStart_kept (updPair_kept h)))))) startRequest_kept

theorem rxTake_kept {g : Flight → Flight} (h : Kept s₀ s) : Kept s₀ (rxTake b g s) := updPair_kept h

theorem rxBegin_kept (h : Kept s₀ s) : Kept s₀ (rxBegin b b' i s) :=
  Kept.share (fun h => .ite (epochNak_kept h) (rxTake_kept (updPair_kept h))) (schemaFollow_kept h)

theorem epochRecordIn_kept (h : Kept s₀ s) : Kept s₀ (epochRecordIn b s) :=
  .ite (.ite (epochNak_kept (wrN_kept h)) (only_kept (wrN_kept h) epochNak_kept)) <|
    .ite (rxBegin_kept (wrN_kept h)) <|
    .ite (wrN_kept h) <|
    .ite (epochNak_kept (wrN_kept h)) <|
    .ite (by dsimp only; split; exacts [epochNak_kept (wrN_kept h), rxTake_kept (updPair_kept (wrN_kept h))]) <|
    .ite (rxTake_kept (wrN_kept h)) <|
    .ite (rxTake_kept (updPair_kept (wrN_kept h))) <|
    .ite (updPair_kept (wrN_kept h)) <|
    .ite (.ite (epochCurrent_kept (updPair_kept (wrN_kept h))) (epochNak_kept (wrN_kept h))) (rxTake_kept (wrN_kept h))

theorem execEpochRecordReceive_kept (h : Kept s₀ s) : KeptOut s₀ (execEpochRecordReceive b s) := .next (only_kept h epochRecordIn_kept)

theorem execEpochAckReceive_kept (h : Kept s₀ s) : KeptOut s₀ (execEpochAckReceive i s) :=
  .next (by split; exacts [h, pairFollow_kept (payOwed_kept (only_kept (wrN_kept (updPair_kept h)) inc_kept))])

theorem execEpochNakReceive_kept (h : Kept s₀ s) : KeptOut s₀ (execEpochNakReceive i s) :=
  .next (by split; exacts [h, raise_kept (epochLost_kept h)])

theorem execEpochAckTimeout_kept (h : Kept s₀ s) : KeptOut s₀ (execEpochAckTimeout s) :=
  .next (by split; exacts [h, only_kept h epochLost_kept])

theorem ckUsed_kept (h : Kept s₀ s) : Kept s₀ (ckUsed s) := wrN_kept h

theorem ckptStart_kept {f' : Flight} (h : Kept s₀ s) : Kept s₀ (ckptStart f' s) :=
  .ite (raise_kept h) (ckUsed_kept (updPair_kept (openIntent_kept (updSto_kept h))))

theorem execNandCheckpointDue_kept (h : Kept s₀ s) : KeptOut s₀ (execNandCheckpointDue s) :=
  .next (only_kept h (fun h => (by split; exacts [h, Kept.share (fun h => .ite h (ckptStart_kept h)) (updPair_kept h)])))

theorem execCheckpointWriteComplete_kept (h : Kept s₀ s) : KeptOut s₀ (execCheckpointWriteComplete t s) :=
  .next (by
      split
      · exact h
      · exact Kept.share (fun h => .ite (ckUsed_kept (wrN_kept (wrN_kept (updSto_kept h)))) (raise_kept h))
            (closeIntent_kept (updSto_kept h)))

theorem refereeTo_kept (h : Kept s₀ s) : Kept s₀ (refereeTo i s) := raiseSev_kept (wrN_kept h)

theorem refereeHeard_kept (h : Kept s₀ s) : Kept s₀ (refereeHeard b s) := only_kept (updPair_kept h) refereeTo_kept

theorem grantIn_kept (h : Kept s₀ s) : Kept s₀ (grantIn b s) :=
  pairFollow_kept (roleLogic_kept (seeEpoch_kept (only_kept (refereeHeard_kept h) updPair_kept)))

theorem execRefGrantReceive_kept (h : Kept s₀ s) : KeptOut s₀ (execRefGrantReceive i b t s) :=
  .next (only_kept h (fun h => .ite (grantIn_kept h) (inc_kept h)))

theorem execRefDenyReceive_kept (h : Kept s₀ s) : KeptOut s₀ (execRefDenyReceive i b t s) :=
  .next (only_kept h (fun h => .ite (roleLogic_kept (seeEpoch_kept (raise_kept (inc_kept (refereeHeard_kept h))))) (inc_kept h)))

theorem execRefStatusSend_kept (h : Kept s₀ s) : KeptOut s₀ (execRefStatusSend s) :=
  .next (only_kept h (fun h => refSend_kept (updPair_kept h)))

theorem execRefRequestSend_kept (h : Kept s₀ s) : KeptOut s₀ (execRefRequestSend s) :=
  .next (only_kept h (fun h => refSend_kept (updPair_kept h)))

theorem execRefereeLost_kept (h : Kept s₀ s) : KeptOut s₀ (execRefereeLost s) :=
  .next (only_kept h (fun h => pairFollow_kept (refereeTo_kept h)))

theorem execRefLineStuck_kept (h : Kept s₀ s) : KeptOut s₀ (execRefLineStuck i s) := .next (only_kept h wrB_kept)

theorem execRefLineRelease_kept (h : Kept s₀ s) : KeptOut s₀ (execRefLineRelease i s) := .next (only_kept h wrB_kept)

theorem execRoleLogicTick_kept (h : Kept s₀ s) : KeptOut s₀ (execRoleLogicTick s) := .next (only_kept h roleLogic_kept)

theorem execFirstOperatingMode_kept (h : Kept s₀ s) : KeptOut s₀ (execFirstOperatingMode s) := .next (only_kept h firstMode_kept)

theorem execWakeReferee_kept (h : Kept s₀ s) : KeptOut s₀ (execWakeReferee b t s) := .next (only_kept h wakeUp_kept)

theorem execPartnerTakeoverRequest_kept (h : Kept s₀ s) : KeptOut s₀ (execPartnerTakeoverRequest t s) :=
  .next (only_kept h startRequest_kept)

theorem execTakeoverLanesUp_kept (h : Kept s₀ s) : KeptOut s₀ (execTakeoverLanesUp t i s) :=
  .next (only_kept h (fun h => .ite (updPair_kept (lanesUp_kept h)) (takeoverFail_kept h)))

theorem execTakeoverRestoreComplete_kept (h : Kept s₀ s) : KeptOut s₀ (execTakeoverRestoreComplete t i s) :=
  .next (only_kept h (fun h => .ite (updPair_kept (restoreEpoch_kept h)) (takeoverFail_kept h)))

theorem bistPass_kept (h : Kept s₀ s) : Kept s₀ (bistPass i s) := updPl_kept (wrN_kept (inc_kept h))

theorem bistFail_kept (h : Kept s₀ s) : Kept s₀ (bistFail i j k l m s) :=
  .share
    (fun h => .ite h (by
      have hfree := unplaceLane_kept (i := k) (retireLane_kept (i := k) (j := 1) h)
      split
      · exact placeLane_kept (setRole_kept (setLaneAt_kept hfree))
      · exact wrN_kept (trTo_kept (setLaneAt_kept hfree))))
    (raise_kept (updPl_kept (inc_kept h)))

theorem execStandbyTrestleBist_kept (h : Kept s₀ s) : KeptOut s₀ (execStandbyTrestleBist i j k l s) :=
  .next (only_kept h (fun h =>
      Kept.share (fun h => pairFollow_kept (.ite (updPair_kept h) (raise_kept (updPair_kept h))))
        (each_kept h (fun h => .ite (bistFail_kept h) (bistPass_kept h)))))

theorem execStoreScrub_kept (h : Kept s₀ s) : KeptOut s₀ (execStoreScrub i s) :=
  .next (only_kept h (fun h => only_kept (updPair_kept h) raise_kept))

theorem execHealthWordSend_kept (h : Kept s₀ s) : KeptOut s₀ (execHealthWordSend s) :=
  .next (only_kept h (fun h => refSend_kept (send_kept (wrBlob_kept (pairFollow_kept (updPair_kept h))))))

theorem execHealthWordReceive_kept (h : Kept s₀ s) : KeptOut s₀ (execHealthWordReceive b s) :=
  .next (only_kept h (fun h => pairFollow_kept (updPair_kept (wrBlob_kept h))))

theorem execHandoverPrepareReceive_kept (h : Kept s₀ s) : KeptOut s₀ (execHandoverPrepareReceive s) :=
  .next (only_kept h (fun h => each_kept (lanesUp_kept (updPair_kept h)) reloadTcm_kept))

theorem execHandoverSwapBoundary_kept (h : Kept s₀ s) : KeptOut s₀ (execHandoverSwapBoundary s) := .next (only_kept h boundary_kept)

theorem execHandoverGrantTimeout_kept (h : Kept s₀ s) : KeptOut s₀ (execHandoverGrantTimeout s) :=
  .next (only_kept h (fun h => fieldFollow_kept (raise_kept (wrN_kept (setMode_kept (updPair_kept h))))))

theorem joinDict_kept (h : Kept s₀ s) : Kept s₀ (joinDict b b' s) :=
  .share
    (fun h => afterWrites_kept (only_kept (each_kept (each_kept (each_kept (each_kept
      (.ite h (each_kept h fun h => .ite (loadProgram_kept h) (only_kept h unloadProgram_kept)))
      fun h => by split; exacts [only_kept h fun h => journalKey_kept (.same h), h])
      journalKey_kept)
      fun h => restoredRow_kept (writeEffect_kept h))
      fun h => .ite (armTable_kept h) (only_kept h disarmTable_kept))
      stagedChanged_kept))
    (each_kept ((wrN_kept (wrN_kept h)).keepsEntries rfl rfl rfl _ rfl _ rfl) putBytes_kept)

theorem execJoinDictReceived_kept (h : Kept s₀ s) : KeptOut s₀ (execJoinDictReceived b b' s) :=
  .next (only_kept h (fun h => pairFollow_kept (send_kept (updPair_kept (joinDict_kept h)))))

/-! ### Machine/Sdo -/

theorem updSdo_kept {f' : Sdo → Sdo} (h : Kept s₀ s) : Kept s₀ (updSdo i f' s) := .same h

theorem clearSdo_kept (h : Kept s₀ s) : Kept s₀ (clearSdo i s) := .same h

theorem sdoSend_kept (h : Kept s₀ s) : Kept s₀ (sdoSend i b s) := sysSend_kept h

theorem sdoAbort_kept (h : Kept s₀ s) : Kept s₀ (sdoAbort i j k l s) := sdoSend_kept (clearSdo_kept h)

theorem sdoNew_kept (h : Kept s₀ s) : Kept s₀ (sdoNew i s) := .ite h (sdoAbort_kept h)

theorem sdoTouch_kept (h : Kept s₀ s) : Kept s₀ (sdoTouch i s) := updSdo_kept h

theorem sdoWrite_kept (h : Kept s₀ s) : Kept s₀ (sdoWrite i j k b b' b'' s) := by
  dsimp only [sdoWrite]
  split
  · exact sdoAbort_kept h
  · exact .ite (.ite h (holdFrame_kept h)) <|
      .ite (sdoAbort_kept (writeOutcome_kept (clearSdo_kept h)).snd) <|
      .ite (oweFrame_kept (writeOutcome_kept (clearSdo_kept h)).snd) (sdoSend_kept (writeOutcome_kept (clearSdo_kept h)).snd)

theorem sdoUpload_kept (h : Kept s₀ s) : Kept s₀ (sdoUpload i b s) :=
  Kept.share (fun h => .ite (sdoAbort_kept h) <| .ite (sdoSend_kept h) (sdoSend_kept (updSdo_kept h))) (sdoNew_kept h)

theorem sdoDownload_kept (h : Kept s₀ s) : Kept s₀ (sdoDownload i b s) :=
  Kept.share (fun h => .ite (sdoWrite_kept h) (sdoSend_kept (updSdo_kept h))) (sdoNew_kept h)

theorem sdoSegment_kept (h : Kept s₀ s) : Kept s₀ (sdoSegment i b s) :=
  .ite (clearSdo_kept h) <|
    .ite (.ite (sdoAbort_kept h) (sdoSend_kept (.ite (clearSdo_kept h) (sdoTouch_kept (updSdo_kept h))))) <|
    .ite (.ite (sdoAbort_kept h) <| .ite (.ite (sdoAbort_kept h) (sdoWrite_kept h)) (sdoSend_kept (sdoTouch_kept (updSdo_kept h))))
        (sdoAbort_kept h)

theorem sdoBlock_kept (h : Kept s₀ s) : Kept s₀ (sdoBlock i s) := each_kept (updSdo_kept h) sdoSend_kept

theorem sdoBlockUpload_kept (h : Kept s₀ s) : Kept s₀ (sdoBlockUpload i b s) :=
  .ite (clearSdo_kept h) <|
    .ite (sdoAbort_kept h) <|
    .ite (Kept.share (fun h => .ite (sdoAbort_kept h) <| .ite (sdoAbort_kept h) (sdoSend_kept (updSdo_kept h))) (sdoNew_kept h)) <|
    .ite (sdoAbort_kept h)
        (Kept.share
          (fun h =>
            .ite (sdoBlock_kept h) <|
            .ite (.ite (sdoAbort_kept h) <|
              .ite (sdoAbort_kept h) <|
              .ite (sdoSend_kept (updSdo_kept h)) (sdoBlock_kept (updSdo_kept h))) <|
            .ite (clearSdo_kept h) (sdoAbort_kept h)) (sdoTouch_kept h))

theorem sdoBlockDownload_kept (h : Kept s₀ s) : Kept s₀ (sdoBlockDownload i b s) :=
  .ite (Kept.share (fun h => .ite (sdoSend_kept (updSdo_kept (updSdo_kept h))) h) (updSdo_kept (sdoTouch_kept h))) <|
    .ite (clearSdo_kept h) <|
    .ite (sdoAbort_kept h) <|
    .ite (sdoSend_kept (updSdo_kept (sdoNew_kept h))) <|
    .ite (sdoAbort_kept h) <|
    .ite (sdoAbort_kept h) <|
    .ite (sdoAbort_kept h) (sdoWrite_kept (sdoTouch_kept h))

theorem sdoFrame_kept {f : Nat → Bytes → State → State} (h : Kept s₀ s) (hf : ∀ {a0 a1 s}, Kept s₀ s → Kept s₀ (f a0 a1 s)) :
    Kept s₀ (sdoFrame i b f s) :=
  only_kept h hf

theorem execSdoUpload_kept (h : Kept s₀ s) : KeptOut s₀ (execSdoUpload i b s) :=
  .next (only_kept h (fun h => sdoFrame_kept h sdoUpload_kept))

theorem execSdoDownload_kept (h : Kept s₀ s) : KeptOut s₀ (execSdoDownload i b s) :=
  .next (only_kept h (fun h => sdoFrame_kept h sdoDownload_kept))

theorem execSdoSegment_kept (h : Kept s₀ s) : KeptOut s₀ (execSdoSegment i b s) := .next (sdoFrame_kept h sdoSegment_kept)

theorem execSdoBlockUpload_kept (h : Kept s₀ s) : KeptOut s₀ (execSdoBlockUpload i b s) := .next (sdoFrame_kept h sdoBlockUpload_kept)

theorem execSdoBlockDownload_kept (h : Kept s₀ s) : KeptOut s₀ (execSdoBlockDownload i b s) :=
  .next (sdoFrame_kept h sdoBlockDownload_kept)

theorem execSdoIdleTimeout_kept (h : Kept s₀ s) : KeptOut s₀ (execSdoIdleTimeout i s) := .next (only_kept h sdoAbort_kept)

theorem sdoHeld_kept (h : Kept s₀ s) : Kept s₀ (sdoHeld i b s) := by
  dsimp only [sdoHeld]
  split
  · exact sdoSegment_kept h
  · exact (by split; exacts [sdoBlockDownload_kept h, sdoDownload_kept h])

/-! ### Machine/PowerFail -/

theorem heldServe_kept {e : Nat × Bytes} (h : Kept s₀ s) : Kept s₀ (heldServe e s) :=
  .ite (opticalWriteFrame_kept h) <| .ite (sdoHeld_kept h) (dapHeld_kept h)

theorem flushOver_kept (h : Kept s₀ s) : Kept s₀ (flushOver s) :=
  .ite h (each_kept (each_kept (each_kept (wrN_kept (updPow_kept (updSto_kept h))) writeBlock_kept) applyWrite_kept) heldServe_kept)

theorem execPfailAssert_kept (h : Kept s₀ s) : KeptOut s₀ (execPfailAssert i s) :=
  .next (only_kept h (fun h => only_kept (updPow_kept h) (fun h => flushStart_kept (inc_kept (powerWarning_kept h)))))

theorem execPfailFlushComplete_kept (h : Kept s₀ s) : KeptOut s₀ (execPfailFlushComplete i s) :=
  .next (only_kept h (fun h =>
      Kept.share (fun h => .ite (moduleReset_kept h) (flushOver_kept h))
        (raise_kept (wrN_kept (inc_kept (wrN_kept (wrN_kept (commitAll_kept (updSto_kept h)))))))))

theorem execPfailRelease_kept (h : Kept s₀ s) : KeptOut s₀ (execPfailRelease s) :=
  .next (only_kept h (fun h =>
      Kept.share (fun h => .ite h (flushOver_kept (only_kept (only_kept h updSto_kept) powerWarning_kept))) (updPow_kept h)))

theorem execInternalPfailWarning_kept (h : Kept s₀ s) : KeptOut s₀ (execInternalPfailWarning g i s) :=
  .ite .fault
      (.next (only_kept h (fun h =>
        Kept.share
          (fun h =>
            .ite (only_kept h (fun h => flushStart_kept (inc_kept (powerWarning_kept h))))
              (only_kept h (fun h => flushOver_kept (powerWarning_kept h)))) (readVlogic_kept h))))

end

/-! ### Every command, and every step -/

section
variable {s₀ s t : State}

/-- A command changes neither the queue nor the time, and keeps the canonical form. -/
theorem exec_kept {i : Instr} (h : Kept s₀ s) : KeptOut s₀ (exec i s) := by
  cases i with
  | classBoundary => exact execClassBoundary_kept h
  | inputFreeze => exact execInputFreeze_kept h
  | outputCommit => exact execOutputCommit_kept h
  | frameBuild => exact execFrameBuild_kept h
  | launchTimeReached => exact execLaunchTimeReached_kept h
  | launchLateDrop => exact execLaunchLateDrop_kept h
  | classAWindowStart => exact execClassAWindowStart_kept h
  | classAWindowEnd => exact execClassAWindowEnd_kept h
  | classBReady => exact execClassBReady_kept h
  | classCDispatch => exact execClassCDispatch_kept h
  | taskTimeBudgetExpiry => exact execTaskTimeBudgetExpiry_kept h
  | taskDeadline => exact execTaskDeadline_kept h
  | laneUngate => exact execLaneUngate_kept h
  | fabricAccess => exact execFabricAccess_kept h
  | ledgerRoundEnd => exact execLedgerRoundEnd_kept h
  | routerTakeEvent => exact execRouterTakeEvent_kept h
  | eventRateWindow => exact execEventRateWindow_kept h
  | eventConfigWrite => exact execEventConfigWrite_kept h
  | eventChannelPop => exact execEventChannelPop_kept h
  | eventOverflowClear => exact execEventOverflowClear_kept h
  | dictWrite => exact execDictWrite_kept h
  | dictstoreCommit => exact execDictstoreCommit_kept h
  | dictSectionRestore => exact execDictSectionRestore_kept h
  | commErrorFieldClear => exact execCommErrorFieldClear_kept h
  | dapHandshake => exact execDapHandshake_kept h
  | dapRead => exact execDapRead_kept h
  | dapWrite => exact execDapWrite_kept h
  | dapWriteAtomic => exact execDapWriteAtomic_kept h
  | dapReadSeg => exact execDapReadSeg_kept h
  | dapWriteSeg => exact execDapWriteSeg_kept h
  | dapSubscribe => exact execDapSubscribe_kept h
  | dapEventPush => exact execDapEventPush_kept h
  | dapKeepalive => exact execDapKeepalive_kept h
  | dapDescribe => exact execDapDescribe_kept h
  | dapClose => exact execDapClose_kept h
  | dapIdleTimeout => exact execDapIdleTimeout_kept h
  | dapSegSequenceTimeout => exact execDapSegSequenceTimeout_kept h
  | dapTokenRefill => exact execDapTokenRefill_kept h
  | dapDisable => exact execDapDisable_kept h
  | sdoUpload => exact execSdoUpload_kept h
  | sdoDownload => exact execSdoDownload_kept h
  | sdoSegment => exact execSdoSegment_kept h
  | sdoBlockUpload => exact execSdoBlockUpload_kept h
  | sdoBlockDownload => exact execSdoBlockDownload_kept h
  | sdoIdleTimeout => exact execSdoIdleTimeout_kept h
  | scanRealign => exact execScanRealign_kept h
  | chgRequest => exact execChgRequest_kept h
  | chgCancel => exact execChgCancel_kept h
  | rioInputFrame => exact execRioInputFrame_kept h
  | pavStopHoldExpiry => exact execPavStopHoldExpiry_kept h
  | remoteHoldExpiry => exact execRemoteHoldExpiry_kept h
  | pavHoldLimitExpiry => exact execPavHoldLimitExpiry_kept h
  | debugHalt => exact execDebugHalt_kept h
  | debugResume => exact execDebugResume_kept h
  | debugSingleStep => exact execDebugSingleStep_kept h
  | debugSessionLoss => exact execDebugSessionLoss_kept h
  | arbNop => exact execArbNop_kept h
  | arbLd => exact execArbLd_kept h
  | arbLdn => exact execArbLdn_kept h
  | arbAnd => exact execArbAnd_kept h
  | arbAndn => exact execArbAndn_kept h
  | arbOr => exact execArbOr_kept h
  | arbOrn => exact execArbOrn_kept h
  | arbXor => exact execArbXor_kept h
  | arbXorn => exact execArbXorn_kept h
  | arbSt => exact execArbSt_kept h
  | arbStn => exact execArbStn_kept h
  | arbSet => exact execArbSet_kept h
  | arbRst => exact execArbRst_kept h
  | arbEdgp => exact execArbEdgp_kept h
  | arbEdgn => exact execArbEdgn_kept h
  | arbNot => exact execArbNot_kept h
  | arbSeta => exact execArbSeta_kept h
  | arbClra => exact execArbClra_kept h
  | arbPush => exact execArbPush_kept h
  | arbPopa => exact execArbPopa_kept h
  | arbPopo => exact execArbPopo_kept h
  | arbTon => exact execArbTon_kept h
  | arbTof => exact execArbTof_kept h
  | arbTp => exact execArbTp_kept h
  | arbCtu => exact execArbCtu_kept h
  | arbCtd => exact execArbCtd_kept h
  | arbCtud => exact execArbCtud_kept h
  | arbLdw => exact execArbLdw_kept h
  | arbStw => exact execArbStw_kept h
  | arbPutg => exact execArbPutg_kept h
  | arbAddg => exact execArbAddg_kept h
  | arbMovga => exact execArbMovga_kept h
  | arbXchw => exact execArbXchw_kept h
  | arbGets => exact execArbGets_kept h
  | arbLdf => exact execArbLdf_kept h
  | arbClrf => exact execArbClrf_kept h
  | arbLdx => exact execArbLdx_kept h
  | arbStx => exact execArbStx_kept h
  | arbMovb => exact execArbMovb_kept h
  | arbMux => exact execArbMux_kept h
  | arbAdd => exact execArbAdd_kept h
  | arbSub => exact execArbSub_kept h
  | arbMul => exact execArbMul_kept h
  | arbDiv => exact execArbDiv_kept h
  | arbMod => exact execArbMod_kept h
  | arbAluAnd => exact execArbAluAnd_kept h
  | arbAluOr => exact execArbAluOr_kept h
  | arbAluXor => exact execArbAluXor_kept h
  | arbMin => exact execArbMin_kept h
  | arbMax => exact execArbMax_kept h
  | arbLimit => exact execArbLimit_kept h
  | arbSel => exact execArbSel_kept h
  | arbCmpeq => exact execArbCmpeq_kept h
  | arbCmpne => exact execArbCmpne_kept h
  | arbCmplt => exact execArbCmplt_kept h
  | arbCmple => exact execArbCmple_kept h
  | arbCmpgt => exact execArbCmpgt_kept h
  | arbCmpge => exact execArbCmpge_kept h
  | arbShl => exact execArbShl_kept h
  | arbShr => exact execArbShr_kept h
  | arbSar => exact execArbSar_kept h
  | arbRol => exact execArbRol_kept h
  | arbRor => exact execArbRor_kept h
  | arbMov => exact execArbMov_kept h
  | arbFadd => exact execArbFadd_kept h
  | arbFsub => exact execArbFsub_kept h
  | arbFmul => exact execArbFmul_kept h
  | arbFdiv => exact execArbFdiv_kept h
  | arbFsqrt => exact execArbFsqrt_kept h
  | arbFma => exact execArbFma_kept h
  | arbFcmpeq => exact execArbFcmpeq_kept h
  | arbFcmplt => exact execArbFcmplt_kept h
  | arbFcmple => exact execArbFcmple_kept h
  | arbFcvti => exact execArbFcvti_kept h
  | arbFcvtf => exact execArbFcvtf_kept h
  | arbFcvtp => exact execArbFcvtp_kept h
  | arbJmp => exact execArbJmp_kept h
  | arbJc => exact execArbJc_kept h
  | arbJnc => exact execArbJnc_kept h
  | arbCall => exact execArbCall_kept h
  | arbRet => exact execArbRet_kept h
  | arbLoop => exact execArbLoop_kept h
  | arbEnd => exact execArbEnd_kept h
  | arbEvt => exact execArbEvt_kept h
  | arbRdtb => exact execArbRdtb_kept h
  | arbFence => exact execArbFence_kept h
  | fenceDrainComplete => exact execFenceDrainComplete_kept h
  | sysRecorderWrite => exact execSysRecorderWrite_kept h
  | sysWdtService => exact execSysWdtService_kept h
  | sysDictTransfer => exact execSysDictTransfer_kept h
  | sysDmaSubmit => exact execSysDmaSubmit_kept h
  | sysDmaStatus => exact execSysDmaStatus_kept h
  | sysIsduRequest => exact execSysIsduRequest_kept h
  | sysHartCommand => exact execSysHartCommand_kept h
  | sysPavstoreRead => exact execSysPavstoreRead_kept h
  | sysPavstoreWrite => exact execSysPavstoreWrite_kept h
  | sysPavstoreTrim => exact execSysPavstoreTrim_kept h
  | sysPavstoreSync => exact execSysPavstoreSync_kept h
  | sysCanDoorbell => exact execSysCanDoorbell_kept h
  | sysCanCancel => exact execSysCanCancel_kept h
  | sysServiceComplete => exact execSysServiceComplete_kept h
  | voterRecordArrival => exact execVoterRecordArrival_kept h
  | voterLagExpiry => exact execVoterLagExpiry_kept h
  | laneLocalFault => exact execLaneLocalFault_kept h
  | resyncComplete => exact execResyncComplete_kept h
  | resyncStarved => exact execResyncStarved_kept h
  | takeoverWaitExpiry => exact execTakeoverWaitExpiry_kept h
  | trestleRebuildComplete => exact execTrestleRebuildComplete_kept h
  | rotationStart => exact execRotationStart_kept h
  | rotateNow => exact execRotateNow_kept h
  | spareLaneLocked => exact execSpareLaneLocked_kept h
  | laneBistComplete => exact execLaneBistComplete_kept h
  | laneRetireWrite => exact execLaneRetireWrite_kept h
  | pavLoad => exact execPavLoad_kept h
  | pavUnload => exact execPavUnload_kept h
  | regionArm => exact execRegionArm_kept h
  | regionDisarm => exact execRegionDisarm_kept h
  | dmaTransferComplete => exact execDmaTransferComplete_kept h
  | pavWdtExpiry => exact execPavWdtExpiry_kept h
  | pavWdtKey => exact execPavWdtKey_kept h
  | pavWdtEnable => exact execPavWdtEnable_kept h
  | pavWdtLock => exact execPavWdtLock_kept h
  | causewayLaneLost => exact execCausewayLaneLost_kept h
  | causewayLaneTrained => exact execCausewayLaneTrained_kept h
  | causewayDown => exact execCausewayDown_kept h
  | heartbeatSend => exact execHeartbeatSend_kept h
  | heartbeatReceive => exact execHeartbeatReceive_kept h
  | heartbeatLoss => exact execHeartbeatLoss_kept h
  | causewayLoopback => exact execCausewayLoopback_kept h
  | epochRecordReceive => exact execEpochRecordReceive_kept h
  | epochAckReceive => exact execEpochAckReceive_kept h
  | epochNakReceive => exact execEpochNakReceive_kept h
  | epochAckTimeout => exact execEpochAckTimeout_kept h
  | nandCheckpointDue => exact execNandCheckpointDue_kept h
  | checkpointWriteComplete => exact execCheckpointWriteComplete_kept h
  | refGrantReceive => exact execRefGrantReceive_kept h
  | refDenyReceive => exact execRefDenyReceive_kept h
  | refStatusSend => exact execRefStatusSend_kept h
  | refRequestSend => exact execRefRequestSend_kept h
  | refereeLost => exact execRefereeLost_kept h
  | refLineStuck => exact execRefLineStuck_kept h
  | roleLogicTick => exact execRoleLogicTick_kept h
  | takeoverReqWrite => exact execTakeoverReqWrite_kept h
  | partnerTakeoverRequest => exact execPartnerTakeoverRequest_kept h
  | takeoverLanesUp => exact execTakeoverLanesUp_kept h
  | takeoverRestoreComplete => exact execTakeoverRestoreComplete_kept h
  | safetyWordSend => exact execSafetyWordSend_kept h
  | standbyTrestleBist => exact execStandbyTrestleBist_kept h
  | storeScrub => exact execStoreScrub_kept h
  | healthWordSend => exact execHealthWordSend_kept h
  | handoverRequest => exact execHandoverRequest_kept h
  | handoverPrepareReceive => exact execHandoverPrepareReceive_kept h
  | handoverSwapBoundary => exact execHandoverSwapBoundary_kept h
  | handoverGrantTimeout => exact execHandoverGrantTimeout_kept h
  | pairRejoin => exact execPairRejoin_kept h
  | joinDictReceived => exact execJoinDictReceived_kept h
  | spHeartbeat => exact execSpHeartbeat_kept h
  | parapetWatchdogExpiry => exact execParapetWatchdogExpiry_kept h
  | islandSupplyCheck => exact execIslandSupplyCheck_kept h
  | testPulse => exact execTestPulse_kept h
  | safeInputFilterExpiry => exact execSafeInputFilterExpiry_kept h
  | safeInputDiscrepancyExpiry => exact execSafeInputDiscrepancyExpiry_kept h
  | safeInputChannelDisagree => exact execSafeInputChannelDisagree_kept h
  | encoderGate => exact execEncoderGate_kept h
  | encoderFaultClear => exact execEncoderFaultClear_kept h
  | groupEvaluation => exact execGroupEvaluation_kept h
  | stoReset => exact execStoReset_kept h
  | enableSequenceStep => exact execEnableSequenceStep_kept h
  | crossLinkRemoval => exact execCrossLinkRemoval_kept h
  | channelDiscrepancy => exact execChannelDiscrepancy_kept h
  | offPulseSlotStart => exact execOffPulseSlotStart_kept h
  | offPulseClose => exact execOffPulseClose_kept h
  | offPulseVerdict => exact execOffPulseVerdict_kept h
  | externalVoltage => exact execExternalVoltage_kept h
  | safeOutputOverload => exact execSafeOutputOverload_kept h
  | configCrcCheck => exact execConfigCrcCheck_kept h
  | statusBlockPublish => exact execStatusBlockPublish_kept h
  | safetyStagedWrite => exact execSafetyStagedWrite_kept h
  | safetyDiscard => exact execSafetyDiscard_kept h
  | safetyConfirm => exact execSafetyConfirm_kept h
  | safetyActivate => exact execSafetyActivate_kept h
  | safetyFaultAck => exact execSafetyFaultAck_kept h
  | sgroupAck => exact execSgroupAck_kept h
  | soutAck => exact execSoutAck_kept h
  | islandStartupComplete => exact execIslandStartupComplete_kept h
  | debounceComplete => exact execDebounceComplete_kept h
  | diEdgesWrite => exact execDiEdgesWrite_kept h
  | diWakeSample => exact execDiWakeSample_kept h
  | doOcTrip => exact execDoOcTrip_kept h
  | doRetryExpiry => exact execDoRetryExpiry_kept h
  | doOvertemp => exact execDoOvertemp_kept h
  | doNoDrive => exact execDoNoDrive_kept h
  | doOffStateTest => exact execDoOffStateTest_kept h
  | doAck => exact execDoAck_kept h
  | fieldSupplyChange => exact execFieldSupplyChange_kept h
  | blockHoldExpiry => exact execBlockHoldExpiry_kept h
  | iolModeWrite => exact execIolModeWrite_kept h
  | iolWakeupAttempt => exact execIolWakeupAttempt_kept h
  | iolDeviceAnswer => exact execIolDeviceAnswer_kept h
  | iolOperateConfirm => exact execIolOperateConfirm_kept h
  | iolCycleComplete => exact execIolCycleComplete_kept h
  | iolLplusOverload => exact execIolLplusOverload_kept h
  | iolFaultRetry => exact execIolFaultRetry_kept h
  | iolIsduComplete => exact execIolIsduComplete_kept h
  | iolDeviceEvent => exact execIolDeviceEvent_kept h
  | adcTriggerTimer => exact execAdcTriggerTimer_kept h
  | adcStart => exact execAdcStart_kept h
  | adcConversionComplete => exact execAdcConversionComplete_kept h
  | adcSelftestDue => exact execAdcSelftestDue_kept h
  | adcRefSettled => exact execAdcRefSettled_kept h
  | adcRefFault => exact execAdcRefFault_kept h
  | adc4Sequence => exact execAdc4Sequence_kept h
  | aiTick => exact execAiTick_kept h
  | aiStale => exact execAiStale_kept h
  | aoRampTick => exact execAoRampTick_kept h
  | aoOpenLoop => exact execAoOpenLoop_kept h
  | aoReadbackFault => exact execAoReadbackFault_kept h
  | aoNoSource => exact execAoNoSource_kept h
  | aoOvertemp => exact execAoOvertemp_kept h
  | aoAck => exact execAoAck_kept h
  | hartEnableWrite => exact execHartEnableWrite_kept h
  | hartRequestSend => exact execHartRequestSend_kept h
  | hartFrameReceive => exact execHartFrameReceive_kept h
  | hartResponseTimeout => exact execHartResponseTimeout_kept h
  | hartAutoCmdDue => exact execHartAutoCmdDue_kept h
  | hartNoiseAbort => exact execHartNoiseAbort_kept h
  | hartNoiseClear => exact execHartNoiseClear_kept h
  | hartQueueTimeout => exact execHartQueueTimeout_kept h
  | hartNoDeviceRetry => exact execHartNoDeviceRetry_kept h
  | portLinkChange => exact execPortLinkChange_kept h
  | frameReceive => exact execFrameReceive_kept h
  | fdbAgeing => exact execFdbAgeing_kept h
  | fdbFlush => exact execFdbFlush_kept h
  | frerResetTimeout => exact execFrerResetTimeout_kept h
  | ringTxPoll => exact execRingTxPoll_kept h
  | gateApply => exact execGateApply_kept h
  | gateListSwitch => exact execGateListSwitch_kept h
  | gateIntervalEnd => exact execGateIntervalEnd_kept h
  | preemptVerify => exact execPreemptVerify_kept h
  | redSupervisionSend => exact execRedSupervisionSend_kept h
  | redLanDown => exact execRedLanDown_kept h
  | tbStepWrite => exact execTbStepWrite_kept h
  | tbSetWrite => exact execTbSetWrite_kept h
  | tbSourceChange => exact execTbSourceChange_kept h
  | tbDeclare => exact execTbDeclare_kept h
  | ptpSyncReceive => exact execPtpSyncReceive_kept h
  | ptpHoldoverExpiry => exact execPtpHoldoverExpiry_kept h
  | oscFailover => exact execOscFailover_kept h
  | rtcUpdate => exact execRtcUpdate_kept h
  | ppsInEdge => exact execPpsInEdge_kept h
  | ppsInLost => exact execPpsInLost_kept h
  | ppsOutEdge => exact execPpsOutEdge_kept h
  | canEnable => exact execCanEnable_kept h
  | canDisable => exact execCanDisable_kept h
  | canFrameReceived => exact execCanFrameReceived_kept h
  | canErrorDetected => exact execCanErrorDetected_kept h
  | canBusStuck => exact execCanBusStuck_kept h
  | canStuckRecoveryAttempt => exact execCanStuckRecoveryAttempt_kept h
  | canBusoffRecovered => exact execCanBusoffRecovered_kept h
  | canRecover => exact execCanRecover_kept h
  | canControllerFault => exact execCanControllerFault_kept h
  | canObjectReadWord0 => exact execCanObjectReadWord0_kept h
  | canObjectReadWord19 => exact execCanObjectReadWord19_kept h
  | canGatehouseLockTimeout => exact execCanGatehouseLockTimeout_kept h
  | txBufferFill => exact execTxBufferFill_kept h
  | txStart => exact execTxStart_kept h
  | txComplete => exact execTxComplete_kept h
  | txArbitrationLost => exact execTxArbitrationLost_kept h
  | nmtCommand => exact execNmtCommand_kept h
  | canHbProduce => exact execCanHbProduce_kept h
  | canHbConsumerTimeout => exact execCanHbConsumerTimeout_kept h
  | syncReceive => exact execSyncReceive_kept h
  | syncProduce => exact execSyncProduce_kept h
  | rpdoReceive => exact execRpdoReceive_kept h
  | rpdoEventTimeout => exact execRpdoEventTimeout_kept h
  | tpdoEventTimer => exact execTpdoEventTimer_kept h
  | nandBlockRead => exact execNandBlockRead_kept h
  | nandBlockWrite => exact execNandBlockWrite_kept h
  | nandProgramFail => exact execNandProgramFail_kept h
  | dieNotReadyTimeout => exact execDieNotReadyTimeout_kept h
  | rebuildStripe => exact execRebuildStripe_kept h
  | staticLevelling => exact execStaticLevelling_kept h
  | blockRefresh => exact execBlockRefresh_kept h
  | patrolScrubStep => exact execPatrolScrubStep_kept h
  | pfailAssert => exact execPfailAssert_kept h
  | pfailFlushComplete => exact execPfailFlushComplete_kept h
  | pfailRelease => exact execPfailRelease_kept h
  | pfailStuck => exact execPfailStuck_kept h
  | storageMount => exact execStorageMount_kept h
  | suspectBlockVerify => exact execSuspectBlockVerify_kept h
  | partSizeWrite => exact execPartSizeWrite_kept h
  | pavstoreRequestComplete => exact execPavstoreRequestComplete_kept h
  | pavstoreMirrorCopy => exact execPavstoreMirrorCopy_kept h
  | archiveCopy => exact execArchiveCopy_kept h
  | recFreeze => exact execRecFreeze_kept h
  | recUnfreeze => exact execRecUnfreeze_kept h
  | recFreezeTimeout => exact execRecFreezeTimeout_kept h
  | recClearToken => exact execRecClearToken_kept h
  | recClearKeyswitch => exact execRecClearKeyswitch_kept h
  | recqQuery => exact execRecqQuery_kept h
  | histqQuery => exact execHistqQuery_kept h
  | histTagTableWrite => exact execHistTagTableWrite_kept h
  | histBufferOverflow => exact execHistBufferOverflow_kept h
  | histBufferDrained => exact execHistBufferDrained_kept h
  | gatehouseFault => exact execGatehouseFault_kept h
  | serviceEnter => exact execServiceEnter_kept h
  | serviceLeave => exact execServiceLeave_kept h
  | serviceLimitExpiry => exact execServiceLimitExpiry_kept h
  | dormantRequest => exact execDormantRequest_kept h
  | dormantFlushComplete => exact execDormantFlushComplete_kept h
  | dormantReached => exact execDormantReached_kept h
  | moduleResetCommand => exact execModuleResetCommand_kept h
  | moduleReset => exact execModuleReset_kept h
  | wdtServiceKeyA => exact execWdtServiceKeyA_kept h
  | wdtServiceKeyB => exact execWdtServiceKeyB_kept h
  | wdtForeignService => exact execWdtForeignService_kept h
  | wdtTimeout => exact execWdtTimeout_kept h
  | wdtKeyBTimeout => exact execWdtKeyBTimeout_kept h
  | wdtKeyWrite => exact execWdtKeyWrite_kept h
  | wdtLockWrite => exact execWdtLockWrite_kept h
  | wdtEnableWrite => exact execWdtEnableWrite_kept h
  | temperatureSample => exact execTemperatureSample_kept h
  | temperatureCritExpiry => exact execTemperatureCritExpiry_kept h
  | railStateChange => exact execRailStateChange_kept h
  | vibrationSpectrum => exact execVibrationSpectrum_kept h
  | shockStart => exact execShockStart_kept h
  | shockEnd => exact execShockEnd_kept h
  | humiditySample => exact execHumiditySample_kept h
  | contactSenseMeasure => exact execContactSenseMeasure_kept h
  | contactRebase => exact execContactRebase_kept h
  | wearLedgerUpdate => exact execWearLedgerUpdate_kept h
  | serviceEthFrame => exact execServiceEthFrame_kept h
  | serviceLinkChange => exact execServiceLinkChange_kept h
  | optStatus => exact execOptStatus_kept h
  | optEvents => exact execOptEvents_kept h
  | optChallenge => exact execOptChallenge_kept h
  | optAuth => exact execOptAuth_kept h
  | optRead => exact execOptRead_kept h
  | optWrite => exact execOptWrite_kept h
  | optClose => exact execOptClose_kept h
  | optIdleTimeout => exact execOptIdleTimeout_kept h
  | optFloodInterval => exact execOptFloodInterval_kept h
  | vlogicGood => exact execVlogicGood_kept h
  | vlogicLost => exact execVlogicLost_kept h
  | vlogicStateChange => exact execVlogicStateChange_kept h
  | internalPfailWarning => exact execInternalPfailWarning_kept h
  | prechargeComplete => exact execPrechargeComplete_kept h
  | seatedOpen => exact execSeatedOpen_kept h
  | seatedMated => exact execSeatedMated_kept h
  | pllLockLoss => exact execPllLockLoss_kept h
  | pllRelock => exact execPllRelock_kept h
  | droopThrottleOn => exact execDroopThrottleOn_kept h
  | droopThrottleOff => exact execDroopThrottleOff_kept h
  | stretchStart => exact execStretchStart_kept h
  | stretchEnd => exact execStretchEnd_kept h
  | stretchBudgetReset => exact execStretchBudgetReset_kept h
  | wakeRtc => exact execWakeRtc_kept h
  | wakeNetwork => exact execWakeNetwork_kept h
  | wakeCan => exact execWakeCan_kept h
  | wakeReferee => exact execWakeReferee_kept h
  | vbatMeasure => exact execVbatMeasure_kept h
  | startupRailsGood => exact execStartupRailsGood_kept h
  | gatehouseResetRelease => exact execGatehouseResetRelease_kept h
  | wipeComplete => exact execWipeComplete_kept h
  | trngSeeded => exact execTrngSeeded_kept h
  | dramTrained => exact execDramTrained_kept h
  | dramZeroFillComplete => exact execDramZeroFillComplete_kept h
  | imagesVerified => exact execImagesVerified_kept h
  | bootLaneBistComplete => exact execBootLaneBistComplete_kept h
  | dictLoad => exact execDictLoad_kept h
  | firstOperatingMode => exact execFirstOperatingMode_kept h
  | claimVoucher => exact execClaimVoucher_kept h
  | lcTokenRelease => exact execLcTokenRelease_kept h
  | lcTokenReturn => exact execLcTokenReturn_kept h
  | lcTokenScrap => exact execLcTokenScrap_kept h
  | lcTokenRefurbish => exact execLcTokenRefurbish_kept h
  | lcTokenFinalise => exact execLcTokenFinalise_kept h
  | icehouseMonitorSample => exact execIcehouseMonitorSample_kept h
  | tamperConfirm => exact execTamperConfirm_kept h
  | sealedCopyDestroyed => exact execSealedCopyDestroyed_kept h
  | eraseResetExpiry => exact execEraseResetExpiry_kept h
  | alarmAck => exact execAlarmAck_kept h
  | servicePubWrite => exact execServicePubWrite_kept h
  | trngHealthFail => exact execTrngHealthFail_kept h
  | drbgReseed => exact execDrbgReseed_kept h
  | debugToken => exact execDebugToken_kept h
  | debugClose => exact execDebugClose_kept h
  | debugExpiry => exact execDebugExpiry_kept h
  | updStart => exact execUpdStart_kept h
  | updCancel => exact execUpdCancel_kept h
  | updPartImageWrite => exact execUpdPartImageWrite_kept h
  | updPartDownloadComplete => exact execUpdPartDownloadComplete_kept h
  | updPartVerified => exact execUpdPartVerified_kept h
  | updActivateStandby => exact execUpdActivateStandby_kept h
  | updActivateStop => exact execUpdActivateStop_kept h
  | activationRecordWritten => exact execActivationRecordWritten_kept h
  | trialCommit => exact execTrialCommit_kept h
  | trialLimitExpiry => exact execTrialLimitExpiry_kept h
  | updPreparedWrite => exact execUpdPreparedWrite_kept h
  | illegalOpcode => exact execIllegalOpcode_kept h
  | refLineRelease => exact execRefLineRelease_kept h
  | lockstepFault => exact execLockstepFault_kept h
  | safetyWordReceive => exact execSafetyWordReceive_kept h
  | healthWordReceive => exact execHealthWordReceive_kept h
  | partnerEventReceive => exact execPartnerEventReceive_kept h
  | pavstorePartnerWrite => exact execPavstorePartnerWrite_kept h
  | partnerSyncHoldExpiry => exact execPartnerSyncHoldExpiry_kept h
  | leapSecond => exact execLeapSecond_kept h
  | frameTransmitComplete => exact execFrameTransmitComplete_kept h
  | tpdoInhibitExpiry => exact execTpdoInhibitExpiry_kept h
  | garbageCollection => exact execGarbageCollection_kept h
  | partitionResizeComplete => exact execPartitionResizeComplete_kept h
  | status3Toggle => exact execStatus3Toggle_kept h

theorem step_of_empty (hq : s.pending = []) : Machine.step s = .next (tick s) := by rw [Machine.step, hq]

theorem step_of_cons {c : Instr} {r : List Instr} (hq : s.pending = c :: r) : Machine.step s = exec c { s with pending := r } := by
  rw [Machine.step, hq]

/-- A step runs the command at the front of the queue in the state without it, and keeps what a command keeps. -/
theorem steps_cons_kept {c : Instr} {r : List Instr} (hq : s.pending = c :: r) (hs : Steps s t) : Kept { s with pending := r } t :=
  (exec_kept (.refl _)).kept ((step_of_cons hq).symm.trans hs)

theorem steps_empty_eq_tick (hq : s.pending = []) (hs : Steps s t) : t = tick s :=
  (Host.Outcome.next.inj ((step_of_empty hq).symm.trans hs)).symm

end

end Sys2Proof.Machine
end

section
/-! PROOFS of the steps: which command a step runs (StepRunsFront), what it does to the queue and the time (QueueAndTimeKept), and the
canonical form of memory and dictionary (CanonicalKept). -/

namespace Sys2Proof.Machine

/-- Settles O51: a step takes the queue apart, and its front is the command. -/
theorem stepRunsFront : Obligations.StepRunsFront := fun _ _ => ⟨step_of_cons rfl, step_of_empty⟩

/-- Settles O54: on an empty queue a step is a tick; else it is a command in the state without it, and no command changes queue or time. -/
theorem queueAndTimeKept : Obligations.QueueAndTimeKept := by
  refine fun s t hs => ⟨fun hq => ?_, fun c r hq => ?_⟩
  · rw [steps_empty_eq_tick hq hs]
    exact ⟨hq, rfl⟩
  · have hkept := steps_cons_kept hq hs
    exact ⟨hkept.pending, hkept.now⟩

/-- Settles O53: a tick leaves memory and dictionary as they are, and every command keeps their form. -/
theorem canonicalKept : Obligations.CanonicalKept := by
  intro s t hcanonical hs
  match hq : s.pending with
  | [] => exact steps_empty_eq_tick hq hs ▸ hcanonical
  | c :: r => exact (steps_cons_kept hq hs).canonical hcanonical

end Sys2Proof.Machine
end

section
/-! PROOFS of what reset leaves (ResetState, R434): the tables of reset are empty, so a read answers a default of the dictionary. -/

namespace Sys2Proof.Machine

theorem rd_reset (k : Nat) : State.reset.rd k = dictDefault k := rfl

theorem byte_reset (sp a : Nat) : State.reset.byte sp a = emptyByte := rfl

theorem mode_reset : State.reset.mode = Mode.boot := by decide +kernel

theorem pavState_reset : ∀ p < 256, State.reset.pavState p = Prog.stop := by decide +kernel

/-- Settles O52: each part of reset is a default or an empty table. -/
theorem resetState : Obligations.ResetState :=
  ⟨mode_reset, rfl, rfl, rd_reset, fun _ => rfl, pavState_reset, byte_reset, rfl, rfl, rfl⟩

end Sys2Proof.Machine
end

section
/-! PROOFS of the family of spec/15_gatehouse_modes_and_environment.md, first part: the module watchdog (R435 to R437). -/

namespace Sys2Proof.Machine

section
variable {s : State}

/-! ### The keys of the Gatehouse (R435) -/

/-- R435: a KEY_A before the window opens, or a second KEY_A, is a failure; else the watchdog waits for KEY_B. -/
theorem exec_wdtServiceKeyA_of_running (hruns : s.ghRuns = true) (hstate : s.rdN K.wdtState = Mwdt.running) :
    exec .wdtServiceKeyA s = .next (if s.now < s.gate.wdtS + s.gate.wOpen * ms ∨ s.gate.expectB then moduleWdtFail 3 s
      else updGate (fun g => { g with expectB := true, keyAAt := s.now }) s) :=
  (exec_of_only rfl (by simp [hruns, hstate])).trans rfl

/-- R435: a KEY_B before the window opens, without a KEY_A, or later than 1 ms after it, is a failure; else the period begins anew. -/
theorem exec_wdtServiceKeyB_of_running (hruns : s.ghRuns = true) (hstate : s.rdN K.wdtState = Mwdt.running) :
    exec .wdtServiceKeyB s = .next (if s.now < s.gate.wdtS + s.gate.wOpen * ms ∨ !s.gate.expectB ∨ s.gate.keyAAt + ms < s.now
      then moduleWdtFail 3 s
      else
        let u := wrN K.wdtMarginMin (min ((s.gate.wdtS + s.gate.wTimeout * ms - s.now) / us) (s.rdN K.wdtMarginMin)) s
        updGate (fun g => { g with wdtS := u.now, expectB := false, wOpen := u.rdN K.wdtOpen, wTimeout := u.rdN K.wdtTimeout }) u) :=
  (exec_of_only rfl (by simp [hruns, hstate])).trans rfl

/-- R435: a write to SERVICE on a dictionary path that reaches the entry is denied, and recorded with its path. -/
theorem exec_wdtForeignService_of_found {src : Path} {c : Caller} (master : Nat) (hruns : s.ghRuns = true) (hcaller : s.caller src = some c)
    (hfound : s.findEntry c 0x2003 4 = Err.ok) : exec (.wdtForeignService true src master) s =
      .next (raise Ev.wdtForeignService (le 1 (pathCode src)) (reply Err.writeDenied [] s)) := by
  refine (exec_of_only rfl hruns).trans ?_
  simp [hcaller, hfound]

end

/-- Settles O43: a key by the place of its instant in the window and by what the watchdog waits for, a timeout as a failure under its
condition, and the writes to KEY, LOCK and ENABLE as command entries. -/
theorem moduleWatchdog : Obligations.ModuleWatchdog := by
  refine fun src v master s => ⟨?inWindow, ?early, ?timeout, ?keyBTimeout, fun hruns => exec_of_only rfl hruns,
    fun c hruns hcaller hfound => exec_wdtForeignService_of_found master hruns hcaller hfound, ?key, ?lock, ?enable⟩
  case inWindow =>
    intro hruns hstate hopen
    have hA := exec_wdtServiceKeyA_of_running hruns hstate
    have hB := exec_wdtServiceKeyB_of_running hruns hstate
    have hlate : ¬s.now < s.gate.wdtS + s.gate.wOpen * ms := not_lt.mpr hopen
    refine ⟨fun hidle => ?_, fun hwaits => ?_, fun hwaits hsoon => ?_, fun hbad => ?_⟩
    · rw [hA, if_neg (by simp [hlate, hidle])]
    · rw [hA, if_pos (.inr hwaits)]
    · rw [hB, if_neg (by simp [hlate, hwaits, hsoon])]
    · rw [hB, if_pos (.inr (hbad.imp_left (by simp [·])))]
  case early =>
    intro hruns hstate hearly
    exact ⟨by rw [exec_wdtServiceKeyA_of_running hruns hstate, if_pos (.inl hearly)],
      by rw [exec_wdtServiceKeyB_of_running hruns hstate, if_pos (.inl hearly)]⟩
  case timeout => exact guarded_only rfl (by simp [and_assoc])
  case keyBTimeout => exact guarded_only rfl (by simp [and_assoc])
  case key =>
    refine commanded_command rfl ?_
    simp only [accept, refuse, only_decide]
    rfl
  case lock => exact commanded_command rfl rfl
  case enable => exact commanded1_command1 rfl (by simp only [accept, only_decide])

end Sys2Proof.Machine
end

section
/-! PROOFS of the family of spec/15_gatehouse_modes_and_environment.md, second part: the modes, resets and faults of the Gatehouse (R426,
R430, R431, R433, R434, R467, R468). -/

namespace Sys2Proof.Machine

section
variable {s : State}

/-- R426: a fault of the Gatehouse resets the module, but for a corrected SRAM error, which is counted. -/
theorem exec_gatehouseFault_of_runs {kind : Nat} (hruns : s.ghRuns = true) (hkind : kind < 4) : exec (.gatehouseFault kind) s =
    .next (if kind = 0 then inc K.ghSramCorrected U32.max s else moduleReset (if kind = 3 then trialOr 5 s else 5) s) :=
  (exec_of_only rfl (by simp [hruns, hkind])).trans rfl

/-- R431, R468: a request for DORMANT by whether the module may become DORMANT. -/
theorem commanded_dormantRequest (src : Path) (v : Nat) (s : State) :
    Commanded1 (.dormantRequest src v) src K.modecmdDormant v s (fun s =>
      if s.dormantAllowed then
        let u := updPow (fun p => { p with dormantStep := 1, modeBefore := s.mode }) s
        let w := hartListenAll (iolPassiveAll (lanesDown (engineTo 0 u)))
        let x := each (List.range 16) (fun j => updAo j (fun x => { x with fromOpen := true })) w
        (Err.ok, driveAll (each (List.range 8) (fun i => updDi i (fun d => { d with wakeRef := bitOf (x.rdN (K.diState i)) 0, wakeRun := 0 })) x))
      else (Err.state, s)) := by
  refine commanded1_command1 rfl ?_
  cases s.dormantAllowed <;> rfl

/-- R434: a reset that is due and completes no life-cycle transition. -/
theorem guarded_moduleReset (hpending : s.sec.pendingLc = none) :
    Guarded .moduleReset s (s.mode ≠ Mode.icehouse ∧ s.gate.resetAt.any (fun t => t ≤ s.now) = true) (fun s =>
      moduleReset s.gate.resetCause s) :=
  guarded_congr (guarded_only rfl (by simp)) fun _ => by simp only [hpending]

end

/-- Settles O42: a fault by its kind, the requests as command entries, and every other event as an effect under its condition. -/
theorem gatehouseModes : Obligations.GatehouseModes := by
  refine fun src v kind s => ⟨?faults, ?enter, commanded_command rfl rfl, ?limit, commanded_dormantRequest src v s, ?flushed, ?dormant,
    ?reset, guarded_moduleReset⟩
  case faults =>
    refine fun hruns => ⟨exec_gatehouseFault_of_runs hruns (by decide), fun hkind => ?_, exec_gatehouseFault_of_runs hruns (by decide)⟩
    rw [exec_gatehouseFault_of_runs hruns (by omega), if_neg (by omega), if_neg (by omega)]
  case enter => exact commanded_command rfl (ite_not ..)
  case limit => exact guarded_only rfl (by simp)
  case flushed => exact guarded_only rfl (by simp)
  case dormant => exact guarded_congr (guarded_only rfl (by simp)) fun _ => by simp only [only_decide]
  case reset => exact commanded_command rfl (ite_not ..)

end Sys2Proof.Machine
end

section
/-! PROOFS of the family of spec/15_gatehouse_modes_and_environment.md, third part: the environment, the wear ledger and the service port
(R433, R439 to R445). -/

namespace Sys2Proof.Machine

section
variable {s : State}

/-! ### Rails and vibration (R440, R441) -/

section
variable {k mv held : Nat} (hk : k < 18) (hruns : s.ghRuns = true)
include hk hruns

/-- R440: a rail whose state stands, or has not been worse for 1 ms, has its voltage noted. -/
theorem exec_railStateChange_of_stands
    (hstands : railState k mv = Tab.get s.gate.rail k 0 ∨ Tab.get s.gate.rail k 0 ≤ railState k mv ∧ held < 1000) :
    exec (.railStateChange k mv held) s = .next (wrN (K.railMv k) (min mv 65535) s) := by
  refine (exec_of_only rfl (by simp [hk, hruns])).trans ?_
  have hsame : (railState k mv ≠ Tab.get s.gate.rail k 0 && (railState k mv < Tab.get s.gate.rail k 0 || 1000 ≤ held)) = false := by
    simp only [Bool.and_eq_false_imp, decide_eq_true_eq, Bool.or_eq_false_iff, decide_eq_false_iff_not]
    omega
  exact congrArg Host.Outcome.next (congrArg (only · _ _) hsame)

/-- R433, R440: a rail that has been in FAULT for 1 ms is recorded, and the fault settled. -/
theorem exec_railStateChange_of_fault (hnew : railState k mv = 2) (hold : Tab.get s.gate.rail k 0 < 2) (hheld : 1000 ≤ held) :
    exec (.railStateChange k mv held) s =
      (let u := wrN (K.railMv k) (min mv 65535) s
       let w := updGate (fun g => { g with rail := Tab.put g.rail k 2 0 }) u
       let w := wrN K.railFaultMap (setBit (w.rdN K.railFaultMap) k true) w
       .next (settleFault 6 false (raiseSev Ev.rail (le 1 k ++ le 1 2 ++ le 2 mv) 5
         (wrN K.railWarnMap (setBit (u.rdN K.railWarnMap) k true) w)))) := by
  refine (exec_of_only rfl (by simp [hk, hruns])).trans ?_
  have hchanges : (2 ≠ Tab.get s.gate.rail k 0 && (2 < Tab.get s.gate.rail k 0 || 1000 ≤ held)) = true := by
    simp [hheld, (Nat.ne_of_lt hold).symm]
  simp only [hnew, hchanges, only_true]
  rfl

end

/-- R441: band values all below ALERT raise nothing. -/
theorem exec_vibrationSpectrum_of_quiet {rms : List Nat} (total : List Nat) (hruns : s.ghRuns = true)
    (hquiet : ∀ i < 96, f32.lt (s.rdN K.vibAlert) (rms.getD i 0) = false) :
    let h := (List.range 96).foldl (fun h i =>
      let o := 4 * (8 * i + vibLevel (rms.getD i 0))
      overlay h o (le 4 (satInc U32.max (fieldAt h o 4)))) (s.blobOf K.vibHistogram)
    exec (.vibrationSpectrum rms total) s =
      .next (wrBlob K.vibRms ((List.range 3).flatMap (fun a => le 4 (total.getD a 0))) (wrBlob K.vibHistogram h s)) := by
  intro h
  refine (exec_of_only rfl hruns).trans ?_
  have hnone : (List.range 96).filter (fun i => f32.lt (s.rdN K.vibAlert) (rms.getD i 0)) = [] := by
    simpa [List.filter_eq_nil_iff] using hquiet
  exact congrArg Host.Outcome.next (congrArg (each · _ _) hnone)

theorem exec_shockEnd_of_none (x y z above : Nat) (hnone : s.gate.shock = none) : exec (.shockEnd x y z above) s = .next s := by
  change execShockEnd x y z above s = _
  simp [execShockEnd, hnone, only]

/-- R441: the end of a shock writes its record to the log and to the recorder, and raises the peaks. -/
theorem exec_shockEnd_of_shock {t0 : Nat} {p : Nat × List Nat} (x y z above : Nat) (hruns : s.ghRuns = true)
    (hshock : s.gate.shock = some (t0, p)) :
    let pk := [fmax (fabs (p.2.getD 0 0)) (fabs x), fmax (fabs (p.2.getD 1 0)) (fabs y), fmax (fabs (p.2.getD 2 0)) (fabs z)]
    let r := le 8 t0 ++ pk.flatMap (le 4) ++ le 4 above ++ le 8 0
    let u := inc K.vibShocks U32.max (updGate (fun g => { g with shock := none }) s)
    let w := wrBlob K.vibShockLog (r ++ (u.blobOf K.vibShockLog).take 2016) u
    exec (.shockEnd x y z above) s = .next (raise Ev.shock r
      (wrBlob K.vibPeak ((List.range 3).flatMap (fun a => le 4 (fmax (fieldAt (w.blobOf K.vibPeak) (4 * a) 4) (pk.getD a 0)))) w)) := by
  refine (exec_of_only rfl hruns).trans ?_
  simp only [hshock]
  rfl

/-! ### Humidity and contacts (R442, R443) -/

/-- R442: a reading is noted; above its limit for 60 s it is raised once. -/
theorem exec_humiditySample_of_runs (rh lid : Nat) (hruns : s.ghRuns = true) :
    exec (.humiditySample rh lid) s =
      (let u := wrN K.envLidLight (min lid 65535) (wrN K.envRh (min rh 65535) s)
       .next (if rh ≤ u.rdN K.envRhWarn then updGate (fun g => { g with rhSince := none, rhRaised := false }) u
         else only (!u.gate.rhRaised && u.past (u.gate.rhSince.getD u.now) (60 * sec)) (fun s =>
             raise Ev.humidity (le 2 rh) (updGate (fun g => { g with rhRaised := true }) s))
           (updGate (fun g => { g with rhSince := some (u.gate.rhSince.getD u.now) }) u))) :=
  (exec_of_only rfl hruns).trans rfl

/-- R443: with a baseline that stands, every pair is checked against both thresholds. -/
theorem exec_contactSenseMeasure_of_based (mohm : List Nat) (hruns : s.ghRuns = true) :
    let u := each (List.range 16) (fun j s =>
      let l := pushFront 6 (min 65535 (mohm.getD j 0)) (Tab.get s.gate.cont j [])
      wrN (K.contMohm j) (median l) (updGate (fun g => { g with cont := Tab.put g.cont j l [] }) s)) s
    u.gate.rebaseAt = none → exec (.contactSenseMeasure mohm) s = .next
      (each (List.range 16) (fun j s => contCheck j (16 + j) (s.rdN K.contCrit) 2 (contCheck j j (s.rdN K.contWarn) 1 s)) u) := by
  intro u hbased
  refine (exec_of_only rfl hruns).trans (congrArg Host.Outcome.next ?_)
  change (match u.gate.rebaseAt with
    | some _ => _
    | none => _) = _
  rw [hbased]

/-! ### The wear ledger and the service port (R444, R445) -/

/-- R444: the ledger is written at most once in 60 s. -/
theorem exec_wearLedgerUpdate_of_not (hnot : s.ghRuns = false ∨ s.past s.gate.wearAt (60 * sec) = false) :
    exec .wearLedgerUpdate s = .next s := by
  change execWearLedgerUpdate s = _
  rcases hnot with h | h <;> simp [execWearLedgerUpdate, h]

/-- R444: the ledger notes its instant, and a minute more of the hour. -/
theorem does_wearLedgerUpdate (hruns : s.ghRuns = true) (hdue : s.past s.gate.wearAt (60 * sec) = true) :
    Does .wearLedgerUpdate s (fun t => t.gate.wearAt = s.now ∧ t.sec.wearMin = (s.sec.wearMin + 1) % 60) := by
  refine ⟨_, exec_of_only rfl (by simp [hruns, hdue]), ?_⟩
  simp only [wrN_gate, wrN_sec]
  refine each_induct (fun t => t.gate.wearAt = s.now ∧ t.sec.wearMin = (s.sec.wearMin + 1) % 60) _ _ _ (fun n _ t ht => ?_) ?_
  · unfold only
    split <;> exact ht
  · unfold only
    split <;> split <;> exact ⟨rfl, rfl⟩

/-- R445: the first frame of a second, by whether its kind is accepted. -/
theorem exec_serviceEthFrame_of_first (kind : Nat) (hruns : s.ghRuns = true) (hmode : s.mode ≠ Mode.dormant)
    (hon : s.on K.svcethEnable = true) (hlink : s.rdN K.svcethLink ≠ 0) (hfirst : s.past s.gate.svcAt sec = true) :
    exec (.serviceEthFrame kind) s =
      (let u := updGate (fun g => { g with svcN := 1 }) (updGate (fun g => { g with svcAt := s.now, svcN := 0 }) s)
       .next (if (kind = 0 || (kind = 1 && u.blobOf K.svcethIpv4 ≠ blobDefault K.svcethIpv4) || (kind = 2 && u.on K.dictDapEnable) || kind = 3)
         then wrN K.svcethFrames (u.rdN K.svcethFrames + 1) u else inc K.svcethDiscards U32.max u)) := by
  refine (exec_of_only rfl (by simp [hruns, hmode, hon, hlink])).trans ?_
  simp only [hfirst, if_true]
  rfl

end

/-- Settles O44: each measurement as an effect under its condition, by the case it falls in. -/
theorem environment : Obligations.Environment := by
  refine fun src k mv held v x y z mag above rh lid kind link t0 vals mohm rms total s => ⟨guarded_only rfl Iff.rfl, ?critical, ?rail,
    exec_vibrationSpectrum_of_quiet total, ?shockStart, exec_shockEnd_of_none x y z above,
    fun p => exec_shockEnd_of_shock (p := p) x y z above, ?humidity, exec_contactSenseMeasure_of_based mohm, commanded1_command1 rfl rfl,
    exec_wearLedgerUpdate_of_not, does_wearLedgerUpdate, ?frame, ?link⟩
  case critical => exact guarded_only rfl (by simp [and_assoc])
  case rail => exact fun hk hruns => ⟨exec_railStateChange_of_stands hk hruns, exec_railStateChange_of_fault hk hruns⟩
  case shockStart => exact guarded_only rfl (by simp [and_assoc])
  case humidity =>
    intro hruns u
    have hexec := exec_humiditySample_of_runs (s := s) rh lid hruns
    refine ⟨fun hlow => ?_, fun hhigh hraised => ?_⟩
    · exact hexec.trans (congrArg Host.Outcome.next (if_pos hlow))
    · refine hexec.trans (congrArg Host.Outcome.next ((if_neg (not_le.mpr hhigh)).trans ?_))
      rw [show (wrN K.envLidLight (min lid 65535) (wrN K.envRh (min rh 65535) s)).gate.rhRaised = true from hraised]
      rfl
  case frame =>
    intro hruns hmode hon hlink hfirst u
    have hexec := exec_serviceEthFrame_of_first kind hruns hmode hon hlink hfirst
    refine ⟨fun hkind => ?_, fun hkind => ?_⟩
    · exact hexec.trans (congrArg Host.Outcome.next (if_pos (by rcases hkind with rfl | rfl <;> simp)))
    · have hother : kind ≠ 0 ∧ kind ≠ 1 ∧ kind ≠ 2 ∧ kind ≠ 3 := by omega
      exact hexec.trans (congrArg Host.Outcome.next (if_neg (by simp [hother])))
  case link => exact guarded_only rfl (by simp [and_assoc])

end Sys2Proof.Machine
end

section
/-! PROOFS of the family of spec/15_gatehouse_modes_and_environment.md, fourth part: the optical port (R446 to R449). -/

namespace Sys2Proof.Machine

/-! ### Frames and sessions (R446, R447) -/

/-- An answer to a frame may be written as any function of body and state that agrees with it. -/
theorem optFrame_congr {op : Nat} {f : Bytes} {run run' : Bytes → State → Nat × Bytes × State} {s : State}
    (h : ∀ b s, run b s = run' b s) : (.next (optFrame op f run s) : Out) = .next (optFrame op f run' s) := by
  rw [funext₂ h]

/-- R447: a service token is refused for the first reason that holds; else the session opens in its role. -/
theorem exec_optAuth (f : Bytes) (sig : Bool) (s : State) :
    exec (.optAuth f sig) s = .next (optFrame 4 f (fun b s =>
      if b.length ≠ 128 then (Err.length, [], s)
      else if fieldAt b 0 4 ≠ s.rdN K.commIdSerial then (Err.value, [], optRefused 1 s)
      else if s.opt.nonce = [] ∨ slice b 4 16 ≠ s.opt.nonce then (Err.value, [], optRefused 2 s)
      else if sig = false ∨ s.blobOf K.keysServicePub = List.replicate 97 0 then (Err.value, [], optRefused 3 s)
      else if fieldAt b 20 8 * 1000000000 ≤ s.tbNs 3 then (Err.value, [], optRefused 4 s)
      else if 2 < byteAt b 28 then (Err.value, [], s)
      else (Err.ok, [], wrN K.optState 1 (updOpt (fun x => { x with
        isOpen := true
        role := if byteAt b 28 = 2 then .engineer else if byteAt b 28 = 1 then .operator else .viewer
        nonce := [] }) s))) s) := by
  refine optFrame_congr fun b s => if_congr Iff.rfl rfl ?_
  simp only [Bool.not_eq_true']
  by_cases hserial : fieldAt b 0 4 ≠ s.rdN K.commIdSerial
  · simp [hserial]
  by_cases hnonce : s.opt.nonce = [] ∨ slice b 4 16 ≠ s.opt.nonce
  · simp only [if_neg hserial, if_pos hnonce]; rfl
  by_cases hsig : sig = false ∨ s.blobOf K.keysServicePub = List.replicate 97 0
  · simp only [if_neg hserial, if_neg hnonce, if_pos hsig]; rfl
  by_cases hexpired : fieldAt b 20 8 * 1000000000 ≤ s.tbNs 3
  · simp only [if_neg hserial, if_neg hnonce, if_neg hsig, if_pos hexpired]; rfl
  · simp only [if_neg hserial, if_neg hnonce, if_neg hsig, if_neg hexpired]; rfl

/-! ### The flood measurement (R449) -/

section
variable {s : State} {sat : Bool} {bad : Nat} (ambient : Nat) (hruns : s.ghRuns = true) (hmode : s.mode ≠ Mode.dormant)
  (hon : s.on K.optEnable = true) (hstate : s.rdN K.optState ≠ 2)
include hruns hmode hon hstate

/-- R449: while the port is not in HIGH_AMBIENT, the intervals in a row that saturated or failed framing are counted, up to 20. -/
theorem exec_optFloodInterval_of_low :
    exec (.optFloodInterval sat bad ambient) s =
      (let u := wrN K.optAmbient (min ambient 65535) s
       let n := if sat || 3 ≤ bad then u.opt.floodRun + 1 else 0
       .next (only (20 ≤ n) (fun s =>
          let s := updOpt (fun x => { x with floodRun := 0, clearRun := 0, highAt := s.now }) s
          raise Ev.opticalAmbient (le 1 2 ++ le 2 ambient) (wrN K.optState 2 s)) (updOpt (fun x => { x with floodRun := n }) u))) := by
  refine (exec_of_only rfl (by simp [hruns, hmode, hon])).trans ?_
  have hlow : (wrN K.optAmbient (min ambient 65535) s).rdN K.optState ≠ 2 := by rwa [rdN_wrN_ne _ _ _ _ (by decide)]
  simp only [if_neg hlow]

theorem exec_optFloodInterval_of_clear (hsat : sat = false) (hbad : bad < 3) : exec (.optFloodInterval sat bad ambient) s =
    .next (updOpt (fun x => { x with floodRun := 0 }) (wrN K.optAmbient (min ambient 65535) s)) := by
  have hclear : (sat || decide (3 ≤ bad)) = false := by simp [hsat, hbad]
  rw [exec_optFloodInterval_of_low ambient hruns hmode hon hstate, hclear]
  rfl

theorem exec_optFloodInterval_of_flood (hflood : sat = true ∨ 3 ≤ bad) (hfew : s.opt.floodRun < 19) :
    exec (.optFloodInterval sat bad ambient) s =
      .next (updOpt (fun x => { x with floodRun := s.opt.floodRun + 1 }) (wrN K.optAmbient (min ambient 65535) s)) := by
  have hflood : (sat || decide (3 ≤ bad)) = true := by simpa using hflood
  have hbelow : decide (20 ≤ s.opt.floodRun + 1) = false := by simp; omega
  rw [exec_optFloodInterval_of_low ambient hruns hmode hon hstate, hflood]
  simp only [if_true, wrN_opt, hbelow, only_false]

end

/-- Settles O24: each frame is answered by the function of its operation; the flood measurement counts while it stays below 20 intervals. -/
theorem opticalPort : Obligations.OpticalPort := by
  refine ⟨fun f sig asserted s => ⟨rfl, rfl, ?events⟩, fun f sig sat bad ambient s => ⟨rfl, ?challenge, exec_optAuth f sig s, rfl, ?idle, ?flood⟩⟩
  case events =>
    refine optFrame_congr fun b s => ?_
    cases s.opt.isOpen <;> rfl
  case challenge =>
    refine optFrame_congr fun b s => ?_
    cases s.rngServes false <;> rfl
  case idle => exact guarded_only rfl (by simp [and_assoc])
  case flood =>
    exact fun hruns hmode hon hstate => ⟨exec_optFloodInterval_of_clear ambient hruns hmode hon hstate,
      exec_optFloodInterval_of_flood ambient hruns hmode hon hstate⟩

end Sys2Proof.Machine
end

section
/-! PROOFS of the family of spec/14_recorder_and_historian.md, first part: the event recorder (R408, R409, R411, R413). -/

namespace Sys2Proof.Machine

section
variable {s : State}

/-- R408: the archiver takes the first record of the ring that it has not archived. -/
theorem exec_archiveCopy_of_found {e : RecEnt} (hwrites : s.writeCode 2 = Err.ok) (hflush : s.pow.flushing = false)
    (hfound : s.recd.ring.find? (fun e => e.ty ≠ Ty.pad && !e.archived) = some e) :
    exec .archiveCopy s = .next (archivePut { e with archived := true } (updRec (fun r =>
      { r with ring := r.ring.map (fun x => if x.ty ≠ Ty.pad ∧ x.seq = e.seq then { x with archived := true } else x) }) s)) := by
  refine (exec_of_only rfl (by simp [hwrites, hflush])).trans ?_
  simp only [hfound]

/-! ### Clear attempts (R411) -/

section
variable {path k last scope : Nat} {src : Path} {v : Bytes} {c : Caller} {check : State → Nat} (hcaller : s.caller src = some c)
  (hrights : s.checkWrite src (k / 256) (k % 256) v = Err.ok)
include hcaller hrights

/-- R411: a clear on path `path` that its own rules refuse with VALUE_ERROR is recorded with the peer of a session, and draws a new nonce. -/
theorem clearAttempt_dap_of_value {m : Nat} (hsrc : src = .dap m) (hcheck : check s = Err.value) :
    clearAttempt path src k v check last scope s = reply Err.value [] (newNonce K.recClearNonce
      (raise Ev.recClearRefused (le 1 path ++ le 2 Err.value ++ padTo 18 (s.session m).peer) (inc K.recClearRefused U32.max s))) := by
  subst hsrc
  have hcode : (if Err.ok ≠ Err.ok then Err.ok else check s) = Err.value := by rw [if_neg (not_not.mpr rfl), hcheck]
  unfold clearAttempt
  rw [hcaller]
  dsimp only
  rw [hrights, hcode, if_neg (by decide), if_pos (.inl rfl)]

/-- R411: a clear that its own rules allow is carried out, in the name of the caller. -/
theorem clearAttempt_of_admitted (hcheck : check s = Err.ok) :
    clearAttempt path src k v check last scope s = reply Err.ok [] (newNonce K.recClearNonce (doClear path last scope (rank c.role)
      (match src with
        | .dap n => s.session n
        | _ => {}).cert s)) := by
  have hcode : (if Err.ok ≠ Err.ok then Err.ok else check s) = Err.ok := by rw [if_neg (not_not.mpr rfl), hcheck]
  unfold clearAttempt
  rw [hcaller]
  dsimp only
  rw [hrights, hcode]
  exact if_pos rfl

end

section
variable {m : Nat} {v : Bytes} {sig : Bool} {c : Caller} (hcaller : s.caller (.dap m) = some c)
  (hrights : s.checkWrite (.dap m) (K.recClearToken / 256) (K.recClearToken % 256) v = Err.ok)
include hcaller hrights

/-- R411: a token whose signature does not hold is refused and recorded, and the records stand. -/
theorem does_recClearToken_of_unsigned (hsig : sig = false) : Does (.recClearToken (.dap m) v sig) s (fun t =>
    t.answer = { code := Err.value, data := [] } ∧ t.rdN K.recClearRefused = satInc U32.max (s.rdN K.recClearRefused) ∧ t.recd = s.recd ∧
    Raises Ev.recClearRefused (le 1 1 ++ le 2 Err.value ++ padTo 18 (s.session m).peer) s t) := by
  refine ⟨_, congrArg Host.Outcome.next (clearAttempt_dap_of_value hcaller hrights rfl ?_), ?_⟩
  · simp [hsig]
  · exact ⟨rfl, rdN_inc_same .., rfl, pend_raiseWith ..⟩

/-- R411: a token whose fields and signature hold clears the records up to its sequence number. -/
theorem exec_recClearToken_of_signed (hsig : sig = true) (hserial : fieldAt v 0 4 = s.rdN K.commIdSerial)
    (hnonce : slice v 4 16 = s.blobOf K.recClearNonce) (hscope : byteAt v 28 = 0) (hzero : fieldAt v 29 3 = 0)
    (hlast : fieldAt v 20 8 < s.rdN K.recSeqNext) (hclearable : s.clearable = true) :
    exec (.recClearToken (.dap m) v sig) s = .next (reply Err.ok [] (newNonce K.recClearNonce
      (doClear 1 (fieldAt v 20 8) 0 (rank c.role) (s.session m).cert s))) := by
  refine congrArg Host.Outcome.next ((clearAttempt_of_admitted hcaller hrights ?_).trans ?_)
  · simp [hsig, hserial, hnonce, hscope, hzero, not_le.mpr hlast, hclearable]
  · rw [hscope]

end

/-- R411: with the key switch asserted, a clear through a window or on the optical port needs no token. -/
theorem exec_recClearKeyswitch_of_asserted {src : Path} {n : Nat} {asserted : Bool} {c : Caller} :
    let u := wrB K.recKeyswitch asserted s
    u.caller src = some c → u.checkWrite src (K.recClearKeyswitch / 256) (K.recClearKeyswitch % 256) (le 8 n) = Err.ok →
    n < u.rdN K.recSeqNext → u.clearable = true → asserted = true → (∀ m, src ≠ .dap m) →
    exec (.recClearKeyswitch src n asserted) s = .next (reply Err.ok [] (newNonce K.recClearNonce
      (doClear 2 n 0 (rank c.role) ({} : Session).cert u))) := by
  intro u hcaller hrights hlast hclearable hasserted hsrc
  refine congrArg Host.Outcome.next ((clearAttempt_of_admitted hcaller hrights ?_).trans ?_)
  · simp only [not_le.mpr hlast, hclearable, hasserted, if_false]
    rfl
  · cases src with
    | dap m => exact absurd rfl (hsrc m)
    | _ => rfl

end

/-- Settles O25: the archiver by what it finds, the freeze and the query as command entries, a clear by whether its rules allow it. -/
theorem recorder : Obligations.Recorder := by
  refine fun src v sig asserted n c s => ⟨fun e => exec_archiveCopy_of_found, commanded_command rfl rfl, commanded_command rfl rfl, ?timeout,
    commanded_command rfl rfl, ?token, exec_recClearKeyswitch_of_asserted⟩
  case timeout => exact guarded_only rfl (by simp)
  case token =>
    rintro m rfl hcaller hrights
    exact ⟨does_recClearToken_of_unsigned hcaller hrights, exec_recClearToken_of_signed hcaller hrights⟩

end Sys2Proof.Machine
end

section
/-! PROOFS of the family of spec/14_recorder_and_historian.md, second part: the historian (R415, R416, R420, R421). -/

namespace Sys2Proof.Machine

/-- R39: with no partner to wait for, a write is answered at once. -/
theorem answerWrite_of_not_mirrors {k code : Nat} {v : Bytes} {s : State} (h : s.mirrors = false) : answerWrite k v code s = reply code [] s := by
  simp [answerWrite, h]

section
variable {s : State}

/-! ### The buffer (R420) -/

theorem exec_histBufferDrained_of_overflowing (hfull : s.hist.overflowing = true) :
    exec .histBufferDrained s = .next (only ((histDrain s).rdN K.histBufferUsed < histBufferBytes / 2) (fun s =>
      let ms_ := (s.now - s.hist.overflow.getD s.now) / ms
      let s := raise Ev.histOverflow (le 4 s.hist.discarded ++ le 4 ms_) s
      updHist (fun x => { x with overflow := none, overflowing := false, discarded := 0 }) s) (histDrain s)) :=
  (exec_of_only rfl hfull).trans rfl

theorem exec_histBufferDrained_of_full (hfull : s.hist.overflowing = true) (hused : histBufferBytes / 2 ≤ (histDrain s).rdN K.histBufferUsed) :
    exec .histBufferDrained s = .next (histDrain s) := by
  rw [exec_histBufferDrained_of_overflowing hfull, decide_eq_false (not_lt.mpr hused), only_false]

/-- R420: below half of its bytes the buffer samples again, and nothing of the overflow is kept. -/
theorem does_histBufferDrained_of_drained (hfull : s.hist.overflowing = true) (hused : (histDrain s).rdN K.histBufferUsed < histBufferBytes / 2) :
    Does .histBufferDrained s (fun t => t.hist.overflow = none ∧ t.hist.overflowing = false ∧ t.hist.discarded = 0) := by
  refine ⟨_, exec_histBufferDrained_of_overflowing hfull, ?_⟩
  rw [decide_eq_true hused, only_true]
  exact ⟨rfl, rfl, rfl⟩

/-! ### Queries (R421) -/

/-- R421: a point of a tag's series lies in the range and the era of a query. -/
def queryFits (v : Bytes) (p : Pt) : Bool :=
  ofT96 (fieldAt v 8 12) ≤ p.t * 1000 * 65536 && p.t * 1000 * 65536 ≤ ofT96 (fieldAt v 20 12) &&
    (fieldAt v 4 2 = 0xFFFF || fieldAt v 4 2 = p.era % 65536)

/-- R421: the series of a tag as a query reads it: what is stored and buffered, and the sample of an open segment. -/
def State.queryPoints (s : State) (v : Bytes) : List Pt :=
  (s.hist.points ++ s.hist.buffered).filter (fun p => p.tag = fieldAt v 0 2 && queryFits v p) ++
    if s.tbVal 3 ≤ ofT96 (fieldAt v 20 12) then (s.provisional (fieldAt v 0 2)).filter (queryFits v) else []

section
variable {src : Path} {v : Bytes} {c : Caller} (hcaller : s.caller src = some c)
  (hrights : s.checkWrite src (K.histqQuery / 256) (K.histqQuery % 256) v = Err.ok) (hfree : s.writeHeld K.histqQuery = false)
include hcaller hrights hfree

theorem exec_histqQuery_of_value (hbad : fieldAt v 6 2 = 0 ∨ 2000 < fieldAt v 6 2 ∨ 1 < byteAt v 2 ∨ byteAt v 3 ≠ 0) :
    exec (.histqQuery src v) s = .next (answerWrite K.histqQuery v Err.value s) := by
  refine congrArg Host.Outcome.next ((command_done (by simp [hcaller]) hrights hfree).trans ?_)
  have hvalue : fieldAt v 6 2 < 1 ∨ 2000 < fieldAt v 6 2 ∨ 1 < byteAt v 2 ∨ byteAt v 3 ≠ 0 ∨ (bitOf (byteAt v 2) 0 = true ∧ 128 ≤ fieldAt v 0 2) := by
    omega
  simp only [hcaller, if_pos hvalue]

/-- R421: a query for the series of a tag the caller sees leaves the points that fit, in their records. -/
theorem exec_histqQuery_of_series (hlow : 1 ≤ fieldAt v 6 2) (hhigh : fieldAt v 6 2 ≤ 2000) (hkind : byteAt v 2 = 0) (hzero : byteAt v 3 = 0)
    (hvisible : visibleTo c (s.tagOwner (fieldAt v 0 2)) = true) (hreads : s.readCode 3 = Err.ok) :
    exec (.histqQuery src v) s = .next (answerWrite K.histqQuery v Err.ok (updRec (fun r => { r with
      histResults := Tab.put r.histResults (pathCode src) (histResult (fieldAt v 6 2) ((s.queryPoints v).map Pt.entry)) [] }) s)) := by
  refine congrArg Host.Outcome.next ((command_done (by simp [hcaller]) hrights hfree).trans ?_)
  have hseries : bitOf (byteAt v 2) 0 = false := by rw [hkind]; rfl
  have hvalue : ¬(fieldAt v 6 2 < 1 ∨ 2000 < fieldAt v 6 2 ∨ 1 < byteAt v 2 ∨ ¬byteAt v 3 = 0 ∨ (False ∧ 128 ≤ fieldAt v 0 2)) := by
    rw [false_and, or_false]
    omega
  simp only [hcaller, hseries, if_neg hvalue, Bool.false_eq_true, if_false, hvisible, Bool.not_true, hreads, ne_eq, not_true_eq_false]
  rfl

end

end

/-- R415, R416: a write of the tag table is admitted where each of its records is, and their load. -/
theorem commanded_histTagTableWrite {g j : Nat} (src : Path) (v : Bytes) (s : State) (hg : g < 4) (hj : j < 64) :
    Commanded (.histTagTableWrite src g j v) src (K.histTagTable g j) v s (fun s =>
      let rs := (List.range 256).map (fun i => slice v (32 * i) 32)
      if rs.all tagReserved && rs.all (fun r => !Tg.enabled r || s.tagRule r) && (wrBlob (K.histTagTable g j) v s).tagLoad ≤ 2000000 * 10 ^ 18 then
        let first := g * 16384 + j * 256
        writeThen (K.histTagTable g j) v true 0 histCount
          (each ((s.hist.tags.map (·.1)).filter (fun h => first ≤ h && h < first + 256)) (endSegment 32) s)
      else (Err.value, s)) := by
  refine commanded_only rfl (by simp [hg, hj]) ?_
  simp only [histTagTableEffect, Bool.not_eq_true', ← Bool.not_eq_true, ite_not]

/-- Settles O26: the tag table and the queries as command entries, the buffer by whether it has drained below half. -/
theorem historian : Obligations.Historian := by
  refine fun src g j v s => ⟨commanded_histTagTableWrite src v s, ?overflow, ?idle, exec_histBufferDrained_of_full,
    does_histBufferDrained_of_drained, fun c => exec_histqQuery_of_value, ?series⟩
  case overflow => exact guarded_only rfl (by simp)
  case idle =>
    intro hnone
    change Host.Outcome.next (only s.hist.overflowing _ s) = _
    rw [hnone, only_false]
  case series =>
    intro c hcaller hrights hfree hlow hhigh hkind hzero hvisible hreads hmirrors
    refine ⟨_, exec_histqQuery_of_series hcaller hrights hfree hlow hhigh hkind hzero hvisible hreads, ?_⟩
    rw [answerWrite_of_not_mirrors (s := updRec _ s) hmirrors]
    exact ⟨rfl, Tab.get_put_same ..⟩

end Sys2Proof.Machine
end

section
/-! PROOFS of the family of spec/16_power_clocks_and_start_up.md, first part: supplies, seating contacts and clock domains (R452 to R457,
R461). -/

namespace Sys2Proof.Machine

/-! ### VLOGIC within its ratings (R452, R515) -/

section
variable {mv : Int} {held : Nat} {s : State}

/-- R515: outside the ratings each reading of VLOGIC is a fault. -/
theorem exec_vlogic_of_unrated (hunrated : vlogicRated mv = false) (carrier : Bytes) (slot : Nat) (lost vbat : Bool) :
    exec (.vlogicGood mv held carrier slot lost) s = .fault (.outsideRatings "VLOGIC") ∧
    exec (.vlogicLost mv held vbat) s = .fault (.outsideRatings "VLOGIC") ∧
    exec (.vlogicStateChange mv held) s = .fault (.outsideRatings "VLOGIC") ∧
    exec (.internalPfailWarning mv held) s = .fault (.outsideRatings "VLOGIC") := by
  have hfault {o : Out} : (if !vlogicRated mv then .fault (.outsideRatings "VLOGIC") else o) = (.fault (.outsideRatings "VLOGIC") : Out) := by
    simp [hunrated]
  exact ⟨hfault, hfault, hfault, hfault⟩

/-- R515: within the ratings a reading has its effect. -/
theorem exec_of_rated {i : Instr} {o : Out} (hrated : vlogicRated mv = true)
    (h : exec i s = if !vlogicRated mv then .fault (.outsideRatings "VLOGIC") else o) : exec i s = o := by
  simpa [hrated] using h

/-- R452: what the Icehouse counted, and the state in which the module is reset, when VLOGIC returns with VBAT never lost. -/
def powerUp (mv : Int) (carrier : Bytes) (slot : Nat) (s : State) : State :=
  let ns := s.sec.iceNs + (s.now - s.sec.iceAt)
  let u := updSec (fun x => { x with iceNs := ns % 3600000000000, vbatLost := false })
    (wrN K.vbatIcehouseHours (satAdd U32.max (s.rdN K.vbatIcehouseHours) (ns / 3600000000000)) s)
  let w := wrB K.icePowerLost false (inc K.wearPowerUps U32.max u)
  readVlogic mv (moduleReset 1 (updPow (fun p => { p with good := true, carrier := padTo 64 carrier, slot := slot }) w))

/-- R452, R443: VLOGIC is good: the module is reset, and a carrier or slot it does not know begins a new baseline. -/
theorem exec_vlogicGood {carrier : Bytes} {slot : Nat} (hmode : s.mode = Mode.icehouse) (hprecharged : s.pow.precharged = true)
    (hlow : 8700 ≤ mv) (hhigh : mv < 18000) (hheld : 1000 ≤ held) (hvbat : s.sec.vbatLost = false) (hslot : slot < 256) :
    exec (.vlogicGood mv held carrier slot false) s =
      .next (only (padTo 64 carrier ≠ s.pow.carrier || slot ≠ s.pow.slot) rebase (powerUp mv carrier slot s)) := by
  have hrated : vlogicRated mv = true := by simp [vlogicRated]; omega
  have hlong : ms ≤ held * us := by simp only [ms, us]; omega
  refine (exec_of_only (exec_of_rated hrated rfl) (by simp [hmode, hprecharged, hlow, hhigh, hlong])).trans ?_
  have hhour : 3600 * sec = 3600000000000 := rfl
  simp only [wrN_sec, hvbat, Bool.or_false, only_false, Bool.false_eq_true, if_false, Nat.mod_eq_of_lt hslot, hhour, wrB_pow, inc_pow,
    updSec_pow, wrN_pow]
  rfl

/-- R452: below 9.0 V for 10 µs a normal VLOGIC is LOW. -/
theorem exec_vlogicStateChange_of_low (hruns : s.ghRuns = true) (hnonneg : 0 ≤ mv) (hlow : mv < 9000) (hheld : 10 ≤ held)
    (hnormal : s.rdN K.pwrVlogicState = 0) : exec (.vlogicStateChange mv held) s =
      .next (raiseSev Ev.vlogicState (le 1 1 ++ le 2 mv.toNat) 4 (wrN K.pwrVlogicState 1 (readVlogic mv s))) := by
  have hrated : vlogicRated mv = true := by simp [vlogicRated]; omega
  refine (exec_of_only (exec_of_rated hrated rfl) hruns).trans ?_
  simp [hnormal, hlow, hheld]

end

/-! ### Seating contacts (R456, R457) -/

section
variable {c held : Nat} {s : State}

/-- R457: a contact that opens without logic power is followed; with it the module is held in reset, and flushes. -/
theorem exec_seatedOpen (hc : c < 2) (hheld : 20 ≤ held) (hmated : bitOf (s.rdN K.pwrSeated) c = true) :
    exec (.seatedOpen c held) s = .next (if s.mode = Mode.icehouse then seatLift c s else
      let w := raiseSev Ev.seated (le 1 (c + 1) ++ le 1 1) 4 (inc K.pwrSeatedOpens U32.max (seatLift c s))
      let y := hartListenAll (iolPassiveAll (islandForce (updPow (fun p => { p with heldReset := true }) w)))
      flushStart (seatFollow (each (List.range 16) (fun j => updAo j (fun x => { x with fromOpen := true })) y))) := by
  refine (exec_of_only rfl (by simp [hc, hheld, hmated])).trans ?_
  by_cases hmode : s.mode = Mode.icehouse <;> simp [hmode]

/-- R456: since when contact c has been mated, noted with its bit of SEATED. -/
def seatMate (c held : Nat) (s : State) : State :=
  updPow (fun p => if c = 0 then { p with seat1At := some (s.now - held * ms) } else { p with seat2At := some (s.now - held * ms) })
    (wrN K.pwrSeated (setBit (s.rdN K.pwrSeated) c true) s)

theorem seatMate_heldReset : (seatMate c held s).pow.heldReset = s.pow.heldReset := by
  simp only [seatMate, updPow, wrN_pow]
  split <;> rfl

theorem seatMate_flushing : (seatMate c held s).pow.flushing = s.pow.flushing := by
  simp only [seatMate, updPow, wrN_pow]
  split <;> rfl

theorem seatMate_seat1At : (seatMate c held s).pow.seat1At = if c = 0 then some (s.now - held * ms) else s.pow.seat1At := by
  simp only [seatMate, updPow, wrN_pow]
  split <;> rfl

theorem seatMate_seat2At : (seatMate c held s).pow.seat2At = if c = 0 then s.pow.seat2At else some (s.now - held * ms) := by
  simp only [seatMate, updPow, wrN_pow]
  split <;> rfl

/-- R456: a contact that had been mated: the module begins once both have been for 100 ms. -/
theorem exec_seatedMated_of_was (hc : c < 2) (hwas : bitOf (s.rdN K.pwrSeated) c = true) :
    exec (.seatedMated c held) s =
      (let w := seatMate c held s
       .next (only ((w.pow.seat1At.any (fun t => w.past t (100 * ms)) && w.pow.seat2At.any (fun t => w.past t (100 * ms))) && !w.fld.mated)
        (fun s =>
          let s := if s.pow.heldReset && s.pow.flushing then moduleReset 6 s else s
          let s := inc K.wearMatings U32.max { s with fld := { s.fld with mated := true } }
          let s := if s.pow.heldReset then
            updGate (fun g => { g with bootAt := s.now, wdtS := s.now }) (updPow (fun p => { p with heldReset := false, bootZero := s.now }) s) else s
          seatFollow s) w)) := by
  refine (exec_of_only rfl (decide_eq_true hc)).trans ?_
  simp only [hwas, Bool.true_or, if_true]
  rfl

/-- R456: with the other contact mated for 100 ms, so has been this one: both have. -/
theorem seatMate_both (hheld : 100 ≤ held) (hsince : held * ms ≤ s.now)
    (hother : (if c = 0 then s.pow.seat2At else s.pow.seat1At).any (fun t => s.past t (100 * ms)) = true) :
    ((seatMate c held s).pow.seat1At.any (fun t => (seatMate c held s).past t (100 * ms)) &&
      (seatMate c held s).pow.seat2At.any (fun t => (seatMate c held s).past t (100 * ms))) = true := by
  have hthis : s.past (s.now - held * ms) (100 * ms) = true := by
    unfold ms at hsince ⊢
    exact decide_eq_true (by omega)
  change ((seatMate c held s).pow.seat1At.any (fun t => s.past t (100 * ms)) &&
    (seatMate c held s).pow.seat2At.any (fun t => s.past t (100 * ms))) = true
  rw [seatMate_seat1At, seatMate_seat2At]
  split
  next hfirst => rwa [if_pos hfirst, Option.any_some, hthis, Bool.true_and] at *
  next hsecond => rwa [if_neg hsecond, Option.any_some, hthis, Bool.and_true] at *

theorem exec_seatedMated_of_both (hc : c < 2) (hmated : s.fld.mated = false) (hfree : (s.pow.heldReset && s.pow.flushing) = false)
    (hwas : bitOf (s.rdN K.pwrSeated) c = true) (hheld : 100 ≤ held) (hsince : held * ms ≤ s.now)
    (hother : (if c = 0 then s.pow.seat2At else s.pow.seat1At).any (fun t => s.past t (100 * ms)) = true) :
    let w := seatMate c held s
    let y := inc K.wearMatings U32.max { w with fld := { w.fld with mated := true } }
    exec (.seatedMated c held) s = .next (seatFollow (if y.pow.heldReset then
      updGate (fun g => { g with bootAt := y.now, wdtS := y.now }) (updPow (fun p => { p with heldReset := false, bootZero := y.now }) y) else y)) := by
  intro w y
  have hopen : (seatMate c held s).fld.mated = false := hmated
  refine (exec_seatedMated_of_was hc hwas).trans (congrArg Host.Outcome.next ?_)
  rw [seatMate_both hheld hsince hother, hopen, Bool.not_false, Bool.and_true, only_true]
  simp only [seatMate_heldReset, seatMate_flushing, hfree, Bool.false_eq_true, if_false]
  rfl

end

/-! ### Clock domains (R461) -/

section
variable {d n cyc : Nat} {s : State}

/-- R461: the first loss of lock of a domain within a second stops it. -/
theorem exec_pllLockLoss_of_first (hother : ¬(4 ≤ d ∧ d ≤ 10)) (hdomain : pllDomain d = true) (hruns : s.ghRuns = true)
    (hstate : s.rdN (K.clkState (d - 1)) ≠ 4) (hfirst : Tab.get s.pow.lockLost d [] = []) :
    exec (.pllLockLoss d n cyc) s = .next (updPow (fun p => { p with
      lockLost := Tab.put p.lockLost d [s.now] [], stopped := d :: p.stopped.filter (· ≠ d) }) s) := by
  change execPllLockLoss d n cyc s = _
  rw [execPllLockLoss, if_neg hother]
  simp [hdomain, hruns, hstate, hfirst]
  rfl

end

/-- Settles O39: VLOGIC by whether it lies within its ratings, the contacts by what they had been, a lock loss by its domain. -/
theorem supplies : Obligations.Supplies := by
  refine fun mv held c d n cyc diff slot carrier vbat lost s => ⟨fun h => exec_vlogic_of_unrated h carrier slot lost vbat, ?good, ?lost,
    exec_vlogicStateChange_of_low, ?precharge, ?openIcehouse, ?openPower, ?mated, exec_seatedMated_of_both,
    fun hlow hhigh => if_pos ⟨hlow, hhigh⟩, exec_pllLockLoss_of_first, ?relock⟩
  case good =>
    intro hmode hprecharged hlow hhigh hheld hvbat hslot ns u w z
    have hexec := exec_vlogicGood (carrier := carrier) hmode hprecharged hlow hhigh hheld hvbat hslot
    refine ⟨fun ⟨hcarrier, hsame⟩ => ?_, fun hnew => ?_⟩
    · have hknown : (padTo 64 carrier ≠ s.pow.carrier || slot ≠ s.pow.slot) = false := by simp [hcarrier, hsame]
      exact hexec.trans (congrArg Host.Outcome.next (congrArg (only · rebase (powerUp mv carrier slot s)) hknown))
    · have hknown : (padTo 64 carrier ≠ s.pow.carrier || slot ≠ s.pow.slot) = true := by simpa using hnew
      exact hexec.trans (congrArg Host.Outcome.next (congrArg (only · rebase (powerUp mv carrier slot s)) hknown))
  case lost => exact fun hrated => guarded_only (exec_of_rated hrated rfl) (by simp)
  case precharge => exact guarded_only rfl (by simp)
  case openIcehouse => exact fun hc hheld hmated hmode => (exec_seatedOpen hc hheld hmated).trans (by rw [if_pos hmode])
  case openPower => exact fun hc hheld hmated hmode => (exec_seatedOpen hc hheld hmated).trans (by rw [if_neg hmode])
  case mated =>
    intro hc hmated hwas
    have hdone : (seatMate c held s).fld.mated = true := hmated
    refine (exec_seatedMated_of_was hc hwas).trans (congrArg Host.Outcome.next ?_)
    rw [hdone, Bool.not_true, Bool.and_false]
    exact only_false ..
  case relock => exact guarded_only rfl (by simp)

end Sys2Proof.Machine
end

section
/-! PROOFS of the family of spec/16_power_clocks_and_start_up.md, second part: droop, the wake sources and the battery (R464, R469, R470). -/

namespace Sys2Proof.Machine

section
variable {rail sag held chunk : Nat} {copying : Bool} {mv : Int} {s : State}

/-! ### The stretch of the clock (R464) -/

/-- R464: what a sag of a core rail calls for, while the clock is not stretched. -/
theorem exec_stretchStart_of_runs (hruns : s.ghRuns = true) (hmode : s.mode ≠ Mode.dormant) (hrail : rail < 6) (hfree : s.pow.stretch = false) :
    exec (.stretchStart rail sag copying chunk) s = .next (
      if 70 ≤ sag then
        let u := inc K.droopCritical U32.max (stretchOn 3 rail sag chunk s)
        raise Ev.stretchBudget (le 1 3 ++ le 1 rail ++ le 2 sag ++ le 8 (u.scanNo 0)) u
      else if 45 ≤ sag ∧ s.pow.usedNs < 5000 then
        if copying then inc K.droopDeferred U32.max s
        else raise Ev.droopStretch (le 1 rail ++ le 2 sag ++ le 8 s.pow.usedNs) (stretchOn 2 rail sag chunk s)
      else s) :=
  (exec_of_only rfl (by simp [hruns, hmode, hrail, hfree])).trans rfl

/-- R464: a stretch whose sag has stood below 3.5 % for 100 ns ends, and counts its time. -/
theorem exec_stretchEnd_of_low (hstretch : s.pow.stretch = true) (hsag : sag < 35) (hheld : 100 ≤ held) :
    let u := stretchCount s
    exec (.stretchEnd rail sag held) s = .next (updPow (fun p => { p with stretch := false })
      (droopLast u.pow.stretchRail (max sag u.pow.stretchSag) u.pow.stretchKind (s.now - s.pow.stretchFrom) u)) := by
  refine (exec_of_only rfl hstretch).trans ?_
  simp only [decide_eq_true hsag, decide_eq_true hheld, Bool.and_self, Bool.true_or, Bool.not_true, only_true, only_false]

/-! ### The battery (R470) -/

/-- R470: between 1.8 V and 2.6 V VBAT is LOW, which is raised where it is new. -/
theorem exec_vbatMeasure_of_low (hlow : 1800 ≤ mv) (hhigh : mv < 2600) (hmode : s.mode ≠ Mode.icehouse) (hnew : s.rdN K.vbatState ≠ 2) :
    exec (.vbatMeasure mv) s = .next (raiseSev Ev.vbatState (le 1 2 ++ le 2 mv.toNat) 4
      (wrN K.vbatState 2 (wrN K.vbatLast (s.tb96 3) (wrN K.vbatMv mv.toNat s)))) := by
  have hrated : ¬(mv < -300 ∨ 4500 < mv) := by omega
  have hnot0 : ¬2800 ≤ mv := by omega
  have hnot1 : ¬2600 ≤ mv := by omega
  change execVbatMeasure mv s = _
  rw [execVbatMeasure, if_neg hrated, decide_eq_true hmode, only_true]
  simp only [if_neg hnot0, if_neg hnot1, if_pos hlow, decide_eq_true hnew.symm, only_true]
  rfl

end

/-- Settles O40: a sag by its depth and what the clock does, each wake source as an effect under its condition. -/
theorem droopAndWake : Obligations.DroopAndWake := by
  refine fun rail sag held chunk port c i mv copying level f s => ⟨?throttleOn, ?throttleOff, ?stretch, exec_stretchEnd_of_low, ?budget, ?rtc,
    ?network, ?can, guarded_only rfl Iff.rfl, fun hunrated => if_pos hunrated, exec_vbatMeasure_of_low⟩
  case throttleOn => exact guarded_only rfl (by simp [and_assoc])
  case throttleOff => exact guarded_congr (guarded_only rfl (by simp [and_assoc])) fun _ => by simp only [only_decide]
  case stretch =>
    intro hruns hmode hrail hfree
    have hexec {copying : Bool} := exec_stretchStart_of_runs (sag := sag) (copying := copying) (chunk := chunk) hruns hmode hrail hfree
    refine ⟨fun hsag => ?_, fun hlow hhigh hbudget => ?_, fun hlow hhigh hbudget => ?_, fun hsag => ?_⟩
    · rw [hexec, if_neg (by omega), if_neg (by omega)]
    · rw [hexec, if_neg (by omega), if_pos ⟨hlow, hbudget⟩, if_pos rfl]
    · rw [hexec, if_neg (by omega), if_pos ⟨hlow, hbudget⟩, if_neg Bool.false_ne_true]
    · rw [hexec, if_pos hsag]
  case budget => exact guarded_only rfl (by simp)
  case rtc => exact guarded_only rfl (by simp [and_assoc])
  case network => exact guarded_only rfl (by simp [and_assoc])
  case can => exact guarded_only rfl (by simp [and_assoc])

end Sys2Proof.Machine
end

section
/-! PROOFS of the family of spec/16_power_clocks_and_start_up.md, third part: the milestones of start-up and the power-fail flush (R398,
R399, R453, R471, R473). -/

namespace Sys2Proof.Machine

theorem only_and_decide {b : Bool} {P : Prop} [Decidable P] (f : State → State) (s : State) :
    only (b && decide P) f s = if b = true ∧ P then f s else s := by
  simp [only]

/-- R472: a milestone writes its time, and leaves the supplies as they are. -/
theorem milestone_pow (k : Nat) (s : State) : (milestone k s).pow = s.pow := by
  unfold milestone
  split
  · rfl
  · simp only [apply_ite State.pow, raise_pow, wrN_pow, ite_self]

section
variable {s : State}

/-! ### The milestones (R471, R473) -/

/-- R471: the Gatehouse reset is released, and its ROM runs. -/
theorem exec_gatehouseResetRelease_of_rails (hmode : s.mode = Mode.boot) (hrails : s.pow.rails = true) (hfirst : s.pow.released = false)
    (hfree : s.pow.heldReset = false) :
    let u := updGate (fun g => { g with wdtS := s.now }) (updPow (fun p => { p with released := true }) s)
    let w := if u.stored K.wdtLockAtBoot = 1 then wdtLock u else u
    let x := latchSettle (pendingSettle (bootSelect w))
    exec .gatehouseResetRelease s = .next (milestone 2 (keystoreCheck
      (if x.on K.icePowerLost = true ∧ x.rdN K.modeLastReset = 1 then raiseSource Src.battery 0 x else x))) := by
  intro u w x
  refine (exec_of_only rfl (by simp [hmode, hrails, hfirst, hfree])).trans ?_
  have hu : updGate (fun g => { g with wdtS := (updPow (fun p => { p with released := true }) s).now })
    (updPow (fun p => { p with released := true }) s) = u := rfl
  clear_value u
  dsimp only
  rw [hu, only_decide]
  change _ = Host.Outcome.next (milestone 2 (keystoreCheck
    (if x.on K.icePowerLost = true ∧ x.rdN K.modeLastReset = 1 then raiseSource Src.battery 0 x else x)))
  rw [← only_and_decide]

/-- R471, R488: the start-up tests of the TRNG end. -/
theorem exec_trngSeeded_of_first {ok : Bool} (hfirst : s.pow.seeded = false) (hstarting : s.starting = true) (hreleased : s.pow.released = true) :
    exec (.trngSeeded ok) s = .next (if ok then
        let u := updPow (fun p => { p with seeded := true }) s
        milestone 4 (newNonce K.lcNonce (newNonce K.dbgNonce (newNonce K.recClearNonce
          (updSec (fun x => { x with reseedAt := u.now, drbgReqs := 0 }) (wrN K.rngState Rng.ready u)))))
      else
        let u := updPow (fun p => { p with trngTries := p.trngTries + 1 }) s
        if 3 ≤ u.pow.trngTries then startupFail 3 0 u else u) := by
  change execTrngSeeded ok s = _
  rw [execTrngSeeded, hfirst, hstarting, hreleased]
  simp only [only_decide]
  rfl

section
variable {part code : Nat} (hstarting : s.starting = true) (hreleased : s.pow.released = true) (hfirst : s.pow.verified = false)
include hstarting hreleased hfirst

/-- R471, R489: the image signatures, by their code. -/
theorem exec_imagesVerified_of_first (hcode : code ≤ 4) :
    exec (.imagesVerified part code) s = .next (
      let u := wrN K.bootsecLastVerify code s
      if code = 0 then
        let u := milestone 6 (updPow (fun p => { p with verified := true }) u)
        only u.pow.pfail (fun s => storTo Sto.held_ (updSto (fun x => { x with stuckAt := some s.now }) s)) u
      else startupFail 7 part (raise Ev.bootVerify (le 1 part ++ le 1 code) u)) :=
  (exec_of_only rfl (by simp [hstarting, hreleased, hfirst, hcode])).trans rfl

theorem exec_imagesVerified_of_valid (hpfail : s.pow.pfail = false) : exec (.imagesVerified part 0) s =
    .next (milestone 6 (updPow (fun p => { p with verified := true }) (wrN K.bootsecLastVerify 0 s))) := by
  refine (exec_imagesVerified_of_first hstarting hreleased hfirst (Nat.zero_le 4)).trans (congrArg Host.Outcome.next ?_)
  dsimp only
  rw [if_pos rfl, milestone_pow]
  exact congrArg (only · _ _) hpfail

theorem exec_imagesVerified_of_invalid (hlow : 1 ≤ code) (hhigh : code ≤ 4) : exec (.imagesVerified part code) s =
    .next (startupFail 7 part (raise Ev.bootVerify (le 1 part ++ le 1 code) (wrN K.bootsecLastVerify code s))) := by
  refine (exec_imagesVerified_of_first hstarting hreleased hfirst hhigh).trans (congrArg Host.Outcome.next ?_)
  exact if_neg (by omega)

end

theorem exec_imagesVerified_of_unknown {part code : Nat} (hcode : 4 < code) : exec (.imagesVerified part code) s = .next s := by
  change execImagesVerified part code s = _
  simp [execImagesVerified, not_le.mpr hcode]

/-- R144, R471: every lane not RETIRED passes its BIST; the module goes on where a Trestle not split is formed. -/
theorem exec_bootLaneBistComplete_of_pass (hstarting : s.starting = true) (hreleased : s.pow.released = true) (hfirst : s.pow.formed = false) :
    let tested := (List.range 15).filter (fun n => s.role n ≠ Rl.retired)
    let u := each tested (fun n s => let s := inc (K.laneBistCount n) U32.max s
      updPl n (fun x => { x with lastBistTb4 := s.now }) (wrN (K.laneLastBist n) (s.tb96 3) s)) s
    let w := each (List.range 4) (fun t s => wrN (K.trestleConfig t) (s.stored (K.trestleConfig t)) s) u
    let x := milestone 7 (formTrestles (updPow (fun p => { p with formed := true }) w))
    x.upd.trial = false → ((List.range 4).any (fun t => !x.isSplit t && x.trState t ≠ Tr.failed)) = true →
      exec (.bootLaneBistComplete []) s = .next x := by
  intro tested u w x htrial hformed
  refine (exec_of_only rfl (by simp [hstarting, hreleased, hfirst])).trans (congrArg Host.Outcome.next ?_)
  have hhave : ((List.range 4).filter (fun t => !x.isSplit t)).filter (fun t => x.trState t ≠ Tr.failed) ≠ [] := by
    obtain ⟨t, ht, hgood⟩ := List.any_eq_true.mp hformed
    rw [List.filter_filter]
    exact List.ne_nil_of_mem (List.mem_filter.mpr ⟨ht, by rwa [Bool.and_comm]⟩)
  change only (_ && decide (((List.range 4).filter (fun t => !x.isSplit t)).filter (fun t => x.trState t ≠ Tr.failed) = []) ||
    x.upd.trial && _) _ x = x
  rw [htrial, decide_eq_false hhave, Bool.and_false, Bool.false_and, Bool.or_false, only_false]

/-- R253, R471: outside a trial, an island that passes its tests is the last milestone. -/
theorem exec_islandStartupComplete_of_pass {test dur : Nat} (hruns : s.ghRuns = true) (hstate : s.rdN K.safetyState = Isl.startup) :
    exec (.islandStartupComplete true test dur) s = .next (milestone 8 (islandStarted true test dur s)) := by
  refine (exec_of_only rfl (by simp [hruns, hstate])).trans ?_
  simp only [Bool.not_true, Bool.and_false, only_false]

/-! ### The power-fail flush (R398, R399, R453) -/

/-- R398: the journal and its commit record are programmed. -/
theorem exec_pfailFlushComplete_of_flushing {bytes : Nat} (hflushing : s.pow.flushing = true) (hfirst : s.sto.flushed = false) :
    let t := min U32.max ((s.now - s.sto.pfailAt) / us)
    let u := wrN K.storJournalUsed 0 (wrN K.storPfailState 2 (commitAll (updSto (fun x => { x with flushed := true, undo := [] }) s)))
    let w := raise Ev.pfailFlush (le 4 bytes ++ le 4 t) (wrN K.storPfailLast t (inc K.storPfailFlushes U32.max u))
    exec (.pfailFlushComplete bytes) s = .next (if w.pow.heldReset then moduleReset 6 w else flushOver w) :=
  (exec_of_only rfl (by simp [hflushing, hfirst])).trans rfl

/-- R453: VLOGIC has fallen below 8.7 V while PFAIL# is not asserted. -/
theorem exec_internalPfailWarning_of_low {mv : Int} {held : Nat} (hrated : vlogicRated mv = true) (hruns : s.ghRuns = true) (hlow : mv < 8700)
    (hheld : 10 ≤ held) (hfirst : s.rdN K.pwrPfail = 0) : exec (.internalPfailWarning mv held) s =
      .next (flushStart (inc K.pwrInternalPfail U32.max (powerWarning 2 true (readVlogic mv s)))) := by
  refine (exec_of_only (exec_of_rated hrated rfl) hruns).trans ?_
  have hnone : (readVlogic mv s).rdN K.pwrPfail = 0 := (rdN_wrN_ne _ _ _ _ (by decide)).trans hfirst
  simp only [if_pos hlow, hnone, decide_eq_true hheld, decide_true, Bool.and_self, only_true]

end

/-- Settles O41: each step of start-up by its verdict, and the flush by what waits for it. -/
theorem startUp : Obligations.StartUp := by
  refine fun part code test dur held bytes mv s => ⟨?rails, exec_gatehouseResetRelease_of_rails, ?wiped, ?notWiped, ?seeded, ?trained,
    ?notTrained, ?filled, ?verified, fun hstarting hreleased hfirst _ => exec_bootLaneBistComplete_of_pass hstarting hreleased hfirst,
    fun hruns hstate _ => exec_islandStartupComplete_of_pass hruns hstate, ?assert, exec_pfailFlushComplete_of_flushing, ?release,
    exec_internalPfailWarning_of_low⟩
  case rails => exact guarded_only rfl (by simp [and_assoc])
  case wiped => exact guarded_only rfl (by simp [and_assoc])
  case notWiped => exact guarded_only rfl (by simp [and_assoc])
  case seeded =>
    exact fun hfirst hstarting hreleased => ⟨exec_trngSeeded_of_first hfirst hstarting hreleased,
      exec_trngSeeded_of_first hfirst hstarting hreleased⟩
  case trained => exact guarded_only rfl (by simp [and_assoc])
  case notTrained => exact guarded_congr (guarded_only rfl (by simp [and_assoc])) fun _ => by simp only [only_decide]; rfl
  case filled => exact guarded_only rfl (by simp [and_assoc])
  case verified =>
    exact fun hstarting hreleased hfirst => ⟨exec_imagesVerified_of_valid hstarting hreleased hfirst,
      exec_imagesVerified_of_invalid hstarting hreleased hfirst, exec_imagesVerified_of_unknown⟩
  case assert => exact guarded_only rfl (by simp)
  case release =>
    refine guarded_congr (guarded_only rfl Iff.rfl) fun _ => ?_
    simp only [only_decide]

end Sys2Proof.Machine
end

section
/-! PROOFS of the family of spec/17_life_cycle_keys_and_alarm.md: claim, tokens, keys and debug sessions (R475, R477, R478, R480, R490), the
monitors and the entropy source (R483 to R488). -/

namespace Sys2Proof.Machine

/-! ### Claim and tokens (R475, R477, R478) -/

/-- R477: a voucher on a path with a session is a write to a command entry, and begins the claim where it passes every check. -/
theorem commanded_claimVoucher {src : Path} {s : State} (v : Bytes) (sig : Bool) (hpath : src ≠ .optical ∨ s.opt.isOpen = true) :
    Commanded (.claimVoucher src v sig) src K.lcVoucher v s (fun s =>
      let c := s.voucherCode v sig
      let u := wrN K.lcClaimResult c s
      if c = 1 then
        (Err.ok, resetIn 0 4 (updSec (fun x => { x with pendingLc := some Lc.owned })
          (createKeys (slice v 16 97) (slice v 116 97) (cryptoErase u))))
      else (Err.value, authFailure (raise Ev.claimRefused (le 1 c) u))) := by
  have hsession : ¬(src = .optical ∧ (!s.opt.isOpen) = true) := by
    rcases hpath with h | h <;> simp [h]
  exact commanded_command (congrArg Host.Outcome.next (if_neg hsession)) (ite_not ..)

/-- R475, R478: what a life-cycle token with TARGET `target` answers and does. -/
def tokenTaken (target : Nat) (src : Path) (v : Bytes) (sig : Bool) (s : State) : Nat × State :=
  match lcTarget s.lc target with
  | none => lcRefuse Err.state s
  | some new =>
    if s.lc = Lc.owned ∧ (s.caller src).any (fun c => c.role = .owner) = false then lcRefuse Err.roleDenied s
    else if s.sec.pendingLc.isSome then lcRefuse Err.state s
    else if fieldAt v 0 4 ≠ s.rdN K.commIdSerial ∨ slice v 4 16 ≠ s.blobOf K.lcNonce ∨ sig = false then lcRefuse Err.value s
    else
      let s := updSec (fun x => { x with pendingLc := some new }) (newNonce K.lcNonce s)
      (Err.ok, resetIn 0 4 (if s.lc = Lc.owned then dropKeys s else s))

theorem commanded_lcToken {i : Instr} {target : Nat} {src : Path} {v : Bytes} {sig : Bool} {s : State}
    (hexec : exec i s = .next (lcToken target src v sig s)) (htarget : byteAt v 20 = target) :
    Commanded i src K.lcToken v s (tokenTaken target src v sig) := by
  refine commanded_only hexec (decide_eq_true htarget) ?_
  cases hnew : lcTarget s.lc target <;> simp only [tokenTaken, hnew, Bool.not_eq_true']

theorem exec_lcToken_of_other {i : Instr} {target : Nat} {src : Path} {v : Bytes} {sig : Bool} {s : State}
    (hexec : exec i s = .next (lcToken target src v sig s)) (htarget : byteAt v 20 ≠ target) : exec i s = .next s := by
  rw [hexec, lcToken, decide_eq_false htarget, only_false]

/-- R475: each command of a token has its TARGET. -/
theorem exec_lcToken_eq (src : Path) (v : Bytes) (sig : Bool) (s : State) :
    ∀ e ∈ [(1, Instr.lcTokenRelease src v sig), (2, .lcTokenReturn src v sig), (3, .lcTokenScrap src v sig), (4, .lcTokenRefurbish src v sig),
      (5, .lcTokenFinalise src v sig)], exec e.2 s = .next (lcToken e.1 src v sig s) := by
  simp only [List.forall_mem_cons, List.not_mem_nil, false_imp_iff, implies_true, and_true]
  exact ⟨rfl, rfl, rfl, rfl, rfl⟩

/-! ### Keys and debug sessions (R480, R490) -/

/-- R490: a debug token is refused with its reason, or opens the session with its scope. -/
theorem commanded_debugToken (src : Path) (v : Bytes) (sig : Bool) (s : State) :
    Commanded (.debugToken src v sig false) src K.dbgToken v s (fun s =>
      let r := s.debugReason v sig
      let u := newNonce K.dbgNonce s
      if r = 0 then
        (Err.ok, raise Ev.debugSession (le 1 1 ++ le 2 (fieldAt v 28 2)) (wrN K.dbgScope (fieldAt v 28 2) (wrN K.dbgState 1
          (updSec (fun x => { x with dbgExpiry := fieldAt v 20 8, dbgBy := sessionNo src }) u))))
      else (if r ≤ 5 then Err.value else Err.state, authFailure (raise Ev.debugRefused1222 (le 1 r) u))) :=
  commanded_command rfl (ite_not ..)

/-! ### The monitors (R483 to R487) -/

section
variable {s : State}

/-- R483: a temperature within 16 bits is noted as it is. -/
theorem signed_unsigned_of_range {t : Int} (hlow : -32768 ≤ t) (hhigh : t < 32768) : signed 2 (unsigned 2 t) = t := by
  unfold signed unsigned
  split <;> omega

/-- R483: a reading of the monitors notes the sources it indicates, the light and the temperature. -/
theorem does_icehouseMonitorSample (mesh : Bool) (lid : Nat) (temp : Int) (volt clock : Bool) :
    Does (.icehouseMonitorSample mesh lid temp volt clock) s (fun t => t.sec.indicated = s.indicates mesh lid temp volt clock ∧
      t.rdN K.envLidLight = min lid 65535 ∧ (-32768 ≤ temp → temp < 32768 → t.rd K.iceTemp = temp)) := by
  let u := wr K.iceTemp (signed 2 (unsigned 2 temp)) (wrN K.envLidLight (min lid 65535) s)
  let w := wrN K.alarmPresent ((List.range 5).foldl (fun a i =>
    if bitOf (s.indicates mesh lid temp volt clock) i then a else setBit a i false) (u.rdN K.alarmPresent)) u
  have hmesh (k : Nat) (hk : k ≠ K.iceMesh) : (if mesh then w else wrN K.iceMesh 0 w).rd k = w.rd k := by
    split
    · rfl
    · exact rd_wrN_ne _ _ _ _ hk
  refine ⟨updSec (fun x => { x with indicated := s.indicates mesh lid temp volt clock }) (if mesh then w else wrN K.iceMesh 0 w), rfl, rfl,
    ?_, fun hlow hhigh => ?_⟩
  · rw [updSec_rdN, State.rdN, hmesh _ (by decide), rd_wrN_ne _ _ _ _ (by decide), rd_wr_ne _ _ _ _ (by decide), rd_wrN_same]
    rfl
  · rw [updSec_rd, hmesh _ (by decide), rd_wrN_ne _ _ _ _ (by decide), rd_wr_same, signed_unsigned_of_range hlow hhigh]

/-- R485: 1 s after the destruction of the sealed copy the module resets. -/
theorem exec_eraseResetExpiry_of_past {t0 : Nat} (hdestroyed : s.sec.destroyedAt = some t0) (hmode : s.mode ≠ Mode.icehouse)
    (hpast : s.past t0 sec = true) : exec .eraseResetExpiry s =
      .next (moduleReset 7 (updSec (fun x => { x with eraseBy := none, destroyedAt := none }) s)) := by
  have hdue : (s.mode ≠ Mode.icehouse && s.sec.destroyedAt.any (fun t => s.past t sec)) = true := by
    rw [hdestroyed, Option.any_some, hpast, decide_eq_true hmode, Bool.and_self]
  exact (exec_of_only rfl hdue).trans rfl

theorem exec_eraseResetExpiry_of_none (hnone : s.sec.destroyedAt = none) : exec .eraseResetExpiry s = .next s := by
  change execEraseResetExpiry s = _
  simp [execEraseResetExpiry, hnone]

/-! ### The entropy source (R488) -/

/-- R488: a failed continuous test is counted, and degrades the generator; the third within an hour is a fault. -/
theorem does_trngHealthFail {test : Nat} (hruns : s.ghRuns = true) (htest : test = 1 ∨ test = 2) : Does (.trngHealthFail test) s (fun t =>
    let l := s.now :: s.sec.trngFails.filter (fun t => s.now < t + 3600 * sec)
    let old := s.rdN K.rngState
    t.sec.trngFails = l ∧ t.rdN K.rngLastFail = test ∧ t.rdN K.rngHealthFails = satInc U32.max (s.rdN K.rngHealthFails) ∧
    t.rdN K.rngState = (if old = Rng.notReady then old else if 3 ≤ l.length ∨ old = Rng.fault then Rng.fault else Rng.degraded)) := by
  refine ⟨_, exec_of_only rfl (by simpa [hruns] using htest), rfl, ?_, ?_, ?_⟩
  · simp [rdN_wrN_ne, K.rngLastFail, K.rngState]
  · simp [rdN_wrN_ne, K.rngLastFail, K.rngState, K.rngHealthFails]
  · simp [rdN_wrN_ne, rdN_inc_ne, K.rngLastFail, K.rngState, K.rngHealthFails]

/-- R488: a due reseed is counted, and starts the count of requests anew. -/
theorem does_drbgReseed (hruns : s.ghRuns = true) (hready : s.rdN K.rngState = Rng.ready) (hdue : s.reseedDue = true) :
    Does .drbgReseed s (fun t => t.rdN K.rngReseeds = s.rdN K.rngReseeds + 1 ∧ t.sec.drbgReqs = 0 ∧ t.sec.reseedAt = s.now) := by
  have hexec : exec .drbgReseed s = .next (reseed s) := (exec_of_only rfl (by simp [hruns, hready, hdue])).trans rfl
  exact ⟨_, hexec, rdN_wrN_same .., rfl, rfl⟩

end

/-- Settles O27: a write by the checks it passes, a reading of the monitors by what it indicates, a failed test by those before it. -/
theorem keysMonitorsAndEntropy : Obligations.KeysMonitorsAndEntropy := by
  refine ⟨fun src v sig n s => ⟨commanded_claimVoucher v sig, ?token, ?otherToken, commanded_command rfl (ite_not ..),
      commanded_debugToken src v sig s, commanded1_command1 rfl rfl, ?expiry⟩,
    fun mesh volt clock lid mv test n temp src s => ⟨⟨does_icehouseMonitorSample mesh lid temp volt clock, rfl⟩, ?destroyed,
      fun t0 => exec_eraseResetExpiry_of_past, exec_eraseResetExpiry_of_none, commanded1_command1 rfl rfl, does_trngHealthFail, does_drbgReseed⟩⟩
  case token => exact fun e he htarget => commanded_lcToken (exec_lcToken_eq src v sig s e he) htarget
  case otherToken => exact fun e he htarget => exec_lcToken_of_other (exec_lcToken_eq src v sig s e he) htarget
  case expiry => exact guarded_only rfl (by simp)
  case destroyed =>
    refine guarded_congr (guarded_only rfl (by simp [and_assoc])) fun _ => ?_
    have hnow : (if s.lc = Lc.owned then lcTo Lc.unclaimed (dropKeys s) else destroySealed s).now = s.now :=
      (Kept.ite (lcTo_kept (dropKeys_kept (.refl s))) (destroySealed_kept (.refl s))).now
    simp only [hnow]

end Sys2Proof.Machine
end

section
/-! PROOFS of the family of spec/18_field_update.md: the manifest, the parts, activation and the trial (R495 to R504). -/

namespace Sys2Proof.Machine

section
variable {s : State}

/-! ### Staging (R495, R496) -/

/-- R495: UPD.START resumes a set with a failed part, or checks the manifest and stages what it lists. -/
theorem commanded_updStart (src : Path) (safety vendor owner : Bool) :
    Commanded (.updStart src safety vendor owner) src K.updStart (le 1 1) s (fun s =>
      if s.owned = false then (Err.state, s)
      else if s.rdN K.updState = 3 ∧ s.upd.manifest ≠ [] then
        (Err.ok, stagedCheck (each (s.partsIn [6]) (fun k => wrN (K.updPartState k) 2) (openIntent 3 0 (wrN K.updState 1 s))))
      else
        let m := s.blobOf K.updManifest
        let r := s.checkManifest m safety vendor owner
        let u := raiseSev Ev.updateManifest (le 1 r ++ le 8 (mfId m)) (if r = 1 then 3 else 4) (wrN K.updResult r s)
        if r = 1 then
          let u := wrN K.updStagedId (mfId m) (wrN K.updState 1 (updUpd (fun u => { u with manifest := m, image := [], slot := [] }) u))
          (Err.ok, stagedCheck (stagingProgress (openIntent 3 0 (each (List.range 9) (fun k s =>
            wrN (K.updPartState k) (match mfPart m (k + 1) with
              | none => 0
              | some r => if s.recSame r then 1 else 2) s) u))))
        else (if r = 10 then Err.state else Err.value, u)) := by
  refine commanded_command rfl ?_
  refine if_congr (by simp) rfl (if_congr Iff.rfl rfl ?_)
  exact ite_not ..

/-- R496: a part that does not read back as it was hashed fails, and with it the set. -/
theorem does_updPartVerified_of_failed {k : Nat} (hk : k < 9) (hstaging : s.rdN K.updState = 1) (hpart : s.rdN (K.updPartState k) = 4) :
    Does (.updPartVerified k false) s (fun t => t.rdN K.updState = 3 ∧ t.rdN (K.updPartState k) = 6 ∧
      Raises Ev.updateStaged (le 1 (k + 1) ++ le 1 6) s t) := by
  have hother : K.updPartState k ≠ K.updState := by unfold K.updPartState K.updState; omega
  have hexec : exec (.updPartVerified k false) s =
      .next (raiseSev Ev.updateStaged (le 1 (k + 1) ++ le 1 6) 4 (wrN K.updState 3 (wrN (K.updPartState k) 6 s))) :=
    (exec_of_only rfl (by simp [hk, hstaging, hpart])).trans rfl
  refine ⟨_, hexec, ?_, ?_, pend_raiseWith ..⟩
  · rw [raiseSev_rdN, rdN_wrN_same]
  · rw [raiseSev_rdN, rdN_wrN_ne _ _ _ _ hother, rdN_wrN_same]

/-! ### The trial (R501, R502) -/

section
variable {part : Nat} (htrial : s.upd.trial = true) (hruns : s.ghRuns = true)
include htrial hruns

/-- R501: the end of the checks fails the trial, or commits the set where every check has passed in time. -/
theorem exec_trialCommit_of_trial {ok : Bool} : exec (.trialCommit ok part) s =
    .next (if !ok then trialFail (part % 256) s else only (s.trialPassed && s.now ≤ s.trialEnd) commitSet s) :=
  (exec_of_only rfl (by simp [htrial, hruns])).trans rfl

theorem exec_trialCommit_of_passed (hpassed : s.trialPassed = true) (htime : s.now ≤ s.trialEnd) :
    exec (.trialCommit true part) s = .next (commitSet s) := by
  rw [exec_trialCommit_of_trial htrial hruns, hpassed, decide_eq_true htime]
  rfl

theorem exec_trialCommit_of_not (hnot : s.trialPassed = false ∨ s.trialEnd < s.now) : exec (.trialCommit true part) s = .next s := by
  have hbars : (s.trialPassed && decide (s.now ≤ s.trialEnd)) = false := by
    rcases hnot with h | h
    · rw [h, Bool.false_and]
    · rw [decide_eq_false (not_le.mpr h), Bool.and_false]
  rw [exec_trialCommit_of_trial htrial hruns, hbars]
  rfl

end

end

/-- Settles O30: the writes to the entries of UPD as command entries, each other event as an effect under its condition. -/
theorem fieldUpdate : Obligations.FieldUpdate := by
  refine fun src safety vendor owner ok k part v b s => ⟨commanded_updStart src safety vendor owner, ?cancel, ?push, ?download, ?verified,
    does_updPartVerified_of_failed, ?standby, ?stop, ?record, ?trial, ?limit, ?prepared⟩
  case cancel =>
    refine commanded_command rfl (if_congr (by simp) rfl ?_)
    rfl
  case push => exact fun hk => commanded_only rfl (decide_eq_true hk) (if_congr (by simp [and_assoc]) rfl rfl)
  case download => exact guarded_only rfl (by simp [and_assoc])
  case verified => exact guarded_only rfl (by simp [and_assoc])
  case standby => exact commanded_command rfl (if_congr (by simp [and_assoc]) rfl rfl)
  case stop => exact commanded_command rfl (if_congr (by simp [and_assoc]) rfl rfl)
  case record => exact guarded_only rfl (by simp)
  case trial =>
    exact fun htrial hruns => ⟨exec_trialCommit_of_trial htrial hruns, exec_trialCommit_of_passed htrial hruns,
      exec_trialCommit_of_not htrial hruns⟩
  case limit => exact guarded_only rfl (by simp [and_assoc])
  case prepared => exact commanded_command rfl (if_congr (by simp) rfl (if_congr (by simp) rfl rfl))

end Sys2Proof.Machine
end

section
/-! PROOFS of the family of spec/11_ethernet_and_time.md, first part: the time bases (R351 to R358). -/

namespace Sys2Proof.Machine

section
variable {s : State}

@[simp] theorem pps_updPps_same (k : Nat) (f : Pps → Pps) : (updPps k f s).pps k = f (s.pps k) := by
  simp [State.pps, updPps, updNet, Tab.upd]

/-! ### PTP (R354, R357) -/

section
variable {k port st : Nat} {offset delay : Int} {gm : Bytes}

/-- R357: a Sync that makes no slave is noted, and gives the PTP unit its state. -/
theorem exec_ptpSyncReceive_of_not_slave (hk : k < 4) (hruns : s.timeRuns = true) (hon : s.on (K.ptpEnable k) = true)
    (hport : bitOf (s.rdN (K.ptpPorts k)) port = true) (hlow : 1 ≤ st) (hhigh : st ≤ 7) (hst : st ≠ 3) :
    exec (.ptpSyncReceive k port offset delay gm st) s =
      .next (syncFollow (ptpTo k st (updPtp k (fun x => { x with lastSync := s.now })
        (wrBlob (K.ptpGmId k) (padTo 8 gm) (wrN (K.ptpRxPort k) port (wr (K.ptpMeanDelayNs k) delay (wr (K.ptpOffsetNs k) offset s))))))) := by
  refine (exec_of_only rfl (by simp [hk, hruns, hon, hport, hlow, hhigh])).trans (congrArg Host.Outcome.next ?_)
  exact if_pos hst

/-- R357: a PTP unit that is off, or does not use the port, takes no Sync. -/
theorem exec_ptpSyncReceive_of_off (hoff : s.on (K.ptpEnable k) = false ∨ bitOf (s.rdN (K.ptpPorts k)) port = false) :
    exec (.ptpSyncReceive k port offset delay gm st) s = .next s := by
  change execPtpSyncReceive k port offset delay gm st s = _
  rcases hoff with h | h <;> simp [execPtpSyncReceive, h]

end

/-! ### The oscillator (R351) -/

theorem each_setBase_dict (l : List Nat) (f : Nat → State → Int) (s : State) : (each l (fun n s => setBase n (f n s) s) s).dict = s.dict :=
  each_induct (fun t => t.dict = s.dict) _ l s (fun _ _ _ h => h) rfl

theorem each_setBase_router (l : List Nat) (f : Nat → State → Int) (s : State) :
    (each l (fun n s => setBase n (f n s) s) s).router = s.router :=
  each_induct (fun t => t.router = s.router) _ l s (fun _ _ _ h => h) rfl

/-- R351: the other oscillator takes over, which is counted and recorded. -/
theorem does_oscFailover (hruns : s.timeRuns = true) : Does .oscFailover s (fun t => t.rdN K.timeOsc = 1 - min 1 (s.rdN K.timeOsc) ∧
    t.rdN K.timeOscSwitches = satInc U32.max (s.rdN K.timeOscSwitches) ∧ Raises Ev.oscSwitched (le 1 (1 - min 1 (s.rdN K.timeOsc))) s t) := by
  let e : Int := (s.free 7 % 101 : Nat) - 50
  let moved := each ((List.range 8).filter s.runs) (fun n s' => setBase n ((s.tbVal n : Int) + e * 65536) s') (drawn s)
  have hdict : moved.dict = s.dict := each_setBase_dict _ (fun n _ => (s.tbVal n : Int) + e * 65536) _
  have hrouter : moved.router = s.router := each_setBase_router _ (fun n _ => (s.tbVal n : Int) + e * 65536) _
  have hrd (k : Nat) : moved.rdN k = s.rdN k := by simp only [State.rdN, State.rd, hdict]
  let u := inc K.timeOscSwitches U32.max (wrN K.timeOsc (1 - min 1 (moved.rdN K.timeOsc)) moved)
  have hosc : u.rdN K.timeOsc = 1 - min 1 (s.rdN K.timeOsc) := by
    rw [rdN_inc_ne _ _ _ _ (by decide), rdN_wrN_same, hrd]
  have hexec : exec .oscFailover s = .next (raise Ev.oscSwitched (le 1 (u.rdN K.timeOsc)) u) :=
    (exec_of_only rfl hruns).trans rfl
  refine ⟨_, hexec, ?_, ?_, ?_⟩
  · rw [raise_rdN, hosc]
  · rw [raise_rdN, rdN_inc_same, rdN_wrN_ne _ _ _ _ (by decide), hrd]
  · rw [hosc, Raises, ← hrouter]
    exact pend_raiseWith ..

/-! ### PPS (R358) -/

section
variable {k width : Nat}

theorem does_ppsInEdge (hk : k < 2) (hruns : s.timeRuns = true) (hwidth : 100 ≤ width) : Does (.ppsInEdge k width) s (fun t =>
    t.rdN (K.ppsinEdges k) = (s.rdN (K.ppsinEdges k) + 1) % 2 ^ 32 ∧ (t.pps k).seen = true ∧ (t.pps k).edgeAt = s.now) := by
  have hother : K.ppsinEdges k ≠ K.ppsinLast k := by unfold K.ppsinEdges K.ppsinLast; omega
  refine ⟨_, (exec_of_only rfl (by simp [hk, hruns, hwidth])).trans rfl, ?_, ?_, ?_⟩
  · rw [updPps, updNet_rdN, rdN_wrN_ne _ _ _ _ hother, rdN_wrN_same]
  · exact congrArg Pps.seen (pps_updPps_same ..)
  · exact congrArg Pps.edgeAt (pps_updPps_same ..)

theorem exec_ppsInEdge_of_short (hwidth : width < 100) : exec (.ppsInEdge k width) s = .next s := by
  change execPpsInEdge k width s = _
  simp [execPpsInEdge, not_le.mpr hwidth]

theorem does_ppsInLost (hk : k < 2) (hruns : s.timeRuns = true) (hseen : (s.pps k).seen = true)
    (hpast : s.past (s.pps k).edgeAt (1500 * ms) = true) : Does (.ppsInLost k) s (fun t =>
      (t.pps k).seen = false ∧ Raises (Ev.ppsInLost k) (le 1 k) s t) := by
  have hexec : exec (.ppsInLost k) s = .next (raise (Ev.ppsInLost k) (le 1 k) (updPps k (fun x => { x with seen := false }) s)) :=
    (exec_of_only rfl (by simp [hk, hruns, hseen, hpast])).trans rfl
  exact ⟨_, hexec, congrArg Pps.seen (pps_updPps_same k _), pend_raiseWith ..⟩

end

/-! ### The leap second (R355) -/

/-- R355: at the end of a UTC day an announced leap second is inserted. -/
theorem exec_leapSecond_of_insert (hruns : s.timeRuns = true) (hleap : s.rdN K.timeLeap = 1)
    (hday : ((s.tbNs 3 / 1000000000 : Nat) - s.rd K.timeUtcOffset : Int) % 86400 = 0) :
    exec .leapSecond s = .next (wrN K.timeLeap 0 (setEntry K.timeUtcOffset (s.rd K.timeUtcOffset + 1) s)) := by
  refine (exec_of_only rfl ?_).trans ?_
  · rw [hruns, hleap, hday]
    rfl
  · rw [hleap]
    rfl

theorem exec_leapSecond_of_none (hnone : s.rdN K.timeLeap = 0) : exec .leapSecond s = .next s := by
  change execLeapSecond s = _
  simp [execLeapSecond, hnone]

end

/-- Settles O31: the entries of a base as command entries, each event of the time unit as an effect under its condition. -/
theorem timeBases : Obligations.TimeBases := by
  refine fun src n k port width st sub v d offset delay gm b s => ⟨?step, ?set, ?source, ?declare, exec_ptpSyncReceive_of_not_slave,
    exec_ptpSyncReceive_of_off, ?holdover, does_oscFailover, ?rtc, does_ppsInEdge, exec_ppsInEdge_of_short, does_ppsInLost, ?ppsOut, ?partner,
    exec_leapSecond_of_insert, exec_leapSecond_of_none⟩
  case step => exact fun hn => commanded_only rfl (decide_eq_true hn) rfl
  case set => exact fun hn => commanded_only rfl (decide_eq_true hn) rfl
  case source => exact fun hn hsub => commanded_only rfl (by simpa [hn, or_assoc] using hsub) rfl
  case declare => exact fun hn => commanded_only rfl (decide_eq_true hn) rfl
  case holdover => exact guarded_only rfl (by simp [and_assoc])
  case rtc => exact guarded_only rfl (by simp)
  case ppsOut => exact guarded_only rfl (by simp [and_assoc])
  case partner => exact guarded_only rfl (by simp [and_assoc])

end Sys2Proof.Machine
end

section
/-! PROOFS of the family of spec/11_ethernet_and_time.md, second part: the switch, its rings and gates (R333 to R349). -/

namespace Sys2Proof.Machine

section
variable {s : State} {n : Nat}

/-! ### Links (R333) -/

/-- R333: a link comes up, or changes its speed. -/
theorem exec_portLinkChange_of_up {speed : Nat} (hn : n < 8) (hruns : s.swRuns = true) (hup : 1 ≤ speed) (hspeed : speed ≤ 6)
    (hnew : speed ≠ s.rdN (K.portSpeed n)) : exec (.portLinkChange n speed) s =
      .next (startNext n (raiseSev (Ev.portLink n) (le 1 n ++ le 1 speed) 2
        (if s.rdN (K.portPreempt n) ≠ 0 then wrN (K.portPreemptState n) 1 (wrN (K.portSpeed n) speed s) else wrN (K.portSpeed n) speed s))) := by
  have hother : K.portPreempt n ≠ K.portSpeed n := by unfold K.portPreempt K.portSpeed; omega
  have hne : speed ≠ 0 := by omega
  refine (exec_of_only rfl (by simp [hn, hruns, hspeed, hnew])).trans ?_
  simp only [if_pos hne, rdN_wrN_ne _ _ _ _ hother, decide_eq_true hne, Bool.true_and, only_decide]

theorem swPort_updPort_same (f : SwPort → SwPort) : (updPort n f s).swPort n = f (s.swPort n) := by
  simp [State.swPort, updPort, updNet, Tab.upd]

theorem cutSending_dict : (cutSending n s).dict = s.dict := by
  unfold cutSending
  extract_lets p
  cases p.sending with
  | none => rfl
  | some f =>
    dsimp only
    split <;> rfl

theorem expressFirst_dict : (expressFirst n s).dict = s.dict := by
  unfold expressFirst
  extract_lets q
  generalize List.any _ _ = first
  cases first with
  | false => rfl
  | true => exact cutSending_dict

/-- R333: nothing starts on a port whose link is down. -/
theorem startNext_rdN_of_down (k : Nat) (hn : n < 8) (hdown : s.rdN (K.portSpeed n) = 0) : (startNext n s).rdN k = s.rdN k := by
  have hdict : (expressFirst n (settleCredit n s)).dict = s.dict := expressFirst_dict
  have hport : (expressFirst n (settleCredit n s)).portUp n = false := by
    have hspeed : (expressFirst n (settleCredit n s)).rdN (K.portSpeed n) = 0 := by
      simpa only [State.rdN, State.rd, hdict] using hdown
    have h8 : n ≠ 8 := by omega
    have h9 : n ≠ 9 := by omega
    simp [State.portUp, State.mbps, h8, h9, hspeed]
  have hnext : startNext n s = expressFirst n (settleCredit n s) := if_pos (.inl (by rw [hport, Bool.not_false]))
  simp only [hnext, State.rdN, State.rd, hdict]

/-- R333: a link without frames goes down. -/
theorem does_portLinkChange_of_down (hn : n < 8) (hruns : s.swRuns = true) (hspeed : s.rdN (K.portSpeed n) ≠ 0)
    (hqueue : (s.swPort n).queue = []) (hsending : (s.swPort n).sending = none) :
    Does (.portLinkChange n 0) s (fun t => t.rdN (K.portSpeed n) = 0 ∧ t.rdN (K.portPreemptState n) = 0) := by
  have hdiscards : K.portSpeed n ≠ K.portTxDiscards n := by unfold K.portSpeed K.portTxDiscards; omega
  have hstate : K.portSpeed n ≠ K.portPreemptState n := by unfold K.portSpeed K.portPreemptState; omega
  let empty := updPort n (fun q => { q with queue := [], sending := none }) (wrN (K.portSpeed n) 0 s)
  let down := wrN (K.portPreemptState n) 0 (wrN (K.portTxDiscards n) (satAdd U32.max (empty.rdN (K.portTxDiscards n)) 0) empty)
  have hzero : down.rdN (K.portSpeed n) = 0 := by
    rw [rdN_wrN_ne _ _ _ _ hstate, rdN_wrN_ne _ _ _ _ hdiscards]
    exact rdN_wrN_same ..
  have hexec : exec (.portLinkChange n 0) s = .next (startNext n (raiseSev (Ev.portLink n) (le 1 n ++ le 1 0) 3 down)) := by
    refine (exec_of_only rfl (by simp [hn, hruns, Ne.symm hspeed])).trans ?_
    simp only [hqueue, hsending, ne_eq, not_true_eq_false, if_false, decide_false, Bool.false_and, only_false]
    rfl
  have hraised : (raiseSev (Ev.portLink n) (le 1 n ++ le 1 0) 3 down).rdN (K.portSpeed n) = 0 := hzero
  refine ⟨_, hexec, ?_, ?_⟩
  · rw [startNext_rdN_of_down _ hn hraised, hraised]
  · rw [startNext_rdN_of_down _ hn hraised, raiseSev_rdN, rdN_wrN_same]

/-! ### Reception (R334, R337) -/

section
variable {f : Bytes}

/-- R334: a frame whose FCS fails, or that is too short, is counted and dropped. -/
theorem does_frameReceive_of_bad (hn : n < 10) (hruns : s.swRuns = true) (hup : s.portUp n = true) (good : Bool)
    (hbad : good = false ∨ f.length < 60) : Does (.frameReceive n f good) s (fun t =>
      t.rdN (K.portRxErrors n) = satInc U32.max (s.rdN (K.portRxErrors n)) ∧ t.mem = s.mem ∧ t.net = s.net) := by
  have hexec : exec (.frameReceive n f good) s = .next (inc (K.portRxErrors n) U32.max s) := by
    refine (exec_of_only rfl (by simp [hn, hruns, hup])).trans ?_
    refine congrArg Host.Outcome.next (if_pos ?_)
    rcases hbad with h | h
    · simp [h]
    · exact .inr (.inl h)
  exact ⟨_, hexec, rdN_inc_same .., rfl, rfl⟩

/-- R334: a frame of no stream, on a port that forwards and belongs to no redundancy pair, is learnt from and forwarded. -/
theorem exec_frameReceive_of_plain (hn : n < 10) (hruns : s.swRuns = true) (hup : s.portUp n = true)
    (hshort : 60 ≤ f.length) (hlong : f.length ≤ 1514)
    (hstate : (wrN (K.portRxFrames n) (s.rdN (K.portRxFrames n) + 1) s).rdN (K.portState n) ≠ 1)
    (hred : (wrN (K.portRxFrames n) (s.rdN (K.portRxFrames n) + 1) s).redOf n = none)
    (hstream : n < 8 → (wrN (K.portRxFrames n) (s.rdN (K.portRxFrames n) + 1) s).matchStream (parseEth (s.rdN (K.portPvid n)) f) = none) :
    let e := parseEth (s.rdN (K.portPvid n)) f
    let u := wrN (K.portRxFrames n) (s.rdN (K.portRxFrames n) + 1) s
    let w := if n < 8 then learn n e.vid e.src u else u
    exec (.frameReceive n f true) s = .next (if e.dst = w.blobOf K.swBridgeMac then toInternal 9 e w else forward n e w) := by
  intro e u w
  have hsize : ¬ ((!true) = true ∨ f.length < 60 ∨ (if e.tagged then 1522 else 1518) < f.length + 4) := by
    cases e.tagged <;> simp <;> omega
  have hnone : (if n < 8 then
      (wrN (K.portRxFrames n) (s.rdN (K.portRxFrames n) + 1) s).matchStream (parseEth (s.rdN (K.portPvid n)) f) else none) = none := by
    split
    next h => exact hstream h
    next => rfl
  refine (exec_of_only rfl (by simp [hn, hruns, hup])).trans ?_
  refine congrArg Host.Outcome.next ((if_neg hsize).trans ((if_neg fun h => hstate h.1).trans ?_))
  simp only [hred, hnone]
  rfl

end

/-! ### Supervision and transmission (R340, R348) -/

theorem exec_redSupervisionSend_of_off {r : Nat} (hmode : s.rdN (K.redMode r) = 0) : exec (.redSupervisionSend r) s = .next s := by
  change execRedSupervisionSend r s = _
  simp [execRedSupervisionSend, hmode]

/-- R340: the frame being sent has left. -/
theorem exec_frameTransmitComplete_of_sent (g : TxFrame) (hn : n < 10) (hruns : s.swRuns = true) (hsending : (s.swPort n).sending = some g)
    (hpast : s.past (s.swPort n).startAt (s.wireNs n g.len) = true) :
    let u := updPort n (fun q => { q with sending := none }) (settleCredit n s)
    exec (.frameTransmitComplete n) s =
      .next (startNext n (ringEnd g 2 (s.swPort n).stamp (wrN (K.portTxFrames n) (u.rdN (K.portTxFrames n) + 1) u))) := by
  refine (exec_of_only rfl (by simp [hn, hruns])).trans (congrArg Host.Outcome.next ?_)
  simp only [hsending, hpast, only_true]

theorem exec_frameTransmitComplete_of_idle (hidle : (s.swPort n).sending = none) : exec (.frameTransmitComplete n) s = .next s := by
  change execFrameTransmitComplete n s = _
  unfold execFrameTransmitComplete
  cases decide (n < 10) && s.swRuns with
  | false => rfl
  | true => simp only [only_true, hidle]

/-! ### Gates (R335, R341, R342, R345) -/

/-- R342: an administrative list that passes its checks is pending. -/
theorem commanded_gateApply {src : Path} {v : Nat} (hn : n < 8) : Commanded1 (.gateApply src n v) src (K.gateApply n) v s (fun s =>
    if (s.adminList n).ok then
      (Err.ok, wrN (K.gateState n) (if s.on (K.gateEnable n) then 1 else 0) (updPort n (fun p => { p with pend := some (s.adminList n) }) s))
    else (Err.value, s)) := by
  refine commanded_only rfl (decide_eq_true hn) (if_congr Iff.rfl ?_ rfl)
  cases h : (s.adminList n).ok <;> simp [accept, h]

section
variable {g : GateList}

theorem exec_gateListSwitch_of_early (hn : n < 8) (hruns : s.swRuns = true) (hpend : (s.swPort n).pend = some g)
    (hearly : s.listTime g.tb < g.start) : exec (.gateListSwitch n) s = .next s := by
  refine (exec_of_only rfl (by simp [hn, hruns])).trans (congrArg Host.Outcome.next ?_)
  simp only [hpend, only_decide, if_neg (not_le.mpr hearly)]

/-- R342: the pending list becomes the operational one. -/
theorem exec_gateListSwitch_of_due (hn : n < 8) (hruns : s.swRuns = true) (hpend : (s.swPort n).pend = some g)
    (hdue : g.start ≤ s.listTime g.tb) :
    let u := updPort n (fun p => { p with oper := some g, pend := none }) s
    exec (.gateListSwitch n) s = .next (startNext n (raise Ev.gateListApplied (le 1 n ++ le 12 (t96 g.base))
      (wrN (K.gateOperBase n) (t96 g.base) (wrN (K.gateState n) (if u.on (K.gateEnable n) then 2 else 0) u)))) := by
  refine (exec_of_only rfl (by simp [hn, hruns])).trans (congrArg Host.Outcome.next ?_)
  simp only [hpend, only_decide, if_pos hdue]

theorem exec_gateListSwitch_of_none (hn : n < 8) (hruns : s.swRuns = true) (hpend : (s.swPort n).pend = none) :
    exec (.gateListSwitch n) s = .next s := by
  refine (exec_of_only rfl (by simp [hn, hruns])).trans (congrArg Host.Outcome.next ?_)
  simp only [hpend]

end

theorem exec_gateIntervalEnd_of_idle (hn : n < 8) (hruns : s.swRuns = true) (hidle : (s.swPort n).sending = none) :
    exec (.gateIntervalEnd n) s = .next (startNext n s) := by
  refine (exec_of_only rfl (by simp [hn, hruns])).trans (congrArg Host.Outcome.next ?_)
  simp only [hidle]

/-- R341: without preemption the frame being sent goes on. -/
theorem exec_gateIntervalEnd_of_no_preemption (hn : n < 8) (f : TxFrame) (hruns : s.swRuns = true) (hsending : (s.swPort n).sending = some f)
    (hstate : s.rdN (K.portPreemptState n) ≠ 2) : exec (.gateIntervalEnd n) s = .next s := by
  have hpreempts : s.preempts n f.cls = false := by simp [State.preempts, hstate]
  refine (exec_of_only rfl (by simp [hn, hruns])).trans (congrArg Host.Outcome.next ?_)
  simp only [hsending, hpreempts, Bool.false_and, Bool.false_eq_true, if_false, if_neg hstate]

theorem exec_preemptVerify_of_ok (hn : n < 8) (hruns : s.swRuns = true) (hon : s.rdN (K.portPreempt n) ≠ 0) :
    exec (.preemptVerify n true) s = .next (startNext n (wrN (K.portPreemptState n) 2 s)) :=
  (exec_of_only rfl (by simp [hn, hruns, hon])).trans rfl

theorem does_preemptVerify_of_failed (hn : n < 8) (hruns : s.swRuns = true) (hon : s.rdN (K.portPreempt n) ≠ 0) :
    Does (.preemptVerify n false) s (fun t => t.rdN (K.portPreemptState n) = 3 ∧ Raises Ev.preemptVerifyFailed (le 1 n) s t) := by
  have hexec : exec (.preemptVerify n false) s = .next (raise Ev.preemptVerifyFailed (le 1 n) (wrN (K.portPreemptState n) 3 s)) :=
    (exec_of_only rfl (by simp [hn, hruns, hon])).trans rfl
  refine ⟨_, hexec, ?_, pend_raiseWith ..⟩
  rw [raise_rdN, rdN_wrN_same]

end

/-- Settles O32: each event of the switch as an effect under its condition, APPLY and the flush as command entries. -/
theorem ethernetSwitch : Obligations.EthernetSwitch := by
  refine ⟨fun src n h r side speed v f s => ⟨?up, ?down, ?receive, ?ageing, ?flush, ?frer, ?poll, ?supervision,
    fun _ => exec_redSupervisionSend_of_off, ?lan, exec_frameTransmitComplete_of_sent, exec_frameTransmitComplete_of_idle⟩,
    fun src n v s hn => ⟨commanded_gateApply hn, ?switch, exec_gateListSwitch_of_none hn, exec_gateIntervalEnd_of_idle hn,
      exec_gateIntervalEnd_of_no_preemption hn, ?verify, ?launch, ?late⟩⟩
  case up => exact exec_portLinkChange_of_up
  case down => exact does_portLinkChange_of_down
  case receive => exact fun hn hruns hup => ⟨does_frameReceive_of_bad hn hruns hup, exec_frameReceive_of_plain hn hruns hup⟩
  case ageing =>
    refine fun hruns => ⟨_, (exec_of_only rfl hruns).trans rfl, rfl, ?_⟩
    exact rdN_wrN_same ..
  case flush => exact commanded1_command1 rfl rfl
  case frer => exact guarded_only rfl (by simp [and_assoc])
  case poll => exact guarded_only rfl (by simp)
  case supervision =>
    exact fun hr hruns hmode hpast => (exec_of_only rfl (by simp [hr, hruns, hmode, hpast])).trans rfl
  case lan => exact guarded_only rfl (by simp [and_assoc])
  case switch => exact fun g hruns hpend => ⟨exec_gateListSwitch_of_early hn hruns hpend, exec_gateListSwitch_of_due hn hruns hpend⟩
  case verify => exact fun hruns hon => ⟨exec_preemptVerify_of_ok hn hruns hon, does_preemptVerify_of_failed hn hruns hon⟩
  case launch => exact fun hruns => (exec_of_only rfl (by simp [hn, hruns])).trans rfl
  case late => exact fun hruns => (exec_of_only rfl (by simp [hn, hruns])).trans rfl

end Sys2Proof.Machine
end

section
/-! PROOFS of the family of spec/12_can_fd_controllers.md, first part: the recovery from BUS_STUCK (R362). -/

namespace Sys2Proof.Machine

section
variable {s : State} {c : Nat}

@[simp] theorem canSt_updCan_same (f : CanSt → CanSt) : (updCan c f s).canSt c = f (s.canSt c) := by
  simp [State.canSt, updCan, Tab.upd]

theorem stageArea_can (w : Nat) (b : Bytes) : (stageArea w b s).can = s.can := by
  unfold stageArea stage
  cases ptValid w with
  | false => rfl
  | true => rw [only_true, store_rest]

theorem canStatus_can : (canStatus c s).can = s.can := by
  exact stageArea_can ..

/-- What a part of a change of state keeps. -/
theorem retryMs_only {f : State → State} (b : Bool) (hf : ((f s).canSt c).retryMs = (s.canSt c).retryMs) :
    ((only b f s).canSt c).retryMs = (s.canSt c).retryMs := by
  cases b with
  | false => rfl
  | true => exact hf

theorem retryMs_updCan {f : CanSt → CanSt} (hf : (f (s.canSt c)).retryMs = (s.canSt c).retryMs) :
    ((updCan c f s).canSt c).retryMs = (s.canSt c).retryMs := by
  rw [canSt_updCan_same, hf]

/-- R361: a change of state keeps the interval of the recovery attempts. -/
theorem retryMs_canTo (st : Nat) : ((canTo c st s).canSt c).retryMs = (s.canSt c).retryMs := by
  unfold canTo
  extract_lets old moved cleared left counted quiet
  have hcleared : cleared.can = s.can := by
    unfold cleared
    split <;> rfl
  split
  · rfl
  · calc (State.canSt (canStatus c _) c).retryMs = (quiet.canSt c).retryMs := by
          rw [State.canSt, canStatus_can]
          rfl
      _ = (counted.canSt c).retryMs := retryMs_only _ (retryMs_updCan rfl)
      _ = (left.canSt c).retryMs := retryMs_only _ rfl
      _ = (cleared.canSt c).retryMs := retryMs_only _ (retryMs_updCan rfl)
      _ = (s.canSt c).retryMs := by rw [State.canSt, hcleared, State.canSt]

end

/-! ### A controller in BUS_STUCK whose first attempt succeeds -/

/-- Controller 0 in BUS_STUCK from time 0, 10 ms later. -/
def stuckController : State := wrN (K.canState 0) Can.stuck { State.reset with now := 10 * ms }

theorem stuckController_mode : stuckController.mode = Mode.boot := by
  have hother : K.modeNow ≠ K.canState 0 := by decide
  rw [State.mode, stuckController, rdN_wrN_ne _ _ _ _ hother]
  exact mode_reset

theorem stuckController_canRuns : stuckController.canRuns = true := by
  rw [State.canRuns, stuckController_mode]
  rfl

/-- R362: the first recovery attempt is due. -/
theorem stuckController_past :
    stuckController.past (stuckController.canSt 0).stuckAt ((stuckController.canSt 0).retryMs * ms) = true := by
  have hfresh : stuckController.canSt 0 = {} := rfl
  rw [hfresh]
  exact decide_eq_true (Nat.zero_add _).le

/-- R362: an attempt that succeeds leaves the interval of 10 ms as it is. -/
theorem exec_canStuckRecoveryAttempt_stuckController : exec (.canStuckRecoveryAttempt 0 true) stuckController =
    .next (canTo 0 Can.active stuckController) := by
  have hstuck : stuckController.canSt8 0 = Can.stuck := rdN_wrN_same ..
  refine (exec_of_only rfl ?_).trans rfl
  rw [stuckController_canRuns, hstuck, stuckController_past]
  rfl

/-- Refutes O33: the statement doubles the interval of the recovery attempts after an attempt that succeeds too. R362 doubles it after a
failed one, and so does the model: controller 0, 10 ms in BUS_STUCK, returns to ERROR_ACTIVE with its interval of 10 ms, not 20 ms. -/
theorem not_canControllers : ¬ Obligations.CanControllers := by
  unfold Obligations.CanControllers
  intro h
  obtain ⟨_, _, _, _, _, _, _, hattempt, _⟩ := h .optical 0 0 0 0 0 0 {} false false false false false true stuckController
  have hstuck : stuckController.canSt8 0 = Can.stuck := rdN_wrN_same ..
  have hdoubled := hattempt.1 ⟨stuckController_canRuns, hstuck, stuckController_past⟩
  simp only [exec_canStuckRecoveryAttempt_stuckController, if_true] at hdoubled
  have hinterval := congrArg (fun t : State => (t.canSt 0).retryMs) (Host.Outcome.next.inj hdoubled)
  rw [retryMs_canTo, retryMs_canTo, canSt_updCan_same] at hinterval
  exact absurd hinterval (by decide)

end Sys2Proof.Machine
end

section
/-! PROOFS of the family of spec/12_can_fd_controllers.md, second part: transmission and the CiA 301 engine (R370 to R379). -/

namespace Sys2Proof.Machine

section
variable {s : State} {c : Nat}

/-- R361: a controller that awaits no recessive bits is as it was. -/
theorem canAwake_of_not_waiting (h : (s.canSt c).waiting = false) : canAwake c s = s := by
  rw [canAwake, h]
  rfl

/-! ### The transmit path (R370, R371) -/

theorem exec_txBufferFill_of_choice (b q : Nat) (t : TxBuf) (hwaiting : (s.canSt c).waiting = false) (hfeeds : s.canFeeds c = true)
    (hchoice : s.fillChoice c = some (b, q, t)) : exec (.txBufferFill c) s = .next (fill c b q t s) := by
  change execTxBufferFill c s = _
  simp only [execTxBufferFill, canAwake_of_not_waiting hwaiting, hfeeds, only_true, hchoice]

/-- R370: the chosen buffer goes onto the bus. -/
theorem does_txStart (b : Nat) (t : TxBuf) (hwaiting : (s.canSt c).waiting = false) (hhears : s.canHears c = true)
    (hfree : s.restricted = false) (hidle : (s.canSt c).sending = none) (hchoice : s.startChoice c = some (b, t)) :
    Does (.txStart c) s (fun u => u.sentOn (Wire.can c) = canWire t.frame ∧ (u.canSt c).sending = some b ∧ (u.canSt c).lastStart = b) := by
  let u := setTxb c b (some { t with attempts := t.attempts + 1 }) (updCan c (fun x => { x with sending := some b, lastStart := b }) s)
  have hexec : exec (.txStart c) s = .next (send (Wire.can c) (canWire t.frame) u) := by
    change execTxStart c s = _
    simp only [execTxStart, canAwake_of_not_waiting hwaiting, hhears, hfree, hidle, Option.isNone_none, Bool.not_false, Bool.and_self, only_true,
      hchoice]
    rfl
  have hstate : (send (Wire.can c) (canWire t.frame) u).canSt c = { (s.canSt c) with
      sending := some b, lastStart := b, bufs := Tab.put (s.canSt c).bufs b (some { t with attempts := t.attempts + 1 }) none } := by
    change u.canSt c = _
    rw [show u = updCan c _ _ from rfl, canSt_updCan_same, canSt_updCan_same]
  exact ⟨_, hexec, wire_send_same .., congrArg CanSt.sending hstate, congrArg CanSt.lastStart hstate⟩

section
variable (b : Nat)

/-- R371: the frame in transmission gets through. -/
theorem exec_txComplete_of_ok (hhears : s.canHears c = true) (hsending : (s.canSt c).sending = some b) :
    exec (.txComplete c true) s = .next (endBuffer c b 3 0 (canByCounters c
      (wrN (K.canTec c) (s.rdN (K.canTec c) - 1) (wrN (K.canstatTxFrames c) ((s.rdN (K.canstatTxFrames c) + 1) % 2 ^ 64) s)))) := by
  refine (exec_of_only rfl hhears).trans (congrArg Host.Outcome.next ?_)
  simp only [hsending, if_true]

theorem exec_txComplete_of_failed (hhears : s.canHears c = true) (hsending : (s.canSt c).sending = some b) :
    exec (.txComplete c false) s = .next (sendingFailed c s) := by
  refine (exec_of_only rfl hhears).trans (congrArg Host.Outcome.next ?_)
  simp only [hsending, Bool.false_eq_true, if_false]

end

/-! ### NMT commands and SYNC (R374, R378) -/

section
variable {cs node : Nat}

/-- R374: what an NMT command does that reaches a node out of INITIALISATION. -/
def nmtEffect (c cs : Nat) (s : State) : State :=
  if cs = 1 then nmtTo c Nmt.operational s
  else if cs = 2 then nmtTo c Nmt.stopped s
  else if cs = 128 then nmtTo c Nmt.preop s
  else if cs = 129 ∨ cs = 130 then nmtStart c (nmtTo c Nmt.init s)
  else s

theorem exec_nmtCommand_of_reached (hwaiting : (s.canSt c).waiting = false) (hhears : s.canHears c = true) (hid : s.rdN (K.canNodeId c) ≠ 0)
    (hstate : s.rdN (K.canNmtState c) ≠ Nmt.init) (hnode : node = 0 ∨ node = s.rdN (K.canNodeId c)) :
    exec (.nmtCommand c cs node) s = .next (nmtEffect c cs s) := by
  change execNmtCommand c cs node s = _
  unfold execNmtCommand
  rw [canAwake_of_not_waiting hwaiting]
  refine (congrArg (fun b => Host.Outcome.next (only b _ s)) (?_ : _ = true)).trans rfl
  simp [hhears, hid, hstate, hnode]

theorem exec_nmtCommand_of_other (hzero : node ≠ 0) (hother : node ≠ s.rdN (K.canNodeId c)) (hwaiting : (s.canSt c).waiting = false) :
    exec (.nmtCommand c cs node) s = .next s := by
  change execNmtCommand c cs node s = _
  simp [execNmtCommand, canAwake_of_not_waiting hwaiting, hzero, hother]

theorem exec_syncReceive (cnt : Nat) (hwaiting : (s.canSt c).waiting = false) (hhears : s.canHears c = true)
    (hid : s.rdN (K.canNodeId c) ≠ 0) : exec (.syncReceive c cnt) s = .next (onSync c cnt s) := by
  change execSyncReceive c cnt s = _
  simp [execSyncReceive, canAwake_of_not_waiting hwaiting, hhears, hid]

end

/-! ### Heartbeats (R375) -/

theorem does_canHbConsumerTimeout {j : Nat} (hruns : s.canRuns = true) (hj : j < 8) (hid : s.rdN (K.canNodeId c) ≠ 0)
    (hstate : s.rdN (K.canNmtState c) ≠ Nmt.init) (hused : bits (s.rdN (K.commHbConsumer c j)) 15 0 ≠ 0)
    (hfirst : Tab.get (s.canSt c).lapsed j false = false)
    (hpast : s.past (Tab.get (s.canSt c).heardAt j 0) (bits (s.rdN (K.commHbConsumer c j)) 15 0 * ms) = true) :
    Does (.canHbConsumerTimeout c j) s (fun t =>
      Raises (Ev.canNmt c) (le 1 (bits (s.rdN (K.commHbConsumer c j)) 23 16)) s t ∧ Tab.get (t.canSt c).lapsed j false = true) := by
  let u := updCan c (fun x => { x with lapsed := Tab.put x.lapsed j true false }) s
  have hexec : exec (.canHbConsumerTimeout c j) s =
      .next (raiseSev (Ev.canNmt c) (le 1 (bits (s.rdN (K.commHbConsumer c j)) 23 16)) 3 u) :=
    (exec_of_only rfl (by simp [hruns, hj, hid, hstate, hused, hfirst, hpast])).trans rfl
  refine ⟨_, hexec, pend_raiseWith .., ?_⟩
  change Tab.get (u.canSt c).lapsed j false = true
  rw [canSt_updCan_same, Tab.get_put_same]

/-! ### RPDOs (R378) -/

section
variable {n : Nat} {data : Bytes}

/-- R378: what a classic frame of an RPDO does that the engine takes. -/
def rpdoEffect (c n : Nat) (data : Bytes) (s : State) : State :=
  let m := s.pdoMap (K.commRpdoMap (64 * c + n))
  if data.length < mapBytes m then rpdoEvent c n 1 (inc (K.canstatRpdoErrors c) U32.max s)
  else canStatus c
    (if s.rdN (K.commRpdoType (64 * c + n)) ≤ 240 then updRpdo c n (fun r => { r with held := some (rpdoArea m data), at_ := s.now, timeout := false }) s
      else updRpdo c n (fun r => { r with data := rpdoArea m data, fresh := true, at_ := s.now, timeout := false }) s)

theorem exec_rpdoReceive (hhears : s.canHears c = true) (hid : s.rdN (K.canNodeId c) ≠ 0) (hstate : s.rdN (K.canNmtState c) = Nmt.operational)
    (hvalid : cobValid (s.rdN (K.commRpdoCobid (64 * c + n))) = true) (hlen : data.length ≤ 8) :
    exec (.rpdoReceive c n data false) s = .next (rpdoEffect c n data s) := by
  refine (exec_of_only rfl ?_).trans ?_
  · simp [hhears, hid, hstate, hvalid, hlen]
  · dsimp only [rpdoEffect]

end

end

/-- Settles O34: the transmit path and the engine's services as effects under their conditions. -/
theorem canEngine : Obligations.CanEngine := by
  refine fun c cs j n cnt node data s => ⟨exec_txBufferFill_of_choice, does_txStart, ?complete, ?lost, ?nmt, exec_nmtCommand_of_other, ?hbProduce,
    does_canHbConsumerTimeout, ?syncProduce, ?rpdo, ?timeout, ?timer, ?inhibit⟩
  case complete => exact fun b hhears hsending => ⟨exec_txComplete_of_ok b hhears hsending, exec_txComplete_of_failed b hhears hsending⟩
  case lost => exact guarded_only rfl (by simp)
  case nmt =>
    refine fun hwaiting hhears hid => ⟨fun hstate hnode => ?_, exec_syncReceive cnt hwaiting hhears hid⟩
    have hexec (k : Nat) := exec_nmtCommand_of_reached (cs := k) hwaiting hhears hid hstate hnode
    refine ⟨hexec 1, hexec 2, hexec 128, ?_⟩
    rintro k (rfl | rfl)
    · exact hexec 129
    · exact hexec 130
  case hbProduce => exact guarded_only rfl (by simp [and_assoc])
  case syncProduce => exact guarded_only rfl (by simp [and_assoc])
  case rpdo =>
    intro k m hhears hid hstate hvalid hlen
    have hexec := exec_rpdoReceive hhears hid hstate hvalid hlen
    refine ⟨fun hshort => ?_, fun hlong htype => ?_, fun hlong htype => ?_⟩
    · exact hexec.trans (congrArg Host.Outcome.next (if_pos hshort))
    · exact hexec.trans (congrArg Host.Outcome.next ((if_neg (not_lt.mpr hlong)).trans (congrArg (canStatus c) (if_pos htype))))
    · exact hexec.trans (congrArg Host.Outcome.next ((if_neg (not_lt.mpr hlong)).trans (congrArg (canStatus c) (if_neg (not_le.mpr htype)))))
  case timeout => exact guarded_only rfl (by simp [and_assoc])
  case timer => exact guarded_only rfl (by simp [and_assoc])
  case inhibit => exact guarded_only rfl (by simp [and_assoc])

end Sys2Proof.Machine
end

section
/-! PROOFS of the family of spec/13_storage_engine.md, first part: the storage engine (R383 to R390, R399 to R403). -/

namespace Sys2Proof.Machine

section
variable {s : State} {k b die blk level total : Nat}

@[simp] theorem nblk_updBlk_same (f : NBlk → NBlk) : (updBlk die blk f s).nblk die blk = f (s.nblk die blk) := by
  simp [State.nblk, updBlk, updSto, Tab.upd]

/-! ### Reads (R385) -/

/-- R390: to mark a block for its refresh touches neither its reads nor the rest of the state. -/
theorem only_due_rest (due : Bool) :
    ((only due (updBlk die blk (fun x => { x with due := true })) s).nblk die blk).reads = (s.nblk die blk).reads ∧
    (only due (updBlk die blk (fun x => { x with due := true })) s).dict = s.dict ∧
    (only due (updBlk die blk (fun x => { x with due := true })) s).mem = s.mem ∧
    (only due (updBlk die blk (fun x => { x with due := true })) s).router = s.router := by
  cases due with
  | false => exact ⟨rfl, rfl, rfl, rfl⟩
  | true => exact ⟨by rw [only_true, nblk_updBlk_same], rfl, rfl, rfl⟩

/-- R385: the block after a read that decodes as it is. -/
def readOnce (die blk : Nat) (s : State) : State :=
  let u := updBlk die blk (fun x => { x with reads := x.reads + 1 }) (updSto (fun x => { x with notReady := Tab.put x.notReady die 0 0 }) s)
  only (decide (u.rdN K.storReadDisturbLimit ≤ (u.nblk die blk).reads)) (updBlk die blk (fun x => { x with due := true })) u

theorem readOnce_rest : ((readOnce die blk s).nblk die blk).reads = (s.nblk die blk).reads + 1 ∧ (readOnce die blk s).dict = s.dict ∧
    (readOnce die blk s).mem = s.mem := by
  unfold readOnce
  extract_lets u
  have hreads : (u.nblk die blk).reads = (s.nblk die blk).reads + 1 := by
    rw [show u = updBlk die blk _ _ from rfl, nblk_updBlk_same]
    rfl
  obtain ⟨hkept, hdict, hmem, _⟩ := only_due_rest (s := u) (die := die) (blk := blk)
    (decide (u.rdN K.storReadDisturbLimit ≤ (u.nblk die blk).reads))
  exact ⟨hkept.trans hreads, hdict, hmem⟩

theorem does_nandBlockRead_of_first (hk : k < 7) (hdie : die < 64) (hcode : s.readCode k = Err.ok) (halive : s.onDie die blk = true) :
    Does (.nandBlockRead k b die blk 1 level false) s (fun t => t.answer = { code := Err.ok, data := [] } ∧
      (t.nblk die blk).reads = (s.nblk die blk).reads + 1 ∧ t.dict = s.dict ∧ t.mem = s.mem) := by
  have hexec : exec (.nandBlockRead k b die blk 1 level false) s = .next (reply Err.ok [] (readOnce die blk s)) := by
    refine (exec_of_only rfl (by simp [hk, hdie])).trans ?_
    simp only [hcode, halive]
    rfl
  obtain ⟨hreads, hdict, hmem⟩ := readOnce_rest (s := s) (die := die) (blk := blk)
  exact ⟨_, hexec, rfl, hreads, hdict, hmem⟩

/-- R385: the block after a read that no step recovers. -/
def readVain (die blk level : Nat) (s : State) : State :=
  let u := updBlk die blk (fun x => { x with reads := x.reads + 1 }) (updSto (fun x => { x with notReady := Tab.put x.notReady die 0 0 }) s)
  let w := wrN (K.dieRetries die) (u.rdN (K.dieRetries die) + level) u
  only (decide (w.rdN K.storReadDisturbLimit ≤ (w.nblk die blk).reads)) (updBlk die blk (fun x => { x with due := true })) w

theorem readVain_unrecoverable (hdie : die < 64) : (readVain die blk level s).rdN K.storUnrecoverable = s.rdN K.storUnrecoverable := by
  have hother : K.storUnrecoverable ≠ K.dieRetries die := by unfold K.storUnrecoverable K.dieRetries; omega
  unfold readVain
  extract_lets u w
  have hw : w.rdN K.storUnrecoverable = s.rdN K.storUnrecoverable := rdN_wrN_ne _ _ _ _ hother
  obtain ⟨_, hdict, _, _⟩ := only_due_rest (s := w) (die := die) (blk := blk) (decide (w.rdN K.storReadDisturbLimit ≤ (w.nblk die blk).reads))
  rw [← hw, State.rdN, State.rd, hdict]
  rfl

theorem readVain_router : (readVain die blk level s).router = s.router := by
  unfold readVain
  extract_lets u w
  obtain ⟨_, _, _, hrouter⟩ := only_due_rest (s := w) (die := die) (blk := blk) (decide (w.rdN K.storReadDisturbLimit ≤ (w.nblk die blk).reads))
  exact hrouter

theorem does_nandBlockRead_of_unrecoverable (hk : k < 7) (hdie : die < 64) (hcode : s.readCode k = Err.ok) (halive : s.onDie die blk = true) :
    Does (.nandBlockRead k b die blk 5 level false) s (fun t => t.answer = { code := Err.hardware, data := [] } ∧
      t.rdN K.storUnrecoverable = satInc U32.max (s.rdN K.storUnrecoverable) ∧ Raises Ev.readUnrecoverable (le 1 k ++ le 8 b) s t) := by
  have hexec : exec (.nandBlockRead k b die blk 5 level false) s =
      .next (reply Err.hardware [] (raise Ev.readUnrecoverable (le 1 k ++ le 8 b) (inc K.storUnrecoverable U32.max (readVain die blk level s)))) := by
    refine (exec_of_only rfl (by simp [hk, hdie])).trans ?_
    simp only [hcode, halive]
    rfl
  refine ⟨_, hexec, rfl, ?_, ?_⟩
  · rw [reply_rdN, raise_rdN, rdN_inc_same, readVain_unrecoverable hdie]
  · rw [Raises, reply_router, ← readVain_router (s := s) (die := die) (blk := blk) (level := level)]
    exact pend_raiseWith ..

theorem exec_nandBlockRead_of_refused (hk : k < 7) (hdie : die < 64) (hcode : s.readCode k ≠ Err.ok) (step : Nat) (hlow : 1 ≤ step)
    (hhigh : step ≤ 5) : exec (.nandBlockRead k b die blk step level false) s = .next (reply (s.readCode k) [] s) := by
  refine (exec_of_only rfl (by simp [hk, hdie, hlow, hhigh])).trans ?_
  exact congrArg Host.Outcome.next (if_pos hcode)

/-! ### Dies and the rebuild (R386, R387) -/

section
variable (hdie : die < 64) (hgood : s.rdN (K.dieState die) = 1) (hreads : s.stoReads = true)
include hdie hgood hreads

theorem exec_dieNotReadyTimeout_of_die :
    let n := Tab.get s.sto.notReady die 0 + 1
    let u := inc (K.nchErrors (die / 16)) U32.max (updSto (fun x => { x with notReady := Tab.put x.notReady die n 0 }) s)
    exec (.dieNotReadyTimeout die false) s = .next (if 3 ≤ n then dieFailed die 1 u else u) := by
  intro n u
  refine (exec_of_only rfl (by simp [hdie, hgood, hreads])).trans ?_
  exact congrArg Host.Outcome.next (only_decide (dieFailed die 1) u)

theorem exec_dieNotReadyTimeout_of_channel :
    let n := Tab.get s.sto.notReady die 0 + 1
    let u := inc (K.nchErrors (die / 16)) U32.max (updSto (fun x => { x with notReady := Tab.put x.notReady die n 0 }) s)
    exec (.dieNotReadyTimeout die true) s = .next (storFollow (each ((List.range 16).map (16 * (die / 16) + ·)) (fun d => dieFailed d 1)
      (raise Ev.channelFault (le 1 (die / 16)) (wrN (K.nchState (die / 16)) 2 u)))) := by
  intro n u
  refine (exec_of_only rfl (by simp [hdie, hgood, hreads])).trans ?_
  exact congrArg Host.Outcome.next (if_pos rfl)

end

/-- R387: the next stripe of a rebuild is rewritten. -/
theorem does_rebuildStripe (lost : Bool) (d : Nat) (rest : List Nat) (hrebuild : s.sto.rebuild = d :: rest) (hmove : s.mayMove = true)
    (hpast : s.past s.sto.stripeAt (s.rdN (K.diePageBytes d) * 1000 / max 1 (s.rdN K.storRebuildRate)) = true)
    (hmore : s.sto.cursor + 1 < total) : Does (.rebuildStripe lost total) s (fun t => t.sto.cursor = s.sto.cursor + 1 ∧
      t.sto.stripeAt = s.now ∧ t.sto.unreadable = s.sto.unreadable + b2n lost ∧
      t.rdN K.storRebuildProgress = (s.sto.cursor + 1) * 1000 / total) := by
  let u := updSto (fun x => { x with stripeAt := s.now, cursor := s.sto.cursor + 1, unreadable := s.sto.unreadable + b2n lost }) s
  have hexec : exec (.rebuildStripe lost total) s = .next (wrN K.storRebuildProgress ((s.sto.cursor + 1) * 1000 / total) u) := by
    change execRebuildStripe lost total s = _
    simp only [execRebuildStripe, hrebuild, hmove, hpast, Bool.and_self, only_true, if_pos hmore]
    rfl
  exact ⟨_, hexec, rfl, rfl, rfl, rdN_wrN_same ..⟩

theorem exec_rebuildStripe_of_none (lost : Bool) (hnone : s.sto.rebuild = []) : exec (.rebuildStripe lost total) s = .next s := by
  change execRebuildStripe lost total s = _
  simp only [execRebuildStripe, hnone]

/-! ### Relocation and the scrub (R389, R390, R401) -/

/-- R390: a relocation that is called for goes on. -/
theorem moveBlock_of_called {to_ phase : Nat} (cond : Bool) (hmove : s.mayMove = true) (halive : s.onDie die blk = true)
    (hto : to_ < s.rdN (K.dieBlocks die)) (hother : to_ ≠ blk) (hgood : (s.nblk die to_).retired = false) (hcond : cond = true) :
    moveBlock die blk to_ phase cond s = relocate die blk to_ phase s := by
  simp [moveBlock, hmove, halive, hto, hother, hgood, hcond]

/-- R390: the patrol scrub reads its next page. -/
theorem does_patrolScrubStep (need : Bool) (hreads : s.stoReads = true) (hflush : s.pow.flushing = false) (halive : s.onDie die blk = true)
    (hpast : s.past s.sto.scrubAt (s.rdN K.storScrubInterval * 3600 * sec / max 1 total) = true) (hmore : s.sto.scrubPages + 1 < total) :
    Does (.patrolScrubStep die blk need total) s (fun t => t.sto.scrubPages = s.sto.scrubPages + 1 ∧ t.sto.scrubAt = s.now ∧
      t.rdN K.storScrubProgress = (s.sto.scrubPages + 1) * 1000 / total ∧ (need = true → (t.nblk die blk).due = true)) := by
  let move := need || s.aged die blk
  let u := updBlk die blk (fun x => { x with reads := x.reads + 1, due := x.due || move }) s
  let w := updSto (fun x => { x with scrubAt := s.now, scrubPages := s.sto.scrubPages + 1, scrubMoved := x.scrubMoved + b2n move }) u
  have hexec : exec (.patrolScrubStep die blk need total) s = .next (wrN K.storScrubProgress ((s.sto.scrubPages + 1) * 1000 / total) w) := by
    refine (exec_of_only rfl (by simp [hreads, hflush, halive, hpast])).trans ?_
    exact congrArg Host.Outcome.next (if_pos hmore)
  refine ⟨_, hexec, rfl, rfl, rdN_wrN_same .., fun hneed => ?_⟩
  change (u.nblk die blk).due = true
  rw [show u = updBlk die blk _ _ from rfl, nblk_updBlk_same]
  simp [move, hneed]

/-! ### Power fail at start-up and the mount (R382, R383, R399) -/

theorem does_pfailStuck (hheld : s.stor = Sto.held_) (hpfail : s.pow.pfail = true) (hfirst : s.sto.stuckRaised = false) (t0 : Nat)
    (hstuck : s.sto.stuckAt = some t0) (hpast : s.past t0 (100 * ms) = true) :
    Does .pfailStuck s (fun t => Raises Ev.pfailStuck [] s t ∧ t.sto.stuckRaised = true) := by
  have hexec : exec .pfailStuck s = .next (raise Ev.pfailStuck [] (updSto (fun x => { x with stuckRaised := true }) s)) := by
    refine (exec_of_only rfl ?_).trans rfl
    rw [decide_eq_true hheld, hpfail, hfirst, hstuck, Option.any_some, hpast]
    rfl
  exact ⟨_, hexec, pend_raiseWith .., rfl⟩

/-- R382: discovery begins with no channel and no die known. -/
def forgetDie (d : Nat) (s : State) : State :=
  wrN (K.dieState d) 0 (only (s.rdN (K.dieState d) = 2) (updSto (fun x => { x with failed := Tab.put x.failed d true false })) s)

theorem rdN_forgetDie (d e : Nat) : (forgetDie d s).rdN (K.dieState e) = if e = d then 0 else s.rdN (K.dieState e) := by
  unfold forgetDie
  generalize decide (s.rdN (K.dieState d) = 2) = failed
  have hkept : (only failed (updSto (fun x => { x with failed := Tab.put x.failed d true false })) s).rdN (K.dieState e) = s.rdN (K.dieState e) := by
    cases failed <;> rfl
  split
  next h => rw [h, rdN_wrN_same]
  next h =>
    have hother : K.dieState e ≠ K.dieState d := by unfold K.dieState; omega
    rw [rdN_wrN_ne _ _ _ _ hother, hkept]

theorem rdN_each_forgetDie (l : List Nat) (e : Nat) :
    (each l forgetDie s).rdN (K.dieState e) = if e ∈ l then 0 else s.rdN (K.dieState e) := by
  induction l generalizing s with
  | nil => simp
  | cons d l ih =>
    rw [each_cons, ih, rdN_forgetDie]
    by_cases hd : e = d <;> by_cases hl : e ∈ l <;> simp [hd, hl]

theorem rdN_rawFollow (e : Nat) : (rawFollow s).rdN (K.dieState e) = s.rdN (K.dieState e) := by
  have hgood : K.dieState e ≠ K.storDiesGood := by unfold K.dieState K.storDiesGood; omega
  have hraw : K.dieState e ≠ K.storRawBytes := by unfold K.dieState K.storRawBytes; omega
  unfold rawFollow
  extract_lets pages good
  rw [rdN_wrN_ne _ _ _ _ hgood, rdN_wrN_ne _ _ _ _ hraw]

/-- R471: a milestone writes entries of STARTUP alone. -/
theorem milestone_rdN {j m : Nat} (htime : j ≠ K.startupMilestone (m - 1)) (hlate : j ≠ K.startupLate) : (milestone m s).rdN j = s.rdN j := by
  unfold milestone
  split
  · rfl
  · simp only [apply_ite (State.rdN · j), raise_rdN, rdN_wrN_ne _ _ _ _ hlate, rdN_wrN_ne _ _ _ _ htime, ite_self]

/-- R383: an engine without media writes its state alone. -/
theorem storTo_noMedia_rdN (j : Nat) : (storTo Sto.noMedia s).rdN j = if j = K.storState then Sto.noMedia else s.rdN j := by
  unfold storTo
  extract_lets old bad moved
  have hmoved : moved.rdN j = if j = K.storState then Sto.noMedia else s.rdN j := by
    rw [show moved = raiseSev _ _ _ _ from rfl, raiseSev_rdN]
    split
    next h => rw [h, rdN_wrN_same]
    next h => rw [rdN_wrN_ne _ _ _ _ h]
  split
  next h =>
    split
    next hj => rw [hj, ← h]; rfl
    next => rfl
  next => rw [if_neg (by decide), hmoved]

/-- R382: the module with no die known, and the channels forgotten. -/
def forgetMedia (s : State) : State :=
  rawFollow (each (List.range 64) forgetDie (each (List.range 4) (fun c s => wrN (K.nchState c) 0 (wrN (K.nchCePresent c) 0 s))
    (updSto (fun x => { x with geometry := none, stuckAt := none, releasedAt := none }) s)))

theorem dieState_forgetMedia {d : Nat} (hd : d < 64) : (forgetMedia s).rdN (K.dieState d) = 0 := by
  rw [forgetMedia, rdN_rawFollow, rdN_each_forgetDie, if_pos (List.mem_range.mpr hd)]

/-- R383: a mount that finds no die. -/
theorem exec_storageMount_of_none (models : Bytes) (hmounting : s.stor = Sto.mounting) (hverified : s.pow.verified = true)
    (hpfail : s.pow.pfail = false) : exec (.storageMount [] models) s = .next (milestone 9 (storTo Sto.noMedia (forgetMedia s))) := by
  have hfound : ((List.range 64).filter (fun d => (forgetMedia s).rdN (K.dieState d) ≠ 0)).length < 8 := by
    have hnone : (List.range 64).filter (fun d => (forgetMedia s).rdN (K.dieState d) ≠ 0) = [] :=
      List.filter_eq_nil_iff.mpr fun d hd => by simp [dieState_forgetMedia (List.mem_range.mp hd)]
    rw [hnone]
    decide
  have hnot : ¬ s.stor = Sto.held_ := by rw [hmounting]; decide
  refine (exec_of_only rfl (by simp [hmounting, hverified, hpfail])).trans ?_
  simp only [if_neg hnot, show dieInfos [] = [] from rfl, List.zip_nil_left, each_nil]
  unfold forgetMedia forgetDie at hfound ⊢
  exact congrArg Host.Outcome.next (if_pos hfound)

theorem does_storageMount_of_none (models : Bytes) (hmounting : s.stor = Sto.mounting) (hverified : s.pow.verified = true)
    (hpfail : s.pow.pfail = false) : Does (.storageMount [] models) s (fun t => t.stor = Sto.noMedia ∧ ∀ d < 64, t.rdN (K.dieState d) = 0) := by
  refine ⟨_, exec_storageMount_of_none models hmounting hverified hpfail, ?_, fun d hd => ?_⟩
  · rw [State.stor, milestone_rdN (by decide) (by decide), storTo_noMedia_rdN, if_pos rfl]
  · have htime : K.dieState d ≠ K.startupMilestone 8 := by unfold K.dieState K.startupMilestone; omega
    have hlate : K.dieState d ≠ K.startupLate := by unfold K.dieState K.startupLate; omega
    have hstate : K.dieState d ≠ K.storState := by unfold K.dieState K.storState; omega
    rw [milestone_rdN htime hlate, storTo_noMedia_rdN, if_neg hstate, dieState_forgetMedia hd]

theorem exec_storageMount_of_other (dies : List Nat) (models : Bytes) (hmounting : s.stor ≠ Sto.mounting) (hheld : s.stor ≠ Sto.held_) :
    exec (.storageMount dies models) s = .next s := by
  change execStorageMount dies models s = _
  simp only [execStorageMount, decide_eq_false hmounting, decide_eq_false hheld, Bool.false_and, Bool.or_self, only_false]

end

/-- Settles O28: each event of the engine as an effect under its condition. -/
theorem storageEngine : Obligations.StorageEngine := by
  refine fun k b die blk level to_ phase total most new need ok lost dies models s => ⟨does_nandBlockRead_of_first,
    does_nandBlockRead_of_unrecoverable, exec_nandBlockRead_of_refused, ?write, ?fail, ?notReady, does_rebuildStripe lost,
    exec_rebuildStripe_of_none lost, ?moves, does_patrolScrubStep need, ?suspect, does_pfailStuck, does_storageMount_of_none models,
    exec_storageMount_of_other dies models⟩
  case write => exact guarded_only rfl (by simp)
  case fail => exact guarded_only rfl (by simp)
  case notReady =>
    exact fun hdie hgood hreads => ⟨exec_dieNotReadyTimeout_of_die hdie hgood hreads, exec_dieNotReadyTimeout_of_channel hdie hgood hreads⟩
  case moves =>
    refine ⟨fun hmove halive hto hother hgood hcond => ?_, fun hmove halive hto hother hgood hcond => ?_,
      fun hmove halive hto hother hgood _ => ?_⟩
    · exact congrArg Host.Outcome.next (moveBlock_of_called _ hmove halive hto hother hgood (by simpa using hcond))
    · exact congrArg Host.Outcome.next (moveBlock_of_called _ hmove halive hto hother hgood (by simpa [or_assoc] using hcond))
    · exact congrArg Host.Outcome.next (moveBlock_of_called _ hmove halive hto hother hgood rfl)
  case suspect =>
    refine guarded_congr (guarded_only rfl (by simp [and_assoc])) fun _ => ?_
    cases ok <;> rfl

end Sys2Proof.Machine
end

section
/-! PROOFS of the family of spec/13_storage_engine.md, second part: partitions and Pavilion stores (R391 to R401). -/

namespace Sys2Proof.Machine

section
variable {s : State} {k v p : Nat} {mirrored : Bool}

/-! ### Partitions (R391, R401) -/

/-- R391: a size of a partition, with the resize it begins. -/
theorem commanded_partSizeWrite {src : Path} (hk : k < 7) : Commanded (.partSizeWrite src k v) src (K.partSize k) (le 4 v) s (fun s =>
    let others := ((([0, 1, 2, 4, 5, 6] : List Nat).filter (· ≠ k)).map (fun j => s.rdN (K.partSize j))).foldl (· + ·) 0
    let old := s.rdN (K.partSize k)
    if s.rdN K.storUserBytes / 67108864 < others + v + 16 ∨ v * 67108864 < s.rdN (K.partUsed k) then (Err.value, s)
    else if s.writeCode k ≠ Err.ok then (s.writeCode k, s)
    else if s.sto.resize.isSome then (Err.busy, s)
    else if v = old then (Err.ok, s)
    else writeThen (K.partSize k) (le 4 v) true 0 (fun s =>
      wrN (K.partState 3) 2 (wrN (K.partState k) 2 (openIntent 2 k (updSto (fun x => { x with resize := some (k, old) }) s)))) s) :=
  commanded_only rfl (decide_eq_true hk) rfl

/-- R401: the resize that is open is recorded as done. -/
theorem exec_partitionResizeComplete_of_open (old : Nat) (hopen : s.sto.resize = some (k, old)) (hmove : s.mayMove = true) :
    exec .partitionResizeComplete s = .next (historianSize (updSto (fun x => { x with resize := none })
      (wrN (K.partState 3) 0 (wrN (K.partState k) 0 (closeIntent 2 k (markIntent 2 k s)))))) := by
  change execPartitionResizeComplete s = _
  simp only [execPartitionResizeComplete, hopen, hmove, only_true]

theorem exec_partitionResizeComplete_of_none (hnone : s.sto.resize = none) : exec .partitionResizeComplete s = .next s := by
  change execPartitionResizeComplete s = _
  simp only [execPartitionResizeComplete, hnone]

/-! ### Requests (R395) -/

theorem exec_pavstoreRequestComplete_of_none (hnone : s.sto.reqs.find? (fun q => q.pav = p) = none) :
    exec (.pavstoreRequestComplete p mirrored) s = .next s := by
  change execPavstoreRequestComplete p mirrored s = _
  simp only [execPavstoreRequestComplete, hnone]

section
variable (q : StoReq) (holdest : s.sto.reqs.find? (fun q => q.pav = p) = some q)
include holdest

/-- R395: a READ answers the bytes of the store. -/
theorem exec_pavstoreRequestComplete_of_read (hop : q.op = 0) (hcode : s.readCode 4 = Err.ok) (hcopied : s.notCopied p q.off q.len = false)
    (hwritable : s.rangeWritable p q.buf q.len = true) : exec (.pavstoreRequestComplete p mirrored) s =
      .next (storeDone q Err.ok q.len (bufPut p q.buf (s.bytesAt (Mem.pavstore p) q.off q.len) s)) := by
  change execPavstoreRequestComplete p mirrored s = _
  simp only [execPavstoreRequestComplete, holdest, hop, hcode, hcopied, hwritable, if_true, ne_eq, not_true_eq_false, if_false, Bool.false_eq_true]

/-- R395: a WRITE takes effect, and completes where it goes to no partner. -/
theorem exec_pavstoreRequestComplete_of_write (hop : q.op = 1) (hbegun : q.begun = false) (hflush : s.pow.flushing = false)
    (hcode : s.writeCode 4 = Err.ok) (hmirrors : (storePut p q.off q.len (some (s.bufGet p q.buf q.len)) s).mirrors = false) :
    exec (.pavstoreRequestComplete p mirrored) s =
      .next (storeDone q Err.ok q.len (storePut p q.off q.len (some (s.bufGet p q.buf q.len)) s)) := by
  change execPavstoreRequestComplete p mirrored s = _
  simp only [execPavstoreRequestComplete, holdest, hop, hbegun, hflush, hcode, hmirrors, if_true, ne_eq, not_true_eq_false, if_false,
    Bool.false_eq_true, Bool.not_false, only_true, Bool.false_and, one_ne_zero, Nat.reduceEqDiff]

/-- R395: a FLUSH completes once the journal is placed. -/
theorem exec_pavstoreRequestComplete_of_flush (hop : q.op = 3) (hflush : s.pow.flushing = false) (hcode : s.writeCode 4 = Err.ok) :
    exec (.pavstoreRequestComplete p mirrored) s = .next (storeDone q Err.ok 0 (storePlace p s)) := by
  change execPavstoreRequestComplete p mirrored s = _
  simp only [execPavstoreRequestComplete, holdest, hop, hflush, hcode, ne_eq, not_true_eq_false, if_false, Bool.not_false, only_true,
    OfNat.ofNat_ne_zero, if_true]

end

/-! ### The partner's store (R396) -/

section
variable {data : Bytes}

theorem exec_pavstoreMirrorCopy_of_complete (hnone : Tab.get s.sto.incomplete p 0 = 0) : exec (.pavstoreMirrorCopy p data) s = .next s := by
  change execPavstoreMirrorCopy p data s = _
  simp only [execPavstoreMirrorCopy, hnone]

/-- R396: the copying goes on with the next block, or ends. -/
def copyNext (p n : Nat) (s : State) : State :=
  if 4096 * (n + 1) < s.rdN (K.quotaStore p) then updSto (fun x => { x with incomplete := Tab.put x.incomplete p (n + 2) 0 }) s
  else
    let s := closeIntent 5 p (updSto (fun x => { x with incomplete := Tab.put x.incomplete p 0 0 }) s)
    only (s.sto.incomplete = []) (fun s => wrN (K.partStoreMirror 4) 0 (updSto (fun x => { x with newer := [] }) s)) s

theorem copyNext_mem (n : Nat) : (copyNext p n s).mem = s.mem := by
  unfold copyNext
  split
  · rfl
  · extract_lets u
    generalize decide (u.sto.incomplete = []) = last
    cases last <;> rfl

theorem storeUsage_mem : (storeUsage p s).mem = s.mem := rfl
theorem setHeld_mem (b : Nat) (held : Bool) : (setHeld p b held s).mem = s.mem := rfl

/-- R396: the store of a joining module takes the block's bytes. -/
theorem does_pavstoreMirrorCopy (n : Nat) (hnext : Tab.get s.sto.incomplete p 0 = n + 1) (hpair : s.pairOp = true) (hmode : s.mode = Mode.standby)
    (hwrites : s.stoWrites = true) (hflush : s.pow.flushing = false) (hdata : data ≠ []) : Does (.pavstoreMirrorCopy p data) s (fun t =>
      t.mem = (store (Mem.pavstore p) (4096 * n) (padTo 4096 data) s).mem) := by
  let u := setHeld p n true (store (Mem.pavstore p) (4096 * n) (padTo 4096 data) s)
  let w := storeUsage p (wrN (K.partWritten 4) (u.rdN (K.partWritten 4) + data.length) u)
  have hexec : exec (.pavstoreMirrorCopy p data) s = .next (copyNext p n w) := by
    change execPavstoreMirrorCopy p data s = _
    simp only [execPavstoreMirrorCopy, hnext, hpair, hmode, hwrites, hflush, if_neg hdata, decide_true, Bool.not_false, Bool.and_self, only_true]
    rfl
  refine ⟨_, hexec, (copyNext_mem n).trans ?_⟩
  rw [storeUsage_mem, wrN_mem, setHeld_mem]

end

end

/-- Settles O29: a size and each request as the operations they name, the partner's writes as an effect under its condition. -/
theorem partitionsAndStore : Obligations.PartitionsAndStore := by
  refine fun src k v p off len mirrored trim data s => ⟨commanded_partSizeWrite, exec_partitionResizeComplete_of_open,
    exec_partitionResizeComplete_of_none, exec_pavstoreRequestComplete_of_none, exec_pavstoreRequestComplete_of_read,
    exec_pavstoreRequestComplete_of_write, exec_pavstoreRequestComplete_of_flush, exec_pavstoreMirrorCopy_of_complete, ?copy, ?partner⟩
  case copy => exact fun n hnext hpair hmode hwrites hflush hdata _ => does_pavstoreMirrorCopy n hnext hpair hmode hwrites hflush hdata
  case partner => exact guarded_only rfl (by simp [and_assoc])

end Sys2Proof.Machine
end
